-- ==== Sys2Proof/Word.lean ====
section
/-! DEFINITION. The word types of the H8: bytes, 32-, 64- and 128-bit words (R4, R5). -/

namespace Sys2Proof

/-- One byte of device memory. -/
abbrev Byte := BitVec 8
/-- A 32-bit control-space word. -/
abbrev W32 := BitVec 32
/-- A 64-bit word: a micro-instruction (R119), a lane of a vector register (R114). -/
abbrev W64 := BitVec 64
/-- A sequencer instruction (R65). -/
abbrev W128 := BitVec 128
/-- A combining record (R73) or a 32-byte table entry (R373). -/
abbrev W256 := BitVec 256
/-- A stream-table entry (R305), a descriptor (R85) or a task record (R500). -/
abbrev W512 := BitVec 512

end Sys2Proof
end

