-- ==== Sys2Proof/Syntax.lean ====
section
/-! DEFINITION. The commands and events of the H8: one constructor for each row of spec/opcode_table.json. A sequencer
row carries the core, the context and the 128-bit instruction word (R65); a micro-instruction row carries the core and its
64-bit word (R119); an event row carries what identifies the event and the data that reach the device with it. -/

namespace Sys2Proof

/-- A command to the device, or an event that it acts on. -/
inductive Instr where
  /-- NOP (R67). Sequencer instruction that does nothing. -/
  | nop (core : Nat) (ctx : Nat) (w : W128)
  /-- WAIT (R499). Stalls the context until a semaphore or store counter reaches VALUE; for a semaphore it then subtracts VALUE. -/
  | wait (core : Nat) (ctx : Nat) (w : W128)
  /-- WAIT_SATISFIED (R66). A held WAIT finds its target reached, the context resumes, and a semaphore is decremented. -/
  | waitSatisfied (core : Nat) (ctx : Nat)
  /-- SIGNAL (R499). Adds VALUE to a semaphore (an overflow aborts the task) or to a store counter. -/
  | signal (core : Nat) (ctx : Nat) (w : W128)
  /-- READY_COUNTER_ADVANCE (R108). Once all earlier instructions of the context have completed and their shared-store writes are visible, the held SIGNAL advances the ready counter. -/
  | readyCounterAdvance (core : Nat) (ctx : Nat)
  /-- PERIOD (R319). Holds the context until the next period boundary as ACLK takes it. -/
  | period (core : Nat) (ctx : Nat) (w : W128)
  /-- DMA_TRANSFER (R287). DMA KIND 0 runs a transfer descriptor, with or without credits. -/
  | dmaTransfer (core : Nat) (ctx : Nat) (w : W128)
  /-- PERSIST (R289). DMA KIND 1 starts a persistent stream in a slot; a PERSIST into an active slot aborts the task. -/
  | persist (core : Nat) (ctx : Nat) (w : W128)
  /-- REARM (R290). DMA KIND 2 writes the next base set of a persistent slot and sets PENDING, counting an overrun if one was already pending. -/
  | rearm (core : Nat) (ctx : Nat) (w : W128)
  /-- STOP (R289). DMA KIND 3 ends a persistent stream after its current pass; a STOP of an inactive slot is counted as discarded. -/
  | stop (core : Nat) (ctx : Nat) (w : W128)
  /-- VEC_MICROPROGRAM (R118). VEC MODE 0 runs a micro-program from ENTRY over ROWS_M1 + 1 input vectors. -/
  | vecMicroprogram (core : Nat) (ctx : Nat) (w : W128)
  /-- BOX_DECODING (R139). VEC MODE 1 decodes candidate boxes, suppresses overlaps and writes the kept boxes with a header. -/
  | boxDecoding (core : Nat) (ctx : Nat) (w : W128)
  /-- ENT_ENCODE (R161). ENT KIND 0 rANS-encodes a row segment on N lanes against the bank of the frame's epoch. -/
  | entEncode (core : Nat) (ctx : Nat) (w : W128)
  /-- ENT_DECODE (R146). ENT KIND 1 decodes a row segment and checks every lane's final state and length. -/
  | entDecode (core : Nat) (ctx : Nat) (w : W128)
  /-- TABLE_LOAD (R157). ENT KIND 2 matches an existing tag, is refused busy, or starts copying into the shadow bank. -/
  | tableLoad (core : Nat) (ctx : Nat) (w : W128)
  /-- TABLE_LOAD_END (R157). At the end of the copy the bank becomes valid, or it is emptied and the task aborted with table-invalid. -/
  | tableLoadEnd (core : Nat)
  /-- ENCODE_JOB_END (R163). A completed encode job with RC_REPORT hands its segment bit count to the row rate controller. -/
  | encodeJobEnd (core : Nat)
  /-- RATE_UPDATE (R187). The rate controller updates the context's rate slot from a report and adds 1 to rate semaphore 56 + c. -/
  | rateUpdate (core : Nat) (ctx : Nat)
  /-- MOT_SEARCH (R175). MOT KIND 0 runs motion search over block rows against the window cache. -/
  | motSearch (core : Nat) (ctx : Nat) (w : W128)
  /-- MOT_COMPENSATE (R181). MOT KIND 1 runs overlapped-block motion compensation to produce the prediction. -/
  | motCompensate (core : Nat) (ctx : Nat) (w : W128)
  /-- BLOCK_ROW_START (R177). A block row of a motion job starts once every row of its window is present in the ring. -/
  | blockRowStart (core : Nat)
  /-- LDW (R68). Loads weights into the shadow registers from the tile store or the weight chain, optionally forwarding them along the chain. -/
  | ldw (core : Nat) (ctx : Nat) (w : W128)
  /-- CHAIN_PART_ARRIVAL (R292). A weight-chain part arrives in a successor's chain buffer slot. -/
  | chainPartArrival (core : Nat)
  /-- MMA_START (R70). MMA in START mode streams activation rows and begins the chain into bank rows from +0. -/
  | mmaStart (core : Nat) (ctx : Nat) (w : W128)
  /-- MMA_CONT (R70). MMA in CONT mode continues the chain from the bank; a BANK_NEXTG mismatch aborts the task with chain-order. -/
  | mmaCont (core : Nat) (ctx : Nat) (w : W128)
  /-- MMA_EMIT (R70). MMA in EMIT mode sends group-sum or integer-partial records to the destination that CTAG names. -/
  | mmaEmit (core : Nat) (ctx : Nat) (w : W128)
  /-- MMA_HEAD (R70). MMA in HEAD mode chains from +0 and sends one chained-value record per position. -/
  | mmaHead (core : Nat) (ctx : Nat) (w : W128)
  /-- DRAIN (R71). Converts bank rows under the conversion word and writes them through the output descriptor. -/
  | drain (core : Nat) (ctx : Nat) (w : W128)
  /-- CSLOT (R74). Opens a combine slot in a home bank with a holding region. -/
  | cslot (core : Nat) (ctx : Nat) (w : W128)
  /-- COMBINE_RECORD (R75). The combining adder applies, holds or discards an arriving combining record. -/
  | combineRecord (core : Nat) (rec : W256)
  /-- END (R319). Waits for the task's queued work, then verifies, updates the entry, hands over slots, writes the completion record and releases the ingress slot. -/
  | endTask (core : Nat) (ctx : Nat) (w : W128)
  /-- MICRO_NOP (R120). Vector micro-instruction that does nothing. -/
  | microNop (core : Nat) (w : W64)
  /-- MICRO_END (R120). Ends the micro-program. -/
  | microEnd (core : Nat) (w : W64)
  /-- LOOP (R120). Repeats the next micro-instructions a counted number of times. -/
  | loop (core : Nat) (w : W64)
  /-- LD (R120). Loads the next input vector, decoded from FMT. -/
  | ld (core : Nat) (w : W64)
  /-- ST (R120). Writes a vector, converted to FMT, to the output. -/
  | st (core : Nat) (w : W64)
  /-- LDP (R120). Loads words from the parameter block. -/
  | ldp (core : Nat) (w : W64)
  /-- MOVI (R120). Broadcasts a sign-extended immediate to every lane. -/
  | movi (core : Nat) (w : W64)
  /-- MOV (R120). Copies a vector register. -/
  | mov (core : Nat) (w : W64)
  /-- SEL (R120). Selects lane-wise between two registers by predicate. -/
  | sel (core : Nat) (w : W64)
  /-- IADD (R120). Saturating integer add. -/
  | iadd (core : Nat) (w : W64)
  /-- ISUB (R120). Saturating integer subtract. -/
  | isub (core : Nat) (w : W64)
  /-- IMUL (R120). Saturating integer multiply. -/
  | imul (core : Nat) (w : W64)
  /-- ISHR (R120). Rounding right shift under rshift_rne. -/
  | ishr (core : Nat) (w : W64)
  /-- ISHL (R120). Saturating left shift. -/
  | ishl (core : Nat) (w : W64)
  /-- IMAX (R120). Integer maximum. -/
  | imax (core : Nat) (w : W64)
  /-- IMIN (R120). Integer minimum. -/
  | imin (core : Nat) (w : W64)
  /-- ICLIP (R120). Saturates or wraps to the integer width of FMT. -/
  | iclip (core : Nat) (w : W64)
  /-- ICMP (R120). Integer compare into a predicate. -/
  | icmp (core : Nat) (w : W64)
  /-- IDIV (R127). Rounded integer division, with defined results for a zero divisor. -/
  | idiv (core : Nat) (w : W64)
  /-- TBL (R128). Interpolated table lookup. -/
  | tbl (core : Nat) (w : W64)
  /-- EXP2Q (R126). Fixed-point exp2. -/
  | exp2q (core : Nat) (w : W64)
  /-- LOG2Q (R126). Fixed-point log2. -/
  | log2q (core : Nat) (w : W64)
  /-- RSQRTQ (R126). Fixed-point inverse square root. -/
  | rsqrtq (core : Nat) (w : W64)
  /-- FADD (R130). FP32 add, rounded once. -/
  | fadd (core : Nat) (w : W64)
  /-- FSUB (R130). FP32 subtract, rounded once. -/
  | fsub (core : Nat) (w : W64)
  /-- FMUL (R130). FP32 multiply, rounded once. -/
  | fmul (core : Nat) (w : W64)
  /-- FMA (R130). Fused multiply-add with one rounding. -/
  | fma (core : Nat) (w : W64)
  /-- FMAX (R46). Floating-point maximum in the order of R46. -/
  | fmax (core : Nat) (w : W64)
  /-- FMIN (R46). Floating-point minimum in the order of R46. -/
  | fmin (core : Nat) (w : W64)
  /-- FCMP (R120). Floating-point compare into a predicate. -/
  | fcmp (core : Nat) (w : W64)
  /-- FCVT (R51). Rounds to FMT and holds the result in FP32. -/
  | fcvt (core : Nat) (w : W64)
  /-- FTOI (R51). Converts a float to i64. -/
  | ftoi (core : Nat) (w : W64)
  /-- ITOF (R122). Converts an integer to FP32. -/
  | itof (core : Nat) (w : W64)
  /-- FDIV (R130). FP32 division. -/
  | fdiv (core : Nat) (w : W64)
  /-- EXP2F (R130). Correctly rounded floating-point exp2. -/
  | exp2f (core : Nat) (w : W64)
  /-- LOG2F (R130). Correctly rounded floating-point log2. -/
  | log2f (core : Nat) (w : W64)
  /-- RCPF (R130). Floating-point reciprocal. -/
  | rcpf (core : Nat) (w : W64)
  /-- RSQRTF (R130). Correctly rounded floating-point inverse square root. -/
  | rsqrtf (core : Nat) (w : W64)
  /-- RSUM (R121). Adds the active lanes into an accumulator. -/
  | rsum (core : Nat) (w : W64)
  /-- RMAX (R121). Maximum reduction into an accumulator. -/
  | rmax (core : Nat) (w : W64)
  /-- RMIN (R121). Minimum reduction into an accumulator. -/
  | rmin (core : Nat) (w : W64)
  /-- ACLR (R120). Clears an accumulator to the selected empty form. -/
  | aclr (core : Nat) (w : W64)
  /-- AGET (R120). Broadcasts an accumulator value to every lane. -/
  | aget (core : Nat) (w : W64)
  /-- AGETD (R120). Divides an accumulator by lane 0 of a register. -/
  | agetd (core : Nat) (w : W64)
  /-- RDOT (R121). Dot-product reduction into an accumulator. -/
  | rdot (core : Nat) (w : W64)
  /-- CREDIT_SLOT_DONE (R288). A credited ring slot finishes, and the engine signals DSEM or CSEM by 1. -/
  | creditSlotDone (core : Nat) (who : Nat)
  /-- TRANSFER_COMPLETE (R287). All writes of a TRANSFER are acknowledged; the DMA queue is released and DSEM gains 1. -/
  | transferComplete (core : Nat) (ctx : Nat)
  /-- PASS_BOUNDARY (R289). A persistent pass ends: DSEM gains 1, a pending base set is latched, and the next pass starts or the stream stops. -/
  | passBoundary (core : Nat) (slot : Nat)
  /-- DMA_REARM (R290). A write of DMA_REARM re-arms a persistent slot from a descriptor's bases. -/
  | dmaRearm (core : Nat) (value : W32)
  /-- TASK_START (R500). A ready task takes its egress and record slots, starts on a free context, and its task record and rate slot are filled. -/
  | taskStart (activity : Nat)
  /-- PERIODIC_START (R509). At a periodic row's OFFSET the entry starts on its context, or waits, or a still-waiting start is dropped. -/
  | periodicStart (core : Nat) (row : Nat)
  /-- TASK_OVERRUN (R321). A task that has not reached END within its bound plus 2 periods is aborted with task-overrun. -/
  | taskOverrun (core : Nat) (ctx : Nat)
  /-- PERIOD_BOUNDARY (R323). At the TCLK edge where the time base reaches a multiple of PERIOD_NS, the period number increments. -/
  | periodBoundary
  /-- BOUNDARY_TAKEN (R324). A resource domain takes the new period number through its synchroniser. -/
  | boundaryTaken (domain : Nat)
  /-- VALIDATE (R266). MGT_LD_CMD OP 1 validates the staged image without applying it. -/
  | validate
  /-- LOAD (R266). MGT_LD_CMD OP 2 starts a load: validation, then draining, then applying. -/
  | load (drainMs : Nat)
  /-- CANCEL (R268). MGT_LD_CMD OP 3 ends a load in VALIDATING or DRAINING with FAILED; it is ignored in APPLYING. -/
  | cancel
  /-- VALIDATION_END (R262). The loader's checks end, with FAILED and a code or with entry into DRAINING. -/
  | validationEnd
  /-- DRAIN_LIMIT (R266). DRAIN_MS after DRAINING begins, the tasks still running are aborted with load-drain. -/
  | drainLimit
  /-- DRAIN_END (R266). When no affected task remains, the load enters APPLYING. -/
  | drainEnd
  /-- APPLY_END (R266). The loader finishes writing the configuration and enters DONE. -/
  | applyEnd (memError : Bool)
  /-- ENTRY_READ (R330). STR_ECMD READ copies a stream-table entry into STR_EDATA. -/
  | entryRead (index : Nat)
  /-- ENTRY_WRITE (R306). STR_ECMD WRITE with INIT 0 changes the permitted fields of an entry. -/
  | entryWrite (index : Nat)
  /-- ENTRY_CREATE (R307). STR_ECMD WRITE with INIT 1 creates an entry after the validity checks, resetting the device fields. -/
  | entryCreate (index : Nat)
  /-- ENTRY_INVALIDATE (R306). STR_ECMD INVALIDATE clears VALID, aborts the entry's tasks and releases its ingress slots. -/
  | entryInvalidate (index : Nat)
  /-- DOORBELL (R315). A write of STR_DOORBELL advances PROD of a submission ring or CONS of a completion or record ring, or is counted as bad. -/
  | doorbell (ring : Nat) (index : Nat)
  /-- RING_ENABLE (R310). Setting ENABLED in a ring descriptor checks its fields and pages, and binds the ring's events to the writing session. -/
  | ringEnable (ring : Nat) (session : Nat)
  /-- RUN (R313). Submission OP 0 admits one task on input held in HBM, or completes with input-size. -/
  | runTask (ring : Nat)
  /-- FORCE_KEY (R313). Submission OP 1 sets DSTATE.FORCE_KEY of an encode entry. -/
  | forceKey (ring : Nat)
  /-- WRITE_END_UNIT (R313). Submission OP 2 writes the END unit of the stream. -/
  | writeEndUnit (ring : Nat)
  /-- RETRY (R313). Submission OP 3 re-admits a held ingress slot. -/
  | retry (ring : Nat)
  /-- SKIP (R313). Submission OP 4 releases a held ingress slot without coding it. -/
  | skip (ring : Nat)
  /-- RING_STALL (R315). CONS has not advanced within DRAIN_US of the oldest record; an event and a ring-stalled HCP event are raised. -/
  | ringStall (ring : Nat)
  /-- MEDIA_DATAGRAM (R366). A media datagram is placed into the assembly of its item, or discarded; a completed item is admitted. -/
  | mediaDatagram (port : Nat) (frame : List Byte)
  /-- ASSEMBLY_TIMEOUT (R366). An item not complete within ASM_US is abandoned and its slot freed. -/
  | assemblyTimeout (port : Nat) (ring : Nat)
  /-- EGRESS_ITEM (R367). A port sends a handed-over egress item as datagrams in ascending OFFSET order. -/
  | egressItem (ring : Nat)
  /-- EGRESS_FRAME (R369). A queued frame is selected for transmission when its gate allows, or is held or discarded as oversize. -/
  | egressFrame (port : Nat) (queue : Nat)
  /-- GCL_CHANGE (R370). A write of ETH_GCLCTL.CHANGE requests a gate-list config change. -/
  | gclChange (port : Nat)
  /-- GCL_CONFIG_APPLY (R369). The admin gate list becomes the oper list at its cycle start. -/
  | gclConfigApply (port : Nat)
  /-- GATE_INTERVAL_END (R369). A gate-control-list interval expires and the next entry's gate states apply. -/
  | gateIntervalEnd (port : Nat)
  /-- STREAM_GATE_INTERVAL_END (R373). A Qci stream-gate list interval expires and the next entry applies. -/
  | streamGateIntervalEnd (port : Nat) (gate : Nat)
  /-- RECOVERY_RESET (R372). An 802.1CB sequence-recovery function resets after RESET_MS. -/
  | recoveryReset (port : Nat) (index : Nat)
  /-- ETH_TABLE_READ (R373). ETH_TCMD READ fills ETH_TDATA from a filtering or replication table entry. -/
  | ethTableRead (port : Nat) (table : Nat) (index : Nat)
  /-- ETH_TABLE_WRITE (R373). ETH_TCMD WRITE replaces a table entry, keeping its RO fields. -/
  | ethTableWrite (port : Nat) (table : Nat) (index : Nat)
  /-- ARP_REQUEST (R362). The device answers ARP for its own addresses. -/
  | arpRequest (port : Nat) (frame : List Byte)
  /-- NEIGHBOR_SOLICITATION (R362). The device answers neighbour solicitation for its own addresses. -/
  | neighborSolicitation (port : Nat) (frame : List Byte)
  /-- ICMP_ECHO_REQUEST (R361). A host port answers an ICMP or ICMPv6 echo request. -/
  | icmpEchoRequest (port : Nat) (frame : List Byte)
  /-- SYNC (R375). A gPTP Sync adjusts the time base by slew or by step. -/
  | sync (port : Nat) (origin : Nat) (offset : Int)
  /-- PDELAY_REQUEST (R374). A peer-delay message is answered and timestamped. -/
  | pdelayRequest (port : Nat) (frame : List Byte)
  /-- SYNC_RECEIPT_TIMEOUT (R375). With no Sync within syncReceiptTimeout, the time base enters HOLDOVER. -/
  | syncReceiptTimeout
  /-- HELLO (R378). HCP HELLO opens a session with negotiated version and parameters, or is refused. -/
  | hello (port : Nat) (frame : List Byte)
  /-- CLOSE (R377). HCP CLOSE ends a session. -/
  | close (port : Nat) (frame : List Byte)
  /-- ACK (R379). HCP ACK acknowledges messages received in order. -/
  | ack (port : Nat) (frame : List Byte)
  /-- READ (R511). HCP READ reads consecutive control-space words. -/
  | read (port : Nat) (frame : List Byte)
  /-- WRITE (R377). HCP WRITE writes consecutive control-space words. -/
  | write (port : Nat) (frame : List Byte)
  /-- SUBMIT (R313). HCP SUBMIT appends submission records to a ring whole, or is refused with ring-full. -/
  | submit (port : Nat) (frame : List Byte)
  /-- CONS (R315). HCP CONS advances the consumer index of a ring. -/
  | cons (port : Nat) (frame : List Byte)
  /-- XFER_IMAGE (R381). HCP XFER TARGET 0 stages image bytes at offset 0 or at MGT_LD_STAGED. -/
  | xferImage (port : Nat) (frame : List Byte)
  /-- XFER_FIRMWARE (R405). HCP XFER TARGET 1 stages firmware bytes in ascending offsets. -/
  | xferFirmware (port : Nat) (frame : List Byte)
  /-- CHALLENGE (R419). ATTEST CHALLENGE returns a fresh 32-byte challenge bound to the session. -/
  | challenge (port : Nat) (frame : List Byte)
  /-- AUTH (R418). ATTEST AUTH checks a signed challenge and authenticates the session. -/
  | auth (port : Nat) (frame : List Byte)
  /-- REPORT (R421). ATTEST REPORT builds a signed attestation report for the nonce. -/
  | report (port : Nat) (frame : List Byte)
  /-- GET (R420). ATTEST GET returns a part of the report, a public key or the certificate. -/
  | getPart (port : Nat) (frame : List Byte)
  /-- UNLOCK (R427). DEBUG UNLOCK grants debug scopes after a signed challenge, under the debug policy. -/
  | unlock (port : Nat) (frame : List Byte)
  /-- LOCK (R427). DEBUG LOCK ends a debug unlock. -/
  | lockDebug (port : Nat) (frame : List Byte)
  /-- DEBUG_ACCESS (R427). A DEBUG message halts, steps or reads processor or memory state within the unlocked scopes. -/
  | debugAccess (port : Nat) (frame : List Byte)
  /-- HCP_RETRANSMIT (R379). An HCP message unacknowledged after RTO_MS is resent, or the session closes after RETX_MAX. -/
  | hcpRetransmit (session : Nat)
  /-- HCP_ACK_TIMER (R379). A receiver with nothing to send acknowledges within RTO_MS / 4. -/
  | hcpAckTimer (session : Nat)
  /-- SESSION_IDLE (R378). A session that receives nothing for 60 s is closed. -/
  | sessionIdle (session : Nat)
  /-- FABRIC_FRAME_RX (R333). A received Filzel frame is checked, acknowledged and placed, forwarded or acted on. -/
  | fabricFrameRx (link : Nat) (frame : List Byte)
  /-- SEND_SLOT (R344). At a SEND slot the next frame of a channel is sent, or an IDLE frame is sent and counted. -/
  | sendSlot (link : Nat)
  /-- FORWARD_SLOT (R346). At a FORWARD slot a buffered frame leaves on the out link. -/
  | forwardSlot (link : Nat)
  /-- BEACON_SLOT (R349). At a BEACON slot a beacon frame is sent. -/
  | beaconSlot (link : Nat)
  /-- FRAME_RTO (R335). An unacknowledged DATA frame is retransmitted, or after the ninth sending the link is declared failed. -/
  | frameRto (link : Nat)
  /-- LANE_CHECK_END (R340). After the 1 ms PRBS lane check, training proceeds to TRAIN frames. -/
  | laneCheckEnd (link : Nat) (errors : List Nat)
  /-- TRAIN_RETRY (R338). A link left down by training tries again after 1 ms. -/
  | trainRetry (link : Nat)
  /-- LANE_LOCK_LOSS (R352). A link loses lane lock and begins retraining. -/
  | laneLockLoss (link : Nat)
  /-- LOCK_LOSS_TIMEOUT (R352). A link not UP within 100 µs of losing lock joins the failure set. -/
  | lockLossTimeout (link : Nat)
  /-- POST_LOAD_LINK_CHECK (R352). A used link not UP 10 ms after a load's DONE joins the failure set. -/
  | postLoadLinkCheck (link : Nat)
  /-- ROUTE_SWITCH (R353). At the target boundary every device selects the route set that covers the failure set. -/
  | routeSwitch
  /-- DECLARE (R352). FAB_LINKCMD.DECLARE declares a link failed. -/
  | declare (link : Nat)
  /-- PEEK (R337). FAB_PEEKCMD requests a mirror word from a peer over a link. -/
  | peek (link : Nat) (word : Nat)
  /-- EVENT_ARRIVAL (R393). The event controller takes an arrival: PEND set, CNT counted, INFO latched. -/
  | eventArrival (source : Nat) (info : W32)
  /-- CLAIM_SLOT_FILL (R394). An arbitration winner enters a claim slot and raises the processor's line. -/
  | claimSlotFill
  /-- FAST_MRET (R391). mret while INFAST restores pc, mode and MIE and switches back to bank 0. -/
  | fastMret (p : Nat)
  /-- WFI (R396). A processor halting in WFI bypasses moderation and raises a pending normal line. -/
  | wfi (p : Nat)
  /-- COAL_TIMER (R396). The moderation timer reaches 16 × TIME and the normal line rises. -/
  | coalTimer (p : Nat)
  /-- EVC_CLAIM (R395). A read of EVC_CLAIMp empties the normal slot, marks the source active and returns CNT. -/
  | evcClaim (p : Nat)
  /-- EVC_FCLAIM (R395). A read of EVC_FCLAIMp does the same for the fast slot. -/
  | evcFclaim (p : Nat)
  /-- EVC_COMPLETE (R395). A write of EVC_COMPLETEp clears ACTIVE of the source, or is counted as bad. -/
  | evcComplete (p : Nat) (value : W32)
  /-- EVC_PENDSET (R398). Sets the pending bits written as 1. -/
  | evcPendset (word : Nat) (value : W32)
  /-- EVC_PENDCLR (R398). Clears the pending bits written as 1. -/
  | evcPendclr (word : Nat) (value : W32)
  /-- EVC_MASKSET (R398). Masks the sources written as 1. -/
  | evcMaskset (word : Nat) (value : W32)
  /-- EVC_MASKCLR (R399). Unmasks the sources written as 1. -/
  | evcMaskclr (word : Nat) (value : W32)
  /-- EVC_CFG_WRITE (R400). A write of EVC_CFGs applies only while the source is masked, idle and settled. -/
  | evcCfgWrite (source : Nat) (value : W32)
  /-- EVC_SWSET (R392). Makes a software source arrive with EVC_SWINFO. -/
  | evcSwset (value : W32)
  /-- EVC_BUD_WRITE (R397). A write of LIMIT to EVC_BUDp is ignored if 0 and otherwise applies from the next boundary. -/
  | evcBudWrite (p : Nat) (limit : W32)
  /-- WATCHDOG_STAGE1 (R408). At TIMEOUT without a kick, the watchdog raises a fast event at the next processor. -/
  | watchdogStage1 (p : Nat)
  /-- WATCHDOG_STAGE2 (R408). At twice TIMEOUT without a kick, the processor alone is reset. -/
  | watchdogStage2 (p : Nat)
  /-- KICK (R408). MGT_WDTp.KICK restarts the watchdog count. -/
  | kick (p : Nat)
  /-- CONTROL_SPACE_TIMEOUT (R390). An unanswered control-space access raises an access fault after 4,096 MCLK. -/
  | controlSpaceTimeout (p : Nat)
  /-- MGT_RESTART (R409). MGT_RESTART.GO requests a management restart with cause 4. -/
  | mgtRestart
  /-- FW_VERIFY (R405). MGT_FW_CMD VERIFY checks the staged firmware image. -/
  | fwVerify
  /-- FW_VERIFY_END (R405). Verification ends in VERIFIED or FAILED. -/
  | fwVerifyEnd
  /-- FW_COMMIT (R405). MGT_FW_CMD COMMIT erases and programs the firmware area of flash. -/
  | fwCommit
  /-- FW_PROGRAM_END (R405). Programming and read-back end in DONE or FAILED. -/
  | fwProgramEnd (readBackOk : Bool)
  /-- FW_ACTIVATE (R405). MGT_FW_CMD ACTIVATE performs a management restart on the new firmware. -/
  | fwActivate
  /-- INSTALL (R422). DRK_CMD INSTALL decapsulates and unwraps a stream key into a free slot. -/
  | install
  /-- SEAL (R422). DRK_CMD SEAL returns a sealed blob of a key slot. -/
  | sealKey (slot : Nat)
  /-- UNSEAL (R422). DRK_CMD UNSEAL reinstalls a key from a sealed blob. -/
  | unsealKey
  /-- ERASE (R425). DRK_CMD ERASE erases a key slot unless a valid entry names it. -/
  | erase (slot : Nat)
  /-- OWNER_UPDATE (R417). DRK_CMD OWNER_UPDATE checks and installs an owner configuration record. -/
  | ownerUpdate
  /-- TAMPER_FIRE (R426). A tamper sensor fires and the darkroom zeroises. -/
  | tamperFire (sensor : Nat)
  /-- DRBG_RESEED (R414). The random source is reseeded after every 2^20 requests. -/
  | drbgReseed
  /-- SEED_BANK_CLOSE (R414). 100 µs after the release of RST_N, the seed bank stops answering. -/
  | seedBankClose
  /-- RETIRE (R446). REP_CMD RETIRE takes a location as a lasting verdict. -/
  | retire (loc : W32)
  /-- FAULT_EVENT (R437). The repair controller stamps and window-counts a fault event, possibly reaching a lasting verdict. -/
  | faultEvent (loc : W32) (uncorrectable : Bool)
  /-- REPAIR_COPY_END (R442). The copy of a row or channel ends and the switch is awaited. -/
  | repairCopyEnd (loc : W32)
  /-- REPAIR_SWITCH (R442). The mapping switches when the resource is idle or after DEFER_MS, with forced aborts, then the journal entry is marked applied. -/
  | repairSwitch (loc : W32)
  /-- PERIODIC_TEST (R436). Every PERIOD_S, the spares and unpartitioned cores are tested. -/
  | periodicTest (failed : List Nat)
  /-- ROTATION (R436). An idle core maps its spare array in place of the next active array, which is then tested. -/
  | rotation (core : Nat)
  /-- TARGETED_TEST_END (R439). A targeted test ends by retiring or replacing resources, or by clearing the counts. -/
  | targetedTestEnd (loc : W32) (failed : List Nat)
  /-- BIST_END (R434). The start-up self-test completes and BIST_DONE is set. -/
  | bistEnd (failed : List Nat)
  /-- REP_CLASS_WRITE (R452). A write of REP_CLASSc clears every count and run of the class. -/
  | repClassWrite (cls : Nat) (value : W32)
  /-- FLUSH_TIMER (R451). Every 600 s on the reference, the lifetime records are written to flash. -/
  | flushTimer
  /-- FLUSH (R451). LFC_CMD.FLUSH writes the lifetime records to flash. -/
  | flush
  /-- FLUSH_DONE (R451). A lifetime flash write completes, FLUSHING clears and source 11 arrives. -/
  | flushDone
  /-- RECORD_SAMPLE (R450). Once per second the temperature and voltage bins are counted. -/
  | recordSample (temp : Int) (volts : List Nat)
  /-- FIRE (R455). SHT_CMD FIRE requests a shutter firing. -/
  | fire
  /-- RELEASE (R463). SHT_CMD RELEASE frees a kept contact sheet. -/
  | release
  /-- UNFREEZE (R462). SHT_CMD UNFREEZE releases a freeze at the next boundary. -/
  | unfreeze
  /-- ARM_AT (R455). SHT_CMD ARM_AT arms a local shutter instant and relays it. -/
  | armAt
  /-- DISARM (R463). SHT_CMD DISARM clears a pending instant. -/
  | disarm
  /-- INSTANT_REACHED (R455). The time base reaches an armed instant and the shutter fires. -/
  | instantReached
  /-- SHUTTER_LATCH (R457). Each block latches its snapshot registers when its domain takes the shutter number. -/
  | shutterLatch (block : Nat)
  /-- FIRING_COMPLETE (R456). When every block has latched, source 10 arrives and BUSY clears. -/
  | firingComplete
  /-- STANDBY (R476). CLK_PWR STANDBY stops admission and begins the drain, or is refused with power-busy. -/
  | standby (drainMs : Nat)
  /-- STANDBY_DRAIN_END (R476). After DRAIN_MS, remaining tasks are aborted, the device is unconfigured, records are flushed and blocks are gated. -/
  | standbyDrainEnd
  /-- ACTIVE (R477). CLK_PWR ACTIVE in Standby restores the gated blocks and runs self-test. -/
  | active
  /-- ACTIVE_COMPLETE (R477). HBM leaves self-refresh, the links train and the device is Active and unconfigured. -/
  | activeComplete
  /-- POWER_ON (R473). Power is applied and the power-on reset holds the device in Reset. -/
  | powerOn
  /-- POWER_LOSS (R473). Loss of power moves the device to Off. -/
  | powerLoss
  /-- RST_N_ASSERT (R479). The reset filter reaches 500 and the device enters Reset. -/
  | rstNAssert (samples : Nat)
  /-- RST_N_RELEASE (R479). The filter returns to 0 with RST_N high and no internal hold, and the device leaves Reset. -/
  | rstNRelease (samples : Nat)
  /-- THERMAL_SAMPLE (R482). Every 100 µs the sensors are sampled and the thermal limit and shutdown thresholds act. -/
  | thermalSample (temps : List Int)
  /-- THROTTLE_INTERVAL (R483). Each 1 ms interval raises or lowers the throttle level from temperature and power. -/
  | throttleInterval (watts : Nat)
  /-- PLL_LOCK_LOSS (R487). Loss of root-PLL lock puts the device into Reset with cause 3. -/
  | pllLockLoss
  /-- LOW_HALF_READ (R494). A 4-byte read of the low half of a 64-bit register latches the high half for the requester. -/
  | lowHalfRead (requester : Nat) (addr : Nat)
  /-- REGISTER_WRITE (R6). A write to a register with no row of its own acts by its access code. -/
  | registerWrite (addr : Nat) (value : W64) (size : Nat)
  /-- FIBRE_LIGHT_GAINED (R338). A dark Filzel link whose fibre starts to carry light begins training. -/
  | fibreLightGained (link : Nat)
  /-- PORT_LINK_STATE_CHANGE (R392). The PMD of a media or host Ethernet port loses or regains link, raising source 256 + 4p and counting LFC_PRETRAINp on a link-down. -/
  | portLinkStateChange (port : Nat) (up : Bool)
  /-- UNSCHEDULED_FRAME (R335). A Filzel frame slot that no run assigns carries the oldest pending retransmission or late forward, or else an IDLE frame. -/
  | unscheduledFrame (link : Nat)
  /-- STREAM_GATE_CONFIG_APPLY (R373). A Qci stream gate's list takes effect at the first cycle start at or after its BASE_TB. -/
  | streamGateConfigApply (port : Nat) (gate : Nat)
  /-- FAST_CONTEXT_EXCEPTION (R391). A synchronous exception taken while INFAST = 1 resets that processor as watchdog stage 2 does. -/
  | fastContextException (p : Nat)
  /-- CONTROL_MEMORY_UE (R407). An uncorrectable control-memory error or a dirty data-cache parity error causes a management restart with cause 2. -/
  | controlMemoryUe
  /-- REGISTER_FILE_PARITY (R407). A parity error in a processor register file resets that processor with RSTCAUSE 2. -/
  | registerFileParity (p : Nat)
  /-- OTHER_FRAME (R361). An arriving Ethernet frame of a kind that the port does not accept is discarded and counted in ETH_RXDROP. -/
  | otherFrame (port : Nat) (frame : List Byte)
  deriving DecidableEq, Repr

end Sys2Proof
end

