-- ==== Sys2Proof/WellFormed.lean ====
section
/-! DEFINITION. Well-formed commands: the numbers that name a core, a context, a port and so on lie in the ranges that the
device has (R12 to R14, R65, R309, R310, R361, R378, R391, R392). The sender of a command names existing parts only. -/

namespace Sys2Proof

/-- In range: a core is 0 to 7. -/
def WF.coreOk (n : Nat) : Bool := decide (n < 8)
/-- In range: a context is 0 to 7. -/
def WF.ctxOk (n : Nat) : Bool := decide (n < 8)
/-- In range: a port is 0 to 9. -/
def WF.portOk (n : Nat) : Bool := decide (n < 10)
/-- In range: a ring is 0 to 16,383. -/
def WF.ringOk (n : Nat) : Bool := decide (n < 16384)
/-- In range: an activity is 0 to 31. -/
def WF.activityOk (n : Nat) : Bool := decide (n < 32)
/-- In range: a link is 0 to 15. -/
def WF.linkOk (n : Nat) : Bool := decide (n < 16)
/-- In range: a queue is 0 to 7. -/
def WF.queueOk (n : Nat) : Bool := decide (n < 8)
/-- In range: a source is 0 to 1,023. -/
def WF.sourceOk (n : Nat) : Bool := decide (n < 1024)
/-- In range: a processor is 0 to 3. -/
def WF.procOk (n : Nat) : Bool := decide (n < 4)
/-- In range: a session is 1 to 8. -/
def WF.sessionOk (n : Nat) : Bool := decide (1 ≤ n ∧ n ≤ 8)
/-- In range: a stream gate is 0 to 15. -/
def WF.gateOk (n : Nat) : Bool := decide (n < 16)
/-- In range: a port table is 0 to 5. -/
def WF.tableOk (n : Nat) : Bool := decide (n < 6)
/-- In range: a clock domain is 0 to 3. -/
def WF.domainOk (n : Nat) : Bool := decide (n < 4)
/-- In range: the sender of a register write is a session 1 to 8, or 0 for a control processor. -/
def WF.senderOk (n : Nat) : Bool := decide (n ≤ 8)

/-- Is the command well formed? -/
def Instr.wf : Instr → Bool
  | .nop core ctx _ => WF.coreOk core && WF.ctxOk ctx
  | .wait core ctx _ => WF.coreOk core && WF.ctxOk ctx
  | .waitSatisfied core ctx => WF.coreOk core && WF.ctxOk ctx
  | .signal core ctx _ => WF.coreOk core && WF.ctxOk ctx
  | .readyCounterAdvance core ctx => WF.coreOk core && WF.ctxOk ctx
  | .period core ctx _ => WF.coreOk core && WF.ctxOk ctx
  | .dmaTransfer core ctx _ => WF.coreOk core && WF.ctxOk ctx
  | .persist core ctx _ => WF.coreOk core && WF.ctxOk ctx
  | .rearm core ctx _ => WF.coreOk core && WF.ctxOk ctx
  | .stop core ctx _ => WF.coreOk core && WF.ctxOk ctx
  | .vecMicroprogram core ctx _ => WF.coreOk core && WF.ctxOk ctx
  | .boxDecoding core ctx _ => WF.coreOk core && WF.ctxOk ctx
  | .entEncode core ctx _ => WF.coreOk core && WF.ctxOk ctx
  | .entDecode core ctx _ => WF.coreOk core && WF.ctxOk ctx
  | .tableLoad core ctx _ => WF.coreOk core && WF.ctxOk ctx
  | .tableLoadEnd core => WF.coreOk core
  | .encodeJobEnd core => WF.coreOk core
  | .rateUpdate core ctx => WF.coreOk core && WF.ctxOk ctx
  | .motSearch core ctx _ => WF.coreOk core && WF.ctxOk ctx
  | .motCompensate core ctx _ => WF.coreOk core && WF.ctxOk ctx
  | .blockRowStart core => WF.coreOk core
  | .ldw core ctx _ => WF.coreOk core && WF.ctxOk ctx
  | .chainPartArrival core => WF.coreOk core
  | .mmaStart core ctx _ => WF.coreOk core && WF.ctxOk ctx
  | .mmaCont core ctx _ => WF.coreOk core && WF.ctxOk ctx
  | .mmaEmit core ctx _ => WF.coreOk core && WF.ctxOk ctx
  | .mmaHead core ctx _ => WF.coreOk core && WF.ctxOk ctx
  | .drain core ctx _ => WF.coreOk core && WF.ctxOk ctx
  | .cslot core ctx _ => WF.coreOk core && WF.ctxOk ctx
  | .combineRecord core _ => WF.coreOk core
  | .endTask core ctx _ => WF.coreOk core && WF.ctxOk ctx
  | .microNop core _ => WF.coreOk core
  | .microEnd core _ => WF.coreOk core
  | .loop core _ => WF.coreOk core
  | .ld core _ => WF.coreOk core
  | .st core _ => WF.coreOk core
  | .ldp core _ => WF.coreOk core
  | .movi core _ => WF.coreOk core
  | .mov core _ => WF.coreOk core
  | .sel core _ => WF.coreOk core
  | .iadd core _ => WF.coreOk core
  | .isub core _ => WF.coreOk core
  | .imul core _ => WF.coreOk core
  | .ishr core _ => WF.coreOk core
  | .ishl core _ => WF.coreOk core
  | .imax core _ => WF.coreOk core
  | .imin core _ => WF.coreOk core
  | .iclip core _ => WF.coreOk core
  | .icmp core _ => WF.coreOk core
  | .idiv core _ => WF.coreOk core
  | .tbl core _ => WF.coreOk core
  | .exp2q core _ => WF.coreOk core
  | .log2q core _ => WF.coreOk core
  | .rsqrtq core _ => WF.coreOk core
  | .fadd core _ => WF.coreOk core
  | .fsub core _ => WF.coreOk core
  | .fmul core _ => WF.coreOk core
  | .fma core _ => WF.coreOk core
  | .fmax core _ => WF.coreOk core
  | .fmin core _ => WF.coreOk core
  | .fcmp core _ => WF.coreOk core
  | .fcvt core _ => WF.coreOk core
  | .ftoi core _ => WF.coreOk core
  | .itof core _ => WF.coreOk core
  | .fdiv core _ => WF.coreOk core
  | .exp2f core _ => WF.coreOk core
  | .log2f core _ => WF.coreOk core
  | .rcpf core _ => WF.coreOk core
  | .rsqrtf core _ => WF.coreOk core
  | .rsum core _ => WF.coreOk core
  | .rmax core _ => WF.coreOk core
  | .rmin core _ => WF.coreOk core
  | .aclr core _ => WF.coreOk core
  | .aget core _ => WF.coreOk core
  | .agetd core _ => WF.coreOk core
  | .rdot core _ => WF.coreOk core
  | .creditSlotDone core _ => WF.coreOk core
  | .transferComplete core ctx => WF.coreOk core && WF.ctxOk ctx
  | .passBoundary core _ => WF.coreOk core
  | .dmaRearm core _ => WF.coreOk core
  | .taskStart activity => WF.activityOk activity
  | .periodicStart core _ => WF.coreOk core
  | .taskOverrun core ctx => WF.coreOk core && WF.ctxOk ctx
  | .periodBoundary => true
  | .boundaryTaken domain => WF.domainOk domain
  | .validate => true
  | .load _ => true
  | .cancel => true
  | .validationEnd => true
  | .drainLimit => true
  | .drainEnd => true
  | .applyEnd _ => true
  | .entryRead _ => true
  | .entryWrite _ => true
  | .entryCreate _ => true
  | .entryInvalidate _ => true
  | .doorbell ring _ => WF.ringOk ring
  | .ringEnable ring session => WF.ringOk ring && WF.senderOk session
  | .runTask ring => WF.ringOk ring
  | .forceKey ring => WF.ringOk ring
  | .writeEndUnit ring => WF.ringOk ring
  | .retry ring => WF.ringOk ring
  | .skip ring => WF.ringOk ring
  | .ringStall ring => WF.ringOk ring
  | .mediaDatagram port _ => WF.portOk port
  | .assemblyTimeout port ring => WF.portOk port && WF.ringOk ring
  | .egressItem ring => WF.ringOk ring
  | .egressFrame port queue => WF.portOk port && WF.queueOk queue
  | .gclChange port => WF.portOk port
  | .gclConfigApply port => WF.portOk port
  | .gateIntervalEnd port => WF.portOk port
  | .streamGateIntervalEnd port gate => WF.portOk port && WF.gateOk gate
  | .recoveryReset port _ => WF.portOk port
  | .ethTableRead port table _ => WF.portOk port && WF.tableOk table
  | .ethTableWrite port table _ => WF.portOk port && WF.tableOk table
  | .arpRequest port _ => WF.portOk port
  | .neighborSolicitation port _ => WF.portOk port
  | .icmpEchoRequest port _ => WF.portOk port
  | .sync port _ _ => WF.portOk port
  | .pdelayRequest port _ => WF.portOk port
  | .syncReceiptTimeout => true
  | .hello port _ => WF.portOk port
  | .close port _ => WF.portOk port
  | .ack port _ => WF.portOk port
  | .read port _ => WF.portOk port
  | .write port _ => WF.portOk port
  | .submit port _ => WF.portOk port
  | .cons port _ => WF.portOk port
  | .xferImage port _ => WF.portOk port
  | .xferFirmware port _ => WF.portOk port
  | .challenge port _ => WF.portOk port
  | .auth port _ => WF.portOk port
  | .report port _ => WF.portOk port
  | .getPart port _ => WF.portOk port
  | .unlock port _ => WF.portOk port
  | .lockDebug port _ => WF.portOk port
  | .debugAccess port _ => WF.portOk port
  | .hcpRetransmit session => WF.sessionOk session
  | .hcpAckTimer session => WF.sessionOk session
  | .sessionIdle session => WF.sessionOk session
  | .fabricFrameRx link _ => WF.linkOk link
  | .sendSlot link => WF.linkOk link
  | .forwardSlot link => WF.linkOk link
  | .beaconSlot link => WF.linkOk link
  | .frameRto link => WF.linkOk link
  | .laneCheckEnd link _ => WF.linkOk link
  | .trainRetry link => WF.linkOk link
  | .laneLockLoss link => WF.linkOk link
  | .lockLossTimeout link => WF.linkOk link
  | .postLoadLinkCheck link => WF.linkOk link
  | .routeSwitch => true
  | .declare link => WF.linkOk link
  | .peek link _ => WF.linkOk link
  | .eventArrival source _ => WF.sourceOk source
  | .claimSlotFill => true
  | .fastMret p => WF.procOk p
  | .wfi p => WF.procOk p
  | .coalTimer p => WF.procOk p
  | .evcClaim p => WF.procOk p
  | .evcFclaim p => WF.procOk p
  | .evcComplete p _ => WF.procOk p
  | .evcPendset _ _ => true
  | .evcPendclr _ _ => true
  | .evcMaskset _ _ => true
  | .evcMaskclr _ _ => true
  | .evcCfgWrite source _ => WF.sourceOk source
  | .evcSwset _ => true
  | .evcBudWrite p _ => WF.procOk p
  | .watchdogStage1 p => WF.procOk p
  | .watchdogStage2 p => WF.procOk p
  | .kick p => WF.procOk p
  | .controlSpaceTimeout p => WF.procOk p
  | .mgtRestart => true
  | .fwVerify => true
  | .fwVerifyEnd => true
  | .fwCommit => true
  | .fwProgramEnd _ => true
  | .fwActivate => true
  | .install => true
  | .sealKey _ => true
  | .unsealKey => true
  | .erase _ => true
  | .ownerUpdate => true
  | .tamperFire _ => true
  | .drbgReseed => true
  | .seedBankClose => true
  | .retire _ => true
  | .faultEvent _ _ => true
  | .repairCopyEnd _ => true
  | .repairSwitch _ => true
  | .periodicTest _ => true
  | .rotation core => WF.coreOk core
  | .targetedTestEnd _ _ => true
  | .bistEnd _ => true
  | .repClassWrite _ _ => true
  | .flushTimer => true
  | .flush => true
  | .flushDone => true
  | .recordSample _ _ => true
  | .fire => true
  | .release => true
  | .unfreeze => true
  | .armAt => true
  | .disarm => true
  | .instantReached => true
  | .shutterLatch _ => true
  | .firingComplete => true
  | .standby _ => true
  | .standbyDrainEnd => true
  | .active => true
  | .activeComplete => true
  | .powerOn => true
  | .powerLoss => true
  | .rstNAssert _ => true
  | .rstNRelease _ => true
  | .thermalSample _ => true
  | .throttleInterval _ => true
  | .pllLockLoss => true
  | .lowHalfRead _ _ => true
  | .registerWrite _ _ _ => true
  | .fibreLightGained link => WF.linkOk link
  | .portLinkStateChange port _ => WF.portOk port
  | .unscheduledFrame link => WF.linkOk link
  | .streamGateConfigApply port gate => WF.portOk port && WF.gateOk gate
  | .fastContextException p => WF.procOk p
  | .controlMemoryUe => true
  | .registerFileParity p => WF.procOk p
  | .otherFrame port _ => WF.portOk port

end Sys2Proof
end

