-- ==== Sys2Proof/Decode.lean ====
section
/-! DEFINITION. Words of the table. The rows of spec/opcode_table.json give no bits: no word spells a command, so the
answer is `none` for every word. (A sequencer instruction and a micro-instruction carry their own word as an operand, and
their meanings read its fields.) -/

namespace Sys2Proof

/-- The command that a word of `nbits` bits spells by the table: none, since no row of the table gives bits. -/
def decodeTableWord (_nbits _w : Nat) : Option Instr := none

end Sys2Proof
end

