-- ==== Sys2Proof/Machine/Bits.lean ====
section
/-! DEFINITION. Bit fields, byte order and small list helpers used by every meaning (R4, R5, R9). -/

namespace Sys2Proof.Machine

/-- Bits `[lo + n - 1 : lo]` of a natural number (R4). -/
def bits (w lo n : Nat) : Nat := (w >>> lo) % 2 ^ n

/-- Bit `i` of a natural number. -/
def bit (w i : Nat) : Bool := w.testBit i

/-- `w` with bits `[lo + n - 1 : lo]` replaced by the low `n` bits of `v`. -/
def setBits (w lo n v : Nat) : Nat := w - (bits w lo n) * 2 ^ lo + (v % 2 ^ n) * 2 ^ lo

/-- `w` with bit `i` set to `b`. -/
def setBit (w i : Nat) (b : Bool) : Nat := setBits w i 1 b.toNat

/-- The number as a two's-complement integer of width `n` (R9). -/
def toSigned (n w : Nat) : Int := if w % 2 ^ n < 2 ^ (n - 1) then (w % 2 ^ n : Nat) else ((w % 2 ^ n : Nat) : Int) - (2 ^ n : Nat)

/-- The low `n` bits of an integer, as a natural number (R9: a narrower type keeps the low bits). -/
def ofSigned (n : Nat) (x : Int) : Nat := (x % ((2 ^ n : Nat) : Int)).toNat

/-- Number of significant bits; `bitlen 0 = 0`. -/
def bitlen (n : Nat) : Nat := if n = 0 then 0 else Nat.log2 n + 1

/-- `ceil (a / b)`. -/
def ceilDiv (a b : Nat) : Nat := (a + b - 1) / b

/-- A number from bytes, least significant first (R5). -/
def leNat : List Byte → Nat
  | [] => 0
  | b :: bs => b.toNat + 256 * leNat bs

/-- A number from bytes, most significant first (R5). -/
def beNat (bs : List Byte) : Nat := bs.foldl (fun acc b => acc * 256 + b.toNat) 0

/-- `n` bytes of a number, least significant first. -/
def leBytes : Nat → Nat → List Byte
  | 0, _ => []
  | n + 1, w => BitVec.ofNat 8 w :: leBytes n (w / 256)

/-- `n` bytes of a number, most significant first. -/
def beBytes (n w : Nat) : List Byte := (leBytes n w).reverse

/-- Bytes `[lo, lo + n)` of a list; missing bytes read as zero. -/
def slice (bs : List Byte) (lo n : Nat) : List Byte := ((bs.drop lo) ++ List.replicate n 0#8).take n

/-- Little-endian field of `n` bytes at byte `lo`. -/
def leAt (bs : List Byte) (lo n : Nat) : Nat := leNat ((bs.drop lo).take n)

/-- Big-endian field of `n` bytes at byte `lo`. -/
def beAt (bs : List Byte) (lo n : Nat) : Nat := beNat ((bs.drop lo).take n)

/-- The first `n` naturals counted up from `a`. -/
def range' (a : Nat) : Nat → List Nat
  | 0 => []
  | n + 1 => a :: range' (a + 1) n

/-- Applies `f` for `i = 0 … n - 1` in ascending order. -/
def iterate {σ : Type} (n : Nat) (f : Nat → σ → σ) (s : σ) : σ := (List.range n).foldl (fun acc i => f i acc) s

/-- Element `i` of a list, or `d`. -/
def nth {α : Type} (d : α) (xs : List α) (i : Nat) : α := xs.getD i d

/-- Replaces element `i` of a list by `f` of it. -/
def updNth {α : Type} (xs : List α) (i : Nat) (f : α → α) : List α := xs.modify i f

/-- Little-endian bytes of an ASCII string. -/
def ascii (cs : String) : List Byte := cs.toList.map (fun c => BitVec.ofNat 8 c.toNat)

/-- True when every byte is zero. -/
def allZero (bs : List Byte) : Bool := bs.all (· = 0#8)

end Sys2Proof.Machine
end

