-- ==== Sys2Proof/Machine/Crc.lean ====
section
/-! DEFINITION. CRC-32C (R216). -/

namespace Sys2Proof.Machine

/-- One bit of the reflected register. -/
def crcBit (x : BitVec 32) : BitVec 32 := if x.getLsbD 0 then (x >>> 1) ^^^ 0x82F63B78#32 else x >>> 1

/-- One byte, least significant bit first. -/
def crcByte (x : BitVec 32) (b : Byte) : BitVec 32 :=
  let y := x ^^^ b.setWidth 32
  crcBit (crcBit (crcBit (crcBit (crcBit (crcBit (crcBit (crcBit y)))))))

/-- CRC-32C of bytes (R216). -/
def crc32c (bs : List Byte) : BitVec 32 := (bs.foldl crcByte 0xFFFFFFFF#32) ^^^ 0xFFFFFFFF#32

end Sys2Proof.Machine
end

