-- ==== Sys2Proof/Machine/Compress.lean ====
section
/-! DEFINITION. The lossless block compressor (R298 to R301). -/

namespace Sys2Proof.Machine

/-- Copies `n` bytes from distance `d` behind the end of the output, one at a time (the output is kept reversed). -/
def copyBack (out : List Byte) (d : Nat) : Nat → List Byte
  | 0 => out
  | n + 1 => copyBack (out.getD (d - 1) 0 :: out) d n

/-- Decodes tokens until `ulen` bytes stand in the output (kept reversed); none when the payload is malformed (R298). -/
def unpackTokens (ulen : Nat) : Nat → List Byte → List Byte → Option (List Byte)
  | 0, _, _ => none
  | fuel + 1, inp, out =>
    if out.length ≥ ulen then (if inp = [] then some out.reverse else none)
    else match inp with
      | [] => none
      | t :: rest =>
        if t.toNat < 0x80 then
          let n := t.toNat + 1
          if rest.length < n || out.length + n > ulen then none
          else unpackTokens ulen fuel (rest.drop n) ((rest.take n).reverse ++ out)
        else match rest with
          | a :: b :: rest =>
            let w := a.toNat + 256 * b.toNat
            let d := w % 4096 + 1
            let n := t.toNat % 128 + 3
            if w / 4096 ≠ 0 || d > out.length || out.length + n > ulen then none
            else unpackTokens ulen fuel rest (copyBack out d n)
          | _ => none

/-- A payload that produces `ulen` bytes. -/
def unpack (inp : List Byte) (ulen : Nat) : Option (List Byte) := unpackTokens ulen (inp.length + 2) inp []

/-- Length of the common run of two lists, at most `cap`. -/
def runLength : Nat → List Byte → List Byte → Nat
  | 0, _, _ => 0
  | cap + 1, a :: as, b :: bs => if a = b then runLength cap as bs + 1 else 0
  | _, _, _ => 0

/-- The longest match at position `i` of a block: length and distance; among equal lengths the smallest distance. -/
def longestMatch (blk : List Byte) (i : Nat) : Nat × Nat :=
  ((List.range i).foldl (fun (best : Nat × Nat) k =>
    let d := k + 1
    let n := runLength 130 (blk.drop i) (blk.drop (i - d))
    if n > best.1 then (n, d) else best) (0, 0))

/-- Literal runs of up to 128 bytes. -/
def literals : Nat → List Byte → List Byte
  | 0, _ => []
  | fuel + 1, ls => if ls = [] then []
    else BitVec.ofNat 8 (min ls.length 128 - 1) :: (ls.take 128 ++ literals fuel (ls.drop 128))

/-- The greedy encoder from position `i`, with the literals that wait (R299). -/
def packTokens (blk : List Byte) : Nat → Nat → List Byte → List Byte
  | 0, _, lits => literals (lits.length + 1) lits
  | fuel + 1, i, lits =>
    if i ≥ blk.length then literals (lits.length + 1) lits
    else
      let (n, d) := longestMatch blk i
      if n ≥ 3 then
        literals (lits.length + 1) lits ++ [BitVec.ofNat 8 (0x80 + (n - 3))] ++ leBytes 2 (d - 1) ++ packTokens blk fuel (i + n) []
      else packTokens blk fuel (i + 1) (lits ++ [blk.getD i 0])

/-- Payload of a block. -/
def packPayload (blk : List Byte) : List Byte := packTokens blk (blk.length + 1) 0 []

/-- Packed form of a block of 1 to 4,096 bytes: MODE and its bytes (R300). -/
def packBlock (blk : List Byte) : Nat × List Byte :=
  let p := packPayload blk
  let (mode, pl) : Nat × List Byte := if allZero blk then (2, []) else if p.length ≥ blk.length then (0, blk) else (1, p)
  (mode, leBytes 1 mode ++ leBytes 1 0 ++ leBytes 2 pl.length ++ leBytes 2 (blk.length % 4096) ++ leBytes 4 (crc32c blk).toNat ++
    List.replicate 6 0#8 ++ pl)

/-- A packed block's header: payload length, or none when it is malformed (R301). -/
def packedLen (h : List Byte) : Option Nat :=
  let mode := leAt h 0 1
  let pl := leAt h 2 2
  let u0 := leAt h 4 2
  let u := if u0 = 0 then 4096 else u0
  if leAt h 1 1 ≠ 0 || leAt h 10 6 ≠ 0 || mode > 2 || u > 4096 || (mode = 0 && pl ≠ u) || (mode = 2 && pl ≠ 0) || (mode = 1 && pl = 0) then none
  else some pl

/-- The bytes of a packed block from its header and payload; none when it is malformed (R298, R301). -/
def unpackBlock (h pl : List Byte) : Option (List Byte) :=
  let mode := leAt h 0 1
  let u := if leAt h 4 2 = 0 then 4096 else leAt h 4 2
  let out := if mode = 0 then some pl else if mode = 2 then some (List.replicate u 0#8) else unpack pl u
  match out with
  | none => none
  | some bs => if leAt h 6 4 = (crc32c bs).toNat then some bs else none

/-- State byte of a 4 KiB block of a page with C = 1 (R300). -/
def blockState (blk : List Byte) : Nat :=
  if allZero blk then 0
  else let k := ceilDiv (packPayload blk).length 32; if k ≤ 127 then k else 128

/-- Decodes packed blocks one after another until the bytes end (COMP sections, R243). -/
def unpackAll : Nat → List Byte → Option (List Byte)
  | 0, _ => none
  | fuel + 1, bs =>
    if bs = [] then some []
    else match packedLen (bs.take 16) with
      | none => none
      | some n =>
        if bs.length < 16 + n then none
        else match unpackBlock (bs.take 16) ((bs.drop 16).take n) with
          | none => none
          | some b => (unpackAll fuel (bs.drop (16 + n))).map (b ++ ·)

end Sys2Proof.Machine
end

