-- ==== Sys2Proof/Config.lean ====
section
/-! DEFINITION. What an implementation fixes and the values that the spec leaves open: constants with no body, so that no
proof can lean on a value (log entry 2). -/

namespace Sys2Proof.Config

/-- FUSE_MAC: the MAC address block fused into the part (R362, R493). -/
opaque fuseMac : BitVec 48

/-- ML-DSA-65 verification (FIPS 204): public key, message, context string, signature. The spec names the algorithm and
does not restate it. -/
opaque mlDsaVerify : List Byte → List Byte → List Byte → List Byte → Bool

/-- ML-DSA-65 signature of the device's identity key: message, context string. -/
opaque mlDsaSign : List Byte → List Byte → List Byte

/-- AES-256-GCM (SP 800-38D) under a key, IV and additional data: ciphertext and 16-byte tag of a plaintext. -/
opaque gcmSeal : List Byte → List Byte → List Byte → List Byte → List Byte

/-- AES-256-GCM opening of ciphertext and tag: the plaintext, or none when the tag does not verify. -/
opaque gcmOpen : List Byte → List Byte → List Byte → List Byte → Option (List Byte)

/-- A value that the spec leaves open, drawn by index: the state's counter picks the index (log entry 3). -/
opaque freeNat : Nat → Nat

/-- Bytes that the spec leaves open (random challenges, unspecified contents), drawn by index (log entry 3). -/
opaque freeBytes : Nat → List Byte

/-- The floating-point path (0 FP8, 1 FP16, 2 FP32) of the operands that other devices sum under a combine tag: neither a record nor a
slot names it (log entry 14). -/
opaque tagPath : Nat → Nat

/-- Place of a record that the combining adder holds (R74), in units of 16 bytes from the base of its slot's holding region: core,
holding-region descriptor, position, first group. The spec gives every position and group a place and not their order (log
entry 15). -/
opaque holdPlace : Nat → Nat → Nat → Nat → Nat

/-- The number, on its L-die, of lane `i` of Filzel link `k`: transmit (0) or receive (1). The spec does not number an L-die's lanes
(log entry 31). -/
opaque laneNumber : Nat → Nat → Nat → Nat

/-- Where on its C-die an SRAM macro lies, modulo 5: the tile store of the die's core 0 to 3, or the die's half of the shared store. The
spec does not lay macros out (log entry 3). -/
opaque macroOwner : Nat → Nat

/-- The byte that a port or the scheduler takes from an uncorrectable sector of HBM: index, HBM byte key (log entry 117). -/
opaque lostByte : Nat → Nat → Byte

/-- Offset from BUF_VA at which the program of an entry keeps sample `i` of the print in buffer `b` (R168): core, entry index,
buffer, sample. The spec leaves the offsets to the programs (log entry 3). -/
opaque printOffset : Nat → Nat → Nat → Nat → Nat

/-- Offset from BUF_VA at which the program of an entry keeps byte `i` of the history of channel group `g` (R202): core, entry
index, group, byte. The spec leaves the offsets to the programs (log entry 3). -/
opaque histOffset : Nat → Nat → Nat → Nat → Nat

/-- The device virtual address at which the loader writes the contents of a model slot (R266): no field of the image names it (log entry
23). -/
opaque modelVa : Nat → Nat

/-- The print ready counter that covers row `r` of the reference, when another core writes that row: core, entry index, frame number, row,
to the counter's address and target. The image places the counters (R108, R177; log entry 108). -/
opaque printCounter : Nat → Nat → Nat → Nat → Option (Nat × Nat)

/-- CFA of a raw Bayer stream's STREAM_HEADER, by stream index: no field of the stream entry gives it (log entry 109). -/
opaque cfa : Nat → Nat

/-- The cores of a partition, as a mask, that run a stripe of each frame of a schedule entry beside the frame's first core: partition,
entry index. The image fixes the stripe split (R19), and no field of its layout is named for it (log entry 108). -/
opaque stripeCores : Nat → Nat → Nat

/-- The vendor public key that a fingerprint names, when it is one of the unrevoked fingerprints in ROM (R415). -/
opaque vendorKey : List Byte → Option (List Byte)

/-- The device's own public keys and certificate, derived from its identity seed (R414, R415): 1 the ML-DSA-65 public key, 2 the
ML-KEM-768 encapsulation key, 3 the device certificate. -/
opaque deviceObject : Nat → List Byte

/-- Decapsulation with the device's ML-KEM-768 key and unwrapping of the key under the shared secret (FIPS 203, RFC 3394):
ciphertext and wrapped key to the 32-byte key, or none when it fails (R422). -/
opaque kemUnwrap : List Byte → List Byte → Option (List Byte)

/-- The firmware image that flash holds as shipped. -/
opaque shippedFw : List Byte

/-- The sealing key (R414). -/
opaque sealKey : List Byte

/-- What a whole-image analysis of the loader finds under a status code, for the checks that the model does not compute (log
entry 22): none, or the index of the image part and the record. -/
opaque loaderFinding : Nat → List Byte → Option (Nat × Nat)

end Sys2Proof.Config
end

