-- ==== Sys2Proof/Machine/SMap.lean ====
section
/-! DEFINITION. Sparse maps: sorted lists of (key, value) pairs in one canonical form (keys strictly rising, no entry
equal to what an unlisted key reads as). Memory, the control space and every indexed piece of state is such a list. -/

namespace Sys2Proof.Machine

/-- A sparse map with natural keys. -/
abbrev SMap (β : Type) := List (Nat × β)

/-- The value at key `k`; an unlisted key reads as `d`. -/
def SMap.get {β : Type} (d : β) : SMap β → Nat → β
  | [], _ => d
  | (k', v) :: m, k => if k' = k then v else SMap.get d m k

/-- The map without key `k`. -/
def SMap.erase {β : Type} : SMap β → Nat → SMap β
  | [], _ => []
  | (k', v) :: m, k => if k' = k then SMap.erase m k else (k', v) :: SMap.erase m k

/-- Puts `(k, v)` before the first larger key. -/
def SMap.insert {β : Type} : SMap β → Nat → β → SMap β
  | [], k, v => [(k, v)]
  | (k', v') :: m, k, v => if k < k' then (k, v) :: (k', v') :: m else (k', v') :: SMap.insert m k v

/-- Writes `v` at key `k`, keeping the canonical form: the default value is not listed. -/
def SMap.set {β : Type} [DecidableEq β] (d : β) (m : SMap β) (k : Nat) (v : β) : SMap β :=
  if v = d then SMap.erase m k else SMap.insert (SMap.erase m k) k v

/-- Applies `f` to the value at key `k`. -/
def SMap.modify {β : Type} [DecidableEq β] (d : β) (m : SMap β) (k : Nat) (f : β → β) : SMap β :=
  SMap.set d m k (f (SMap.get d m k))

/-- The keys are strictly rising from `lo` and no value equals the default. -/
def SMap.wfFrom {β : Type} [DecidableEq β] (d : β) : Nat → SMap β → Bool
  | _, [] => true
  | lo, (k, v) :: m => decide (lo ≤ k) && decide (v ≠ d) && SMap.wfFrom d (k + 1) m

/-- The canonical form. -/
def SMap.wf {β : Type} [DecidableEq β] (d : β) (m : SMap β) : Bool := SMap.wfFrom d 0 m

/-- Drops every key that `p` picks. -/
def SMap.drop {β : Type} (p : Nat → Bool) : SMap β → SMap β
  | [] => []
  | (k, v) :: m => if p k then SMap.drop p m else (k, v) :: SMap.drop p m

/-- Writes consecutive values from key `k`. -/
def SMap.setAll {β : Type} [DecidableEq β] (d : β) (m : SMap β) (k : Nat) : List β → SMap β
  | [] => m
  | v :: vs => SMap.setAll d (SMap.set d m k v) (k + 1) vs

/-- Reads `n` consecutive values from key `k`. -/
def SMap.getAll {β : Type} (d : β) (m : SMap β) (k : Nat) : Nat → List β
  | 0 => []
  | n + 1 => SMap.get d m k :: SMap.getAll d m (k + 1) n

end Sys2Proof.Machine
end

