-- ==== Sys2Proof/Machine/Regs.lean ====
section
/-! DEFINITION. The control space (chapter 20): the map of R490 and R491, the register tables of every chapter with their
access masks and reset values, and the common registers of R492. -/

namespace Sys2Proof.Machine

/-- One row of a register table: offset in its block, distance between repetitions, their number, bytes of one register,
reset value, and the masks of the RW, W1C, W1S, RC and WO bits (R6). Every other bit is RO or reserved. -/
structure RegRow where
  off : Nat
  stride : Nat
  count : Nat
  size : Nat
  reset : Nat
  rw : Nat
  w1c : Nat
  w1s : Nat
  rc : Nat
  wo : Nat
  deriving DecidableEq, Repr

/-- The registers of block type 0x1 (`MGT_`). -/
def mgtRows : List RegRow := [
  ⟨0x400, 0, 1, 4, 0, 0, 0, 0, 0, 0xffff0007⟩ /- MGT_LD_CMD R272 -/,
  ⟨0x408, 0, 1, 4, 0, 0, 0, 0, 0, 0⟩ /- MGT_LD_STATUS R272 -/,
  ⟨0x410, 0, 1, 8, 0, 0, 0, 0, 0, 0⟩ /- MGT_LD_DETAIL R272 -/,
  ⟨0x418, 0, 1, 8, 0, 0, 0, 0, 0, 0⟩ /- MGT_LD_STAGED R272 -/,
  ⟨0x420, 0, 1, 8, 0, 0xffffffffffffffff, 0, 0, 0, 0⟩ /- MGT_LD_ACTTB R272 -/,
  ⟨0x428, 8, 6, 8, 0, 0, 0, 0, 0, 0⟩ /- MGT_LD_SDIGi R272 -/,
  ⟨0x458, 8, 6, 8, 0, 0, 0, 0, 0, 0⟩ /- MGT_IMG_DIGi R272 -/,
  ⟨0x488, 0, 1, 8, 0, 0, 0, 0, 0, 0⟩ /- MGT_IMG_STATE R272 -/,
  ⟨0x500, 8, 4, 8, 0, 0, 0, 0, 0, 0⟩ /- MGT_CPUp R411 -/,
  ⟨0x520, 8, 4, 8, 0, 0xffffff, 0, 0, 0, 0x80000000⟩ /- MGT_WDTp R411 -/,
  ⟨0x540, 0, 1, 8, 0, 0, 0, 0, 0, 0⟩ /- MGT_BOOT R411 -/,
  ⟨0x548, 0, 1, 4, 0, 0, 0, 0, 0, 0x7⟩ /- MGT_FW_CMD R411 -/,
  ⟨0x550, 0, 1, 4, 0, 0, 0, 0, 0, 0⟩ /- MGT_FW_STATUS R411 -/,
  ⟨0x558, 0, 1, 8, 0, 0, 0, 0, 0, 0⟩ /- MGT_FW_STAGED R411 -/,
  ⟨0x560, 8, 6, 8, 0, 0, 0, 0, 0, 0⟩ /- MGT_FW_SDIGi R411 -/,
  ⟨0x590, 8, 6, 8, 0, 0, 0, 0, 0, 0⟩ /- MGT_FW_DIGi R411 -/,
  ⟨0x5c0, 0, 1, 4, 0, 0, 0, 0, 0, 0x1⟩ /- MGT_RESTART R411 -/,
  ⟨0x5c8, 0, 1, 8, 0, 0, 0, 0, 0, 0⟩ /- MGT_CMEM_CE R411 -/,
  ⟨0x5d0, 0, 1, 8, 0, 0, 0, 0, 0, 0⟩ /- MGT_CACHE_PE R411 -/,
  ⟨0x5d8, 0, 1, 8, 0, 0, 0, 0, 0xffffffffffffffff, 0⟩ /- MGT_CSTMO R411 -/,
  ⟨0x40, 0, 1, 8, 0x301010100020201, 0, 0, 0, 0, 0⟩ /- MGT_IFMAX R493 -/,
  ⟨0x48, 0, 1, 8, 0x1000100020001, 0, 0, 0, 0, 0⟩ /- MGT_IFOFF R493 -/,
  ⟨0x50, 0, 1, 8, 0, 0, 0, 0, 0, 0⟩ /- MGT_FUSEMAC R493 -/]

/-- The registers of block type 0x2 (`DRK_`). -/
def drkRows : List RegRow := [
  ⟨0x40, 0, 1, 4, 0, 0, 0, 0, 0, 0⟩ /- DRK_STATUS R429 -/,
  ⟨0x48, 0, 1, 4, 0, 0, 0, 0, 0, 0xfff000f⟩ /- DRK_CMD R429 -/,
  ⟨0x50, 0, 1, 4, 0, 0, 0, 0, 0, 0⟩ /- DRK_RESULT R429 -/,
  ⟨0x58, 0, 1, 4, 0, 0, 0, 0, 0, 0⟩ /- DRK_SLOTS R429 -/,
  ⟨0x60, 0, 1, 4, 0, 0, 0, 0, 0, 0⟩ /- DRK_PREFIX R429 -/,
  ⟨0x1000, 4, 4096, 4, 0, 0xffffffff, 0, 0, 0, 0⟩ /- DRK_MBOX R429 -/,
  ⟨0x6000, 4, 488, 4, 0, 0, 0, 0, 0, 0⟩ /- DRK_IDPUB R429 -/,
  ⟨0x7000, 4, 296, 4, 0, 0, 0, 0, 0, 0⟩ /- DRK_KEMPUB R429 -/]

/-- The registers of block type 0x3 (`REP_`). -/
def repRows : List RegRow := [
  ⟨0x40, 0, 1, 4, 0, 0, 0, 0, 0, 0⟩ /- REP_STATUS R453 -/,
  ⟨0x48, 0, 1, 8, 0, 0, 0, 0, 0, 0xffffffff0000000f⟩ /- REP_CMD R453 -/,
  ⟨0x50, 0, 1, 4, 0xe1003e8, 0xffffffff, 0, 0, 0, 0⟩ /- REP_CFG R453 -/,
  ⟨0x60, 0, 1, 8, 0, 0, 0, 0, 0, 0⟩ /- REP_EVENTS R453 -/,
  ⟨0x68, 0, 1, 8, 0, 0, 0, 0, 0xffffffffffffffff, 0⟩ /- REP_EVICT R453 -/,
  ⟨0x70, 0, 1, 8, 0, 0, 0, 0, 0, 0⟩ /- REP_UNRESOLVED R453 -/,
  ⟨0x78, 0, 1, 8, 0, 0, 0, 0, 0, 0⟩ /- REP_UNREPAIR R453 -/,
  ⟨0x80, 8, 4, 8, 0, 0, 0, 0, 0, 0⟩ /- REP_JDIGi R453 -/,
  ⟨0xa0, 0, 1, 8, 0, 0, 0, 0, 0, 0⟩ /- REP_JENTRIES R453 -/,
  ⟨0x100, 8, 8, 8, 0x14d, 0, 0, 0, 0, 0⟩ /- REP_COREn R453 -/,
  ⟨0x200, 4, 6, 4, 0, 0xfffffff, 0, 0, 0, 0⟩ /- REP_CLASSc R453 -/,
  ⟨0x300, 0, 1, 4, 0, 0xffff, 0, 0, 0, 0⟩ /- REP_JSEL R453 -/,
  ⟨0x308, 8, 8, 8, 0, 0, 0, 0, 0, 0⟩ /- REP_JDATAi R453 -/]

/-- The registers of block type 0x4 (`SHT_`). -/
def shtRows : List RegRow := [
  ⟨0x40, 0, 1, 4, 0, 0x3ffff07, 0, 0, 0, 0⟩ /- SHT_CTRL R464 -/,
  ⟨0x48, 0, 1, 4, 0, 0, 0, 0, 0, 0x7⟩ /- SHT_CMD R464 -/,
  ⟨0x50, 0, 1, 8, 0, 0xffffffffffffffff, 0, 0, 0, 0⟩ /- SHT_ATTB R464 -/,
  ⟨0x58, 0, 1, 4, 0, 0, 0, 0, 0, 0⟩ /- SHT_STATUS R464 -/,
  ⟨0x60, 0, 1, 8, 0, 0, 0, 0, 0, 0⟩ /- SHT_TBFIRE R464 -/,
  ⟨0x68, 0, 1, 8, 0, 0, 0, 0, 0, 0⟩ /- SHT_PENDTB R464 -/,
  ⟨0x70, 0, 1, 8, 0, 0, 0, 0, 0xffffffffffffffff, 0⟩ /- SHT_MISSED R464 -/]

/-- The registers of block type 0x5 (`LFC_`). -/
def lfcRows : List RegRow := [
  ⟨0x40, 0, 1, 4, 0, 0, 0, 0, 0, 0⟩ /- LFC_STATUS R454 -/,
  ⟨0x48, 0, 1, 4, 0, 0, 0, 0, 0, 0x1⟩ /- LFC_CMD R454 -/,
  ⟨0x50, 0, 1, 8, 0, 0, 0, 0, 0, 0⟩ /- LFC_LASTTB R454 -/,
  ⟨0x58, 0, 1, 4, 0, 0, 0, 0, 0, 0⟩ /- LFC_SEQ R454 -/,
  ⟨0x100, 8, 3, 8, 0, 0, 0, 0, 0, 0⟩ /- LFC_SEC_RESET R454 -/,
  ⟨0x118, 8, 3, 8, 0, 0, 0, 0, 0, 0⟩ /- LFC_POWERON R454 -/,
  ⟨0x140, 8, 8, 8, 0, 0, 0, 0, 0, 0⟩ /- LFC_CEc R454 -/,
  ⟨0x180, 8, 8, 8, 0, 0, 0, 0, 0, 0⟩ /- LFC_CEPEAKc R454 -/,
  ⟨0x1c0, 8, 8, 8, 0, 0, 0, 0, 0, 0⟩ /- LFC_REPk R454 -/,
  ⟨0x200, 8, 16, 8, 0, 0, 0, 0, 0, 0⟩ /- LFC_RETRAINk R454 -/,
  ⟨0x280, 8, 10, 8, 0, 0, 0, 0, 0, 0⟩ /- LFC_PRETRAINp R454 -/,
  ⟨0x300, 8, 5, 8, 0, 0, 0, 0, 0, 0⟩ /- LFC_THRr R454 -/,
  ⟨0x340, 8, 3, 8, 0, 0, 0, 0, 0, 0⟩ /- LFC_STLs R454 -/,
  ⟨0x360, 8, 3, 8, 0, 0, 0, 0, 0, 0⟩ /- LFC_TAMPERs R454 -/,
  ⟨0x380, 8, 2, 8, 0, 0, 0, 0, 0, 0⟩ /- LFC_VERMIS R454 -/,
  ⟨0x800, 8, 27, 8, 0, 0, 0, 0, 0, 0⟩ /- LFC_TEMPb R454 -/,
  ⟨0x1000, 8, 352, 8, 0, 0, 0, 0, 0, 0⟩ /- LFC_VOLTr_b R454 -/]

/-- The registers of block type 0x6 (`CLK_`). -/
def clkRows : List RegRow := [
  ⟨0x40, 0, 1, 4, 0, 0, 0, 0, 0, 0⟩ /- CLK_STATUS R488 -/,
  ⟨0x48, 0, 1, 4, 0, 0, 0, 0, 0, 0xffff0003⟩ /- CLK_PWR R488 -/,
  ⟨0x50, 0, 1, 4, 0, 0, 0, 0, 0, 0⟩ /- CLK_RSTCAUSE R488 -/,
  ⟨0x58, 0, 1, 8, 0, 0, 0, 0, 0, 0⟩ /- CLK_RSTTIME R488 -/,
  ⟨0x90, 0, 1, 8, 0, 0xffffffffffffffff, 0, 0, 0, 0⟩ /- CLK_RSTBOOKED R488 -/,
  ⟨0x60, 4, 5, 4, 0, 0, 0, 0, 0, 0⟩ /- CLK_DIVd R488 -/,
  ⟨0x80, 0, 1, 8, 0, 0, 0, 0, 0, 0⟩ /- CLK_THERM R488 -/,
  ⟨0x88, 0, 1, 8, 0, 0, 0, 0, 0, 0⟩ /- CLK_PAVG R488 -/,
  ⟨0xa0, 0, 1, 8, 0, 0, 0, 0, 0, 0⟩ /- CLK_THRCYC R488 -/,
  ⟨0xa8, 0, 1, 8, 0, 0, 0, 0, 0, 0⟩ /- CLK_SERVOLIM R488 -/,
  ⟨0x100, 4, 32, 4, 0, 0, 0, 0, 0, 0⟩ /- CLK_TEMPs R488 -/]

/-- The registers of block type 0x7 (`BUD_`). -/
def budRows : List RegRow := [
  ⟨0x40, 0, 1, 4, 0, 0, 0, 0, 0, 0⟩ /- BUD_PERIOD R331 -/,
  ⟨0x48, 0, 1, 8, 0, 0, 0, 0, 0, 0⟩ /- BUD_NEXTTB R331 -/,
  ⟨0x50, 0, 1, 8, 0, 0, 0, 0, 0, 0⟩ /- BUD_STEPS R331 -/,
  ⟨0x1000, 8, 2048, 8, 0, 0, 0, 0, 0, 0⟩ /- BUD_REMa_r R331 -/,
  ⟨0x5000, 8, 2048, 8, 0, 0, 0, 0, 0, 0⟩ /- BUD_THRa_r R331 -/,
  ⟨0x9000, 8, 2048, 8, 0, 0, 0, 0, 0, 0⟩ /- BUD_LIMa_r R331 -/]

/-- The registers of block type 0x8 (`EVC_`). -/
def evcRows : List RegRow := [
  ⟨0x100, 4, 32, 4, 0, 0xffffffff, 0, 0, 0, 0⟩ /- EVC_PENDw R410 -/,
  ⟨0x180, 4, 32, 4, 0, 0, 0, 0xffffffff, 0, 0⟩ /- EVC_PENDSETw R410 -/,
  ⟨0x200, 4, 32, 4, 0, 0, 0xffffffff, 0, 0, 0⟩ /- EVC_PENDCLRw R410 -/,
  ⟨0x280, 4, 32, 4, 0xffffffff, 0xffffffff, 0, 0, 0, 0⟩ /- EVC_MASKw R410 -/,
  ⟨0x300, 4, 32, 4, 0xffffffff, 0, 0, 0xffffffff, 0, 0⟩ /- EVC_MASKSETw R410 -/,
  ⟨0x380, 4, 32, 4, 0xffffffff, 0, 0xffffffff, 0, 0, 0⟩ /- EVC_MASKCLRw R410 -/,
  ⟨0x400, 4, 32, 4, 0, 0, 0, 0, 0, 0⟩ /- EVC_ACTIVEw R410 -/,
  ⟨0x800, 64, 4, 4, 0, 0, 0, 0, 0x80ff03ff, 0⟩ /- EVC_CLAIMp R410 -/,
  ⟨0x804, 64, 4, 4, 0, 0, 0, 0, 0xffffffff, 0⟩ /- EVC_FCLAIMp R410 -/,
  ⟨0x808, 64, 4, 4, 0, 0, 0, 0, 0, 0x3ff⟩ /- EVC_COMPLETEp R410 -/,
  ⟨0x80c, 64, 4, 4, 0, 0xffffff, 0, 0, 0, 0⟩ /- EVC_COALp R410 -/,
  ⟨0x810, 64, 4, 8, 0x100000001000, 0xffffffff, 0, 0, 0, 0⟩ /- EVC_BUDp R410 -/,
  ⟨0x818, 64, 4, 8, 0, 0, 0, 0, 0, 0⟩ /- EVC_THRp R410 -/,
  ⟨0x820, 64, 4, 8, 0, 0, 0, 0, 0xffffffffffffffff, 0⟩ /- EVC_BADCOMPp R410 -/,
  ⟨0x828, 64, 4, 4, 0, 0, 0, 0, 0, 0⟩ /- EVC_LINEp R410 -/,
  ⟨0x900, 0, 1, 4, 0, 0, 0, 0, 0, 0x3ff⟩ /- EVC_SWSET R410 -/,
  ⟨0x904, 0, 1, 4, 0, 0xffffffff, 0, 0, 0, 0⟩ /- EVC_SWINFO R410 -/,
  ⟨0x2000, 4, 1024, 4, 0, 0x3f, 0, 0, 0, 0⟩ /- EVC_CFGs R410 -/,
  ⟨0x3000, 4, 1024, 4, 0x200, 0, 0, 0, 0, 0⟩ /- EVC_STATs R410 -/,
  ⟨0x4000, 4, 1024, 4, 0, 0, 0, 0, 0, 0⟩ /- EVC_INFOs R410 -/]

/-- The registers of block type 0x9 (`STR_`). -/
def strRows : List RegRow := [
  ⟨0x40, 0, 1, 4, 0, 0, 0, 0, 0, 0x3ffff07⟩ /- STR_ECMD R330 -/,
  ⟨0x44, 0, 1, 4, 0, 0, 0, 0, 0, 0⟩ /- STR_ESTAT R330 -/,
  ⟨0x100, 8, 8, 8, 0, 0xffffffffffffffff, 0, 0, 0, 0⟩ /- STR_EDATAi R330 -/,
  ⟨0xa0, 0, 1, 8, 0, 0, 0, 0, 0, 0⟩ /- STR_ADMIT R330 -/,
  ⟨0xa8, 0, 1, 8, 0, 0, 0, 0, 0, 0⟩ /- STR_DROP_NOSLOT R330 -/,
  ⟨0xb0, 0, 1, 8, 0, 0, 0, 0, 0, 0⟩ /- STR_DROP_NOMATCH R330 -/,
  ⟨0xb8, 0, 1, 8, 0, 0, 0, 0, 0, 0⟩ /- STR_CPL_WAIT R330 -/,
  ⟨0xc0, 0, 1, 4, 0, 0, 0, 0, 0, 0xffff3fff⟩ /- STR_DOORBELL R330 -/,
  ⟨0xc8, 0, 1, 4, 0, 0, 0, 0, 0, 0⟩ /- STR_RSTAT R330 -/,
  ⟨0xd0, 0, 1, 8, 0, 0, 0, 0, 0xffffffffffffffff, 0⟩ /- STR_DOORBAD R330 -/,
  ⟨0x40000, 32, 4096, 32, 0, 0xffffffffffffffffffffffffffffffffffffffffff, 0, 0, 0, 0⟩ /- STR_PROFILEp R330 -/,
  ⟨0x80000, 32, 16384, 32, 0, 0xffffffffffffffffffffffffff1fffffffffffffffffffffffffffffff, 0, 0, 0, 0⟩ /- STR_RINGr R330 -/]

/-- The registers of block type 0xa (`HBM_`). -/
def hbmRows : List RegRow := [
  ⟨0x40, 0, 1, 4, 0, 0, 0, 0, 0, 0⟩ /- HBM_STATE R303 -/,
  ⟨0x44, 0, 1, 4, 0, 0, 0, 0, 0, 0⟩ /- HBM_OUTST R303 -/,
  ⟨0xa0, 0, 1, 8, 0, 0, 0, 0, 0, 0⟩ /- HBM_BYTES R303 -/,
  ⟨0xa8, 0, 1, 8, 0, 0, 0, 0, 0, 0⟩ /- HBM_CE R303 -/,
  ⟨0xb0, 0, 1, 8, 0, 0, 0, 0, 0, 0⟩ /- HBM_UE R303 -/,
  ⟨0xb8, 0, 1, 8, 0, 0, 0, 0, 0, 0⟩ /- HBM_STL_TAG R303 -/,
  ⟨0xc0, 0, 1, 4, 0, 0, 0, 0, 0, 0⟩ /- HBM_CPAGES R303 -/]

/-- The registers of block type 0xb (`BLC_`). -/
def blcRows : List RegRow := [
  ⟨0xa0, 0, 1, 8, 0, 0, 0, 0, 0, 0⟩ /- BLC_BLK_IN R303 -/,
  ⟨0xa8, 0, 1, 8, 0, 0, 0, 0, 0, 0⟩ /- BLC_BLK_RAW R303 -/,
  ⟨0xb0, 0, 1, 8, 0, 0, 0, 0, 0, 0⟩ /- BLC_BLK_ZERO R303 -/,
  ⟨0xb8, 0, 1, 8, 0, 0, 0, 0, 0, 0⟩ /- BLC_BYTES_U R303 -/,
  ⟨0xc0, 0, 1, 8, 0, 0, 0, 0, 0, 0⟩ /- BLC_BYTES_C R303 -/,
  ⟨0xc8, 0, 1, 8, 0, 0, 0, 0, 0xffffffffffffffff, 0⟩ /- BLC_MALF R303 -/]

/-- The registers of block type 0xc (`ETH_`). -/
def ethRows : List RegRow := [
  ⟨0x40, 0, 1, 4, 0x5dc, 0xffff3fff, 0, 0, 0, 0⟩ /- ETH_CFG R384 -/,
  ⟨0x48, 0, 1, 4, 0x186a0, 0xffffffff, 0, 0, 0, 0⟩ /- ETH_ASM R384 -/,
  ⟨0x50, 4, 4, 4, 0, 0xffffffff, 0, 0, 0, 0⟩ /- ETH_IPi R384 -/,
  ⟨0xa0, 0, 1, 8, 0, 0, 0, 0, 0, 0⟩ /- ETH_RXDROP R384 -/,
  ⟨0xa8, 0, 1, 8, 0, 0, 0, 0, 0, 0⟩ /- ETH_ASMTMO R384 -/,
  ⟨0xb0, 0, 1, 8, 0, 0, 0, 0, 0, 0⟩ /- ETH_GATEHOLD R384 -/,
  ⟨0xb8, 0, 1, 8, 0, 0, 0, 0, 0, 0⟩ /- ETH_TXOVERSIZE R384 -/,
  ⟨0xc0, 0, 1, 4, 0, 0x1, 0, 0x2, 0, 0⟩ /- ETH_GCLCTL R384 -/,
  ⟨0xc4, 0, 1, 4, 0, 0, 0x400, 0, 0, 0⟩ /- ETH_GCLSTS R384 -/,
  ⟨0xc8, 0, 1, 4, 0, 0x1ff, 0, 0, 0, 0⟩ /- ETH_GCLLEN R384 -/,
  ⟨0xd0, 0, 1, 8, 0, 0xffffffffffffffff, 0, 0, 0, 0⟩ /- ETH_BASETB R384 -/,
  ⟨0xe0, 4, 8, 4, 0, 0xffffffff, 0, 0, 0, 0⟩ /- ETH_CBSq R384 -/,
  ⟨0x1000, 8, 256, 8, 0xff, 0xffffffff000000ff, 0, 0, 0, 0⟩ /- ETH_GCLe R384 -/,
  ⟨0x8000, 0, 1, 4, 0, 0, 0, 0, 0, 0x7ff1f⟩ /- ETH_TCMD R384 -/,
  ⟨0x8008, 0, 1, 4, 0, 0, 0, 0, 0, 0⟩ /- ETH_TSTAT R384 -/,
  ⟨0x8010, 8, 4, 8, 0, 0xffffffffffffffff, 0, 0, 0, 0⟩ /- ETH_TDATAi R384 -/]

/-- The registers of block type 0xe (`FAB_`). -/
def fabRows : List RegRow := [
  ⟨0x40, 0, 1, 4, 0, 0, 0, 0, 0, 0⟩ /- FAB_CFG R359 -/,
  ⟨0x48, 0, 1, 8, 0, 0, 0, 0, 0, 0⟩ /- FAB_STATE R359 -/,
  ⟨0x50, 0, 1, 8, 0, 0, 0, 0, 0, 0⟩ /- FAB_SWITCHTB R359 -/,
  ⟨0x58, 0, 1, 4, 0, 0, 0, 0, 0, 0x10f⟩ /- FAB_LINKCMD R359 -/,
  ⟨0x60, 0, 1, 4, 0, 0, 0, 0, 0, 0x3ff000f⟩ /- FAB_PEEKCMD R359 -/,
  ⟨0x68, 0, 1, 8, 0, 0, 0, 0, 0, 0⟩ /- FAB_PEEKRES R359 -/,
  ⟨0x70, 0, 1, 4, 0, 0, 0, 0, 0x1, 0⟩ /- FAB_PEEKSTS R359 -/,
  ⟨0x80, 8, 16, 8, 0, 0, 0, 0, 0, 0⟩ /- FAB_LINKk R359 -/,
  ⟨0x100, 8, 16, 8, 0, 0, 0, 0, 0, 0⟩ /- FAB_RETXk R359 -/,
  ⟨0x180, 8, 16, 8, 0, 0, 0, 0, 0, 0⟩ /- FAB_CRCERRk R359 -/,
  ⟨0x200, 8, 16, 8, 0, 0, 0, 0, 0, 0⟩ /- FAB_SKEWk R359 -/,
  ⟨0x280, 8, 16, 8, 0, 0, 0, 0, 0xffffffffffffffff, 0⟩ /- FAB_SKEWCNTk R359 -/,
  ⟨0x300, 8, 16, 8, 0, 0, 0, 0, 0, 0⟩ /- FAB_RETRAINk R359 -/,
  ⟨0x380, 0, 1, 8, 0, 0, 0, 0, 0, 0⟩ /- FAB_STL_DATA R359 -/,
  ⟨0x388, 0, 1, 8, 0, 0, 0, 0, 0, 0⟩ /- FAB_STL_REL R359 -/,
  ⟨0x390, 0, 1, 8, 0, 0, 0, 0, 0, 0⟩ /- FAB_STL_BUDG R359 -/,
  ⟨0x398, 0, 1, 8, 0, 0, 0, 0, 0xffffffffffffffff, 0⟩ /- FAB_BADFRAME R359 -/,
  ⟨0x3a0, 0, 1, 8, 0, 0, 0, 0, 0xffffffffffffffff, 0⟩ /- FAB_LATENOTICE R359 -/,
  ⟨0x3a8, 0, 1, 8, 0, 0, 0, 0, 0xffffffffffffffff, 0⟩ /- FAB_SHTLATE R359 -/,
  ⟨0x3b0, 0, 1, 8, 0, 0, 0, 0, 0xffffffffffffffff, 0⟩ /- FAB_SHTDROP R359 -/,
  ⟨0x400, 4, 64, 4, 0, 0, 0, 0, 0, 0⟩ /- FAB_FAILi R359 -/,
  ⟨0x10000, 8, 1024, 8, 0, 0, 0, 0, 0, 0⟩ /- FAB_MIRRORw R359 -/]

/-- The registers of block type 0x10 (`SEQ_`). -/
def seqRows : List RegRow := [
  ⟨0x40, 0, 1, 4, 0, 0, 0, 0, 0, 0⟩ /- SEQ_STATUS R82 -/,
  ⟨0x80, 8, 8, 8, 0, 0, 0, 0, 0, 0⟩ /- SEQ_PCc R82 -/,
  ⟨0x100, 4, 64, 4, 0, 0, 0, 0, 0, 0⟩ /- SEQ_SEMs R82 -/,
  ⟨0x200, 0, 1, 4, 0, 0, 0, 0, 0, 0⟩ /- SEQ_ABORTSTS R82 -/,
  ⟨0x210, 0, 1, 8, 0, 0, 0, 0, 0, 0⟩ /- SEQ_PSKIP R82 -/,
  ⟨0x208, 0, 1, 8, 0, 0, 0, 0, 0, 0⟩ /- SEQ_RDYWAIT R113 -/]

/-- The registers of block type 0x11 (`ARY_`). -/
def aryRows : List RegRow := [
  ⟨0x40, 0, 1, 4, 0x14, 0, 0, 0, 0, 0⟩ /- ARY_CFG R81 -/,
  ⟨0x44, 0, 1, 4, 0x4688, 0, 0, 0, 0, 0⟩ /- ARY_MAP R81 -/,
  ⟨0x48, 4, 5, 4, 0xffffffff, 0, 0, 0, 0, 0⟩ /- ARY_COLMAPp R81 -/,
  ⟨0x60, 0, 1, 4, 0, 0, 0, 0, 0, 0⟩ /- ARY_STATE R81 -/,
  ⟨0x80, 0, 1, 4, 0, 0, 0xff, 0, 0, 0⟩ /- ARY_NUMSTS R81 -/,
  ⟨0xa0, 0, 1, 8, 0, 0, 0, 0, 0, 0⟩ /- ARY_ACTCYC R81 -/,
  ⟨0xa8, 0, 1, 8, 0, 0, 0, 0, 0, 0⟩ /- ARY_STL_OPND R81 -/,
  ⟨0xb0, 0, 1, 8, 0, 0, 0, 0, 0, 0⟩ /- ARY_STL_WCHN R81 -/,
  ⟨0xb8, 0, 1, 8, 0, 0, 0, 0, 0, 0⟩ /- ARY_STL_BUDG R81 -/,
  ⟨0xc0, 0, 1, 4, 0, 0, 0, 0, 0, 0⟩ /- ARY_CMB_STS R81 -/,
  ⟨0xc8, 0, 1, 8, 0, 0, 0, 0, 0xffffffffffffffff, 0⟩ /- ARY_CMB_DISC R81 -/,
  ⟨0xd0, 0, 1, 8, 0, 0, 0, 0, 0, 0⟩ /- ARY_STL_AGEN R113 -/,
  ⟨0xd8, 0, 1, 4, 0, 0, 0x80000000, 0, 0, 0⟩ /- ARY_AGFAULT R113 -/]

/-- The registers of block type 0x12 (`VEC_`). -/
def vecRows : List RegRow := [
  ⟨0x40, 0, 1, 4, 0, 0, 0, 0, 0, 0⟩ /- VEC_STATUS R142 -/,
  ⟨0x44, 0, 1, 4, 0, 0, 0, 0, 0, 0⟩ /- VEC_STORE R142 -/,
  ⟨0x80, 0, 1, 4, 0, 0, 0xff, 0, 0, 0⟩ /- VEC_NUMSTS R142 -/,
  ⟨0xa0, 0, 1, 8, 0, 0, 0, 0, 0, 0⟩ /- VEC_ACTCYC R142 -/,
  ⟨0xa8, 0, 1, 8, 0, 0, 0, 0, 0, 0⟩ /- VEC_STL_IN R142 -/,
  ⟨0xb0, 0, 1, 8, 0, 0, 0, 0, 0, 0⟩ /- VEC_STL_OUT R142 -/,
  ⟨0xb8, 0, 1, 8, 0, 0, 0, 0, 0xffffffffffffffff, 0⟩ /- VEC_DET_NAN R142 -/,
  ⟨0xc0, 0, 1, 8, 0, 0, 0, 0, 0xffffffffffffffff, 0⟩ /- VEC_DET_TRUNC R142 -/,
  ⟨0xd0, 0, 1, 4, 0, 0, 0x80000000, 0, 0, 0⟩ /- VEC_FAULT R142 -/,
  ⟨0x8000, 8, 4096, 8, 0, 0, 0, 0, 0, 0⟩ /- VEC_UPROG R142 -/]

/-- The registers of block type 0x13 (`ENT_`). -/
def entRows : List RegRow := [
  ⟨0x40, 0, 1, 4, 0, 0, 0, 0, 0, 0⟩ /- ENT_STATUS R165 -/,
  ⟨0x48, 8, 2, 4, 0, 0, 0, 0, 0, 0⟩ /- ENT_BANKb R165 -/,
  ⟨0x4c, 8, 2, 4, 0, 0, 0, 0, 0, 0⟩ /- ENT_BREFb R165 -/,
  ⟨0xa0, 0, 1, 8, 0, 0, 0, 0, 0, 0⟩ /- ENT_STEPS R165 -/,
  ⟨0xa8, 0, 1, 8, 0, 0, 0, 0, 0, 0⟩ /- ENT_WORDS R165 -/,
  ⟨0xb0, 0, 1, 8, 0, 0, 0, 0, 0, 0⟩ /- ENT_ESC R165 -/,
  ⟨0xb8, 0, 1, 8, 0, 0, 0, 0, 0, 0⟩ /- ENT_STL_BUDG R165 -/,
  ⟨0xc0, 0, 1, 8, 0, 0, 0, 0, 0xffffffffffffffff, 0⟩ /- ENT_BUSYREF R165 -/,
  ⟨0xc8, 0, 1, 8, 0, 0, 0, 0, 0, 0⟩ /- ENT_SEGBITS R165 -/,
  ⟨0xd0, 0, 1, 4, 0, 0, 0x80000000, 0, 0, 0⟩ /- ENT_FAULT R165 -/]

/-- The registers of block type 0x14 (`MOT_`). -/
def motRows : List RegRow := [
  ⟨0x40, 0, 1, 4, 0, 0, 0, 0, 0, 0⟩ /- MOT_STATUS R196 -/,
  ⟨0x44, 0, 1, 4, 0, 0, 0, 0, 0, 0⟩ /- MOT_WIN R196 -/,
  ⟨0xa0, 0, 1, 8, 0, 0, 0, 0, 0, 0⟩ /- MOT_BLOCKS R196 -/,
  ⟨0xa8, 0, 1, 8, 0, 0, 0, 0, 0, 0⟩ /- MOT_STL_WIN R196 -/,
  ⟨0xd0, 0, 1, 4, 0, 0, 0x80000000, 0, 0, 0⟩ /- MOT_FAULT R196 -/]

/-- The registers of block type 0x15 (`RCT_`). -/
def rctRows : List RegRow := [
  ⟨0x40, 0, 1, 4, 0, 0, 0, 0, 0, 0⟩ /- RCT_STATUS R196 -/,
  ⟨0xa0, 0, 1, 8, 0, 0, 0, 0, 0, 0⟩ /- RCT_ROWS R196 -/,
  ⟨0xa8, 0, 1, 8, 0, 0, 0, 0, 0, 0⟩ /- RCT_FORCED R196 -/,
  ⟨0xb0, 0, 1, 8, 0, 0, 0, 0, 0, 0⟩ /- RCT_HELD R196 -/,
  ⟨0xb8, 0, 1, 8, 0, 0, 0, 0, 0xffffffffffffffff, 0⟩ /- RCT_ORPHAN R196 -/,
  ⟨0x100, 16, 8, 8, 0, 0, 0, 0, 0, 0⟩ /- RCT_SLOTc R196 -/,
  ⟨0x108, 16, 8, 8, 0, 0, 0, 0, 0, 0⟩ /- RCT_SLOTPc R196 -/]

/-- The registers of block type 0x16 (`DMA_`). -/
def dmaRows : List RegRow := [
  ⟨0x40, 0, 1, 4, 0, 0, 0, 0, 0, 0⟩ /- DMA_STATUS R302 -/,
  ⟨0x48, 0, 1, 4, 0, 0, 0, 0, 0, 0⟩ /- DMA_OUTST R302 -/,
  ⟨0x200, 16, 16, 8, 0, 0, 0, 0, 0, 0⟩ /- DMA_PSTp R302 -/,
  ⟨0x208, 16, 16, 8, 0, 0, 0, 0, 0xffff, 0⟩ /- DMA_PSTOVRp R302 -/,
  ⟨0x180, 0, 1, 4, 0, 0, 0, 0, 0, 0xffff000f⟩ /- DMA_REARM R302 -/,
  ⟨0x188, 0, 1, 8, 0, 0, 0, 0, 0xffffffffffffffff, 0⟩ /- DMA_REARM_DISC R302 -/,
  ⟨0xa0, 0, 1, 8, 0, 0, 0, 0, 0, 0⟩ /- DMA_BYTES_RD R302 -/,
  ⟨0xa8, 0, 1, 8, 0, 0, 0, 0, 0, 0⟩ /- DMA_BYTES_WR R302 -/,
  ⟨0xb0, 0, 1, 8, 0, 0, 0, 0, 0, 0⟩ /- DMA_STL_RTAG R302 -/,
  ⟨0xb8, 0, 1, 8, 0, 0, 0, 0, 0, 0⟩ /- DMA_STL_WTAG R302 -/,
  ⟨0xc0, 0, 1, 8, 0, 0, 0, 0, 0, 0⟩ /- DMA_STL_CRED R302 -/,
  ⟨0xc8, 0, 1, 8, 0, 0, 0, 0, 0, 0⟩ /- DMA_TLBMISS R302 -/,
  ⟨0xd0, 0, 1, 8, 0, 0, 0x80000000, 0, 0, 0⟩ /- DMA_FAULT R302 -/,
  ⟨0xd8, 0, 1, 8, 0, 0, 0, 0, 0, 0⟩ /- DMA_FAULTVA R302 -/]

/-- The time block of R386 (at 0x00C5_0000). -/
def timRows : List RegRow := [
  ⟨0x40, 0, 1, 4, 0, 0, 0, 0, 0, 0⟩ /- ETH_TSTATE -/,
  ⟨0x48, 0, 1, 8, 0, 0, 0, 0, 0, 0⟩ /- ETH_TOFFSET -/,
  ⟨0x50, 0, 1, 8, 0, 0, 0, 0, 0, 0⟩ /- ETH_TSTEPS -/]

/-- The egress destination table of an L-die (R385): 16,384 entries of 32 bytes. -/
def dstRows : List RegRow := [
  ⟨0, 32, 16384, 32, 0, 0xfffffffffffffffffffffffffffffffff0fffffffffffffff, 0, 0, 0, 0⟩]

/-- The register table of a block type. -/
def regRows : Nat → List RegRow
  | 0x01 => mgtRows | 0x02 => drkRows | 0x03 => repRows | 0x04 => shtRows | 0x05 => lfcRows | 0x06 => clkRows
  | 0x07 => budRows | 0x08 => evcRows | 0x09 => strRows | 0x0A => hbmRows | 0x0B => blcRows | 0x0C => ethRows
  | 0x0D => timRows | 0x0E => fabRows | 0x10 => seqRows | 0x11 => aryRows | 0x12 => vecRows | 0x13 => entRows
  | 0x14 => motRows | 0x15 => rctRows | 0x16 => dmaRows | 0xC1 => dstRows | _ => []

/-- A block of the control space: its TYPE, INSTANCE and base address; type 0 is a reserved range. The snapshot window of
a core is type 0x17, that of the L-dies 0xC2; the destination table of an L-die is 0xC1. -/
structure Blk where
  typ : Nat
  inst : Nat
  base : Nat
  deriving DecidableEq, Repr

/-- Base address of a block of core `n` (R491): `b` is its index, TYPE is `0x10 + b`. -/
def coreBase (n b : Nat) : Nat := 0x100000 + n * 0x100000 + b * 0x10000
/-- Base address of the block of Ethernet port `p` (R362, R384): M0 to M7 are 0 to 7, H0 and H1 are 8 and 9. -/
def portBase (p : Nat) : Nat :=
  if p < 8 then 0xC00000 + (p / 4) * 0x100000 + (p % 4) * 0x10000 else 0xC40000 + (p - 8) * 0x100000
/-- The L-die that serves a port (R13). -/
def portDie (p : Nat) : Nat := if p < 8 then p / 4 else p - 8

def mgtBase : Nat := 0
def evcBase : Nat := 0x10000
def drkBase : Nat := 0x20000
def repBase : Nat := 0x30000
def shtBase : Nat := 0x40000
def lfcBase : Nat := 0x50000
def clkBase : Nat := 0x60000
def budBase : Nat := 0x70000
def strBase : Nat := 0x900000
/-- Base address of HBM controller `n`. -/
def hbmBase (n : Nat) : Nat := 0xA00000 + n * 0x10000
/-- Base address of compressor channel `k`. -/
def blcBase (k : Nat) : Nat := 0xB00000 + k * 0x10000
def timBase : Nat := 0xC50000
def fabBase : Nat := 0xE00000
/-- Base address of the egress destination table of L-die `d` (R385). -/
def dstBase (d : Nat) : Nat := 0xC80000 + d * 0x100000

/-- The block that an address lies in (R490, R491). -/
def blockOf (a : Nat) : Blk :=
  let q := a / 0x10000
  if q = 0 then ⟨1, 0, 0⟩
  else if q = 1 then ⟨8, 0, evcBase⟩
  else if q < 8 then ⟨q, 0, q * 0x10000⟩
  else if q < 16 then ⟨0, 0, q * 0x10000⟩
  else if q < 0x90 then
    let n := q / 16 - 1
    if q % 16 < 8 then ⟨0x10 + q % 16, n, q * 0x10000⟩ else ⟨0, n, q * 0x10000⟩
  else if q < 0xA0 then ⟨9, 0, strBase⟩
  else if q < 0xA8 then ⟨0x0A, q - 0xA0, q * 0x10000⟩
  else if q < 0xB0 then ⟨0, 0, q * 0x10000⟩
  else if q < 0xBA then ⟨0x0B, q - 0xB0, q * 0x10000⟩
  else if q < 0xC0 then ⟨0, 0, q * 0x10000⟩
  else if q < 0xE0 then
    let d := (q - 0xC0) / 16
    let j := q % 16
    if j < 4 then ⟨0x0C, 4 * d + j, q * 0x10000⟩
    else if j = 4 then ⟨0x0C, 8 + d, q * 0x10000⟩
    else if j = 5 ∧ d = 0 then ⟨0x0D, 0, timBase⟩
    else if j = 6 then ⟨0xC2, d, q * 0x10000⟩
    else if j ≥ 8 then ⟨0xC1, d, dstBase d⟩
    else ⟨0, d, q * 0x10000⟩
  else if q < 0xE2 then ⟨0x0E, 0, fabBase⟩
  else ⟨0, 0, q * 0x10000⟩

/-- Address and number of copies of a block's snapshot window (R490). -/
def snapWindow (b : Blk) : Nat × Nat :=
  match b.typ with
  | 0x08 => (0x18000, 68)
  | 0x07 => (0x7D000, 1281)
  | 0x09 => (0x910000, 16387)
  | 0x0A => (hbmBase b.inst + 0x8000, 3)
  | 0x0C => (0xC60000 + portDie b.inst * 0x100000 + 0x1000 * (if b.inst < 8 then b.inst % 4 else 4), 4)
  | 0x0E => (0xE08000, 36)
  | t => if 0x10 ≤ t ∧ t ≤ 0x16 then (coreBase b.inst 7, 48) else (0, 0)

/-- Does the block carry the common registers of R492? -/
def hasCommon (b : Blk) : Bool := b.typ ≠ 0 && b.typ ≠ 0x17 && b.typ < 0xC0

/-- The row that covers an offset and the byte position of the offset in its register. -/
def findRow : List RegRow → Nat → Option (RegRow × Nat × Nat)
  | [], _ => none
  | r :: rs, o =>
    if o < r.off then findRow rs o
    else
      let d := o - r.off
      if r.stride = 0 then (if d < r.size then some (r, 0, d) else findRow rs o)
      else if d / r.stride < r.count ∧ d % r.stride < r.size then some (r, d / r.stride, d % r.stride)
      else findRow rs o

/-- The 32-bit word at byte `d` of a register-wide number. -/
def wordAt (v d : Nat) : W32 := BitVec.ofNat 32 (bits v (8 * d) 32)

/-- Dividers of R485: F in bits [7:0] and N in bits [15:8], in the order ACLK, NCLK, MCLK, HCLK, TCLK. -/
def divReset (d : Nat) : Nat := nth 0 [0x0C00, 0x0800, 0x0A00, 0x1080, 0x34CD] d
/-- Default window, threshold and run length of repair class `c` (R438), as REP_CLASSc holds them. -/
def classReset (c : Nat) : Nat :=
  nth 0 [10 + 4 * 2^16 + 3 * 2^24, 1 + 16 * 2^16 + 3 * 2^24, 60 + 64 * 2^16 + 3 * 2^24, 600 + 2 * 2^16 + 2 * 2^24,
    3600 + 2 * 2^16 + 2 * 2^24, 60 + 4 * 2^16 + 3 * 2^24] c

/-- Reset value of EVC_CFGs (R392, R410): sources 1 to 7 are EXEMPT; sources 1 to 4 are fast class. -/
def evcCfgReset (s : Nat) : Nat :=
  (if 1 ≤ s ∧ s ≤ 7 then 0x40 else 0) + (if 1 ≤ s ∧ s ≤ 4 then 8 + (s % 4) * 16 else 0)

/-- The common registers of R492 at reset, as a word at offset `o < 0x40`. -/
def commonReset (b : Blk) (o : Nat) : W32 :=
  match o with
  | 0x00 => BitVec.ofNat 32 (b.typ + b.inst * 2 ^ 8 + 0x4808 * 2 ^ 16)
  | 0x08 => 0x01A1#32
  | 0x18 => BitVec.ofNat 32 (snapWindow b).1
  | 0x1C => BitVec.ofNat 32 (snapWindow b).2
  | _ => 0#32

/-- Reset value of the control-space word at byte address `a`. -/
def resetWord (a : Nat) : W32 :=
  let b := blockOf a
  let o := a - b.base
  if hasCommon b && o < 0x40 then commonReset b o
  else match findRow (regRows b.typ) o with
    | none => 0#32
    | some (r, i, d) =>
      if b.typ = 6 ∧ r.off = 0x60 then BitVec.ofNat 32 (divReset i)
      else if b.typ = 3 ∧ r.off = 0x200 then BitVec.ofNat 32 (classReset i)
      else if b.typ = 8 ∧ r.off = 0x2000 then BitVec.ofNat 32 (evcCfgReset i)
      else if b.typ = 1 ∧ r.off = 0x50 then wordAt (Config.fuseMac.toNat &&& 0xFCFFFFFFFFF0) d
      else wordAt r.reset d

end Sys2Proof.Machine
end

