-- ==== Sys2Proof/Machine/Flags.lean ====
section
/-! DEFINITION. Numeric status: the eight conditions of R54, as a mask in the bit order of ARY_NUMSTS, VEC_NUMSTS and the
completion record's NUMFLAGS (R55). -/

namespace Sys2Proof.Machine

/-- A set of numeric conditions, one bit each in the order of R54. -/
abbrev NumFlags := Nat

/-- An operand of a floating-point operation was NaN (R54 bit 0). -/
def fNanIn : NumFlags := 1
/-- A NaN was produced from non-NaN values (R54 bit 1). -/
def fInvalid : NumFlags := 2
/-- A product with `L ≥ 128` became an infinity (R38, R54 bit 2). -/
def fProdOvf : NumFlags := 4
/-- A chain, scale or bias step reached `2^128` (R54 bit 3). -/
def fAccOvf : NumFlags := 8
/-- A conversion saturated or produced an infinity from a finite value (R54 bit 4). -/
def fConvOvf : NumFlags := 16
/-- A non-zero value converted to zero (R54 bit 5). -/
def fConvUnf : NumFlags := 32
/-- An integer result saturated (R54 bit 6). -/
def fIntSat : NumFlags := 64
/-- An integer result wrapped (R54 bit 7). -/
def fIntWrap : NumFlags := 128

/-- Union of two sets of conditions. -/
def fOr (a b : NumFlags) : NumFlags := a ||| b

/-- The condition `f` when `c` holds. -/
def fIf (c : Bool) (f : NumFlags) : NumFlags := if c then f else 0

end Sys2Proof.Machine
end

