-- ==== Sys2Proof/Machine/Numeric.lean ====
section
/-! DEFINITION. Formats, exact decoding, rounding and conversion: chapter 02 (R26 to R53). Finite values are exact dyadic
numbers; every rounding is round to nearest, ties to even (R27). -/

namespace Sys2Proof.Machine

/-- `rshift_rne` of R49: arithmetic right shift, rounded to nearest, ties to even. -/
def rshiftRne (x : Int) (s : Nat) : Int :=
  if s = 0 then x else
    let q := x / (2 ^ s : Nat)
    let r := x - q * (2 ^ s : Nat)
    let half : Int := (2 ^ (s - 1) : Nat)
    if r > half ∨ (r = half ∧ q % 2 ≠ 0) then q + 1 else q

/-- `div_rne` of R126, for `b > 0`: quotient rounded to nearest, ties to even. -/
def divRne (a : Int) (b : Nat) : Int :=
  let q := a.tdiv b
  let r := a - q * b
  let r2 : Int := if r < 0 then -2 * r else 2 * r
  if r2 > b ∨ (r2 = b ∧ q % 2 ≠ 0) then (if a < 0 then q - 1 else q + 1) else q

/-- Saturates `x` to `[lo, hi]`; sets INT_SAT when it does. -/
def satTo (lo hi x : Int) : Int × NumFlags :=
  if x < lo then (lo, fIntSat) else if x > hi then (hi, fIntSat) else (x, 0)

/-- The i64 range. -/
def i64Min : Int := -((2 ^ 63 : Nat) : Int)
/-- The i64 range. -/
def i64Max : Int := ((2 ^ 63 : Nat) : Int) - 1
/-- Saturation to i64 (R120). -/
def satI64 (x : Int) : Int × NumFlags := satTo i64Min i64Max x

/-- Saturation to INT16, without status (R183, R203). -/
def sat16 (x : Int) : Int := if x < -32768 then -32768 else if x > 32767 then 32767 else x

/-! ### Integer formats -/

/-- True for the integer format codes of R28. -/
def fmtIsInt (f : Nat) : Bool := f < 8
/-- True for the floating-point format codes of R30. -/
def fmtIsFp (f : Nat) : Bool := 8 ≤ f && f ≤ 13
/-- Signedness of an integer format (R28). -/
def intSigned (f : Nat) : Bool := f = 0 || f = 2 || f = 4 || f = 6 || f = 7
/-- Width of a format's value in bits (R28, R30). -/
def fmtBits : Nat → Nat
  | 0 => 4 | 1 => 4 | 2 => 8 | 3 => 8 | 4 => 16 | 5 => 16 | 6 => 32 | 7 => 48
  | 8 => 4 | 9 => 8 | 10 => 8 | 11 => 16 | 12 => 16 | 13 => 32 | _ => 0
/-- Bits an element of the format takes in memory: INT48 lies in an 8-byte container (R28). -/
def fmtStore (f : Nat) : Nat := if f = 7 then 64 else fmtBits f
/-- Smallest value of an integer format. -/
def intLo (f : Nat) : Int := if intSigned f then -((2 ^ (fmtBits f - 1) : Nat) : Int) else 0
/-- Largest value of an integer format. -/
def intHi (f : Nat) : Int :=
  if intSigned f then ((2 ^ (fmtBits f - 1) : Nat) : Int) - 1 else ((2 ^ fmtBits f : Nat) : Int) - 1
/-- Decodes the raw bits of an integer element (R28, R35). -/
def intDecode (f raw : Nat) : Int :=
  if intSigned f then toSigned (fmtBits f) raw else ((raw % 2 ^ fmtBits f : Nat) : Int)
/-- Raw stored bits of an integer (R28): INT48 is sign-extended into its container. -/
def intEncode (f : Nat) (x : Int) : Nat := ofSigned (fmtStore f) x

/-- Saturates or wraps to the width and signedness of integer format `f` (R49, last step). -/
def intFit (f : Nat) (sat : Bool) (v : Int) : Int × NumFlags :=
  if v < intLo f ∨ v > intHi f then
    if sat then (if v < intLo f then intLo f else intHi f, fIntSat)
    else (intDecode f (ofSigned (fmtBits f) v), fIntWrap)
  else (v, 0)

/-! ### Floating-point formats -/

/-- The parameters of R30: significand bits, exponent bits, bias, largest exponent field of a finite value and its largest
significand, presence of infinities. -/
structure FpFmt where
  p : Nat
  eb : Nat
  bias : Int
  xmax : Nat
  mmax : Nat
  hasInf : Bool
  deriving DecidableEq, Repr

/-- The formats of R30 by code. -/
def fpFmt : Nat → FpFmt
  | 8 => ⟨2, 2, 1, 3, 3, false⟩
  | 9 => ⟨4, 4, 7, 15, 14, false⟩
  | 10 => ⟨3, 5, 15, 30, 7, true⟩
  | 11 => ⟨11, 5, 15, 30, 2047, true⟩
  | 12 => ⟨8, 8, 127, 254, 255, true⟩
  | _ => ⟨24, 8, 127, 254, 16777215, true⟩

/-- The canonical NaN of a format (R45); an FP4 element has none and carries 0. -/
def canonNan : Nat → Nat
  | 8 => 0 | 9 => 0x7F | 10 => 0x7E | 11 => 0x7E00 | 12 => 0x7FC0 | _ => 0x7FC00000

/-- A decoded value: `(-1)^s × m × 2^e` exactly, an infinity, or NaN (R33). -/
inductive Fp where
  | nan
  | inf (s : Bool)
  | fin (s : Bool) (m : Nat) (e : Int)
  deriving DecidableEq, Repr

/-- `+0`. -/
def Fp.zero : Fp := .fin false 0 0
/-- `1.0`. -/
def Fp.one : Fp := .fin false 1 0
/-- Is the value NaN? -/
def Fp.isNan : Fp → Bool
  | .nan => true | _ => false
/-- Is the value infinite? -/
def Fp.isInf : Fp → Bool
  | .inf _ => true | _ => false
/-- Is the value a zero? -/
def Fp.isZero : Fp → Bool
  | .fin _ 0 _ => true | _ => false
/-- The sign bit. -/
def Fp.sign : Fp → Bool
  | .nan => false | .inf s => s | .fin s _ _ => s
/-- The opposite value. -/
def Fp.neg : Fp → Fp
  | .nan => .nan | .inf s => .inf (!s) | .fin s m e => .fin (!s) m e

/-- Decodes the raw bits of a floating-point element (R30, R33). -/
def fpDecode (code raw : Nat) : Fp :=
  let f := fpFmt code
  let mb := f.p - 1
  let frac := bits raw 0 mb
  let x := bits raw mb f.eb
  let s := bit raw (mb + f.eb)
  if f.hasInf && x = 2 ^ f.eb - 1 then (if frac = 0 then .inf s else .nan)
  else if code = 9 && x = 15 && frac = 7 then .nan
  else if x = 0 then (if frac = 0 then .fin s 0 0 else .fin s frac (1 - f.bias - mb))
  else .fin s (2 ^ mb + frac) (x - f.bias - mb)

/-- Rounds `m × 2^e` to at most `p` significant bits whose least significant one is not below `2^qmin`; answers the rounded
significand and its exponent. A carry out of the `p` bits moves into the exponent. -/
def roundMag (p : Nat) (qmin : Option Int) (m : Nat) (e : Int) : Nat × Int :=
  if m = 0 then (0, 0) else
    let q0 : Int := e + bitlen m - p
    let q := match qmin with | none => q0 | some l => max q0 l
    let r := if q ≤ e then m * 2 ^ (e - q).toNat else (rshiftRne m (q - e).toNat).toNat
    if r = 2 ^ p then (2 ^ (p - 1), q + 1) else (r, q)

/-- Is `m × 2^e ≥ 2^n`? -/
def magGe2 (m : Nat) (e : Int) (n : Int) : Bool := m ≠ 0 && decide ((bitlen m : Int) + e - 1 ≥ n)

/-- Comparison of the magnitudes `m₁ × 2^e₁` and `m₂ × 2^e₂`. -/
def magCmp (m₁ : Nat) (e₁ : Int) (m₂ : Nat) (e₂ : Int) : Ordering :=
  if e₁ ≤ e₂ then compare m₁ (m₂ * 2 ^ (e₂ - e₁).toNat) else compare (m₁ * 2 ^ (e₁ - e₂).toNat) m₂

/-- Converts a value to floating-point format `code` (R51): raw bits and conditions. -/
def fpEncode (code : Nat) (infBit : Bool) (v : Fp) : Nat × NumFlags :=
  let f := fpFmt code
  let mb := f.p - 1
  let sgn (s : Bool) : Nat := s.toNat * 2 ^ (mb + f.eb)
  let maxFin : Nat := f.xmax * 2 ^ mb + (f.mmax - 2 ^ mb)
  let infRaw : Nat := (2 ^ f.eb - 1) * 2 ^ mb
  match v with
  | .nan => (canonNan code, 0)
  | .inf s => if f.hasInf then (sgn s + infRaw, 0) else (sgn s + maxFin, fConvOvf)
  | .fin s 0 _ => (sgn s, 0)
  | .fin s m e =>
    let qmin : Int := 1 - f.bias - mb
    let (r, q) := roundMag f.p (some qmin) m e
    if r = 0 then (sgn s, fConvUnf)
    else if magCmp r q f.mmax ((f.xmax : Int) - f.bias - mb) = .gt then
      if infBit && f.hasInf then (sgn s + infRaw, fConvOvf) else (sgn s + maxFin, fConvOvf)
    else
      if r < 2 ^ mb then (sgn s + r, 0)
      else (sgn s + (q + mb + f.bias).toNat * 2 ^ mb + (r - 2 ^ mb), 0)

/-- Rounds to format `code` and decodes again: the value "held in FP32" of FCVT (R120). -/
def fpRound (code : Nat) (infBit : Bool) (v : Fp) : Fp × NumFlags :=
  let (r, f) := fpEncode code infBit v
  (if v.isNan then .nan else fpDecode code r, f)

/-- Comparison in the order of R46 of two values that are not NaN: `-0` lies below `+0`. -/
def Fp.cmp (a b : Fp) : Ordering :=
  match a, b with
  | .inf true, .inf true => .eq
  | .inf false, .inf false => .eq
  | .inf true, _ => .lt
  | _, .inf true => .gt
  | .inf false, _ => .gt
  | _, .inf false => .lt
  | .fin s₁ m₁ e₁, .fin s₂ m₂ e₂ =>
    if s₁ && !s₂ then .lt else if !s₁ && s₂ then .gt
    else if s₁ then magCmp m₂ e₂ m₁ e₁ else magCmp m₁ e₁ m₂ e₂
  | _, _ => .eq

/-- `a ≤ b` in the order of R46. -/
def Fp.le (a b : Fp) : Bool := a.cmp b != .gt
/-- `a < b` in the order of R46. -/
def Fp.lt (a b : Fp) : Bool := a.cmp b == .lt

/-- Maximum of R46: a NaN operand is passed over; NAN_IN is set for it. -/
def fpMax (a b : Fp) : Fp × NumFlags :=
  match a.isNan, b.isNan with
  | true, true => (.nan, fNanIn)
  | true, false => (b, fNanIn)
  | false, true => (a, fNanIn)
  | false, false => (if a.le b then b else a, 0)

/-- Minimum of R46. -/
def fpMin (a b : Fp) : Fp × NumFlags :=
  match a.isNan, b.isNan with
  | true, true => (.nan, fNanIn)
  | true, false => (b, fNanIn)
  | false, true => (a, fNanIn)
  | false, false => (if a.le b then a else b, 0)

/-- Signed integer of a finite value scaled to exponent `e₀ ≤ e`. -/
def Fp.scaled (s : Bool) (m : Nat) (e e₀ : Int) : Int :=
  let v : Int := (m * 2 ^ (e - e₀).toNat : Nat)
  if s then -v else v

/-- The finite value `i × 2^e`, `+0` for zero. -/
def Fp.ofInt (i : Int) (e : Int) : Fp := if i = 0 then .zero else .fin (decide (i < 0)) i.natAbs e

/-- Exact sum (R47): an exact zero sum is `+0` unless both addends are `-0`. -/
def fpAdd (a b : Fp) : Fp × NumFlags :=
  match a, b with
  | .nan, _ => (.nan, fNanIn)
  | _, .nan => (.nan, fNanIn)
  | .inf s, .inf t => if s = t then (.inf s, 0) else (.nan, fInvalid)
  | .inf s, _ => (.inf s, 0)
  | _, .inf t => (.inf t, 0)
  | .fin s m e, .fin t n f =>
    if m = 0 ∧ n = 0 then (.fin (s && t) 0 0, 0)
    else if m = 0 then (.fin t n f, 0)
    else if n = 0 then (.fin s m e, 0)
    else
      let e₀ := min e f
      (Fp.ofInt (Fp.scaled s m e e₀ + Fp.scaled t n f e₀) e₀, 0)

/-- Exact product; the sign of a zero follows `s_a xor s_b` (R47). -/
def fpMul (a b : Fp) : Fp × NumFlags :=
  match a, b with
  | .nan, _ => (.nan, fNanIn)
  | _, .nan => (.nan, fNanIn)
  | .inf s, y => if y.isZero then (.nan, fInvalid) else (.inf (s != y.sign), 0)
  | x, .inf t => if x.isZero then (.nan, fInvalid) else (.inf (x.sign != t), 0)
  | .fin s m e, .fin t n f => if m = 0 ∨ n = 0 then (.fin (s != t) 0 0, 0) else (.fin (s != t) (m * n) (e + f), 0)

/-- `num / den × 2^e` with at least 80 significant bits and a sticky last bit: enough for every rounding of the device. -/
def stickyDiv (s : Bool) (num den : Nat) (e : Int) : Fp :=
  let k := 80 + bitlen den
  let q := num * 2 ^ k / den
  let st : Nat := if num * 2 ^ k % den = 0 then 0 else 1
  .fin s (2 * q + st) (e - k - 1)

/-- Quotient, exact up to the sticky bit. `x / 0` is an infinity, `0 / 0` and `∞ / ∞` are NaN. -/
def fpDiv (a b : Fp) : Fp × NumFlags :=
  match a, b with
  | .nan, _ => (.nan, fNanIn)
  | _, .nan => (.nan, fNanIn)
  | .inf _, .inf _ => (.nan, fInvalid)
  | .inf s, y => (.inf (s != y.sign), 0)
  | x, .inf t => (.fin (x.sign != t) 0 0, 0)
  | .fin s m e, .fin t n f =>
    if n = 0 then (if m = 0 then (.nan, fInvalid) else (.inf (s != t), 0))
    else if m = 0 then (.fin (s != t) 0 0, 0)
    else (stickyDiv (s != t) m n (e - f), 0)

/-- `rnd_s` of R41: at most `S` significant bits; a magnitude of `2^128` or more becomes an infinity and sets ACC_OVF. -/
def rndS (S : Nat) (v : Fp) : Fp × NumFlags :=
  match v with
  | .fin s m e =>
    if m = 0 then (v, 0) else
      let (r, q) := roundMag S none m e
      if magGe2 r q 128 then (.inf s, fAccOvf) else (.fin s r q, 0)
  | _ => (v, 0)

/-- Converts a floating-point value, scaled by `2^sh`, to an integer under R51: NaN gives 0 with INVALID, and NAN_IN as a NaN
operand (R54); values outside `[lo, hi]` saturate with INT_SAT. -/
def fpToInt (lo hi : Int) (sh : Int) (v : Fp) : Int × NumFlags :=
  match v with
  | .nan => (0, fNanIn ||| fInvalid)
  | .inf s => (if s then lo else hi, fIntSat)
  | .fin s m e =>
    let e := e + sh
    let mag : Int := if e ≥ 0 then (m * 2 ^ e.toNat : Nat) else rshiftRne m (-e).toNat
    satTo lo hi (if s then -mag else mag)

/-! ### Products, group sums and chains (R38 to R44) -/

/-- The path of a matrix operation: window bits `F` and accumulation significand `S` of R40. -/
structure Path where
  isInt : Bool
  fourBit : Bool
  F : Nat
  S : Nat
  deriving DecidableEq, Repr

/-- The path that a pair of operand formats takes (R34). -/
def pathOf (a w : Nat) : Path :=
  if fmtIsInt a && fmtIsInt w then ⟨true, a ≤ 1 && w ≤ 1, 0, 0⟩
  else if a = 8 && w = 8 then ⟨false, true, 16, 32⟩
  else if a ≤ 10 && w ≤ 10 then ⟨false, false, 16, 32⟩
  else if a ≤ 12 && w ≤ 12 then ⟨false, false, 32, 40⟩
  else ⟨false, false, 56, 64⟩

/-- ACLK cycles that one activation row takes on the path of a format pair (R58). -/
def pathBeat (a w : Nat) : Nat :=
  if fmtIsInt a && fmtIsInt w then (if a ≤ 3 && w ≤ 3 then 1 else 4)
  else if a ≤ 10 && w ≤ 10 then 1 else if a ≤ 12 && w ≤ 12 then 2 else 8

/-- Special-value flags of an accumulator entry or a combining record (R64, R73). -/
structure Special where
  nan : Bool := false
  inv : Bool := false
  pinf : Bool := false
  ninf : Bool := false
  prodOvf : Bool := false
  accOvf : Bool := false
  deriving DecidableEq, Repr

/-- Union of flags (R75: "ORed into the entry in every case"). -/
def Special.or (a b : Special) : Special :=
  ⟨a.nan || b.nan, a.inv || b.inv, a.pinf || b.pinf, a.ninf || b.ninf, a.prodOvf || b.prodOvf, a.accOvf || b.accOvf⟩

/-- One product under R38 and R44: the finite value that joins the group (if any) and its flags. -/
def product (a w : Fp) : Option (Bool × Nat × Int) × Special :=
  match a, w with
  | .nan, _ => (none, { nan := true })
  | _, .nan => (none, { nan := true })
  | .inf s, y => if y.isZero then (none, { inv := true })
      else (none, { pinf := s == y.sign, ninf := s != y.sign })
  | x, .inf t => if x.isZero then (none, { inv := true })
      else (none, { pinf := x.sign == t, ninf := x.sign != t })
  | .fin s m e, .fin t n f =>
    if m * n = 0 then (none, {})
    else if magGe2 (m * n) (e + f) 128 then (none, { pinf := s == t, ninf := s != t, prodOvf := true })
    else (some (s != t, m * n, e + f), {})

/-- `q_k` of R40: the product's bits inside the window, truncated toward zero. -/
def windowTerm (F : Nat) (E : Int) (t : Bool × Nat × Int) : Int :=
  let sh : Int := t.2.2 + F - E
  let q : Nat := if sh ≥ 0 then t.2.1 * 2 ^ sh.toNat else t.2.1 / 2 ^ (-sh).toNat
  if t.1 then -(q : Int) else q

/-- The group sum of R40 over one group's finite products: `(Σ q, E)`. For a group without a finite non-zero product, whose sum is
+0, E is 0: R40's start value −100,000 does not fit the EXP field of a record (R73), and no value depends on it (DESIGN CHOICE,
log entry 15). -/
def groupSum (F : Nat) (ps : List (Bool × Nat × Int)) : Int × Int :=
  match ps.map (fun t => t.2.2 + (bitlen t.2.1 : Int) - 1) with
  | [] => (0, 0)
  | l :: ls =>
    let E := ls.foldl max l
    ((ps.map (windowTerm F E)).foldl (· + ·) 0, E)

/-- One chain step of R41: `acc = rnd_s(acc + G)`. An exact zero sum is `+0`; an infinity stays. -/
def chainStep (p : Path) (acc : Fp) (q E : Int) : Fp × NumFlags :=
  match acc with
  | .inf s => (.inf s, 0)
  | _ =>
    let (v, _) := fpAdd acc (Fp.ofInt q (E - p.F))
    rndS p.S (if v.isZero then .zero else v)

/-- The products of one group (R39), with the flags of all of them. -/
def groupOf (F : Nat) (pairs : List (Fp × Fp)) : (Int × Int) × Special :=
  let rs := pairs.map (fun (a, w) => product a w)
  (groupSum F (rs.filterMap (·.1)), (rs.map (·.2)).foldl Special.or {})

/-- The decision of R44 and R77 on a finished position: final value and status conditions. -/
def finalValue (v : Fp) (f : Special) : Fp × NumFlags :=
  let st := fIf f.nan fNanIn ||| fIf f.inv fInvalid ||| fIf (f.pinf && f.ninf) fInvalid ||| fIf f.prodOvf fProdOvf
    ||| fIf f.accOvf fAccOvf
  if f.nan || f.inv then (.nan, st)
  else if f.pinf && f.ninf then (.nan, st)
  else if f.pinf then (.inf false, st)
  else if f.ninf then (.inf true, st)
  else (v, st)

/-! ### Output conversion (R48 to R52) -/

/-- The conversion word of R48 that is common to every column. -/
structure ConvWord where
  outFmt : Nat
  clipEn : Bool
  clipLo : Nat
  clipHi : Nat
  act : Nat
  sat : Bool
  inf : Bool
  deriving DecidableEq, Repr

/-- The per-column parameters of R48. -/
structure ColParam where
  mult : Nat
  bias : Nat
  shift : Nat
  deriving DecidableEq, Repr

/-- `convert_int` of R49; OUT_FMT INT48 writes `acc` unchanged. -/
def convertInt (c : ConvWord) (p : ColParam) (acc : Int) : Int × NumFlags :=
  if c.outFmt = 7 then (acc, 0) else
    let v := rshiftRne (acc * toSigned 32 p.mult) p.shift
    let v := v + toSigned 32 p.bias
    let v := if c.clipEn then
        let v := if v < toSigned 32 c.clipLo then toSigned 32 c.clipLo else v
        if v > toSigned 32 c.clipHi then toSigned 32 c.clipHi else v
      else v
    let v := if c.act = 1 ∧ v < 0 then 0 else v
    intFit c.outFmt c.sat v

/-- Steps 1 to 4 of R50 on a result in accumulation form. -/
def convertFpSteps (S : Nat) (c : ConvWord) (p : ColParam) (r : Fp) : Fp × NumFlags :=
  match r with
  | .nan => (.nan, 0)
  | r =>
    let (v, f₁) := fpMul r (fpDecode 13 p.mult)
    let (v, f₂) := rndS S v
    let (v, f₃) := if v.isNan then (v, 0) else
      let (w, g) := fpAdd v (fpDecode 13 p.bias)
      let (w, h) := rndS S w
      (w, g ||| h)
    let v := if c.clipEn && !v.isNan then (fpMin (fpMax v (fpDecode 13 c.clipLo)).1 (fpDecode 13 c.clipHi)).1 else v
    let v := if c.act = 1 && !v.isNan && v.le .zero then .zero else v
    (v, f₁ ||| f₂ ||| f₃)

/-- Floor of the base-2 logarithm of a non-zero magnitude. -/
def magLog2 (m : Nat) (e : Int) : Int := (bitlen m : Int) - 1 + e

/-- The FP4 block output of R52: scale byte, element nibbles and conditions. -/
def fp4Block (vs : List Fp) : Nat × List Nat × NumFlags :=
  if vs.any Fp.isNan then (0xFF, vs.map (fun _ => 0), 0) else
    let logs := vs.filterMap (fun v => match v with
      | .inf _ => some (128 : Int)
      | .fin _ 0 _ => none
      | .fin _ m e => some (magLog2 m e)
      | .nan => none)
    match logs with
    | [] => (0, vs.map (fun v => v.sign.toNat * 8), 0)
    | l :: ls =>
      let M := ls.foldl max l
      let X := min (max (M + 125) 0) 254
      let limited := M + 125 > 254
      let es := vs.map (fun v => match v with
        | .inf s => (s.toNat * 8 + 7, fConvOvf)
        | .fin s m e =>
          let (raw, f) := fpEncode 8 false (.fin s m (e + 127 - X))
          (raw, (f &&& fConvUnf) ||| fIf (decide (f &&& fConvOvf ≠ 0) && limited) fConvOvf)
        | .nan => (0, 0))
      (X.toNat, es.map (·.1), (es.map (·.2)).foldl (· ||| ·) 0)

end Sys2Proof.Machine
end

