-- ==== Sys2Proof/Machine/State.lean ====
section
/-! DEFINITION. The state of the H8 as plain data, and the state right after reset. Control-space registers live in `ctl`,
keyed by byte address (a multiple of 4); every other piece of state has the field named for it below. Indexed state is a
sparse map whose unlisted entries hold the default that its comment names. -/

namespace Sys2Proof.Machine

/-! ### Tasks and contexts (chapters 03 and 12) -/

/-- A segment of a frame's body as its header gives it (R226): kind, index, held, quantiser index, lanes, words of its lanes. -/
structure PSeg where
  kind : Nat
  index : Nat
  held : Bool
  qi : Nat
  lanes : Nat
  words : Nat
  deriving DecidableEq, Repr

/-- What the Pulys reader found in the input of a decode task (R224 to R238). -/
structure RdFrame where
  /-- 0 the input holds no frame unit, 1 a frame to decode, 2 a duplicate or stale frame -/
  kind : Nat := 0
  frame : Nat := 0
  key : Bool := false
  epoch : Nat := 0
  stages : Nat := 0
  /-- PRINT_HASH, when it is to be compared -/
  hash : Option W64 := none
  conceal : Bool := false
  stub : Bool := false
  verified : Bool := false
  /-- the print or latent of the frame before is not held: mid-grey or a history of zeros stands in for it -/
  fresh : Bool := false
  /-- which segments, in body order, are treated as held -/
  held : List Bool := []
  /-- of a protected frame, the offset of its body in the input and the body in the clear (R237, R425) -/
  bodyAt : Nat := 0
  body : List Byte := []
  /-- status of a damaged unit that the reader passed over in a byte stream (R235, R238) -/
  damaged : Nat := 0
  /-- the segments of the body, in order (R226); a decoder takes each latent row's index from here (R170) -/
  segs : List PSeg := []
  deriving DecidableEq, Repr

/-- What a latent row of a frame leaves for the statistics record (R193): index, forced, held, lanes, bits reported. -/
structure RowStat where
  qi : Nat
  forced : Bool
  held : Bool
  lanes : Nat
  bits : Nat
  deriving DecidableEq, Repr

/-- An admitted task (R317, R500). -/
structure Task where
  /-- 0 frame task on an ingress slot, 1 RUN on HBM input, 2 periodic, 3 verifying decode of a pair, 4 stripe of a frame task (R19) -/
  kind : Nat := 0
  /-- admission number, in admission order -/
  order : Nat := 0
  /-- stream-table index -/
  stream : Nat := 0
  /-- index in SCHEDULE of the entry that it runs -/
  sched : Nat := 0
  activity : Nat := 0
  /-- the entry and its profile at admission -/
  snap : W512 := 0
  prof : W256 := 0
  inVa : Nat := 0
  inBytes : Nat := 0
  /-- ingress slot index, when the input lies in one -/
  inSlot : Option Nat := none
  /-- ITEM number of the media header, for an ingress item -/
  item : Nat := 0
  /-- FORCE_KEY taken, or KEY of RUN -/
  key : Bool := false
  user : Nat := 0
  tbAdmit : Nat := 0
  /-- CAPTURE_TB of an encoded frame: the time base at which its first packet arrived (R224) -/
  capture : Nat := 0
  /-- retries used (class F) and all re-issues -/
  retries : Nat := 0
  reissues : Nat := 0
  /-- frame number taken at start (R500) -/
  frame : Nat := 0
  /-- first output slot index, number; first record slot index, number (R500) -/
  outFirst : Nat := 0
  outN : Nat := 0
  recFirst : Nat := 0
  recN : Nat := 0
  /-- output and record slots have been taken -/
  slotsTaken : Bool := false
  /-- extents of the output slots (key k) and record slots (key 256 + k) (R501) -/
  extents : SMap Nat := []
  numFlags : Nat := 0
  cflags : Nat := 0
  /-- table epoch in use (R155) and table bank referenced -/
  epoch : Nat := 0
  bank : Option Nat := none
  /-- period number at the attempt's admission, periods frozen since (R321, R461), worst-case use of its own and of the tasks
  admitted before it, and links that had failed by then (R328) -/
  startPeriod : Nat := 0
  frozenPeriods : Nat := 0
  use : Nat := 0
  ahead : Nat := 0
  fails : Nat := 0
  /-- core and context of the task, for a verifying decode those of the encode half, for a stripe those of its frame's task -/
  core : Nat := 0
  ctx : Nat := 0
  /-- hash of the frame's print from END on, and the outcome of its verification (R22, R231): none while open -/
  printHash : Option W64 := none
  verify : Option Bool := none
  /-- the task exchanged weight-chain tiles in this period (R293) -/
  chained : Bool := false
  /-- values of the ready and release counters that it advanced, at its first advance (R111) -/
  counters : SMap Nat := []
  /-- values of the counters of its fabric channels at its start, by store key (R354) -/
  fabCounters : SMap Nat := []
  /-- decode: the reader's result, and the decode jobs issued -/
  rd : Option RdFrame := none
  jobs : Nat := 0
  /-- time base before which a re-issue is not admitted (R354) -/
  notBefore : Nat := 0
  /-- the frame is coded as a key frame, and as a random-access point (R166, R234) -/
  isKey : Bool := false
  isRap : Bool := false
  /-- first quantiser index of a video frame that is encoded (R182, R512) -/
  qiStart : Nat := 0
  /-- the program of the entry has ended and that of the feature network runs (R211) -/
  feat : Bool := false
  /-- the frame has reached END: its print is hashed, and an encode frame's units are whole (R223, R231) -/
  finished : Bool := false
  /-- latent rows and side segments reported so far, for the statistics record, and the vector-field entries by
  `block row × 512 + block column` (R193) -/
  rowStats : List RowStat := []
  sideHeld : Bool := false
  vecs : SMap (List Byte) := []
  /-- bytes of the state area that an abort restores: virtual address, bytes before (R190, R202, R210) -/
  saved : List (Nat × List Byte) := []
  deriving DecidableEq, Repr

/-- What holds a context (R82, R108, R319). -/
inductive Hold where
  | none
  /-- WAIT on semaphore `sem` for `v` -/
  | sem (sem v : Nat)
  /-- WAIT on the counter at a store address -/
  | counter (addr v : Nat)
  /-- PERIOD: until the next boundary as ACLK takes it -/
  | period
  /-- SIGNAL to a ready counter, until earlier work is complete -/
  | ready (addr v : Nat)
  /-- END reached: earlier work, the frame's stripes, its verification or its turn to commit is awaited -/
  | atEnd
  deriving DecidableEq, Repr

/-- Requests of one transfer to one 4 KiB block of a page with C = 1 that the compressor channel gathers (R300): the block, its state
when the first came, and what they cover, a bit for each byte. -/
structure Coll where
  blk : Nat
  old : Nat
  mask : Nat
  deriving DecidableEq, Repr

/-- A transfer descriptor as it runs: latched when it began (R291), with the bases in use and how far it has come (R286, R288, R300). -/
structure Mover where
  d : Nat := 0
  src : Nat := 0
  dst : Nat := 0
  /-- credit slots already moved, and whether the credit of the next one is taken -/
  done : Nat := 0
  opened : Bool := false
  /-- source and destination bytes so far; PACK: bytes not yet cut into a block, UNPACK: bytes of a block not yet whole; bytes ready to be
  written -/
  rpos : Nat := 0
  wpos : Nat := 0
  raw : List Byte := []
  out : List Byte := []
  /-- every byte has moved, and the length of a PACK is written -/
  closed : Bool := false
  reads : Option Coll := none
  writes : Option Coll := none
  deriving DecidableEq, Repr

/-- A transfer in progress (R287, R288). -/
structure Transfer where
  desc : Nat
  csem : Nat
  dsem : Nat
  run : Mover := {}
  deriving DecidableEq, Repr

/-- A sequencer context (R65, R256). -/
structure Ctx where
  task : Option Task := none
  hold : Hold := .none
  role : Nat := 0
  activity : Nat := 0
  semFirst : Nat := 0
  semCount : Nat := 0
  transfer : Option Transfer := none
  /-- bank regions that the task used: array, bank, first row, rows (R64, R80) -/
  regions : List (Nat × Nat × Nat × Nat) := []
  deriving DecidableEq, Repr

/-! ### Arrays (chapter 03) -/

/-- An accumulator entry (R64): a 48-bit integer or a value in accumulation form, with special-value flags. -/
structure Acc where
  /-- significand bits S of the path that wrote it (R40) -/
  sBits : Nat := 64
  int : Int := 0
  fp : Fp := .zero
  sp : Special := {}
  deriving DecidableEq, Repr

/-- The weights of one logical array or gang: raw elements by `k × 256 + n`, FP4 block scales by `segment × 256 + n`. -/
structure Weights where
  fmt : Nat := 0
  kRows : Nat := 0
  nCols : Nat := 0
  raw : SMap Nat := []
  scale : SMap Nat := []
  deriving DecidableEq, Repr

/-- A combine slot (R74): home region, group count, groups accounted for and records held, keyed by
`position × 65,536 + group`, and the next group of each position. The bytes of a held record also lie in the slot's holding
region. -/
structure CSlot where
  ctag : Nat
  array : Nat
  bank : Nat
  row0 : Nat
  rows : Nat
  cols : Nat
  groups : Nat
  holdDesc : Nat
  ctx : Nat
  next : SMap Nat := []
  got : SMap Nat := []
  held : SMap W256 := []
  deriving DecidableEq, Repr

/-- A part of a weight-chain tile (R292). -/
structure ChainPart where
  fmt : Nat
  kRows : Nat
  nCols : Nat
  index : Nat
  count : Nat
  data : List Byte
  scales : List Byte
  deriving DecidableEq, Repr

/-- An LDW that exchanges parts with the weight chain (R292): what it has of its tile, and the parts that it has still to forward when the
tile is its own. -/
structure ChainLoad where
  ctx : Nat
  w : W128
  tile : List Byte
  scales : List Byte
  out : List ChainPart := []
  deriving DecidableEq, Repr

/-- A combining record under way to a core's adder (R76): what sent it (a core, or 8 + a channel index), the path that made it
(0 integer or FP4/FP8, 1 FP16, 2 FP32; log entry 14), and its 256 bits. -/
structure RecFly where
  src : Nat
  path : Nat
  bits : W256
  deriving DecidableEq, Repr

/-- The arrays of a core. -/
structure Arrays where
  /-- entries by `((array × 2 + bank) × 256 + row) × 256 + column` -/
  bank : SMap Acc := []
  /-- BANK_NEXTG by `array × 2 + bank` -/
  nextg : SMap Nat := []
  /-- active and shadow weights by lowest logical array of the gang -/
  active : SMap Weights := []
  shadow : SMap Weights := []
  slots : List CSlot := []
  /-- combining records under way to this core's adder, those of one source in the order in which they were sent -/
  recFly : List RecFly := []
  /-- weight-chain parts on the link to the core and in its two buffer slots (R292) -/
  chainFly : List ChainPart := []
  chainBuf : List ChainPart := []
  chainLoad : Option ChainLoad := none
  deriving DecidableEq, Repr

/-! ### DMA (chapter 11) -/

/-- A persistent stream (R289, R290). -/
structure PStream where
  ctx : Nat
  desc : Nat
  csem : Nat
  dsem : Nat
  /-- the descriptor with the current set of bases, and the pass in progress -/
  run : Mover := {}
  nsrc : Nat := 0
  ndst : Nat := 0
  stopping : Bool := false
  pending : Bool := false
  /-- stopped at a pass boundary since its partition froze (R461) -/
  parked : Bool := false
  deriving DecidableEq, Repr

/-! ### Vector unit (chapter 05) -/

/-- An accumulator of the vector unit (R114): an i64, or an accumulation-form value with its special-value flags (R64). -/
structure VAcc where
  isInt : Bool := true
  int : Int := 0
  fp : Fp := .zero
  sp : Special := {}
  /-- a cleared maximum or minimum accumulator is empty -/
  empty : Bool := false
  deriving DecidableEq, Repr

/-- A job of the vector unit (R118). -/
structure VJob where
  ctx : Nat
  w : W128
  /-- input vectors delivered and elements read through each input descriptor, elements written -/
  row : Nat := 0
  read0 : Nat := 0
  read1 : Nat := 0
  wrote : Nat := 0
  /-- open loop: first instruction, last instruction, repeats left -/
  loops : List (Nat × Nat × Nat) := []
  deriving DecidableEq, Repr

/-- The vector unit. -/
structure Vec where
  /-- lane values by `register × 128 + lane` -/
  v : SMap W64 := []
  /-- predicate lanes that are 1, by `predicate × 128 + lane` -/
  p : SMap Bool := []
  ac : SMap VAcc := []
  job : Option VJob := none
  deriving DecidableEq, Repr

/-! ### Entropy engine, motion engine, rate controller (chapters 06, 07) -/

/-- An entropy job whose end is awaited, or a table load. -/
structure EntJob where
  ctx : Nat
  w : W128
  /-- lane substreams of an encode job, written when it completes -/
  subs : List (List Nat) := []
  /-- how far a table load's copy of the codebook set has come -/
  cb : Mover := {}
  deriving DecidableEq, Repr

/-- A motion job (R177, R182): next block row. -/
structure MotJob where
  ctx : Nat
  w : W128
  brow : Nat := 0
  deriving DecidableEq, Repr

/-- One codec core. -/
structure Core where
  ctxs : SMap Ctx := []
  /-- instructions issued and not yet begun, oldest first, with their contexts, by unit (R65): 0–3 the logical arrays, 4 vector
  unit, 5 entropy engine, 6 motion engine, 7 DMA engine -/
  queues : SMap (List (Nat × W128)) := []
  arr : Arrays := {}
  pst : SMap PStream := []
  vec : Vec := {}
  /-- table bank contents: byte by `bank × 262,144 + offset`; rows found uncorrectable by `bank × 1,024 + row` -/
  table : SMap Byte := []
  rowBad : SMap Bool := []
  /-- norms of the codebook entries by `(bank × 16 + stage) × 1,024 + entry` (R203, R208) -/
  norms : SMap Nat := []
  /-- bytes of the codebook set in HBM that goes with table bank b, by bank; none while the pair is empty (R208) -/
  cbLen : SMap Nat := []
  entJob : Option EntJob := none
  tableJob : Option EntJob := none
  motJob : Option MotJob := none
  /-- reports waiting for the rate controller, by context: bits of the row (R187) -/
  reports : SMap Nat := []
  /-- periodic rows whose start waits for its context, by row (R509) -/
  waits : SMap Bool := []
  /-- 1 + number of the period in which the start of a periodic row last came, by row -/
  rowStarts : SMap Nat := []
  /-- virtual page numbers in the DMA engine's translation cache, at most 256, newest first (R281) -/
  tlb : List Nat := []
  deriving DecidableEq, Repr

/-! ### The running image (chapter 10) -/

/-- A SCHEDULE entry record (R256). -/
structure SEntry where
  pc : Nat := 0
  activity : Nat := 0
  bound : Nat := 0
  flags : Nat := 0
  ventry : Nat := 0xFFFF
  outSlots : Nat := 0
  recSlots : Nat := 0
  deriving DecidableEq, Repr

/-- A periodic row (R256). -/
structure PRow where
  ctx : Nat
  entry : Nat
  offset : Nat
  deriving DecidableEq, Repr

/-- A PROGRAM and SCHEDULE variant of a core (R244, R256). -/
structure Variant where
  program : List W128 := []
  ctxs : List (Nat × Nat × Nat × Nat) := []
  entries : List SEntry := []
  periodic : List PRow := []
  deriving DecidableEq, Repr

/-- Configuration of a core (R252); unlisted: PART 0xFF, 40 MiB. -/
structure CoreCfg where
  part : Nat := 0xFF
  gang : Nat := 0
  tileMib : Nat := 40
  variants : Nat := 0
  descCount : Nat := 0
  descBase : Nat := 0
  rateBase : Nat := 0
  winBase : Nat := 0
  winBytes : Nat := 0
  holdBase : Nat := 0
  holdBytes : Nat := 0
  cbVa0 : Nat := 0
  cbVa1 : Nat := 0
  taskBase : Nat := 0
  /-- variant in use and all variants -/
  variant : Nat := 0
  progs : SMap Variant := []
  deriving DecidableEq, Repr

/-- A partition (R251). -/
structure PartCfg where
  cores : Nat := 0
  nPairs : Nat := 0
  pairs : List (Nat × Nat) := []
  slots : Nat := 0
  deriving DecidableEq, Repr

/-- A model slot (R259): the 64-byte header and its parts, as bytes of the section. -/
structure Model where
  bytes : List Byte := []
  digest : List Byte := []
  tuning : List Byte := []
  deriving DecidableEq, Repr

/-- The configuration that an image defines. -/
structure Image where
  periodNs : Nat := 0
  /-- lowest and highest versions, major and minor: Pulys, Filzel, HCP -/
  vmin : List (Nat × Nat) := []
  vmax : List (Nat × Nat) := []
  nPart : Nat := 0
  parts : SMap PartCfg := []
  cores : SMap CoreCfg := []
  /-- page entries by `partition × 2^27 + VPN`: bits [43:0] of R254 with bit 44 set in a listed entry's W and C -/
  pages : SMap Nat := []
  models : SMap Model := []
  /-- budgets of the new image, applied at the schedule start: by `activity × 64 + resource` -/
  budgets : SMap Nat := []
  /-- shared-store ranges by partition: partition, first byte, last byte + 1 (R275) -/
  shared : List (Nat × Nat × Nat) := []
  /-- SVN, and the digest of the whole-device image -/
  svn : Nat := 0
  deriving DecidableEq, Repr

/-- A finished load whose schedule starts at a boundary (R266): its scope and partition, the time base from which it may start, and the
number of its boundary plus 1 once that has come. -/
structure LoadStart where
  scope : Nat
  part : Nat
  tb : Nat
  at_ : Nat := 0
  deriving DecidableEq, Repr

/-- The loader (R266): what it is doing, and the validated image that waits. -/
structure Loader where
  /-- 0 none, 1 VALIDATE, 2 LOAD -/
  op : Nat := 0
  drainMs : Nat := 0
  scope : Nat := 0
  part : Nat := 0
  /-- staged image bytes, offset 0 first -/
  staged : List Byte := []
  /-- time base at which DRAINING began (R266) -/
  drainTb : Nat := 0
  /-- what the repair state at the start of VALIDATING refuses (R267): code, entry of the table of parts, record -/
  early : Option (Nat × Nat × Nat) := none
  /-- finished loads whose schedules await their boundaries, oldest first -/
  starts : List LoadStart := []
  /-- partial images by partition: digest -/
  partials : SMap (List Byte) := []
  deriving DecidableEq, Repr

/-! ### Memory (chapter 11) -/

/-- The stores. Unlisted bytes read as 0 (log entry 4). -/
structure Memory where
  /-- HBM by `physical page as images number it × 2^21 + offset` -/
  hbm : SMap Byte := []
  /-- tile store of core n by `n × 2^32 + address`, shared store by `2^40 + address` -/
  store : SMap Byte := []
  /-- uncorrectable 64-bit store words (key: byte key / 8) and HBM sectors (key: byte key / 32) -/
  badWord : SMap Bool := []
  badSector : SMap Bool := []
  /-- state bytes of C = 1 blocks (R300) by `page × 512 + block` -/
  blk : SMap Nat := []
  deriving DecidableEq, Repr

/-- The canonical form of every part of memory. -/
def Memory.wf (m : Memory) : Bool :=
  SMap.wf 0 m.hbm && SMap.wf 0 m.store && SMap.wf false m.badWord && SMap.wf false m.badSector && SMap.wf 0 m.blk

/-! ### Streams and rings (chapter 12) -/

/-- An ingress slot that holds an item or waits for its release (R311, R320). -/
structure ISlot where
  stream : Nat
  item : Nat
  bytes : Nat
  /-- 0 complete and waiting, 1 held by a task, 2 held after a final abort (SLOT_HELD) -/
  state : Nat
  frame : Nat := 0
  user : Nat := 0
  /-- the time base at which its first datagram, or its submission, arrived -/
  capture : Nat := 0
  /-- released ahead of an earlier slot of the ring -/
  free : Bool := false
  deriving DecidableEq, Repr

/-- An assembly in progress at a port (R366). -/
structure Assembly where
  port : Nat
  ring : Nat
  slot : Nat
  stream : Nat
  item : Nat
  size : Nat
  started : Nat
  /-- intervals received: offset, length -/
  got : List (Nat × Nat) := []
  deriving DecidableEq, Repr

/-- A slot of an egress, completion or record ring between its taking and its delivery: not yet handed over, or its length
in bytes (R501). -/
structure OSlot where
  owner : Nat
  len : Option Nat := none
  stream : Nat := 0
  frame : Nat := 0
  sent : Bool := false
  tb : Nat := 0
  deriving DecidableEq, Repr

/-- What the Pulys reader of a decode stream, or of the decode half of a verified one, holds: STREAM_HEADER and MODEL_DECL payloads, whether a frame was accepted,
whether predicted frames are concealed until the next key frame (R190, R210, R218), whether END was read, and the codebook
entries per stage of each TABLE_EPOCH unit read (R222). -/
structure Reader where
  hdr : List Byte := []
  decl : List Byte := []
  started : Bool := false
  conceal : Bool := false
  /-- the frame accepted last is no reference: its print hash differed (R191) -/
  lost : Bool := false
  ended : Bool := false
  epochs : SMap (Option (List Nat)) := []
  deriving DecidableEq, Repr

/-- The stream scheduler. -/
structure Streams where
  entries : SMap W512 := []
  /-- ready tasks in admission order (re-admitted tasks at the front) -/
  ready : List Task := []
  /-- number of the next admission -/
  order : Nat := 0
  /-- ingress slots by `ring × 32,768 + slot` -/
  islots : SMap (Option ISlot) := []
  oslots : SMap (Option OSlot) := []
  asm : List Assembly := []
  /-- session that a ring's events go to, plus 1; 0 for none (R310, R380) -/
  bound : SMap Nat := []
  /-- records that wait for a slot of a full completion ring: ring, record (R315) -/
  owed : List (Nat × List Byte) := []
  /-- entries being invalidated -/
  invalidating : List Nat := []
  /-- items of a stream that were discarded whole since the entry was created: GEN of their data, ITEM (R311, R366) -/
  dropped : SMap (List (Nat × Nat)) := []
  /-- admission stopped by a load or by STANDBY: partitions -/
  noAdmit : List Nat := []
  /-- (activity × 64 + resource) refused in the period, holding period + 1 (R322) -/
  refused : SMap Nat := []
  /-- frames of video streams coded since the key frame, and RAP counts (R166, R234) -/
  sinceKey : SMap Nat := []
  keyCount : SMap Nat := []
  readers : SMap Reader := []
  /-- epochs whose TABLE_EPOCH unit an encode stream has emitted (R223) -/
  epochSent : SMap (List Nat) := []
  /-- tokens in a stream's context memory, by `2 × stream`, and in that of a pair's decode core by `2 × stream + 1`: oldest first, for each
  frame its number and the positions of its negative from the first still held to the end (R185, R192) -/
  tokens : SMap (List (Nat × Nat × Nat)) := []
  /-- AES-GCM counters of encode streams (R237) -/
  ivNext : SMap Nat := []
  /-- status code that a stopped partition's rings answer (R271, R355) -/
  stopCode : SMap Nat := []
  deriving DecidableEq, Repr

/-! ### Ethernet ports and HCP (chapter 14) -/

/-- A frame in an egress queue, without FCS; `held` once it has waited for its gate. -/
structure QFrame where
  bytes : List Byte
  held : Bool := false
  deriving DecidableEq, Repr

/-- An HCP message sent and not yet acknowledged: SEQ, datagram payload, sendings. -/
structure HMsg where
  seq : Nat
  bytes : List Byte
  /-- time base when it was last sent, and how often it has been sent again -/
  tb : Nat := 0
  tries : Nat := 0
  deriving DecidableEq, Repr

/-- An HCP session (R378, R379). -/
structure Session where
  port : Nat
  /-- peer MAC and IP address (16 bytes, R385's form) -/
  mac : List Byte
  ip : List Byte
  verMaj : Nat
  verMin : Nat
  retxMax : Nat
  rtoMs : Nat
  window : Nat
  /-- next SEQ to give, highest SEQ received in order -/
  txSeq : Nat := 1
  rxSeq : Nat := 0
  unacked : List HMsg := []
  /-- messages waiting for the window: TYPE, FLAGS, STATUS, payload, SEQ of the request that they answer -/
  queue : List (Nat × Nat × Nat × List Byte × Nat) := []
  /-- stored responses by SEQ of their request (R379) -/
  stored : SMap (List Byte) := []
  /-- requests received ahead of order, by SEQ -/
  early : SMap (List Byte) := []
  ackDue : Bool := false
  /-- time base at the last receipt -/
  lastRx : Nat := 0
  authed : Bool := false
  /-- challenge outstanding and its time (R419) -/
  challenge : Option (List Byte × Nat) := none
  /-- debug scopes unlocked (R427) -/
  debug : Nat := 0
  /-- FLAGS of the owner record when the session opened (R417, R418) -/
  policy : Nat := 0
  /-- report built for the session (R421) -/
  report : List Byte := []
  deriving DecidableEq, Repr

/-- A stream or port gate list in use: start of the current interval on the time base, position, entries (gates, interval). -/
structure OperList where
  base : Nat := 0
  pos : Nat := 0
  len : Nat := 0
  rows : List (Nat × Nat) := []
  deriving DecidableEq, Repr

/-- The Ethernet ports. -/
structure Eth where
  /-- frames waiting by `port × 8 + queue`, oldest first -/
  queues : SMap (List QFrame) := []
  sessions : SMap (Option Session) := []
  oper : SMap OperList := []
  /-- table entries of R373 by `(port × 8 + table) × 2,048 + index` -/
  tables : SMap W256 := []
  /-- stream-gate lists in use, by `port × 256 + gate` -/
  gates : SMap OperList := []
  /-- 802.1CB recovery functions that have taken a frame, by index: highest sequence number, plus 1, history, time of the last
  frame -/
  recov : SMap (Nat × Nat × Nat) := []
  /-- flow meters by `port × 1,024 + index`: what each bucket lacks, in 10^-9 bytes, committed and excess, and when -/
  meters : SMap (Nat × Nat × Nat) := []
  /-- time at which a pending list takes effect: by port, and by `256 + port × 16 + gate` for stream gates -/
  starts : SMap Nat := []
  /-- ITEM numbers of egress rings -/
  items : SMap Nat := []
  /-- credit of the shaped queues by `port × 8 + queue`, in 10^-6 bits, when it stood so, and whether frames waited then -/
  credit : SMap (Int × Nat × Bool) := []
  /-- link down, by port -/
  down : SMap Bool := []
  /-- consecutive Syncs at which the servo asked for its limit (R487) -/
  servo : Nat := 0
  deriving DecidableEq, Repr

/-! ### The Filzel fabric (chapter 13) -/

/-- A run of a slot table (R342). -/
structure FRun where
  start : Nat
  count : Nat
  kind : Nat
  inLink : Nat := 0
  delay : Nat := 0
  chan : Nat := 0
  act : Nat := 0
  deriving DecidableEq, Repr

/-- A route set (R341): the links it never uses and the runs of each link. -/
structure RouteSet where
  absent : List (Nat × Nat) := []
  runs : List (List FRun) := []
  deriving DecidableEq, Repr

/-- A channel: its table entry (R343) and what either end keeps. -/
structure FChan where
  number : Nat
  role : Nat
  kind : Nat
  peer : Nat
  core : Nat
  act : Nat
  unitBytes : Nat
  slots : Nat
  relWord : Nat
  base : Nat
  ctr : Nat
  rctr : Nat
  /-- source: unit and frame to send next; frames acknowledged as intact -/
  unit : Nat := 0
  off : Nat := 0
  acked : List (Nat × Nat) := []
  /-- source: release count and abort generation of the sink, as last learnt -/
  rel : Nat := 0
  rgen : Nat := 0
  /-- source of KIND 1: bytes that the column tail has appended -/
  appended : Nat := 0
  /-- source: the next SEND slot carries CABORT with this unit -/
  cabort : Option Nat := none
  /-- sink: frames placed of units not yet complete; abort generation -/
  placed : List (Nat × Nat) := []
  gen : Nat := 0
  /-- sink: SFRAME of the last CABORT taken -/
  abortAt : Option Nat := none
  /-- its tasks are being aborted because of an abort that arrived on it (R356) -/
  ending : Bool := false
  deriving DecidableEq, Repr

/-- A DATA frame that was sent and not yet acknowledged as intact: frame number on the link at its last start, SEQ, channel
index and place for a frame of this device's own, sendings, contents. -/
structure FSent where
  at_ : Nat
  seq : Nat
  own : Option (Nat × Nat × Nat) := none
  /-- frame number on the link at its first start -/
  born : Nat := 0
  tries : Nat := 1
  bytes : List Byte
  deriving DecidableEq, Repr

/-- A link end. -/
structure FLink where
  light : Bool := false
  /-- 0 down, 1 training, 2 trained -/
  phase : Nat := 0
  /-- lane check running; round; own clean lanes; lanes that the peer reported as not clean in the round before, and in the round before
  that as well -/
  checking : Bool := false
  round : Nat := 0
  rxOk : Nat := 0
  bad : Nat := 0
  bad2 : Nat := 0
  /-- training step last sent; STEP 6 sent and received -/
  sentStep : Nat := 0
  readyTx : Bool := false
  readyRx : Bool := false
  /-- versions agreed -/
  verOk : Bool := false
  peerDev : Nat := 0xFFFF
  peerLink : Nat := 0
  peerDigest : List Byte := []
  rtts : List Nat := []
  delayNs : Nat := 0
  /-- frames sent; SEQ of the next frame; last SEQ received and ACK_MAP -/
  frames : Nat := 0
  txSeq : Nat := 1
  rxSeq : Nat := 0
  ackMap : Nat := 0
  /-- frame index of the last frame sent, plus 1 -/
  lastF : Nat := 0
  sent : List FSent := []
  /-- retransmissions that are due, oldest first; late forwards -/
  retx : List FSent := []
  late : List (List Byte) := []
  /-- frames that arrived for forwarding: arrival slot's frame index, contents -/
  fwd : List (Nat × List Byte) := []
  /-- forwarding slots whose frame did not arrive intact: frame indices of the arrival slot and of the departure slot, out link -/
  gaps : List (Nat × Nat × Nat) := []
  /-- word to ask for, asked by software; word to answer -/
  peekAsk : Option Nat := none
  peekSoft : Bool := false
  peekAns : Option Nat := none
  /-- frames sent at the last peek of a channel's release word, plus 1, by channel index; the release word asked for and not yet
  answered, and whether its answer may have been lost -/
  peeks : SMap Nat := []
  peekOut : Option Nat := none
  peekAgain : Bool := false
  /-- notices to send; SHUTTER frames left -/
  notices : List (Nat × Nat × Nat) := []
  shutLeft : Nat := 0
  /-- consecutive beacons with a skew above 102.4 ns; peer's STEP_CNT plus 1; no skew check before this time -/
  skewRun : Nat := 0
  stepCnt : Nat := 0
  skewFrom : Nat := 0
  /-- time base at the loss of lane lock, plus 1 -/
  lostAt : Nat := 0
  deriving DecidableEq, Repr

/-- The fabric. -/
structure Fabric where
  loaded : Bool := false
  lead : Nat := 0
  digest : List Byte := []
  peers : List (Nat × Nat) := []
  sets : List RouteSet := []
  chans : List FChan := []
  links : SMap FLink := []
  /-- failure set: device, link -/
  fails : List (Nat × Nat) := []
  /-- declarations not yet applied: device, link, target boundary -/
  targets : List (Nat × Nat × Nat) := []
  /-- shutter instant held (R351) -/
  shut : Option Nat := none
  /-- IDLE in place of SEND and FORWARD slots until the time base's boundary (R350) -/
  quiet : Bool := false
  /-- time base at the DONE of the load that brought it (R352) -/
  doneAt : Nat := 0
  deriving DecidableEq, Repr

/-! ### The darkroom (chapter 16) -/

/-- An installed stream key. -/
structure DKey where
  usage : Nat
  key : List Byte
  deriving DecidableEq, Repr

/-! ### Management (chapter 15) -/

/-- What a control processor holds beside MGT_CPUp: pc, mode, mstatus.MIE, the fast CSRs of R412, both banks of integer
registers by `bank × 32 + number`, the sources that it claimed and has not completed, and what debug does to it. -/
structure Cpu where
  pc : W64 := 0
  prv : Nat := 3
  mie : Bool := false
  ftvec : W64 := 0
  fepc : W64 := 0
  fprv : Nat := 0
  fmie : Bool := false
  fastTraps : Nat := 0
  x : SMap W64 := []
  claimed : List Nat := []
  halted : Bool := false
  /-- stage 1 of the watchdog has fired since the last kick; time base of that kick -/
  stage1 : Bool := false
  kick : Nat := 0
  deriving DecidableEq, Repr

/-- The management complex: processors, event moderation, firmware update and restarts. -/
structure Mgt where
  cpus : SMap Cpu := []
  /-- moderation timers that run (R396), and the period, plus 1, in which deliveries were withheld (R397), by processor -/
  coal : SMap Bool := []
  withheld : SMap Nat := []
  /-- firmware bytes staged (R405) -/
  staged : List Byte := []
  /-- ENTRY and SVN of the running firmware -/
  entry : Nat := 0
  svn : Nat := 0
  /-- times of stage-2 resets (R408) and of restarts of cause 1 or 2 (R409), newest first -/
  wdResets : List Nat := []
  restarts : List Nat := []
  deriving DecidableEq, Repr

/-- The shutter (R455 to R463): blocks that have not latched the firing in flight, partitions to freeze and whether to unfreeze
at the next boundary, and whether the pending instant was relayed. -/
structure Shutter where
  latch : List Nat := []
  freeze : Nat := 0
  unfreeze : Bool := false
  relayed : Bool := false
  deriving DecidableEq, Repr

/-- The darkroom: stream keys and slot generations (R422). -/
structure Darkroom where
  keys : SMap (Option DKey) := []
  gens : SMap Nat := []
  /-- next IV_PREFIX (R423) -/
  next : Nat := 0
  /-- debug scopes unlocked since RST_N, and whether a vendor key unlocked (R421) -/
  scopes : Nat := 0
  vendor : Bool := false
  /-- the seed bank answers (R414); requests to the random source since its last reseeding -/
  seedOpen : Bool := false
  requests : Nat := 0
  deriving DecidableEq, Repr

/-! ### Repair and flash (chapters 15 and 17) -/

/-- A location that the repair controller counts (R437): window, count in it, run of suspect windows with the current one,
events of the run's earlier windows, stamp of its last event. -/
structure RLoc where
  loc : Nat
  win : Nat
  count : Nat := 0
  run : Nat := 0
  events : Nat := 0
  last : Nat := 0
  deriving DecidableEq, Repr

/-- A repair between verdict and switch (R442): its journal entry's SEQ, whether it copies, and when its switch is forced. -/
structure RPend where
  loc : Nat
  spare : Nat
  seq : Nat
  copying : Bool
  deadline : Nat
  deriving DecidableEq, Repr

/-- A test of an array or a core that awaits its end: after a verdict (R439), or of a rotated array (R436). -/
structure RTest where
  loc : Nat
  targeted : Bool
  deadline : Nat
  deriving DecidableEq, Repr

/-- The repair controller. -/
structure Repairs where
  locs : List RLoc := []
  pend : List RPend := []
  tests : List RTest := []
  /-- highest stamp before a backward step of the time base (R441) -/
  floor : Nat := 0
  /-- row map: spare row, by `macro × 8,192 + row` -/
  rows : SMap Nat := []
  /-- failed lanes of an HBM pseudo-channel, by `location / 256` -/
  lanes : SMap (List Nat) := []
  /-- excluded optical lanes: mapped out, and to be mapped out at the next training -/
  optical : List Nat := []
  opticalDue : List Nat := []
  /-- retired physical arrays, by core: mask -/
  arrays : SMap Nat := []
  /-- next array to rotate and time base of the last rotation, by core -/
  rot : SMap Nat := []
  rotTb : SMap Nat := []
  /-- cores that change to a degraded variant at the next boundary (R271) -/
  degrade : SMap Nat := []
  /-- PERIOD_S intervals tested -/
  tested : Nat := 0
  /-- corrected errors by class in the current hour: hour, count (R450) -/
  hours : SMap (Nat × Nat) := []
  deriving DecidableEq, Repr

/-- A repair journal entry (R447). -/
structure JEntry where
  kind : Nat
  origin : Nat
  applied : Bool := false
  loc : Nat
  spare : Nat
  tb : Nat
  events : Nat
  deriving DecidableEq, Repr

/-- Flash: it keeps its contents without power. -/
structure Flash where
  /-- the firmware area: bytes of the image last programmed whole; none while the shipped firmware stands -/
  fw : Option (List Byte) := none
  /-- the firmware area is erased or holds what failed its read-back -/
  fwBad : Bool := false
  journal : List JEntry := []
  /-- IV prefixes below this are reserved (R423) -/
  prefixEnd : Nat := 0
  /-- IMG_MIN_SVN, FW_MIN_SVN and SEQ that outlive the owner record (R417, R427) -/
  ownMin : Nat × Nat := (0, 0)
  ownSeq : Nat := 0
  /-- lifetime copies: SEQ and the register words of the window -/
  life : List (Nat × SMap W32) := []
  deriving DecidableEq, Repr

/-! ### The device -/

/-- Power and reset (chapter 19). -/
inductive PState where
  | off | reset | active | entering | standby | leaving
  deriving DecidableEq, Repr

/-- Power, reset filter and time (chapters 14 and 19). -/
structure Power where
  st : PState := .reset
  /-- reset filter level, 0 to 1,000 (R479) -/
  filter : Nat := 1000
  internalHold : Bool := false
  /-- nanoseconds in Reset beyond the microseconds of CLK_RSTTIME -/
  rstNs : Nat := 0
  /-- throttle intervals: did a C-die sensor reach 100 °C, or all stay below 97 °C, since the last interval (R483), by die -/
  hot : List Bool := [false, false]
  cool : List Bool := [true, true]
  /-- sensor kinds whose thermal limit has been reported and not yet re-armed (R482): 0 C-die, 1 L-die, 2 HBM -/
  limit : List Bool := [false, false, false]
  /-- power of the last 10 intervals, newest first -/
  watts : List Nat := []
  /-- last readings of the sensors, in quarters of a degree -/
  temps : List Int := []
  /-- time base at which the drain into Standby ends (R476) -/
  drain : Nat := 0
  /-- time base in units of 2^-32 ns, and its increment per TCLK cycle (R485) -/
  tbAcc : Nat := 0
  tbInc : Nat := 17180123384
  deriving DecidableEq, Repr

/-- What leaves the device, newest first: the model's own record of frames and messages sent (log entry 6). -/
inductive OutMsg where
  /-- an Ethernet frame's bytes on a port -/
  | frame (port : Nat) (bytes : List Byte)
  /-- a Filzel frame's bytes on a link -/
  | filzel (link : Nat) (bytes : List Byte)
  deriving DecidableEq, Repr

/-- Reasons for a fault. -/
inductive Fault where
  /-- Raised by no command of this model: every stop of the H8 is an effect on its state. Safe. -/
  | none
  deriving DecidableEq, Repr

/-- Reasons for a refusal. -/
inductive Refusal where
  /-- A command that has no meaning yet, by its mnemonic. Safe: nothing is proved about it. -/
  | notModelled (mnemonic : String)
  deriving DecidableEq, Repr

/-- The state of the device. -/
structure State where
  /-- commands that wait, first in first out -/
  pending : List Instr := []
  /-- control-space words that differ from their reset value -/
  ctl : SMap W32 := []
  pow : Power := {}
  mem : Memory := {}
  cores : SMap Core := []
  img : Image := {}
  ld : Loader := {}
  str : Streams := {}
  eth : Eth := {}
  fab : Fabric := {}
  drk : Darkroom := {}
  mgt : Mgt := {}
  sht : Shutter := {}
  /-- period number that a resource domain holds (R324): 0 ACLK, 1 HCLK, 2 the L-dies, 3 MCLK -/
  dom : SMap Nat := []
  rep : Repairs := {}
  flash : Flash := {}
  /-- high halves latched for a requester (R494): block base, address, value -/
  latch : SMap (Nat × Nat × Nat) := []
  /-- owner configuration record, empty when unowned (R416) -/
  owner : List Byte := []
  /-- counter that picks the next free value (log entry 3) -/
  freeIdx : Nat := 0
  out : List OutMsg := []
  deriving DecidableEq, Repr

/-- The machine right after reset: in Reset with the filter at 1,000, every register at its reset value, nothing listed in
any memory or table. -/
def State.reset : State := {}

end Sys2Proof.Machine
end

