-- ==== Sys2Proof/Machine/Ops.lean ====
section
/-! DEFINITION. The operations that every family shares: control-space words, sticky status, time, cores and contexts,
store and HBM access with translation and faults, budget counts, and event arrivals. -/

namespace Sys2Proof.Machine

/-- The answer of every meaning. -/
abbrev Out := Host.Outcome State Fault Refusal

/-! ### Setters -/

def State.setCtl (s : State) (c : SMap W32) : State := { s with ctl := c }
def State.setMem (s : State) (m : Memory) : State := { s with mem := m }
def State.setPow (s : State) (p : Power) : State := { s with pow := p }
def State.setCores (s : State) (c : SMap Core) : State := { s with cores := c }
def State.setImg (s : State) (c : Image) : State := { s with img := c }
def State.setLd (s : State) (c : Loader) : State := { s with ld := c }
def State.setEth (s : State) (c : Eth) : State := { s with eth := c }
def State.setFab (s : State) (c : Fabric) : State := { s with fab := c }
def State.setDrk (s : State) (c : Darkroom) : State := { s with drk := c }
def State.setMgt (s : State) (c : Mgt) : State := { s with mgt := c }
def State.setSht (s : State) (c : Shutter) : State := { s with sht := c }
def State.setDom (s : State) (c : SMap Nat) : State := { s with dom := c }
def State.setRep (s : State) (c : Repairs) : State := { s with rep := c }
def State.setFlash (s : State) (c : Flash) : State := { s with flash := c }
def State.setStr (s : State) (c : Streams) : State := { s with str := c }
/-- Records a frame or message that leaves the device. -/
def State.emit (s : State) (m : OutMsg) : State := { s with out := m :: s.out }
/-- The index of the next free value, and the state that has used it (log entry 3). -/
def State.fresh (s : State) : Nat × State := (s.freeIdx, { s with freeIdx := s.freeIdx + 1 })

/-! ### Control-space words (R6, R490) -/

/-- The control-space word at byte address `a` (a multiple of 4). -/
def rd32 (s : State) (a : Nat) : Nat := (SMap.get (resetWord a) s.ctl a).toNat
/-- Hardware writes the word at `a`. -/
def wr32 (s : State) (a v : Nat) : State := s.setCtl (SMap.set (resetWord a) s.ctl a (BitVec.ofNat 32 v))
/-- The 64-bit register at `a`. -/
def rd64 (s : State) (a : Nat) : Nat := rd32 s a + rd32 s (a + 4) * 2 ^ 32
/-- Hardware writes the 64-bit register at `a`. -/
def wr64 (s : State) (a v : Nat) : State := wr32 (wr32 s a v) (a + 4) (v / 2 ^ 32)
/-- Bits `[lo + n - 1 : lo]` of the word at `a`. -/
def rdBits (s : State) (a lo n : Nat) : Nat := bits (rd32 s a) lo n
/-- Replaces bits `[lo + n - 1 : lo]` of the word at `a`. -/
def wrBits (s : State) (a lo n v : Nat) : State := wr32 s a (setBits (rd32 s a) lo n v)
/-- Adds `n` to a 64-bit counter; it wraps at 2^64. -/
def count64 (s : State) (a n : Nat) : State := wr64 s a (rd64 s a + n)
/-- Adds `n` to a lifetime counter, which stays at 2^64 − 1 (R450). -/
def satCount64 (s : State) (a n : Nat) : State := wr64 s a (min (rd64 s a + n) (2 ^ 64 - 1))
/-- Sets bits of the word at `a`. -/
def orWord (s : State) (a m : Nat) : State := wr32 s a (rd32 s a ||| m)

/-- STICKY bits of R492. -/
def stickyCE : Nat := 1
def stickyUE : Nat := 2
def stickyABORT : Nat := 4
def stickySTALL : Nat := 8
def stickyTHR : Nat := 16

/-- Sets a STICKY bit of the block at `base`. -/
def sticky (s : State) (base m : Nat) : State := orWord s (base + 0x10) m
/-- A block raises a status code: STICKY.ABORT is set and LAST holds the code (R492). -/
def raise (s : State) (base code : Nat) : State :=
  wr32 s (base + 0x10) (setBits (rd32 s (base + 0x10) ||| stickyABORT) 16 16 code)
/-- The block that bits [15:8] of a status code name, among those outside cores, controllers and ports (R490, R496). -/
def codeBase (code : Nat) : Option Nat :=
  match code / 256 with
  | 0x01 | 0x0F => some mgtBase
  | 0x02 => some drkBase
  | 0x03 => some repBase
  | 0x06 => some clkBase
  | 0x09 => some strBase
  | 0x0E => some fabBase
  | _ => none
/-- The block that a status code names raises it. -/
def raiseBy (s : State) (code : Nat) : State :=
  match codeBase code with
  | some b => raise s b code
  | none => s

/-! ### Time (R323, R485) -/

/-- The time base in nanoseconds. -/
def tb (s : State) : Nat := s.pow.tbAcc / 2 ^ 32 % 2 ^ 64
/-- The period number in TCLK. -/
def period (s : State) : Nat := rd32 s (budBase + 0x40)

/-! ### Power states (R474) -/

/-- The boot ROM runs recovery: MGT_BOOT.MODE is 2 (R404). -/
def recovery (s : State) : Bool := rdBits s (mgtBase + 0x540) 0 3 == 2
/-- The codec side runs: Active, or draining into Standby, and not gated by recovery (R404, R474). -/
def codecOn (s : State) : Bool := (s.pow.st == .active || s.pow.st == .entering) && !recovery s
/-- The device is out of Reset and Off: management, HCP and events act. -/
def mgmtOn (s : State) : Bool := s.pow.st != .off && s.pow.st != .reset

/-! ### Cores and contexts -/

/-- Core `n`. -/
def core (s : State) (n : Nat) : Core := SMap.get {} s.cores n
/-- Replaces core `n`. -/
def setCore (s : State) (n : Nat) (c : Core) : State := s.setCores (SMap.set {} s.cores n c)
/-- Context `c` of core `n`. -/
def ctxOf (s : State) (n c : Nat) : Ctx := SMap.get {} (core s n).ctxs c
/-- Replaces context `c` of core `n`. -/
def setCtx (s : State) (n c : Nat) (x : Ctx) : State :=
  setCore s n { core s n with ctxs := SMap.set {} (core s n).ctxs c x }
/-- The task on context `c` of core `n`. -/
def taskOf (s : State) (n c : Nat) : Option Task := (ctxOf s n c).task
/-- Applies `f` to the task on a context. -/
def updTask (s : State) (n c : Nat) (f : Task → Task) : State :=
  setCtx s n c { ctxOf s n c with task := (ctxOf s n c).task.map f }
/-- The image's configuration of core `n` (R252). -/
def coreCfg (s : State) (n : Nat) : CoreCfg := SMap.get {} s.img.cores n
/-- The partition of core `n`, 0xFF for none. -/
def partOf (s : State) (n : Nat) : Nat := (coreCfg s n).part
/-- Is core `n` retired (REP_COREn, R435)? -/
def coreRetired (s : State) (n : Nat) : Bool := bit (rd32 s (repBase + 0x100 + 8 * n)) 9
/-- Does a core ignore writes: it belongs to no partition or is retired (R17, R495)? -/
def coreClosed (s : State) (n : Nat) : Bool := partOf s n = 0xFF || coreRetired s n
/-- The variant that core `n` runs. -/
def variantOf (s : State) (n : Nat) : Variant := SMap.get {} (coreCfg s n).progs (coreCfg s n).variant
/-- Entry record `e` of core `n`. -/
def sentry (s : State) (n e : Nat) : Option SEntry := (variantOf s n).entries[e]?

/-- Program counter of context `c` (SEQ_PCc). -/
def pcOf (s : State) (n c : Nat) : Nat := rdBits s (coreBase n 0 + 0x80 + 8 * c) 0 14
def setPc (s : State) (n c v : Nat) : State := wr32 s (coreBase n 0 + 0x80 + 8 * c) (v % 2 ^ 14)
/-- Semaphore `i` (SEQ_SEMs). -/
def semOf (s : State) (n i : Nat) : Nat := rdBits s (coreBase n 0 + 0x100 + 4 * i) 0 16
def setSem (s : State) (n i v : Nat) : State := wr32 s (coreBase n 0 + 0x100 + 4 * i) v
/-- Sets SEQ_STATUS.ACTIVE and WAITING of context `c`. -/
def setSeqStatus (s : State) (n c : Nat) (act wait : Bool) : State :=
  wr32 s (coreBase n 0 + 0x40) (setBit (setBit (rd32 s (coreBase n 0 + 0x40)) c act) (8 + c) wait)

/-! ### Shutter firing (R455, R456, R458) -/

/-- The blocks that latch a firing: 0–7 cores, 8 budget enforcer, 9 event controller, 10 stream scheduler, 11–18 HBM
controllers, 19 fabric, 20–29 ports. A retired core does not, nor what is gated in Standby. -/
def latchBlocks (s : State) : List Nat :=
  (List.range 30).filter (fun b =>
    if b < 8 then codecOn s && !bit (rd32 s (repBase + 0x100 + 8 * b)) 9
    else codecOn s || (b ≠ 19 && (b < 20 || 28 ≤ b)))

/-- A firing from source `src`, at this TCLK edge: dropped and counted while one is in flight or a kept sheet waits. -/
def fire (s : State) (src : Nat) : State :=
  let st := rd32 s (shtBase + 0x58)
  let ct := rd32 s (shtBase + 0x40)
  if bit st 0 || (bit ct 1 && bit st 1) then count64 s (shtBase + 0x70) 1
  else
    let shot := (bits st 16 16 + 1) % 65536
    let s := wr32 s (shtBase + 0x58) (setBits (setBits (setBit st 0 true) 4 3 src) 16 16 shot)
    let s := wr64 s (shtBase + 0x60) (tb s)
    s.setSht { s.sht with latch := latchBlocks s, freeze := if bit ct 0 then s.sht.freeze ||| bits ct 8 8 else s.sht.freeze }

/-! ### Events (R392, R393) -/

/-- Takes an arrival of source `src`: PEND is set, CNT counts to at most 255 and INFO is latched (R393); an armed event
source fires the shutter (R455). The controller does not run in recovery (R404). -/
def arrive (s : State) (src info : Nat) : State :=
  if recovery s then s else
  let s := orWord s (evcBase + 0x100 + 4 * (src / 32)) (2 ^ (src % 32))
  let cnt := rdBits s (evcBase + 0x3000 + 4 * src) 0 8
  let s := wrBits s (evcBase + 0x3000 + 4 * src) 0 8 (min (cnt + 1) 255)
  let s := wr32 s (evcBase + 0x4000 + 4 * src) info
  if bit (rd32 s (shtBase + 0x40)) 2 && rdBits s (shtBase + 0x40) 16 10 = src then
    fire (wrBits s (shtBase + 0x40) 2 1 0) 2
  else s

/-! ### Aborting unit work -/

/-- Why a unit's work aborts its task: the status code and the address concerned. -/
structure Abort where
  code : Nat
  addr : Nat := 0
  deriving DecidableEq, Repr

/-- Status codes of R496, R316 and R360 that units raise. -/
def cChainOrder : Nat := 0x1001
def cVerifyMismatch : Nat := 0x1002
def cCompanion : Nat := 0x1003
def cSemOverflow : Nat := 0x1004
def cArrayCheck : Nat := 0x1101
def cBankParity : Nat := 0x1102
def cChainMismatch : Nat := 0x1103
def cVectorParity : Nat := 0x1201
def cLaneError : Nat := 0x1301
def cSymbolRange : Nat := 0x1302
def cEpochMissing : Nat := 0x1303
def cRowInvalid : Nat := 0x1304
def cTableBusy : Nat := 0x1305
def cTableInvalid : Nat := 0x1306
def cTableEcc : Nat := 0x1307
def cMotionRange : Nat := 0x1401
def cMotionEcc : Nat := 0x1402
def cAddressRange : Nat := 0x1601
def cStoreEcc : Nat := 0x1602
def cTranslation : Nat := 0x1603
def cWriteProtect : Nat := 0x1604
def cPageUnavailable : Nat := 0x1605
def cHbmEcc : Nat := 0x0A01
def cBlockMalformed : Nat := 0x0B01

/-! ### On-chip stores (R273 to R276) -/

/-- Half of the shared store on a C-die, in bytes (R253). -/
def halfBytes (s : State) (die : Nat) : Nat :=
  2 ^ 20 * (192 - ((List.range 4).map (fun i => (coreCfg s (4 * die + i)).tileMib)).sum)

/-- The byte of the store map that a store address of core `n` names, if any (R274). -/
def storeKey (s : State) (n a : Nat) : Option Nat :=
  if a < 2 ^ 20 * (coreCfg s n).tileMib then some (n * 2 ^ 32 + a)
  else if 0x80000000 ≤ a ∧ a < 0x80000000 + halfBytes s 0 then some (2 ^ 40 + a)
  else if 0xC0000000 ≤ a ∧ a < 0xC0000000 + halfBytes s 1 then some (2 ^ 40 + a)
  else none

/-- Is a store address inside the store regions of core `n`'s task (R275)? -/
def inRegion (s : State) (n a : Nat) : Bool :=
  match storeKey s n a with
  | none => false
  | some k => k < 2 ^ 40 || s.img.shared.any (fun (p, lo, hi) => p = partOf s n && lo ≤ a && a < hi)

/-- Reads `len` bytes of store for core `n` (R275, R276). -/
def storeRead (s : State) (n a : Nat) : Nat → Except Abort (List Byte)
  | 0 => .ok []
  | len + 1 =>
    match storeKey s n a with
    | none => .error ⟨cAddressRange, a⟩
    | some k =>
      if !inRegion s n a then .error ⟨cAddressRange, a⟩
      else if SMap.get false s.mem.badWord (k / 8) then .error ⟨cStoreEcc, a⟩
      else match storeRead s n (a + 1) len with
        | .error e => .error e
        | .ok bs => .ok (SMap.get 0 s.mem.store k :: bs)

/-- Memory with the byte at a key of the store map written, and the word's check bits fresh. -/
def Memory.putStore (m : Memory) (k : Nat) (b : Byte) : Memory :=
  { m with store := SMap.set 0 m.store k b, badWord := SMap.set false m.badWord (k / 8) false }
/-- Is a write of `len` bytes from key `k` on the byte's word not made: the word is uncorrectable and only a part of it is written (R276)? -/
def Memory.storeHeld (m : Memory) (k len : Nat) : Bool :=
  SMap.get false m.badWord (k / 8) && !(k % 8 = 0 && 8 ≤ len)

/-- The device's own write at consecutive keys of the store map: what would write a part of an uncorrectable word is not made (R276). -/
def keyWrite (m : Memory) (k : Nat) : List Byte → Memory
  | [] => m
  | b :: bs => keyWrite (if m.storeHeld k (bs.length + 1) then m else m.putStore k b) (k + 1) bs

/-- Writes bytes to store for core `n`, one after the other; a write of part of an uncorrectable word is not made and
aborts, a write of a whole word stores fresh check bits (R276). -/
def storeWrite (s : State) (n a : Nat) : List Byte → Except Abort State
  | [] => .ok s
  | b :: bs =>
    match storeKey s n a with
    | none => .error ⟨cAddressRange, a⟩
    | some k =>
      if !inRegion s n a then .error ⟨cAddressRange, a⟩
      else if s.mem.storeHeld k (bs.length + 1) then .error ⟨cStoreEcc, a⟩
      else storeWrite (s.setMem (s.mem.putStore k b)) n (a + 1) bs

/-- Little-endian number of `len` bytes in the store of core `n`; out-of-range bytes read as 0. Used by the device's own
accesses to locations that the loader has checked. -/
def storePeek (s : State) (n a len : Nat) : Nat :=
  match storeRead s n a len with
  | .ok bs => leNat bs
  | .error _ => 0

/-- The device's own write to a checked location; a location outside the store is left alone. -/
def storePoke (s : State) (n a len v : Nat) : State :=
  match storeWrite s n a (leBytes len v) with
  | .ok s => s
  | .error _ => s

/-! ### HBM and translation (R277 to R282) -/

/-- Page entry of a partition's VPN, if listed: PPN in [15:0], W in [16], C in [17]. -/
def pageEntry (s : State) (part vpn : Nat) : Option (Nat × Bool × Bool) :=
  let e := SMap.get 0 s.img.pages (part * 2 ^ 27 + vpn)
  if e = 0 then none else some (bits e 27 16, bit e 43, bit e 44)

/-- HBM stack of a physical page, channel and index (R277). -/
def pageStack (p : Nat) : Nat := p % 8
def pageChan (p : Nat) : Nat := p / 8 % 16
def pageIdx (p : Nat) : Nat := p / 128

/-- Has a stack relocated a channel, and which (HBM_STATE.RELOCV and RELOC)? -/
def relocatedChan (s : State) (st : Nat) : Option Nat :=
  let w := rd32 s (hbmBase st + 0x40)
  if bit w 21 then some (bits w 16 4) else none
/-- The channels of a stack but `c`, ascending. -/
def otherChans (c : Nat) : List Nat := (List.range 16).filter (· ≠ c)

/-- Where a physical page lies in its stack, channel and index: index i below 480 of the relocated channel lies in the (i mod 15)-th
remaining channel, at index 480 + i / 15 (R277, R279). -/
def pagePlace (s : State) (p : Nat) : Nat × Nat :=
  let c := pageChan p
  let i := pageIdx p
  if relocatedChan s (pageStack p) = some c && i < 480 then (nth c (otherChans c) (i % 15), 480 + i / 15) else (c, i)
/-- The page whose contents lie at a channel and index of a stack: the inverse of the relocation. -/
def pageAt (s : State) (st c i : Nat) : Nat :=
  match relocatedChan s st with
  | some r => if c ≠ r && 480 ≤ i then ((i - 480) * 15 + (otherChans r).idxOf c) * 128 + r * 8 + st else i * 128 + c * 8 + st
  | none => i * 128 + c * 8 + st

/-- Is a physical page unavailable (R279): does it lie in a retired channel, from which nothing moved it? -/
def pageUnavailable (s : State) (p : Nat) : Bool := bit (rd32 s (hbmBase (pageStack p) + 0x40)) (pagePlace s p).1

/-- Translates a byte's virtual address (R281, R282): the HBM byte, its page and the page's C bit. -/
def translate (s : State) (part va : Nat) (write packed : Bool) : Except Abort (Nat × Nat × Bool) :=
  match pageEntry s part (bits va 21 27) with
  | none => .error ⟨cTranslation, va⟩
  | some (ppn, w, c) =>
    if write && !w then .error ⟨cWriteProtect, va⟩
    else if pageUnavailable s ppn then .error ⟨cPageUnavailable, va⟩
    else if packed && c then .error ⟨cAddressRange, va⟩
    else .ok (ppn * 2 ^ 21 + bits va 0 21, ppn, c)

/-- The 48-bit virtual address at `va + i`. -/
def vaAdd (va i : Nat) : Nat := (va + i) % 2 ^ 48

/-- Memory with the byte at an HBM key written, and the sector's check bits fresh. -/
def Memory.putHbm (m : Memory) (k : Nat) (b : Byte) : Memory :=
  { m with hbm := SMap.set 0 m.hbm k b, badSector := SMap.set false m.badSector (k / 32) false }
/-- Is a write of `len` bytes from key `k` on the byte's sector not made: the sector is uncorrectable and only a part of it is written
(R278)? -/
def Memory.hbmHeld (m : Memory) (k len : Nat) : Bool :=
  SMap.get false m.badSector (k / 32) && !(k % 32 = 0 && 32 ≤ len)

/-- An access meets an uncorrectable error at an HBM key: the controller counts it and raises its code and event, which names the
channel where the page lies (R278, R392). -/
def hbmError (s : State) (k : Nat) : State :=
  let p := k / 2 ^ 21
  let b := hbmBase (pageStack p)
  arrive (raise (sticky (count64 s (b + 0xB0) 1) b stickyUE) b cHbmEcc) (160 + 8 * pageStack p + 1) (pagePlace s p).1

/-- Reads `len` bytes of HBM at a virtual address of a partition. -/
def hbmRead (s : State) (part : Nat) (packed : Bool) (va : Nat) : Nat → Except Abort (List Byte)
  | 0 => .ok []
  | len + 1 =>
    match translate s part va false packed with
    | .error e => .error e
    | .ok (k, _, _) =>
      if SMap.get false s.mem.badSector (k / 32) then .error ⟨cHbmEcc, va⟩
      else match hbmRead s part packed (vaAdd va 1) len with
        | .error e => .error e
        | .ok bs => .ok (SMap.get 0 s.mem.hbm k :: bs)

/-- Writes bytes to HBM at a virtual address; a partial write of an uncorrectable sector is not made and aborts (R278). -/
def hbmWrite (s : State) (part : Nat) (packed : Bool) (va : Nat) : List Byte → Except Abort State
  | [] => .ok s
  | b :: bs =>
    match translate s part va true packed with
    | .error e => .error e
    | .ok (k, _, _) =>
      if s.mem.hbmHeld k (bs.length + 1) then .error ⟨cHbmEcc, va⟩
      else hbmWrite (s.setMem (s.mem.putHbm k b)) part packed (vaAdd va 1) bs

/-- A byte of HBM for the scheduler and the ports: 0 where nothing is mapped, a free value in an uncorrectable sector (log entry
117). -/
def hbmByte (s : State) (part va : Nat) : Byte :=
  match translate s part va false false with
  | .error _ => 0
  | .ok (k, _, _) => if SMap.get false s.mem.badSector (k / 32) then Config.lostByte s.freeIdx k else SMap.get 0 s.mem.hbm k
/-- Bytes of HBM at a virtual address for the scheduler and the ports. -/
def hbmPeek (s : State) (part va len : Nat) : List Byte := (List.range len).map (fun i => hbmByte s part (vaAdd va i))

/-- One byte of a write of `len` bytes by the scheduler or a port: what cannot be translated, and what would write a part of an
uncorrectable sector, is not made (R278, R282). -/
def hbmPutByte (s : State) (part va len : Nat) (b : Byte) : State :=
  match translate s part va true false with
  | .error _ => s
  | .ok (k, _, _) => if s.mem.hbmHeld k len then s else s.setMem (s.mem.putHbm k b)
/-- The scheduler's and the ports' own write of bytes, with none of the block state. -/
def hbmPut (s : State) (part va : Nat) : List Byte → State
  | [] => s
  | b :: bs => hbmPut (hbmPutByte s part va (bs.length + 1) b) part (vaAdd va 1) bs

/-! ### Compressed pages (R300, R303) -/

/-- The HBM byte key of a virtual address and whether its page has C = 1; none where nothing is mapped. -/
def hbmKey (s : State) (part va : Nat) : Option (Nat × Bool) :=
  match pageEntry s part (bits va 21 27) with
  | some (p, _, c) => some (p * 2 ^ 21 + bits va 0 21, c)
  | none => none
/-- Stack of an HBM byte key. -/
def keyStack (k : Nat) : Nat := pageStack (k / 2 ^ 21)
/-- Contents of a 4 KiB block by its number. -/
def blockBytes (s : State) (b : Nat) : List Byte := SMap.getAll 0 s.mem.hbm (b * 4096) 4096
/-- Bytes that a write of a block in state `st` stores. -/
def storeCost (st : Nat) : Nat := if st ≤ 127 then 32 * st else 4096

/-- A block of a page with C = 1 has been written: its state byte follows its contents. -/
def noteState (s : State) (b : Nat) : State := s.setMem { s.mem with blk := SMap.set 0 s.mem.blk b (blockState (blockBytes s b)) }
/-- Counts the compression of a block that is stored in state `st`. -/
def countPacked (s : State) (b st : Nat) : State :=
  let k := blcBase (keyStack (b * 4096))
  let s := count64 (count64 s (k + 0xA0) 1) (k + 0xB8) 4096
  let s := if st = 128 then count64 s (k + 0xA8) 1 else if st = 0 then count64 s (k + 0xB0) 1 else s
  count64 s (k + 0xC0) (storeCost st)

/-- The scheduler's and the ports' own write; the blocks of C = 1 pages that it touches are compressed anew. -/
def hbmPoke (s : State) (part va : Nat) (bs : List Byte) : State :=
  let ks := ((List.range bs.length).filterMap (fun i => hbmKey s part (vaAdd va i))).filter (·.2)
  ((ks.map (fun k => k.1 / 4096)).eraseDups).foldl (fun s b =>
    let s := noteState s b
    countPacked s b (SMap.get 0 s.mem.blk b)) (hbmPut s part va bs)

/-- Counts the uncorrectable sectors that a read of the scheduler or of a port meets (R278), and uses up the free value of its bytes. -/
def noteLost (s : State) (part va len : Nat) : State :=
  let ks := (List.range len).filterMap (fun i => match translate s part (vaAdd va i) false false with | .ok (k, _, _) => some (k / 32) | .error _ => none)
  let lost := ks.eraseDups.filter (fun x => SMap.get false s.mem.badSector x)
  if lost.isEmpty then s else lost.foldl (fun s x => hbmError s (x * 32)) s.fresh.2

/-! ### Budgets (R322, R331) -/

/-- Address of BUD_REMa_r. -/
def budRem (a r : Nat) : Nat := budBase + 0x1000 + 512 * a + 8 * r
/-- Address of BUD_THRa_r. -/
def budThr (a r : Nat) : Nat := budBase + 0x5000 + 512 * a + 8 * r
/-- Address of BUD_LIMa_r. -/
def budLim (a r : Nat) : Nat := budBase + 0x9000 + 512 * a + 8 * r

/-- Remaining count of activity `a` on resource `r`, signed. -/
def remOf (s : State) (a r : Nat) : Int := toSigned 64 (rd64 s (budRem a r))
def setRem (s : State) (a r : Nat) (m : Int) : State := wr64 s (budRem a r) (ofSigned 64 m)
/-- Charges `n` units (R322). -/
def charge (s : State) (a r n : Nat) : State := setRem s a r (remOf s a r - n)
/-- Is work of activity `a` admitted at resource `r`? -/
def admitted (s : State) (a r : Nat) : Bool := decide (remOf s a r > 0)

/-- Records that activity `a` was refused on resource `r`: once per period, BUD_THR and the lifetime throttle counter of
the resource's kind count it (R322, R450). -/
def refused (s : State) (a r : Nat) : State :=
  if SMap.get 0 s.str.refused (a * 64 + r) = period s + 1 then s
  else
    let s := s.setStr { s.str with refused := SMap.set 0 s.str.refused (a * 64 + r) (period s + 1) }
    let s := count64 s (budThr a r) 1
    let kind := if r < 8 then 0 else if r < 16 then 1 else if r < 24 then 2 else 3
    satCount64 (sticky s budBase stickyTHR) (lfcBase + 0x300 + 8 * kind) 1

/-! ### HBM bytes charged (R280, R300) -/

/-- Charges bytes to an activity at a stack, and counts them in HBM_BYTES. -/
def chargeHbm (s : State) (a stack n : Nat) : State := count64 (charge s a (16 + stack) n) (hbmBase stack + 0xA0) n

/-- Sectors of its block that a collection touches, and whether it covers the whole block. -/
def Coll.sectors (c : Coll) : Nat := ((List.range 128).filter (fun i => bits c.mask (32 * i) 32 ≠ 0)).length
def Coll.whole (c : Coll) : Bool := c.mask = 2 ^ 4096 - 1

/-- Bytes that the fetch of a collection's block moves: its stored sectors, nothing for zeros, the covered sectors of a raw block. -/
def Coll.fetch (c : Coll) : Nat := if c.old ≤ 127 then 32 * c.old else 32 * c.sectors

/-- Counts the bytes of a fetch in its compressor channel, and charges them with `more` bytes. -/
def chargeFetch (s : State) (a more : Nat) (c : Coll) : State :=
  let k := keyStack (c.blk * 4096)
  let s := count64 s (blcBase k + 0xB8) (if c.old ≤ 127 then 4096 else c.fetch)
  chargeHbm (count64 s (blcBase k + 0xC0) c.fetch) a k (c.fetch + more)

/-- Ends a collection of reads: they were served from one fetch of the block. -/
def endReads (s : State) (a : Nat) : Option Coll → State
  | none => s
  | some c => chargeFetch s a 0 c
/-- Ends a collection of writes: a whole block is stored without a read, any other with one read-modify-write. -/
def endWrites (s : State) (a : Nat) : Option Coll → State
  | none => s
  | some c =>
    let st := SMap.get 0 s.mem.blk c.blk
    let s := countPacked s c.blk st
    if c.whole then chargeHbm s a (keyStack (c.blk * 4096)) (storeCost st) else chargeFetch s a (storeCost st) c
/-- Ends what the channels gather for a run that ends. -/
def endColls (s : State) (a : Nat) (m : Mover) : State := endWrites (endReads s a m.reads) a m.writes

/-- Consecutive equal keys, with the number of bytes of each. -/
def groupRuns : List Nat → List (Nat × Nat)
  | [] => []
  | k :: ks => match groupRuns ks with
    | (k', n) :: r => if k' = k then (k, n + 1) :: r else (k, 1) :: (k', n) :: r
    | [] => [(k, 1)]

/-- A collection that a request of `len` bytes from HBM key `k` joins, when it is of the same block; `old` is the block's state. -/
def joinColl (c : Option Coll) (k len old : Nat) : Coll :=
  let m := (2 ^ len - 1) * 2 ^ (k % 4096)
  match c with
  | some c => if c.blk = k / 4096 then { c with mask := c.mask ||| m } else ⟨k / 4096, old, m⟩
  | none => ⟨k / 4096, old, m⟩
/-- The collection that a request at HBM key `k` ends: one of another block. -/
def leftColl (c : Option Coll) (k : Nat) : Option Coll := c.filter (fun x => x.blk ≠ k / 4096)

/-- Charges 32 bytes for each sector that a request touches; a part of a sector that is written is read and written (R280). -/
def chargeSectors (s : State) (a : Nat) (write : Bool) (k len : Nat) : State :=
  (groupRuns ((range' k len).map (· / 32))).foldl (fun s (sec, n) =>
    chargeHbm s a (keyStack (sec * 32)) (if write && n < 32 then 64 else 32)) s

/-- Charges a read request, or gathers it when its page has C = 1. -/
def chargeRead (s : State) (a : Nat) (key : Option (Nat × Bool)) (len : Nat) (m : Mover) : State × Mover :=
  match key with
  | none => (s, m)
  | some (k, false) => (chargeSectors (endReads s a m.reads) a false k len, { m with reads := none })
  | some (k, true) =>
    (endReads s a (leftColl m.reads k), { m with reads := some (joinColl m.reads k len (SMap.get 0 s.mem.blk (k / 4096))) })
/-- Charges a write request, or gathers it; `old` is the state of its block before the write, which the state byte now follows. -/
def chargeWrite (s : State) (a : Nat) (key : Option (Nat × Bool)) (len old : Nat) (m : Mover) : State × Mover :=
  match key with
  | none => (s, m)
  | some (k, false) => (chargeSectors (endWrites s a m.writes) a true k len, { m with writes := none })
  | some (k, true) =>
    (endWrites (noteState s (k / 4096)) a (leftColl m.writes k), { m with writes := some (joinColl m.writes k len old) })

/-- A request of core `n`'s DMA engine translates a virtual address through its cache of 256 entries: a page that is not there counts in
DMA_TLBMISS and takes a place, of a full cache that of an entry that the spec does not name (log entry 118). -/
def touchTlb (s : State) (n va : Nat) : State :=
  let v := bits va 21 27
  let t := (core s n).tlb
  if t.contains v then s
  else
    let s := count64 s (coreBase n 6 + 0xC8) 1
    if t.length < 256 then setCore s n { core s n with tlb := v :: t }
    else
      let (i, s) := s.fresh
      setCore s n { core s n with tlb := v :: t.eraseIdx (Config.freeNat i % 256) }

end Sys2Proof.Machine
end

