-- ==== Sys2Proof/Machine/Operands.lean ====
section
/-! DEFINITION. Descriptors and operand walks: the descriptor table (R84, R85, R504), input address generation (R86 to R91,
R95, R97), FP4 scale planes (R506), element order and the position cursor (R87, R503), and large-filter bands (R102). -/

namespace Sys2Proof.Machine

/-! ### Descriptor fields (R85) -/

def dBase (d : Nat) : Nat := bits d 0 32
def dRowPitch (d : Nat) : Nat := bits d 32 32
def dPixPitch (d : Nat) : Nat := bits d 64 16
def dRingRows (d : Nat) : Nat := bits d 80 12
def dInH (d : Nat) : Nat := bits d 96 16 + 1
def dInW (d : Nat) : Nat := bits d 112 16 + 1
def dCg (d : Nat) : Nat := bits d 128 16 + 1
def dCOff (d : Nat) : Nat := bits d 144 16
def dBandStep (d : Nat) : Nat := bits d 160 16
def dKh (d : Nat) : Nat := bits d 176 6 + 1
def dKw (d : Nat) : Nat := bits d 184 12 + 1
def dDilY (d : Nat) : Nat := bits d 196 3 + 1
def dDilX (d : Nat) : Nat := bits d 200 3 + 1
def dStrideY (d : Nat) : Nat := bits d 204 4 + 1
def dStrideX (d : Nat) : Nat := bits d 208 4 + 1
def dPadT (d : Nat) : Nat := bits d 212 4
def dPadL (d : Nat) : Nat := bits d 220 4
def dFill (d : Nat) : Nat := bits d 228 2
def dRegroup (d : Nat) : Nat := bits d 230 2
def dBands (d : Nat) : Nat := 2 ^ bits d 233 3
def dPool (d : Nat) : Nat := bits d 236 3
def dAvgPad (d : Nat) : Bool := bit d 239
def dFillValue (d : Nat) : Nat := bits d 240 16
def dOy0 (d : Nat) : Nat := bits d 256 16
def dOx0 (d : Nat) : Nat := bits d 272 16
def dTileW (d : Nat) : Nat := bits d 288 16 + 1
def dAdvSlice (d : Nat) : Nat := bits d 336 16
def dPosCur (d : Nat) : Nat := bits d 352 32
def dScaleBase (d : Nat) : Nat := bits d 384 32
def dScalePitch (d : Nat) : Nat := bits d 416 32

/-- Store address of descriptor `i` of core `n` (R84). -/
def descAddr (s : State) (n i : Nat) : Nat := (coreCfg s n).descBase + 64 * i
/-- Descriptor `i` of core `n`, read from its table in the tile store; an index beyond the table is outside it. -/
def descOf (s : State) (n i : Nat) : Except Abort Nat :=
  if i ≥ (coreCfg s n).descCount then .error ⟨cAddressRange, descAddr s n i⟩
  else (storeRead s n (descAddr s n i) 64).map leNat
/-- Writes POS_CUR of descriptor `i` (R87). -/
def setPosCur (s : State) (n i v : Nat) : State := storePoke s n (descAddr s n i + 44) 4 v
/-- Advances POS_CUR of descriptor `i` by `k` positions. -/
def advPos (s : State) (n i k : Nat) : State := setPosCur s n i (storePeek s n (descAddr s n i + 44) 4 + k)
/-- POS_CUR after a job that read or wrote `e` elements through a descriptor (R503). -/
def advElems (s : State) (n i e : Nat) : State :=
  match descOf s n i with
  | .ok d => advPos s n i (ceilDiv e (dCg d))
  | .error _ => s

/-- Address-generator descriptors that an instruction word names, each with its queue: 0–3 the arrays, 4 vector unit, 5 entropy
engine, 6 motion engine (R84, R118, R159, R182). Only IN1_DESC of a VEC may be none. -/
def walksOf (w : Nat) : List (Nat × Nat) :=
  let op := bits w 0 8
  if op = 0x11 then [(bits w 16 16, bits w 8 2)]
  else if op = 0x12 then [(bits w 24 16, bits w 8 2)]
  else if op = 9 then ((bits w 22 16 :: [bits w 38 16].filter (· ≠ 0xFFFF)) ++ [bits w 54 16]).map (fun i => (i, 4))
  else if op = 0x0A && bits w 8 2 < 2 then [(bits w 16 16, 5), (bits w 32 16, 5)]
  else if op = 0x0B then (if bits w 8 2 = 0 then [bits w 10 16, bits w 26 16, bits w 42 16, bits w 74 16]
    else [bits w 26 16, bits w 42 16, bits w 58 16]).map (fun i => (i, 6))
  else []

/-- The words of the program region from instruction `pc` to END. -/
def wordsToEnd (s : State) (n pc : Nat) : Nat → List Nat
  | 0 => []
  | fuel + 1 =>
    let w := storePeek s n (16 * pc) 16
    if bits w 0 8 = 0x1F then [] else w :: wordsToEnd s n (pc + 1) fuel

/-- At the start of an entry's program, POS_CUR of every descriptor that an instruction from `pc` to END names becomes 0 (R87). -/
def resetWalks (s : State) (n pc : Nat) : State :=
  (((wordsToEnd s n pc ((variantOf s n).program.length - pc)).flatMap walksOf).filter (fun x => x.1 < (coreCfg s n).descCount)).foldl
    (fun s x => setPosCur s n x.1 0) s

/-! ### Addresses -/

/-- Row slot of row `r` (R86). -/
def rowSlotIdx (d r : Nat) : Nat := if dRingRows d = 0 then r else r % dRingRows d
def rowSlot (d r : Nat) : Nat := dBase d + rowSlotIdx d r * dRowPitch d

/-- Resolution of an index outside the map (R91); `none`, which a negative result is too (R86), takes the zero or constant
fill. -/
def resolve (i : Int) (n fill : Nat) : Option Nat :=
  if 0 ≤ i ∧ i < n then some i.toNat
  else if fill = 2 then
    let r : Int := if i < 0 then -i else 2 * ((n : Int) - 1) - i
    if r < 0 then none else some r.toNat
  else if fill = 3 then some (if i < 0 then 0 else n - 1)
  else none

/-- Stored row, column and channel of pixel `(y, x)`, channel `ch` of the regrouped map (R95). -/
def ungroup (d y x ch : Nat) : Nat × Nat × Nat :=
  let s := 2 ^ dRegroup d
  if s = 1 then (y, x, ch)
  else
    let cs := dCg d / (s * s)
    if cs = 0 then (y, x, ch) else
    let q := ch / cs
    (s * y + q / s, s * x + q % s, ch % cs)

/-- Address of the scale of the FP4 block that holds a stored channel of a stored pixel (R506). -/
def scaleAddr (d y x ch : Nat) : Nat := dScaleBase d + rowSlotIdx d y * dScalePitch d + (x * dPixPitch d + ch / 32 * 16) / 16

/-- Raw bits of the element of format `fmt` at stored row, column, channel; and its FP4 block scale (R29, R506). An address at or
above 2^32 names no store (R86). -/
def readAt (s : State) (n d fmt : Nat) (y x ch : Nat) : Except Abort (Nat × Nat) := do
  let (y, x, ch) := ungroup d y x ch
  let w := fmtStore fmt
  let a := rowSlot d y + x * dPixPitch d + ch * w / 8
  if w = 4 then
    let b ← storeRead s n a 1
    let raw := bits (leNat b) (4 * (ch % 2)) 4
    if fmt = 8 then
      let sc ← storeRead s n (scaleAddr d y x ch) 1
      return (raw, leNat sc)
    else return (raw, 0)
  else
    let b ← storeRead s n a (w / 8)
    return (leNat b, 0)

/-- Writes the raw bits of an element (R95 for the regrouped order). -/
def writeAt (s : State) (n d fmt : Nat) (y x ch raw : Nat) : Except Abort State := do
  let (y, x, ch) := ungroup d y x ch
  let w := fmtStore fmt
  let a := rowSlot d y + x * dPixPitch d + ch * w / 8
  if w = 4 then
    let b ← storeRead s n a 1
    storeWrite s n a (leBytes 1 (setBits (leNat b) (4 * (ch % 2)) 4 raw))
  else storeWrite s n a (leBytes (w / 8) raw)

/-- Writes the FP4 block scale of channel `ch` of a pixel of the regrouped map (R95, R506). -/
def writeScale (s : State) (n d y x ch sc : Nat) : Except Abort State :=
  let (y, x, ch) := ungroup d y x ch
  storeWrite s n (scaleAddr d y x ch) (leBytes 1 sc)

/-- The FP4 block that holds channel `ch` of a pixel of the regrouped map: stored pixel and block of 32 channels (R95, R506). -/
def scaleBlock (d y x ch : Nat) : Nat × Nat × Nat :=
  let (y, x, ch) := ungroup d y x ch
  (y, x, ch / 32)

/-- The value of a floating-point element with its block scale (R30, R31). -/
def fpElem (fmt raw scale : Nat) : Fp :=
  if fmt = 8 then
    if scale = 0xFF then .nan
    else match fpDecode 8 raw with
      | .fin s m e => .fin s m (e + scale - 127)
      | v => v
  else fpDecode fmt raw

/-- Walk position `i` of a descriptor: row and column (R87). -/
def walkPos (d i : Nat) : Nat × Nat := (dOy0 d + i / dTileW d, dOx0 d + i % dTileW d)

/-- Element `k` of band `b` at output position `i`: raw bits and scale (R86, R90, R91). -/
def mmaElem (s : State) (n d fmt i b k : Nat) : Except Abort (Nat × Nat) :=
  let cg := dCg d
  if k ≥ dKh d * dKw d * cg then .ok (0, 0)
  else
    let (oy, ox) := walkPos d i
    let c := k % cg
    let t := k / cg
    let iy : Int := (oy * dStrideY d : Nat) - (dPadT d : Int) + (t / dKw d * dDilY d : Nat)
    let ix : Int := (ox * dStrideX d : Nat) - (dPadL d : Int) + (t % dKw d * dDilX d : Nat)
    let g := 2 ^ dRegroup d
    match resolve iy (dInH d / g) (dFill d), resolve ix (dInW d / g) (dFill d) with
    | some ry, some rx => readAt s n d fmt ry rx (dCOff d + b * dBandStep d + c)
    | _, _ => .ok (if dFill d = 1 then dFillValue d % 2 ^ fmtBits fmt else 0, 0)

/-- Channel and position of element `i` of a walk in element order (R503): row, column, channel. -/
def elemAt (d i : Nat) : Nat × Nat × Nat :=
  let (y, x) := walkPos d (dPosCur d + i / dCg d)
  (y, x, dCOff d + i % dCg d)

/-- Reads element `i` of a walk in element order: raw bits and scale. -/
def readElem (s : State) (n d fmt i : Nat) : Except Abort (Nat × Nat) :=
  let (y, x, ch) := elemAt d i
  readAt s n d fmt y x ch

/-- Writes element `i` of a walk in element order. -/
def writeElem (s : State) (n d fmt i raw : Nat) : Except Abort State :=
  let (y, x, ch) := elemAt d i
  writeAt s n d fmt y x ch raw

/-! ### Large filters (R102) -/

/-- Filter rows and columns that the taps of `k` in `[k0, k1]` touch: first row, rows, first column, columns. -/
def bandWindow (kw cg k0 k1 : Nat) : Nat × Nat × Nat × Nat :=
  let t0 := k0 / cg
  let t1 := k1 / cg
  let y0 := t0 / kw
  let y1 := t1 / kw
  if y0 = y1 then (y0, 1, t0 % kw, t1 % kw - t0 % kw + 1) else (y0, y1 - y0 + 1, 0, kw)

/-- The longest run of whole groups from `g`, at most `fuel` more, whose window has at most 15 rows and 255 columns; answers
the last group. -/
def bandEnd (kh kw cg g : Nat) : Nat → Nat → Nat
  | 0, e => e
  | fuel + 1, e =>
    let last := min (32 * (e + 2) - 1) (kh * kw * cg - 1)
    if 32 * (e + 1) ≥ kh * kw * cg then e
    else
      let (_, h, _, w) := bandWindow kw cg (32 * g) last
      if h ≤ 15 ∧ w ≤ 255 then bandEnd kh kw cg g fuel (e + 1) else e

/-- The band that holds group `t`: its window. A single group that alone touches more than 15 filter rows or 255 columns has no band
under R102; the model takes it as a band of its own (DESIGN CHOICE, log entry 105). -/
def bandOf (kh kw cg t : Nat) : Nat → Nat → Nat × Nat × Nat × Nat
  | 0, g => bandWindow kw cg (32 * g) (32 * g)
  | fuel + 1, g =>
    let e := bandEnd kh kw cg g (ceilDiv (kh * kw * cg) 32) g
    if t ≤ e then bandWindow kw cg (32 * g) (min (32 * e + 31) (kh * kw * cg - 1)) else bandOf kh kw cg t fuel (e + 1)

/-- Is the filter inside the limits of normal service (R100)? -/
def plainFilter (kh kw : Nat) : Bool := (kh ≤ 15 && kw ≤ 15) || (kh = 1 && kw ≤ 255)

/-- For a large filter, the sequencer writes the window of the band that a pass belongs to into the descriptor (R102). A height
above 15 keeps its low 4 bits (log entry 105). -/
def writeBand (s : State) (n i d g : Nat) : State :=
  if plainFilter (dKh d) (dKw d) then s
  else
    let (y0, h, x0, w) := bandOf (dKh d) (dKw d) (dCg d) g (ceilDiv (dKh d * dKw d * dCg d) 32) 0
    let v := bits d 304 32
    let v := setBits (setBits (setBits (setBits v 0 6 y0) 6 4 (h - 1)) 10 12 x0) 22 8 (w - 1)
    storePoke s n (descAddr s n i + 38) 4 v

end Sys2Proof.Machine
end

