-- ==== Sys2Proof/Machine/Channels.lean ====
section
/-! DEFINITION. Fabric channels as a task sees them: their counters, and their end when a task of theirs is aborted (R343,
R345, R354, R356). A task uses the channels of its activity (log entry 30). -/

namespace Sys2Proof.Machine

/-- Little-endian number of `n` bytes of the shared store. -/
def sharedPeek (s : State) (a n : Nat) : Nat := leNat (SMap.getAll 0 s.mem.store (2 ^ 40 + a) n)
/-- Writes bytes of the shared store, but for parts of uncorrectable words (R276). -/
def sharedPoke (s : State) (a : Nat) (bs : List Byte) : State := s.setMem (keyWrite s.mem (2 ^ 40 + a) bs)

/-- Channel `i` of the channel table. -/
def chan (s : State) (i : Nat) : Option FChan := s.fab.chans[i]?
def updChan (s : State) (i : Nat) (f : FChan → FChan) : State := s.setFab { s.fab with chans := updNth s.fab.chans i f }

/-- Writes bytes of a channel's ring at byte `off` (R343): a store address, or a virtual address when bit 63 of BASE is 1. -/
def chanWrite (s : State) (c : FChan) (off : Nat) (bs : List Byte) : State :=
  if bit c.base 63 then hbmPoke s (c.act / 4) (vaAdd (c.base % 2 ^ 48) off) bs else sharedPoke s (c.base + off) bs
/-- Reads bytes of a channel's ring. -/
def chanRead (s : State) (c : FChan) (off n : Nat) : List Byte :=
  if bit c.base 63 then hbmPeek s (c.act / 4) (vaAdd (c.base % 2 ^ 48) off) n else SMap.getAll 0 s.mem.store (2 ^ 40 + c.base + off) n

/-- Indices of the channels of an activity. -/
def actChans (s : State) (a : Nat) : List Nat :=
  (List.range s.fab.chans.length).filter (fun i => (chan s i).any (fun c => c.act = a))

/-- Values of the counters of an activity's channels, by store key: what a task keeps at its start (R354). -/
def chanCounters (s : State) (a : Nat) : SMap Nat :=
  (actChans s a).foldl (fun m i => match chan s i with
    | none => m
    | some c =>
      SMap.insert (SMap.erase (SMap.insert (SMap.erase m (2 ^ 40 + c.ctr)) (2 ^ 40 + c.ctr) (sharedPeek s c.ctr 4)) (2 ^ 40 + c.rctr))
        (2 ^ 40 + c.rctr) (sharedPeek s c.rctr 4)) []

/-- Returns store counters to kept values. -/
def restoreStore (s : State) (m : SMap Nat) : State :=
  s.setMem (m.foldl (fun mem (k, v) => keyWrite mem k (leBytes 4 v)) s.mem)

/-- Takes the channel's own progress back to its counters: a source sends again from its CTR or from the unit where it stood, whichever
is the lower, and from that unit's first frame; a sink forgets the frames of units that are not complete (R354). -/
def resetChan (s : State) (i : Nat) : State :=
  match chan s i with
  | none => s
  | some c =>
    let u := sharedPeek s c.ctr 4
    if c.role = 0 then
      let v := if reachedNat u c.unit then c.unit else u
      updChan s i (fun c => { c with unit := v, off := 0, acked := c.acked.filter (fun x => !reachedNat x.1 v),
                                     appended := u * c.unitBytes })
    else updChan s i (fun c => { c with placed := [] })
where
  /-- Is counter `a` at or beyond `b` (R108)? -/
  reachedNat (a b : Nat) : Bool := decide (toSigned 32 ((a + (2 ^ 32 - b % 2 ^ 32)) % 2 ^ 32) ≥ 0)

/-- Ends the channels of an activity for a task aborted for a reason of its own (R356): a source's next SEND slot carries
CABORT, a sink's abort generation rises. A channel whose own abort is being followed is left out. -/
def endChannels (s : State) (a : Nat) : State :=
  (actChans s a).foldl (fun s i => updChan s i (fun c =>
    if c.ending then c else if c.role = 0 then { c with cabort := some c.unit } else { c with gen := (c.gen + 1) % 2 ^ 16 })) s

/-- What the abort of a task does to the fabric channels of its activity: their counters return to the values that it kept at
its start, and they end unless the abort is a link failover (R354, R356). -/
def abortChannels (s : State) (a : Nat) (kept : SMap Nat) (code : Nat) : State :=
  if kept.isEmpty then s
  else
    let s := (actChans s a).foldl resetChan (restoreStore s kept)
    if code = 0x0E01 then s else endChannels s a

end Sys2Proof.Machine
end

