-- ==== Sys2Proof/Machine/Net.lean ====
section
/-! DEFINITION. Frames: addresses of the ports, Ethernet, IP and UDP framing, egress queues, and the sending side of HCP
(R361 to R363, R367, R368, R376, R379). -/

namespace Sys2Proof.Machine

/-- Owner configuration field of `n` bytes at byte `o`, and its value while unowned (R416). -/
def ownerField (s : State) (o n d : Nat) : Nat := if s.owner = [] then d else leAt s.owner o n
/-- HCP_UDP (R363). -/
def hcpUdp (s : State) : Nat := ownerField s 24 2 49800

/-- FUSE_MAC (R362): the fused block with the low 4 bits 0, and with the group and local bits of its first octet 0, as a universally
administered address of one station has them. -/
def fuseMac : Nat := Config.fuseMac.toNat &&& 0xFCFFFFFFFFF0

/-- MAC address of port `p` (R362), most significant byte first. -/
def portMac (p : Nat) : List Byte := beBytes 6 (fuseMac + p)

/-- MEDIA_UDP and MTU of port `p` (R384). -/
def mediaUdp (s : State) (p : Nat) : Nat := rdBits s (portBase p + 0x40) 16 16
def portMtu (s : State) (p : Nat) : Nat := rdBits s (portBase p + 0x40) 0 14

/-- The link-local IPv6 address of port `p`, EUI-64 from its MAC (R362). -/
def linkLocal (p : Nat) : List Byte :=
  let m := portMac p
  [0xFE#8, 0x80#8] ++ List.replicate 6 0#8 ++
    [nth 0#8 m 0 ^^^ 2#8, nth 0#8 m 1, nth 0#8 m 2, 0xFF#8, 0xFE#8, nth 0#8 m 3, nth 0#8 m 4, nth 0#8 m 5]

/-- Configured address of a port as 16 bytes, an IPv4 address in the last four; all zero for none (R362, R384, R416). -/
def portIp (s : State) (p : Nat) : List Byte :=
  if p < 8 then beBytes 4 (rd32 s (portBase p + 0x50)) ++ beBytes 4 (rd32 s (portBase p + 0x54)) ++
    beBytes 4 (rd32 s (portBase p + 0x58)) ++ beBytes 4 (rd32 s (portBase p + 0x5C))
  else if s.owner = [] then List.replicate 16 0 else slice s.owner (32 + 16 * (p - 8)) 16

/-- Is a 16-byte address an IPv4 one? -/
def isV4 (ip : List Byte) : Bool := allZero (ip.take 12) && !allZero (ip.drop 12)

/-- The addresses that a port answers to: its configured address, or the link-local one of a host port (R362). -/
def ownIp (s : State) (p : Nat) (ip : List Byte) : Bool :=
  let c := portIp s p
  if allZero c then 8 ≤ p && ip = linkLocal p else ip = c

/-- Source address that a port sends from. -/
def sourceIp (s : State) (p : Nat) : List Byte := let c := portIp s p; if allZero c then linkLocal p else c

/-- One's-complement sum of 16-bit big-endian words. -/
def onesSum : List Byte → Nat
  | a :: b :: r => a.toNat * 256 + b.toNat + onesSum r
  | [a] => a.toNat * 256
  | [] => 0
/-- Internet checksum of bytes. -/
def inetSum (bs : List Byte) : Nat :=
  let t := onesSum bs
  let t := t % 65536 + t / 65536
  let t := t % 65536 + t / 65536
  65535 - t

/-- IP packet: protocol number, source, destination, payload. -/
def ipPacket (src dst : List Byte) (proto : Nat) (pl : List Byte) : List Byte :=
  if isV4 dst then
    let h (c : Nat) : List Byte := [0x45#8, 0#8] ++ beBytes 2 (20 + pl.length) ++ [0#8, 0#8, 0#8, 0#8, 64#8, BitVec.ofNat 8 proto] ++
      beBytes 2 c ++ src.drop 12 ++ dst.drop 12
    h (inetSum (h 0)) ++ pl
  else [0x60#8, 0#8, 0#8, 0#8] ++ beBytes 2 pl.length ++ [BitVec.ofNat 8 proto, 64#8] ++ src ++ dst ++ pl

/-- UDP datagram with its checksum over the pseudo-header. -/
def udpDatagram (src dst : List Byte) (port : Nat) (pl : List Byte) : List Byte :=
  let pseudo := (if isV4 dst then src.drop 12 ++ dst.drop 12 else src ++ dst) ++ beBytes 2 17 ++ beBytes 2 (8 + pl.length)
  let h (c : Nat) : List Byte := beBytes 2 port ++ beBytes 2 port ++ beBytes 2 (8 + pl.length) ++ beBytes 2 c
  let c := inetSum (pseudo ++ h 0 ++ pl)
  h (if c = 0 then 65535 else c) ++ pl

/-- Ethernet frame without FCS; a VID of 0 sends it untagged, otherwise the queue is its PCP (R368). -/
def etherFrame (p : Nat) (dmac : List Byte) (vid queue etype : Nat) (pl : List Byte) : List Byte :=
  dmac ++ portMac p ++ (if vid = 0 then [] else beBytes 2 0x8100 ++ beBytes 2 (queue * 8192 + vid)) ++ beBytes 2 etype ++ pl

/-- EtherType of a destination address. -/
def ipEtype (dst : List Byte) : Nat := if isV4 dst then 0x0800 else 0x86DD

/-- IDLE_SLOPE of a queue, in kb/s; queues 0 and 7 have no shaper (R368). -/
def idleSlope (s : State) (p q : Nat) : Nat := if 1 ≤ q && q ≤ 6 then rd32 s (portBase p + 0xE0 + 4 * q) else 0

/-- Credit of a shaped queue now, in 10^-6 bits (802.1Qav): it rises at the idle slope, above 0 only while frames wait. -/
def creditNow (s : State) (p q : Nat) : Int :=
  let x := SMap.get (0, 0, false) s.eth.credit (p * 8 + q)
  let c := x.1 + ((idleSlope s p q * (tb s - x.2.1) : Nat) : Int)
  if x.2.2 then c else min c 0

/-- The frames of a queue change: its credit so far stands, and from here on it rises as `waits` says (R368). A credit that counts from
the end of a frame still on the wire keeps that moment. -/
def noteWaiting (s : State) (p q : Nat) (waits : Bool) : State :=
  let x := SMap.get (0, 0, false) s.eth.credit (p * 8 + q)
  if idleSlope s p q = 0 || x.2.2 = waits then s
  else s.setEth { s.eth with credit := SMap.set (0, 0, false) s.eth.credit (p * 8 + q) (if tb s < x.2.1 then x.1 else creditNow s p q, max x.2.1 (tb s), waits) }

/-- Appends a frame to an egress queue of a port, which then has frames that wait (R368). -/
def enqueue (s : State) (p q : Nat) (bytes : List Byte) : State :=
  let s := noteWaiting s p q true
  s.setEth { s.eth with queues := SMap.modify [] s.eth.queues (p * 8 + q) (· ++ [{ bytes := bytes }]) }

/-- Queues a UDP datagram to a destination. -/
def sendUdp (s : State) (p q vid : Nat) (dmac dst : List Byte) (udp : Nat) (pl : List Byte) : State :=
  enqueue s p q (etherFrame p dmac vid q (ipEtype dst) (ipPacket (sourceIp s p) dst 17 (udpDatagram (sourceIp s p) dst udp pl)))

/-! ### HCP: sending (R376, R379) -/

def session (s : State) (k : Nat) : Option Session := SMap.get none s.eth.sessions k
def setSession (s : State) (k : Nat) (x : Option Session) : State :=
  s.setEth { s.eth with sessions := SMap.set none s.eth.sessions k x }

/-- Closes a session: the rings bound to it wait (R380). -/
def closeSession (s : State) (k : Nat) : State :=
  let s := setSession s k none
  s.setStr { s.str with bound := s.str.bound.filter (fun x => x.2 ≠ k + 1) }

/-- The 24-byte header of R376 followed by the payload. FLAGS holds RESP in bit 0; ACKV is always set. -/
def hcpBytes (x : Session) (k typ flags status seq : Nat) (pl : List Byte) : List Byte :=
  beBytes 2 0x4843 ++ beBytes 1 x.verMaj ++ beBytes 1 x.verMin ++ beBytes 1 typ ++ beBytes 1 (flags ||| 2) ++
    beBytes 2 pl.length ++ beBytes 4 k ++ beBytes 4 seq ++ beBytes 4 x.rxSeq ++ beBytes 2 status ++ beBytes 2 0 ++ pl

/-- Puts an HCP datagram of a session into queue 7 of its port. -/
def hcpWire (s : State) (x : Session) (bytes : List Byte) : State := sendUdp s x.port 7 0 x.mac x.ip (hcpUdp s) bytes

/-- Sends a message on a session, or queues it while WINDOW messages are unacknowledged (R379). A SEQ is given when the
message is first sent. `req` is the SEQ of the request that it answers, 0 for none: the response is stored under it. -/
def hcpAnswer (s : State) (k typ flags status : Nat) (pl : List Byte) (req : Nat) : State :=
  match session s k with
  | none => s
  | some x =>
    if x.unacked.length < x.window then
      let bytes := hcpBytes x k typ flags status x.txSeq pl
      let x' := { x with txSeq := x.txSeq + 1, unacked := x.unacked ++ [{ seq := x.txSeq, bytes := bytes, tb := tb s }], ackDue := false,
                         stored := if req = 0 then x.stored else SMap.set [] x.stored req bytes }
      hcpWire (setSession s k (some x')) x' bytes
    else setSession s k (some { x with queue := x.queue ++ [(typ, flags, status, pl, req)] })

/-- A message that answers no request. -/
def hcpSend (s : State) (k typ flags status : Nat) (pl : List Byte) : State := hcpAnswer s k typ flags status pl 0

/-- Forwards a claimed device event to every open session as an EVENT of KIND 3 (R380, R401). -/
def deviceEvent (s : State) (src cnt p info : Nat) : State :=
  let item := leBytes 2 src ++ leBytes 1 cnt ++ leBytes 1 p ++ leBytes 4 info ++ leBytes 8 (tb s)
  (range' 1 8).foldl (fun s k => hcpSend s k 0x30 0 0 (beBytes 1 3 ++ beBytes 2 0 ++ beBytes 2 1 ++ item)) s

end Sys2Proof.Machine
end

