-- ==== Sys2Proof/Machine/Rings.lean ====
section
/-! DEFINITION. Rings, completion records and their delivery (R310 to R315), and the fields of stream-table entries (R305). -/

namespace Sys2Proof.Machine

/-! ### Stream-table entries (R305) -/

/-- Field of `n` bytes at byte `o` of an entry. -/
def eb (e : W512) (o n : Nat) : Nat := bits e.toNat (8 * o) (8 * n)
def eValid (e : W512) : Bool := bit e.toNat 0
def eDecode (e : W512) : Bool := bit e.toNat 1
def eAudio (e : W512) : Bool := bit e.toNat 2
def eVerify (e : W512) : Bool := bit e.toNat 3
def eProt (e : W512) : Bool := bit e.toNat 4
def eStats (e : W512) : Nat := bits e.toNat 5 2
def eSource (e : W512) : Bool := bit e.toNat 7
def ePrintless (e : W512) : Bool := bit e.toNat 8
def eFeat (e : W512) : Bool := bit e.toNat 9
def eClass (e : W512) : Nat := bits e.toNat 10 2
def ePart (e : W512) : Nat := bits e.toNat 12 3
def ePminor (e : W512) : Nat := bits e.toNat 15 2
def eRetry (e : W512) : Nat := bits e.toNat 17 2
def eHold (e : W512) : Bool := bit e.toNat 19
def eEntry (e : W512) : Nat := eb e 4 2
def eMslot (e : W512) : Nat := eb e 6 1
def eFormat (e : W512) : Nat := eb e 7 1
def eInRing (e : W512) : Nat := eb e 16 2
def eOutRing (e : W512) : Nat := eb e 18 2
def eCplRing (e : W512) : Nat := eb e 20 2
def eRecRing (e : W512) : Nat := eb e 22 2
def eWidth (e : W512) : Nat := eb e 24 2
def eHeight (e : W512) : Nat := eb e 26 2
def eChans (e : W512) : Nat := eb e 26 1
def eKeyInterval (e : W512) : Nat := eb e 28 2
def eRapKeys (e : W512) : Nat := eb e 30 2
def eProfile (e : W512) : Nat := eb e 32 2
def eGen (e : W512) : Nat := eb e 34 2
def eStages (e : W512) : Nat := eb e 36 1
def eQiCarry (e : W512) : Nat := eb e 37 1
def eForceKey (e : W512) : Bool := bit e.toNat (8 * 38)
def eVpair (e : W512) : Nat := eb e 39 1
def eBufVa (e : W512) : Nat := eb e 40 8
def eKeyId (e : W512) : Nat := eb e 48 4
def eIvPrefix (e : W512) : Nat := eb e 52 4
def eFeatEntry (e : W512) : Nat := eb e 56 2
def eDups (e : W512) : Nat := eb e 58 2
def eFrameNext (e : W512) : Nat := eb e 60 4
/-- The activity of an entry: partition × 4 + class (R256). -/
def eActivity (e : W512) : Nat := ePart e * 4 + eClass e
/-- Replaces a field of `n` bytes at byte `o`. -/
def ebSet (e : W512) (o n v : Nat) : W512 := BitVec.ofNat 512 (setBits e.toNat (8 * o) (8 * n) v)

/-- Stream-table entry `i`. -/
def entry (s : State) (i : Nat) : W512 := SMap.get 0 s.str.entries i
def setEntry (s : State) (i : Nat) (e : W512) : State := s.setStr { s.str with entries := SMap.set 0 s.str.entries i e }

/-! ### Ring descriptors (R310) -/

def ringAt (r : Nat) : Nat := strBase + 0x80000 + 32 * r
def ringVa (s : State) (r : Nat) : Nat := rd64 s (ringAt r)
def ringSlotBytes (s : State) (r : Nat) : Nat := rd32 s (ringAt r + 8)
def ringSlots (s : State) (r : Nat) : Nat := rdBits s (ringAt r + 12) 0 16
def ringKind (s : State) (r : Nat) : Nat := rdBits s (ringAt r + 12) 16 8
def ringFlags (s : State) (r : Nat) : Nat := rdBits s (ringAt r + 12) 24 8
def ringEnabled (s : State) (r : Nat) : Bool := bit (ringFlags s r) 0
def ringOvfCount (s : State) (r : Nat) : Bool := bit (ringFlags s r) 1
def ringPart (s : State) (r : Nat) : Nat := bits (ringFlags s r) 2 3
def ringProd (s : State) (r : Nat) : Nat := rdBits s (ringAt r + 16) 0 16
def ringCons (s : State) (r : Nat) : Nat := rdBits s (ringAt r + 16) 16 16
def ringDrainUs (s : State) (r : Nat) : Nat := rd32 s (ringAt r + 20)
def ringPort (s : State) (r : Nat) : Nat := rdBits s (ringAt r + 28) 0 8
def setProd (s : State) (r v : Nat) : State := wrBits s (ringAt r + 16) 0 16 v
def setCons (s : State) (r v : Nat) : State := wrBits s (ringAt r + 16) 16 16 v
/-- Slots held, and free slots. -/
def ringFill (s : State) (r : Nat) : Nat := (ringProd s r + 65536 - ringCons s r) % 65536
def ringFree (s : State) (r : Nat) : Nat := ringSlots s r - ringFill s r
/-- Virtual address of the slot that index `i` names. -/
def slotVa (s : State) (r i : Nat) : Nat := vaAdd (ringVa s r) ((i % ringSlots s r) * ringSlotBytes s r)
/-- Key of the slot of index `i` in `islots` and `oslots`. -/
def slotKey (s : State) (r i : Nat) : Nat := r * 32768 + i % ringSlots s r
/-- Adds one to OVF, which saturates. -/
def countOvf (s : State) (r : Nat) : State := wr32 s (ringAt r + 24) (min (rd32 s (ringAt r + 24) + 1) (2 ^ 32 - 1))

def oslot (s : State) (r i : Nat) : Option OSlot := SMap.get none s.str.oslots (slotKey s r i)
def setOslot (s : State) (r i : Nat) (x : Option OSlot) : State :=
  s.setStr { s.str with oslots := SMap.set none s.str.oslots (slotKey s r i) x }
def islot (s : State) (r i : Nat) : Option ISlot := SMap.get none s.str.islots (slotKey s r i)
def setIslot (s : State) (r i : Nat) (x : Option ISlot) : State :=
  s.setStr { s.str with islots := SMap.set none s.str.islots (slotKey s r i) x }

/-- Sends the handed-over records of a completion or record ring to the bound session, in ring order from index `i`,
stopping at a slot that a running task holds; empty items are passed over (R315, R500, R501). -/
def pushFrom (s : State) (r i : Nat) : Nat → State
  | 0 => s
  | n + 1 =>
    match oslot s r i with
    | none => pushFrom s r (i + 1) n
    | some x =>
      match x.len with
      | none => s
      | some len =>
        if x.sent || len = 0 then pushFrom s r (i + 1) n
        else
          let s := setOslot s r i (some { x with sent := true })
          let kind := if ringKind s r = 3 then 0 else 1
          let pl := beBytes 1 kind ++ beBytes 2 r ++ beBytes 2 1 ++ hbmPeek s (ringPart s r) (slotVa s r i) len
          pushFrom (hcpSend (noteLost s (ringPart s r) (slotVa s r i) len) (SMap.get 0 s.str.bound r - 1) 0x30 0 0 pl) r (i + 1) n

/-- Delivers what a ring has to deliver, when a session is bound to it. -/
def pushRing (s : State) (r : Nat) : State :=
  if SMap.get 0 s.str.bound r = 0 then s else pushFrom s r (ringCons s r) (ringFill s r)

/-- Writes a record into the next slot of a ring that has room. -/
def putRecord (s : State) (r : Nat) (bytes : List Byte) : State :=
  let i := ringProd s r
  let bytes := bytes.take (ringSlotBytes s r)
  let s := hbmPoke s (ringPart s r) (slotVa s r i) bytes
  let s := setOslot s r i (some { owner := 0, len := some bytes.length, tb := tb s })
  pushRing (setProd s r ((i + 1) % 65536)) r

/-- Posts a record that does not wait in the ring's state: it is written, or discarded and counted in OVF when the ring is
full and `drop` or OVF_COUNT holds, or owed until a slot frees (R314, R315). A ring that is not enabled takes nothing. -/
def postRecord (s : State) (r : Nat) (drop : Bool) (bytes : List Byte) : State :=
  if !ringEnabled s r then s
  else if ringFree s r = 0 then
    if drop || ringOvfCount s r then countOvf s r
    else s.setStr { s.str with owed := s.str.owed ++ [(r, bytes)] }
  else putRecord s r bytes

/-- Writes the owed records of a ring while it has room. -/
def payOwed (s : State) (r : Nat) : Nat → State
  | 0 => s
  | n + 1 =>
    match s.str.owed.find? (fun x => x.1 = r) with
    | none => s
    | some x =>
      if ringFree s r = 0 then s
      else payOwed (putRecord (s.setStr { s.str with owed := s.str.owed.erase x }) r x.2) r n

/-- Can a commit post its record now (R315)? -/
def canPost (s : State) (r : Nat) : Bool := !ringEnabled s r || ringFree s r != 0 || ringOvfCount s r

/-- A completion record (R314). -/
def completionBytes (status num cflags stream frame core ctx reissues user tbAdmit tbDone outBytes : Nat) : List Byte :=
  leBytes 2 status ++ leBytes 1 num ++ leBytes 1 cflags ++ leBytes 4 stream ++ leBytes 4 frame ++ leBytes 1 core ++ leBytes 1 ctx ++
    leBytes 1 reissues ++ leBytes 1 0 ++ leBytes 8 user ++ leBytes 8 tbAdmit ++ leBytes 8 tbDone ++ leBytes 4 outBytes ++
    List.replicate 20 0#8

/-- The record of a submission that starts no task, or of a discarded ingress item (R311, R313, R314). An entry that is not valid still
names a completion ring: its record goes there when that is a completion ring of its partition (log entry 113). -/
def refuseRecord (s : State) (stream code frame user : Nat) (drop : Bool) : State :=
  let e := entry s stream
  let s := raiseBy (raise s strBase code) code
  if eValid e || (ringKind s (eCplRing e) = 3 && ringPart s (eCplRing e) = ePart e) then postRecord s (eCplRing e) drop (completionBytes code 0 0 stream frame 0 0 0 user (tb s) (tb s) 0) else s

/-- Frees leading released slots of an ingress ring: CONS passes them (R311). -/
def advanceIngress (s : State) (r : Nat) : Nat → State
  | 0 => s
  | n + 1 =>
    match islot s r (ringCons s r) with
    | some x => if x.free && ringFill s r != 0 then
        advanceIngress (setCons (setIslot s r (ringCons s r) none) r ((ringCons s r + 1) % 65536)) r n else s
    | none => s

/-- Releases the ingress slot of index `i` (R311). -/
def releaseSlot (s : State) (r i : Nat) : State :=
  match islot s r i with
  | none => s
  | some x => advanceIngress (setIslot s r i (some { x with free := true })) r (ringSlots s r)

end Sys2Proof.Machine
end

