-- ==== Sys2Proof/Machine/Tasks.lean ====
section
/-! DEFINITION. Tasks: admission, placement on a context, release of a context, and the abort of a task with what follows
it by the class of its status (R80, R111, R293, R295, R317 to R320, R497, R500, R501). -/

namespace Sys2Proof.Machine

/-! ### Status classes (R320, R496, R497) -/

/-- What follows an abort. -/
inductive AbortClass where
  | fault | repair | content | final | host
  deriving DecidableEq, Repr

/-- The class of a status code that an abort carries; a code without a class starts no task, so it is final. -/
def statusClass (c : Nat) : AbortClass :=
  if c ∈ [0x0301, 0x0E01] then .repair
  else if c ∈ [0x1301, 0x1302, 0x1303, 0x1801, 0x1802, 0x1803, 0x0907, 0x0201] then .content
  else if c = 0x1305 then .host
  else if c ∈ [0x0A01, 0x0B01, 0x1001, 0x1002, 0x1003, 0x1101, 0x1102, 0x1103, 0x1201, 0x1304, 0x1306, 0x1307, 0x1401, 0x1402,
    0x1601, 0x1602, 0x1603, 0x1604, 0x1605, 0x0908, 0x090A, 0x0E02, 0x0207] then .fault
  else .final

/-! ### The running tasks -/

/-- Every context that holds a task, with its core and number. -/
def runningTasks (s : State) : List (Nat × Nat × Task) :=
  (List.range 8).flatMap (fun n => (List.range 8).filterMap (fun c => (taskOf s n c).map (fun t => (n, c, t))))

/-- Running and ready tasks of a stream. -/
def streamTasks (s : State) (stream : Nat) : List Task :=
  (((runningTasks s).map (·.2.2)) ++ s.str.ready).filter (fun t => t.stream = stream && t.kind ≠ 2)

/-- Is the task a frame task of its stream? -/
def Task.isFrame (t : Task) : Bool := t.kind = 0 || t.kind = 1
/-- Does the task do part of the work of a frame: its own task or a stripe of it (R19, R111)? -/
def Task.ofFrame (t : Task) : Bool := t.isFrame || t.kind = 4

/-- Frame tasks of a stream admitted before `order` and still uncommitted (R318, R500). -/
def earlierFrames (s : State) (stream order : Nat) : Nat :=
  ((streamTasks s stream).filter (fun t => t.isFrame && t.order < order)).length

/-! ### Admission (R317) -/

/-- Is a partition stopped (MGT_IMG_STATE.STOPPED, R271)? -/
def stopped (s : State) (part : Nat) : Bool := bit (rd32 s (mgtBase + 0x488)) (24 + part)

/-- Is admission to an entry open: not held, and its partition neither drained by a load nor stopped (R266, R271)? -/
def admitOpen (s : State) (e : W512) : Bool := eValid e && !eHold e && !(s.str.noAdmit.contains (ePart e)) && !stopped s (ePart e)

/-- The worst-case use of an attempt of a task in ACLK cycles, as BOUND_ACLK gives it, on the lowest core of its partition that holds its
entry: its entry, its feature network and, for a verified frame, its decode half (R328; log entry 20). -/
def taskUse (s : State) (t : Task) : Nat :=
  let ns := (List.range 8).filter (fun n => partOf s n = ePart t.snap)
  let of (i : Nat) : Nat := (ns.findSome? (fun n => (sentry s n i).map (·.bound))).getD 0
  let v := (ns.findSome? (fun n => (sentry s n t.sched).map (·.ventry))).getD 0xFFFF
  of t.sched + (if eFeat t.snap then of (eFeatEntry t.snap) else 0) + (if eVerify t.snap && !eDecode t.snap && v ≠ 0xFFFF then of v else 0)
/-- The use of the activity's tasks that were admitted earlier and are not complete (A_r of R328). -/
def useAhead (s : State) (a order : Nat) : Nat :=
  ((((runningTasks s).map (·.2.2) ++ s.str.ready).filter (fun u => u.isFrame && u.activity = a && u.order < order)).map (·.use)).sum

/-- An attempt of a task begins (R328): its bound runs from here, over what was admitted before it; a failover from now on lengthens it. -/
def startAttempt (s : State) (t : Task) : Task :=
  { t with startPeriod := period s, frozenPeriods := 0, use := taskUse s t, ahead := useAhead s t.activity t.order, fails := s.fab.fails.length }

/-- Admits a task: the entry and its profile are taken, FORCE_KEY goes to the next encode task, TB_ADMIT is stamped and the
task joins the ready list. -/
def admitTask (s : State) (kind stream inVa inBytes : Nat) (slot : Option Nat) (item : Nat) (key : Bool) (user capture : Nat) : State :=
  let e := entry s stream
  let p := strBase + 0x40000 + 32 * eProfile e
  let prof := (range' 0 8).foldl (fun acc i => acc + rd32 s (p + 4 * i) * 2 ^ (32 * i)) 0
  let force := !eDecode e && eForceKey e
  let t : Task := { kind, order := s.str.order, stream, sched := eEntry e, activity := eActivity e, snap := e,
                    prof := BitVec.ofNat 256 prof, inVa, inBytes, inSlot := slot, item, key := key || force, user, tbAdmit := tb s, capture }
  let s := s.setStr { s.str with ready := s.str.ready ++ [startAttempt s t], order := s.str.order + 1 }
  let s := if force then setEntry s stream (ebSet e 38 1 (eb e 38 1 / 2 * 2)) else s
  count64 s (strBase + 0xA0) 1

/-- Admits a waiting ingress slot of a ring. -/
def admitSlot (s : State) (r i : Nat) : State :=
  match islot s r i with
  | none => s
  | some x =>
    if x.state = 0 && !x.free && admitOpen s (entry s x.stream) then
      let s := setIslot s r i (some { x with state := 1 })
      admitTask s 0 x.stream (slotVa s r i) x.bytes (some i) x.item false x.user x.capture
    else s

/-- Admits every waiting slot of a ring in ring order (R317: slots wait while HOLD = 1 or admission is stopped). -/
def admitRing (s : State) (r : Nat) : State :=
  (List.range (ringFill s r)).foldl (fun s j => admitSlot s r ((ringCons s r + j) % 65536)) s

/-- The ingress rings of valid entries, each once. -/
def ingressRings (s : State) : List Nat := ((s.str.entries.filter (fun x => eValid x.2)).map (fun x => eInRing x.2)).eraseDups

/-- Admits whatever waits on any ingress ring. -/
def admitWaiting (s : State) : State := (ingressRings s).foldl admitRing s

/-! ### Placement (R318, R500, R509) -/

/-- May a ready task start as far as the other frames of its stream go (R318)? -/
def frameReady (s : State) (t : Task) : Bool :=
  if !t.isFrame then true
  else
    let n := earlierFrames s t.stream t.order
    if eDecode t.snap then n = 0 else n ≤ 1

/-- The cores that may run a task: the pair's core of a verified stream, else the cores of the partition in ascending
order (R22, R305, R318). -/
def taskCores (s : State) (t : Task) : List Nat :=
  let p := SMap.get {} s.img.parts (ePart t.snap)
  if eVerify t.snap then
    match p.pairs[eVpair t.snap]? with
    | none => []
    | some (enc, dec) => if t.kind = 3 then [dec] else [enc]
  else (List.range 8).filter (fun n => bit p.cores n)

/-- The lowest-numbered free context of a core of a partition that is not stopped (R271) with ROLE 1 and the activity (R509). -/
def freeCtx (s : State) (n a : Nat) : Option Nat :=
  (List.range 8).find? (fun c => let x := ctxOf s n c; x.role = 1 && x.activity = a && x.task.isNone && !stopped s (partOf s n))

/-- The place where a task starts: the first of its cores that holds its entry for its activity and has a free context. -/
def taskPlace (s : State) (t : Task) : Option (Nat × Nat × SEntry) :=
  (taskCores s t).findSome? (fun n =>
    match sentry s n t.sched with
    | none => none
    | some e => if e.activity ≠ t.activity then none else (freeCtx s n t.activity).map (fun c => (n, c, e)))

/-- The places of the stripes of a frame whose task starts on core `n`: the other cores of its partition that hold the entry for its
activity and that the image's stripe split names (R19, R107). None when such a core has no free context (log entry 108). -/
def stripePlaces (s : State) (t : Task) (n : Nat) : Option (List (Nat × Nat × SEntry)) :=
  if !t.isFrame then some []
  else (((taskCores s t).filter (· ≠ n)).filterMap (fun m => (sentry s m t.sched).map (fun e => (m, e)))).foldr (fun (m, e) acc =>
    if e.activity ≠ t.activity || !bit (Config.stripeCores (partOf s n) t.sched) m then acc
    else match freeCtx s m t.activity, acc with
      | some c, some ps => some ((m, c, e) :: ps)
      | _, _ => none) (some [])

/-- Has a ring room for the slots of a task (R500)? -/
def slotsFree (s : State) (t : Task) (e : SEntry) : Bool :=
  t.slotsTaken || t.kind ≥ 3 ||
  ((e.outSlots = 0 || e.outSlots ≤ ringFree s (eOutRing t.snap)) &&
   (e.recSlots = 0 || eRecRing t.snap = 0xFFFF || e.recSlots ≤ ringFree s (eRecRing t.snap) || ringOvfCount s (eRecRing t.snap)))

/-- Takes `n` consecutive slots of a ring at its producer index for a task. -/
def takeSlots (s : State) (r n owner stream : Nat) : State :=
  let s := (List.range n).foldl (fun s j => setOslot s r ((ringProd s r + j) % 65536) (some { owner, stream, tb := tb s })) s
  setProd s r ((ringProd s r + n) % 65536)

/-- Takes the egress and record slots of a starting task (R500). -/
def takeTaskSlots (s : State) (t : Task) (e : SEntry) : State × Task :=
  if t.slotsTaken || t.kind ≥ 3 then (s, t)
  else
    let (s, t) := if e.outSlots = 0 then (s, t) else
      (takeSlots s (eOutRing t.snap) e.outSlots (t.order + 1) t.stream,
        { t with outFirst := ringProd s (eOutRing t.snap), outN := e.outSlots })
    let r := eRecRing t.snap
    let (s, t) := if e.recSlots = 0 || r = 0xFFFF then (s, t)
      else if e.recSlots ≤ ringFree s r then
        (takeSlots s r e.recSlots (t.order + 1) t.stream, { t with recFirst := ringProd s r, recN := e.recSlots })
      else ((List.range e.recSlots).foldl (fun s _ => countOvf s r) s, t)
    (s, { t with slotsTaken := true })

/-- Hands over a task's slots of a ring, slot `k` with length `len k`; the ring then delivers them (R501). -/
def handOver (s : State) (r first n : Nat) (len : Nat → Nat) : State :=
  (List.range n).foldl (fun s k =>
    match oslot s r ((first + k) % 65536) with
    | none => s
    | some x => setOslot s r ((first + k) % 65536) (some { x with len := some (len k), tb := tb s })) s

/-- Extents of a task's output slot `k` and record slot `k` (R501). -/
def Task.outExtent (t : Task) (k : Nat) : Nat := SMap.get 0 t.extents k
def Task.recExtent (t : Task) (k : Nat) : Nat := SMap.get 0 t.extents (256 + k)
/-- OUT_BYTES: the sum of the extents of the output slots (R314). -/
def Task.outBytes (t : Task) : Nat := ((List.range t.outN).map t.outExtent).sum

/-- Hands over every slot of a task, as empty items when the task was aborted. -/
def handTask (s : State) (t : Task) (empty : Bool) : State :=
  let s := handOver s (eOutRing t.snap) t.outFirst t.outN (fun k => if empty then 0 else t.outExtent k)
  let s := handOver s (eRecRing t.snap) t.recFirst t.recN (fun k => if empty then 0 else t.recExtent k)
  if t.recN = 0 then s else pushRing s (eRecRing t.snap)

/-! ### Leaving a context (R64, R80, R82, R295) -/

/-- Logical arrays in a gang of core `n` (R60). -/
def gangArrays (s : State) (n : Nat) : Nat := if (coreCfg s n).gang = 0 then 1 else if (coreCfg s n).gang = 1 then 2 else 4
/-- Sets or clears a bit of ARY_STATE for every array of the gang whose lowest logical array is `l`: BUSY from bit 0, SHADOW from
bit 4 (R81). -/
def aryState (s : State) (n lo l : Nat) (b : Bool) : State :=
  (range' l (gangArrays s n)).foldl (fun s i => wrBits s (coreBase n 1 + 0x60) (lo + i) 1 b.toNat) s
/-- Sets or clears BANKV of bank `b` for every array of the gang whose lowest logical array is `l` (R81). DESIGN CHOICE, log entry 123: in full
ganging, where R60 keeps the running value in the tails of two arrays, the bits of all four are set. -/
def setBankV (s : State) (n l b : Nat) (v : Bool) : State :=
  (range' l (gangArrays s n)).foldl (fun s i => wrBits s (coreBase n 1 + 0x60) (8 + 2 * i + b) 1 v.toNat) s

/-- Has a context other than `c` a region in bank `b` of an array of the gang whose lowest is `l`? -/
def bankUsed (s : State) (n c l b : Nat) : Bool :=
  (List.range 8).any (fun d => d ≠ c && (ctxOf s n d).regions.any (fun g => g.2.1 = b &&
    decide (g.1 < l + gangArrays s n ∧ l < g.1 + gangArrays s n)))

/-- Clears a bank region: entries become integer 0 and BANK_NEXTG of the bank 0 (R64). -/
def clearRegion (a : Arrays) (g : Nat × Nat × Nat × Nat) : Arrays :=
  let (l, b, row0, rows) := g
  let base := (l * 2 + b) * 256
  { a with bank := SMap.drop (fun k => base + row0 ≤ k / 256 && k / 256 < base + row0 + rows) a.bank,
           nextg := SMap.set 0 a.nextg (l * 2 + b) 0 }

/-! ### Table banks (R155 to R158, R165) -/

/-- Address of ENT_BANKb, and its fields. -/
def bankReg (n b : Nat) : Nat := coreBase n 3 + 0x48 + 8 * b
def bankEpoch (s : State) (n b : Nat) : Nat := rdBits s (bankReg n b) 0 16
def bankSlot (s : State) (n b : Nat) : Nat := rdBits s (bankReg n b) 16 8
def bankValid (s : State) (n b : Nat) : Bool := bit (rd32 s (bankReg n b)) 24
def bankLoading (s : State) (n b : Nat) : Bool := bit (rd32 s (bankReg n b)) 25
def bankNewest (s : State) (n b : Nat) : Bool := bit (rd32 s (bankReg n b)) 26
def bankRefs (s : State) (n b : Nat) : Nat := rdBits s (bankReg n b + 4) 0 4
def bankRows (s : State) (n b : Nat) : Nat := rdBits s (bankReg n b + 4) 16 10 + 1
/-- Bank whose tag is (slot, epoch) and which is valid. -/
def findBank (s : State) (n slot epoch : Nat) : Option Nat :=
  [0, 1].find? (fun b => bankValid s n b && bankEpoch s n b = epoch && bankSlot s n b = slot)
/-- Marks bank `b` NEWEST, and the other not. -/
def markNewest (s : State) (n b : Nat) : State := wrBits (wrBits s (bankReg n b) 26 1 1) (bankReg n (1 - b)) 26 1 0
/-- Address of codebook bank `b` of core `n` (R252). -/
def cbVa (s : State) (n b : Nat) : Nat := if b = 0 then (coreCfg s n).cbVa0 else (coreCfg s n).cbVa1

/-- Leaves a bank empty with epoch 0, and its codebook bank with it: the other bank becomes NEWEST if it is valid (R157, R208). -/
def emptyBank (s : State) (n b : Nat) : State :=
  let s := wr32 s (bankReg n b) 0
  let s := setCore s n { core s n with norms := SMap.drop (fun k => k / 16384 = b) (core s n).norms,
                                       cbLen := SMap.erase (core s n).cbLen b }
  if bankValid s n (1 - b) then markNewest s n (1 - b) else s
/-- Empties a bank into which a copy is in progress. -/
def stopLoads (s : State) (n : Nat) : State :=
  if bankLoading s n 0 then emptyBank s n 0 else if bankLoading s n 1 then emptyBank s n 1 else s

/-- The queues of a core without the instructions of a context (R80). -/
def dropQueued (q : SMap (List (Nat × W128))) (c : Nat) : SMap (List (Nat × W128)) :=
  (q.map (fun x => (x.1, x.2.filter (fun i => i.1 ≠ c)))).filter (fun x => !x.2.isEmpty)

/-- Releases a context: its queued instructions go, its transfers and streams stop, its semaphores return to 0, its bank regions are cleared, its
combine slots close, its table reference and its jobs end, a copy of a table load stops with them (R164), and a report that waits
for the rate controller stays for its update (R195); on an abort a vector job of the context leaves the vector registers cleared
(R141). -/
def clearCtx (s : State) (n c : Nat) (aborted : Bool) : State :=
  let k := core s n
  let x := ctxOf s n c
  let arr := x.regions.foldl clearRegion k.arr
  let slots := arr.slots.filter (fun sl => sl.ctx ≠ c)
  let arr := { arr with slots := slots,
                        chainLoad := (match arr.chainLoad with | some l => if l.ctx = c then none else some l | none => none) }
  let mine := (k.pst.filter (fun p => p.2.ctx = c)).map (·.1)
  let vec := match k.vec.job with
    | some j => if j.ctx = c then (if aborted then ({} : Vec) else { k.vec with job := none }) else k.vec
    | none => k.vec
  let drop (j : Option EntJob) : Option EntJob := match j with | some j => if j.ctx = c then none else some j | none => none
  let mot := match k.motJob with | some j => if j.ctx = c then none else some j | none => none
  let vecWas := k.vec.job.any (fun j => j.ctx = c)
  let loadWas := k.tableJob.any (fun j => j.ctx = c)
  let chainWas := match k.arr.chainLoad with | some l => if l.ctx = c then some (bits l.w.toNat 8 2) else none | none => none
  let entWas := loadWas || k.entJob.any (fun j => j.ctx = c)
  let motWas := k.motJob.any (fun j => j.ctx = c)
  let k := { k with arr := arr, queues := dropQueued k.queues c, pst := SMap.drop (fun p => mine.contains p) k.pst, vec := vec, entJob := drop k.entJob,
                    tableJob := drop k.tableJob, motJob := mot,
                    ctxs := SMap.set {} k.ctxs c { x with task := none, hold := .none, transfer := none, regions := [] } }
  let bank := x.task.bind (·.bank)
  let runs := (x.transfer.map (·.run)).toList ++ ((core s n).pst.filter (fun p => p.2.ctx = c)).map (·.2.run)
  let s := runs.foldl (fun s m => endColls s (x.task.elim x.activity (·.activity)) m) s
  let s := setCore s n k
  let s := (range' x.semFirst x.semCount).foldl (fun s i => setSem s n i 0) s
  let s := setSem s n (56 + c) 0
  let s := setSeqStatus s n c false false
  let s := wrBits s (coreBase n 1 + 0xC0) 0 9 slots.length
  let s := mine.foldl (fun s p => wrBits (wrBits s (coreBase n 6 + 0x40) (16 + p) 1 0) (coreBase n 6 + 0x200 + 16 * p) 0 2 0) s
  let s := wrBits s (coreBase n 6 + 0x40) c 1 0
  let s := match chainWas with | some l => aryState s n 0 l false | none => s
  let s := if vecWas then wrBits s (coreBase n 2 + 0x40) 0 1 0 else s
  let s := if motWas then wrBits s (coreBase n 4 + 0x40) 0 1 0 else s
  let s := if aborted && loadWas then stopLoads s n else s
  let s := wrBits s (coreBase n 5 + 0x40) c 1 0
  let s := if entWas then wrBits s (coreBase n 3 + 0x40) 0 1 0 else s
  let s := x.regions.foldl (fun s g => if bankUsed s n c g.1 g.2.1 then s else setBankV s n g.1 g.2.1 false) s
  match bank with
  | none => s
  | some b => wrBits s (bankReg n b + 4) 0 4 (bankRefs s n b - 1)

/-! ### Periodic rows (R509) -/

/-- Is the partition of core `n` running: a core of the image, not stopped (R271), not being drained, not frozen (R461)? -/
def partRuns (s : State) (n : Nat) : Bool :=
  let p := partOf s n
  p < 8 && !(s.str.noAdmit.contains p) && !stopped s p && !bit (rd32 s (shtBase + 0x58)) (8 + p)

/-- Starts a periodic row's entry on its context, which is free. -/
def startPeriodic (s : State) (n : Nat) (r : PRow) (e : SEntry) : State :=
  let t : Task := { kind := 2, order := s.str.order, sched := r.entry, activity := e.activity, core := n, ctx := r.ctx,
                    tbAdmit := tb s, startPeriod := period s, use := e.bound }
  let s := count64 (s.setStr { s.str with order := s.str.order + 1 }) (strBase + 0xA0) 1
  let s := setCtx s n r.ctx { ctxOf s n r.ctx with task := some t, hold := .none }
  resetWalks (setPc (setSeqStatus s n r.ctx true false) n r.ctx e.pc) n e.pc

/-- Starts the row whose start waits for context `c`, once the context is free (R509). -/
def startWaiting (s : State) (n c : Nat) : State :=
  match (core s n).waits.find? (fun w => ((variantOf s n).periodic[w.1]?).any (fun r => r.ctx = c)) with
  | none => s
  | some (i, _) =>
    if (taskOf s n c).isSome || !partRuns s n then s
    else match (variantOf s n).periodic[i]? with
      | none => s
      | some r =>
        let s := setCore s n { core s n with waits := SMap.set false (core s n).waits i false }
        match sentry s n r.entry with
        | none => s
        | some e => startPeriodic s n r e

/-! ### Abort (R320) -/

/-- Restores the ready and release counters that a task advanced (R111). -/
def restoreCounters (s : State) (t : Task) : State := s.setMem (t.counters.foldl (fun m (k, v) => keyWrite m k (leBytes 4 v)) s.mem)

/-- Puts back the bytes of the state area that a substitution for the task replaced: an aborted frame changes neither history nor
reference (R168, R202). -/
def restoreSaved (s : State) (n : Nat) (t : Task) : State :=
  t.saved.foldl (fun s (va, bs) => hbmPoke s (partOf s n) va bs) s

/-- The invalidation of an entry is complete once none of its tasks is left: STR_ESTAT.BUSY clears (R306). -/
def checkInvalidation (s : State) : State :=
  let left := s.str.invalidating.filter (fun i => !(streamTasks s i).isEmpty)
  let ended := s.str.invalidating.filter (fun i => (streamTasks s i).isEmpty)
  if ended.isEmpty then s
  else
    let s := s.setStr { s.str with invalidating := left }
    let s := if left.isEmpty then wrBits s (strBase + 0x44) 0 1 0 else s
    ended.foldl (fun s i => arrive s 147 i) s

/-- The task as it is re-admitted or re-issued: its run state is dropped, its slots are kept with extents 0. -/
def Task.again (t : Task) (retry : Bool) : Task :=
  { t with retries := t.retries + (if retry then 1 else 0), reissues := t.reissues + 1, extents := [], numFlags := 0,
           cflags := 0, isKey := false, isRap := false, feat := false, epoch := 0, bank := none, printHash := none, verify := none, finished := false, chained := false,
           counters := [], fabCounters := [], rd := none, jobs := 0, rowStats := [], sideHeld := false, vecs := [], saved := [] }

/-- Frame number that a task's record names: that of its frame header once a decode task has read it, else the number taken at
its start. -/
def Task.number (t : Task) : Nat := match t.rd with | some r => r.frame | none => t.frame

/-- The final abort of a task: its slots are handed over empty, its completion record is written, and its ingress slot is
released, or held when RETRY is 0 and the entry is still valid (R320). -/
def finalAbort (s : State) (t : Task) (code n c : Nat) : State :=
  if t.kind = 2 then s
  else
    let s := if t.slotsTaken then handTask s t true else s
    let held := t.kind = 0 && eRetry t.snap = 0 && eValid (entry s t.stream) && !(s.str.invalidating.contains t.stream)
    let r := eInRing t.snap
    let s := match t.inSlot with
      | none => s
      | some i => if held then
          match islot s r i with
          | some x => setIslot s r i (some { x with state := 2, frame := t.number })
          | none => s
        else releaseSlot s r i
    let flags := t.cflags ||| (if held then 0x80 else 0)
    let s := postRecord s (eCplRing t.snap) false
      (completionBytes code t.numFlags flags t.stream t.number n c t.reissues t.user t.tbAdmit (tb s) 0)
    checkInvalidation s

/-- What follows the abort of a task, by the class of its status. -/
def afterAbort (s : State) (t : Task) (code n c : Nat) : State :=
  match statusClass code with
  | .fault => if t.kind ≠ 2 && t.retries < eRetry t.snap then
      s.setStr { s.str with ready := startAttempt s (t.again true) :: s.str.ready } else finalAbort s t code n c
  | .repair => if t.kind = 2 then s else s.setStr { s.str with ready := startAttempt s (t.again false) :: s.str.ready }
  | _ => finalAbort s t code n c

/-- Aborts the task on one context, with no companions. A verifying decode and a stripe only leave their context: the frame's task
is that of the encode half or of the frame's first core. -/
def abortOne (s : State) (n c code : Nat) : State :=
  match taskOf s n c with
  | none => s
  | some t =>
    let s := clearCtx s n c true
    let s := wr32 s (coreBase n 0 + 0x200) (code + c * 2 ^ 16)
    let s := raiseBy (raise s (coreBase n 0) code) code
    let s := arrive s (16 + 16 * n) (code + c * 2 ^ 16)
    let s := abortChannels (restoreCounters (restoreSaved s n t) t) t.activity t.fabCounters code
    if t.kind ≥ 3 then s else startWaiting (afterAbort s t code n c) n c

/-- A task that an abort ends: where it runs, the task, and its status. -/
abbrev Victim := Nat × Nat × Task × Nat

/-- The status with which the other tasks of a frame end: companion-abort for a fault, else the status that the frame ended with
(R111; log entry 108). -/
def mateCode (code : Nat) : Nat := if statusClass code = .fault then cCompanion else code

/-- The status with which the abort of `v` ends the running task `x` too, if it does: the other half of a verified pair goes with it, and
the tasks of the same frame on other cores (R22, R111); a frame task of the stream that started on the aborted frame's print ends with
predecessor-abort (R171), and a task that exchanged weight-chain tiles with it in the period with companion-abort (R293). -/
def drags (s : State) (v : Victim) (x : Nat × Nat × Task) : Option Nat :=
  let (n, _, t, code) := v
  let (m, _, u) := x
  if t.kind ≠ 2 && u.kind ≠ 2 && t.order = u.order then some (if t.kind = 3 || u.kind = 3 then code else mateCode code)
  else if t.ofFrame && u.ofFrame && !eDecode t.snap && u.stream = t.stream && decide (u.order > t.order) then some 0x0908
  else if t.chained && u.chained && partOf s m = partOf s n then some cCompanion
  else none

/-- The tasks that are aborted with `vs`, each once, found in at most `fuel` rounds. -/
def victims (s : State) : Nat → List Victim → List Victim
  | 0, vs => vs
  | fuel + 1, vs =>
    let new := (runningTasks s).filterMap (fun x => if vs.any (fun v => v.1 = x.1 && v.2.1 = x.2.1) then none
      else (vs.findSome? (fun v => drags s v x)).map (fun code => (x.1, x.2.1, x.2.2, code)))
    if new.isEmpty then vs else victims s fuel (vs ++ new)

/-- Puts a victim before those that were admitted earlier. -/
def orderVictim (v : Victim) : List Victim → List Victim
  | [] => [v]
  | w :: vs => if w.2.2.1.order ≤ v.2.2.1.order then v :: w :: vs else w :: orderVictim v vs

/-- Drops the verifying decode of a frame from the ready list. -/
def dropVerify (s : State) (order : Nat) : State :=
  s.setStr { s.str with ready := s.str.ready.filter (fun t => !(t.kind = 3 && t.order = order)) }

/-- What goes beside an aborted task: a verifying decode of its frame that is not yet running, and the chain buffers of its partition's cores
when it exchanged tiles (R293). -/
def afterVictim (s : State) (v : Victim) : State :=
  let (n, _, t, _) := v
  let s := if t.kind = 2 then s else dropVerify s t.order
  if !t.chained then s
  else (List.range 8).foldl (fun s m => if partOf s m = partOf s n then
    setCore s m { core s m with arr := { (core s m).arr with chainBuf := [], chainFly := [] } } else s) s

/-- Aborts tasks and what they drag with them (R22, R80, R111, R171, R293, R320), the latest admitted first, so that those that are re-admitted
stand at the head of the ready list in admission order. -/
def abortAll (s : State) (vs : List Victim) : State :=
  let vs := (victims s 64 vs).foldr orderVictim []
  vs.foldl afterVictim (vs.foldl (fun s v => abortOne s v.1 v.2.1 v.2.2.2) s)

/-- Aborts with `code` every running task that `p` picks. -/
def abortWhere (s : State) (code : Nat) (p : Nat → Nat → Task → Bool) : State :=
  abortAll s (((runningTasks s).filter (fun (n, c, t) => p n c t)).map (fun (n, c, t) => (n, c, t, code)))

/-- Aborts the task on a context with `code` (R80, R320). -/
def abortTask (s : State) (n c code : Nat) : State :=
  match taskOf s n c with
  | none => s
  | some t => abortAll s [(n, c, t, code)]

/-- Aborts every running task of a partition. -/
def abortPartition (s : State) (part code : Nat) : State := abortWhere s code (fun n _ _ => partOf s n = part)

/-- Ends every ready task of the entries that `p` picks, with `code`. -/
def dropReady (s : State) (code : Nat) (p : Task → Bool) : State :=
  let gone := s.str.ready.filter (fun t => p t && t.kind ≠ 3)
  let s := s.setStr { s.str with ready := s.str.ready.filter (fun t => !p t) }
  gone.foldl (fun s t => finalAbort (raiseBy s code) t code 0 0) s

/-- Stops a partition (R271, R355): its tasks end with `code`, and its rings refuse submissions with it until a load. -/
def stopPartition (s : State) (part code : Nat) : State :=
  let s := wrBits s (mgtBase + 0x488) (24 + part) 1 1
  let s := s.setStr { s.str with stopCode := SMap.set 0 s.str.stopCode part code }
  dropReady (abortPartition s part code) code (fun t => ePart t.snap = part)

/-- A unit's abort of the task on a context. -/
def unitAbort (s : State) (n c : Nat) (a : Abort) : State := abortTask s n c a.code

/-! ### Guards of sequencer instructions (R65) -/

/-- The fetch of the program word at a context's PC: the 16 bytes of the program region (R65), which may meet an uncorrectable error
(R276). -/
def fetchWord (s : State) (n c : Nat) : Except Abort Nat := (storeRead s n (16 * pcOf s n c) 16).map leNat
/-- The program word at a context's PC, 0 when it cannot be read. -/
def programWord (s : State) (n c : Nat) : Nat :=
  match fetchWord s n c with
  | .ok w => w
  | .error _ => 0

/-- Is a partition frozen (SHT_STATUS.FROZEN_PARTS, R461)? -/
def frozen (s : State) (part : Nat) : Bool := part < 8 && bit (rd32 s (shtBase + 0x58)) (8 + part)

/-- Moves a context to its next instruction. -/
def nextPc (s : State) (n c : Nat) : State := setPc s n c (pcOf s n c + 1)

/-- The activity of the task on a context. -/
def ctxActivity (s : State) (n c : Nat) : Nat := match taskOf s n c with | some t => t.activity | none => (ctxOf s n c).activity

/-! ### Unit queues (R65; log entry 106) -/

/-- The queue of unit `u` of core `n`. -/
def unitQueue (s : State) (n u : Nat) : List (Nat × W128) := SMap.get [] (core s n).queues u
def setUnitQueue (s : State) (n u : Nat) (q : List (Nat × W128)) : State :=
  setCore s n { core s n with queues := SMap.set [] (core s n).queues u q }

/-- Does unit `u` execute an instruction that takes more than one command? -/
def unitBusy (s : State) (n u : Nat) : Bool :=
  let k := core s n
  match u with
  | 4 => k.vec.job.isSome
  | 5 => k.entJob.isSome || k.tableJob.isSome
  | 6 => k.motJob.isSome
  | 7 => (List.range 8).any (fun c => (ctxOf s n c).transfer.isSome)
  | _ => k.arr.chainLoad.any (fun l => bits l.w.toNat 8 2 = u)

/-- Does the schedule of core `n` give any context a live activity? -/
def liveCore (s : State) (n : Nat) : Bool := (List.range 8).any (fun c => (ctxOf s n c).role ≠ 0 && (ctxOf s n c).activity % 4 = 0)

/-- May context `c` put an instruction into the queue of unit `u`: on a core with live work, a near-live or archival one only while
that queue is empty and nothing executes? -/
def mayQueue (s : State) (n c u : Nat) : Bool :=
  !liveCore s n || ctxActivity s n c % 4 = 0 || ((unitQueue s n u).isEmpty && !unitBusy s n u)

/-- The queue that the instruction word `w` goes to: 0–3 arrays, 4 vector unit, 5 entropy engine, 6 motion engine, 7 DMA engine; none for
what the sequencer executes itself: NOP, WAIT, SIGNAL, PERIOD, CSLOT and END. -/
def insQueue (w : Nat) : Option Nat :=
  let op := bits w 0 8
  if 0x10 ≤ op && op ≤ 0x12 then some (bits w 8 2)
  else if op = 9 then some 4
  else if op = 0x0A then some 5
  else if op = 0x0B then some 6
  else if op = 8 then some 7
  else none

/-- Bank and rows of a DRAIN (R71). -/
def drBank (w : W128) : Nat := bits w.toNat 15 1
def drRows (w : W128) : Nat := bits w.toNat 56 8 + 1
def drRow0 (w : W128) : Nat := bits w.toNat 64 8

/-- The slot that a CSLOT opens. -/
def openedSlot (c : Nat) (w : W128) : CSlot :=
  { ctag := bits w.toNat 16 32, array := bits w.toNat 48 3, bank := bits w.toNat 51 1, row0 := bits w.toNat 52 8,
    rows := bits w.toNat 60 8 + 1, cols := bits w.toNat 68 8 + 1, groups := bits w.toNat 76 16, holdDesc := bits w.toNat 92 16, ctx := c }

/-- Has a DRAIN that waits in the queue of the slot's home array still to read bank rows of the slot (R72)? -/
def slotHazard (s : State) (n : Nat) (sl : CSlot) : Bool :=
  (unitQueue s n sl.array).any (fun x => bits x.2.toNat 0 8 = 0x12 && drBank x.2 = sl.bank &&
    decide (drRow0 x.2 < sl.row0 + sl.rows ∧ sl.row0 < drRow0 x.2 + drRows x.2))

/-- Does a CSLOT wait: 256 slots are open (R81), or a DRAIN has to read its rows first (R72)? -/
def slotWaits (s : State) (n : Nat) (sl : CSlot) : Bool := (core s n).arr.slots.length ≥ 256 || slotHazard s n sl

/-- Does nothing in the sequencer keep context `c` from its next instruction: the codec side is on, it runs a task, nothing holds it and its
partition is not frozen (R461)? -/
def ctxRuns (s : State) (n c : Nat) : Bool :=
  codecOn s && !frozen s (partOf s n) && (ctxOf s n c).task.isSome && (ctxOf s n c).hold == .none

/-- Is context `c` ready: would its next instruction issue? A NOP, WAIT, SIGNAL, PERIOD or END does, a CSLOT that need not wait, and
a unit's instruction once its queue takes it and the activity's budget admits it. -/
def ctxReady (s : State) (n c : Nat) : Bool :=
  let w := programWord s n c
  let op := bits w 0 8
  ctxRuns s n c &&
  match insQueue w with
  | none => (1 ≤ op && op ≤ 4) || op = 0x1F || (op = 0x13 && !slotWaits s n (openedSlot c (BitVec.ofNat 128 w)))
  | some u => mayQueue s n c u && (u > 3 || admitted s (ctxActivity s n c) n) && (op ≠ 9 || bits w 8 2 ≤ 1) && (op ≠ 0x0B || bits w 8 2 ≤ 1) &&
      (op ≠ 0x0A || bits w 8 2 = 2 || (bits w 8 2 ≤ 1 && admitted s (ctxActivity s n c) (8 + n)))

/-- Does a context go before context `c`: live before near-live before archival, and within one class the lower number (R65)? -/
def outranked (s : State) (n c : Nat) : Bool :=
  let rank (d : Nat) : Nat := ctxActivity s n d % 4 * 8 + d
  (List.range 8).any (fun d => rank d < rank c && ctxReady s n d)

/-- What a command of context `c` does that issues no instruction: a fetch that meets an uncorrectable error aborts the task (R276). -/
def notIssued (s : State) (n c : Nat) : State :=
  match fetchWord s n c with
  | .error a => if ctxRuns s n c then unitAbort s n c a else s
  | .ok _ => s

/-- May context `c` of core `n` issue the instruction word `w` with this opcode now: it runs, the word is the one at its PC, and no context
that is ready goes before it? -/
def canIssue (s : State) (n c : Nat) (w : W128) (op : Nat) : Bool :=
  ctxRuns s n c && bits w.toNat 0 8 = op && programWord s n c = w.toNat && !outranked s n c

/-- Is the oldest instruction in the queue of unit `u` the word `w` of context `c`, and may the unit begin it: the codec side is on
and the partition is not frozen? -/
def atHead (s : State) (n c u : Nat) (w : W128) : Bool :=
  codecOn s && !frozen s (partOf s n) && (ctxOf s n c).task.isSome && (unitQueue s n u).head? == some (c, w)

/-- What a unit instruction's command does: nothing, a refusal for want of budget, the instruction joins its unit's queue, or the
unit begins it. -/
inductive Turn where
  | wait | refuse | queue | start
  deriving DecidableEq, Repr

/-- The turn of the word `w` of context `c` with opcode `op` at unit `u`, which is `ready` for it, when the activity's budget
admits its issue (`adm`) or not. -/
def turn (s : State) (n c : Nat) (w : W128) (op u : Nat) (ready adm : Bool) : Turn :=
  if atHead s n c u w && ready then .start
  else if !canIssue s n c w op || !mayQueue s n c u then .wait
  else if !adm then .refuse
  else if (unitQueue s n u).isEmpty && ready then .start
  else .queue

/-- The instruction leaves the queue of its unit, or leaves its context for a unit that is free. -/
def beginWork (s : State) (n c u : Nat) (w : W128) : State :=
  if atHead s n c u w then setUnitQueue s n u (unitQueue s n u).tail else nextPc s n c

/-- The instruction stands in the queue of its unit. -/
def joinQueue (s : State) (n c u : Nat) (w : W128) : State := nextPc (setUnitQueue s n u (unitQueue s n u ++ [(c, w)])) n c

/-- Puts an instruction that cannot go on yet back at the head of its unit's queue. -/
def requeue (s : State) (n c u : Nat) (w : W128) : State := setUnitQueue s n u ((c, w) :: unitQueue s n u)

/-- Issues the word `w` of context `c` to unit `u`, or begins it with `run` on the state that it leaves behind (R65). The budget of
resource `r` is refused where the activity has none left. -/
def issue (s : State) (n c : Nat) (w : W128) (op u r : Nat) (ready adm : Bool) (run : State → State) : State :=
  match turn s n c w op u ready adm with
  | .wait => notIssued s n c
  | .refuse => refused s (ctxActivity s n c) r
  | .queue => joinQueue s n c u w
  | .start => run (beginWork s n c u w)

/-- ORs numeric conditions into a status register and into the task's completion flags (R54, R55). -/
def noteFlags (s : State) (n c : Nat) (vec : Bool) (f : Nat) : State :=
  if f = 0 then s
  else
    let s := orWord s (coreBase n (if vec then 2 else 1) + 0x80) f
    updTask s n c (fun t => { t with numFlags := t.numFlags ||| f })

end Sys2Proof.Machine
end

