-- ==== Sys2Proof/Machine/Sequencer.lean ====
section
/-! DEFINITION. The sequencer's own instructions: NOP, WAIT, SIGNAL and PERIOD, and the events that end their waits (R66, R67,
R82, R108, R319, R499). -/

namespace Sys2Proof.Machine

/-- Fields of WAIT and SIGNAL (R499). -/
def wsTarget (w : W128) : Nat := bits w.toNat 8 1
def wsSem (w : W128) : Nat := bits w.toNat 10 6
def wsValue (w : W128) : Nat := bits w.toNat 16 32
def wsAddr (w : W128) : Nat := bits w.toNat 64 32

/-- Adds to a semaphore of the task on a context: above 65,535 it stays at 65,535 and the task is aborted (R66). -/
def semSignal (s : State) (n c i v : Nat) : State :=
  if semOf s n i + v > 65535 then abortTask (setSem s n i 65535) n c cSemOverflow
  else setSem s n i (semOf s n i + v)

/-- The i32 comparison of R108: has a counter reached its target? -/
def reached (counter target : Nat) : Bool := decide (toSigned 32 ((counter + (2 ^ 32 - target % 2 ^ 32)) % 2 ^ 32) ≥ 0)

/-- Does a context have work on another unit that is not complete, queued or running (R108, R319)? A persistent stream counts as
complete. -/
def hasWork (s : State) (n c : Nat) : Bool :=
  let k := core s n
  k.queues.any (fun q => q.2.any (fun i => i.1 = c)) || (ctxOf s n c).transfer.isSome || k.vec.job.any (fun j => j.ctx = c) || k.entJob.any (fun j => j.ctx = c) ||
  k.tableJob.any (fun j => j.ctx = c) || k.motJob.any (fun j => j.ctx = c) || k.arr.chainLoad.any (fun j => j.ctx = c)

/-- Holds a context (SEQ_STATUS.WAITING shows WAIT and PERIOD, R82). -/
def holdCtx (s : State) (n c : Nat) (h : Hold) (waiting : Bool) : State :=
  setSeqStatus (setCtx s n c { ctxOf s n c with hold := h }) n c true waiting

/-- Releases a held context, which goes on after the instruction. -/
def resume (s : State) (n c : Nat) : State := nextPc (holdCtx s n c .none false) n c

/-- NOP (R67). -/
def execNop (n c : Nat) (w : W128) (s : State) : Out := .next (if canIssue s n c w 0x01 then nextPc s n c else notIssued s n c)

/-- WAIT (R66, R499): a target already reached lets the context go on, and a semaphore loses VALUE; otherwise the context is
held. -/
def execWait (n c : Nat) (w : W128) (s : State) : Out := .next <|
  if !canIssue s n c w 0x02 then notIssued s n c
  else if wsValue w = 0 then nextPc s n c
  else if wsTarget w = 0 then
    if semOf s n (wsSem w) ≥ wsValue w then nextPc (setSem s n (wsSem w) (semOf s n (wsSem w) - wsValue w)) n c
    else holdCtx s n c (.sem (wsSem w) (wsValue w)) true
  else match storeRead s n (wsAddr w) 4 with
    | .error a => unitAbort s n c a
    | .ok bs => if reached (leNat bs) (wsValue w) then nextPc s n c else holdCtx s n c (.counter (wsAddr w) (wsValue w)) true

/-- WAIT_SATISFIED (R66): a held WAIT whose target is reached lets its context go on. -/
def execWaitSatisfied (n c : Nat) (s : State) : Out := .next <|
  if !codecOn s then s
  else match (ctxOf s n c).hold with
    | .sem i v => if semOf s n i ≥ v then resume (setSem s n i (semOf s n i - v)) n c else s
    | .counter a v => match storeRead s n a 4 with
      | .error e => unitAbort s n c e
      | .ok bs => if reached (leNat bs) v then resume s n c else s
    | _ => s

/-- SIGNAL (R66, R108, R499): a semaphore gains VALUE at once; a counter is held until the context's earlier work is
complete. -/
def execSignal (n c : Nat) (w : W128) (s : State) : Out := .next <|
  if !canIssue s n c w 0x03 then notIssued s n c
  else if wsValue w = 0 then nextPc s n c
  else if wsTarget w = 0 then semSignal (nextPc s n c) n c (wsSem w) (wsValue w)
  else holdCtx s n c (.ready (wsAddr w) (wsValue w)) false

/-- READY_COUNTER_ADVANCE (R108): once the context's earlier instructions are complete, the counter advances modulo 2^32;
its value before the task's first advance is kept for R111. -/
def execReadyCounterAdvance (n c : Nat) (s : State) : Out := .next <|
  if !codecOn s then s
  else match (ctxOf s n c).hold with
    | .ready a v =>
      if hasWork s n c then s
      else match storeRead s n a 4 with
        | .error e => unitAbort s n c e
        | .ok bs =>
          match storeWrite s n a (leBytes 4 (leNat bs + v)) with
          | .error e => unitAbort s n c e
          | .ok s' =>
            let k := (storeKey s n a).getD 0
            resume (updTask s' n c (fun t =>
              if t.counters.any (fun x => x.1 = k) then t else { t with counters := SMap.insert t.counters k (leNat bs) })) n c
    | _ => s

/-- PERIOD (R319): holds the context until the next boundary as ACLK takes it. -/
def execPeriod (n c : Nat) (w : W128) (s : State) : Out := .next <|
  if canIssue s n c w 0x04 then holdCtx s n c .period true else notIssued s n c

end Sys2Proof.Machine
end

