-- ==== Sys2Proof/Machine/Arrays.lean ====
section
/-! DEFINITION. The tensor arrays: LDW, the weight chain, MMA in its four modes, and DRAIN (R36 to R44, R58 to R72, R79, R97,
R98, R292). -/

namespace Sys2Proof.Machine

/-! ### Gangs (R58, R60) -/

/-- Cell rows of a gang and its columns in 8-bit terms. -/
def gangRows (s : State) (n : Nat) : Nat := if (coreCfg s n).gang = 2 then 256 else 128
def gangCols (s : State) (n : Nat) : Nat := if (coreCfg s n).gang = 0 then 128 else 256
/-- K depth of a gang on a path: 4-bit modes hold two K elements in a cell row (R58). -/
def gangDepth (s : State) (n : Nat) (p : Path) : Nat := if p.fourBit then 2 * gangRows s n else gangRows s n

/-- Charges array cycles to the task's activity and counts ARY_ACTCYC (R79, R81): `arrays` arrays for `cyc` cycles. -/
def chargeArray (s : State) (n c arrays cyc : Nat) : State :=
  count64 (charge s (ctxActivity s n c) n (arrays * cyc)) (coreBase n 1 + 0xA0) cyc

/-- Logical array of a matrix opcode. -/
def mArray (w : W128) : Nat := bits w.toNat 8 2

/-- Issues a matrix instruction into its array's queue, or begins it (R65): it issues only while the activity's array budget is
above zero (R79), and an array that still takes a tile from the weight chain executes nothing else. -/
def arrayIssue (s : State) (n c : Nat) (w : W128) (op : Nat) (ready : Bool) (run : State → State) : State :=
  issue s n c w op (mArray w) n (ready && !unitBusy s n (mArray w)) (admitted s (ctxActivity s n c) n) run

/-- Records an address-generator fault (R86, R113, R392) before the abort. -/
def agFault (s : State) (n c desc array : Nat) (a : Abort) : State :=
  let s := if a.code = cAddressRange then
      arrive (wr32 s (coreBase n 1 + 0xD8) (desc % 2 ^ 13 + array * 2 ^ 16 + 2 ^ 31)) (16 + 16 * n + 1) (a.code + c * 2 ^ 16)
    else s
  unitAbort (raise s (coreBase n 1) a.code) n c a

/-! ### LDW (R68, R292) -/

def ldwFmt (w : W128) : Nat := bits w.toNat 11 4
def ldwDesc (w : W128) : Nat := bits w.toNat 16 16
def ldwK (w : W128) : Nat := bits w.toNat 32 16
def ldwN (w : W128) : Nat := bits w.toNat 48 16
def ldwSrc (w : W128) : Bool := bit w.toNat 64
def ldwFwd (w : W128) : Bool := bit w.toNat 65

/-- Bytes of one K row of a tile. -/
def tileRow (fmt cols : Nat) : Nat := ceilDiv (cols * fmtBits fmt) 8

/-- Reads a tile from the tile store: its rows one after another, and its FP4 scales by segment (R68). -/
def readTile (s : State) (n : Nat) (w : W128) : Except Abort (List Byte × List Byte) := do
  let d ← descOf s n (ldwDesc w)
  let rows ← (List.range (ldwK w)).mapM (fun k =>
    storeRead s n (dBase d + k * dRowPitch d) (tileRow (ldwFmt w) (ldwN w)))
  let scales ← if ldwFmt w = 8 then
      (List.range (ceilDiv (ldwK w) 32)).mapM (fun g => storeRead s n (dScaleBase d + g * dScalePitch d) (ldwN w))
    else pure []
  return (rows.flatten, scales.flatten)

/-- The shadow weights that a tile makes: element (k, n) and, for FP4 block weights, the scale of its segment. -/
def tileWeights (w : W128) (tile scales : List Byte) : Weights :=
  let fmt := ldwFmt w
  let row := tileRow fmt (ldwN w)
  let elem (k j : Nat) : Nat :=
    if fmtBits fmt = 4 then bits (leAt tile (k * row + j / 2) 1) (4 * (j % 2)) 4
    else leAt tile (k * row + j * (fmtBits fmt / 8)) (fmtBits fmt / 8)
  { fmt := fmt, kRows := ldwK w, nCols := ldwN w,
    raw := ((List.range (ldwK w)).flatMap (fun k => (List.range (ldwN w)).map (fun j => (k * 256 + j, elem k j)))).filter (·.2 ≠ 0),
    scale := if fmt = 8 then
      ((List.range (ceilDiv (ldwK w) 32)).flatMap (fun g => (List.range (ldwN w)).map (fun j => (g * 256 + j, leAt scales (g * ldwN w + j) 1)))).filter (·.2 ≠ 0)
      else [] }

/-- Puts weights into the shadow registers (ARY_STATE.SHADOW, R81). -/
def setShadow (s : State) (n l : Nat) (x : Weights) : State :=
  let k := core s n
  aryState (setCore s n { k with arr := { k.arr with shadow := SMap.set {} k.arr.shadow l x } }) n 4 l true

/-- The next core of the weight chain (R292). -/
def chainNext (s : State) (n : Nat) : Option Nat :=
  (range' (n + 1) (7 - n)).find? (fun m => partOf s m = partOf s n && partOf s n != 0xFF)

/-- The parts of a tile (R292): up to 64 KiB of weights each; the scales travel with part 0. -/
def chainParts (w : W128) (tile scales : List Byte) : List ChainPart :=
  let cnt := max 1 (ceilDiv tile.length 65536)
  (List.range cnt).map (fun i =>
    { fmt := ldwFmt w, kRows := ldwK w, nCols := ldwN w, index := i, count := cnt,
      data := (tile.drop (65536 * i)).take 65536, scales := if i = 0 then scales else [] })

/-- Is the link to the successor free: the part sent last has reached a slot of the successor's chain buffer, or there is no successor
(R292)? -/
def linkFree (s : State) (n : Nat) : Bool :=
  match chainNext s n with
  | none => true
  | some m => (core s m).arr.chainFly = []

/-- Puts a part on the link to the successor. -/
def chainSend (s : State) (n : Nat) (p : ChainPart) : State :=
  match chainNext s n with
  | none => s
  | some m => setCore s m { core s m with arr := { (core s m).arr with chainFly := (core s m).arr.chainFly ++ [p] } }

/-- Ends an LDW whose whole tile is present: the shadow registers take it. -/
def ldwFinish (s : State) (n c : Nat) (w : W128) (tile scales : List Byte) : State :=
  chargeArray (setShadow s n (mArray w) (tileWeights w tile scales)) n c (gangArrays s n) (if ldwFmt w = 13 then 256 else 128)

/-- What the LDW in progress on the chain of core `n` is without a part: the rest of its core's buffer, itself with the part taken in or sent,
and whether the part was its last. -/
def ChainLoad.after (l : ChainLoad) (p : ChainPart) : ChainLoad :=
  if ldwSrc l.w then { l with tile := l.tile ++ p.data, scales := l.scales ++ p.scales } else { l with out := l.out.tail }

/-- The part that the LDW in progress takes up next: the oldest in the chain buffer, or its own next part to forward. -/
def nextPart (a : Arrays) (l : ChainLoad) : Option ChainPart := if ldwSrc l.w then a.chainBuf.head? else l.out.head?

/-- Moves parts for the LDW in progress (R292): it takes those in the chain buffer in arrival order, and forwards each while the link to the
successor is free, so it waits while both slots there are full. A part whose tile differs from the LDW's fields aborts the task. -/
def chainTake (s : State) (n : Nat) : Nat → State
  | 0 => s
  | fuel + 1 =>
    match (core s n).arr.chainLoad with
    | none => s
    | some l =>
      match nextPart (core s n).arr l with
      | none => s
      | some p =>
        if p.fmt ≠ ldwFmt l.w ∨ p.kRows ≠ ldwK l.w ∨ p.nCols ≠ ldwN l.w then unitAbort s n l.ctx ⟨cChainMismatch, 0⟩
        else if ldwFwd l.w && !linkFree s n then s
        else
          let s := updTask (if ldwFwd l.w then chainSend s n p else s) n l.ctx (fun t => { t with chained := true })
          let a := (core s n).arr
          let a := { a with chainBuf := if ldwSrc l.w then a.chainBuf.tail else a.chainBuf }
          let l := l.after p
          if p.index + 1 = p.count then
            let s := setCore s n { core s n with arr := { a with chainLoad := none } }
            ldwFinish (aryState s n 0 (mArray l.w) false) n l.ctx l.w l.tile l.scales
          else chainTake (setCore s n { core s n with arr := { a with chainLoad := some l } }) n fuel

/-- May an LDW begin: the shadow registers hold no weights that are not yet swapped in (R72), and no earlier LDW is still at the weight
chain. -/
def ldwReady (s : State) (n : Nat) (w : W128) : Bool :=
  rdBits s (coreBase n 1 + 0x60) (4 + mArray w) 1 = 0 && (!(ldwSrc w || ldwFwd w) || (core s n).arr.chainLoad.isNone)

/-- An LDW at the weight chain goes on there, its array busy. -/
def chainOpen (s : State) (n : Nat) (l : ChainLoad) : State :=
  chainTake (aryState (setCore s n { core s n with arr := { (core s n).arr with chainLoad := some l } }) n 0 (mArray l.w) true) n 3

/-- The effect of an LDW that begins: its tile comes from the weight chain, part by part, or from the tile store, whose tile is forwarded
part by part when CHAIN_FWD is 1. -/
def ldwRun (n c : Nat) (w : W128) (s : State) : State :=
  if ldwSrc w then chainOpen s n ⟨c, w, [], [], []⟩
  else match readTile s n w with
    | .error a => agFault s n c (ldwDesc w) (mArray w) a
    | .ok (tile, scales) =>
      if ldwFwd w then chainOpen s n ⟨c, w, tile, scales, chainParts w tile scales⟩ else ldwFinish s n c w tile scales

/-- The previous core of the weight chain (R292). -/
def chainPrev (s : State) (n : Nat) : Option Nat := (List.range n).reverse.find? (fun m => partOf s m = partOf s n && partOf s n != 0xFF)

/-- Lets the predecessor's LDW go on once the link to core `n` is free. -/
def chainFeed (s : State) (n : Nat) : State :=
  match chainPrev s n with
  | none => s
  | some m => chainTake s m 3

/-- LDW (R68). -/
def execLdw (n c : Nat) (w : W128) (s : State) : Out :=
  .next (arrayIssue s n c w 0x10 (ldwReady s n w) (ldwRun n c w))

/-- CHAIN_PART_ARRIVAL (R292): the part on the link to a core reaches a free slot of its chain buffer, an LDW that waits for it takes it,
and the predecessor's LDW forwards its next part. -/
def execChainPartArrival (n : Nat) (s : State) : Out := .next <|
  let a := (core s n).arr
  if !codecOn s then s
  else match a.chainFly with
    | [] => chainFeed s n
    | p :: rest =>
      if a.chainBuf.length ≥ 2 then s
      else chainFeed (chainTake (setCore s n { core s n with arr := { a with chainFly := rest, chainBuf := a.chainBuf ++ [p] } }) n 3) n

/-! ### MMA (R69, R70) -/

def mmaFmt (w : W128) : Nat := bits w.toNat 11 4
def mmaSwap (w : W128) : Bool := bit w.toNat 15
def mmaDesc (w : W128) : Nat := bits w.toNat 16 16
def mmaRows (w : W128) : Nat := bits w.toNat 32 8 + 1
def mmaBank (w : W128) : Nat := bits w.toNat 40 1
def mmaMode (w : W128) : Nat := bits w.toNat 42 2
def mmaGFirst (w : W128) : Nat := bits w.toNat 48 16
def mmaCtag (w : W128) : Nat := bits w.toNat 64 32
def mmaRow0 (w : W128) : Nat := bits w.toNat 96 8

/-- A bank entry (R64). -/
def bankKey (l b row col : Nat) : Nat := ((l * 2 + b) * 256 + row) * 256 + col
def bankEntry (s : State) (n l b row col : Nat) : Acc := SMap.get {} (core s n).arr.bank (bankKey l b row col)
def setBankEntry (s : State) (n l b row col : Nat) (e : Acc) : State :=
  setCore s n { core s n with arr := { (core s n).arr with bank := SMap.set {} (core s n).arr.bank (bankKey l b row col) e } }
def nextG (s : State) (n l b : Nat) : Nat := SMap.get 0 (core s n).arr.nextg (l * 2 + b)
def setNextG (s : State) (n l b g : Nat) : State :=
  setCore s n { core s n with arr := { (core s n).arr with nextg := SMap.set 0 (core s n).arr.nextg (l * 2 + b) g } }

/-- Marks a bank region as used by a context: it is cleared when the task ends (R64, R80), and BANKV shows it (R81). -/
def useRegion (s : State) (n c l b row0 rows : Nat) : State :=
  setBankV (setCtx s n c { ctxOf s n c with regions := (l, b, row0, rows) :: (ctxOf s n c).regions }) n l b true

/-- A pass: its path, band count and height, groups of each column, logical index of cell element `r`. -/
structure Pass where
  path : Path
  aFmt : Nat
  wts : Weights
  bands : Nat
  h : Nat
  groups : Nat
  gFirst : Nat
  deriving DecidableEq, Repr

/-- The pass of an MMA over the active weights (R59, R97, R98): a pass has as many groups as the loaded K rows need. Weights that
no LDW has made active are +0 in the activation format, over the whole depth (R64). -/
def passOf (s : State) (n : Nat) (w : W128) (d : Nat) (wts : Weights) : Pass :=
  let wts := if wts.kRows = 0 then { wts with fmt := mmaFmt w } else wts
  let p := pathOf (mmaFmt w) wts.fmt
  let depth := gangDepth s n p
  let b := dBands d
  if b = 1 then ⟨p, mmaFmt w, wts, 1, depth, ceilDiv (if wts.kRows = 0 then depth else wts.kRows) 32, mmaGFirst w⟩
  else ⟨p, mmaFmt w, wts, b, depth / b, depth / b / 32, mmaGFirst w⟩

/-- Band and logical index of cell element `r` of a pass. -/
def Pass.index (q : Pass) (r : Nat) : Nat × Nat :=
  if q.bands = 1 then (0, 32 * q.gFirst + r) else (r / q.h, q.gFirst * q.h + r % q.h)

/-- Cell elements of a pass. -/
def Pass.cells (q : Pass) : Nat := if q.bands = 1 then 32 * q.groups else q.bands * q.h

/-- BANK_NEXTG after the pass (R70, R98). -/
def Pass.next (q : Pass) : Nat := if q.bands = 1 then q.gFirst + q.groups else q.gFirst + 1

/-- First group that the pass's records name (R73): the slice of a banded integer pass, which R98 numbers by slices (DESIGN CHOICE, log
entry 15), else the group of 32 K elements. -/
def Pass.recFirst (q : Pass) : Nat := if q.bands ≠ 1 && q.path.isInt then q.gFirst else if q.bands = 1 then q.gFirst else q.gFirst * q.h / 32
/-- Groups that the pass's records name. -/
def Pass.recCount (q : Pass) : Nat := if q.bands ≠ 1 && q.path.isInt then 1 else max q.groups 1
/-- First group index of the pass in units of 32 K elements. -/
def Pass.firstGroup (q : Pass) : Nat := if q.bands = 1 then q.gFirst else q.gFirst * q.h / 32

/-- The activations of a row: raw bits and scales of every cell element. -/
def rowElems (s : State) (n d i : Nat) (q : Pass) : Except Abort (List (Nat × Nat)) :=
  (List.range q.cells).mapM (fun r => let (b, k) := q.index r; mmaElem s n d q.aFmt i b k)

/-- Weight of cell element `r`, column `j`. -/
def Pass.weight (q : Pass) (r j : Nat) : Nat := SMap.get 0 q.wts.raw (r * 256 + j)

/-- Integer dot product of a row with a column (R36). -/
def Pass.intDot (q : Pass) (row : List (Nat × Nat)) (j : Nat) : Int :=
  (row.zipIdx.map (fun (a, r) => intDecode q.aFmt a.1 * intDecode q.wts.fmt (q.weight r j))).foldl (· + ·) 0

/-- The cell elements whose segments a column chains (R98). -/
def Pass.colFirst (q : Pass) (cols j : Nat) : Nat := if q.bands = 1 then 0 else j / (cols / q.bands) * q.h

/-- Group sums of a row with a column, in ascending group order, with the flags of each (R39, R40). -/
def Pass.groupSums (q : Pass) (row : List (Nat × Nat)) (cols j : Nat) : List ((Int × Int) × Special) :=
  let r0 := q.colFirst cols j
  (List.range q.groups).map (fun g =>
    groupOf q.path.F ((List.range 32).map (fun i =>
      let r := r0 + 32 * g + i
      let a := row.getD r (0, 0)
      (fpElem q.aFmt a.1 a.2, fpElem q.wts.fmt (q.weight r j) (SMap.get 0 q.wts.scale (r / 32 * 256 + j))))))

/-- Wraps to 48 bits (R36). -/
def wrap48 (x : Int) : Int := toSigned 48 (ofSigned 48 x)

/-- Applies group sums to an entry in order (R41, R42). -/
def chainGroups (p : Path) (e : Acc) (gs : List ((Int × Int) × Special)) : Acc :=
  gs.foldl (fun e g =>
    let (v, f) := chainStep p e.fp g.1.1 g.1.2
    { e with fp := v, sBits := p.S, sp := { e.sp.or g.2 with accOvf := e.sp.accOvf || g.2.accOvf || f ≠ 0 } }) e

/-- The conditions that a pass sets at an entry (R38, R41, R44, R54, R77): those of its own products and chain steps, and INVALID
when its infinities complete a pair of both signs. -/
def passFlags (old new : Acc) (gs : List ((Int × Int) × Special)) : NumFlags :=
  let f := (gs.map (·.2)).foldl Special.or {}
  fIf f.nan fNanIn ||| fIf (f.inv || ((f.pinf || f.ninf) && new.sp.pinf && new.sp.ninf)) fInvalid ||| fIf f.prodOvf fProdOvf
    ||| fIf (new.sp.accOvf && !old.sp.accOvf) fAccOvf

/-- The conditions that a pass sets at an entry of a row; an integer pass sets none. -/
def Pass.flags (q : Pass) (row : List (Nat × Nat)) (cols j : Nat) (e : Acc) : NumFlags :=
  if q.path.isInt then 0
  else passFlags e (chainGroups q.path e (q.groupSums row cols j)) (q.groupSums row cols j)

/-- The entry that a pass makes of an entry. -/
def Pass.apply (q : Pass) (row : List (Nat × Nat)) (cols j : Nat) (e : Acc) : Acc :=
  if q.path.isInt then { e with int := wrap48 (e.int + q.intDot row j) }
  else chainGroups q.path e (q.groupSums row cols j)

/-- Writes a list of entries of one bank row from column 0. -/
def writeRow (s : State) (n l b row : Nat) (es : List Acc) : State :=
  let k := core s n
  setCore s n { k with arr := { k.arr with bank := SMap.setAll {} k.arr.bank (bankKey l b row 0) es } }

/-- Streams the rows of a START or CONT pass into the bank (R70), with the conditions that they set. -/
def streamRows (s0 : State) (n d : Nat) (q : Pass) (l b row0 cols : Nat) (start : Bool) (rows : Nat) : Except Abort (State × NumFlags) :=
  (List.range rows).foldlM (fun (s, f) m => do
    let row ← rowElems s0 n d (dPosCur d + m) q
    let old (j : Nat) : Acc := if start then {} else bankEntry s n l b (row0 + m) j
    return (writeRow s n l b (row0 + m) ((List.range cols).map (fun j => q.apply row cols j (old j))),
      (List.range cols).foldl (fun f j => f ||| q.flags row cols j (old j)) f)) (s0, 0)

/-- What every MMA does before its rows: the swap, and the band window of a large filter (R72, R102). -/
def mmaSwapIn (s : State) (n : Nat) (w : W128) : State :=
  if !mmaSwap w then s
  else
    let k := core s n
    let l := mArray w
    aryState (setCore s n { k with arr := { k.arr with active := SMap.set {} k.arr.active l (SMap.get {} k.arr.shadow l) } }) n 4 l false

/-- What every MMA does after its rows: the cursor (R87) and the charge of its streaming cycles (R58, R79). -/
def mmaAfter (s : State) (n c : Nat) (w : W128) (d : Nat) (wfmt : Nat) : State :=
  let s := if mmaGFirst w = dAdvSlice d then advPos s n (mmaDesc w) (mmaRows w) else s
  chargeArray s n c (gangArrays s n) (mmaRows w * pathBeat (mmaFmt w) wfmt)

/-- START and CONT (R70). A CONT out of chain order aborts the task. -/
def mmaBankMode (n c : Nat) (w : W128) (start : Bool) (s : State) : State :=
  let l := mArray w
  let s0 := s
  if !start && nextG s n l (mmaBank w) ≠ mmaGFirst w then unitAbort (raise s (coreBase n 1) cChainOrder) n c ⟨cChainOrder, 0⟩
  else
    let s := mmaSwapIn s n w
    match descOf s n (mmaDesc w) with
    | .error a => agFault s0 n c (mmaDesc w) l a
    | .ok d =>
      let q := passOf s n w d (SMap.get {} (core s n).arr.active l)
      match streamRows (writeBand s n (mmaDesc w) d q.firstGroup) n d q l (mmaBank w) (mmaRow0 w) (gangCols s n) start (mmaRows w) with
      | .error a => agFault s0 n c (mmaDesc w) l a
      | .ok (s, f) =>
        let s := noteFlags (useRegion s n c l (mmaBank w) (mmaRow0 w) (mmaRows w)) n c false f
        mmaAfter (setNextG s n l (mmaBank w) q.next) n c w d q.wts.fmt

/-- Issues an MMA of a given mode, or begins it with `run`. -/
def mmaIssue (n c : Nat) (w : W128) (mode : Nat) (run : State → State) (s : State) : Out :=
  .next (if mmaMode w ≠ mode then s else arrayIssue s n c w 0x11 true run)

/-- MMA START (R70). -/
def execMmaStart (n c : Nat) (w : W128) (s : State) : Out := mmaIssue n c w 0 (mmaBankMode n c w true) s

/-- MMA CONT (R70). -/
def execMmaCont (n c : Nat) (w : W128) (s : State) : Out := mmaIssue n c w 1 (mmaBankMode n c w false) s

/-! ### Records (R73) -/

/-- A combining record. -/
def mkRecord (kind value exp : Nat) (sp : Special) (sign : Bool) (g0 g1 ctag row col : Nat) : W256 :=
  BitVec.ofNat 256 (value % 2 ^ 64 + exp % 2 ^ 16 * 2 ^ 64 + kind * 2 ^ 80 + sp.nan.toNat * 2 ^ 82 + sp.inv.toNat * 2 ^ 83 +
    sp.pinf.toNat * 2 ^ 84 + sp.ninf.toNat * 2 ^ 85 + sp.prodOvf.toNat * 2 ^ 86 + sp.accOvf.toNat * 2 ^ 87 + sign.toNat * 2 ^ 88 +
    g0 % 2 ^ 16 * 2 ^ 96 + g1 % 2 ^ 16 * 2 ^ 112 + ctag % 2 ^ 32 * 2 ^ 128 + row % 2 ^ 16 * 2 ^ 160 + col % 2 ^ 16 * 2 ^ 176)

/-- The chained-value record of an entry (KIND 2). Its significand has the path's S significant bits where the chain rounded, and
otherwise those of the exact sum: R73 does not say which of the equal pairs of significand and exponent a record carries, and no
value depends on it (DESIGN CHOICE, log entry 15). -/
def chainedRecord (e : Acc) (g0 g1 ctag row col : Nat) : W256 :=
  match e.fp with
  | .fin sg m x => mkRecord 2 m (ofSigned 16 x) e.sp sg g0 g1 ctag row col
  | .inf sg => mkRecord 2 0 0 { e.sp with accOvf := true } sg g0 g1 ctag row col
  | .nan => mkRecord 2 0 0 e.sp false g0 g1 ctag row col

/-- The records of one row of an EMIT or HEAD, in ascending group and column order (R70). A HEAD on an integer path sends KIND 0
records: R73 gives KIND 2 a floating-point form only (DESIGN CHOICE, log entry 15). -/
def emitRow (q : Pass) (row : List (Nat × Nat)) (head : Bool) (cols ctag r : Nat) : List W256 :=
  let g0 := q.recFirst
  let g1 := g0 + q.recCount - 1
  if q.path.isInt then
    (List.range cols).map (fun j => mkRecord 0 (ofSigned 64 (q.intDot row j)) 0 {} false g0 g1 ctag r j)
  else if head then
    (List.range cols).map (fun j => chainedRecord (q.apply row cols j {}) g0 g1 ctag r j)
  else
    (List.range cols).flatMap (fun j => (q.groupSums row cols j).zipIdx.map (fun (g, i) =>
      mkRecord 1 (ofSigned 64 g.1.1) (ofSigned 16 g.1.2) g.2 false (g0 + i) (g0 + i) ctag r j))

/-- The conditions that a row of an EMIT or HEAD sets at the arrays that form its products: those of the products, and of the
chain of a HEAD (R38, R41, R44). -/
def emitFlags (q : Pass) (row : List (Nat × Nat)) (head : Bool) (cols j : Nat) : NumFlags :=
  if head then q.flags row cols j {} else if q.path.isInt then 0 else passFlags {} {} (q.groupSums row cols j)

/-- Every record of an EMIT or HEAD, with the conditions that the pass sets. -/
def emitRecords (s : State) (n d : Nat) (q : Pass) (w : W128) (head : Bool) : Except Abort (List W256 × NumFlags) := do
  let cols := gangCols s n
  let rs ← (List.range (mmaRows w)).mapM (fun m => do
    let row ← rowElems s n d (dPosCur d + m) q
    return (emitRow q row head cols (mmaCtag w) (mmaRow0 w + m), (List.range cols).foldl (fun f j => f ||| emitFlags q row head cols j) 0))
  return ((rs.map (·.1)).flatten, rs.foldl (fun f r => f ||| r.2) 0)

/-! ### DRAIN (R48 to R52, R71, R503) -/

def drDesc (w : W128) : Nat := bits w.toNat 24 16
def drPar (w : W128) : Nat := bits w.toNat 40 16
def drFmt (w : W128) : Nat := bits w.toNat 11 4

/-- The conversion word of a DRAIN, with the clip bounds of its parameter block. -/
def drConv (w : W128) (par : List Byte) : ConvWord :=
  { outFmt := drFmt w, sat := bit w.toNat 16, inf := bit w.toNat 17, clipEn := bit w.toNat 18, act := bits w.toNat 19 2,
    clipLo := leAt par 0 4, clipHi := leAt par 4 4 }
/-- Parameters of column `j` (R71). -/
def drCol (par : List Byte) (j : Nat) : ColParam :=
  { mult := leAt par (16 + 12 * j) 4, bias := leAt par (20 + 12 * j) 4, shift := leAt par (24 + 12 * j) 1 % 64 }

/-- Channel that gang column `j` writes, if any (R503). -/
def drainChannel (d cols j : Nat) : Option Nat :=
  let b := dBands d
  let r := cols / b
  if j % r < dCg d then some (dCOff d + j / r * dBandStep d + j % r) else none

/-- Converts an entry to an integer format, or to the value of R50 before its last step, with the conditions of the conversion. -/
def convertEntry (cw : ConvWord) (p : ColParam) (e : Acc) : (Int ⊕ Fp) × NumFlags :=
  if fmtIsInt cw.outFmt then let (v, f) := convertInt cw p e.int; (.inl v, f)
  else
    let (v, g) := convertFpSteps e.sBits cw p (finalValue e.fp e.sp).1
    (.inr v, g)

/-- Writes one bank row: the written columns in ascending order; FP4 block outputs go by the blocks of 32 consecutive channels of a
stored pixel in which they lie (R52, R506). -/
def drainRow (s : State) (n d i : Nat) (cw : ConvWord) (cols : List (Nat × (Int ⊕ Fp))) : Except Abort (State × NumFlags) :=
  let (y, x) := walkPos d i
  if cw.outFmt = 8 then
    (cols.splitBy (fun a b => scaleBlock d y x a.1 = scaleBlock d y x b.1)).foldlM (fun (s, f) blk => do
      let (sc, raws, g) := fp4Block (blk.map (fun c => match c.2 with | .inr v => v | .inl _ => .zero))
      let s ← writeScale s n d y x ((blk.headD (0, .inl 0)).1) sc
      let s ← (blk.zip raws).foldlM (fun s (c, raw) => writeAt s n d 8 y x c.1 raw) s
      return (s, f ||| g)) (s, 0)
  else
    cols.foldlM (fun (s, f) c =>
      match c.2 with
      | .inl v => do return (← writeAt s n d cw.outFmt y x c.1 (intEncode cw.outFmt v), f)
      | .inr v => do
        let (raw, g) := fpEncode cw.outFmt cw.inf v
        return (← writeAt s n d cw.outFmt y x c.1 raw, f ||| g)) (s, 0)

/-- The rows of a DRAIN, with the conditions that its written columns raise. -/
def drainRows (s : State) (n : Nat) (w : W128) (d : Nat) (par : List Byte) : Except Abort (State × NumFlags) :=
  let cols := gangCols s n
  let cw := drConv w par
  (List.range (drRows w)).foldlM (fun (st, f) r => do
    let es := (List.range cols).filterMap (fun j => (drainChannel d cols j).map (fun ch =>
      (ch, convertEntry cw (drCol par j) (bankEntry s n (mArray w) (drBank w) (drRow0 w + r) j))))
    let (st, g) ← drainRow st n d (dPosCur d + r) cw (es.map (fun e => (e.1, e.2.1)))
    return (st, (es.map (fun e => e.2.2)).foldl (· ||| ·) (f ||| g))) (s, 0)

/-- Columns whose parameters a DRAIN reads: up to the last written one. -/
def drCols (d cols : Nat) : Nat := ((List.range cols).filter (fun j => (drainChannel d cols j).isSome)).foldl (fun m j => max m (j + 1)) 0

/-- ACLK cycles of one drained row of 128 positions (R71). -/
def drainBeat (fmt : Nat) : Nat := if fmt = 7 then 4 else if fmt = 6 ∨ fmt = 13 then 2 else 1

/-- Position of a slot's row and column, and the groups of it that have been accounted for (R74, R75). -/
def slotPos (row col : Nat) : Nat := row * 256 + col
def CSlot.count (sl : CSlot) (pos : Nat) : Nat := (sl.got.filter (fun x => x.1 / 65536 = pos)).length
/-- Is every position of a slot's row final (R77)? -/
def CSlot.rowFinal (sl : CSlot) (row : Nat) : Bool := (List.range sl.cols).all (fun j => sl.groups ≤ sl.count (slotPos row j))
/-- Does a DRAIN wait for rows of an open combine slot (R77)? -/
def drainWaits (s : State) (n : Nat) (w : W128) : Bool :=
  (core s n).arr.slots.any (fun sl => sl.array = mArray w && sl.bank = drBank w &&
    (List.range sl.rows).any (fun r => drRow0 w ≤ sl.row0 + r && sl.row0 + r < drRow0 w + drRows w && !sl.rowFinal r))

/-- The effect of a DRAIN that begins. -/
def drainRun (n c : Nat) (w : W128) (s : State) : State :=
  let r : Except (Nat × Abort) (State × NumFlags) := do
    let d ← (descOf s n (drDesc w)).mapError (fun a => (drDesc w, a))
    let p ← (descOf s n (drPar w)).mapError (fun a => (drPar w, a))
    let par ← (storeRead s n (dBase p) (16 + 12 * drCols d (gangCols s n))).mapError (fun a => (drPar w, a))
    (drainRows s n w d par).mapError (fun a => (drDesc w, a))
  match r with
  | .error (i, a) => agFault s n c i (mArray w) a
  | .ok (s, f) =>
    chargeArray (noteFlags (advPos s n (drDesc w) (drRows w)) n c false f) n c (gangCols s n / 128) (drRows w * drainBeat (drFmt w))

/-- DRAIN (R71, R503). It waits in its array's queue for the rows of an open combine slot (R77). -/
def execDrain (n c : Nat) (w : W128) (s : State) : Out :=
  .next (arrayIssue s n c w 0x12 (!drainWaits s n w) (drainRun n c w))

end Sys2Proof.Machine
end

