-- ==== Sys2Proof/Machine/Functions.lean ====
section
/-! DEFINITION. The fixed-point and floating-point functions of the vector unit (R126 to R130), each defined by exact
integer comparison, so that "nearest" and "correctly rounded" are meant literally. -/

namespace Sys2Proof.Machine

/-- The greatest `n < acc + 2^b` above `acc` that keeps the downward-closed property `p`, found bit by bit. -/
def searchMax (p : Nat → Bool) : Nat → Nat → Nat
  | 0, acc => acc
  | b + 1, acc => if p (acc + 2 ^ b) then searchMax p b (acc + 2 ^ b) else searchMax p b acc

/-- Integer square root, rounded down. -/
def isqrt (n : Nat) : Nat := searchMax (fun r => r * r ≤ n) (bitlen n / 2 + 1) 0

/-- The table `T` of R126: the integer nearest to `2^(i / 65536) × 2^31`. `n` is nearest when `n - 1/2` does not exceed the
exact value, that is `(2n - 1)^65536 ≤ 2^(i + 32 × 65536)`. -/
def tableT (i : Nat) : Nat :=
  if i = 0 then 2 ^ 31 else searchMax (fun n => n = 0 || (2 * n - 1) ^ 65536 ≤ 2 ^ (i + 2097152)) 32 0

/-- `exp2q` of R126: `2^z` in UQ1.31 for `z ≤ 0` in Q16.16. -/
def exp2q (z : Int) : Nat :=
  let zi := z / 65536
  let f := (z - zi * 65536).toNat
  if -zi ≥ 33 then 0 else (rshiftRne (tableT f) (-zi).toNat).toNat

/-- The EXP2Q step (R126): a positive argument returns `0x8000_0000` and sets INT_SAT. -/
def exp2qStep (z : Int) : Int × NumFlags := if z > 0 then (0x80000000, fIntSat) else (exp2q z, 0)

/-- `log2q` of R126 for `x > 0`: the integer nearest to `2^16 × log2 (x × 2^-fx)`. The exact `2^17 × log2 x` lies between
`Nat.log2 (x^(2^17))` and the next integer. -/
def log2q (x fx : Nat) : Int := ((Nat.log2 (x ^ 131072) + 1) / 2 : Nat) - (fx : Int) * 65536

/-- The LOG2Q step: `x ≤ 0` returns `-2^31` and sets INVALID. -/
def log2qStep (x : Int) (fx : Nat) : Int × NumFlags :=
  if x ≤ 0 then (-2147483648, fInvalid) else (log2q x.toNat fx, 0)

/-- `rsqrtq` of R126 for `w > 0`: the integer nearest to `2^k / √w`, ties to even (R27): an exact half is `√(2^(2k+2) / w)` odd
and whole. -/
def rsqrtq (w k : Nat) : Nat :=
  let r := isqrt (2 ^ (2 * k + 2) / w)
  if r % 2 = 1 ∧ r * r * w = 2 ^ (2 * k + 2) then r / 2 + r / 2 % 2 else (r + 1) / 2

/-- The RSQRTQ step: saturates at `2^63 - 1`; `w ≤ 0` returns it with INVALID. -/
def rsqrtqStep (w : Int) (k : Nat) : Int × NumFlags :=
  if w ≤ 0 then (i64Max, fInvalid) else satI64 (rsqrtq w.toNat k)

/-- IDIV (R120, R127) of an already shifted dividend. DESIGN CHOICE, log entry 123: a negative divisor, which R126 does not take, divides the
negated dividend by its magnitude. -/
def idivStep (a b : Int) : Int × NumFlags :=
  if b = 0 then (if a = 0 then 0 else if a < 0 then i64Min else i64Max, fInvalid)
  else satI64 (if b < 0 then divRne (-a) b.natAbs else divRne a b.natAbs)

/-- TBL (R128): interpolated lookup in `t[0] … t[2^b]` from `base` with interval `2^sh`. -/
def tblLookup (base : Int) (b sh : Nat) (t : Nat → Int) (va : Int) : Int :=
  let u := va - base
  if u < 0 then t 0
  else
    let i := u.toNat / 2 ^ sh
    if i ≥ 2 ^ b then t (2 ^ b)
    else
      let f : Int := (u.toNat % 2 ^ sh : Nat)
      t i + rshiftRne ((t (i + 1) - t i) * f) sh

/-- `2^(f / 2^k)` in `[1, 2)`, with `j` fraction bits, rounded down: the greatest `n` with `n^(2^k) ≤ 2^(f + j × 2^k)`. -/
def pow2Frac (f k j : Nat) : Nat := searchMax (fun n => n ^ (2 ^ k) ≤ 2 ^ (f + j * 2 ^ k)) (j + 1) 0

/-- Exact `2^v` of a finite value, with 60 bits and a sticky bit; the exponent is clamped where every format overflows or
underflows. -/
def exp2Exact (s : Bool) (m : Nat) (e : Int) : Fp :=
  if m = 0 then .one else
    let k := (-e).toNat
    let mag : Int := (m * 2 ^ e.toNat : Nat)
    let x : Int := if s then -mag else mag
    let zi := x / (2 ^ k : Nat)
    let f := (x - zi * (2 ^ k : Nat)).toNat
    let z := max (-400) (min 400 zi)
    if f = 0 then .fin false 1 z else .fin false (2 * pow2Frac f k 30 + 1) (z - 31)

/-- `floor (2^j × log2 (m × 2^e))` for `m > 0`. -/
def log2Floor (m : Nat) (e : Int) (j : Nat) : Int := (Nat.log2 (m ^ (2 ^ j)) : Int) + e * (2 ^ j : Nat)

/-- The first scale at which the logarithm has 30 significant bits. -/
def log2Scale (m : Nat) (e : Int) : Nat → Nat → Nat
  | 0, j => j
  | fuel + 1, j => if (log2Floor m e j).natAbs > 2 ^ 30 then j else log2Scale m e fuel (j + 1)

/-- Exact `log2 (m × 2^e)`, `m > 0`: an integer when `m` is a power of two, else irrational and carried with a sticky bit. -/
def log2Exact (m : Nat) (e : Int) : Fp :=
  if 2 ^ Nat.log2 m = m then Fp.ofInt (Nat.log2 m + e) 0
  else
    let j := log2Scale m e 80 0
    let y := log2Floor m e j
    if y ≥ 0 then .fin false (2 * y.toNat + 1) (-(j : Int) - 1) else .fin true (2 * (y.natAbs - 1) + 1) (-(j : Int) - 1)

/-- Exact `1 / √(m × 2^e)`, `m > 0`, with a sticky bit. -/
def rsqrtExact (m : Nat) (e : Int) : Fp :=
  let (m, e) := if e % 2 = 0 then (m, e) else (2 * m, e - 1)
  let j := 80 + bitlen m
  let r := isqrt (2 ^ (2 * j) / m)
  let st : Nat := if r * r * m = 2 ^ (2 * j) then 0 else 1
  .fin false (2 * r + st) (-(j : Int) - 1 - e / 2)

/-- EXP2F before rounding (R130). -/
def fpExp2 : Fp → Fp × NumFlags
  | .nan => (.nan, fNanIn)
  | .inf true => (.zero, 0)
  | .inf false => (.inf false, 0)
  | .fin s m e => (exp2Exact s m e, 0)

/-- LOG2F before rounding (R130). -/
def fpLog2 : Fp → Fp × NumFlags
  | .nan => (.nan, fNanIn)
  | .inf true => (.nan, fInvalid)
  | .inf false => (.inf false, 0)
  | .fin s m e => if m = 0 then (.inf true, 0) else if s then (.nan, fInvalid) else (log2Exact m e, 0)

/-- RCPF before rounding (R130). -/
def fpRcp (v : Fp) : Fp × NumFlags := fpDiv .one v

/-- RSQRTF before rounding (R130). -/
def fpRsqrt : Fp → Fp × NumFlags
  | .nan => (.nan, fNanIn)
  | .inf true => (.nan, fInvalid)
  | .inf false => (.zero, 0)
  | .fin s m e => if m = 0 then (.inf s, 0) else if s then (.nan, fInvalid) else (rsqrtExact m e, 0)

/-- A floating-point step's result in format `code` (R122, R130), held in FP32, with the operation's own conditions. -/
def fpStep (code : Nat) (infBit : Bool) (r : Fp × NumFlags) : Fp × NumFlags :=
  let (v, f) := fpRound code infBit r.1
  (v, r.2 ||| f)

/-- FP32 bits of a value, an infinity where it lies beyond the range. Every value here is one that FP32 holds exactly but one: an
FP4 block element that LD widens. R119 names no INF for LD; the model takes INF = 1 there, as `widenFp` does (DESIGN CHOICE, log
entry 12). -/
def fp32Bits (v : Fp) : Nat := (fpEncode 13 true v).1

/-- The widening of LD to FP32 (R120), with the conditions of R51 for an FP4 block element whose value FP32 does not hold. -/
def widenFp (v : Fp) : Nat × NumFlags := fpEncode 13 true v

end Sys2Proof.Machine
end

