-- ==== Sys2Proof/Machine/Vector.lean ====
section
/-! DEFINITION. The vector unit's micro-programs: VEC MODE 0, every micro-instruction, and pooling inputs (R99, R114 to R130,
R141, R142). -/

namespace Sys2Proof.Machine

/-! ### Micro-instruction fields (R119) -/

def uOp (w : W64) : Nat := bits w.toNat 0 8
def uVd (w : W64) : Nat := bits w.toNat 8 5
def uVa (w : W64) : Nat := bits w.toNat 13 5
def uVb (w : W64) : Nat := bits w.toNat 18 5
def uVc (w : W64) : Nat := bits w.toNat 23 5
def uFmt (w : W64) : Nat := bits w.toNat 28 4
def uPg (w : W64) : Nat := bits w.toNat 32 3
def uPn (w : W64) : Bool := bit w.toNat 35
def uSat (w : W64) : Bool := bit w.toNat 36
def uInf (w : W64) : Bool := bit w.toNat 37
def uSh (w : W64) : Nat := bits w.toNat 38 6
def uImmB (w : W64) : Bool := bit w.toNat 44
/-- The immediate, unsigned and signed. -/
def uImm (w : W64) : Nat := bits w.toNat 45 19
def uImmS (w : W64) : Int := toSigned 19 (uImm w)
/-- Accumulator and form bits of a reduction, ACLR, AGET or AGETD. -/
def uAc (w : W64) : Nat := uImm w % 4
def uFloat (w : W64) : Bool := bit (uImm w) 2

/-! ### VEC fields (R118) -/

def vMode (w : W128) : Nat := bits w.toNat 8 2
def vEntry (w : W128) : Nat := bits w.toNat 10 12
def vIn (w : W128) (i : Nat) : Nat := if i = 0 then bits w.toNat 22 16 else bits w.toNat 38 16
def vOut (w : W128) : Nat := bits w.toNat 54 16
def vPar (w : W128) : Nat := bits w.toNat 70 16
def vRows (w : W128) : Nat := bits w.toNat 86 20 + 1

/-! ### Registers (R114, R116) -/

def vec (s : State) (n : Nat) : Vec := (core s n).vec
def setVec (s : State) (n : Nat) (v : Vec) : State := setCore s n { core s n with vec := v }
/-- A lane of a register, raw, as i64 and as FP32. -/
def lane (v : Vec) (r l : Nat) : W64 := SMap.get 0 v.v (r * 128 + l)
def laneI (v : Vec) (r l : Nat) : Int := (lane v r l).toInt
def laneF (v : Vec) (r l : Nat) : Fp := fpDecode 13 (lane v r l).toNat
/-- A predicate lane; P0 reads as ones. -/
def pred (v : Vec) (p l : Nat) : Bool := p = 0 || SMap.get false v.p (p * 128 + l)
/-- Is a lane active under PG and PN (R116)? -/
def activeLane (v : Vec) (w : W64) (l : Nat) : Bool := pred v (uPg w) l != uPn w
/-- Second source of an integer step: VB or the broadcast immediate. -/
def srcBI (v : Vec) (w : W64) (l : Nat) : Int := if uImmB w then uImmS w else laneI v (uVb w) l
/-- Second source of a floating-point step. R119 does not say how the 19-bit immediate becomes an FP32 value: its sign-extended low 32
bits are taken as the encoding (DESIGN CHOICE, log entry 12). -/
def srcBF (v : Vec) (w : W64) (l : Nat) : Fp :=
  if uImmB w then fpDecode 13 (ofSigned 32 (uImmS w)) else laneF v (uVb w) l

/-- Base of the vector block. -/
def vecBase (n : Nat) : Nat := coreBase n 2
def microPc (s : State) (n : Nat) : Nat := rdBits s (vecBase n + 0x40) 16 12
def setMicroPc (s : State) (n v : Nat) : State := wrBits s (vecBase n + 0x40) 16 12 v
/-- Micro-instruction `i` of the store (VEC_UPROG, R123). -/
def microWord (s : State) (n i : Nat) : Nat := rd64 s (vecBase n + 0x8000 + 8 * i)

/-- A vector-unit abort: VEC_FAULT records it, its event arrives, and the task is aborted (R141, R142, R392). -/
def vecFault (s : State) (n c : Nat) (a : Abort) : State :=
  let s := wr32 s (vecBase n + 0xD0) (a.code + microPc s n * 2 ^ 16 + c * 2 ^ 28 + 2 ^ 31)
  let s := arrive (raise s (vecBase n) a.code) (16 + 16 * n + 2) (a.code + c * 2 ^ 16)
  unitAbort s n c a

/-- The PC after the micro-instruction at `pc`, and the loops still open (R120, R125). -/
def loopNext (pc : Nat) : List (Nat × Nat × Nat) → Nat × List (Nat × Nat × Nat)
  | [] => (pc + 1, [])
  | (first, last, left) :: ls =>
    if pc ≠ last then (pc + 1, (first, last, left) :: ls)
    else if left > 1 then (first, (first, last, left - 1) :: ls)
    else loopNext pc ls

/-- Moves to the next micro-instruction; one ACLK cycle of VEC_ACTCYC (R115). -/
def microNext (s : State) (n : Nat) (j : VJob) : State :=
  let pc := microPc s n
  let (pc', ls) := loopNext pc j.loops
  let s := setVec s n { vec s n with job := some { j with loops := ls } }
  count64 (setMicroPc s n pc') (vecBase n + 0xA0) 1

/-- Does the unit execute a micro-program whose word at the PC is `w`, with opcode `op`? -/
def microReady (s : State) (n : Nat) (w : W64) (op : Nat) (j : VJob) : Bool :=
  codecOn s && !frozen s (partOf s n) && vMode j.w == 0 && uOp w == op && microWord s n (microPc s n) == w.toNat

/-- Runs a micro-instruction: the unit is executing a micro-program and the word at its PC is `w` with opcode `op`; then
`run` acts, and the program goes on or its task is aborted. -/
def micro (n : Nat) (w : W64) (op : Nat) (run : VJob → State → Except Abort (State × VJob)) (s : State) : Out := .next <|
  match (vec s n).job with
  | none => s
  | some j =>
    if !microReady s n w op j then s
    else match run j s with
      | .error a => vecFault s n j.ctx a
      | .ok (s', j') => microNext s' n j'

/-- Writes lanes of a register where `f` gives a value, and notes the conditions (R54, R116). -/
def putLanes (s : State) (n c : Nat) (w : W64) (f : Nat → W64 × NumFlags) : State :=
  let v := vec s n
  let (m, g) := (List.range 128).foldl (fun (m, g) l =>
    if activeLane v w l then let (x, h) := f l; (SMap.set 0 m (uVd w * 128 + l) x, g ||| h) else (m, g)) (v.v, 0)
  noteFlags (setVec s n { v with v := m }) n c true g

/-- An i64 result as a lane. -/
def laneOfInt (x : Int) : W64 := BitVec.ofInt 64 x
/-- An FP32 result takes the low 32 bits of its lane (R114); the high bits stay. -/
def laneOfFp (old : W64) (v : Fp) : W64 := BitVec.ofNat 64 (setBits old.toNat 0 32 (fp32Bits v))

/-- An integer step on one result per lane. -/
def intStep (n : Nat) (w : W64) (op : Nat) (f : Vec → Nat → Int × NumFlags) (s : State) : Out :=
  micro n w op (fun j s => .ok (putLanes s n j.ctx w (fun l => let (x, g) := f (vec s n) l; (laneOfInt x, g)), j)) s

/-- A floating-point step on one exact result per lane, rounded to FP32 (R122). -/
def fpStepFmt (n : Nat) (w : W64) (op fmt : Nat) (f : Vec → Nat → Fp × NumFlags) (s : State) : Out :=
  micro n w op (fun j s => .ok (putLanes s n j.ctx w (fun l =>
    let (x, g) := fpStep fmt (uInf w) (f (vec s n) l)
    (laneOfFp (lane (vec s n) (uVd w) l) x, g)), j)) s

/-- A compare step: active lanes of predicate VD (R116, R120). -/
def cmpStep (n : Nat) (w : W64) (op : Nat) (f : Vec → Nat → Bool × NumFlags) (s : State) : Out :=
  micro n w op (fun j s =>
    let v := vec s n
    let d := uVd w % 8
    let (m, g) := (List.range 128).foldl (fun (m, g) l =>
      if activeLane v w l then let (b, h) := f v l; (SMap.set false m (d * 128 + l) (b && d != 0), g ||| h) else (m, g)) (v.p, 0)
    .ok (noteFlags (setVec s n { v with p := m }) n j.ctx true g, j)) s

/-! ### VEC MODE 0 and the control steps -/

/-- Issues a VEC of MODE `k` into the vector unit's queue, or begins it (R65, R118). -/
def vecIssue (n c : Nat) (w : W128) (k : Nat) (run : State → State) (s : State) : Out :=
  .next (if vMode w ≠ k then s else issue s n c w 0x09 4 0 (!unitBusy s n 4) true run)

/-- The unit executes a micro-program from its ENTRY. -/
def vecRun (n c : Nat) (w : W128) (s : State) : State :=
  wr32 (setVec s n { vec s n with job := some { ctx := c, w := w } }) (vecBase n + 0x40) (1 + c * 2 + vEntry w * 2 ^ 16)

/-- VEC_MICROPROGRAM (R118). -/
def execVecMicroprogram (n c : Nat) (w : W128) (s : State) : Out := vecIssue n c w 0 (vecRun n c w) s

/-- NOP (R120). -/
def execMicroNop (n : Nat) (w : W64) (s : State) : Out := micro n w 0x00 (fun j s => .ok (s, j)) s

/-- Ends the job: the cursors of the walked descriptors advance and the unit is free (R503). -/
def vecEnd (s : State) (n : Nat) (j : VJob) : State :=
  let s := if j.read0 = 0 then s else advElems s n (vIn j.w 0) j.read0
  let s := if j.read1 = 0 then s else advElems s n (vIn j.w 1) j.read1
  let s := if j.wrote = 0 then s else advElems s n (vOut j.w) j.wrote
  wrBits (setVec s n { vec s n with job := none }) (vecBase n + 0x40) 0 1 0

/-- END (R120). -/
def execMicroEnd (n : Nat) (w : W64) (s : State) : Out := .next <|
  match (vec s n).job with
  | none => s
  | some j => if microReady s n w 0x01 j then vecEnd (setMicroPc (microNext s n j) n (microPc s n)) n j else s

/-- LOOP (R120): a count of 0 repeats once per input vector; an empty body is passed over. -/
def execLoop (n : Nat) (w : W64) (s : State) : Out := micro n w 0x02 (fun j s =>
  let len := uImm w % 512
  let cnt := if uImm w / 512 = 0 then vRows j.w else uImm w / 512
  let pc := microPc s n
  .ok (s, if len = 0 then j else { j with loops := (pc + 1, pc + len, cnt) :: j.loops })) s

/-! ### Pooling inputs (R99) -/

/-- Taps of pooled output `i`: element with its scale, and whether the tap lies inside the map. -/
def poolTaps (s : State) (n d fmt i : Nat) : Except Abort (List ((Nat × Nat) × Bool)) :=
  let (oy, ox) := walkPos d (dPosCur d + i / dCg d)
  let ch := dCOff d + i % dCg d
  (List.range (dKh d * dKw d)).mapM (fun t => do
    let iy : Int := (oy * dStrideY d : Nat) - (dPadT d : Int) + (t / dKw d * dDilY d : Nat)
    let ix : Int := (ox * dStrideX d : Nat) - (dPadL d : Int) + (t % dKw d * dDilX d : Nat)
    let inside := decide (0 ≤ iy ∧ iy < dInH d ∧ 0 ≤ ix ∧ ix < dInW d)
    match resolve iy (dInH d) (dFill d), resolve ix (dInW d) (dFill d) with
    | some ry, some rx => return (← readAt s n d fmt ry rx ch, inside)
    | _, _ => return ((if dFill d = 1 then dFillValue d % 2 ^ fmtBits fmt else 0, 0), inside))

/-- Sum of values as the chain of R40 and R41 with every weight 1.0, with the flags of R44. -/
def poolChain (fmt : Nat) (vs : List Fp) : Fp × NumFlags :=
  let p := pathOf fmt fmt
  let groups := (List.range (ceilDiv vs.length 32)).map (fun g => groupOf p.F (((vs.drop (32 * g)).take 32).map (fun v => (v, Fp.one))))
  let (v, sp) := groups.foldl (fun (v, sp) g =>
    let (x, f) := chainStep p v g.1.1 g.1.2
    (x, { sp.or g.2 with accOvf := sp.accOvf || f ≠ 0 })) (Fp.zero, ({} : Special))
  finalValue v sp

/-- Maximum or minimum of the used taps, each a NaN operand of its own (R46, R54). -/
def poolFold (f : Fp → Fp → Fp × NumFlags) : List Fp → Fp × NumFlags
  | [] => (.nan, 0)
  | x :: xs => xs.foldl (fun (a, g) b => let (c, h) := f a b; (c, g ||| h)) (x, fIf x.isNan fNanIn)

/-- The pooled value of output `i` as a lane value with its conditions (R99). A descriptor has no INF bit: the conversion of a pooled
floating-point value to FP32 takes INF = 0 (DESIGN CHOICE, log entry 12). An integer average keeps what its rounding shift leaves, as an i64
lane: R49's last step has no width or SAT here (DESIGN CHOICE, log entry 123). -/
def poolElem (s : State) (n d fmt i : Nat) : Except Abort (W64 × NumFlags) := do
  let taps ← poolTaps s n d fmt i
  let used := if dPool d = 3 || (dPool d = 4 && dAvgPad d) then taps
    else if dPool d = 4 then taps.filter (·.2)
    else if dFill d ≥ 2 then taps else taps.filter (·.2)
  if fmtIsInt fmt then
    let xs := used.map (fun t => intDecode fmt t.1.1)
    let sum := xs.foldl (· + ·) 0
    let k := xs.length
    let v := match dPool d with
      | 1 => xs.tail.foldl max (xs.headD 0)
      | 2 => xs.tail.foldl min (xs.headD 0)
      | 3 => sum
      | _ => if k = 0 then 0 else rshiftRne (sum * (((65536 + k / 2) / k : Nat) : Int)) 16
    return (laneOfInt v, 0)
  else
    let xs := used.map (fun t => fpElem fmt t.1.1 t.1.2)
    let p := pathOf fmt fmt
    let (v, f) := match dPool d with
      | 1 => poolFold fpMax xs
      | 2 => poolFold fpMin xs
      | 3 => poolChain fmt xs
      | _ =>
        let (sum, f) := poolChain fmt xs
        let inv := (fpRound 13 false (fpDiv .one (Fp.ofInt xs.length 0)).1).1
        let (a, g) := fpMul sum inv
        let (b, h) := rndS p.S a
        (b, f ||| (if sum.isNan then 0 else g) ||| h)
    let (r, g) := fpRound 13 false v
    return (BitVec.ofNat 64 (fp32Bits r), f ||| g)

/-! ### LD, ST, LDP -/

/-- One loaded element as a lane value (R120). -/
def loadElem (s : State) (n d fmt i : Nat) (old : W64) : Except Abort (W64 × NumFlags) :=
  if dPool d ≠ 0 then (poolElem s n d fmt i).map (fun (x, f) => (if fmtIsInt fmt then x else BitVec.ofNat 64 (setBits old.toNat 0 32 x.toNat), f))
  else do
    let (raw, sc) ← readElem s n d fmt i
    return (if fmtIsInt fmt then (laneOfInt (intDecode fmt raw), 0)
      else (laneOfFp old (fpElem fmt raw sc), (widenFp (fpElem fmt raw sc)).2))

/-- LD (R120): the next 128 elements of input IMM[0]. -/
def execLd (n : Nat) (w : W64) (s : State) : Out := micro n w 0x03 (fun j s => do
  let i := uImm w % 2
  let d ← descOf s n (vIn j.w i)
  let e0 := if i = 0 then j.read0 else j.read1
  let xs ← (List.range 128).mapM (fun l => loadElem s n d (uFmt w) (e0 + l) (lane (vec s n) (uVd w) l))
  let s := putLanes s n j.ctx w (fun l => xs.getD l (0, 0))
  return (s, if i = 0 then { j with read0 := e0 + 128 } else { j with read1 := e0 + 128 })) s

/-- Writes the FP4 blocks of a vector: a block with an active lane is written whole (R52, R120). DESIGN CHOICE, log entry 123: on a map whose
C_g is not a multiple of 32, where the 32 elements straddle blocks of R506, the scale is written for the first element's block only. -/
def storeFp4 (s : State) (n d e0 : Nat) (v : Vec) (w : W64) : Except Abort (State × NumFlags) :=
  (List.range 4).foldlM (fun (s, f) b => do
    let ls := range' (32 * b) 32
    if !ls.any (activeLane v w) then return (s, f)
    else
      let (sc, raws, g) := fp4Block (ls.map (fun l => if activeLane v w l then laneF v (uVa w) l else .zero))
      let (y, x, ch) := elemAt d (e0 + 32 * b)
      let s ← writeScale s n d y x ch sc
      let s ← (ls.zip raws).foldlM (fun s (l, raw) => writeElem s n d 8 (e0 + l) raw) s
      return (s, f ||| g)) (s, 0)

/-- The element that lane `l` stores, with the conditions of its conversion (R52, R120). -/
def storeRaw (v : Vec) (w : W64) (l : Nat) : Nat × NumFlags :=
  if fmtIsInt (uFmt w) then
    let (y, g) := intFit (uFmt w) (uSat w) (laneI v (uVa w) l)
    (intEncode (uFmt w) y, g)
  else fpEncode (uFmt w) (uInf w) (laneF v (uVa w) l)

/-- Stores lane `l` as element `e0 + l`, when the lane is active. -/
def storeLane (s : State) (f : NumFlags) (n d e0 : Nat) (v : Vec) (w : W64) (l : Nat) : Except Abort (State × NumFlags) :=
  if !activeLane v w l then .ok (s, f)
  else do
    let s ← writeElem s n d (uFmt w) (e0 + l) (storeRaw v w l).1
    return (s, f ||| (storeRaw v w l).2)

/-- ST (R120): the next 128 elements of the output. Those of inactive lanes count in the cursor's advance, on which R503 is silent
(DESIGN CHOICE, log entry 12). -/
def execSt (n : Nat) (w : W64) (s : State) : Out := micro n w 0x04 (fun j s => do
  let d ← descOf s n (vOut j.w)
  let v := vec s n
  let (s, f) ← if uFmt w = 8 then storeFp4 s n d j.wrote v w else (List.range 128).foldlM (fun x l => storeLane x.1 x.2 n d j.wrote v w l) (s, 0)
  return (noteFlags s n j.ctx true f, { j with wrote := j.wrote + 128 })) s

/-- Word `i` of the parameter block as an i32. -/
def parWord (s : State) (n : Nat) (j : VJob) (i : Nat) : Except Abort Int := do
  let d ← descOf s n (vPar j.w)
  let bs ← storeRead s n (dBase d + 4 * i) 4
  return toSigned 32 (leNat bs)

/-- LDP (R120): 128 words from word IMM[17:0], or one word in every lane. -/
def execLdp (n : Nat) (w : W64) (s : State) : Out := micro n w 0x05 (fun j s => do
  let base := uImm w % 2 ^ 18
  let xs ← if bit (uImm w) 18 then (parWord s n j base).map (fun x => List.replicate 128 x)
    else (List.range 128).mapM (fun l => parWord s n j (base + l))
  return (putLanes s n j.ctx w (fun l => (laneOfInt (xs.getD l 0), 0)), j)) s

/-! ### Moves and integer steps (R120) -/

def execMovi (n : Nat) (w : W64) (s : State) : Out := intStep n w 0x06 (fun _ _ => (uImmS w, 0)) s
def execMov (n : Nat) (w : W64) (s : State) : Out := intStep n w 0x07 (fun v l => (laneI v (uVa w) l, 0)) s

/-- SEL reads PG as its selector and is not guarded (R116). -/
def execSel (n : Nat) (w : W64) (s : State) : Out := micro n w 0x08 (fun j s =>
  let v := vec s n
  let m := (List.range 128).foldl (fun m l =>
    SMap.set 0 m (uVd w * 128 + l) (if activeLane v w l then lane v (uVa w) l
      else if uImmB w then laneOfInt (uImmS w) else lane v (uVb w) l)) v.v
  .ok (setVec s n { v with v := m }, j)) s

def execIadd (n : Nat) (w : W64) (s : State) : Out := intStep n w 0x10 (fun v l => satI64 (laneI v (uVa w) l + srcBI v w l)) s
def execIsub (n : Nat) (w : W64) (s : State) : Out := intStep n w 0x11 (fun v l => satI64 (laneI v (uVa w) l - srcBI v w l)) s
def execImul (n : Nat) (w : W64) (s : State) : Out := intStep n w 0x12 (fun v l => satI64 (laneI v (uVa w) l * srcBI v w l)) s
def execIshr (n : Nat) (w : W64) (s : State) : Out := intStep n w 0x13 (fun v l => satI64 (rshiftRne (laneI v (uVa w) l) (uSh w))) s
def execIshl (n : Nat) (w : W64) (s : State) : Out := intStep n w 0x14 (fun v l => satI64 (laneI v (uVa w) l * (2 ^ uSh w : Nat))) s
def execImax (n : Nat) (w : W64) (s : State) : Out := intStep n w 0x15 (fun v l => (max (laneI v (uVa w) l) (srcBI v w l), 0)) s
def execImin (n : Nat) (w : W64) (s : State) : Out := intStep n w 0x16 (fun v l => (min (laneI v (uVa w) l) (srcBI v w l), 0)) s
def execIclip (n : Nat) (w : W64) (s : State) : Out := intStep n w 0x17 (fun v l => intFit (uFmt w) (uSat w) (laneI v (uVa w) l)) s

/-- The condition SH[1:0] on an ordering. -/
def condHolds (c : Nat) (o : Ordering) : Bool :=
  match c with
  | 0 => o == .lt
  | 1 => o != .gt
  | 2 => o == .eq
  | _ => o != .eq

def execIcmp (n : Nat) (w : W64) (s : State) : Out :=
  cmpStep n w 0x18 (fun v l => (condHolds (uSh w % 4) (compare (laneI v (uVa w) l) (srcBI v w l)), 0)) s
def execIdiv (n : Nat) (w : W64) (s : State) : Out :=
  intStep n w 0x19 (fun v l => idivStep (laneI v (uVa w) l * (2 ^ uSh w : Nat)) (srcBI v w l)) s

/-- TBL (R128): the table lies in the parameter block at word IMM[17:0]. DESIGN CHOICE, log entry 123: a word 1 with b outside 4 to 10, of which
R128 does not speak, is looked up with that b. -/
def execTbl (n : Nat) (w : W64) (s : State) : Out := micro n w 0x1A (fun j s => do
  let at0 := uImm w % 2 ^ 18
  let base ← parWord s n j at0
  let b := (ofSigned 32 (← parWord s n j (at0 + 1))) % 16
  let t ← (List.range (2 ^ b + 1)).mapM (fun i => parWord s n j (at0 + 2 + i))
  return (putLanes s n j.ctx w (fun l => (laneOfInt (tblLookup base b (uSh w) (fun i => t.getD i 0) (laneI (vec s n) (uVa w) l)), 0)), j)) s

def execExp2q (n : Nat) (w : W64) (s : State) : Out := intStep n w 0x1C (fun v l => exp2qStep (laneI v (uVa w) l)) s
def execLog2q (n : Nat) (w : W64) (s : State) : Out := intStep n w 0x1D (fun v l => log2qStep (laneI v (uVa w) l) (uSh w)) s
def execRsqrtq (n : Nat) (w : W64) (s : State) : Out := intStep n w 0x1E (fun v l => rsqrtqStep (laneI v (uVa w) l) (uSh w)) s

/-! ### Floating-point steps (R120, R122, R130) -/

def execFadd (n : Nat) (w : W64) (s : State) : Out := fpStepFmt n w 0x20 13 (fun v l => fpAdd (laneF v (uVa w) l) (srcBF v w l)) s
def execFsub (n : Nat) (w : W64) (s : State) : Out := fpStepFmt n w 0x21 13 (fun v l => fpAdd (laneF v (uVa w) l) (srcBF v w l).neg) s
def execFmul (n : Nat) (w : W64) (s : State) : Out := fpStepFmt n w 0x22 13 (fun v l => fpMul (laneF v (uVa w) l) (srcBF v w l)) s

/-- VA × VB + VC, exact: a NaN that the product makes is no operand of the sum. -/
def fpFma (a b c : Fp) : Fp × NumFlags :=
  let (p, f) := fpMul a b
  if p.isNan then (.nan, f ||| fIf c.isNan fNanIn) else let (r, g) := fpAdd p c; (r, f ||| g)

def execFma (n : Nat) (w : W64) (s : State) : Out :=
  fpStepFmt n w 0x23 13 (fun v l => fpFma (laneF v (uVa w) l) (srcBF v w l) (laneF v (uVc w) l)) s
def execFmax (n : Nat) (w : W64) (s : State) : Out := fpStepFmt n w 0x24 13 (fun v l => fpMax (laneF v (uVa w) l) (srcBF v w l)) s
def execFmin (n : Nat) (w : W64) (s : State) : Out := fpStepFmt n w 0x25 13 (fun v l => fpMin (laneF v (uVa w) l) (srcBF v w l)) s

/-- A comparison in the order of R46; with NaN only not-equal is true (R120). -/
def fpCond (c : Nat) (a b : Fp) : Bool × NumFlags :=
  if a.isNan || b.isNan then (c = 3, fNanIn) else (condHolds c (a.cmp b), 0)

def execFcmp (n : Nat) (w : W64) (s : State) : Out :=
  cmpStep n w 0x26 (fun v l => fpCond (uSh w % 4) (laneF v (uVa w) l) (srcBF v w l)) s
def execFcvt (n : Nat) (w : W64) (s : State) : Out := fpStepFmt n w 0x27 (uFmt w) (fun v l =>
  (laneF v (uVa w) l, fIf (laneF v (uVa w) l).isNan fNanIn)) s
def execFtoi (n : Nat) (w : W64) (s : State) : Out :=
  intStep n w 0x28 (fun v l => fpToInt i64Min i64Max (uSh w) (laneF v (uVa w) l)) s
def execItof (n : Nat) (w : W64) (s : State) : Out :=
  fpStepFmt n w 0x29 13 (fun v l => (Fp.ofInt (laneI v (uVa w) l) (-(uSh w : Int)), 0)) s
def execFdiv (n : Nat) (w : W64) (s : State) : Out := fpStepFmt n w 0x2A 13 (fun v l => fpDiv (laneF v (uVa w) l) (srcBF v w l)) s
def execExp2f (n : Nat) (w : W64) (s : State) : Out := fpStepFmt n w 0x30 (uFmt w) (fun v l => fpExp2 (laneF v (uVa w) l)) s
def execLog2f (n : Nat) (w : W64) (s : State) : Out := fpStepFmt n w 0x31 (uFmt w) (fun v l => fpLog2 (laneF v (uVa w) l)) s
def execRcpf (n : Nat) (w : W64) (s : State) : Out := fpStepFmt n w 0x32 (uFmt w) (fun v l => fpRcp (laneF v (uVa w) l)) s
def execRsqrtf (n : Nat) (w : W64) (s : State) : Out := fpStepFmt n w 0x33 (uFmt w) (fun v l => fpRsqrt (laneF v (uVa w) l)) s

/-! ### Reductions (R120, R121) -/

def acc (s : State) (n i : Nat) : VAcc := SMap.get {} (vec s n).ac i
def setAcc (s : State) (n i : Nat) (a : VAcc) : State := setVec s n { vec s n with ac := SMap.set {} (vec s n).ac i a }

/-- An accumulator read in accumulation form, decided as in R44 (R120). -/
def accFp (a : VAcc) : Fp := if a.isInt then Fp.ofInt a.int 0 else (finalValue a.fp a.sp).1
/-- Does an accumulator hold the empty value of RMAX or RMIN, which is no operand of R54? -/
def VAcc.noOperand (a : VAcc) : Bool := !a.isInt && a.empty
/-- An accumulator read as an i64 (R120): a NaN gives 0 and sets INVALID, and NAN_IN where it is an operand (R54). -/
def accInt (a : VAcc) : Int × NumFlags :=
  if a.isInt then (a.int, 0) else if a.noOperand then (0, fInvalid) else fpToInt i64Min i64Max 0 (accFp a)

/-- Active lanes in ascending order. -/
def activeLanes (v : Vec) (w : W64) : List Nat := (List.range 128).filter (activeLane v w)

/-- The FP32 path, on which accumulators are kept (R114). -/
def accPath : Path := ⟨false, false, 56, 64⟩

/-- Where a chain into an accumulator starts (R120, R121): a value that is itself NaN or infinite, and not by a chain overflow,
counts as such an operand of R44. -/
def chainStart (a : VAcc) : Fp × Special :=
  if a.isInt then (Fp.ofInt a.int 0, {})
  else if a.sp.accOvf then (a.fp, a.sp)
  else match a.fp with
    | .nan => (.zero, { a.sp with nan := true })
    | .inf sg => (.zero, { a.sp with pinf := a.sp.pinf || !sg, ninf := a.sp.ninf || sg })
    | v => (v, a.sp)

/-- Chains four groups of 32 products into an accumulator, which keeps its special-value flags, and answers the conditions that
this vector brings (R44, R121). -/
def reduceFp (a : VAcc) (pairs : List (Fp × Fp)) : VAcc × NumFlags :=
  let groups := (List.range 4).map (fun g => groupOf accPath.F ((pairs.drop (32 * g)).take 32))
  let (v0, sp0) := chainStart a
  let (v, sp) := groups.foldl (fun (v, sp) g =>
    let (x, f) := chainStep accPath v g.1.1 g.1.2
    (x, { sp.or g.2 with accOvf := sp.accOvf || f ≠ 0 })) (v0, ({} : Special))
  let all := sp0.or sp
  ({ isInt := false, fp := v, sp := all }, (finalValue v sp).2 ||| fIf (sp0.nan && !a.sp.nan && !a.noOperand) fNanIn
    ||| fIf (all.pinf && all.ninf && !(a.sp.pinf && a.sp.ninf)) fInvalid)

/-- A reduction: integer and floating-point forms. -/
def reduce (n : Nat) (w : W64) (op : Nat) (fi : Vec → Int → Int × NumFlags) (ff : Vec → VAcc → VAcc × NumFlags) (s : State) : Out :=
  micro n w op (fun j s =>
    let a := acc s n (uAc w)
    if uFloat w then
      let (x, f) := ff (vec s n) a
      .ok (noteFlags (setAcc s n (uAc w) x) n j.ctx true f, j)
    else
      let (x0, f0) := accInt a
      let (x, f) := fi (vec s n) x0
      .ok (noteFlags (setAcc s n (uAc w) { isInt := true, int := x }) n j.ctx true (f0 ||| f), j)) s

def execRsum (n : Nat) (w : W64) (s : State) : Out :=
  reduce n w 0x38 (fun v x => satI64 (((activeLanes v w).map (laneI v (uVa w))).foldl (· + ·) x))
    (fun v a => reduceFp a ((List.range 128).map (fun l => if activeLane v w l then (laneF v (uVa w) l, Fp.one) else (Fp.zero, Fp.one)))) s
def execRdot (n : Nat) (w : W64) (s : State) : Out :=
  reduce n w 0x3E (fun v x => satI64 (((activeLanes v w).map (fun l => laneI v (uVa w) l * srcBI v w l)).foldl (· + ·) x))
    (fun v a => reduceFp a ((List.range 128).map (fun l => if activeLane v w l then (laneF v (uVa w) l, srcBF v w l) else (Fp.zero, Fp.one)))) s

/-- Folds a maximum or minimum over the active lanes; the empty value is no operand, and stays when no lane is active
(R54, R121). -/
def foldMinMax (f : Fp → Fp → Fp × NumFlags) (a : VAcc) (xs : List Fp) : VAcc × NumFlags :=
  match xs with
  | [] => (if a.isInt then { isInt := false, fp := accFp a } else a, 0)
  | x :: xs =>
    let (m, g) := xs.foldl (fun (m, g) x => let (r, h) := f m x; (r, g ||| h))
      (if a.noOperand then (x, fIf x.isNan fNanIn) else f (accFp a) x)
    ({ isInt := false, fp := m }, g)

def execRmax (n : Nat) (w : W64) (s : State) : Out :=
  reduce n w 0x39 (fun v x => (((activeLanes v w).map (laneI v (uVa w))).foldl max x, 0))
    (fun v a => foldMinMax fpMax a ((activeLanes v w).map (laneF v (uVa w)))) s
def execRmin (n : Nat) (w : W64) (s : State) : Out :=
  reduce n w 0x3A (fun v x => (((activeLanes v w).map (laneI v (uVa w))).foldl min x, 0))
    (fun v a => foldMinMax fpMin a ((activeLanes v w).map (laneF v (uVa w)))) s

/-- The cleared values of ACLR (R120, R121). -/
def clearedAcc (float : Bool) (k : Nat) : VAcc :=
  if float then (if k = 0 then { isInt := false, fp := .zero } else { isInt := false, fp := .nan, empty := true })
  else { isInt := true, int := if k = 0 then 0 else if k = 1 then i64Min else i64Max }

def execAclr (n : Nat) (w : W64) (s : State) : Out :=
  micro n w 0x3B (fun j s => .ok (setAcc s n (uAc w) (clearedAcc (uFloat w) (bits (uImm w) 3 2)), j)) s

/-- AGET (R120): the accumulator in every lane, in the form that IMM[2] selects. -/
def execAget (n : Nat) (w : W64) (s : State) : Out := micro n w 0x3C (fun j s =>
  let a := acc s n (uAc w)
  .ok (putLanes s n j.ctx w (fun l =>
    if uFloat w then let (x, f) := fpRound 13 (uInf w) (accFp a); (laneOfFp (lane (vec s n) (uVd w) l) x, f)
    else let (x, f) := accInt a; (laneOfInt x, f)), j)) s

/-- AGETD (R120): the accumulator divided by lane 0 of VB. -/
def execAgetd (n : Nat) (w : W64) (s : State) : Out := micro n w 0x3D (fun j s =>
  let a := acc s n (uAc w)
  .ok (putLanes s n j.ctx w (fun l =>
    if uFloat w then
      let y := srcBF (vec s n) w 0
      let (x, f) := fpStep 13 (uInf w) (if a.noOperand then (.nan, fIf y.isNan fNanIn) else fpDiv (accFp a) y)
      (laneOfFp (lane (vec s n) (uVd w) l) x, f)
    else
      let (x, f) := accInt a
      let (q, g) := idivStep x (srcBI (vec s n) w 0)
      (laneOfInt q, f ||| g)), j)) s

end Sys2Proof.Machine
end

