-- ==== Sys2Proof/Machine/Boxes.lean ====
section
/-! DEFINITION. Box decoding and suppression: VEC MODE 1 (R137 to R140). -/

namespace Sys2Proof.Machine

/-- A value of FP32 arithmetic with the conditions so far. -/
structure FVal where
  v : Fp
  f : NumFlags := 0
  deriving DecidableEq, Repr

/-- An FP32 operation on two values, rounded once; a finite result beyond the range becomes an infinity (log entry 12). -/
def FVal.op (g : Fp → Fp → Fp × NumFlags) (a b : FVal) : FVal :=
  let (x, h) := fpStep 13 true (g a.v b.v)
  ⟨x, a.f ||| b.f ||| h⟩
def FVal.add := FVal.op fpAdd
def FVal.sub := FVal.op (fun a b => fpAdd a b.neg)
def FVal.mul := FVal.op fpMul
/-- Maximum and minimum select (R46). -/
def FVal.max (a b : FVal) : FVal := let (x, h) := fpMax a.v b.v; ⟨x, a.f ||| b.f ||| h⟩
def FVal.min (a b : FVal) : FVal := let (x, h) := fpMin a.v b.v; ⟨x, a.f ||| b.f ||| h⟩
def FVal.exp2 (a : FVal) : FVal := let (x, h) := fpStep 13 true (fpExp2 a.v); ⟨x, a.f ||| h⟩
def FVal.zero : FVal := ⟨.zero, 0⟩
def FVal.half : FVal := ⟨.fin false 1 (-1), 0⟩

/-- The FP32 value at byte `o`. -/
def f32At (bs : List Byte) (o : Nat) : FVal := ⟨fpDecode 13 (leAt bs o 4), 0⟩

/-- Bytes `[o, o + len)` of a walk of bytes in element order. -/
def walkBytes (s : State) (n d o len : Nat) : Except Abort (List Byte) :=
  (List.range len).mapM (fun i => do let (raw, _) ← readElem s n d 3 (o + i); return BitVec.ofNat 8 raw)

/-- A decoded candidate. -/
structure Box where
  x0 : Fp
  y0 : Fp
  x1 : Fp
  y1 : Fp
  score : Fp
  cls : Nat
  idx : Nat
  deriving DecidableEq, Repr

/-- One axis of a box (R138): the two corners from the anchor, the deltas and the scales. A FORMAT above 2 has no stated
decoding: the corners are free values drawn from index `k` (log entry 3). -/
def decodeAxis (format : Nat) (a aw dpos dsize sx sw : FVal) (stride : FVal) (k : Nat) : FVal × FVal :=
  match format with
  | 0 =>
    let c := a.add ((dpos.mul sx).mul aw)
    let w := aw.mul (dsize.mul sw).exp2
    (c.sub (w.mul FVal.half), c.add (w.mul FVal.half))
  | 1 => (a.sub (dpos.mul stride), a.add (dsize.mul stride))
  | 2 => (dpos.mul sx, dsize.mul sx)
  | _ => (⟨fpDecode 13 (Config.freeNat k), 0⟩, ⟨fpDecode 13 (Config.freeNat (k + 1)), 0⟩)

/-- Clips a corner to `[0, limit]` under R46. -/
def clipCorner (par : List Byte) (limit : Nat) (x : FVal) : FVal :=
  if leAt par 28 1 = 1 then FVal.min (FVal.max x FVal.zero) (f32At par limit) else x

/-- Decodes candidate `i`, with the conditions that its steps set. -/
def decodeBox (par cand anchor : List Byte) (i k : Nat) : Box × NumFlags :=
  let fm := leAt par 0 4
  let (x0, x1) := decodeAxis fm (f32At anchor 0) (f32At anchor 8) (f32At cand 0) (f32At cand 8) (f32At par 32) (f32At par 40) (f32At anchor 8) (k + 4 * i)
  let (y0, y1) := decodeAxis fm (f32At anchor 4) (f32At anchor 12) (f32At cand 4) (f32At cand 12) (f32At par 36) (f32At par 44) (f32At anchor 8) (k + 4 * i + 2)
  let x0 := clipCorner par 20 x0
  let x1 := clipCorner par 20 x1
  let y0 := clipCorner par 24 y0
  let y1 := clipCorner par 24 y1
  (⟨x0.v, y0.v, x1.v, y1.v, (f32At cand 16).v, leAt cand 20 2, i⟩, x0.f ||| x1.f ||| y0.f ||| y1.f)

/-- Puts a box before the first box of lower score: equal scores keep index order (R139 step 3). -/
def insertBox (b : Box) : List Box → List Box
  | [] => [b]
  | a :: as => if a.score.cmp b.score == .lt then b :: a :: as else a :: insertBox b as

/-- Area of a box. -/
def boxArea (b : Box) : FVal :=
  (FVal.max .zero (FVal.sub ⟨b.x1, 0⟩ ⟨b.x0, 0⟩)).mul (FVal.max .zero (FVal.sub ⟨b.y1, 0⟩ ⟨b.y0, 0⟩))

/-- Does box `a` overlap the kept box `b` beyond the threshold (R139 step 4)? With the conditions of the computation; a NaN operand
of the comparison sets NAN_IN (R46). -/
def overlaps (thr : FVal) (a b : Box) : Bool × NumFlags :=
  let side (a0 a1 b0 b1 : Fp) : FVal := FVal.max .zero (FVal.sub (FVal.min ⟨a1, 0⟩ ⟨b1, 0⟩) (FVal.max ⟨a0, 0⟩ ⟨b0, 0⟩))
  let inter := (side a.x0 a.x1 b.x0 b.x1).mul (side a.y0 a.y1 b.y0 b.y1)
  let union := (FVal.add (boxArea a) (boxArea b)).sub inter
  let lim := thr.mul union
  let bothZero := (boxArea a).v.isZero && (boxArea b).v.isZero
  (!bothZero && !inter.v.isNan && !lim.v.isNan && lim.v.lt inter.v,
    inter.f ||| lim.f ||| (if inter.v.isNan || lim.v.isNan then fNanIn else 0))

/-- Steps 4 and 5: kept boxes (last first), candidates not examined, conditions. -/
def suppress (thr : FVal) (perClass : Bool) (maxKeep : Nat) : List Box → List Box → NumFlags → List Box × Nat × NumFlags
  | [], kept, f => (kept, 0, f)
  | b :: bs, kept, f =>
    if kept.length ≥ maxKeep then (kept, bs.length + 1, f)
    else
      let rs := (kept.filter (fun k => !perClass || k.cls = b.cls)).map (overlaps thr b)
      let f := rs.foldl (fun f r => f ||| r.2) f
      suppress thr perClass maxKeep bs (if rs.any (·.1) then kept else b :: kept) f

/-- Record of a kept box (R140). -/
def boxRecord (b : Box) : List Byte :=
  leBytes 4 (fp32Bits b.x0) ++ leBytes 4 (fp32Bits b.y0) ++ leBytes 4 (fp32Bits b.x1) ++ leBytes 4 (fp32Bits b.y1) ++
    leBytes 4 (fp32Bits b.score) ++ leBytes 2 b.cls ++ leBytes 2 0 ++ leBytes 4 b.idx ++ leBytes 4 0

/-- What the procedure answers: output bytes, NaN discards, boxes not examined, conditions. -/
def detect (par : List Byte) (boxes : List (Box × NumFlags)) : List Byte × Nat × Nat × NumFlags :=
  let thr := (f32At par 12).v
  let nan (b : Box) : Bool := b.x0.isNan || b.y0.isNan || b.x1.isNan || b.y1.isNan || b.score.isNan
  let all := boxes.map (·.1)
  let good := all.filter (fun b => !nan b)
  let above := good.filter (fun b => !thr.isNan && !b.score.lt thr)
  let sorted := above.foldl (fun acc b => insertBox b acc) []
  let (kept, left, f) := suppress (f32At par 16) (leAt par 29 1 = 1) (leAt par 8 4) sorted [] 0
  let f := boxes.foldl (fun f b => f ||| b.2) (if thr.isNan && good ≠ [] then f ||| fNanIn else f)
  let nNan := all.length - good.length
  (leBytes 4 kept.length ++ leBytes 4 nNan ++ leBytes 4 (good.length - above.length) ++ leBytes 4 left ++
    (kept.reverse.map boxRecord).flatten, nNan, left, f)

/-- Runs the procedure of a VEC MODE 1. -/
def boxRun (s : State) (n c : Nat) (w : W128) : Except Abort State := do
  let pd ← descOf s n (vPar w)
  let par ← storeRead s n (dBase pd) 48
  let d0 ← descOf s n (vIn w 0)
  let cand := leAt par 4 4
  let anchors := decide (leAt par 0 4 ≠ 2)
  let d1 ← if anchors then descOf s n (vIn w 1) else pure 0
  let k := s.freeIdx
  let boxes ← (List.range cand).mapM (fun i => do
    let cb ← walkBytes s n d0 (24 * i) 24
    let ab ← if anchors then walkBytes s n d1 (16 * i) 16 else pure []
    return decodeBox par cb ab i k)
  let s := if leAt par 0 4 > 2 then { s with freeIdx := k + 4 * cand } else s
  let (out, nNan, left, f) := detect par boxes
  let od ← descOf s n (vOut w)
  let s ← (out.zipIdx).foldlM (fun s (b, i) => writeElem s n od 3 i b.toNat) s
  let s := advElems s n (vIn w 0) (24 * cand)
  let s := if anchors then advElems s n (vIn w 1) (16 * cand) else s
  let s := advElems s n (vOut w) out.length
  let s := count64 s (vecBase n + 0xB8) nNan
  let s := count64 s (vecBase n + 0xC0) left
  return noteFlags s n c true f

/-- The effect of a box decoding that begins. MODE 1 has no micro-instruction: DESIGN CHOICE, log entry 123, VEC_STATUS.PC and VEC_FAULT.PC are
0. An abort clears registers, predicates and accumulators (R141). -/
def boxStart (n c : Nat) (w : W128) (s : State) : State :=
  let s := wr32 s (vecBase n + 0x40) (c * 2 + 16)
  match boxRun s n c w with
  | .error a => vecFault (setVec s n {}) n c a
  | .ok s => s

/-- BOX_DECODING (R139). -/
def execBoxDecoding (n c : Nat) (w : W128) (s : State) : Out := vecIssue n c w 1 (boxStart n c w) s

end Sys2Proof.Machine
end

