-- ==== Sys2Proof/Machine/Combine.lean ====
section
/-! DEFINITION. Combining: CSLOT, the records of EMIT and HEAD and where they go, and the combining adder (R70, R73 to R77). -/

namespace Sys2Proof.Machine

/-! ### Record fields (R73) -/

def rValue (r : W256) : Nat := bits r.toNat 0 64
def rExp (r : W256) : Int := toSigned 16 (bits r.toNat 64 16)
def rKind (r : W256) : Nat := bits r.toNat 80 2
def rSpecial (r : W256) : Special :=
  ⟨bit r.toNat 82, bit r.toNat 83, bit r.toNat 84, bit r.toNat 85, bit r.toNat 86, bit r.toNat 87⟩
def rSign (r : W256) : Bool := bit r.toNat 88
def rG0 (r : W256) : Nat := bits r.toNat 96 16
def rG1 (r : W256) : Nat := bits r.toNat 112 16
def rCtag (r : W256) : Nat := bits r.toNat 128 32
def rRow (r : W256) : Nat := bits r.toNat 160 16
def rCol (r : W256) : Nat := bits r.toNat 176 16

/-- The path that a path number names. -/
def pathNum : Nat → Path
  | 0 => ⟨false, false, 16, 32⟩
  | 1 => ⟨false, false, 32, 40⟩
  | _ => ⟨false, false, 56, 64⟩
/-- The number of a path. -/
def numPath (p : Path) : Nat := if p.S = 64 then 2 else if p.S = 40 then 1 else 0

/-! ### Slots (R74) -/

/-- ARY_ register that counts the open slots (R81). -/
def setSlots (s : State) (n : Nat) (sl : List CSlot) : State :=
  wrBits (setCore s n { core s n with arr := { (core s n).arr with slots := sl } }) (coreBase n 1 + 0xC0) 0 9 sl.length

/-- CSLOT (R74). It waits while 256 slots are open (R81) and for a DRAIN that has to read its rows first (R72); the chain of each of
its positions begins from +0 (R41). -/
def execCslot (n c : Nat) (w : W128) (s : State) : Out := .next <|
  let sl := openedSlot c w
  if !canIssue s n c w 0x13 || slotWaits s n sl then notIssued s n c
  else
    let base := (sl.array * 2 + sl.bank) * 256
    let k := core s n
    let s := setCore s n { k with arr := { k.arr with
      bank := SMap.drop (fun x => base + sl.row0 ≤ x / 256 && x / 256 < base + sl.row0 + sl.rows && x % 256 < sl.cols) k.arr.bank } }
    let s := useRegion s n c sl.array sl.bank sl.row0 sl.rows
    setSlots (nextPc s n c) n ((core s n).arr.slots ++ [sl])

/-! ### The combining adder (R75, R77) -/

/-- Applies a KIND 1 or KIND 2 record to an entry: a chained value replaces it, a group sum takes one R41 step. -/
def applyRecord (p : Path) (r : W256) (e : Acc) : Acc :=
  if rKind r = 2 then
    let v : Fp := if (rSpecial r).accOvf then .inf (rSign r) else if rValue r = 0 then .zero else .fin (rSign r) (rValue r) (rExp r)
    { e with fp := v, sBits := p.S }
  else chainGroups p e [((toSigned 64 (rValue r), rExp r), {})]

/-- Applies held records that have become next, in ascending order. -/
def applyHeld (p : Path) (sl : CSlot) (pos : Nat) (e : Acc) : Nat → Acc × CSlot
  | 0 => (e, sl)
  | fuel + 1 =>
    let g := SMap.get 0 sl.next pos
    let r := SMap.get 0 sl.held (pos * 65536 + g)
    if r = 0 then (e, sl)
    else applyHeld p { sl with next := SMap.set 0 sl.next pos (rG1 r + 1), held := SMap.set 0 sl.held (pos * 65536 + g) 0 } pos (applyRecord p r e) fuel

/-- A record is discarded and counted (R75). -/
def discardRecord (s : State) (n : Nat) : State := count64 s (coreBase n 1 + 0xC8) 1

/-- Is a record discarded: outside the slot, or a second arrival for a position and group (R75)? A record of the reserved KIND 3 and
one whose G_LAST lies below its G_FIRST, of which R75 does not speak, are discarded and counted too (DESIGN CHOICE, log entry
14). -/
def recordBad (sl : CSlot) (r : W256) : Bool :=
  rRow r ≥ sl.rows || rCol r ≥ sl.cols || rKind r = 3 || rG1 r < rG0 r ||
    (range' (rG0 r) (rG1 r + 1 - rG0 r)).any (fun g => SMap.get 0 sl.got (slotPos (rRow r) (rCol r) * 65536 + g) ≠ 0)

/-- The entry and slot after an accepted record. -/
def takeRecord (p : Path) (sl : CSlot) (r : W256) (e : Acc) : Acc × CSlot :=
  let pos := slotPos (rRow r) (rCol r)
  let sl := { sl with got := (range' (rG0 r) (rG1 r + 1 - rG0 r)).foldl (fun m g => SMap.set 0 m (pos * 65536 + g) 1) sl.got }
  let e := { e with sp := e.sp.or (rSpecial r) }
  if rKind r = 0 then ({ e with int := wrap48 (e.int + toSigned 64 (rValue r)) }, sl)
  else if rG0 r = SMap.get 0 sl.next pos then
    applyHeld p { sl with next := SMap.set 0 sl.next pos (rG1 r + 1) } pos (applyRecord p r e) sl.held.length
  else (e, { sl with held := SMap.set 0 sl.held (pos * 65536 + rG0 r) r })

/-- The conditions that a finished position sets (R44, R77). -/
def finalFlags (e : Acc) : NumFlags := (finalValue e.fp e.sp).2

/-- Is a record to be held: a KIND 1 or 2 whose first group is not the position's next (R75)? -/
def recordHeld (sl : CSlot) (r : W256) : Bool := rKind r ≠ 0 && rG0 r ≠ SMap.get 0 sl.next (slotPos (rRow r) (rCol r))

/-- Writes the first 16 bytes of a record, which are its value, kind, flags and groups, to its place in the holding region of its slot
(R74): a place that lies beyond the core's holding regions (R252) is left alone. -/
def holdRecord (s : State) (n : Nat) (sl : CSlot) (r : W256) : State :=
  match descOf s n sl.holdDesc with
  | .error _ => s
  | .ok d =>
    let a := dBase d + 16 * Config.holdPlace n sl.holdDesc (slotPos (rRow r) (rCol r)) (rG0 r)
    if (coreCfg s n).holdBase ≤ a ∧ a + 16 ≤ (coreCfg s n).holdBase + (coreCfg s n).holdBytes then storePoke s n a 16 r.toNat else s

/-- The record that is next to arrive among those of one source, with these bits (R76: records from one source arrive in the order
in which they were sent). -/
def nextRecord (fly : List RecFly) (r : W256) : Option RecFly :=
  fly.find? (fun x => x.bits = r && (fly.find? (fun y => y.src = x.src)) = some x)

/-- COMBINE_RECORD (R75, R77): a record under way to the core's adder arrives. Of two open slots with its tag it goes to the one
opened first, of which the spec does not speak (DESIGN CHOICE, log entry 15). A slot whose positions are all final closes. -/
def execCombineRecord (n : Nat) (r : W256) (s : State) : Out := .next <|
  if !codecOn s then s
  else match nextRecord (core s n).arr.recFly r with
    | none => s
    | some x =>
      let s := setCore s n { core s n with arr := { (core s n).arr with recFly := (core s n).arr.recFly.erase x } }
      match (core s n).arr.slots.find? (fun sl => sl.ctag = rCtag r) with
      | none => discardRecord s n
      | some sl =>
        if recordBad sl r then discardRecord s n
        else
          let s := if recordHeld sl r then holdRecord s n sl r else s
          let (e, sl') := takeRecord (pathNum x.path) sl r (bankEntry s n sl.array sl.bank (sl.row0 + rRow r) (rCol r))
          let s := setBankEntry s n sl.array sl.bank (sl.row0 + rRow r) (rCol r) e
          let s := if sl'.count (slotPos (rRow r) (rCol r)) ≥ sl'.groups then noteFlags s n sl.ctx false (finalFlags e) else s
          let slots := (core s n).arr.slots
          if (List.range sl'.rows).all sl'.rowFinal then setSlots s n (slots.erase sl)
          else setSlots s n (slots.map (fun y => if y = sl then sl' else y))

/-! ### EMIT and HEAD (R70, R76) -/

/-- Appends a record to a source channel's ring (R76). -/
def appendRecord (i : Nat) (s : State) (r : W256) : State :=
  match chan s i with
  | none => s
  | some c =>
    let s := chanWrite s c (c.appended % (max 1 (c.slots * c.unitBytes))) (leBytes 32 r.toNat)
    updChan s i (fun c => { c with appended := c.appended + 32 })

/-- Sends the records of an MMA of core `n` to the destination that its tag names (R76). -/
def sendRecords (s : State) (n : Nat) (p : Path) (ctag : Nat) (rs : List W256) : State :=
  if bit ctag 31 then rs.foldl (appendRecord (bits ctag 16 12)) s
  else
    let k := bits ctag 28 3
    setCore s k { core s k with arr := { (core s k).arr with recFly := (core s k).arr.recFly ++ rs.map (fun r => ⟨n, numPath p, r⟩) } }

/-- EMIT and HEAD: every record of the pass leaves; the bank is not touched. -/
def mmaSend (n c : Nat) (w : W128) (head : Bool) (s : State) : State :=
  let s0 := s
  let s := mmaSwapIn s n w
  match descOf s n (mmaDesc w) with
  | .error a => agFault s0 n c (mmaDesc w) (mArray w) a
  | .ok d =>
    let q := passOf s n w d (SMap.get {} (core s n).arr.active (mArray w))
    let s := writeBand s n (mmaDesc w) d q.firstGroup
    match emitRecords s n d q w head with
    | .error a => agFault s0 n c (mmaDesc w) (mArray w) a
    | .ok (rs, f) => mmaAfter (noteFlags (sendRecords s n q.path (mmaCtag w) rs) n c false f) n c w d q.wts.fmt

/-- MMA EMIT (R70). -/
def execMmaEmit (n c : Nat) (w : W128) (s : State) : Out := mmaIssue n c w 2 (mmaSend n c w false) s

/-- MMA HEAD (R70). -/
def execMmaHead (n c : Nat) (w : W128) (s : State) : Out := mmaIssue n c w 3 (mmaSend n c w true) s

end Sys2Proof.Machine
end

