-- ==== Sys2Proof/Machine/Pulys.lean ====
section
/-! DEFINITION. The Pulys reader: units, stream header, model declaration, table epochs, frame units, concealment and
protection (R190, R210, R213 to R238). It reads the input of a decode task at its first decode job, or at END (log entry 16). -/

namespace Sys2Proof.Machine

/-! ### Status codes (R496) -/

def cUnitCrc : Nat := 0x1801
def cUnitSyntax : Nat := 0x1802
def cNoHeader : Nat := 0x1803
def cVersion : Nat := 0x1804
def cConflict : Nat := 0x1805
def cModelMismatch : Nat := 0x0902
def cAuthFailed : Nat := 0x0201

/-! ### Parts of a model (R220, R259) -/

/-- Field of `n` bytes, little-endian, at byte `o` of a MODEL_DECL payload, as the model section repeats it from byte 32. -/
def modelField (s : State) (m o n : Nat) : Nat := leAt (SMap.get {} s.img.models m).bytes (o - 32) n
def mAlign (s : State) (m : Nat) : Nat := modelField s m 32 2
def mGw (s : State) (m : Nat) : Nat := modelField s m 35 1
def mLatSh (s : State) (m : Nat) : Nat := modelField s m 38 1
def mHop (s : State) (m : Nat) : Nat := modelField s m 48 2
def mDim (s : State) (m : Nat) : Nat := modelField s m 50 1
def mCtxMax (s : State) (m : Nat) : Nat := modelField s m 44 4
def mStages (s : State) (m : Nat) : Nat := modelField s m 51 1
def mEpoch (s : State) (m i : Nat) : Nat := modelField s m (52 + 2 * i) 2

/-- MODEL_DECL payload of a slot: its digest, and the parameters in the stream's byte order. -/
def modelDecl (s : State) (m : Nat) : List Byte :=
  let x := SMap.get {} s.img.models m
  let b := x.bytes
  let be (o n : Nat) : List Byte := beBytes n (leAt b (o - 32) n)
  slice x.digest 0 32 ++ be 32 2 ++ be 34 1 ++ be 35 1 ++ be 36 2 ++ be 38 1 ++ be 39 1 ++ be 40 2 ++ be 42 2 ++ be 44 4 ++
    be 48 2 ++ be 50 1 ++ be 51 1 ++ be 52 2 ++ be 54 2 ++ List.replicate 8 0#8

/-- Latent rows of a video stream (R186, R225). -/
def latentRows (s : State) (e : W512) : Nat :=
  let a := max 1 (mAlign s (eMslot e))
  (ceilDiv (eHeight e) a * a) / 2 ^ mLatSh s (eMslot e)

/-! ### Units (R215 to R217) -/

/-- A unit: TYPE, UFLAGS, payload, what follows it. -/
structure PUnit where
  typ : Nat
  uflags : Nat
  head : List Byte
  body : List Byte
  rest : List Byte
  deriving DecidableEq, Repr

/-- Is a type defined (R217)? -/
def unitTypeOk (t : Nat) : Bool := [0x01, 0x02, 0x03, 0x10, 0x11, 0x20].contains t || 0xC0 ≤ t

/-- The unit at the head of the bytes, or the status of R238. -/
def parseUnit (bs : List Byte) : Except Nat PUnit :=
  let len := beAt bs 4 4
  if bs.length < 12 || beAt bs 0 2 ≠ 0xB7E5 || len > 0xFFFFFFF0 || bs.length < 12 + len then .error cUnitSyntax
  else if beAt bs (8 + len) 4 ≠ (crc32c (bs.take (8 + len))).toNat then .error cUnitCrc
  else
    let t := beAt bs 2 1
    let f := beAt bs 3 1
    let frame := t = 0x10 || t = 0x11
    if !unitTypeOk t || (t < 0xC0 && (f > 1 || (f = 1 && !frame))) then .error cUnitSyntax
    else .ok ⟨t, f, bs.take 8, (bs.drop 8).take len, bs.drop (12 + len)⟩

/-- The next unit of a byte stream: the first place, byte by byte, at which one stands whose SYNC, TYPE, LENGTH and CRC are good
(R235). -/
def nextUnit : List Byte → Option PUnit
  | [] => none
  | b :: bs => match parseUnit (b :: bs) with
    | .ok u => some u
    | .error _ => nextUnit bs

/-- The unit to read next: the one at the head, or in a byte stream whose head is damaged the next one found, with the status of what was
passed over (R235, R238). -/
def takeUnit (scan : Bool) (bs : List Byte) : Except Nat (PUnit × Nat) :=
  match parseUnit bs with
  | .ok u => .ok (u, 0)
  | .error c => if scan then (match nextUnit (bs.drop 1) with | some u => .ok (u, c) | none => .error c) else .error c

/-- The bytes of a unit (R215). -/
def unitBytes (typ uflags : Nat) (p : List Byte) : List Byte :=
  let b := beBytes 2 0xB7E5 ++ beBytes 1 typ ++ beBytes 1 uflags ++ beBytes 4 p.length ++ p
  b ++ beBytes 4 (crc32c b).toNat

/-- STREAM_HEADER payload of an encode entry (R219). -/
def streamHeader (i : Nat) (e : W512) : List Byte :=
  beBytes 1 1 ++ beBytes 1 (ePminor e) ++ beBytes 1 (eAudio e).toNat ++ beBytes 1 (eFormat e) ++ beBytes 8 (eb e 8 8) ++
    beBytes 2 (eWidth e) ++ (if eAudio e then beBytes 1 (eChans e) ++ [0#8] else beBytes 2 (eHeight e)) ++
    beBytes 1 (if !eAudio e && eFormat e = 3 then Config.cfa i % 4 else 0) ++ [0#8] ++ beBytes 2 (eKeyInterval e) ++
    beBytes 1 (eProt e).toNat ++ List.replicate 3 0#8 ++
    (if eProt e then beBytes 4 (eKeyId e) ++ beBytes 4 (eIvPrefix e) else List.replicate 8 0#8)

/-- Checks a STREAM_HEADER payload (R219, R236). -/
def headerStatus (p : List Byte) : Nat :=
  let media := beAt p 2 1
  let fmt := beAt p 3 1
  let w := beAt p 12 2
  let h := beAt p 14 2
  let frames : List Nat := [160, 240, 320, 441, 480, 640, 882, 960, 1764, 1920]
  if p.length ≠ 32 then cUnitSyntax
  else if beAt p 0 1 ≠ 1 || beAt p 1 1 > 2 then cVersion
  else if media > 1 || beAt p 17 1 ≠ 0 || beAt p 21 3 ≠ 0 || beAt p 20 1 > 1 then cUnitSyntax
  else if media = 0 && (fmt > 3 || w < 16 || w > 8192 || h < 16 || h > 4320 || ((fmt = 0 || fmt = 3) && (w % 2 ≠ 0 || h % 2 ≠ 0))) then cUnitSyntax
  else if media = 1 && (fmt > 1 || !frames.contains w || h / 256 < 1 || h / 256 > 16 || h % 256 ≠ 0) then cUnitSyntax
  else if (media = 1 || fmt ≠ 3) && beAt p 16 1 ≠ 0 then cUnitSyntax
  else if beAt p 16 1 > 3 then cUnitSyntax
  else if media = 1 && beAt p 1 1 = 0 then cUnitSyntax
  else if beAt p 20 1 = 1 && beAt p 1 1 < 2 then cUnitSyntax
  else if beAt p 20 1 = 0 && (beAt p 24 4 ≠ 0 || beAt p 28 4 ≠ 0) then cUnitSyntax
  else 0

/-- Does a MODEL_DECL payload use an audio field, which first appears in minor 1 (R220, R236)? -/
def declAudio (p : List Byte) : Bool := beAt p 35 1 ≠ 0 || !allZero (slice p 48 4)

/-- Checks a TABLE_EPOCH payload (R222, R236) under the stream's minor and the model of slot `m`. -/
def epochStatus (s : State) (m minor : Nat) (p : List Byte) : Nat :=
  let cb := beAt p 4 1
  let sm := beAt p 5 1
  let es := (List.range 16).map (fun i => beAt p (8 + 2 * i) 2)
  let need := 40 + 256 * (beAt p 2 2 + 1) + 2 * beAt p 6 1 * es.sum
  if p.length < 40 || beAt p 0 2 = 0 || beAt p 2 2 > 1023 || cb > 1 || beAt p 7 1 ≠ 0 || p.length ≠ need then cUnitSyntax
  else if (es.take sm).any (fun x => x = 0 || x > 1024) || (es.drop sm).any (· ≠ 0) then cUnitSyntax
  else if cb = 1 && (minor < 1 || sm ≠ mStages s m || beAt p 6 1 ≠ mDim s m) then cUnitSyntax
  else 0

/-! ### Frame bodies (R225 to R230) -/

/-- Kinds and indices of the segments of a body, in order. -/
def bodyPlan (s : State) (e : W512) (key : Bool) : List (Nat × Nat) :=
  if eAudio e then (List.range (eChans e / max 1 (mGw s (eMslot e)))).map (fun g => (4, g))
  else (if key then [] else [(0, 0), (1, 0)]) ++ [(2, 0)] ++ (List.range (latentRows s e)).map (fun r => (3, r))

/-- Walks the segments of a body: what their headers give, or none when the body breaks R225 to R230. -/
def walkBody : List (Nat × Nat) → Bool → List Byte → Option (List PSeg)
  | [], _, bs => if bs = [] then some [] else none
  | (k, i) :: plan, after, bs =>
    let h := beAt bs 0 4
    let held := bit h 27
    let n := bits h 14 6 + 1
    if bs.length < 4 || bits h 28 4 ≠ k || bit h 26 || bits h 0 14 ≠ i then none
    else if (held || k ≠ 3) && bits h 20 6 ≠ 0 then none
    else if (held && k = 4) || (after && !held) then none
    else if held then (walkBody plan true (bs.drop 4)).map (⟨k, i, true, 0, n, 0⟩ :: ·)
    else
      let words := ((List.range n).map (fun l => beAt bs (4 + 2 * l) 2)).sum
      if bs.length < 4 + 2 * n + 2 * words then none
      else (walkBody plan false (bs.drop (4 + 2 * n + 2 * words))).map (⟨k, i, false, bits h 20 6, n, words⟩ :: ·)

/-- The installed key that a KEY_ID names (R422). -/
def keyOf (s : State) (id : Nat) : Option DKey :=
  if id = 0 || SMap.get 0 s.drk.gens (id % 4096) ≠ id / 4096 then none else SMap.get none s.drk.keys (id % 4096)

/-- The body of a frame unit in the clear (R237). -/
def clearBody (s : State) (e : W512) (u : PUnit) : Except Nat (List Byte) :=
  let b := u.body.drop 20
  if u.uflags % 2 = 0 then .ok b
  else if b.length < 28 then .error cUnitSyntax
  else match keyOf s (eKeyId e) with
    | none => .error cAuthFailed
    | some k =>
      match Config.gcmOpen k.key (b.take 12) (u.head ++ u.body.take 20) (b.drop 12) with
      | none => .error cAuthFailed
      | some p => .ok p

/-- A frame unit (R224, R225, R232 to R237): what the decoder does with it, or the status of R238. -/
def readFrame (s : State) (e : W512) (x : Reader) (u : PUnit) : Except Nat RdFrame :=
  if x.hdr = [] || x.decl = [] then .error cNoHeader
  else
    let minor := beAt x.hdr 1 1
    let p := u.body
    let ff := beAt p 5 1
    let stub := bit ff 2
    let audio := u.typ = 0x11
    let ft := beAt p 4 1
    let st := beAt p 18 1
    if p.length < 20 || ft > 1 || ff > 7 || beAt p 19 1 ≠ 0 || audio ≠ (beAt x.hdr 2 1 = 1) || (audio && minor < 1) then .error cUnitSyntax
    else if stub && (minor < 2 || p.length ≠ 20 || beAt p 16 2 ≠ 0 || u.uflags ≠ 0) then .error cUnitSyntax
    else if !stub && u.uflags % 2 ≠ beAt x.hdr 20 1 then .error cUnitSyntax
    else if !audio && st ≠ 0 then .error cUnitSyntax
    else if audio && st = 0 then .error cUnitSyntax
    else if audio && st > mStages s (eMslot e) then .error 0x1302
    else
      let key := ft = 0
      let plan := bodyPlan s e key
      let out : RdFrame := { kind := 1, frame := beAt p 0 4, key := key, epoch := beAt p 6 2, stages := st, stub := stub, verified := bit ff 1 }
      if stub then .ok { out with conceal := true, held := plan.map (fun _ => true) }
      else match clearBody s e u with
        | .error c => .error c
        | .ok b =>
          if b.length < 8 || beAt p 16 2 ≠ plan.length then .error cUnitSyntax
          else match walkBody plan false (b.drop 8) with
            | none => .error cUnitSyntax
            | some segs => .ok { out with bodyAt := u.rest.length + 4 + (u.body.length - 20), body := if u.uflags % 2 = 0 then [] else b, hash := some (BitVec.ofNat 64 (beAt b 0 8)), held := segs.map (·.held), segs := segs }

/-! ### The reader on a task's input (R190, R210, R218, R221, R232, R233) -/

def reader (s : State) (i : Nat) : Reader := SMap.get {} s.str.readers i
def setReader (s : State) (i : Nat) (x : Reader) : State := s.setStr { s.str with readers := SMap.set {} s.str.readers i x }

/-- Counts a duplicate or stale unit in the entry (R233, R305). -/
def countDup (s : State) (i : Nat) : State := setEntry s i (ebSet (entry s i) 58 2 (min (eDups (entry s i) + 1) 65535))

/-- Decides duplicates and concealment for a frame that the reader has parsed (R190, R210, R232, R233). A unit after END is no
unit of the stream (R218; log entry 109). -/
def placeFrame (s : State) (i : Nat) (e : W512) (r : RdFrame) : State × RdFrame :=
  let x := reader s i
  let d := toSigned 32 ((r.frame + 1 + (2 ^ 32 - eFrameNext (entry s i))) % 2 ^ 32)
  let r : RdFrame := { r with fresh := !x.started || decide (d ≥ 2) || x.lost }
  if x.started && decide (d ≤ 0) then (countDup s i, { r with kind := 2 })
  else if r.stub then (s, r)
  else if r.key then (s, r)
  else if !x.started || decide (d ≥ 2) || x.conceal then
    (s, { r with conceal := true, hash := none,
                 held := if eAudio e then r.held else ((bodyPlan s e false).zip r.held).map (fun (k, h) => k.1 = 3 || h) })
  else (s, r)

/-- Reads units in order, up to a frame unit; answers the readers that the accepted units left, and the frame's result or the
status that rejects a unit (R238). A unit out of the order of R218, and one after END, is rejected with unit-syntax (log entry
109); in a byte stream (`scan`) the reader resynchronises past a damaged unit (R235), whose status goes into the task's record (`bad`, log
entry 120). -/
def readUnits (scan : Bool) (s : State) (i : Nat) (e : W512) (bad : Nat) (bs : List Byte) : Nat → State × Except Nat RdFrame
  | 0 => (s, if bad = 0 then .ok {} else .error bad)
  | fuel + 1 =>
    if bs = [] then (s, if bad = 0 then .ok {} else .error bad)
    else match takeUnit scan bs with
      | .error c => (s, .error c)
      | .ok (u, c) =>
        let x := reader s i
        let bad := if bad = 0 then c else bad
        if u.typ ≥ 0xC0 then readUnits scan s i e bad u.rest fuel
        else if u.typ = 0x20 then
          if u.body.length ≠ 4 then (s, .error cUnitSyntax)
          else readUnits scan (setReader s i { x with ended := true }) i e bad u.rest fuel
        else if x.ended then (s, .error cUnitSyntax)
        else if u.typ = 0x01 then
          let st := headerStatus u.body
          if st ≠ 0 then (s, .error st)
          else if x.hdr ≠ [] && x.hdr ≠ u.body then (s, .error cConflict)
          else readUnits scan (setReader s i { x with hdr := u.body }) i e bad u.rest fuel
        else if u.typ = 0x02 then
          if x.hdr = [] || u.body.length ≠ 64 || !allZero (u.body.drop 56) || (beAt x.hdr 1 1 = 0 && declAudio u.body) then (s, .error cUnitSyntax)
          else if x.decl ≠ [] && x.decl ≠ u.body then (s, .error cConflict)
          else if u.body ≠ modelDecl s (eMslot e) then (s, .error cModelMismatch)
          else readUnits scan (setReader s i { x with decl := u.body }) i e bad u.rest fuel
        else if u.typ = 0x03 then
          let st := epochStatus s (eMslot e) (beAt x.hdr 1 1) u.body
          if x.hdr = [] || x.decl = [] then (s, .error cUnitSyntax)
          else if st ≠ 0 then (s, .error st)
          else
            let es := if beAt u.body 4 1 = 1 then (List.range (beAt u.body 5 1)).map (fun k => beAt u.body (8 + 2 * k) 2) else []
            readUnits scan (setReader s i { x with epochs := SMap.set none x.epochs (beAt u.body 0 2) (some es) }) i e bad u.rest fuel
        else (s, (readFrame s e x u).map (fun r => { r with damaged := bad }))

/-! ### Substitutes for what a frame does not hold (R190, R202, R210) -/

/-- Number of samples of a print. -/
def printSamples (e : W512) : Nat :=
  if eAudio e then eWidth e * eChans e
  else
    let p := eWidth e * eHeight e
    match eFormat e with
    | 0 => p * 3 / 2
    | 3 => p
    | _ => p * 3

/-- Bit depth of a picture format, and its mid-grey (R168). -/
def fmtDepth (fmt : Nat) : Nat := if fmt = 1 then 8 else if fmt = 3 then 12 else 10
def midGrey (fmt : Nat) : Nat := 2 ^ (fmtDepth fmt - 1)

/-- Bytes of a group's history: the latent of one frame, V vectors of D INT16 values (R201, R202). -/
def histBytes (s : State) (e : W512) : Nat := 2 * (eWidth e / max 1 (mHop s (eMslot e))) * mDim s (eMslot e)
/-- A history of zeros for every group of the stream, at the places of the program that the task runs (log entry 3). -/
def zeroHistory (s : State) (n : Nat) (t : Task) : List (Nat × List Byte) :=
  (List.range (eChans t.snap / max 1 (mGw s (eMslot t.snap)))).flatMap (fun g =>
    (List.range (histBytes s t.snap)).map (fun i => (vaAdd (eBufVa t.snap) (Config.histOffset n t.sched g i), [0#8])))
/-- The history of a task's stream as it stands: an abort leaves it unchanged (R202). -/
def historyNow (s : State) (n : Nat) (t : Task) : List (Nat × List Byte) :=
  (zeroHistory s n t).map (fun x => (x.1, hbmPeek s (partOf s n) x.1 x.2.length))
/-- A mid-grey picture in the print buffer of frame `f` (R168, R190). -/
def greyPrint (n : Nat) (t : Task) (f : Nat) : List (Nat × List Byte) :=
  let fmt := eFormat t.snap
  (List.range (printSamples t.snap)).map (fun i =>
    (vaAdd (eBufVa t.snap) (Config.printOffset n t.sched (f % 3) i), leBytes (if fmt = 1 then 1 else 2) (midGrey fmt)))

/-- Writes substitutes into the state area of the task on a context, which keeps the bytes that they replace. -/
def substitute (s : State) (n c : Nat) (xs : List (Nat × List Byte)) : State :=
  let p := partOf s n
  let old := xs.map (fun x => (x.1, hbmPeek s p x.1 x.2.length))
  updTask (xs.foldl (fun s x => hbmPoke s p x.1 x.2) s) n c (fun t => { t with saved := old ++ t.saved })

/-- What stands in for the frame before the one that a decode task decodes. -/
def substitutes (s : State) (n : Nat) (t : Task) (r : RdFrame) : List (Nat × List Byte) :=
  if r.kind ≠ 1 then []
  else if eAudio t.snap then (if r.key || r.fresh then zeroHistory s n t else [])
  else if r.fresh && !r.key then greyPrint n t (r.frame + 2) else []

/-! ### The reader of a task (R22, R190, R210) -/

/-- Is the task one whose input the reader reads: a decode task or a stripe of one, or the verifying half of a pair? -/
def Task.reads (t : Task) : Bool := (t.ofFrame && eDecode t.snap) || t.kind = 3

/-- The units of a verified frame as its encode half holds them: the bytes of its output slots (R22). -/
def heldUnits (s : State) (t : Task) : List Byte :=
  match (runningTasks s).find? (fun (_, _, u) => u.isFrame && u.order = t.order) with
  | none => []
  | some (_, _, u) =>
    let r := eOutRing t.snap
    (List.range u.outN).flatMap (fun k => hbmPeek s (ringPart s r) (slotVa s r ((u.outFirst + k) % 65536)) (u.outExtent k))

/-- Takes a frame that the reader has read as the frame of the task on a context. -/
def takeFrame (s : State) (n c : Nat) (t : Task) (r : RdFrame) : State :=
  substitute (updTask s n c (fun t => { t with rd := some r, epoch := r.epoch })) n c (substitutes s n t r)

/-- Runs the reader for the task on a context, once; answers whether the task goes on. A verifying decode reads the frame's units
as the encode half holds them; RUN input is a byte stream. -/
def readOwn (s : State) (n c : Nat) : State × Bool :=
  match taskOf s n c with
  | none => (s, false)
  | some t =>
    if !t.reads || t.rd.isSome then (s, true)
    else match (if t.kind = 3 then .ok (heldUnits s t) else hbmRead s (partOf s n) false t.inVa t.inBytes) with
      | .error a => (unitAbort s n c a, false)
      | .ok bs =>
        match readUnits (t.kind = 1) s t.stream t.snap 0 bs (bs.length + 1) with
        | (s, .error code) => (abortTask s n c code, false)
        | (s, .ok r) =>
          let r := { r with bodyAt := bs.length - r.bodyAt }
          if t.kind = 3 || r.kind = 0 then (takeFrame s n c t r, true)
          else
            let p := placeFrame s t.stream t.snap r
            (takeFrame p.1 n c t p.2, true)

/-- Runs the reader for the task on a context; a stripe takes what its frame's task has read. -/
def readInput (s : State) (n c : Nat) : State × Bool :=
  match taskOf s n c with
  | none => (s, false)
  | some t =>
    if t.kind ≠ 4 || !t.reads || t.rd.isSome then readOwn s n c
    else match readOwn s t.core t.ctx with
      | (s, false) => (s, false)
      | (s, true) => match taskOf s t.core t.ctx with
        | none => (s, true)
        | some h => (updTask s n c (fun t => { t with rd := h.rd, epoch := h.epoch }), true)

/-- Has the reader of a decode task's stream the tables of an epoch: built into the model, or read as a TABLE_EPOCH unit (R223, R238)? -/
def epochRead (s : State) (t : Task) (e : Nat) : Bool :=
  !t.reads || mEpoch s (eMslot t.snap) 0 = e || mEpoch s (eMslot t.snap) 1 = e || (SMap.get none (reader s t.stream).epochs e).isSome

/-- Is the epoch that a frame names held by a bank of the core (R223)? -/
def epochHeld (s : State) (n : Nat) (t : Task) : Bool :=
  match t.rd with
  | some r => r.kind ≠ 1 || (findBank s n (eMslot t.snap) r.epoch).isSome
  | none => true

/-! ### Codebook sets (R208, R222) -/

/-- Entries of each codebook stage for an epoch of a model, as a stream's TABLE_EPOCH unit gave them to its reader, else as the
model section lists them for EPOCH0 or EPOCH1; another epoch takes the list of EPOCH0 (log entry 17). -/
def cbEntries (s : State) (m epoch : Nat) (read : SMap (Option (List Nat))) : List Nat :=
  let b := (SMap.get {} s.img.models m).bytes
  let cb := leAt b 48 8
  let list (o : Nat) : List Nat := (List.range (mStages s m)).map (fun i => leAt b (o + 2 * i) 2)
  match SMap.get none read epoch with
  | some es => es
  | none =>
    if mEpoch s m 1 = epoch && mEpoch s m 0 ≠ epoch && mEpoch s m 0 ≠ 0 then list (cb + 32 + 2 * mDim s m * (list cb).sum) else list cb
/-- Bytes of a codebook set. -/
def cbBytes (s : State) (m : Nat) (es : List Nat) : Nat := 2 * mDim s m * es.sum

/-! ### The units that open a frame (R218, R223, R234) -/

/-- The TABLE_EPOCH payload of the epoch that bank `b` of core `n` holds (R222). -/
def epochPayload (s : State) (n b : Nat) (t : Task) : List Byte :=
  let m := eMslot t.snap
  let rows := bankRows s n b
  let es := cbEntries s m t.epoch []
  let cb := es.any (· ≠ 0) && ePminor t.snap ≥ 1
  let va := if b = 0 then (coreCfg s n).cbVa0 else (coreCfg s n).cbVa1
  beBytes 2 t.epoch ++ beBytes 2 (rows - 1) ++ beBytes 1 cb.toNat ++
    (if cb then beBytes 1 (mStages s m) ++ beBytes 1 (mDim s m) ++ [0#8] ++ (List.range 16).flatMap (fun i => beBytes 2 (es.getD i 0))
     else List.replicate 35 0#8) ++
    (List.range (256 * rows)).map (fun i => SMap.get 0 (core s n).table (b * 262144 + i)) ++
    (if cb then hbmPeek s (partOf s n) va (cbBytes s m es) else [])

/-- Is the epoch one whose tables the model carries? -/
def builtIn (s : State) (t : Task) : Bool := t.epoch = 0 || t.epoch = mEpoch s (eMslot t.snap) 0 || t.epoch = mEpoch s (eMslot t.snap) 1

/-- Does an earlier frame of the stream name the epoch of an encode task: a committed one, or one in flight whose units are whole (R223)? If
that one is aborted, so is this task (R171). -/
def epochNamed (s : State) (t : Task) : Bool :=
  (SMap.get [] s.str.epochSent t.stream).contains t.epoch ||
  ((runningTasks s).map (·.2.2)).any (fun u => u.isFrame && u.stream = t.stream && u.order < t.order && u.finished && u.epoch = t.epoch)

/-- The units that the device writes before an encode task's frame unit: STREAM_HEADER and MODEL_DECL before a random-access point,
and the TABLE_EPOCH unit there and before the first frame that names its epoch. A repeated header is the first one again. -/
def openUnits (s : State) (n : Nat) (t : Task) : List Byte :=
  let x := reader s t.stream
  (if t.isRap then unitBytes 1 0 (if x.hdr = [] then streamHeader t.stream t.snap else x.hdr) ++ unitBytes 2 0 (modelDecl s (eMslot t.snap))
   else []) ++
  (match t.bank with
   | some b => if !builtIn s t && (t.isRap || !epochNamed s t) then
       unitBytes 3 0 (epochPayload s n b t) else []
   | none => [])

end Sys2Proof.Machine
end

