-- ==== Sys2Proof/Machine/Dma.lean ====
section
/-! DEFINITION. The DMA engine: transfers, credits, packing, persistent streams and re-arm, task-relative bases, and the HBM
bytes charged (R280, R284 to R291, R294, R295, R298 to R302, R501). -/

namespace Sys2Proof.Machine

/-! ### Fields -/

def xKind (w : W128) : Nat := bits w.toNat 8 2
def xDesc (w : W128) : Nat := bits w.toNat 10 16
def xSlot (w : W128) : Nat := bits w.toNat 26 4
def xCsem (w : W128) : Nat := bits w.toNat 30 6
def xDsem (w : W128) : Nat := bits w.toNat 36 6
def xNdesc (w : W128) : Nat := bits w.toNat 42 16

/-- A transfer descriptor (R285): 128 bytes as a number. -/
def tf (d o n : Nat) : Nat := bits d (8 * o) (8 * n)
def tSrc (d : Nat) : Nat := tf d 0 8
def tDst (d : Nat) : Nat := tf d 8 8
def tLen0 (d : Nat) : Nat := tf d 16 4
def tCnt (d i : Nat) : Nat := tf d (16 + 4 * i) 4
def tSstr (d i : Nat) : Int := toSigned 64 (tf d (28 + 8 * i) 8)
def tDstr (d i : Nat) : Int := toSigned 64 (tf d (60 + 8 * i) 8)
def tSrcStore (d : Nat) : Bool := tf d 100 1 % 2 = 1
def tDstStore (d : Nat) : Bool := tf d 101 1 % 2 = 1
def tPack (d : Nat) : Bool := bit (tf d 102 1) 0
/-- UNPACK, which ZERO overrides: a transfer that writes zeros reads nothing. -/
def tUnpack (d : Nat) : Bool := bit (tf d 102 1) 1 && !bit (tf d 102 1) 2
def tZero (d : Nat) : Bool := bit (tf d 102 1) 2
def tSrel (d : Nat) : Nat := bits (tf d 103 1) 0 3
def tDrel (d : Nat) : Nat := bits (tf d 103 1) 3 3
def tSlotBytes (d : Nat) : Nat := tf d 104 4
def tSlots (d : Nat) : Nat := tf d 108 2
def tDrain (d : Nat) : Bool := tf d 110 1 % 2 = 1
def tPlenAddr (d : Nat) : Nat := tf d 112 4
def tSk (d : Nat) : Nat := tf d 116 1
def tDk (d : Nat) : Nat := tf d 117 1
/-- Bytes of the whole transfer. -/
def tTotal (d : Nat) : Nat := tLen0 d * tCnt d 1 * tCnt d 2 * tCnt d 3 * tCnt d 4
/-- Credit slots of the whole transfer. -/
def tCredits (d : Nat) : Nat := ceilDiv (tTotal d) (max 1 (tSlotBytes d))

/-- Reads a transfer descriptor: two consecutive table entries. -/
def transferDesc (s : State) (n i : Nat) : Except Abort Nat := do
  let a ← descOf s n i
  let b ← descOf s n (i + 1)
  return a + b * 2 ^ 512

/-! ### Codebook banks (R208, R209, R213) -/

/-- The codebook bank of core `n` in which a virtual address lies. -/
def cbBankAt (s : State) (n va : Nat) : Option Nat :=
  [0, 1].find? (fun b =>
    cbVa s n b ≠ 0 && cbVa s n b ≤ va && va < cbVa s n b + SMap.get 0 (core s n).cbLen b)

/-- The bank whose codebooks a task uses: the one that it codes against, or before its first job the newest valid one of its model
(R155, R209). -/
def codebookBank (s : State) (n : Nat) (t : Task) : Option Nat :=
  match t.bank with
  | some b => some b
  | none =>
    let mine := [0, 1].filter (fun b => bankValid s n b && bankSlot s n b = eMslot t.snap)
    (mine.find? (fun b => bankNewest s n b)).orElse (fun _ => mine.head?)

/-- A read of the codebooks by a task of an audio stream, in whichever bank it addresses, goes to the bank that the task uses, at the same
offset in a set as long as that bank's, so that it never reads the codebooks of another epoch (R209; log entry 111). -/
def codebookVa (s : State) (n : Nat) (t : Task) (va : Nat) : Nat :=
  if t.kind = 2 || !eAudio t.snap then va
  else match codebookBank s n t with
    | none => va
    | some b' =>
      match [0, 1].find? (fun b => cbVa s n b ≠ 0 && cbVa s n b ≤ va && va < cbVa s n b + SMap.get 0 (core s n).cbLen b') with
      | some b => cbVa s n b' + (va - cbVa s n b)
      | none => va

/-- Does a task read the codebooks at a virtual address for a stub, whose ŷ is 0 (R232)? -/
def stubRead (s : State) (n : Nat) (t : Task) (va : Nat) : Bool :=
  eAudio t.snap && t.rd.any (·.stub) && (cbBankAt s n va).isSome

/-! ### Faults -/

/-- An uncorrectable error in a codebook bank is a table-ECC fault that leaves the bank pair empty (R213); any other stays as it
is. -/
def cbFault (s : State) (n : Nat) (a : Abort) : State × Abort :=
  match (if a.code = cHbmEcc then cbBankAt s n a.addr else none) with
  | some b => (emptyBank s n b, ⟨cTableEcc, a.addr⟩)
  | none => (s, a)

/-- Records a DMA fault in DMA_FAULT, counts what the HBM controller or the compressor channel counts, and aborts the task. A page that
the translation has no entry for was a miss (R281). -/
def dmaFault (s : State) (n c desc : Nat) (a : Abort) : State :=
  let key := (hbmKey s (partOf s n) a.addr).elim 0 (·.1)
  let ecc := a.code = cHbmEcc
  let (s, a) := cbFault s n a
  let b := coreBase n 6
  let s := wr64 s (b + 0xD0) (a.code + desc % 2 ^ 13 * 2 ^ 16 + 2 ^ 31 + c * 2 ^ 32)
  let s := wr64 s (b + 0xD8) (a.addr % 2 ^ 48)
  let s := if ecc then hbmError s key
    else if a.code = cBlockMalformed then
      let k := keyStack key
      arrive (raise (count64 s (blcBase k + 0xC8) 1) (blcBase k) cBlockMalformed) (224 + k) 0
    else raise (if a.code = cTranslation then count64 s (b + 0xC8) 1 else s) b a.code
  let s := arrive s (16 + 16 * n + 5) (a.code + c * 2 ^ 16)
  unitAbort s n c a

/-! ### Sides of a transfer (R286, R288, R501) -/

/-- Where a byte of a side lies: discarded, in the store, or in HBM, with its offset in a task-relative slot. -/
inductive Place where
  | none
  | store (a : Nat)
  | hbm (va : Nat) (off : Nat)
  deriving DecidableEq, Repr

/-- Stride offset of byte `k` of the sequence. -/
def strideOff (d : Nat) (str : Nat → Int) (k : Nat) : Int :=
  let b := k % tLen0 d
  let r := k / tLen0 d
  let i1 := r % tCnt d 1
  let r := r / tCnt d 1
  let i2 := r % tCnt d 2
  let r := r / tCnt d 2
  let i3 := r % tCnt d 3
  let i4 := r / tCnt d 3
  (i1 : Int) * str 1 + (i2 : Int) * str 2 + (i3 : Int) * str 3 + (i4 : Int) * str 4 + b

/-- Offset of byte `k` in a credit ring. -/
def ringOff (d k : Nat) : Nat := k / tSlotBytes d % tSlots d * tSlotBytes d + k % tSlotBytes d

/-- The base and extent of a task-relative side: virtual address and bytes (R501); none for a slot that the task does not
hold. -/
def relBase (s : State) (t : Task) (rel k : Nat) : Option (Nat × Nat) :=
  match rel with
  | 1 => some (t.inVa, t.inBytes)
  | 2 => if k < t.outN then some (slotVa s (eOutRing t.snap) (t.outFirst + k), ringSlotBytes s (eOutRing t.snap)) else none
  | 3 => if k < t.recN then some (slotVa s (eRecRing t.snap) (t.recFirst + k), ringSlotBytes s (eRecRing t.snap)) else none
  | 4 => some (eBufVa t.snap, 2 ^ 48)
  | _ => none

/-- Place of the byte at signed offset `off` from a side's base. -/
def sidePlace (s : State) (t : Task) (store : Bool) (base rel k : Nat) (write : Bool) (off : Int) : Except Abort Place :=
  if store then .ok (.store ((base + off) % (2 ^ 32 : Nat)).toNat)
  else if rel = 0 then .ok (.hbm ((base + off) % (2 ^ 48 : Nat)).toNat 0)
  else if rel = 3 ∧ write ∧ t.recN = 0 then .ok .none
  else match relBase s t rel k with
    | none => .error ⟨cAddressRange, base⟩
    | some (va, ext) =>
      let o := (base : Int) + off
      if rel ≠ 4 ∧ (o < 0 ∨ o ≥ ext) then .error ⟨cAddressRange, (((va : Int) + o) % (2 ^ 48 : Nat)).toNat⟩
      else .ok (.hbm (((va : Int) + o) % (2 ^ 48 : Nat)).toNat o.toNat)

/-- A transfer or a pass with its core, descriptor, bases and task. -/
structure Run where
  n : Nat
  d : Nat
  src : Nat
  dst : Nat
  t : Task
/-- The run of a mover for a task. -/
def runOf (n : Nat) (m : Mover) (t : Task) : Run := ⟨n, m.d, m.src, m.dst, t⟩

/-- Place of source byte `k`. With UNPACK the source is read contiguously. -/
def Run.srcAt (r : Run) (s : State) (k : Nat) : Except Abort Place :=
  let off : Int := if tUnpack r.d then k else if tSlotBytes r.d ≠ 0 ∧ tDrain r.d then ringOff r.d k else strideOff r.d (tSstr r.d) k
  match sidePlace s r.t (tSrcStore r.d) r.src (tSrel r.d) (tSk r.d) false off with
  | .ok (.hbm va o) =>
    let v := codebookVa s r.n r.t va
    .ok (if stubRead s r.n r.t v then .none else .hbm v o)
  | p => p
/-- Place of destination byte `k`. With PACK the destination is written contiguously. -/
def Run.dstAt (r : Run) (s : State) (k : Nat) : Except Abort Place :=
  let off : Int := if tPack r.d then k else if tSlotBytes r.d ≠ 0 ∧ !tDrain r.d then ringOff r.d k else strideOff r.d (tDstr r.d) k
  sidePlace s r.t (tDstStore r.d) r.dst (tDrel r.d) (tDk r.d) true off

/-! ### Requests (R280, R300) -/

/-- Does the place `q` go on a request at `p`: the next byte, in the same 256 bytes? -/
def follows : Place → Place → Bool
  | .store a, .store b => b = a + 1 && b % 256 ≠ 0
  | .hbm v _, .hbm w _ => w = v + 1 && w % 256 ≠ 0
  | .none, .none => true
  | _, _ => false

/-- The places that go on a request at `p` from byte `k`, at most `n`. -/
def goOn (f : Nat → Except Abort Place) (p : Place) (k : Nat) : Nat → List Place
  | 0 => []
  | n + 1 => match f k with
    | .ok q => if follows p q then q :: goOn f q (k + 1) n else []
    | .error _ => []

/-- The places of the next request from byte `k` of a side, of at most `n` bytes: bytes that follow one another and lie in the same 256
bytes, since a request is at most 256 bytes (R280; log entry 116). -/
def request (f : Nat → Except Abort Place) (k n : Nat) : Except Abort (List Place) :=
  match f k with
  | .error e => .error e
  | .ok p => .ok (p :: goOn f p (k + 1) (min n 256 - 1))

/-- The virtual address of a request, if it goes to HBM. -/
def reqVa : List Place → Option Nat
  | .hbm va _ :: _ => some va
  | _ => none

/-- The stack whose budget refuses a request of an activity (R280, R322). -/
def reqRefused (s : State) (n a : Nat) (ps : List Place) : Option Nat :=
  match (reqVa ps).bind (hbmKey s (partOf s n)) with
  | some (k, _) => if admitted s a (16 + keyStack k) then none else some (keyStack k)
  | none => none

/-! ### Moving bytes -/

/-- What a move has come to: the state, the run, and why it stops if it does. -/
structure Moved where
  s : State
  m : Mover
  err : Option Abort := none
  /-- the stack whose budget refuses the next request -/
  refusedAt : Option Nat := none

/-- Reads a request's bytes. -/
def readPlaces (s : State) (n : Nat) (packed : Bool) (ps : List Place) : Except Abort (List Byte) :=
  match ps with
  | .store a :: _ => storeRead s n a ps.length
  | .hbm va _ :: _ => hbmRead s (partOf s n) packed va ps.length
  | _ => .ok (List.replicate ps.length 0#8)
/-- Offset in a task's input of byte `o` of its source slot, where the source is the input: the task input of REL 1, or for a verifying
decode the output slots of the encode half, one after the other (R22, R501). -/
def inputOff (s : State) (r : Run) (o : Nat) : Option Nat :=
  if r.t.kind ≠ 3 then (if tSrel r.d = 1 then some o else none)
  else if tSrel r.d ≠ 2 then none
  else ((runningTasks s).find? (fun (_, _, u) => u.isFrame && u.order = r.t.order)).map (fun (_, _, u) =>
    ((List.range (tSk r.d)).map u.outExtent).sum + o)

/-- The bytes of a request as a decode task sees them: where it reads the body of a protected frame unit, that body in the clear, which begins
directly after the frame header (R224, R237, R425; log entry 25). -/
def clearRead (s : State) (r : Run) (ps : List Place) (bs : List Byte) : List Byte :=
  match r.t.rd, ps with
  | some f, .hbm _ o :: _ => match (if f.body = [] then none else inputOff s r o) with
    | some i => bs.zipIdx.map (fun (b, k) => if f.bodyAt ≤ i + k then f.body.getD (i + k - f.bodyAt) b else b)
    | none => bs
  | _, _ => bs

/-- Writes a request's bytes. -/
def writePlaces (s : State) (n : Nat) (packed : Bool) (ps : List Place) (bs : List Byte) : Except Abort State :=
  match ps with
  | .store a :: _ => storeWrite s n a bs
  | .hbm va _ :: _ => hbmWrite s (partOf s n) packed va bs
  | _ => .ok s

/-- Raises the extent of the slot that a run writes through REL 2 or 3 (R501). -/
def raiseExtent (s : State) (n c : Nat) (r : Run) (ps : List Place) : State :=
  if tDrel r.d = 2 ∨ tDrel r.d = 3 then
    let top := ps.foldl (fun m p => match p with | .hbm _ o => max m (o + 1) | _ => m) 0
    let k := (if tDrel r.d = 3 then 256 else 0) + tDk r.d
    updTask s n c (fun t => { t with extents := SMap.set 0 t.extents k (max (SMap.get 0 t.extents k) top) })
  else s

/-- One read request of at most `len` bytes from source byte `rpos`; `put` says what becomes of its bytes. -/
def readReq (r : Run) (len : Nat) (put : Mover → List Byte → Mover) (x : Moved) : Moved :=
  let a := r.t.activity
  match request (r.srcAt x.s) x.m.rpos len with
  | .error e => { x with err := some e }
  | .ok ps => match reqRefused x.s r.n a ps, readPlaces x.s r.n (tUnpack r.d) ps with
    | some st, _ => { x with refusedAt := some st }
    | none, .error e => { x with err := some e }
    | none, .ok bs =>
      let s := match reqVa ps with | some va => touchTlb x.s r.n va | none => x.s
      let (s, m) := chargeRead s a ((reqVa ps).bind (hbmKey s (partOf s r.n))) ps.length x.m
      { x with s := count64 s (coreBase r.n 6 + 0xA0) ps.length, m := put { m with rpos := m.rpos + ps.length } (clearRead x.s r ps bs) }

/-- One write request of at most `len` of the bytes that wait. A write that fails leaves the writes made before it (R294). -/
def writeReq (c : Nat) (r : Run) (len : Nat) (x : Moved) : Moved :=
  let a := r.t.activity
  match request (r.dstAt x.s) x.m.wpos len with
  | .error e => { x with err := some e }
  | .ok ps =>
    let key := (reqVa ps).bind (hbmKey x.s (partOf x.s r.n))
    let old := key.elim 0 (fun k => SMap.get 0 x.s.mem.blk (k.1 / 4096))
    match reqRefused x.s r.n a ps, writePlaces x.s r.n (tPack r.d) ps (x.m.out.take ps.length) with
    | some st, _ => { x with refusedAt := some st }
    | none, .error e => { x with err := some e }
    | none, .ok s =>
      let s := match reqVa ps with | some va => touchTlb s r.n va | none => s
      let (s, m) := chargeWrite (raiseExtent s r.n c r ps) a key ps.length old x.m
      { x with s := count64 s (coreBase r.n 6 + 0xA8) ps.length, m := { m with wpos := m.wpos + ps.length, out := m.out.drop ps.length } }

/-- Compressor channel of a place: the HBM stack's, or the fabric path's of the core's die. -/
def blcOf (s : State) (n : Nat) (p : Except Abort Place) : Nat :=
  match p with
  | .ok (.hbm va _) => match hbmKey s (partOf s n) va with | some (k, _) => keyStack k | none => 8 + n / 4
  | _ => 8 + n / 4

/-- PACK: the next block is cut from the bytes read, and its packed form waits to be written (R286, R300). -/
def packNext (r : Run) (x : Moved) : Moved :=
  let blk := x.m.raw.take 4096
  let (mode, bs) := packBlock blk
  let k := blcBase (blcOf x.s r.n (r.dstAt x.s x.m.wpos))
  let s := count64 (count64 (count64 x.s (k + 0xA0) 1) (k + 0xB8) blk.length) (k + 0xC0) bs.length
  let s := if mode = 0 then count64 s (k + 0xA8) 1 else if mode = 2 then count64 s (k + 0xB0) 1 else s
  { x with s := s, m := { x.m with raw := x.m.raw.drop 4096, out := bs } }

/-- Bytes of a packed block that are still to be read: its header, then its payload. -/
def unpackWants (raw : List Byte) : Except Unit Nat :=
  if raw.length < 16 then .ok (16 - raw.length)
  else match packedLen (raw.take 16) with
    | none => .error ()
    | some n => .ok (16 + n - raw.length)

/-- UNPACK: a whole packed block is decoded, or read on; of the last block what the transfer does not need is dropped (R286, R301). -/
def unpackNext (r : Run) (x : Moved) : Moved :=
  let bad : Abort := ⟨cBlockMalformed, match r.srcAt x.s (x.m.rpos - x.m.raw.length) with | .ok (.hbm va _) => va | _ => 0⟩
  match unpackWants x.m.raw with
  | .error _ => { x with err := some bad }
  | .ok 0 => match unpackBlock (x.m.raw.take 16) (x.m.raw.drop 16) with
    | none => { x with err := some bad }
    | some bs =>
      let k := blcBase (blcOf x.s r.n (r.srcAt x.s (x.m.rpos - 1)))
      { x with s := count64 (count64 x.s (k + 0xB8) bs.length) (k + 0xC0) x.m.raw.length,
               m := { x.m with raw := [], out := bs.take (tTotal r.d - x.m.wpos) } }
  | .ok w => readReq r w (fun m bs => { m with raw := m.raw ++ bs }) x

/-- Has the run moved every byte up to position `hi` of the transfer's sequence? A PACK that reaches the end has written its last block;
a credit slot of a PACK is done when it is read. -/
def movedTo (d hi : Nat) (m : Mover) : Bool :=
  if tPack d then m.rpos ≥ hi && (hi < tTotal d || (m.raw = [] && m.out = [])) else m.wpos ≥ hi

/-- The run has come to its end: what the channels gather ends, and a PACK writes the total length to PLEN_ADDR (R286). -/
def closeRun (r : Run) (x : Moved) : Moved :=
  if x.m.closed then x
  else
    let s := endColls x.s r.t.activity x.m
    let m := { x.m with closed := true, reads := none, writes := none }
    if !tPack r.d then { x with s := s, m := m }
    else match storeWrite s r.n (tPlenAddr r.d) (leBytes 4 m.wpos) with
      | .error e => { x with s := s, m := m, err := some e }
      | .ok s => { x with s := s, m := m }

/-- The next thing that a run does towards position `hi`: bytes that wait are written; else bytes are read, made or converted. -/
def moveNext (c : Nat) (r : Run) (hi : Nat) (x : Moved) : Moved :=
  let m := x.m
  if m.out ≠ [] && (tPack r.d || m.wpos < hi) then writeReq c r (if tPack r.d then m.out.length else min m.out.length (hi - m.wpos)) x
  else if tUnpack r.d then unpackNext r x
  else if tPack r.d && (m.raw.length ≥ 4096 || m.rpos = tTotal r.d) then packNext r x
  else
    let put (m : Mover) (bs : List Byte) : Mover := if tPack r.d then { m with raw := m.raw ++ bs } else { m with out := bs }
    if tZero r.d then
      let k := min 256 (hi - m.rpos)
      { x with m := put { m with rpos := m.rpos + k } (List.replicate k 0#8) }
    else readReq r (hi - m.rpos) put x

/-- Moves a run towards position `hi` until it is there, fails, or a budget refuses its next request (R280, R322). -/
def moveTo (c : Nat) (r : Run) (hi : Nat) : Nat → Moved → Moved
  | 0, x => x
  | fuel + 1, x =>
    if x.err.isSome || x.refusedAt.isSome then x
    else if movedTo r.d hi x.m then (if hi = tTotal r.d then closeRun r x else x)
    else moveTo c r hi fuel (moveNext c r hi x)

/-- Moves a run up to position `hi`. No run of requests is longer: a packed block has at most 65,551 bytes and yields at least one. -/
def move (s : State) (c : Nat) (r : Run) (hi : Nat) (m : Mover) : Moved := moveTo c r hi ((hi + 2) * 70000) { s, m }

/-- Positions at which credit slot `j` ends. -/
def creditEnd (d j : Nat) : Nat := min ((j + 1) * tSlotBytes d) (tTotal d)

/-- One credit slot (R288): its credit is taken once, and its bytes move. Answers none when every slot has moved or the credit is not
there. -/
def creditStep (s : State) (c : Nat) (r : Run) (csem dsem : Nat) (m : Mover) : Option Moved :=
  let need := if tDrain r.d then dsem else csem
  if m.done ≥ tCredits r.d || (!m.opened && semOf s r.n need = 0) then none
  else
    let s := if m.opened then s else setSem s r.n need (semOf s r.n need - 1)
    some (move s c r (creditEnd r.d m.done) { m with opened := true })
/-- The run after a credit slot. -/
def Mover.slotDone (m : Mover) : Mover := { m with done := m.done + 1, opened := false }

/-! ### TRANSFER (R287, R288) -/

/-- DMA_STATUS bit of a context. -/
def setDmaActive (s : State) (n c : Nat) (b : Bool) : State := wrBits s (coreBase n 6 + 0x40) c 1 b.toNat

/-- Issues a DMA instruction of KIND `k` into the DMA queue, or begins it (R65): a transfer in progress holds the queue (R287). -/
def dmaIssue (n c : Nat) (w : W128) (k : Nat) (run : State → State) (s : State) : Out :=
  .next (if xKind w ≠ k then s else issue s n c w 0x08 7 0 (!unitBusy s n 7) true run)

/-- The transfer of a context, with its run. -/
def setTransfer (s : State) (n c : Nat) (x : Transfer) : State := setCtx s n c { ctxOf s n c with transfer := some x }

/-- The run of a descriptor from its first byte. -/
def newRun (d : Nat) : Mover := { d, src := tSrc d, dst := tDst d }

/-- What becomes of a move for context `c`: the run is kept with `save`, and goes on with `finish` once the move is done; a refusal is
counted, and a fault aborts the task. -/
def afterMove (n c desc : Nat) (t : Task) (x : Moved) (save finish : State → Mover → State) : State :=
  match x.refusedAt, x.err with
  | some st, _ => refused (save x.s x.m) t.activity (16 + st)
  | none, some a => dmaFault (save x.s x.m) n c desc a
  | none, none => finish x.s x.m

/-- Moves what is left of an uncredited transfer, and goes on with `finish` once all of it is moved. -/
def pumpTransfer (s : State) (n c : Nat) (x : Transfer) (t : Task) (finish : State → Mover → State) : State :=
  afterMove n c x.desc t (move s c (runOf n x.run t) (tTotal x.run.d) x.run) (fun s m => setTransfer s n c { x with run := m }) finish

/-- The descriptor of a transfer that begins. A decode task's input is read through the reader, which decrypts it (R237, R425; log entry
16); none when that or the descriptor ends the task. -/
def openDesc (s : State) (n c : Nat) (w : W128) : State × Option (Task × Nat) :=
  match transferDesc s n (xDesc w) with
  | .error a => (dmaFault s n c (xDesc w) a, none)
  | .ok d =>
    match (if tSrel d = 1 || tSrel d = 2 then readInput s n c else (s, true)) with
    | (s, false) => (s, none)
    | (s, true) => (s, (taskOf s n c).map (fun t => (t, d)))

/-- Persistent stream `p` of a core. -/
def pstream (s : State) (n p : Nat) : Option PStream := ((core s n).pst.find? (fun x => x.1 = p)).map (·.2)
def setPstream (s : State) (n p : Nat) (x : PStream) : State :=
  setCore s n { core s n with pst := SMap.insert (SMap.erase (core s n).pst p) p x }

/-- Has a run a request to issue now: something is left to move, the credit of its slot is there, and no budget refuses the request
(R280, R288)? One that will fault issues. -/
def wantsRequest (s : State) (r : Run) (csem dsem : Nat) (m : Mover) : Bool :=
  (if tSlotBytes r.d = 0 then !m.closed
   else m.done < tCredits r.d && (m.opened || semOf s r.n (if tDrain r.d then dsem else csem) ≠ 0)) &&
  match request (fun k => if m.out ≠ [] then r.dstAt s k else r.srcAt s k) (if m.out ≠ [] then m.wpos else m.rpos) 1 with
  | .ok ps => (reqRefused s r.n r.t.activity ps).isNone
  | .error _ => true

/-- The runs of a core that have a request to issue, each with its name in CREDIT_SLOT_DONE: the context of a transfer, or 8 and the slot
of a stream. -/
def wanting (s : State) (n : Nat) : List (Nat × Nat) :=
  ((List.range 8).filterMap (fun c => match (ctxOf s n c).transfer, taskOf s n c with
    | some x, some t => if wantsRequest s (runOf n x.run t) x.csem x.dsem x.run then some (c, ctxActivity s n c % 4) else none
    | _, _ => none)) ++
  (core s n).pst.filterMap (fun (p, x) => match taskOf s n x.ctx with
    | some t => if !(x.parked && frozen s (partOf s n)) && wantsRequest s (runOf n x.run t) x.csem x.dsem x.run
        then some (8 + p, ctxActivity s n x.ctx % 4) else none
    | none => none)

/-- Does run `who`, of class `cls`, wait for another run of its core: live before near-live before archival, and within a class the
queue's transfer before the slots in ascending order (R296, R326; log entry 124)? -/
def dmaWaits (s : State) (n who cls : Nat) : Bool :=
  let rank (w c : Nat) : Nat := c * 32 + (w - 7)
  (wanting s n).any (fun (w, c) => w ≠ who && decide (rank w c < rank who cls))

/-- The effect of a TRANSFER that begins: it holds the queue, and without credits its bytes move as far as the HBM budgets let them
(R280), unless another run of the core goes first. -/
def transferRun (n c : Nat) (w : W128) (s : State) : State :=
  match openDesc s n c w with
  | (s, none) => s
  | (s, some (t, d)) =>
    let x : Transfer := { desc := xDesc w, csem := xCsem w, dsem := xDsem w, run := newRun d }
    let s := setDmaActive (setTransfer s n c x) n c true
    if tSlotBytes d ≠ 0 || dmaWaits s n c (t.activity % 4) then s else pumpTransfer s n c x t (fun s m => setTransfer s n c { x with run := m })

/-- DMA_TRANSFER (R287). -/
def execDmaTransfer (n c : Nat) (w : W128) (s : State) : Out := dmaIssue n c w 0 (transferRun n c w) s

/-- TRANSFER_COMPLETE (R287): every write is acknowledged; the queue is released and DSEM gains 1. An uncredited transfer that a budget
held goes on first. -/
def execTransferComplete (n c : Nat) (s : State) : Out := .next <|
  match (ctxOf s n c).transfer, taskOf s n c with
  | some x, some t =>
    if !codecOn s || (tSlotBytes x.run.d ≠ 0 && x.run.done < tCredits x.run.d) then s
    else
      let finish (s : State) (_ : Mover) : State :=
        semSignal (setDmaActive (setCtx s n c { ctxOf s n c with transfer := none }) n c false) n c x.dsem 1
      if tSlotBytes x.run.d ≠ 0 || x.run.closed then finish s x.run
      else if dmaWaits s n c (t.activity % 4) then s
      else pumpTransfer s n c x t finish
  | _, _ => s

/-! ### Persistent streams (R289 to R291) -/

/-- Address of DMA_PSTp. -/
def pstReg (n p : Nat) : Nat := coreBase n 6 + 0x200 + 16 * p
/-- Discards and counts a re-arm or STOP of an inactive slot. -/
def rearmDiscard (s : State) (n : Nat) : State := count64 s (coreBase n 6 + 0x188) 1

/-- The effect of a PERSIST that begins. -/
def persistRun (n c : Nat) (w : W128) (s : State) : State :=
  if (pstream s n (xSlot w)).isSome then dmaFault s n c (xDesc w) ⟨cAddressRange, 0⟩
  else match openDesc s n c w with
    | (s, none) => s
    | (s, some (_, d)) =>
      let s := setPstream s n (xSlot w) { ctx := c, desc := xDesc w, csem := xCsem w, dsem := xDsem w, run := newRun d }
      let s := wrBits s (coreBase n 6 + 0x40) (16 + xSlot w) 1 1
      wr64 s (pstReg n (xSlot w)) (1 + c * 4 + xDesc w * 2 ^ 16)

/-- PERSIST (R289). -/
def execPersist (n c : Nat) (w : W128) (s : State) : Out := dmaIssue n c w 1 (persistRun n c w) s

/-- Writes the next base set of a slot (R290). -/
def rearmSlot (s : State) (n p src dst : Nat) : State :=
  match pstream s n p with
  | none => rearmDiscard s n
  | some x =>
    let s := if x.pending then wrBits s (pstReg n p + 8) 0 16 (min (rdBits s (pstReg n p + 8) 0 16 + 1) 65535) else s
    wrBits (setPstream s n p { x with nsrc := src, ndst := dst, pending := true }) (pstReg n p) 1 1 1

/-- The effect of a REARM that begins. -/
def rearmRun (n c : Nat) (w : W128) (s : State) : State :=
  match descOf s n (xNdesc w) with
  | .error a => dmaFault s n c (xNdesc w) a
  | .ok d => rearmSlot s n (xSlot w) (tSrc d) (tDst d)

/-- REARM (R290). -/
def execRearm (n c : Nat) (w : W128) (s : State) : Out := dmaIssue n c w 2 (rearmRun n c w) s

/-- DMA_REARM (R290, R302): a control processor writes the register. A descriptor that cannot be read re-arms nothing; a write to a
gated core is ignored (R17, R495). -/
def execDmaRearm (n : Nat) (v : W32) (s : State) : Out := .next <|
  if !codecOn s || coreClosed s n then s
  else match descOf s n (bits v.toNat 16 16) with
    | .error _ => rearmDiscard s n
    | .ok d => rearmSlot s n (bits v.toNat 0 4) (tSrc d) (tDst d)

/-- The effect of a STOP that begins. -/
def stopRun (n : Nat) (w : W128) (s : State) : State :=
  match pstream s n (xSlot w) with
  | none => rearmDiscard s n
  | some x => setPstream s n (xSlot w) { x with stopping := true }

/-- STOP (R289): the stream ends after its pass; a waiting next set is discarded. -/
def execStop (n c : Nat) (w : W128) (s : State) : Out := dmaIssue n c w 3 (stopRun n w) s

/-- Ends a persistent stream. -/
def endPstream (s : State) (n p : Nat) : State :=
  let s := setCore s n { core s n with pst := SMap.erase (core s n).pst p }
  wrBits (wrBits s (coreBase n 6 + 0x40) (16 + p) 1 0) (pstReg n p) 0 2 0

/-- What follows the bytes of a pass (R289, R290, R461): DSEM gains 1, a waiting set is latched, or the stream stops; the descriptor stays
as it was latched (R291), and a frozen partition's stream starts no further pass. -/
def passEnd (s : State) (n p : Nat) (x : PStream) : State :=
  let s := wrBits s (pstReg n p + 4) 0 32 (rd32 s (pstReg n p + 4) + 1)
  let x' : PStream := { x with run := { newRun x.run.d with src := if x.pending then x.nsrc else x.run.src, dst := if x.pending then x.ndst else x.run.dst },
                               pending := false, parked := frozen s (partOf s n) }
  let s := if x.stopping then endPstream s n p else wrBits (setPstream s n p x') (pstReg n p) 1 1 0
  semSignal s n x.ctx x.dsem 1

/-- PASS_BOUNDARY (R289): the last write of a pass is acknowledged. Without credits the pass's bytes move here. -/
def execPassBoundary (n p : Nat) (s : State) : Out := .next <|
  match pstream s n p with
  | none => s
  | some x =>
    if !codecOn s || (x.parked && frozen s (partOf s n)) then s
    else match taskOf s n x.ctx with
      | none => s
      | some t =>
        let d := x.run.d
        if tSlotBytes d ≠ 0 then (if x.run.done < tCredits d then s else passEnd s n p x)
        else if dmaWaits s n (8 + p) (t.activity % 4) then s
        else afterMove n x.ctx x.desc t (move s x.ctx (runOf n x.run t) (tTotal d) x.run) (fun s m => setPstream s n p { x with run := m })
          (fun s _ => passEnd s n p x)

/-- A credit slot of run `who` of context `c` (R288): it moves, and the other semaphore is signalled; `save` keeps the run. -/
def creditSlot (s : State) (n who c desc csem dsem : Nat) (m : Mover) (t : Task) (save : State → Mover → State) : State :=
  if tSlotBytes m.d = 0 || dmaWaits s n who (t.activity % 4) then s
  else match creditStep s c (runOf n m t) csem dsem m with
    | none => s
    | some x => afterMove n c desc t x save (fun s m => semSignal (save s m.slotDone) n c (if tDrain m.d then csem else dsem) 1)

/-- CREDIT_SLOT_DONE (R288): the next credit slot of the transfer of context `who`, or of the persistent stream in slot
`who - 8`, moves and is signalled. -/
def execCreditSlotDone (n who : Nat) (s : State) : Out := .next <|
  if !codecOn s then s
  else if who < 8 then
    match (ctxOf s n who).transfer, taskOf s n who with
    | some x, some t => creditSlot s n who who x.desc x.csem x.dsem x.run t (fun s m => setTransfer s n who { x with run := m })
    | _, _ => s
  else match pstream s n (who - 8) with
    | none => s
    | some x =>
      if x.parked && frozen s (partOf s n) then s
      else match taskOf s n x.ctx with
        | none => s
        | some t => creditSlot s n who x.ctx x.desc x.csem x.dsem x.run t (fun s m => setPstream s n (who - 8) { x with run := m })

end Sys2Proof.Machine
end

