-- ==== Sys2Proof/Machine/Sha3.lean ====
section
/-! DEFINITION. SHA-3 and SHAKE (FIPS 202), which prints, images, models and the darkroom name (R231, R245, R259, R414). -/

namespace Sys2Proof.Machine

/-- A Keccak state: 25 lanes of 64 bits, keccakLane `x + 5 y`. -/
abbrev Keccak := List (BitVec 64)

/-- Rotation offsets of the lanes. -/
def keccakRot : List Nat := [0, 1, 62, 28, 27, 36, 44, 6, 55, 20, 3, 10, 43, 25, 39, 41, 45, 15, 21, 8, 18, 2, 61, 56, 14]

/-- One step of the linear feedback register that gives the round constants. -/
def keccakLfsr (r : Nat) : Nat := if r ≥ 128 then (r * 2 % 256) ^^^ 0x71 else r * 2

/-- The round constant from a register value, and the register after it: bit `2^j − 1` is the register's low bit. -/
def keccakRc (r : Nat) : BitVec 64 × Nat :=
  (List.range 7).foldl (fun (acc : BitVec 64 × Nat) j =>
    ((if acc.2 % 2 = 1 then acc.1 ^^^ (1#64 <<< (2 ^ j - 1)) else acc.1), keccakLfsr acc.2)) (0#64, r)

/-- Lane `i`. -/
def keccakLane (a : Keccak) (i : Nat) : BitVec 64 := a.getD i 0#64

/-- One round with constant `rc`: θ, ρ, π, χ and ι. -/
def keccakRound (a : Keccak) (rc : BitVec 64) : Keccak :=
  let c := (List.range 5).map (fun x => keccakLane a x ^^^ keccakLane a (x + 5) ^^^ keccakLane a (x + 10) ^^^ keccakLane a (x + 15) ^^^ keccakLane a (x + 20))
  let d := (List.range 5).map (fun x => keccakLane c ((x + 4) % 5) ^^^ (keccakLane c ((x + 1) % 5)).rotateLeft 1)
  let t := (List.range 25).map (fun i => (keccakLane a i ^^^ keccakLane d (i % 5)).rotateLeft (keccakRot.getD i 0))
  let b := (List.range 25).map (fun i => let x := i % 5; let y := i / 5; keccakLane t ((x + 3 * y) % 5 + 5 * x))
  (List.range 25).map (fun i =>
    let x := i % 5
    let y := i / 5
    let v := keccakLane b i ^^^ (~~~ keccakLane b ((x + 1) % 5 + 5 * y) &&& keccakLane b ((x + 2) % 5 + 5 * y))
    if i = 0 then v ^^^ rc else v)

/-- Rounds of the permutation. -/
def keccakRounds : Nat → Nat → Keccak → Keccak
  | 0, _, a => a
  | n + 1, r, a => let x := keccakRc r; keccakRounds n x.2 (keccakRound a x.1)

/-- Keccak-f[1600]. -/
def keccakF (a : Keccak) : Keccak := keccakRounds 24 1 a

/-- Exclusive-ors a block of bytes into the state. -/
def keccakXor (a : Keccak) (blk : List Byte) : Keccak :=
  (List.range 25).map (fun i => keccakLane a i ^^^ BitVec.ofNat 64 (leNat ((blk.drop (8 * i)).take 8)))

/-- Absorbs blocks of `rate` bytes. -/
def keccakAbsorb (rate : Nat) : Nat → Keccak → List Byte → Keccak
  | 0, a, _ => a
  | n + 1, a, bs => keccakAbsorb rate n (keccakF (keccakXor a (bs.take rate))) (bs.drop rate)

/-- Squeezes `n` blocks. -/
def keccakSqueeze (rate : Nat) : Nat → Keccak → List Byte
  | 0, _ => []
  | n + 1, a => ((a.map (fun l => leBytes 8 l.toNat)).flatten.take rate) ++ keccakSqueeze rate n (keccakF a)

/-- A sponge over bytes with rate `rate` and domain suffix `sfx`, answering `out` bytes. -/
def sponge (rate sfx out : Nat) (bs : List Byte) : List Byte :=
  let n := bs.length / rate + 1
  let pad := n * rate - bs.length
  let tail := if pad = 1 then [BitVec.ofNat 8 (sfx + 0x80)] else [BitVec.ofNat 8 sfx] ++ List.replicate (pad - 2) 0#8 ++ [0x80#8]
  (keccakSqueeze rate (out / rate + 1) (keccakAbsorb rate n (List.replicate 25 0#64) (bs ++ tail))).take out

def sha3_256 (bs : List Byte) : List Byte := sponge 136 0x06 32 bs
def sha3_384 (bs : List Byte) : List Byte := sponge 104 0x06 48 bs
def shake256 (out : Nat) (bs : List Byte) : List Byte := sponge 136 0x1F out bs

end Sys2Proof.Machine
end

