-- ==== Sys2Proof/Machine/Repair.lean ====
section
/-! DEFINITION. Locations, window counting, repairs, tests and the repair journal (R61, R62, R271, R279, R431 to R449, R452). -/

namespace Sys2Proof.Machine

/-! ### Locations (R432) -/

def locKind (l : Nat) : Nat := bits l 28 4
def locCore (l : Nat) : Nat := bits l 24 3
def locArray (l : Nat) : Nat := bits l 20 3
def locLow (l : Nat) : Nat := bits l 0 8
def locMacro (l : Nat) : Nat := bits l 18 10
def locRow (l : Nat) : Nat := bits l 0 13
def locStack (l : Nat) : Nat := bits l 24 3
def locChan (l : Nat) : Nat := bits l 20 4
/-- The home of an SRAM macro: the tile store of a core (0–7), or 8 and 9 the halves of the shared store (R432; log entry 3). -/
def macroHome (m : Nat) : Nat := if Config.macroOwner m % 5 < 4 then m / 384 * 4 + Config.macroOwner m % 5 else 8 + m / 384
/-- The 64-bit word of the store map (byte key / 8) in which an uncorrectable error of an SRAM row lies: one of its macro's home, picked
by `x`. -/
def errorWord (s : State) (l x : Nat) : Nat :=
  let h := macroHome (locMacro l)
  if h < 8 then h * 2 ^ 29 + x % max 1 (2 ^ 17 * (coreCfg s h).tileMib)
  else (2 ^ 40 + 2 ^ 31 + (h - 8) * 2 ^ 30) / 8 + x % max 1 (halfBytes s (h - 8) / 8)
/-- The HBM sector (byte key / 32) in which an uncorrectable error of a channel or lane lies: of its stack and channel, of the
pseudo-channel that a lane names (byte offset bit 8), picked by `x` (R277, R279, R432). -/
def errorSector (s : State) (l x : Nat) : Nat :=
  let sec := x / 512 % 65536
  pageAt s (locStack l) (locChan l) (x % 512) * 65536 + (if locKind l = 4 then setBit sec 3 (bit l 19) else sec)
/-- The array of a column, and the channel of a lane, as locations. -/
def arrayLoc (n p : Nat) : Nat := 2 * 2 ^ 28 + n * 2 ^ 24 + p * 2 ^ 20
def chanLoc (l : Nat) : Nat := 5 * 2 ^ 28 + bits l 20 7 * 2 ^ 20
/-- Does a word name a repairable resource, every other bit 0? -/
def locOk (l : Nat) : Bool :=
  match locKind l with
  | 1 => locArray l < 5 && locLow l < 132 && l = 2 ^ 28 + locCore l * 2 ^ 24 + locArray l * 2 ^ 20 + locLow l
  | 2 => locArray l < 5 && l = arrayLoc (locCore l) (locArray l)
  | 3 => locMacro l < 768 && locRow l < 4160 && l = 3 * 2 ^ 28 + locMacro l * 2 ^ 18 + locRow l
  | 4 => locLow l < 34 && l = 4 * 2 ^ 28 + bits l 19 8 * 2 ^ 19 + locLow l
  | 5 => l = chanLoc l
  | 6 => l = 6 * 2 ^ 28 + bits l 23 2 * 2 ^ 23 + locLow l
  | 7 => l = 7 * 2 ^ 28 + locCore l * 2 ^ 24
  | _ => false

/-! ### The repair state as registers show it (R61, R62, R304, R453) -/

/-- Retired columns of a physical array, ascending. -/
def colsOf (s : State) (n p : Nat) : List Nat :=
  ((List.range 4).map (fun i => rdBits s (coreBase n 1 + 0x48 + 4 * p) (8 * i) 8)).filter (· ≠ 0xFF)
/-- The spare array of a core, 7 for none; the physical array of logical array `i`, 7 for none. -/
def spareOf (s : State) (n : Nat) : Nat := rdBits s (coreBase n 1 + 0x44) 12 3
def lmapOf (s : State) (n i : Nat) : Nat := rdBits s (coreBase n 1 + 0x44) (3 * i) 3
/-- Working active arrays of a core. -/
def activeArrays (s : State) (n : Nat) : Nat := ((List.range 4).filter (fun i => lmapOf s n i ≠ 7)).length
def arrayRetired (s : State) (n p : Nat) : Bool := bit (SMap.get 0 s.rep.arrays n) p
def chanRetired (s : State) (st c : Nat) : Bool := bit (rd32 s (hbmBase st + 0x40)) c
def relocated (s : State) (st : Nat) : Bool := bit (rd32 s (hbmBase st + 0x40)) 21

/-- Shows WORKING, SPARE and COLS of a core. -/
def refreshCore (s : State) (n : Nat) : State :=
  let sp := spareOf s n
  let ps := (List.range 5).filter (fun p => !arrayRetired s n p)
  let cols := (ps.map (fun p => 4 - (colsOf s n p).length)).sum
  let w := ps.length
  let s := wrBits s (coreBase n 1 + 0x40) 2 3 w
  wrBits s (repBase + 0x100 + 8 * n) 0 9 (w + (if sp = 7 then 0 else 8) + cols * 16)

/-- Empties a core's arrays after a change of its maps (R64). -/
def clearArrays (s : State) (n : Nat) : State :=
  let s := setCore s n { core s n with arr := { (core s n).arr with bank := [], nextg := [], active := [], shadow := [] } }
  wrBits s (coreBase n 1 + 0x60) 4 12 0

/-! ### Journal (R447 to R449) -/

/-- The 64 bytes of an entry. -/
def jBytes (seq : Nat) (e : JEntry) (applied : Bool) : List Byte :=
  let a := leBytes 4 seq ++ leBytes 1 e.kind ++ leBytes 1 e.origin
  let b := leBytes 1 0 ++ leBytes 4 e.loc ++ leBytes 4 e.spare ++ leBytes 8 e.tb ++ leBytes 4 e.events ++ List.replicate 32 0#8
  a ++ leBytes 1 (if applied then 0x3F else 0x7F) ++ b ++ leBytes 4 (crc32c (a ++ b)).toNat
/-- The journal digest. -/
def jDigest (j : List JEntry) : List Byte :=
  sha3_256 (((List.range j.length).zip j).map (fun x => jBytes (x.1 + 1) x.2 true)).flatten
/-- Appends an entry and answers its SEQ. -/
def jAdd (s : State) (e : JEntry) : State × Nat :=
  (s.setFlash { s.flash with journal := s.flash.journal ++ [e] }, s.flash.journal.length + 1)
/-- Marks an entry applied. -/
def jApply (s : State) (seq : Nat) : State :=
  s.setFlash { s.flash with journal := updNth s.flash.journal (seq - 1) (fun e => { e with applied := true }) }

/-! ### Corrected errors and pending repairs -/

/-- Counts a corrected error of a class, with its hourly peak (R450). -/
def countCE (s : State) (c n : Nat) : State :=
  let h := tb s / (3600 * 1000000000)
  let x := SMap.get (0, 0) s.rep.hours c
  let k := if x.1 = h then x.2 + n else n
  let s := s.setRep { s.rep with hours := SMap.set (0, 0) s.rep.hours c (h, k) }
  let s := satCount64 s (lfcBase + 0x140 + 8 * c) n
  if k > rd64 s (lfcBase + 0x180 + 8 * c) then wr64 s (lfcBase + 0x180 + 8 * c) k else s

/-- Replaces the pending repairs; REP_STATUS.PENDING shows their number. -/
def setPend (s : State) (p : List RPend) : State :=
  wrBits (s.setRep { s.rep with pend := p }) (repBase + 0x40) 16 16 p.length

/-- Source 9 with the location. -/
def repairEvent (s : State) (loc : Nat) : State := arrive s 9 loc

/-! ### Mapping changes (R61, R62, R271, R279, R445) -/

/-- A core left with fewer than 4 working active arrays takes its degraded variant at the next boundary, or its partition
stops (R271). -/
def degradeCore (s : State) (n : Nat) : State :=
  let a := activeArrays s n
  if a ≥ 4 || partOf s n > 7 then s
  else if bit (coreCfg s n).variants (3 - a) && a ≥ 1 then
    let s := abortWhere s 0x0301 (fun m _ _ => m = n)
    s.setRep { s.rep with degrade := SMap.set 0 s.rep.degrade n (4 - a) }
  else stopPartition s (partOf s n) 0x0F43

/-- Retires a physical array: the spare takes its place, or the core runs with fewer. -/
def retireArray (s : State) (n p : Nat) : State :=
  if arrayRetired s n p then s
  else
    let sp := spareOf s n
    let s := s.setRep { s.rep with arrays := SMap.set 0 s.rep.arrays n (setBit (SMap.get 0 s.rep.arrays n) p true) }
    let s := if p = sp then wrBits s (coreBase n 1 + 0x44) 12 3 7
      else
        let s := (List.range 4).foldl (fun s i => if lmapOf s n i = p then wrBits s (coreBase n 1 + 0x44) (3 * i) 3 sp else s) s
        wrBits s (coreBase n 1 + 0x44) 12 3 7
    degradeCore (refreshCore (clearArrays s n) n) n

/-- Retires a physical column; the fifth retires the array. -/
def retireColumn (s : State) (n p col : Nat) : State :=
  let cs := colsOf s n p
  if arrayRetired s n p || cs.contains col then s
  else if cs.length ≥ 4 then retireArray s n p
  else
    let new := (cs.filter (· < col)) ++ [col] ++ cs.filter (· > col)
    let w := (List.range 4).foldl (fun acc i => acc + nth 0xFF new i * 2 ^ (8 * i)) 0
    refreshCore (clearArrays (wr32 s (coreBase n 1 + 0x48 + 4 * p) w) n) n

/-- Does a partition map a page of a channel? -/
def mapsChan (s : State) (part st c : Nat) : Bool :=
  s.img.pages.any (fun (k, e) => k / 2 ^ 27 = part && pageStack (bits e 27 16) = st && (pagePlace s (bits e 27 16)).1 = c)

/-- Retires an HBM channel: relocated, or its pages become unavailable when the stack has relocated one before. -/
def retireChan (s : State) (st c : Nat) : State :=
  let a := hbmBase st + 0x40
  if chanRetired s st c then s
  else
    let s1 := arrive (wrBits s a c 1 1) (160 + 8 * st + 2) c
    if relocated s st then
      (List.range 8).foldl (fun s p => if mapsChan s p st c then stopPartition s p 0x0F43 else s) s1
    else wrBits (wrBits (wrBits s1 a 16 4 c) a 21 1 1) a 20 1 0

/-- The switch of a repair. -/
def applyRepair (s : State) (loc spare : Nat) : State :=
  match locKind loc with
  | 1 => retireColumn s (locCore loc) (locArray loc) (locLow loc)
  | 2 => retireArray s (locCore loc) (locArray loc)
  | 3 => s.setRep { s.rep with rows := SMap.set 0 s.rep.rows (locMacro loc * 8192 + locRow loc) (locRow spare) }
  | 4 => s.setRep { s.rep with lanes := SMap.modify [] s.rep.lanes (loc / 256) (· ++ [locLow loc]) }
  | 5 => retireChan s (locStack loc) (locChan loc)
  | 6 => s.setRep { s.rep with opticalDue := s.rep.opticalDue.erase loc, optical := s.rep.optical ++ [loc] }
  | 7 =>
    let s := wrBits s (repBase + 0x100 + 8 * locCore loc) 9 1 1
    if partOf s (locCore loc) < 8 then stopPartition s (partOf s (locCore loc)) 0x0F43 else s
  | _ => s

/-- Is a location already out of service? -/
def outOfService (s : State) (loc : Nat) : Bool :=
  match locKind loc with
  | 1 => arrayRetired s (locCore loc) (locArray loc) || (colsOf s (locCore loc) (locArray loc)).contains (locLow loc)
  | 2 => arrayRetired s (locCore loc) (locArray loc)
  | 3 => SMap.get 0 s.rep.rows (locMacro loc * 8192 + locRow loc) ≠ 0
  | 4 => (SMap.get [] s.rep.lanes (loc / 256)).contains (locLow loc)
  | 5 => chanRetired s (locStack loc) (locChan loc)
  | 6 => s.rep.optical.contains loc || s.rep.opticalDue.contains loc
  | 7 => coreRetired s (locCore loc)
  | _ => true

/-! ### Choosing spares (R431, R438, R442) -/

/-- No spare and no escalation. -/
inductive Choice where
  | take (loc spare : Nat)
  | none
  deriving DecidableEq, Repr

/-- Spare rows of a macro that carry a row, or that failed themselves. -/
def spareRowUsed (s : State) (m row : Nat) : Bool :=
  SMap.get 0 s.rep.rows (m * 8192 + row) ≠ 0 || s.rep.rows.any (fun x => x.1 / 8192 = m && x.2 = row) ||
  s.rep.pend.any (fun p => locKind p.loc = 3 && locMacro p.loc = m && locRow p.spare = row)

/-- The repair of a location: what is retired and the lowest-numbered free spare that takes over. -/
def chooseSpare (s : State) (loc : Nat) : Choice :=
  let n := locCore loc
  let arr (p : Nat) : Choice :=
    .take (arrayLoc n p) (if spareOf s n = 7 || spareOf s n = p then 0xFFFFFFFF else arrayLoc n (spareOf s n))
  match locKind loc with
  | 1 =>
    let used := (colsOf s n (locArray loc)).length
    if used ≥ 4 then arr (locArray loc) else .take loc (2 ^ 28 + n * 2 ^ 24 + locArray loc * 2 ^ 20 + (128 + used))
  | 2 => arr (locArray loc)
  | 3 =>
    match (range' 4096 64).find? (fun r => !spareRowUsed s (locMacro loc) r) with
    | some r => .take loc (3 * 2 ^ 28 + locMacro loc * 2 ^ 18 + r)
    | none => .none
  | 4 =>
    let l := SMap.get [] s.rep.lanes (loc / 256)
    if l.length ≥ 2 then .none else .take loc (loc / 256 * 256 + 32 + l.length)
  | 5 => .take loc 0xFFFFFFFF
  | 6 =>
    let grp := loc / 2 ^ 23
    let used := ((s.rep.optical ++ s.rep.opticalDue).filter (fun x => x / 2 ^ 23 = grp)).length
    if used ≥ 8 then .none else .take loc 0xFFFFFFFF
  | 7 => .take loc 0xFFFFFFFF
  | _ => .none

/-- Records a verdict with no spare. -/
def unrepairable (s : State) (loc : Nat) : State :=
  repairEvent (satCount64 (count64 s (repBase + 0x78) 1) (lfcBase + 0x1C0 + 8 * 7) 1) loc

/-- Forced-switch time from now (R442). -/
def deferUntil (s : State) : Nat := tb s + rdBits s (repBase + 0x50) 0 16 * 1000000

/-- Begins the repair of a location (R442 steps 1 to 3). -/
def engage (s : State) (loc origin events : Nat) : State :=
  if !locOk loc || outOfService s loc || s.rep.pend.any (fun p => p.loc = loc) then s
  else match chooseSpare s loc with
    | .none => unrepairable s loc
    | .take l sp =>
      if s.rep.pend.any (fun p => p.loc = l) then s
      else
        let dead := locKind l = 5 && relocated s (locStack l)
        let e : JEntry := { kind := if dead then 8 else locKind l, origin, loc := l, spare := sp, tb := tb s, events }
        let (s, seq) := jAdd s e
        let copy := locKind l = 3 || (locKind l = 5 && !dead)
        let s := if locKind l = 5 && !dead then wrBits s (hbmBase (locStack l) + 0x40) 20 1 1 else s
        let s := if locKind l = 6 then s.setRep { s.rep with opticalDue := s.rep.opticalDue ++ [l] } else s
        setPend s (s.rep.pend ++ [{ loc := l, spare := sp, seq, copying := copy, deadline := deferUntil s }])

/-- The switch is made: journal, counters and event (R442 steps 4 and 5). -/
def finishRepair (s : State) (p : RPend) : State :=
  let s := applyRepair s p.loc p.spare
  let s := setPend s (s.rep.pend.filter (fun x => x.seq ≠ p.seq))
  let s := s.setRep { s.rep with locs := s.rep.locs.filter (fun x => x.loc ≠ p.loc) }
  let s := count64 (jApply s p.seq) (repBase + 0x60) 1
  repairEvent (satCount64 s (lfcBase + 0x1C0 + 8 * (locKind p.loc - 1)) 1) p.loc

/-- Applies every journal entry after a reset, each as applied (R433, R448). -/
def replayJournal (s : State) : State :=
  let s := s.flash.journal.foldl (fun s e => applyRepair s e.loc e.spare) s
  s.setFlash { s.flash with journal := s.flash.journal.map (fun e => { e with applied := true }) }

/-! ### Window counting (R437 to R441) -/

/-- Class of a location, and its settings. -/
def repClass (loc : Nat) : Nat :=
  match locKind loc with
  | 3 => 0
  | 4 => 1
  | 5 => 2
  | 7 => 4
  | 6 => 5
  | _ => 3
def clsW (s : State) (c : Nat) : Nat := max 1 (rdBits s (repBase + 0x200 + 4 * c) 0 16) * 1000000000
def clsT (s : State) (c : Nat) : Nat := rdBits s (repBase + 0x200 + 4 * c) 16 8
def clsN (s : State) (c : Nat) : Nat := rdBits s (repBase + 0x200 + 4 * c) 24 4

/-- A tracked location as window `k` begins or goes on. -/
def rollWindow (x : RLoc) (k t : Nat) : RLoc :=
  if k ≤ x.win then x
  else if k = x.win + 1 && x.count ≥ t then { x with win := k, events := x.events + x.count, count := 0 }
  else { x with win := k, run := 0, events := 0, count := 0 }

/-- The entry whose last event is oldest goes (R440). -/
def evict (s : State) : State :=
  let old := s.rep.locs.foldl (fun m x => min m x.last) (2 ^ 64)
  match s.rep.locs.find? (fun x => x.last = old) with
  | none => s
  | some x => count64 (s.setRep { s.rep with locs := s.rep.locs.erase x }) (repBase + 0x68) 1

/-- Counts `n` events against a location; answers whether the verdict is lasting, and the events of its suspect windows. -/
def countOn (s : State) (loc n : Nat) : State × Bool × Nat :=
  let c := repClass loc
  let stamp := max (tb s) s.rep.floor
  let k := stamp / clsW s c
  let t := clsT s c
  let s := if s.rep.locs.any (fun x => x.loc = loc) then s
    else
      let s := if s.rep.locs.length ≥ 1024 then evict s else s
      s.setRep { s.rep with locs := s.rep.locs ++ [{ loc, win := k }] }
  match s.rep.locs.find? (fun x => x.loc = loc) with
  | none => (s, false, 0)
  | some x =>
    let y := rollWindow x k t
    let hit := decide (y.count < t ∧ t ≤ y.count + n)
    let y : RLoc := { y with count := y.count + n, run := if hit then y.run + 1 else y.run, last := stamp }
    (s.setRep { s.rep with locs := s.rep.locs.map (fun z => if z.loc = loc then y else z) },
      hit && decide (y.run ≥ clsN s c), y.events + y.count)

/-- A lasting verdict on a location: a lane without spares counts against its channel, arrays and cores are tested first, and
every other resource is repaired (R438, R439). -/
def lasting (s : State) (loc origin events : Nat) : State :=
  if locKind loc = 4 && (SMap.get [] s.rep.lanes (loc / 256)).length ≥ 2 && !outOfService s loc then
    let (s, v, e) := countOn s (chanLoc loc) (clsT s 2)
    if v then engage s (chanLoc loc) origin e else s
  else if origin = 2 && (locKind loc = 2 || locKind loc = 7) then
    if outOfService s loc || s.rep.tests.any (fun t => t.loc = loc) then s
    else s.setRep { s.rep with tests := s.rep.tests ++ [{ loc, targeted := true, deadline := deferUntil s }] }
  else engage s loc origin events

/-- A fault event of a location (R437, R438). An uncorrectable error lies on no lane: it counts against the channel. -/
def faultEventAt (s : State) (l : Nat) (ue : Bool) : State :=
  let loc := if ue && locKind l = 4 then chanLoc l else l
  let n := if ue && (repClass loc = 0 || repClass loc = 2) then clsT s (repClass loc) else 1
  let (s, v, e) := countOn s loc n
  if v then lasting s loc 2 e else s

/-- The effect of a step of the time base on the windows (R441). -/
def repStep (s : State) (old new : Nat) : State :=
  if new < old then s.setRep { s.rep with floor := max s.rep.floor old }
  else
    s.setRep { s.rep with locs := s.rep.locs.map (fun x =>
      let w := clsW s (repClass x.loc)
      let k0 := max old s.rep.floor / w
      let k1 := max new s.rep.floor / w
      if k1 > k0 then { x with win := x.win + (k1 - k0 - 1) } else x) }

/-! ### Idleness and forcing (R442, R443) -/

/-- Does a task use the resource of a location: it runs on the core, or its partition's stores or mappings hold the place? -/
def repairHits (s : State) (loc n : Nat) : Bool :=
  match locKind loc with
  | 3 => macroHome (locMacro loc) ≥ 8 || n = macroHome (locMacro loc)
  | 4 | 5 => mapsChan s (partOf s n) (locStack loc) (locChan loc)
  | _ => n = locCore loc

/-- No running task uses the resource. -/
def repairIdle (s : State) (loc : Nat) : Bool := !(runningTasks s).any (fun (n, _, _) => repairHits s loc n)

/-- Are switches held: a load in APPLYING, or a frozen schedule (R443)? -/
def switchHeld (s : State) : Bool := rdBits s (mgtBase + 0x408) 0 3 = 3 || rdBits s (shtBase + 0x58) 8 8 ≠ 0

/-- Aborts the tasks that use the resource, to be re-issued (R23, R442). -/
def forceIdle (s : State) (loc : Nat) : State :=
  abortWhere s 0x0301 (fun n _ _ => repairHits s loc n)

/-- May the repair controller act on the resource now: it is idle, or its deadline has passed? -/
def mayTake (s : State) (loc deadline : Nat) : Bool := repairIdle s loc || decide (deadline ≤ tb s)

/-- Places the spare array of a core in place of physical array `p`, which becomes the spare (R436, R439). -/
def swapSpare (s : State) (n p : Nat) : State :=
  let sp := spareOf s n
  if sp = 7 || sp = p || arrayRetired s n p then s
  else
    let s := (List.range 4).foldl (fun s i => if lmapOf s n i = p then wrBits s (coreBase n 1 + 0x44) (3 * i) 3 sp else s) s
    refreshCore (clearArrays (wrBits s (coreBase n 1 + 0x44) 12 3 p) n) n

/-! ### Commands -/

/-- RETIRE (R446): a lasting verdict with origin 4. A location already retired, or with no spare and no escalation, is
ignored. -/
def execRetire (loc : W32) (s : State) : Out := .next <|
  if !mgmtOn s || !locOk loc.toNat || outOfService s loc.toNat then s
  else if locKind loc.toNat = 4 then lasting s loc.toNat 4 0
  else if chooseSpare s loc.toNat = .none then s else engage s loc.toNat 4 0

/-- Aborts with `code` the tasks whose bank regions lie in an array that physical array `p` of core `n` serves, alone or in a gang
(R60, R64). -/
def arrayFault (s : State) (n p code : Nat) : State :=
  let hit (m c : Nat) (_ : Task) : Bool := m = n && (ctxOf s n c).regions.any (fun g =>
    (range' g.1 (gangArrays s n)).any (fun l => lmapOf s n l = p))
  if (runningTasks s).any (fun x => hit x.1 x.2.1 x.2.2) then abortWhere (raise s (coreBase n 1) code) code hit else s

/-- An uncorrectable error inside a core (R141, R164): in the vector unit, whose task it aborts, or in a row of a table bank, which
the next job that needs the row meets. Where it lies is a free value (log entry 3). -/
def coreFault (s : State) (n : Nat) : State :=
  let (i, s) := s.fresh
  let x := Config.freeNat i
  match x % 2, (vec s n).job with
  | 0, some j => vecFault s n j.ctx ⟨cVectorParity, 0⟩
  | 0, none => s
  | _, _ => setCore s n { core s n with rowBad := SMap.set false (core s n).rowBad (x / 2 % 2048) true }

/-- Any other event of a core: a verification mismatch, or a single-bit error in a table bank or a lane buffer, which ECC corrects and
which is counted (R164, R438). Which it is, is a free value (log entry 3). -/
def coreCorrected (s : State) (n : Nat) : State :=
  let (i, s) := s.fresh
  if Config.freeNat i % 2 = 0 then s
  else arrive (sticky (countCE s 0 1) (coreBase n 3) stickyCE) (16 + 16 * n + 6) 0

/-- FAULT_EVENT (R64, R141, R164, R276, R278, R435, R437): the error's effect, then the window count. An uncorrectable error of a memory
poisons a place; the access that meets it counts it and aborts its task. At an array, an uncorrectable error is a parity error of its
weights or banks, any other event a mismatch of its check column (log entry 107). -/
def execFaultEvent (loc : W32) (ue : Bool) (s : State) : Out := .next <|
  let l := loc.toNat
  if !mgmtOn s || !locOk l then s
  else
    let s := match locKind l with
      | 3 => if ue then
          let (i, s) := s.fresh
          s.setMem { s.mem with badWord := SMap.set false s.mem.badWord (errorWord s l (Config.freeNat i)) true }
        else
          let o := macroHome (locMacro l)
          let s := countCE s 0 1
          if o < 8 then arrive (sticky s (coreBase o 0) stickyCE) (16 + 16 * o + 6) 0 else s
      | 4 | 5 =>
        let b := hbmBase (locStack l)
        if ue then
          let (i, s) := s.fresh
          s.setMem { s.mem with badSector := SMap.set false s.mem.badSector (errorSector s l (Config.freeNat i)) true }
        else arrive (count64 (sticky (countCE s 1 1) b stickyCE) (b + 0xA8) 1) (160 + 8 * locStack l) (locChan l)
      | 2 => arrayFault s (locCore l) (locArray l) (if ue then cBankParity else cArrayCheck)
      | 7 => if ue then coreFault s (locCore l) else coreCorrected s (locCore l)
      | _ => s
    faultEventAt s l ue

/-- REPAIR_COPY_END (R442): the copy ends and the switch is awaited. -/
def execRepairCopyEnd (loc : W32) (s : State) : Out := .next <|
  match s.rep.pend.find? (fun p => p.loc = loc.toNat && p.copying) with
  | none => s
  | some p =>
    if !mgmtOn s then s
    else
      let s := if locKind p.loc = 5 then
          arrive (wrBits s (hbmBase (locStack p.loc) + 0x40) 20 1 0) (160 + 8 * locStack p.loc + 3) (locChan p.loc) else s
      setPend s (s.rep.pend.map (fun q => if q.seq = p.seq then { q with copying := false, deadline := deferUntil s } else q))

/-- REPAIR_SWITCH (R442, R443): the mapping switches once the resource is idle, or at the deadline with forced aborts. An
optical lane waits for its next training instead. -/
def execRepairSwitch (loc : W32) (s : State) : Out := .next <|
  match s.rep.pend.find? (fun p => p.loc = loc.toNat && !p.copying) with
  | none => s
  | some p =>
    if !mgmtOn s || locKind p.loc = 6 || switchHeld s || !mayTake s p.loc p.deadline then s
    else finishRepair (forceIdle s p.loc) p

/-- PERIODIC_TEST (R436, R438): once every PERIOD_S seconds; a failed test is lasting at once. -/
def execPeriodicTest (failed : List Nat) (s : State) : Out := .next <|
  let per := max 1 (rdBits s (repBase + 0x50) 16 16)
  let k := tb s / (per * 1000000000)
  if !mgmtOn s || k ≤ s.rep.tested then s
  else failed.foldl (fun s l => lasting s l 1 0) (s.setRep { s.rep with tested := k })

/-- ROTATION (R436): an idle core with a spare array maps it in place of the next active array, at most once in PERIOD_S
and not in APPLYING (R267). -/
def execRotation (n : Nat) (s : State) : Out := .next <|
  let per := max 1 (rdBits s (repBase + 0x50) 16 16) * 1000000000
  if !codecOn s || n ≥ 8 || coreRetired s n || partOf s n > 7 || spareOf s n = 7 || rdBits s (mgtBase + 0x408) 0 3 = 3 ||
     (runningTasks s).any (fun x => x.1 = n) || tb s < SMap.get 0 s.rep.rotTb n + per then s
  else
    let start := SMap.get 0 s.rep.rot n
    match (range' start 5).find? (fun i => (List.range 4).any (fun l => lmapOf s n l = i % 5)) with
    | none => s
    | some i =>
      let s := swapSpare s n (i % 5)
      s.setRep { s.rep with rot := SMap.set 0 s.rep.rot n ((i + 1) % 5), rotTb := SMap.set 0 s.rep.rotTb n (tb s),
                            tests := s.rep.tests ++ [{ loc := arrayLoc n (i % 5), targeted := false, deadline := 0 }] }

/-- TARGETED_TEST_END (R439): the test of an array or core ends; what it locates is repaired, or the counts are cleared. -/
def execTargetedTestEnd (loc : W32) (failed : List Nat) (s : State) : Out := .next <|
  match s.rep.tests.find? (fun t => t.loc = loc.toNat) with
  | none => s
  | some t =>
    if !mgmtOn s || switchHeld s || (t.targeted && !mayTake s t.loc t.deadline) then s
    else
      let s := if t.targeted then forceIdle s t.loc else s
      let s := if locKind t.loc = 2 then swapSpare s (locCore t.loc) (locArray t.loc) else s
      let s := s.setRep { s.rep with tests := s.rep.tests.erase t }
      if failed.isEmpty then
        if t.targeted then count64 (s.setRep { s.rep with locs := s.rep.locs.filter (fun x => x.loc ≠ t.loc) }) (repBase + 0x70) 1 else s
      else failed.foldl (fun s l => engage s l (if t.targeted then 3 else 1) 0) s

/-- BIST_END (R434): each failure is repaired at once, and BIST_DONE is set. -/
def execBistEnd (failed : List Nat) (s : State) : Out := .next <|
  if !mgmtOn s || bit (rd32 s (repBase + 0x40)) 0 then s
  else
    let s := failed.foldl (fun s l => engage s l 0 0) s
    let s := (s.rep.pend.filter (fun p => locKind p.loc ≠ 6)).foldl finishRepair s
    wrBits s (repBase + 0x40) 0 1 1

/-- Writes REP_CLASSc: every count and run of the class is cleared (R452). -/
def writeClass (s : State) (c v : Nat) : State :=
  let s := wr32 s (repBase + 0x200 + 4 * c) (bits v 0 28)
  s.setRep { s.rep with locs := s.rep.locs.filter (fun x => repClass x.loc ≠ c) }

/-- REP_CLASS_WRITE (R452). -/
def execRepClassWrite (cls : Nat) (value : W32) (s : State) : Out := .next <|
  if !mgmtOn s || cls > 5 then s else writeClass s cls value.toNat

end Sys2Proof.Machine
end

