-- ==== Sys2Proof/Machine/LoaderParse.lean ====
section
/-! DEFINITION. The Twirvo image as bytes: header, table of parts, decompression, sizes, digest and signature, with the loader
checks 0x0F01 to 0x0F0A that rest on them (R241 to R247, R262, R505). -/

namespace Sys2Proof.Machine

/-- Why a load fails: the code, and the two fields of MGT_LD_DETAIL (R262). -/
structure LdErr where
  code : Nat
  part : Nat := 0
  record : Nat := 0
  deriving DecidableEq, Repr

abbrev Chk (α : Type) := Except LdErr α

/-- Fails with a code when a condition does not hold. -/
def must (ok : Bool) (code : Nat) (part record : Nat := 0) : Chk Unit := if ok then .ok () else .error ⟨code, part, record⟩
/-- Checks every element of a list in order. -/
def mustAll {α : Type} : List α → (α → Chk Unit) → Chk Unit
  | [], _ => .ok ()
  | x :: xs, f => match f x with | .error e => .error e | .ok _ => mustAll xs f
/-- A list with its indices. -/
def indexed {α : Type} (xs : List α) : List (Nat × α) := (List.range xs.length).zip xs
/-- Every whole record of `n` bytes of a byte string. -/
def records (n : Nat) (bs : List Byte) : List (List Byte) := (List.range (bs.length / n)).map (fun i => (bs.drop (n * i)).take n)

/-- One entry of the table of parts (R243), with its stored bytes. -/
structure Sect where
  idx : Nat
  typ : Nat
  inst : Nat
  flags : Nat
  off : Nat
  size : Nat
  usize : Nat
  crc : Nat
  resv : Bool
  stored : List Byte
  deriving DecidableEq, Repr

def secDevice : Nat := 0x0001
def secPartition : Nat := 0x0002
def secCore : Nat := 0x0003
def secHbm : Nat := 0x0004
def secProgram : Nat := 0x0005
def secSchedule : Nat := 0x0006
def secDesc : Nat := 0x0007
def secMicro : Nat := 0x0008
def secBudgets : Nat := 0x0009
def secFabric : Nat := 0x000A
def secModel : Nat := 0x000B
def secTuning : Nat := 0x000C
def secNote : Nat := 0x00FE
def secSign : Nat := 0x00FF

/-- Entry `i` of the table of parts. -/
def sectAt (bs : List Byte) (i : Nat) : Sect :=
  let e := slice bs (256 + 48 * i) 48
  { idx := i, typ := leAt e 0 2, inst := leAt e 2 2, flags := leAt e 4 4, off := leAt e 8 8, size := leAt e 16 8,
    usize := leAt e 24 8, crc := leAt e 32 4, resv := allZero (e.drop 36),
    stored := (bs.drop (leAt e 8 8)).take (leAt e 16 8) }
/-- The table of parts. -/
def sectsOf (bs : List Byte) : List Sect := (List.range (leAt bs 28 4)).map (sectAt bs)
/-- Bytes after decompression (R243, R300); none when a block is malformed or the length is not USIZE. -/
def Sect.bytes (x : Sect) : Option (List Byte) :=
  if bit x.flags 0 then
    match unpackAll (x.stored.length + 1) x.stored with
    | none => none
    | some bs => if bs.length = x.usize then some bs else none
  else if x.size = x.usize then some x.stored else none
/-- The bytes of a checked entry. -/
def Sect.data (x : Sect) : List Byte := x.bytes.getD []

/-- An image: its bytes and its parts; the route sets and channels of its FABRIC, for a partial image those of the running one (R269). -/
structure Pimg where
  bs : List Byte
  sects : List Sect
  sets : List RouteSet := []
  chans : List FChan := []

def Pimg.scope (p : Pimg) : Nat := leAt p.bs 11 1
def Pimg.partId (p : Pimg) : Nat := leAt p.bs 12 1
def Pimg.find (p : Pimg) (t i : Nat) : Option Sect := p.sects.find? (fun x => x.typ = t && x.inst = i)
def Pimg.has (p : Pimg) (t i : Nat) : Bool := (p.find t i).isSome
/-- Contents of a part, empty when it is absent; its index in the table. -/
def Pimg.get (p : Pimg) (t i : Nat) : List Byte := match p.find t i with | some x => x.data | none => []
def Pimg.idx (p : Pimg) (t i : Nat) : Nat := match p.find t i with | some x => x.idx | none => 0
/-- Instances of a type that the image holds, ascending. -/
def Pimg.insts (p : Pimg) (t : Nat) : List Nat := (p.sects.filter (fun x => x.typ = t)).map (·.inst)

/-- The image as parsed from bytes. -/
def pimg (bs : List Byte) : Pimg := { bs := bs, sects := sectsOf bs }

/-! ### Header (R3, R242) -/

/-- 0x0F01: MAGIC, HDR_SIZE, IMAGE_SIZE, and what R242 fixes. -/
def headerCheck (bs : List Byte) : Chk Unit :=
  must (decide (256 ≤ bs.length) && decide (slice bs 0 4 = ascii "TWRV") && leAt bs 6 2 = 256 && leAt bs 16 8 = bs.length &&
    leAt bs 24 4 = 256 && allZero (slice bs 13 3) && allZero (slice bs 36 4) && allZero (slice bs 128 128) &&
    (allZero (slice bs 96 32) || (List.range (min 1024 (leAt bs 28 4))).any (fun i => (sectAt bs i).typ = secFabric)) &&
    leAt bs 11 1 ≤ 1 && (if leAt bs 11 1 = 0 then leAt bs 12 1 = 0 && allZero (slice bs 48 48) else leAt bs 12 1 < 8)) 0x0F01
/-- 0x0F02: ABI 2.0 (R3). -/
def abiCheck (bs : List Byte) : Chk Unit := must (leAt bs 4 1 = 2 && leAt bs 5 1 = 0) 0x0F02
/-- 0x0F03: PART and STEP_MIN. -/
def partCheck (bs : List Byte) : Chk Unit := must (leAt bs 8 2 = 0x4808 && decide (leAt bs 10 1 ≤ 0xA1)) 0x0F03

/-! ### Table of parts (R243, R244) -/

/-- May a part of this type and instance stand in an image of this scope? `cores` and `slots` are those of the partition that a
partial image replaces. -/
def sectAllowed (scope pid cores : Nat) (slots : Nat) (x : Sect) : Bool :=
  let part1 := scope = 0 || x.inst = pid
  let coreOk (c : Nat) := c < 8 && (scope = 0 || bit cores c)
  match x.typ with
  | 0x0001 => x.inst = 0 && scope = 0
  | 0x0002 => x.inst < 8 && part1
  | 0x0003 => coreOk x.inst
  | 0x0004 => x.inst < 8 && part1
  | 0x0005 => coreOk (x.inst % 256) && x.inst / 256 < 4
  | 0x0006 => coreOk (x.inst % 256) && x.inst / 256 < 4
  | 0x0007 => coreOk x.inst
  | 0x0008 => coreOk x.inst
  | 0x0009 => x.inst = 0
  | 0x000A => x.inst = 0 && scope = 0
  | 0x000B => x.inst < 256 && (scope = 0 || bit slots x.inst)
  | 0x000C => x.inst < 256 && (scope = 0 || bit slots x.inst)
  | 0x00FE => true
  | 0x00FF => x.inst = 0 && bit x.flags 0 = false
  | _ => false

/-- The slot mask of the partition that a partial image declares. -/
def Pimg.slotMask (p : Pimg) (q : Nat) : Nat := leAt (p.get secPartition q) 16 32

/-- Rules between neighbouring entries: (TYPE, INST) rises, OFFSET rises, nothing overlaps, the bytes between are 0. -/
def sectOrder (bs : List Byte) (last : Nat) : Option (Nat × Nat) → List Sect → Chk Unit
  | _, [] => .ok ()
  | prev, x :: xs =>
    let rises := match prev with | none => true | some (t, i) => decide (t < x.typ) || (t = x.typ && decide (i < x.inst))
    let ok := rises && decide (last ≤ x.off) && x.off % 4096 = 0 && allZero ((bs.drop last).take (x.off - last)) &&
      decide (x.off + x.size ≤ bs.length) && x.flags < 2 && x.resv
    if ok then sectOrder bs (x.off + x.size) (some (x.typ, x.inst)) xs else .error ⟨0x0F04, x.idx, 0⟩

/-- 0x0F04. -/
def tableCheck (cores : Nat) (p : Pimg) : Chk Unit := do
  let n := leAt p.bs 28 4
  must (decide (1 ≤ n) && decide (n ≤ 1024) && decide (256 + 48 * n ≤ p.bs.length)) 0x0F04
  sectOrder p.bs (256 + 48 * n) none p.sects
  must ((p.sects.getLast?.map (fun x => x.off + x.size)) = some p.bs.length) 0x0F04 (n - 1)
  mustAll p.sects (fun x => must (sectAllowed p.scope p.partId cores (p.slotMask p.partId) x) 0x0F04 x.idx)
  mustAll p.sects (fun x => must (x.typ ≠ secTuning || p.has secModel x.inst) 0x0F04 x.idx)
  mustAll p.sects (fun x => must (x.typ ≠ secSchedule || p.has secProgram x.inst) 0x0F04 x.idx)

/-- 0x0F05: CRC-32C of the stored bytes and decompression to USIZE; the SIGNATURE's CRC is 0 and unchecked. -/
def crcCheck (p : Pimg) : Chk Unit :=
  mustAll p.sects (fun x => must ((x.typ = secSign || (crc32c x.stored).toNat = x.crc) && x.bytes.isSome) 0x0F05 x.idx)

/-! ### Sizes (R259, R341, R505) -/

/-- Bytes of one epoch's codebook part: 32 bytes of E and the set (R208, R259). -/
def cbPartBytes (b : List Byte) (o : Nat) : Nat :=
  32 + 2 * leAt b 18 1 * ((List.range (leAt b 19 1)).map (fun i => leAt b (o + 2 * i) 2)).sum
/-- End of a MODEL part's last part, rounded up to 64 (R259, R505). -/
def modelEnd (b : List Byte) : Nat :=
  let tab := leAt b 40 8
  let cb := leAt b 48 8
  let eps := (if leAt b 20 2 = 0 then 0 else 1) + (if leAt b 22 2 = 0 then 0 else 1)
  let e := if leAt b 19 1 = 0 then tab + 262144 * eps
    else if eps = 2 then let o := cb + cbPartBytes b cb; o + cbPartBytes b o
    else if eps = 1 then cb + cbPartBytes b cb
    else cb
  (e + 63) / 64 * 64
/-- Runs of the 16 links of the route set at offset `o`. -/
def setRuns (b : List Byte) (o : Nat) : Nat := ((List.range 16).map (fun l => leAt b (o + 272 + 2 * l) 2)).sum
/-- Bytes of `n` route sets from offset `o`. -/
def setsBytes (b : List Byte) : Nat → Nat → Nat
  | 0, _ => 0
  | n + 1, o => let k := 304 + 16 * setRuns b o; k + setsBytes b n (o + k)

/-- Does a part have the size that R505 gives? -/
def sizeOk (p : Pimg) (x : Sect) : Bool :=
  let b := x.data
  let n := x.usize
  match x.typ with
  | 0x0001 => n = 64
  | 0x0002 => n = 64
  | 0x0003 => n = 64
  | 0x0004 => n % 8 = 0
  | 0x0005 => n % 16 = 0 && n ≤ 262144
  | 0x0006 => 48 ≤ n && n = 48 + 16 * leAt b 0 2 + 8 * leAt b 2 2
  | 0x0007 => !p.has secCore x.inst || n = 64 * leAt (p.get secCore x.inst) 12 4
  | 0x0008 => n % 8 = 0 && n ≤ 32768
  | 0x0009 => 8 ≤ n && n = 8 + 232 * leAt b 0 2
  | 0x000A => 128 ≤ n && n = 128 + setsBytes b (leAt b 3 1) 128 + 32 * leAt b 8 2
  | 0x000B => 64 ≤ n && n = modelEnd b
  | 0x000C => n = 256
  | 0x00FF => n = 3348
  | _ => true

/-- 0x0F17. -/
def sizeCheck (p : Pimg) : Chk Unit := mustAll p.sects (fun x => must (sizeOk p x) 0x0F17 x.idx)

/-! ### Digest, signature and rollback (R245 to R247) -/

/-- The unsigned form of an image (R245). -/
def unsignedForm (p : Pimg) : List Byte :=
  match p.find secSign 0 with
  | none => p.bs
  | some sg =>
    let n := leAt p.bs 28 4
    let e := match (p.sects.filter (fun x => x.typ ≠ secSign)).getLast? with
      | some x => x.off + x.size
      | none => 256 + 48 * n
    let b := p.bs.take e
    let b := b.take 16 ++ leBytes 8 e ++ slice b 24 4 ++ leBytes 4 (n - 1) ++ b.drop 32
    (b.take (256 + 48 * sg.idx) ++ List.replicate 48 0#8 ++ b.drop (304 + 48 * sg.idx)).take e
/-- The image digest. -/
def imageDigest (p : Pimg) : List Byte := sha3_384 (unsignedForm p)

/-- Is an owner record in force (R416)? -/
def owned (s : State) : Bool := s.owner ≠ []
/-- The enrolled owner keys. -/
def ownerKeys (s : State) : List (List Byte) :=
  if owned s then (List.range (min 4 (leAt s.owner 15 1))).map (fun i => slice s.owner (64 + 1952 * i) 1952) else []
/-- The enrolled owner key that a fingerprint names. -/
def ownerKey (s : State) (fp : List Byte) : Option (List Byte) := (ownerKeys s).find? (fun k => sha3_256 k = fp)
/-- IMG_SIG_POLICY, FW_SIG_POLICY and the minima (R416, R417). -/
def imgPolicy (s : State) : Nat := if owned s then leAt s.owner 12 1 else 0
def fwPolicy (s : State) : Nat := if owned s then leAt s.owner 13 1 else 1
def imgMinSvn (s : State) : Nat := if owned s then leAt s.owner 16 4 else s.flash.ownMin.1
def fwMinSvn (s : State) : Nat := if owned s then leAt s.owner 20 4 else s.flash.ownMin.2
/-- DRK_STATUS.ZEROISED (R426). -/
def zeroised (s : State) : Bool := bit (rd32 s (drkBase + 0x40)) 1

/-- 0x0F06: every part that R244 requires. `cores` are those of a partial image's partition. -/
def missingCheck (cores : Nat) (p : Pimg) : Chk Unit := do
  let req (t i : Nat) : Chk Unit := must (p.has t i) 0x0F06 0 (t * 65536 + i)
  let mine := if p.scope = 0 then List.range 8 else (List.range 8).filter (bit cores)
  if p.scope = 0 then req secDevice 0
  req secBudgets 0
  mustAll mine (req secCore)
  if p.scope = 1 then req secPartition p.partId
  mustAll (p.insts secPartition) (req secHbm)
  mustAll mine (fun n =>
    let c := p.get secCore n
    if leAt c 0 1 = 0xFF then .ok () else do
      req secPartition (leAt c 0 1)
      req secProgram n
      req secDesc n
      mustAll ((List.range 3).filter (bit (leAt c 3 1))) (fun v => req secProgram (n + 256 * (v + 1))))
  mustAll (p.insts secProgram) (req secSchedule)

/-- 0x0F07, 0x0F08, 0x0F09 and 0x0F0A (R246, R247); after zeroisation every signature check is refused (R426). -/
def signCheck (s : State) (p : Pimg) : Chk Unit := do
  must (imgPolicy s = 0 || p.has secSign 0) 0x0F07
  match p.find secSign 0 with
  | none => .ok ()
  | some sg =>
    let b := sg.data
    let fp := slice b 0 32
    must (!zeroised s) 0x0207 sg.idx
    let key := match ownerKey s fp with | some k => some k | none => Config.vendorKey fp
    must (leAt b 32 2 = 1 && allZero (slice b 34 2) && allZero (slice b 3345 3) && (match key with
      | none => false
      | some k => Config.mlDsaVerify k (imageDigest p) (ascii "TWIRVO-IMAGE-2") (slice b 36 3309))) 0x0F08 sg.idx
    must (imgPolicy s < 2 || (ownerKey s fp).isSome) 0x0F09 sg.idx
  must (decide (imgMinSvn s ≤ leAt p.bs 32 4)) 0x0F0A

end Sys2Proof.Machine
end

