-- ==== Sys2Proof/Machine/Darkroom.lean ====
section
/-! DEFINITION. The darkroom: stream keys, the owner record, tamper and the random source (R414 to R430). -/

namespace Sys2Proof.Machine

/-! ### Mailbox and result (R422, R429) -/

/-- The first `n` bytes of the mailbox. -/
def mbox (s : State) (n : Nat) : List Byte :=
  ((List.range ((n + 3) / 4)).flatMap (fun i => leBytes 4 (rd32 s (drkBase + 0x1000 + 4 * i)))).take n
/-- Clears the mailbox, and puts bytes at its start. -/
def mboxPut (s : State) (bs : List Byte) : State :=
  let s := s.setCtl (SMap.drop (fun a => drkBase + 0x1000 ≤ a && a < drkBase + 0x5000) s.ctl)
  (List.range ((bs.length + 3) / 4)).foldl (fun s i => wr32 s (drkBase + 0x1000 + 4 * i) (leAt bs (4 * i) 4)) s
/-- Ends a command with a result: the mailbox holds `out` alone; a refusal is a code that the block raises. -/
def drkDone (s : State) (code : Nat) (out : List Byte) : State :=
  let s := mboxPut (wrBits s (drkBase + 0x40) 16 16 code) out
  if code = 0 then s else raise s drkBase code
/-- Bytes from the random source (log entry 3), and the state after the request. -/
def random (s : State) (n : Nat) : List Byte × State :=
  let (i, s) := s.fresh
  (slice (Config.freeBytes i) 0 n, s.setDrk { s.drk with requests := s.drk.requests + 1 })

/-- Shows the number of installed keys. -/
def showSlots (s : State) : State := wr32 s (drkBase + 0x58) s.drk.keys.length
/-- The lowest free key slot. -/
def freeSlot (s : State) : Option Nat := (List.range 4096).find? (fun i => (SMap.get none s.drk.keys i).isNone)
/-- Installs a key into a slot with a new generation; DRK_RESULT holds its KEY_ID. -/
def putKey (s : State) (slot : Nat) (k : DKey) : State :=
  let g := (SMap.get 0 s.drk.gens slot + 1) % 2 ^ 20
  let s := s.setDrk { s.drk with keys := SMap.set none s.drk.keys slot (some k), gens := SMap.set 0 s.drk.gens slot g }
  showSlots (wr32 s (drkBase + 0x50) (g * 4096 + slot))

/-! ### Commands (R422, R425) -/

/-- INSTALL. -/
def drkInstall (s : State) : State :=
  let b := mbox s 1136
  if zeroised s then drkDone s 0x0207 []
  else if slice b 0 4 ≠ ascii "HKEY" || !allZero (slice b 5 3) then drkDone s 0x0206 []
  else match Config.kemUnwrap (slice b 8 1088) (slice b 1096 40) with
    | none => drkDone s 0x0206 []
    | some key => match freeSlot s with
      | none => drkDone s 0x0205 []
      | some i => drkDone (putKey s i { usage := leAt b 4 1 % 4, key := key }) 0 []
/-- SEAL: the blob stands in the mailbox. -/
def drkSeal (s : State) (slot : Nat) : State :=
  if zeroised s then drkDone s 0x0207 []
  else match SMap.get none s.drk.keys slot with
    | none => drkDone s 0x0202 []
    | some k =>
      let (iv, s) := random s 12
      drkDone s 0 (ascii "HSEL" ++ leBytes 1 k.usage ++ leBytes 3 0 ++ iv ++ slice (Config.gcmSeal Config.sealKey iv [] k.key) 0 48 ++ leBytes 8 0)
/-- UNSEAL. -/
def drkUnseal (s : State) : State :=
  let b := mbox s 76
  if zeroised s then drkDone s 0x0207 []
  else if slice b 0 4 ≠ ascii "HSEL" || !allZero (slice b 5 3) || !allZero (slice b 68 8) then drkDone s 0x0206 []
  else match Config.gcmOpen Config.sealKey (slice b 8 12) [] (slice b 20 48) with
    | none => drkDone s 0x0206 []
    | some key => match freeSlot s with
      | none => drkDone s 0x0205 []
      | some i => drkDone (putKey s i { usage := leAt b 4 1 % 4, key := key }) 0 []
/-- Does a valid entry, or one that is being invalidated, name the key in a slot? -/
def keyBusy (s : State) (slot : Nat) : Bool :=
  let id := SMap.get 0 s.drk.gens slot * 4096 + slot
  s.str.entries.any (fun x => (eValid x.2 || s.str.invalidating.contains x.1) && eProt x.2 && eKeyId x.2 = id)
/-- ERASE. -/
def drkErase (s : State) (slot : Nat) : State :=
  if zeroised s then drkDone s 0x0207 []
  else if (SMap.get none s.drk.keys slot).isNone then drkDone s 0x0202 []
  else if keyBusy s slot then drkDone s 0x0204 []
  else drkDone (showSlots (s.setDrk { s.drk with keys := SMap.set none s.drk.keys slot none })) 0 []

/-! ### The owner record (R416, R417) -/

/-- Keys of an owner record. -/
def recordKeys (b : List Byte) : List (List Byte) := (List.range (min 4 (leAt b 15 1))).map (fun i => slice b (64 + 1952 * i) 1952)
/-- Is an owner record well formed: MAGIC, N_KEYS, reserved fields, unused places? -/
def recordShape (b : List Byte) : Bool :=
  slice b 0 4 = ascii "HOWN" && leAt b 8 4 < 8 && leAt b 15 1 ≤ 4 && allZero (slice b 26 6) &&
  allZero (slice b (64 + 1952 * leAt b 15 1) (1952 * (4 - leAt b 15 1)))
/-- Why an owner record is refused; 0 when it is taken. -/
def ownerStatus (s : State) (b : List Byte) : Nat :=
  let fp := slice b 7872 32
  let keys := if owned s then ownerKeys s else recordKeys b
  match keys.find? (fun k => sha3_256 k = fp) with
  | none => 0x0208
  | some k =>
    if !recordShape b || !Config.mlDsaVerify k (b.take 7904) (ascii "HAREASOL-OWNER-1") (slice b 7904 3309) then 0x0208
    else if leAt b 4 4 ≤ s.flash.ownSeq && (owned s || s.flash.ownSeq ≠ 0) then 0x0209
    else if leAt b 16 4 < imgMinSvn s || leAt b 20 4 < fwMinSvn s || leAt b 13 1 = 0 || leAt b 13 1 > 2 || leAt b 12 1 > 2 || leAt b 14 1 > 2 then 0x020A
    else 0
/-- OWNER_UPDATE: a record without keys returns the device to unowned and keeps both minima. -/
def ownerUpdate (s : State) : State :=
  let b := mbox s 11213
  if zeroised s then drkDone s 0x0207 []
  else
    let st := ownerStatus s b
    if st ≠ 0 then drkDone s st []
    else
      let min := if leAt b 15 1 = 0 then (imgMinSvn s, fwMinSvn s) else (leAt b 16 4, leAt b 20 4)
      let s := { s.setFlash { s.flash with ownMin := min, ownSeq := leAt b 4 4 } with owner := if leAt b 15 1 = 0 then [] else b }
      drkDone (wrBits s (drkBase + 0x40) 2 1 (owned s).toNat) 0 []

/-- A write of DRK_CMD: ignored while BUSY (R428, R429). -/
def drkCommand (s : State) (v : Nat) : State :=
  if bit (rd32 s (drkBase + 0x40)) 3 then s
  else match bits v 0 4 with
    | 1 => drkInstall s
    | 2 => drkSeal s (bits v 16 12)
    | 3 => drkUnseal s
    | 4 => drkErase s (bits v 16 12)
    | 5 => ownerUpdate s
    | _ => s

/-- May a darkroom command run? -/
def drkOn (s : State) : Bool := mgmtOn s && !recovery s && !bit (rd32 s (drkBase + 0x40)) 3

def execInstall (s : State) : Out := .next <| if drkOn s then drkInstall s else s
def execSeal (slot : Nat) (s : State) : Out := .next <| if drkOn s && slot < 4096 then drkSeal s slot else s
def execUnseal (s : State) : Out := .next <| if drkOn s then drkUnseal s else s
def execErase (slot : Nat) (s : State) : Out := .next <| if drkOn s && slot < 4096 then drkErase s slot else s
def execOwnerUpdate (s : State) : Out := .next <| if drkOn s then ownerUpdate s else s

/-! ### Tamper (R426) -/

/-- Erases every stream key. -/
def eraseKeys (s : State) : State := showSlots (s.setDrk { s.drk with keys := [] })

/-- A sensor fires: 0 voltage, 1 clock, 2 temperature. -/
def tamper (s : State) (k : Nat) : State :=
  let s := eraseKeys s
  let s := (range' 1 8).foldl (fun s i => match session s i with
    | none => s
    | some x => setSession s i (some { x with authed := false, debug := 0, challenge := none })) s
  let s := orWord s (drkBase + 0x40) (2 + 2 ^ (4 + k))
  let s := arrive s 5 (rdBits s (drkBase + 0x40) 4 3)
  let s := satCount64 s (lfcBase + 0x360 + 8 * k) 1
  let s := abortWhere s 0x0207 (fun _ _ t => t.kind ≠ 2 && eProt t.snap)
  dropReady s 0x0207 (fun t => eProt t.snap)

/-- TAMPER_FIRE (R426). -/
def execTamperFire (k : Nat) (s : State) : Out := .next <| if mgmtOn s && k < 3 then tamper s k else s

/-! ### Random source and seed bank (R414) -/

/-- DRBG_RESEED: after 2^20 requests. -/
def execDrbgReseed (s : State) : Out := .next <|
  if mgmtOn s && decide (2 ^ 20 ≤ s.drk.requests) then s.setDrk { s.drk with requests := 0 } else s
/-- SEED_BANK_CLOSE: 100 µs after the release of RST_N the seed bank stops answering. -/
def execSeedBankClose (s : State) : Out := .next <| if mgmtOn s then s.setDrk { s.drk with seedOpen := false } else s

end Sys2Proof.Machine
end

