-- ==== Sys2Proof/Machine/Events.lean ====
section
/-! DEFINITION. The event controller: arrivals, arbitration, claim slots, moderation, delivery budgets and the fast trap
(R391 to R401, R410, R412). -/

namespace Sys2Proof.Machine

/-! ### Sources and their words (R392, R393) -/

/-- Is a source one that R392 names? -/
def sourceOk (s : Nat) : Bool :=
  (1 ≤ s && s ≤ 13) || (16 ≤ s && s < 144 && (s - 16) % 16 < 8) || (144 ≤ s && s < 148) || (160 ≤ s && s < 224 && (s - 160) % 8 < 4) ||
  (224 ≤ s && s < 234) || (240 ≤ s && s < 245) || (256 ≤ s && s < 298) || (512 ≤ s && s < 1024)

def pendBit (s : State) (i : Nat) : Bool := bit (rd32 s (evcBase + 0x100 + 4 * (i / 32))) (i % 32)
def maskBit (s : State) (i : Nat) : Bool := bit (rd32 s (evcBase + 0x280 + 4 * (i / 32))) (i % 32)
def activeBit (s : State) (i : Nat) : Bool := bit (rd32 s (evcBase + 0x400 + 4 * (i / 32))) (i % 32)
def setActive (s : State) (i : Nat) (b : Bool) : State := wrBits s (evcBase + 0x400 + 4 * (i / 32)) (i % 32) 1 b.toNat
def setPendBit (s : State) (i : Nat) (b : Bool) : State := wrBits s (evcBase + 0x100 + 4 * (i / 32)) (i % 32) 1 b.toNat
def evPrio (s : State) (i : Nat) : Nat := rdBits s (evcBase + 0x2000 + 4 * i) 0 3
def evFast (s : State) (i : Nat) : Bool := bit (rd32 s (evcBase + 0x2000 + 4 * i)) 3
def evTarget (s : State) (i : Nat) : Nat := rdBits s (evcBase + 0x2000 + 4 * i) 4 2
def evExempt (s : State) (i : Nat) : Bool := bit (rd32 s (evcBase + 0x2000 + 4 * i)) 6
/-- PEND = 1, MASK = 0 and ACTIVE = 0 (R394). -/
def eligible (s : State) (i : Nat) : Bool := pendBit s i && !maskBit s i && !activeBit s i

/-- Claim slot of processor `p`: the word of EVC_CLAIMp or EVC_FCLAIMp with COUNT 0. -/
def slotAddr (p : Nat) (fast : Bool) : Nat := evcBase + 0x800 + 64 * p + (if fast then 4 else 0)
def slotSource (s : State) (p : Nat) (fast : Bool) : Option Nat :=
  let w := rd32 s (slotAddr p fast)
  if bit w 31 then some (bits w 0 10) else none
def setSlot (s : State) (p : Nat) (fast : Bool) (x : Option Nat) : State :=
  wr32 s (slotAddr p fast) (match x with | some i => i + 2 ^ 31 | none => 0)
def lineAddr (p : Nat) : Nat := evcBase + 0x828 + 64 * p

/-! ### Processors (R391, R412) -/

def cpu (s : State) (p : Nat) : Cpu := SMap.get {} s.mgt.cpus p
def setCpu (s : State) (p : Nat) (x : Cpu) : State := s.setMgt { s.mgt with cpus := SMap.set {} s.mgt.cpus p x }
def cpuAddr (p : Nat) : Nat := mgtBase + 0x500 + 8 * p
def inFast (s : State) (p : Nat) : Bool := bit (rd32 s (cpuAddr p)) 2
def cpuRuns (s : State) (p : Nat) : Bool := bit (rd32 s (cpuAddr p)) 0

/-- Shows a processor's WFI state in MGT_CPUp and EVC_LINEp. -/
def setWfi (s : State) (p : Nat) (b : Bool) : State := wrBits (wrBits s (cpuAddr p) 1 1 b.toNat) (lineAddr p) 2 1 b.toNat

/-- The trap of R391, when the fast slot is occupied and the processor runs outside a fast handler. -/
def fastTrap (s : State) (p : Nat) : State :=
  if inFast s p || !cpuRuns s p || (cpu s p).halted || (slotSource s p true).isNone then s
  else
    let x := cpu s p
    let s := setCpu s p { x with fepc := x.pc, fprv := x.prv, fmie := x.mie, prv := 3, pc := x.ftvec, fastTraps := x.fastTraps + 1 }
    setWfi (wrBits s (cpuAddr p) 2 1 1) p false

/-! ### Arbitration and moderation (R394, R396, R397) -/

/-- Does source `i` rank above `j`: higher priority, or the same and a lower number? -/
def outranks (s : State) (i j : Nat) : Bool := decide (evPrio s i > evPrio s j) || (evPrio s i = evPrio s j && decide (i < j))

/-- Eligible sources of a processor and class. -/
def contenders (s : State) (p : Nat) (fast : Bool) : List Nat :=
  (List.range 1024).filter (fun i => eligible s i && evFast s i = fast && evTarget s i = p)

/-- The winner among contenders. -/
def winner (s : State) : List Nat → Option Nat
  | [] => none
  | i :: r => match winner s r with
    | none => some i
    | some j => if outranks s j i then some j else some i

/-- Claims left in the period. -/
def remain (s : State) (p : Nat) : Nat := rd32 s (evcBase + 0x814 + 64 * p)

/-- Records a period in which deliveries to `p` were withheld, once. -/
def withhold (s : State) (p : Nat) : State :=
  if SMap.get 0 s.mgt.withheld p = period s + 1 then s
  else
    let s := s.setMgt { s.mgt with withheld := SMap.set 0 s.mgt.withheld p (period s + 1) }
    satCount64 (count64 (sticky s evcBase stickyTHR) (evcBase + 0x818 + 64 * p) 1) (lfcBase + 0x300 + 8 * 4) 1

/-- Eligible normal sources of a processor, the slot included (R396). -/
def waiting (s : State) (p : Nat) : Nat :=
  let c := contenders s p false
  match slotSource s p false with
  | some j => if c.contains j then c.length else c.length + 1
  | none => c.length

/-- Raises the normal line, or starts the moderation timer, for a slot that is occupied. -/
def moderate (s : State) (p : Nat) (filled : Bool) : State :=
  let coal := rd32 s (evcBase + 0x80C + 64 * p)
  if (slotSource s p false).isNone || bit (rd32 s (lineAddr p)) 0 then s
  else if bits coal 0 16 = 0 || bit (rd32 s (lineAddr p)) 2 ||
      (bits coal 16 8 ≠ 0 && decide (waiting s p ≥ bits coal 16 8)) then
    wrBits (s.setMgt { s.mgt with coal := SMap.set false s.mgt.coal p false }) (lineAddr p) 0 1 1
  else if filled then s.setMgt { s.mgt with coal := SMap.set false s.mgt.coal p true }
  else s

/-- An arbitration winner enters the claim slot of a processor and class, if the slot is empty or holds a lower-ranked
source; without budget only an exempt source does. -/
def fillClaim (s : State) (p : Nat) (fast : Bool) : State :=
  let c := contenders s p fast
  let ok := c.filter (fun i => evExempt s i || remain s p ≠ 0)
  let s := if (c.filter (fun i => slotSource s p fast ≠ some i && !ok.contains i)).isEmpty then s else withhold s p
  match winner s ok with
  | none => s
  | some i =>
    let enter := match slotSource s p fast with
      | none => true
      | some j => outranks s i j
    if !enter then s
    else
      let was := (slotSource s p fast).isSome
      let s := setSlot s p fast (some i)
      if fast then wrBits s (lineAddr p) 1 1 1 else moderate s p (!was)

/-- CLAIM_SLOT_FILL (R394): winners enter the claim slots, lines rise, and a fast line takes its trap. -/
def execClaimSlotFill (s : State) : Out := .next <|
  if !mgmtOn s || recovery s then s
  else (List.range 4).foldl (fun s p => fastTrap (moderate (fillClaim (fillClaim s p true) p false) p false) p) s

/-! ### Commands of processors -/

/-- EVENT_ARRIVAL (R392, R393): a named source arrives; a reserved one never does. -/
def execEventArrival (src : Nat) (info : W32) (s : State) : Out := .next <|
  if mgmtOn s && sourceOk src then arrive s src info.toNat else s

/-- FAST_MRET (R391): pc, mode and MIE return from the fast CSRs and bank 0 is back. -/
def execFastMret (p : Nat) (s : State) : Out := .next <|
  if p ≥ 4 || !mgmtOn s || !cpuRuns s p || !inFast s p then s
  else
    let x := cpu s p
    fastTrap (wrBits (setCpu s p { x with pc := x.fepc, prv := x.fprv, mie := x.fmie }) (cpuAddr p) 2 1 0) p

/-- WFI (R396): the processor halts; a normal slot that waits for its timer raises the line. -/
def execWfi (p : Nat) (s : State) : Out := .next <|
  if p ≥ 4 || !mgmtOn s || !cpuRuns s p || (cpu s p).halted then s else moderate (setWfi s p true) p false

/-- COAL_TIMER (R396): the timer has reached 16 × TIME. -/
def execCoalTimer (p : Nat) (s : State) : Out := .next <|
  if p ≥ 4 || !mgmtOn s || !SMap.get false s.mgt.coal p then s
  else wrBits (s.setMgt { s.mgt with coal := SMap.set false s.mgt.coal p false }) (lineAddr p) 0 1 1

/-- A read of a claim register: the value, and the state after it (R395). -/
def claim (s : State) (p : Nat) (fast : Bool) : Nat × State :=
  match slotSource s p fast with
  | none => (0, s)
  | some i =>
    let cnt := rdBits s (evcBase + 0x3000 + 4 * i) 0 8
    let s := setPendBit (setActive (setSlot s p fast none) i true) i false
    let s := wrBits s (evcBase + 0x3000 + 4 * i) 0 8 0
    let s := wrBits s (lineAddr p) (if fast then 1 else 0) 1 0
    let s := if fast then s else s.setMgt { s.mgt with coal := SMap.set false s.mgt.coal p false }
    let s := if evExempt s i then s else wr32 s (evcBase + 0x814 + 64 * p) (remain s p - 1)
    (i + cnt * 2 ^ 16 + 2 ^ 31, setCpu s p { cpu s p with claimed := (cpu s p).claimed ++ [i] })

/-- A processor's claim: firmware forwards device events to the open HCP sessions (R401). -/
def claimBy (s : State) (p : Nat) (fast : Bool) : State :=
  if p ≥ 4 || !mgmtOn s || !cpuRuns s p then s
  else
    let s := setWfi s p false
    let (v, s) := claim s p fast
    let i := bits v 0 10
    if v = 0 || i ≥ 512 then s else deviceEvent s i (bits v 16 8) p (rd32 s (evcBase + 0x4000 + 4 * i))

/-- EVC_CLAIM (R395). -/
def execEvcClaim (p : Nat) (s : State) : Out := .next (claimBy s p false)
/-- EVC_FCLAIM (R395). -/
def execEvcFclaim (p : Nat) (s : State) : Out := .next (claimBy s p true)

/-- A write of EVC_COMPLETEp: ACTIVE clears, or the write is counted as bad (R395). -/
def complete (s : State) (p v : Nat) : State :=
  let i := bits v 0 10
  if activeBit s i && evTarget s i = p then
    setCpu (setActive s i false) p { cpu s p with claimed := (cpu s p).claimed.erase i }
  else count64 s (evcBase + 0x820 + 64 * p) 1
/-- EVC_COMPLETE (R395). -/
def execEvcComplete (p : Nat) (value : W32) (s : State) : Out := .next <|
  if p ≥ 4 || !mgmtOn s then s else complete s p value.toNat

/-- EVC_PENDSETw, EVC_PENDCLRw, EVC_MASKSETw, EVC_MASKCLRw change the bits written as 1 of their word (R398, R399). -/
def pendSet (s : State) (w v : Nat) : State := orWord s (evcBase + 0x100 + 4 * w) v
def pendClr (s : State) (w v : Nat) : State := wr32 s (evcBase + 0x100 + 4 * w) (rd32 s (evcBase + 0x100 + 4 * w) &&& (v ^^^ (2 ^ 32 - 1)))
def maskSet (s : State) (w v : Nat) : State := orWord s (evcBase + 0x280 + 4 * w) v
def maskClr (s : State) (w v : Nat) : State := wr32 s (evcBase + 0x280 + 4 * w) (rd32 s (evcBase + 0x280 + 4 * w) &&& (v ^^^ (2 ^ 32 - 1)))

/-- EVC_PENDSET (R398). -/
def execEvcPendset (w : Nat) (v : W32) (s : State) : Out := .next <| if !mgmtOn s || w ≥ 32 then s else pendSet s w v.toNat
/-- EVC_PENDCLR (R398). -/
def execEvcPendclr (w : Nat) (v : W32) (s : State) : Out := .next <| if !mgmtOn s || w ≥ 32 then s else pendClr s w v.toNat
/-- EVC_MASKSET (R398). -/
def execEvcMaskset (w : Nat) (v : W32) (s : State) : Out := .next <| if !mgmtOn s || w ≥ 32 then s else maskSet s w v.toNat
/-- EVC_MASKCLR (R399). -/
def execEvcMaskclr (w : Nat) (v : W32) (s : State) : Out := .next <| if !mgmtOn s || w ≥ 32 then s else maskClr s w v.toNat

/-- A write of EVC_CFGs: ignored while the source is unmasked, active or in a claim slot; EXEMPT, and CLASS and TARGET of
sources 1–4, are fixed (R400, R410). -/
def cfgWrite (s : State) (i v : Nat) : State :=
  let a := evcBase + 0x2000 + 4 * i
  let slots := (List.range 4).any (fun p => slotSource s p false = some i || slotSource s p true = some i)
  if !maskBit s i || activeBit s i || slots then s
  else if 1 ≤ i && i ≤ 4 then wrBits s a 0 3 v else wrBits s a 0 6 v
/-- EVC_CFG_WRITE (R400). -/
def execEvcCfgWrite (i : Nat) (v : W32) (s : State) : Out := .next <| if !mgmtOn s || i ≥ 1024 then s else cfgWrite s i v.toNat

/-- A write of EVC_SWSET: a software source arrives with EVC_SWINFO (R392, R410). -/
def swSet (s : State) (v : Nat) : State := if bits v 0 10 < 512 then s else arrive s (bits v 0 10) (rd32 s (evcBase + 0x904))
/-- EVC_SWSET (R392). -/
def execEvcSwset (v : W32) (s : State) : Out := .next <| if mgmtOn s then swSet s v.toNat else s

/-- A write of LIMIT: 0 is ignored; REMAIN follows at the next boundary (R397, R400). -/
def budWrite (s : State) (p v : Nat) : State := if v = 0 then s else wr32 s (evcBase + 0x810 + 64 * p) v
/-- EVC_BUD_WRITE (R397). -/
def execEvcBudWrite (p : Nat) (v : W32) (s : State) : Out := .next <| if !mgmtOn s || p ≥ 4 then s else budWrite s p v.toNat

end Sys2Proof.Machine
end

