-- ==== Sys2Proof/Machine/Lifetime.lean ====
section
/-! DEFINITION. The lifetime records and their copies in flash (R450, R451, R454). -/

namespace Sys2Proof.Machine

/-- Does a control-space word belong to the records that flash keeps: offsets 0x100 to 0x1FFF? -/
def lifeWord (a : Nat) : Bool := lfcBase + 0x100 ≤ a && a < lfcBase + 0x2000

/-- A write of the records to flash begins (R451). -/
def startFlush (s : State) : State := wrBits s (lfcBase + 0x40) 0 1 1

/-- The copy with the higher SEQ comes first; a write overwrites the older copy. -/
def writeCopy (s : State) : State :=
  let seq := (s.flash.life.head?.map (·.1)).getD 0 + 1
  let words := s.ctl.filter (fun x => lifeWord x.1)
  let s := s.setFlash { s.flash with life := (seq, words) :: s.flash.life.take 1 }
  wr64 (wrBits (wrBits s (lfcBase + 0x40) 0 1 0) (lfcBase + 0x58) 0 32 seq) (lfcBase + 0x50) (tb s)

/-- Boot restores the copy with the higher SEQ, or zeros (R451, R454). -/
def restoreLife (s : State) : State :=
  let s := s.setCtl (SMap.drop lifeWord s.ctl)
  match s.flash.life with
  | [] => s
  | (seq, words) :: _ =>
    wrBits (words.foldl (fun s x => wr32 s x.1 x.2.toNat) s) (lfcBase + 0x58) 0 32 seq

/-- FLUSH_TIMER (R451): every 600 s of the reference the records are written. -/
def execFlushTimer (s : State) : Out := .next <| if mgmtOn s then startFlush s else s

/-- FLUSH (R451): a write of LFC_CMD.FLUSH. -/
def execFlush (s : State) : Out := .next <| if mgmtOn s then startFlush s else s

/-- FLUSH_DONE (R451): the copy stands, FLUSHING clears and source 11 arrives. -/
def execFlushDone (s : State) : Out := .next <|
  if mgmtOn s && bit (rd32 s (lfcBase + 0x40)) 0 then arrive (writeCopy s) 11 0 else s

/-- Temperature bin of a reading in quarters of a degree. -/
def tempBin (t : Int) : Nat := if t < 0 then 0 else min (t.toNat / 20 + 1) 26
/-- Voltage bin of a rail's reading in units of 1/10,000 of its nominal. -/
def voltBin (v : Nat) : Nat := if v < 9500 then 0 else min ((v - 9500) / 50 + 1) 21

/-- RECORD_SAMPLE (R450): once per second the second counts of the power state, the bin of the hottest junction sensor (in
quarters of a degree) and the bin of every rail (in 1/10,000 of its nominal). -/
def execRecordSample (temp : Int) (volts : List Nat) (s : State) : Out := .next <|
  if !mgmtOn s then s
  else
    let s := satCount64 s (lfcBase + (if s.pow.st = .standby then 0x108 else 0x110)) 1
    let s := satCount64 s (lfcBase + 0x800 + 8 * tempBin temp) 1
    ((List.range 16).zip volts).foldl (fun s x => satCount64 s (lfcBase + 0x1000 + 0xB0 * x.1 + 8 * voltBin x.2) 1) s

end Sys2Proof.Machine
end

