-- ==== Sys2Proof/Machine/Entropy.lean ====
section
/-! DEFINITION. The entropy engine: rANS coding, ENT_ENCODE, ENT_DECODE, table loads with their codebooks, and the reports to
the rate controller (R143 to R165, R188, R206 to R209). -/

namespace Sys2Proof.Machine

/-! ### Coding steps (R144, R145) -/

/-- A coding step: cumulative start and frequency. -/
structure RStep where
  c : Nat
  f : Nat
  deriving DecidableEq, Repr

/-- One encode step: new state, words emitted so far with the latest first. -/
def encStep (st : Nat × List Nat) (p : RStep) : Nat × List Nat :=
  let (x, out) := if st.1 ≥ p.f * 2 ^ 16 then (st.1 / 2 ^ 16, st.1 % 2 ^ 16 :: st.2) else st
  ((x / p.f) * 2 ^ 16 + x % p.f + p.c, out)

/-- The substream of a lane: its steps from the last to the first, then the final state before the words in reverse (R145). -/
def encLane (steps : List RStep) : List Nat :=
  if steps = [] then []
  else
    let (x, out) := steps.reverse.foldl encStep (0x10000, [])
    x / 2 ^ 16 % 2 ^ 16 :: x % 2 ^ 16 :: out

/-- One decode step: state and remaining words; none when the lane is exhausted (R144). -/
def decStep (x : Nat) (ws : List Nat) (p : RStep) : Option (Nat × List Nat) :=
  let y := p.f * (x / 2 ^ 16) + x % 2 ^ 16 - p.c
  if y < 0x10000 then
    match ws with
    | [] => none
    | w :: ws => some (y % 2 ^ 16 * 2 ^ 16 + w, ws)
  else some (y, ws)

/-! ### Parameters and rows (R147 to R150) -/

def pMu (p : Nat) : Int := toSigned 19 (bits p 0 19)
def pMean (p : Nat) : Int := pMu p / 8
def pSidx (p : Nat) : Nat := bits p 19 7
def pDirect (p : Nat) : Bool := bit p 26
/-- Table row of a parameter word. -/
def pRow (tset p : Nat) : Nat := tset + pSidx p * 8 + (if pDirect p then 0 else bits p 0 3)

/-- Cumulative start of symbol `u` in a row of a bank; `c[128] = 65,536`. -/
def rowStart (k : Core) (b row u : Nat) : Nat :=
  if u ≥ 128 then 65536
  else (SMap.get 0 k.table (b * 262144 + row * 256 + 2 * u)).toNat + 256 * (SMap.get 0 k.table (b * 262144 + row * 256 + 2 * u + 1)).toNat
/-- Step of symbol `u`. -/
def rowStep (k : Core) (b row u : Nat) : RStep := ⟨rowStart k b row u, rowStart k b row (u + 1) - rowStart k b row u⟩
/-- Is a row valid (R148)? -/
def rowValid (k : Core) (b row : Nat) : Bool :=
  rowStart k b row 0 = 0 && (List.range 127).all (fun u => rowStart k b row u < rowStart k b row (u + 1))
/-- The largest symbol whose start is at most the slot (R150). -/
def symbolOf (k : Core) (b row slot : Nat) : Nat := ((List.range 128).filter (fun u => rowStart k b row u ≤ slot)).foldl max 0

/-- Format code of a job's symbols (R159). -/
def symFmt (f : Nat) : Nat := if f = 0 then 2 else if f = 1 then 4 else 5

/-- Steps of a value in decode order, or none when it is outside its range (R149 to R151). DESIGN CHOICE, log entry 119: a Gaussian-class
parameter in a UINT16 job and a direct symbol in an INT8 or INT16 job are coded as any other; R151 names no outcome. -/
def planValue (k : Core) (b row : Nat) (par : Nat) (q : Int) : Option (List RStep) :=
  if pDirect par then
    if 0 ≤ q ∧ q ≤ 127 then some [rowStep k b row q.toNat] else none
  else
    let u := q - pMean par + 63
    if 0 ≤ u ∧ u ≤ 126 then some [rowStep k b row u.toNat]
    else if q < -32768 ∨ q > 32767 then none
    else
      let v := (q + 32768).toNat
      some [rowStep k b row 127, ⟨v / 256 * 256, 256⟩, ⟨v % 256 * 256, 256⟩]

/-! ### The ENT instruction (R159, R160) -/

def nKind (w : W128) : Nat := bits w.toNat 8 2
def nLanes (w : W128) : Nat := bits w.toNat 10 6 + 1
def nSym (w : W128) : Nat := bits w.toNat 16 16
def nPar (w : W128) : Nat := bits w.toNat 32 16
def nLb (w : W128) : Nat := bits w.toNat 48 16
def nCount (w : W128) : Nat := bits w.toNat 64 20 + 1
def nTset (w : W128) : Nat := bits w.toNat 84 10
def nFmt (w : W128) : Nat := bits w.toNat 94 2
def nEpoch (w : W128) : Nat := bits w.toNat 96 16
def nSlot (w : W128) : Nat := bits w.toNat 112 8
def nReport (w : W128) : Bool := bit w.toNat 120

/-- An abort with the lane or row that it concerns. -/
structure EntAbort where
  a : Abort
  pos : Nat := 0

/-- Records an entropy abort in ENT_FAULT, raises it and aborts the task (R164, R165, R392). DESIGN CHOICE, log entry 119: WHERE holds a row
modulo 1,024, the lane of a symbol-range fault, the row of a table-ECC fault, and 0 for any other. -/
def entFault (s : State) (n c : Nat) (e : EntAbort) : State :=
  let s := wr32 s (coreBase n 3 + 0xD0) (e.a.code + e.pos % 1024 * 2 ^ 16 + c * 2 ^ 26 + 2 ^ 31)
  let s := arrive (raise s (coreBase n 3) e.a.code) (16 + 16 * n + 3) (e.a.code + c * 2 ^ 16)
  unitAbort s n c e.a

/-- Does context `c` hold an open rate slot, and where does the slot lie (R186, R196)? -/
def slotOpen (s : State) (n c : Nat) : Bool := bit (rd32 s (coreBase n 5 + 0x40)) c
def rateSlot (s : State) (n c : Nat) : Nat := (coreCfg s n).rateBase + 64 * c
/-- Address of the task record of a context (R500). -/
def taskRecord (s : State) (n c : Nat) : Nat := (coreCfg s n).taskBase + 64 * c

/-- A field of the open rate slot of a context, 0 without one; reading it may meet an uncorrectable error (R276). -/
def slotField (s : State) (n c o len : Nat) : Except Abort Nat :=
  if slotOpen s n c then (storeRead s n (rateSlot s n c + o) len).map leNat else .ok 0

/-- Writes an epoch into EPOCH of the open rate slot and of the task record of a context (R155). -/
def putEpoch (s : State) (n c e : Nat) : Except Abort State := do
  let s ← if slotOpen s n c then storeWrite s n (rateSlot s n c + 44) (leBytes 2 e) else .ok s
  storeWrite s n (taskRecord s n c + 22) (leBytes 2 e)

/-- Fixes the epoch of an encode task at its first encode job (R155). -/
def fixEpoch (s : State) (n c : Nat) (t : Task) : Except Abort State :=
  if t.epoch ≠ 0 then .ok s
  else do
    let slotEpoch ← slotField s n c 44 2
    let m := eMslot t.snap
    let mine := [0, 1].filter (fun b => bankValid s n b && bankSlot s n b = m)
    let own := match mine.find? (fun b => bankNewest s n b), mine with
      | some b, _ => bankEpoch s n b
      | none, b :: _ => bankEpoch s n b
      | none, [] => 0
    let e := if slotEpoch ≠ 0 then slotEpoch else own
    if e = 0 then return s
    else return updTask (← putEpoch s n c e) n c (fun t => { t with epoch := e })

/-- The bank that a job codes against; the task takes its reference with its first job (R155, R156): when the engine begins that job, not when
it joins the queue (DESIGN CHOICE, log entry 106). -/
def jobBank (s : State) (n c : Nat) : Except EntAbort (State × Nat) :=
  match taskOf s n c with
  | none => .error ⟨⟨cEpochMissing, 0⟩, 0⟩
  | some t =>
    match (if t.kind = 2 || t.epoch = 0 then none else findBank s n (eMslot t.snap) t.epoch) with
    | none => .error ⟨⟨cEpochMissing, 0⟩, 0⟩
    | some b =>
      if t.bank.isSome then .ok (s, b)
      else .ok (updTask (wrBits s (bankReg n b + 4) 0 4 (bankRefs s n b + 1)) n c (fun t => { t with bank := some b }), b)

/-- Checks a value's row: beyond the rows loaded, or found uncorrectable. -/
def checkRow (s : State) (n b row : Nat) : Except EntAbort Unit :=
  if row ≥ bankRows s n b then .error ⟨⟨cRowInvalid, 0⟩, row⟩
  else if SMap.get false (core s n).rowBad (b * 1024 + row) then .error ⟨⟨cTableEcc, 0⟩, row⟩
  else .ok ()

/-- Elements of a walk, with an address fault as an engine abort. -/
def entElem (s : State) (n d fmt i : Nat) : Except EntAbort Nat :=
  match readElem s n d fmt i with
  | .ok (raw, _) => .ok raw
  | .error a => .error ⟨a, 0⟩
def entDesc (s : State) (n i : Nat) : Except EntAbort Nat := (descOf s n i).mapError (fun a => ⟨a, 0⟩)

/-- An uncorrectable row leaves its bank empty (R164). -/
def bankFault (s : State) (n : Nat) (b : Nat) (e : EntAbort) : State := if e.a.code = cTableEcc then emptyBank s n b else s

/-- Steps that a job performed, and how many of its values escaped: they are counted and charged whether or not the job ends well
(R162, R165). -/
def entSteps (s : State) (n c steps esc : Nat) : State :=
  count64 (count64 (charge s (ctxActivity s n c) (8 + n) steps) (coreBase n 3 + 0xA0) steps) (coreBase n 3 + 0xB0) esc

/-- Words of a job that is complete (R165), and the cursors of its walks (R503). -/
def entDone (s : State) (n words : Nat) (w : W128) : State :=
  let s := count64 s (coreBase n 3 + 0xA8) words
  advElems (advElems s n (nSym w) (nCount w)) n (nPar w) (nCount w)

/-- ENT_STATUS of a job: BUSY, KIND, CTX, LANES. DESIGN CHOICE, log entry 119: after a job's end KIND, CTX and LANES keep its values, and a table
load shows its LANES_M1 + 1. -/
def setEntStatus (s : State) (n c : Nat) (w : W128) (busy : Bool) : State :=
  wr32 s (coreBase n 3 + 0x40) (busy.toNat + nKind w * 2 + c * 8 + nLanes w * 256)

/-- Is the engine free? -/
def entFree (s : State) (n : Nat) : Bool := (core s n).entJob.isNone && (core s n).tableJob.isNone

/-! ### Encode (R145, R149, R161, R163) -/

/-- Steps of the value at position `i` of a segment. -/
def segValue (s : State) (n b sd pd : Nat) (w : W128) (i : Nat) : Except EntAbort (List RStep) := do
  let par ← entElem s n pd 6 i
  let raw ← entElem s n sd (symFmt (nFmt w)) i
  let row := pRow (nTset w) par
  checkRow s n b row
  match planValue (core s n) b row par (intDecode (symFmt (nFmt w)) raw) with
  | none => .error ⟨⟨cSymbolRange, 0⟩, i % nLanes w⟩
  | some st => .ok st

/-- Reads positions `k − 1` down to 0 (R159): the steps of the values read, in position order, and the first fault met. -/
def segScan (f : Nat → Except EntAbort (List RStep)) : Nat → List (List RStep) → List (List RStep) × Option EntAbort
  | 0, acc => (acc, none)
  | k + 1, acc => match f k with
    | .error e => (acc, some e)
    | .ok st => segScan f k (st :: acc)

/-- Steps of every value of a segment, or of those before the fault that ends the job. -/
def segSteps (s : State) (n b : Nat) (w : W128) : List (List RStep) × Option EntAbort :=
  match entDesc s n (nSym w), entDesc s n (nPar w) with
  | .ok sd, .ok pd => segScan (segValue s n b sd pd w) (nCount w) []
  | .error e, _ => ([], some e)
  | _, .error e => ([], some e)

/-- The values of a lane, out of a list over the whole segment. -/
def laneOf {α : Type} (xs : List α) (lanes l : Nat) : List α := (xs.zipIdx.filter (fun x => x.2 % lanes = l)).map (·.1)

/-- Writes the substreams and their lengths (R160). -/
def writeLanes (s : State) (n lb : Nat) (subs : List (List Nat)) : Except Abort State :=
  subs.zipIdx.foldlM (fun s (ws, l) => do
    let s ← storeWrite s n ((bits lb 0 32 + 2 * bits lb 32 32 * l) % 2 ^ 32) (ws.flatMap (leBytes 2))
    storeWrite s n ((bits lb 64 32 + 4 * l) % 2 ^ 32) (leBytes 4 ws.length)) s

/-- An encode job completes: its substreams and their lengths are written (R160, R164), and its words counted. -/
def encodeEnd (s : State) (n : Nat) (w : W128) (subs : List (List Nat)) : Except EntAbort State := do
  let lb ← entDesc s n (nLb w)
  let s ← (writeLanes s n lb subs).mapError (fun a => ⟨a, 0⟩)
  return entDone s n (subs.map List.length).sum w

/-- Is H set in the open rate slot of a context: is every later segment of its frame held without being coded (R188)? -/
def slotHeld (s : State) (n c : Nat) : Except Abort Bool := (slotField s n c 30 1).map (bit · 1)

/-- What an encode job finds when it begins: the frame's epoch fixed, its bank referenced, and whether its segment is held (R155, R156,
R188). -/
def encodeOpen (s : State) (n c : Nat) : Except EntAbort (State × Nat × Bool) := do
  let s ← match taskOf s n c with | some t => (fixEpoch s n c t).mapError (fun a => ⟨a, 0⟩) | none => .ok s
  let (s, b) ← jobBank s n c
  let held ← (slotHeld s n c).mapError (fun a => ⟨a, 0⟩)
  return (s, b, held)

/-- Issues an ENT of KIND `k` into the entropy engine's queue, or begins it (R65): a job issues only while the activity's entropy
budget is above zero, and a table load at any time (R162). -/
def entIssue (n c : Nat) (w : W128) (k : Nat) (run : State → State) (s : State) : Out :=
  .next (if nKind w ≠ k then s
    else issue s n c w 0x0A 5 (8 + n) (entFree s n) (k = 2 || admitted s (ctxActivity s n c) (8 + n)) run)

/-- The effect of an encode job that begins (R161). With RC_REPORT the engine stays busy until it has handed over the count (R163);
a segment after a held one is not coded, and reports no bits (R188). -/
def encodeStart (n c : Nat) (w : W128) (s : State) : State :=
  let s := setEntStatus s n c w false
  match encodeOpen s n c with
  | .error e => entFault s n c e
  | .ok (s, b, held) =>
    let (vals, bad) := if held then ([], none) else segSteps s n b w
    let s := entSteps s n c (vals.map List.length).sum (vals.filter (fun x => x.length = 3)).length
    match bad with
    | some e => entFault (bankFault s n b e) n c e
    | none =>
      let subs := if held then [] else (List.range (nLanes w)).map (fun l => encLane (laneOf vals (nLanes w) l).flatten)
      if nReport w then setEntStatus (setCore s n { core s n with entJob := some { ctx := c, w := w, subs := subs } }) n c w true
      else if held then entDone s n 0 w
      else match encodeEnd s n w subs with
        | .error e => entFault s n c e
        | .ok s => s

/-- ENT_ENCODE (R161). -/
def execEntEncode (n c : Nat) (w : W128) (s : State) : Out := entIssue n c w 0 (encodeStart n c w) s

/-- ENCODE_JOB_END (R163, R195): the job completes, ENT_SEGBITS shows its count, and the count goes to the rate controller; with no
open rate slot it is discarded. A report is kept as its bits × 128 + lanes; while one of the same context waits for its update
the engine waits too (R187). -/
def execEncodeJobEnd (n : Nat) (s : State) : Out := .next <|
  match (core s n).entJob with
  | none => s
  | some j =>
    if !codecOn s || (slotOpen s n j.ctx && SMap.get 0 (core s n).reports j.ctx ≠ 0) then s
    else
      let s := setEntStatus (setCore s n { core s n with entJob := none }) n j.ctx j.w false
      match (if j.subs = [] then .ok (entDone s n 0 j.w) else encodeEnd s n j.w j.subs) with
      | .error e => entFault s n j.ctx e
      | .ok s =>
        let b := 16 * (j.subs.map List.length).sum
        let s := wr64 s (coreBase n 3 + 0xC8) (b + nCount j.w * 2 ^ 32)
        if !slotOpen s n j.ctx then count64 s (coreBase n 5 + 0xB8) 1
        else setCore s n { core s n with reports := SMap.set 0 (core s n).reports j.ctx (b * 128 + nLanes j.w) }

/-! ### Decode (R146, R150, R188) -/

/-- A value of a lane as it is decoded: the steps begun for it, whether its symbol is the escape, the lane's state and the words left
after it, and the value or why it fails. -/
structure DecVal where
  steps : Nat := 0
  esc : Bool := false
  x : Nat
  ws : List Nat
  q : Except EntAbort Int

/-- A value of a job's symbol format, else the symbol-range fault of its lane (R150). -/
def fitsFmt (w : W128) (lane : Nat) (q : Int) : Except EntAbort Int :=
  if q < intLo (symFmt (nFmt w)) ∨ q > intHi (symFmt (nFmt w)) then .error ⟨⟨cSymbolRange, 0⟩, lane⟩ else .ok q

/-- Decodes the two byte steps of an escape. -/
def decEscape (lane : Nat) (w : W128) (x : Nat) (ws : List Nat) : DecVal :=
  let bad : EntAbort := ⟨⟨cLaneError, 0⟩, lane⟩
  let h := x % 2 ^ 16 / 256
  match decStep x ws ⟨h * 256, 256⟩ with
  | none => { steps := 2, esc := true, x, ws, q := .error bad }
  | some (x, ws) =>
    let l := x % 2 ^ 16 / 256
    match decStep x ws ⟨l * 256, 256⟩ with
    | none => { steps := 3, esc := true, x, ws, q := .error bad }
    | some (x, ws) => { steps := 3, esc := true, x, ws, q := fitsFmt w lane ((h * 256 + l : Nat) - 32768) }

/-- Decodes one value of a lane (R150). A direct symbol is decoded in any format, a Gaussian-class one likewise (log entry 119). -/
def decValue (s : State) (n b lane : Nat) (w : W128) (par x : Nat) (ws : List Nat) : DecVal :=
  let row := pRow (nTset w) par
  match checkRow s n b row with
  | .error e => { x, ws, q := .error e }
  | .ok _ =>
    let k := core s n
    let u := symbolOf k b row (x % 2 ^ 16)
    let esc := !pDirect par && u = 127
    match decStep x ws (rowStep k b row u) with
    | none => { steps := 1, esc, x, ws, q := .error ⟨⟨cLaneError, 0⟩, lane⟩ }
    | some (x, ws) =>
      if esc then decEscape lane w x ws
      else { steps := 1, x, ws, q := fitsFmt w lane (if pDirect par then u else pMean par + u - 63) }

/-- A lane as far as it is decoded: its values in order, the steps begun, the escapes and the words read, and the fault that ends it. -/
structure LaneRun where
  vals : List Int := []
  steps : Nat := 0
  esc : Nat := 0
  words : Nat := 0
  bad : Option EntAbort := none

/-- Decodes the values of a lane in order; the final state and length are checked (R146). -/
def decLane (s : State) (n b lane : Nat) (w : W128) : List Nat → Nat → List Nat → LaneRun
  | [], x, ws => { bad := if ws = [] ∧ x = 0x10000 then none else some ⟨⟨cLaneError, 0⟩, lane⟩ }
  | par :: pars, x, ws =>
    let v := decValue s n b lane w par x ws
    let r : LaneRun := match v.q with
      | .error e => { bad := some e }
      | .ok q => let r := decLane s n b lane w pars v.x v.ws; { r with vals := q :: r.vals }
    { r with steps := v.steps + r.steps, esc := v.esc.toNat + r.esc, words := ws.length - v.ws.length + r.words }

/-- The words of a lane and their number, from the lane buffer (R160). -/
def laneWords (s : State) (n lb lane : Nat) : Except EntAbort (List Nat) := do
  let bad : EntAbort := ⟨⟨cLaneError, 0⟩, lane⟩
  let len ← (storeRead s n ((bits lb 64 32 + 4 * lane) % 2 ^ 32) 4).mapError (fun a => ⟨a, 0⟩)
  if leNat len > bits lb 32 32 then .error bad
  else
    let bs ← (storeRead s n ((bits lb 0 32 + 2 * bits lb 32 32 * lane) % 2 ^ 32) (2 * leNat len)).mapError (fun a => ⟨a, 0⟩)
    return (List.range (leNat len)).map (fun i => leAt bs (2 * i) 2)

/-- Decodes one lane whole. -/
def runLane (s : State) (n b lb lane : Nat) (w : W128) (pars : List Nat) : LaneRun :=
  match laneWords s n lb lane with
  | .error e => { bad := some e }
  | .ok ws =>
    match pars, ws with
    | [], [] => {}
    | _ :: _, a :: b' :: ws => let r := decLane s n b lane w pars (a * 2 ^ 16 + b') ws; { r with words := r.words + 2 }
    | _, _ => { bad := some ⟨⟨cLaneError, 0⟩, lane⟩ }

/-- Writes the values of a segment in element order. -/
def writeValues (s : State) (n d : Nat) (w : W128) (qs : List Int) : Except EntAbort State :=
  qs.zipIdx.foldlM (fun s (q, i) => (writeElem s n d (symFmt (nFmt w)) i (intEncode (symFmt (nFmt w)) q)).mapError (fun a => ⟨a, 0⟩)) s

/-- Parameter words of a segment. -/
def segPars (s : State) (n : Nat) (w : W128) : Except EntAbort (List Nat) := do
  let pd ← entDesc s n (nPar w)
  (List.range (nCount w)).mapM (entElem s n pd 6)

/-- Lanes `0` to `lanes − 1` one after the other, up to one that fails (log entry 110). -/
def runLanes (s : State) (n b lb : Nat) (w : W128) (pars : List Nat) (lanes : Nat) : List LaneRun :=
  (List.range lanes).foldl (fun acc l =>
    if acc.any (fun r => r.bad.isSome) then acc else acc ++ [runLane s n b lb l w (laneOf pars lanes l)]) []

/-- The stage counts that the indices of an audio group's segment must stay below (R207): entries of the frame's stages, when the
job decodes such a segment. -/
def indexLimits (s : State) (n c : Nat) : Option (List Nat) :=
  match taskOf s n c with
  | none => none
  | some t => match t.rd with
    | none => none
    | some r => if !t.reads || !eAudio t.snap then none
      else some ((cbEntries s (eMslot t.snap) r.epoch (reader s t.stream).epochs).take r.stages)

/-- The first pair of symbols of an audio segment whose index is not below its stage's count, as the position of its low symbol
(R206, R207). -/
def badIndex (es : List Nat) (qs : List Int) : Option Nat :=
  ((List.range (qs.length / 2)).find? (fun k =>
    decide (qs.getD (2 * k) 0 * 128 + qs.getD (2 * k + 1) 0 ≥ (es.getD (k % max 1 es.length) 0 : Nat)))).map (fun k => 2 * k + 1)

/-- The end of a decode job whose lanes are decoded: its values are checked and written. -/
def decodeEnd (s : State) (n c : Nat) (w : W128) (lanes : List (List Int)) : Except EntAbort State := do
  let sd ← entDesc s n (nSym w)
  let qs := (List.range (nCount w)).map (fun i => (lanes.getD (i % nLanes w) []).getD (i / nLanes w) 0)
  match (indexLimits s n c).bind (fun es => badIndex es qs) with
  | some i => .error ⟨⟨cSymbolRange, 0⟩, i % nLanes w⟩
  | none => return entDone (← writeValues s n sd w qs) n 0 w

/-- The effect of a decode job on a coded segment, and the fault that ends it. The steps begun and the words read count and are charged
either way (R162, R165). -/
def decodeRun (s : State) (n c b : Nat) (w : W128) : State × Option EntAbort :=
  match segPars s n w, entDesc s n (nLb w) with
  | .ok pars, .ok lb =>
    let lanes := runLanes s n b lb w pars (nLanes w)
    let s := count64 (entSteps s n c (lanes.map (·.steps)).sum (lanes.map (·.esc)).sum) (coreBase n 3 + 0xA8) (lanes.map (·.words)).sum
    match lanes.findSome? (·.bad) with
    | some e => (s, some e)
    | none => match decodeEnd s n c w (lanes.map (·.vals)) with
      | .error e => (s, some e)
      | .ok s => (s, none)
  | .error e, _ => (s, some e)
  | _, .error e => (s, some e)

/-- The effect of a decode job on a held segment: every value is its integer mean, with nothing decoded (R188). -/
def heldRun (s : State) (n : Nat) (w : W128) : Except EntAbort State := do
  let pars ← segPars s n w
  let sd ← entDesc s n (nSym w)
  let s ← writeValues s n sd w (pars.map (fun p => if pDirect p then 0 else pMean p))
  return advElems (advElems s n (nSym w) (nCount w)) n (nPar w) (nCount w)

/-- What a decode job codes: nothing, a held segment, or a coded one. The k-th decode job of a task takes the k-th segment of
the frame's body (log entry 16). -/
inductive SegWork where
  | none | held | coded
  deriving DecidableEq, Repr

def segWork (t : Task) (k : Nat) : SegWork :=
  if !t.reads then .coded
  else match t.rd with
    | none => .none
    | some r => if r.kind ≠ 1 then .none else if r.held.getD k r.stub then .held else .coded

/-- Counts a decode job of the frame that the task on a context works on; a stripe counts in its frame's task. -/
def countJob (s : State) (n c : Nat) (t : Task) : State × Nat :=
  let (m, d) := if t.kind = 4 then (t.core, t.ctx) else (n, c)
  match taskOf s m d with
  | none => (s, t.jobs)
  | some h => (updTask s m d (fun h => { h with jobs := h.jobs + 1 }), h.jobs)

/-- The effect of a decode job that begins. -/
def decodeStart (n c : Nat) (w : W128) (s : State) : State :=
  let (s, on) := readInput s n c
  if !on then s
  else match taskOf s n c with
    | none => s
    | some t =>
      let (s, k) := countJob (setEntStatus s n c w false) n c t
      if segWork t k = .none then s
      else match jobBank s n c with
        | .error e => entFault s n c e
        | .ok (s, b) =>
          if segWork t k = .held then match heldRun s n w with
            | .error e => entFault s n c e
            | .ok s => s
          else match decodeRun s n c b w with
            | (s, some e) => entFault (bankFault s n b e) n c e
            | (s, none) => s

/-- ENT_DECODE (R146). -/
def execEntDecode (n c : Nat) (w : W128) (s : State) : Out := entIssue n c w 1 (decodeStart n c w) s

/-! ### Table loads (R157, R158, R208) -/

/-- The effect of a table load that begins: steps 1 to 4. A decode task's reader has read its units by then (R222), and a load of an epoch
whose TABLE_EPOCH unit it has not accepted has no effect: the epoch stays unheld (R238). -/
def loadStart (n c : Nat) (w : W128) (s : State) : State :=
  let (s, on) := readInput s n c
  if !on || !(taskOf s n c).all (fun t => epochRead s t (nEpoch w)) then s
  else match findBank s n (nSlot w) (nEpoch w) with
    | some b => markNewest s n b
    | none =>
      let b := if !bankValid s n 0 && !bankValid s n 1 then 0 else if bankNewest s n 0 then 1 else 0
      if bankRefs s n b > 0 then entFault (count64 s (coreBase n 3 + 0xC0) 1) n c ⟨⟨cTableBusy, 0⟩, 0⟩
      else
        let s := wr32 s (bankReg n b) (nEpoch w + nSlot w * 2 ^ 16 + 2 ^ 25)
        let s := wrBits (markNewest s n b) (bankReg n b + 4) 16 10 (nCount w - 1)
        setEntStatus (setCore s n { core s n with tableJob := some { ctx := c, w := w } }) n c w true

/-- TABLE_LOAD (R157). -/
def execTableLoad (n c : Nat) (w : W128) (s : State) : Out := entIssue n c w 2 (loadStart n c w) s

/-- The norms of a codebook set: the sum of the squares of each entry's D INT16 values, under its stage and entry (R203, R208). -/
def cbNorms (m : SMap Nat) (b d : Nat) (es : List Nat) (cb : List Byte) : SMap Nat :=
  (es.zipIdx.foldl (fun acc (count, stage) =>
    ((List.range count).foldl (fun m e =>
      let sq (i : Nat) : Nat := (toSigned 16 (leAt cb (2 * (d * (acc.2 + e) + i)) 2)).natAbs ^ 2
      SMap.set 0 m ((b * 16 + stage) * 1024 + e) (((List.range d).map sq).sum)) acc.1, acc.2 + count)) (m, 0)).1

/-- What the reader of the task's stream has read of table epochs, for a decode task (R222). -/
def readEpochs (s : State) (n c : Nat) : SMap (Option (List Nat)) :=
  match taskOf s n c with
  | some t => if t.reads then (reader s t.stream).epochs else []
  | none => []

/-- Copies the bank image of a load into bank `b`, with the norms of the codebook set, which is answered. -/
def copyTables (s : State) (n b : Nat) (w : W128) (read : SMap (Option (List Nat))) : Except Abort (State × List Byte) := do
  let d ← descOf s n (nPar w)
  let img ← storeRead s n (dBase d) (256 * nCount w)
  let es := cbEntries s (nSlot w) (nEpoch w) read
  let cb ← storeRead s n (dBase d + 256 * nCount w) (cbBytes s (nSlot w) es)
  let k := core s n
  return (setCore s n { k with
    table := SMap.setAll 0 (SMap.drop (fun x => x / 262144 = b) k.table) (b * 262144) img,
    rowBad := SMap.drop (fun x => x / 1024 = b) k.rowBad,
    cbLen := SMap.set 0 k.cbLen b cb.length,
    norms := cbNorms (SMap.drop (fun x => x / 16384 = b) k.norms) b (mDim s (nSlot w)) es cb }, cb)

/-- How the copy of a codebook set to HBM goes on: done, failed, or held at a stack by the budget of the activity. -/
inductive CbCopy where
  | done
  | failed (a : Abort)
  | held (stack : Nat)

/-- Writes a codebook set from byte `m.wpos` on, in requests of at most 256 bytes that the activity's HBM budget admits and pays for
(R208, R280, R322). -/
def copyCodebook (n a va : Nat) (cb : List Byte) : Nat → State → Mover → State × Mover × CbCopy
  | 0, s, m => (endWrites s a m.writes, m, .done)
  | fuel + 1, s, m =>
    if m.wpos ≥ cb.length then (endWrites s a m.writes, m, .done)
    else
      let at' := vaAdd va m.wpos
      let bs := (cb.drop m.wpos).take (256 - at' % 256)
      let key := hbmKey s (partOf s n) at'
      let stack := key.elim 0 (fun k => keyStack k.1)
      if key.isSome && !admitted s a (16 + stack) then (s, m, .held stack)
      else match hbmWrite s (partOf s n) false at' bs with
        | .error e => (s, m, .failed e)
        | .ok s1 =>
          let (s2, m) := chargeWrite s1 a key bs.length (key.elim 0 (fun k => SMap.get 0 s.mem.blk (k.1 / 4096))) m
          copyCodebook n a va cb fuel s2 { m with wpos := m.wpos + bs.length }

/-- The table load is over: the engine idles. -/
def tableIdle (s : State) (n : Nat) (j : EntJob) : State := setEntStatus (setCore s n { core s n with tableJob := none }) n j.ctx j.w false
/-- The table load fails: the bank is left empty, and the task is aborted. -/
def tableFail (s : State) (n b : Nat) (j : EntJob) (a : Abort) (r : Nat) : State := entFault (emptyBank (tableIdle s n j) n b) n j.ctx ⟨a, r⟩

/-- TABLE_LOAD_END (R157): step 5. A copy that an HBM budget holds goes on at the next one. -/
def execTableLoadEnd (n : Nat) (s : State) : Out := .next <|
  match (core s n).tableJob with
  | none => s
  | some j =>
    if !codecOn s then s
    else
      let b := if bankLoading s n 0 then 0 else 1
      let a := ctxActivity s n j.ctx
      match copyTables s n b j.w (readEpochs s n j.ctx) with
      | .error a => tableFail s n b j a 0
      | .ok (s1, cb) =>
        match (if cbVa s1 n b = 0 then (s1, j.cb, .done) else copyCodebook n a (cbVa s1 n b) cb (cb.length + 1) s1 j.cb) with
        | (s2, _, .failed a) => tableFail s2 n b j a 0
        | (s2, m, .held st) => refused (setCore s2 n { core s2 n with tableJob := some { j with cb := m } }) a (16 + st)
        | (s2, _, .done) =>
          match (List.range (nCount j.w)).find? (fun r => !rowValid (core s2 n) b r) with
          | some r => tableFail s2 n b j ⟨cTableInvalid, 0⟩ r
          | none => tableIdle (wrBits (wrBits s2 (bankReg n b) 25 1 0) (bankReg n b) 24 1 1) n j

end Sys2Proof.Machine
end

