-- ==== Sys2Proof/Machine/Links.lean ====
section
/-! DEFINITION. Filzel links as every family sees them: the frame index and the slot, the state that FAB_LINKk shows, and the
failure set (R332, R338, R352, R357, R359). -/

namespace Sys2Proof.Machine

/-- Link end `k`. -/
def link (s : State) (k : Nat) : FLink := SMap.get {} s.fab.links k
def updLink (s : State) (k : Nat) (f : FLink → FLink) : State :=
  s.setFab { s.fab with links := SMap.set {} s.fab.links k (f (link s k)) }

/-- The frame index of the time base, and its slot in the fabric period (R332). -/
def frameIndex (s : State) : Nat := tb s * 10 / 256
def fabPeriod (s : State) : Nat := 2 ^ rdBits s (fabBase + 0x40) 16 5
def slotOf (s : State) (f : Nat) : Nat := f % fabPeriod s

/-- The device's ID, LINK_PEER of a link, and the name of a link by its lower-numbered end (R341). -/
def deviceId (s : State) : Nat := rdBits s (fabBase + 0x40) 0 11
def linkPeer (s : State) (k : Nat) : Nat × Nat := nth (0xFFFF, 0) s.fab.peers k
def nameOf (s : State) (k : Nat) : Nat × Nat :=
  let p := linkPeer s k
  if p.1 < deviceId s || (p.1 = deviceId s && p.2 < k) then p else (deviceId s, k)
/-- Is a link in the failure set? -/
def linkFailed (s : State) (k : Nat) : Bool := s.fab.loaded && s.fab.fails.contains (nameOf s k)

/-- FAB_LINKk.STATE: 0 DARK, 1 TRAIN, 2 UP, 3 MISMATCH, 4 FAILED. -/
def linkState (s : State) (k : Nat) : Nat :=
  let l := link s k
  if linkFailed s k then 4
  else if l.phase = 2 then (if s.fab.loaded && l.peerDigest = s.fab.digest then 2 else 3)
  else l.phase
/-- Does a link carry DATA frames (R352, R357)? -/
def carriesData (s : State) (k : Nat) : Bool := linkState s k == 2

/-- Brings FAB_LINKk.STATE up to date; source 241 arrives when it changes (R392). -/
def showLink (s : State) (k : Nat) : State :=
  let a := fabBase + 0x80 + 8 * k
  if rdBits s a 0 3 = linkState s k then s else arrive (wrBits s a 0 3 (linkState s k)) 241 k
def showLinks (s : State) : State := (List.range 16).foldl showLink s

/-- A whole-device load empties the failure set (R352). -/
def clearFails (s : State) : State :=
  let s := s.setFab { s.fab with fails := [], targets := [], links := s.fab.links.map (fun (k, l) => (k, { l with notices := [] })) }
  wr64 ((List.range 64).foldl (fun s i => wr32 s (fabBase + 0x400 + 4 * i) 0) (wr64 s (fabBase + 0x48) 0)) (fabBase + 0x50) 0

end Sys2Proof.Machine
end

