-- ==== Sys2Proof/Machine/Period.lean ====
section
/-! DEFINITION. Period boundaries and what each resource domain does when it takes one (R266, R271, R319, R322 to R325, R397,
R461, R462). -/

namespace Sys2Proof.Machine

/-- PERIOD_NS of the image, or 1,000,000 while unconfigured (R250, R397). -/
def periodNs (s : State) : Nat := if s.img.periodNs = 0 then 1000000 else s.img.periodNs
/-- The next multiple of PERIOD_NS after the time base. -/
def nextBoundary (s : State) : Nat := (tb s / periodNs s + 1) * periodNs s

/-- Is this the boundary at which a schedule starts? -/
def LoadStart.now (x : LoadStart) (s : State) : Bool := x.at_ = period s + 1
/-- Does a schedule still await its start, which it makes when ACLK takes its boundary? -/
def LoadStart.waits (x : LoadStart) (s : State) : Bool := x.at_ = 0 || SMap.get 0 s.dom 0 ≠ period s
/-- Does a load concern partition `q`? -/
def LoadStart.holds (x : LoadStart) (q : Nat) : Bool := x.scope = 0 || x.part = q
/-- Partitions whose schedule a start begins: those of its load, but for one that a later partial load has replaced meanwhile. -/
def LoadStart.parts (x : LoadStart) (s : State) : List Nat :=
  (List.range 8).filter (fun q => x.holds q && !s.ld.starts.any (fun y => x.scope = 0 && y.scope ≠ 0 && y.part = q && !y.now s))

/-- One boundary in the TCLK domain: the period number rises by 1; the boundary at which a finished load's schedule starts is
marked, and starts made before are over (R266, R323). -/
def boundary (s : State) : State :=
  let left := s.ld.starts.filter (fun x => x.waits s)
  let s := wr32 s (budBase + 0x40) ((period s + 1) % 2 ^ 32)
  let s := wr64 s (budBase + 0x48) (nextBoundary s)
  if s.ld.starts = [] then s
  else s.setLd { s.ld with starts := left.map (fun x => if x.at_ ≠ 0 || decide (x.tb ≤ tb s) then { x with at_ := period s + 1 } else x) }

/-- PERIOD_BOUNDARY (R323): at the TCLK edge where the time base reaches BUD_NEXTTB. -/
def execPeriodBoundary (s : State) : Out := .next <|
  if mgmtOn s && decide (rd64 s (budBase + 0x48) ≤ tb s) then boundary s else s

/-- Partitions whose new schedules start at this boundary. -/
def startParts (s : State) : List Nat := (s.ld.starts.filter (fun x => x.now s)).flatMap (fun x => x.parts s)
/-- Activities whose budgets the loads that start wrote. -/
def startActs (s : State) : List Nat := (List.range 32).filter (fun a => (startParts s).contains (a / 4))

/-- Sets the counts of resources to the new budgets at the schedule's start (R266). -/
def startBudgets (s : State) (rs : List Nat) : State :=
  (startActs s).foldl (fun s a => rs.foldl (fun s r =>
    let b := SMap.get 0 s.img.budgets (a * 64 + r)
    wr64 (wr64 s (budLim a r) b) (budRem a r) b) s) s

/-- Refills the counts of resources: `B + min(M, 0)` (R322). -/
def refill (s : State) (rs : List Nat) : State :=
  (List.range 32).foldl (fun s a => rs.foldl (fun s r =>
    setRem s a r ((rd64 s (budLim a r) : Int) + min (remOf s a r) 0)) s) s

/-- Refills resources as the boundary asks: the start of a new schedule sets its activities' counts. -/
def takeBudgets (s : State) (rs : List Nat) : State :=
  startBudgets (refill s rs) rs

/-- Releases every context that PERIOD holds (R319). -/
def releasePeriods (s : State) : State :=
  (List.range 8).foldl (fun s n => (List.range 8).foldl (fun s c =>
    if (ctxOf s n c).hold = .period && !frozen s (partOf s n) then resume s n c else s) s) s

/-- New schedules have started: their partitions take tasks again (R266), but for those that a further load drains. -/
def scheduleStart (s : State) : State :=
  if startParts s = [] then s
  else
    let st := rdBits s (mgtBase + 0x408) 0 3
    let busy (q : Nat) : Bool := (st = 2 || st = 3) && (s.ld.scope = 0 || s.ld.part = q)
    let ps := (startParts s).filter (fun q => !busy q)
    admitWaiting (s.setStr { s.str with noAdmit := s.str.noAdmit.filter (fun p => !(ps.contains p)) })

/-- Degraded cores change to their variant (R271). -/
def degradedSwitch (s : State) : State :=
  let s := s.rep.degrade.foldl (fun s (n, v) =>
    let s := s.setImg { s.img with cores := SMap.set {} s.img.cores n { coreCfg s n with variant := v } }
    let vr := SMap.get {} (coreCfg s n).progs v
    let s := (((List.range vr.program.length).zip vr.program)).foldl (fun s (i, w) => storePoke s n (16 * i) 16 w.toNat) s
    let s := (((List.range 8).zip vr.ctxs)).foldl (fun s (c, x) =>
      setCtx s n c { ctxOf s n c with role := x.1, activity := x.2.1, semFirst := x.2.2.1, semCount := x.2.2.2 }) s
    wrBits s (mgtBase + 0x48C) n 1 1) s
  s.setRep { s.rep with degrade := [] }

/-- Freezes and releases partitions; while a load is in APPLYING both are deferred (R461, R462). -/
def freezeSwitch (s : State) : State :=
  if rdBits s (mgtBase + 0x408) 0 3 = 3 then s
  else
    let p := rdBits s (shtBase + 0x58) 8 8
    let p := (if s.sht.unfreeze then 0 else p) ||| s.sht.freeze
    let s := wrBits (wrBits s (shtBase + 0x58) 8 8 p) (shtBase + 0x58) 3 1 (if p = 0 then 0 else 1)
    let s := if s.sht.unfreeze then
        s.setCores (s.cores.map (fun c => (c.1, { c.2 with pst := c.2.pst.map (fun x => (x.1, { x.2 with parked := false })) }))) else s
    s.setSht { s.sht with freeze := 0, unfreeze := false }

/-- A period passes for the tasks: frozen ones count it (R461), weight-chain exchanges are of one period (R293). -/
def agePeriod (s : State) : State :=
  let s := s.setStr { s.str with ready := s.str.ready.map (fun t =>
    if frozen s (ePart t.snap) then { t with frozenPeriods := t.frozenPeriods + 1 } else t) }
  (runningTasks s).foldl (fun s (n, c, _) => updTask s n c (fun t =>
    { t with chained := false, frozenPeriods := t.frozenPeriods + (if frozen s (partOf s n) then 1 else 0) })) s

/-- Refills the delivery budgets of the processors (R397); EVC_BUDp holds LIMIT and the remaining count. -/
def refillDeliveries (s : State) : State :=
  (List.range 4).foldl (fun s p => let a := evcBase + 0x810 + 64 * p; wrBits s (a + 4) 0 32 (rd32 s a)) s

/-- f_B of the last boundary (R324): the first frame whose start instant is at or after its time-base value. -/
def boundaryFrame (s : State) : Nat := ceilDiv ((rd64 s (budBase + 0x48) - periodNs s) * 10) 256

/-- The L-dies take the last boundary before frame f_B, and slots again after a time-base step (R324, R350). -/
def takeFabricBoundary (s : State) : State :=
  if SMap.get 0 s.dom 2 = period s || tb s * 10 / 256 < boundaryFrame s then s
  else takeBudgets ((s.setDom (SMap.set 0 s.dom 2 (period s))).setFab { s.fab with quiet := false }) (range' 24 16)

/-- BOUNDARY_TAKEN (R324): domain 0 ACLK, 1 HCLK, 2 the L-dies, 3 MCLK. -/
def execBoundaryTaken (d : Nat) (s : State) : Out := .next <|
  if !mgmtOn s || d > 3 || SMap.get 0 s.dom d = period s then s
  else if d = 2 then takeFabricBoundary s
  else
    let s := s.setDom (SMap.set 0 s.dom d (period s))
    match d with
    | 0 =>
      let s := agePeriod (takeBudgets s (List.range 16))
      releasePeriods (freezeSwitch (degradedSwitch (scheduleStart s)))
    | 1 => takeBudgets s (range' 16 8)
    | _ => refillDeliveries s

end Sys2Proof.Machine
end

