-- ==== Sys2Proof/Machine/Shutter.lean ====
section
/-! DEFINITION. The shutter and the contact sheet (R351, R455 to R464). -/

namespace Sys2Proof.Machine

/-! ### Snapshot windows (R458 to R460) -/

/-- Window address of block `b` of `latchBlocks`. -/
def sheetAt (b : Nat) : Nat :=
  if b < 8 then coreBase b 7
  else if b = 8 then 0x7D000
  else if b = 9 then 0x18000
  else if b = 10 then 0x910000
  else if b < 19 then hbmBase (b - 11) + 0x8000
  else if b = 19 then 0xE08000
  else
    let p := b - 20
    0xC60000 + portDie p * 0x100000 + 0x1000 * (if p < 8 then p % 4 else 4)

/-- Copies in a window. -/
def sheetCopies (b : Nat) : Nat :=
  if b < 8 then 48 else if b = 8 then 1281 else if b = 9 then 68 else if b = 10 then 16387 else if b < 19 then 3 else if b = 19 then 36 else 4

/-- Registers that core `n` copies, with their sizes in bytes (R459). -/
def coreCopies (n : Nat) : List (Nat × Nat) :=
  let sq := coreBase n 0
  let ar := coreBase n 1
  let en := coreBase n 3
  [(sq + 0x40, 4)] ++ (List.range 8).map (fun c => (sq + 0x80 + 8 * c, 8)) ++ (List.range 8).map (fun c => (sq + 0x100 + 4 * (56 + c), 4)) ++
  [(sq + 0x208, 8)] ++
  [(ar + 0x60, 4), (ar + 0xA0, 8), (ar + 0xA8, 8), (ar + 0xB8, 8), (coreBase n 2 + 0x40, 4)] ++
  [(en + 0x40, 4), (en + 0xC8, 8), (en + 0xA0, 8), (en + 0xB8, 8), (coreBase n 4 + 0x40, 4), (coreBase n 4 + 0x44, 4), (coreBase n 5 + 0x40, 4)] ++
  ((List.range 8).map (fun c => [(coreBase n 5 + 0x100 + 16 * c, 8), (coreBase n 5 + 0x108 + 16 * c, 8)])).flatten ++
  [(coreBase n 6 + 0x40, 4), (coreBase n 6 + 0x48, 4)]

/-- Registers that a block copies, with their sizes (R460); the rings of the stream scheduler follow apart. -/
def blockCopies (b : Nat) : List (Nat × Nat) :=
  if b < 8 then coreCopies b
  else if b = 8 then (budBase + 0x40, 4) :: ((List.range 32).map (fun a => (List.range 40).map (fun r => (budRem a r, 8)))).flatten
  else if b = 9 then (List.range 32).map (fun w => (evcBase + 0x100 + 4 * w, 4)) ++ (List.range 32).map (fun w => (evcBase + 0x400 + 4 * w, 4)) ++
    (List.range 4).map (fun p => (evcBase + 0x828 + 64 * p, 4))
  else if b = 10 then [(strBase + 0xA0, 8), (strBase + 0xA8, 8), (strBase + 0xB8, 8)]
  else if b < 19 then [(hbmBase (b - 11) + 0x44, 4), (hbmBase (b - 11) + 0xA0, 8), (hbmBase (b - 11) + 0xB8, 8)]
  else if b = 19 then [(fabBase + 0x48, 8)] ++ (List.range 16).map (fun k => (fabBase + 0x80 + 8 * k, 8)) ++
    (List.range 16).map (fun k => (fabBase + 0x100 + 8 * k, 8)) ++ [(fabBase + 0x380, 8), (fabBase + 0x388, 8), (fabBase + 0x390, 8)]
  else
    let p := portBase (b - 20)
    [(p + 0xC4, 4), (p + 0xA0, 8), (p + 0xA8, 8), (p + 0xB0, 8)]

/-- A block latches: header and copies of its window are written, and the previous capture goes (R457, R458). -/
def latchBlock (s : State) (b : Nat) : State :=
  let w := sheetAt b
  let vals := (blockCopies b).map (fun x => if x.2 = 8 then rd64 s x.1 else rd32 s x.1)
  let rings := if b = 10 then s.ctl.filter (fun x => strBase + 0x80000 ≤ x.1 && x.1 < strBase + 0x100000 && x.1 % 32 = 16) else []
  let shot := rdBits s (shtBase + 0x58) 16 16
  let tbf := rd64 s (shtBase + 0x60)
  let s := s.setCtl (SMap.drop (fun a => w ≤ a && a < w + 0x40 + 8 * sheetCopies b) s.ctl)
  let s := wr64 (wr64 s w (shot + 2 ^ 16)) (w + 8) tbf
  let s := (((List.range vals.length).zip vals)).foldl (fun s x => wr64 s (w + 0x40 + 8 * x.1) x.2) s
  rings.foldl (fun s x => wr64 s (w + 0x40 + 8 * (3 + (x.1 - strBase - 0x80000) / 32)) x.2.toNat) s

/-! ### Commands of SHT_CMD (R455, R456, R462, R463) -/

/-- FIRE (R455) over HCP; a control processor's write is source 1 (SHT_STATUS.LASTSRC). -/
def execFire (s : State) : Out := .next <| if mgmtOn s then fire s 0 else s

def releaseSheet (s : State) : State := wrBits s (shtBase + 0x58) 1 1 0
/-- RELEASE (R463): the kept sheet is freed. -/
def execRelease (s : State) : Out := .next <| if mgmtOn s then releaseSheet s else s

def unfreeze (s : State) : State := if bit (rd32 s (shtBase + 0x58)) 3 then s.setSht { s.sht with unfreeze := true } else s
/-- UNFREEZE (R462): the frozen partitions resume at the next boundary. -/
def execUnfreeze (s : State) : Out := .next <| if mgmtOn s then unfreeze s else s

/-- Arms an instant; the links relay it in their next 64 frames (R351). -/
def armInstant (s : State) (t : Nat) (relayed : Bool) : State :=
  let s := wr64 (wrBits s (shtBase + 0x58) 2 1 1) (shtBase + 0x68) t
  let s := s.setSht { s.sht with relayed := relayed }
  s.setFab { s.fab with shut := some t, links := s.fab.links.map (fun (k, l) =>
    (k, if rdBits s (fabBase + 0x80 + 8 * k) 0 3 = 2 && rdBits s (fabBase + 0x80 + 8 * k) 12 4 ≥ 1 then { l with shutLeft := 64 } else l)) }

/-- ARM_AT of SHT_ATTB: an instant that has passed is dropped and counted (R456). While one is pending, the earlier of the two is kept and
the other is counted (R463; DEDUCED, log entry 125). -/
def armAt (s : State) : State :=
  let t := rd64 s (shtBase + 0x50)
  let held := bit (rd32 s (shtBase + 0x58)) 2
  let s := if held || decide (t < tb s) then count64 s (shtBase + 0x70) 1 else s
  if t < tb s || (held && rd64 s (shtBase + 0x68) ≤ t) then s else armInstant s t false
/-- ARM_AT (R455). -/
def execArmAt (s : State) : Out := .next <| if mgmtOn s then armAt s else s

def disarm (s : State) : State := wr64 (wrBits s (shtBase + 0x58) 2 1 0) (shtBase + 0x68) 0
/-- DISARM (R463): the pending instant is cleared; what was relayed stands. -/
def execDisarm (s : State) : Out := .next <| if mgmtOn s then disarm s else s

/-! ### Events -/

/-- INSTANT_REACHED (R455): the time base has reached the pending instant. -/
def execInstantReached (s : State) : Out := .next <|
  if mgmtOn s && bit (rd32 s (shtBase + 0x58)) 2 && decide (rd64 s (shtBase + 0x68) ≤ tb s) then
    fire (disarm s) (if s.sht.relayed then 4 else 3)
  else s

/-- SHUTTER_LATCH (R457): block `b` (as `latchBlocks` numbers them) latches the firing in flight. -/
def execShutterLatch (b : Nat) (s : State) : Out := .next <|
  if s.sht.latch.contains b then latchBlock (s.setSht { s.sht with latch := s.sht.latch.erase b }) b else s

/-- FIRING_COMPLETE (R456): every block has latched; source 10 arrives with SHOT, BUSY clears and the sheet awaits RELEASE. -/
def execFiringComplete (s : State) : Out := .next <|
  if mgmtOn s && bit (rd32 s (shtBase + 0x58)) 0 && s.sht.latch.isEmpty then
    arrive (wrBits (wrBits s (shtBase + 0x58) 0 1 0) (shtBase + 0x58) 1 1 1) 10 (rdBits s (shtBase + 0x58) 16 16)
  else s

end Sys2Proof.Machine
end

