-- ==== Sys2Proof/Machine/Fabric.lean ====
section
/-! DEFINITION. The Filzel fabric: the failure set and route sets, frames sent and received, acknowledgement and
retransmission, channels, peeks, beacons, the shutter relay and training (R332 to R360). -/

namespace Sys2Proof.Machine

/-! ### Failure set and failover (R352 to R356) -/

/-- Aborts every running task that uses a fabric channel; as the latest goes first, the counters end at the values of the earliest; the
re-issues wait until `target` (R354). -/
def failChannels (s : State) (target : Nat) : State :=
  let orders := ((runningTasks s).filter (fun (_, _, t) => t.fabCounters ≠ [])).map (fun x => x.2.2.order)
  let s := abortWhere s 0x0E01 (fun _ _ t => t.fabCounters ≠ [])
  s.setStr { s.str with ready := s.str.ready.map (fun t => if orders.contains t.order then { t with notBefore := target } else t) }

/-- Target boundary of a declaration now (R353). -/
def targetNow (s : State) : Nat :=
  let b := nextBoundary s
  if tb s + s.fab.lead < b then b else b + periodNs s

/-- The lowest route set whose ABSENT list contains every link of the failure set (R353). -/
def coveringSet (s : State) : Option Nat :=
  ((List.range s.fab.sets.length).find? (fun r => s.fab.fails.all (fun x => (nth {} s.fab.sets r).absent.contains x)))

/-- The earliest target boundary of the declarations not yet applied (R353). -/
def switchAt (s : State) : Option Nat := (s.fab.targets.map (·.2.2)).min?

/-- Shows the pending switch in FAB_STATE and FAB_SWITCHTB. -/
def showSwitch (s : State) : State :=
  match switchAt s with
  | none => wr64 (wrBits s (fabBase + 0x48) 2 3 0) (fabBase + 0x50) 0
  | some t => wr64 (wrBits (wrBits s (fabBase + 0x48) 2 2 ((coveringSet s).getD 0)) (fabBase + 0x48) 4 1 1) (fabBase + 0x50) t

/-- Is a declaration of this link waiting for its boundary? -/
def declared (s : State) (x : Nat × Nat) : Bool := s.fab.targets.any (fun y => (y.1, y.2.1) = x)

/-- Gives a declaration its target boundary; of two for one link the earlier applies (R353). -/
def takeTarget (s : State) (x : Nat × Nat) (t : Nat) : State :=
  let ts := if declared s x then s.fab.targets.map (fun y => if (y.1, y.2.1) = x then (y.1, y.2.1, min t y.2.2) else y)
    else s.fab.targets ++ [(x.1, x.2, t)]
  showSwitch (s.setFab { s.fab with targets := ts })

/-- Adds a link to the failure set (R352): its register, source 242, the notices to every link, and the aborts. A link that the
set holds takes the earlier target while its own is not yet applied. -/
def addFailure (s : State) (x : Nat × Nat) (target : Nat) : State :=
  if !s.fab.loaded then s
  else if s.fab.fails.contains x then (if declared s x then takeTarget s x target else s)
  else if s.fab.fails.length ≥ 64 then s
  else
    let i := s.fab.fails.length
    let note := (x.1, x.2, target / periodNs s % 256)
    let s := s.setFab { s.fab with fails := s.fab.fails ++ [x], links := (List.range 16).foldl (fun m k =>
      SMap.modify {} m k (fun l => { l with notices := l.notices ++ [note] })) s.fab.links }
    let s := wr32 s (fabBase + 0x400 + 4 * i) (x.1 + x.2 * 2 ^ 11 + 2 ^ 31)
    let s := wrBits s (fabBase + 0x48) 8 7 (i + 1)
    let s := showLinks (arrive (takeTarget s x target) 242 x.2)
    failChannels s target

/-- Declares link `k` failed now (R352, R353). -/
def declareLink (s : State) (k : Nat) : State := addFailure s (nameOf s k) (targetNow s)

/-- A failure notice (R353): one that names a boundary which has passed is applied at the next, and counted. -/
def takeNotice (s : State) (dev k idx : Nat) : State :=
  if !s.fab.loaded then s
  else
    let p := tb s / periodNs s
    let d := (idx + 256 - p % 256) % 256
    let late := d = 0 || d ≥ 128
    let target := if late then (p + 1) * periodNs s else (p + d) * periodNs s
    let s := if late then count64 s (fabBase + 0x3A0) 1 else s
    addFailure s (dev, k) target

/-- Stops every partition that uses a fabric channel (R355). -/
def noRoute (s : State) : State :=
  ((s.fab.chans.map (fun c => c.act / 4)).eraseDups).foldl (fun s q => stopPartition s q 0x0E03) (wrBits s (fabBase + 0x48) 5 1 1)

/-- ROUTE_SWITCH (R353, R355): at a target boundary; declarations with a later one keep theirs. -/
def execRouteSwitch (s : State) : Out := .next <|
  match switchAt s with
  | none => s
  | some t =>
    if !codecOn s || decide (tb s < t) then s
    else
      let r := coveringSet s
      let s := showSwitch (s.setFab { s.fab with targets := s.fab.targets.filter (fun x => decide (tb s < x.2.2)) })
      match r with
      | none => noRoute s
      | some r => arrive (wrBits s (fabBase + 0x48) 0 2 r) 243 0

/-- DECLARE (R352). -/
def declareCommand (s : State) (k : Nat) : State := if codecOn s && k < 16 then declareLink s k else s
def execDeclare (k : Nat) (s : State) : Out := .next <| declareCommand s k

/-- The abort of a channel's tasks because of an abort that arrived on it: its own end of the channel is not ended again (R356). -/
def abortOnChannel (s : State) (i : Nat) : State :=
  match chan s i with
  | none => s
  | some c =>
    let s := updChan s i (fun c => { c with ending := true })
    let s := abortWhere s 0x0E02 (fun _ _ t => t.activity = c.act && t.fabCounters ≠ [])
    updChan (resetChan s i) i (fun c => { c with ending := false })

/-- What a time-base step does to the fabric, at the boundary that it produces (R350). -/
def fabricStep (s : State) : State :=
  if !s.fab.loaded then s
  else
    let acts := ((runningTasks s).filter (fun (_, _, t) => t.fabCounters ≠ [])).map (fun x => x.2.2.activity)
    let s := failChannels s (tb s)
    let s := acts.eraseDups.foldl endChannels s
    s.setFab { s.fab with quiet := true, links := (List.range 16).foldl (fun m k =>
      SMap.modify {} m k (fun l => { l with fwd := [], gaps := [], late := [], skewRun := 0, skewFrom := tb s + 2000000000 })) s.fab.links }

/-! ### The link mirror (R337) -/

/-- The sink's channel word: release count and abort generation. -/
def chanWord (s : State) (c : FChan) : Nat := sharedPeek s c.rctr 4 + c.gen * 2 ^ 32

/-- Word `w` of the link mirror. -/
def mirrorWord (s : State) (w : Nat) : Nat :=
  if w = 0 then deviceId s + (bit (rd32 s (mgtBase + 0x488)) 0).toNat * 2 ^ 12 + rdBits s (fabBase + 0x48) 0 2 * 2 ^ 13 + s.fab.fails.length * 2 ^ 16
  else if w < 2 then 0
  else if w < 18 then rd64 s (fabBase + 0x80 + 8 * (w - 2))
  else if w < 64 then 0
  else match s.fab.chans.find? (fun c => c.role = 1 && c.relWord = w) with
    | some c => chanWord s c
    | none => 0

/-- FAB_PEEKCMD (R337): the next frames of the link ask for the word until it is answered. -/
def peekCommand (s : State) (k w : Nat) : State :=
  let s := s.setFab { s.fab with links := (List.range 16).foldl (fun m i =>
    SMap.modify {} m i (fun l => if l.peekSoft then { l with peekSoft := false, peekAsk := none } else l)) s.fab.links }
  updLink (wr32 s (fabBase + 0x70) 0) k (fun l => { l with peekAsk := some w, peekSoft := true })

/-- PEEK (R337). -/
def execPeek (k w : Nat) (s : State) : Out := .next <| if codecOn s && k < 16 && w < 1024 then peekCommand s k w else s

/-! ### Frames (R333) -/

/-- Contents of a frame but for its link fields and CRC. -/
structure FBase where
  kind : Nat
  cabort : Bool := false
  rset : Nat := 0
  sframe : Nat := 0
  chan : Nat := 0
  src : Nat := 0
  unit : Nat := 0
  off : Nat := 0
  rel : Nat := 0
  rgen : Nat := 0
  payload : List Byte := []
  deriving DecidableEq, Repr

/-- The 640 bytes of a frame with zero link fields. -/
def baseBytes (b : FBase) : List Byte :=
  beBytes 1 b.kind ++ beBytes 1 (if b.cabort then 32 else 0) ++ beBytes 2 0 ++ beBytes 2 0 ++ beBytes 1 0 ++ beBytes 1 b.rset ++ beBytes 4 b.sframe ++
    beBytes 2 b.chan ++ beBytes 2 b.src ++ beBytes 4 b.unit ++ beBytes 2 b.off ++ beBytes 2 (if b.kind = 1 then b.payload.length else 0) ++
    List.replicate 24 0#8 ++ beBytes 4 b.rel ++ beBytes 2 b.rgen ++ beBytes 2 0 ++ slice b.payload 0 576 ++ List.replicate 8 0#8

/-- Replaces `n` bytes at `o` by a big-endian number. -/
def putBe (bs : List Byte) (o n v : Nat) : List Byte := bs.take o ++ beBytes n v ++ bs.drop (o + n)

/-- Does a source channel wait on its sink's release count (R344)? -/
def waitsRelease (s : State) (c : FChan) : Bool :=
  c.role = 0 && resetChan.reachedNat (sharedPeek s c.ctr 4) (c.unit + 1) && !resetChan.reachedNat c.rel ((c.unit + 1 + 2 ^ 32 - c.slots) % 2 ^ 32)

/-- The source channels whose sink is the neighbour on a link: index, channel. -/
def nearChans (s : State) (k : Nat) : List (Nat × FChan) :=
  ((List.range s.fab.chans.length).zip s.fab.chans).filter (fun x => x.2.role = 0 && x.2.relWord ≠ 0xFFFF && x.2.peer = (link s k).peerDev)

/-- Of channels, the one whose release word was asked for longest ago. -/
def oldestPeek (s : State) (k : Nat) (xs : List (Nat × FChan)) : Option (Nat × FChan) :=
  let at_ (x : Nat × FChan) : Nat := SMap.get 0 (link s k).peeks x.1
  xs.find? (fun x => xs.all (fun y => decide (at_ x ≤ at_ y)))

/-- The word that a link's next frame asks for, and the channel that it is asked for: software's; one whose answer was lost; the release
words of the channels that wait on release, in turn; or one that was not asked for in 64 frames (R337, R344, R358). -/
def peekOf (s : State) (k : Nat) : Option (Nat × Option Nat) :=
  let l := link s k
  if l.peekSoft then l.peekAsk.map (fun w => (w, none))
  else if l.peekAgain && l.peekOut.isSome then l.peekOut.map (fun w => (w, none))
  else
    let near := nearChans s k
    let waits := near.filter (fun x => waitsRelease s x.2)
    let due := near.filter (fun x => decide (SMap.get 0 l.peeks x.1 + 63 ≤ l.frames))
    (oldestPeek s k (if waits.isEmpty then due else waits)).map (fun x => (x.2.relWord, some x.1))

/-- Sends a frame of 640 bytes on a link: the link fields are filled in (RETX, peeks, notice, SHUTTER, SEQ and the
acknowledgement) and the CRC is computed; a forwarded or repeated frame keeps its other contents (R333, R334, R337, R346, R351,
R353). The answer holds the SEQ and the bytes sent. -/
def sendFrame (s : State) (k : Nat) (base : List Byte) (retx fwd : Bool) : State × Nat × List Byte :=
  let l := link s k
  let up := decide (l.phase = 2)
  let ask := if up then peekOf s k else none
  let ans := if up then l.peekAns else none
  let note := if carriesData s k then l.notices.head? else none
  let shut := if up && !fwd && l.shutLeft > 0 && rdBits s (fabBase + 0x80 + 8 * k) 12 4 ≥ 1 then s.fab.shut else none
  let relays := fwd && rdBits s (fabBase + 0x80 + 8 * k) 12 4 ≥ 1
  let own := leAt base 1 1 &&& (if relays then 0x30 else 0x20)
  let flags := own + (if retx then 1 else 0) + (if ask.isSome then 2 else 0) + (if ans.isSome then 4 else 0) + (if note.isSome then 8 else 0) +
    (if shut.isSome then 16 else 0)
  let b := putBe (putBe (putBe (putBe base 1 1 flags) 2 2 l.txSeq) 4 2 l.rxSeq) 6 1 l.ackMap
  let b := putBe (putBe (putBe b 24 2 ((ask.map (·.1)).getD 0)) 26 2 (ans.getD 0)) 28 8 (match ans with | some w => mirrorWord s w | none => 0)
  let b := putBe b 36 4 (match note with | some (d, n, i) => d + n * 2 ^ 11 + i * 2 ^ 16 | none => 0)
  let b := match shut with | some t => putBe b 40 8 t | none => if relays then b else putBe b 40 8 0
  let b := putBe b 632 4 (crc32c (b.take 632)).toNat
  let s := updLink s k (fun l => { l with
    frames := l.frames + 1, txSeq := (l.txSeq + 1) % 65536, lastF := frameIndex s + 1, peekAns := none,
    peeks := match ask.bind (·.2) with | some i => SMap.set 0 l.peeks i (l.frames + 1) | none => l.peeks,
    peekOut := if l.peekSoft || ask.isNone then l.peekOut else ask.map (·.1), peekAgain := l.peekAgain && l.peekSoft,
    notices := if note.isSome then l.notices.drop 1 else l.notices,
    shutLeft := if shut.isSome then l.shutLeft - 1 else l.shutLeft })
  (s.emit (.filzel k b), l.txSeq, b)

/-- Sends a DATA frame and keeps it until it is acknowledged (R335). -/
def sendData (s : State) (k : Nat) (base : List Byte) (own : Option (Nat × Nat × Nat)) (fwd : Bool) : State :=
  let n := (link s k).frames
  let (s, seq, b) := sendFrame s k base false fwd
  updLink s k (fun l => { l with sent := l.sent ++ [{ at_ := n, seq := seq, own := own, born := n, bytes := b }] })

/-- Sends an IDLE frame. -/
def sendIdle (s : State) (k : Nat) : State :=
  (sendFrame s k (baseBytes { kind := 0, rset := rdBits s (fabBase + 0x48) 0 2, sframe := frameIndex s % 2 ^ 32 }) false false).1

/-- The lowest and highest Filzel versions of the image, 1.0 to 1.1 without one (R249). -/
def filzelRange (s : State) : (Nat × Nat) × (Nat × Nat) :=
  (if s.img.vmin = [] then (1, 0) else nth (1, 0) s.img.vmin 1, if s.img.vmax = [] then (1, 1) else nth (1, 1) s.img.vmax 1)

/-- The TRAIN payload of the step that an end is at (R340). -/
def trainPayload (s : State) (k step echoTb echoRx : Nat) : List Byte :=
  let l := link s k
  let (lo, hi) := filzelRange s
  beBytes 1 step ++ beBytes 1 l.rxOk ++ beBytes 1 l.round ++ beBytes 1 0 ++ beBytes 1 lo.1 ++ beBytes 1 lo.2 ++ beBytes 1 hi.1 ++ beBytes 1 hi.2 ++
    beBytes 2 (if s.fab.loaded then deviceId s else 0x8000) ++ beBytes 1 k ++ beBytes 1 0 ++
    (if s.fab.loaded then s.fab.digest else List.replicate 32 0#8) ++ beBytes 8 (tb s) ++ beBytes 8 echoTb ++ beBytes 8 echoRx

/-- Sends a TRAIN frame. -/
def sendTrain (s : State) (k step echoTb echoRx : Nat) : State :=
  (sendFrame s k (baseBytes { kind := 3, rset := rdBits s (fabBase + 0x48) 0 2, sframe := frameIndex s % 2 ^ 32,
                              payload := trainPayload s k step echoTb echoRx }) false false).1

/-! ### Slots (R341 to R347, R349) -/

/-- The run that assigns the current frame of a link, under the active route set. -/
def runNow (s : State) (k : Nat) : Option FRun :=
  if !s.fab.loaded then none
  else
    let i := slotOf s (frameIndex s)
    (nth [] (nth {} s.fab.sets (rdBits s (fabBase + 0x48) 0 2)).runs k).find? (fun r => r.start ≤ i && i < r.start + r.count)

/-- May a link send the frame of the current frame index: it sends frames, and has not sent this one? -/
def maySend (s : State) (k : Nat) : Bool :=
  codecOn s && k < 16 && decide ((link s k).phase ≥ 1) && !(link s k).checking && decide ((link s k).lastF ≠ frameIndex s + 1)

/-- A frame that carries no data: TRAIN while training, else IDLE. -/
def sendFiller (s : State) (k : Nat) : State :=
  if (link s k).phase = 2 then sendIdle s k else sendTrain s k (link s k).sentStep 0 0

/-- Frames of a unit (R343). -/
def unitFrames (c : FChan) : Nat := ceilDiv c.unitBytes 576
/-- Bytes of frame `o` of a unit. -/
def frameLen (c : FChan) (o : Nat) : Nat := min 576 (c.unitBytes - 576 * o)

/-- The sink channel whose release count and generation a source channel's frames carry (R344). -/
def pairOf (s : State) (c : FChan) : Option FChan := s.fab.chans.find? (fun d => d.role = 1 && d.number = c.number ^^^ 0x8000)

/-- A DATA frame's base for channel `c`. -/
def dataBase (s : State) (c : FChan) (unit off : Nat) (cabort : Bool) (pl : List Byte) : List Byte :=
  let p := pairOf s c
  baseBytes { kind := 1, cabort, rset := rdBits s (fabBase + 0x48) 0 2, sframe := frameIndex s % 2 ^ 32, chan := c.number, src := deviceId s,
              unit, off, rel := (p.map (fun d => sharedPeek s d.rctr 4)).getD 0, rgen := (p.map (·.gen)).getD 0, payload := pl }

/-- A SEND slot of channel `i` on link `k` (R344, R347, R356). -/
def sendChannel (s : State) (k act i : Nat) (c : FChan) : State :=
  let idle (s : State) (r : Nat) : State := sendIdle (count64 s r 1) k
  let budget := admitted s act (24 + k)
  let stall (s : State) : State := idle (refused s act (24 + k)) (fabBase + 0x390)
  match c.cabort with
  | some u =>
    if !budget then stall s
    else sendData (updChan (charge s act (24 + k) 1) i (fun c => { c with cabort := none })) k (dataBase s c u 0 true []) none false
  | none =>
    if !resetChan.reachedNat (sharedPeek s c.ctr 4) (c.unit + 1) then
      if (pairOf s c).isSome && budget then sendData (charge s act (24 + k) 1) k (dataBase s c c.unit 0 false []) none false
      else idle s (fabBase + 0x380)
    else if waitsRelease s c then idle s (fabBase + 0x388)
    else if !budget then stall s
    else
      let pl := chanRead s c (c.unit % max 1 c.slots * c.unitBytes + 576 * c.off) (frameLen c c.off)
      let s := sendData (charge s act (24 + k) 1) k (dataBase s c c.unit c.off false pl) (some (i, c.unit, c.off)) false
      updChan s i (fun c => if c.off + 1 ≥ unitFrames c then { c with unit := (c.unit + 1) % 2 ^ 32, off := 0 } else { c with off := c.off + 1 })

/-- Index of a source channel by number. -/
def sourceChan (s : State) (n : Nat) : Option Nat :=
  (List.range s.fab.chans.length).find? (fun i => (chan s i).any (fun c => c.role = 0 && c.number = n))

/-- SEND_SLOT (R324, R344): a frame from f_B on is of the new period. -/
def execSendSlot (k : Nat) (s : State) : Out := .next <|
  if !maySend s k then s
  else match runNow s k with
    | none => s
    | some r =>
      if r.kind ≠ 0 then s
      else
      let s := takeFabricBoundary s
      if !carriesData s k || s.fab.quiet then sendFiller s k
      else match sourceChan s r.chan with
        | none => sendFiller s k
        | some i => match chan s i with
          | none => sendFiller s k
          | some c => sendChannel s k r.act i c

/-- FORWARD_SLOT (R346): the frame that arrived on IN_LINK in slot s − DELAY leaves, or an IDLE frame. The buffer keeps the frame: another
run may send the same arrival. -/
def execForwardSlot (k : Nat) (s : State) : Out := .next <|
  if !maySend s k then s
  else match runNow s k with
    | none => s
    | some r =>
      if r.kind ≠ 1 then s
      else
      let s := takeFabricBoundary s
      if !carriesData s k || s.fab.quiet then sendFiller s k
      else
        let f := frameIndex s
        match (link s r.inLink).fwd.find? (fun x => x.1 + r.delay = f) with
        | none => sendIdle s k
        | some x => sendData s k x.2 none true

/-- The BEACON payload (R349). -/
def beaconPayload (s : State) : List Byte :=
  beBytes 8 (tb s) ++ beBytes 4 (periodNs s) ++ beBytes 1 (rdBits s (fabBase + 0x40) 16 5) ++ beBytes 1 (rdBits s (fabBase + 0x48) 0 2) ++
    beBytes 2 (deviceId s) ++ slice s.fab.digest 0 32 ++ beBytes 2 s.fab.fails.length ++ beBytes 2 (rd64 s (budBase + 0x50) % 65536)

/-- BEACON_SLOT (R349). -/
def execBeaconSlot (k : Nat) (s : State) : Out := .next <|
  if !maySend s k then s
  else match runNow s k with
    | none => s
    | some r =>
      if r.kind ≠ 2 then s
      else if (link s k).phase ≠ 2 then sendFiller s k
      else (sendFrame s k (baseBytes { kind := 2, rset := rdBits s (fabBase + 0x48) 0 2, sframe := frameIndex s % 2 ^ 32,
                                       payload := beaconPayload s }) false false).1

/-- UNSCHEDULED_FRAME (R335, R346): the oldest pending retransmission, else a late forward, else IDLE. -/
def execUnscheduledFrame (k : Nat) (s : State) : Out := .next <|
  if !maySend s k || (runNow s k).isSome then s
  else if !carriesData s k then sendFiller s k
  else match (link s k).retx with
    | x :: rest =>
      let n := (link s k).frames
      let s := count64 s (fabBase + 0x100 + 8 * k) 1
      let (s, seq, b) := sendFrame s k x.bytes true true
      updLink s k (fun l => { l with retx := rest, sent := l.sent ++ [{ x with at_ := n, seq := seq, tries := x.tries + 1, bytes := b }] })
    | [] => match (link s k).late with
      | b :: rest => sendData (updLink s k (fun l => { l with late := rest })) k b none true
      | [] => sendIdle s k

/-! ### Acknowledgement (R334, R335, R345) -/

/-- Advances a source's RCTR over the longest prefix of acknowledged units. -/
def advanceSource (s : State) (i : Nat) : Nat → State
  | 0 => s
  | n + 1 =>
    match chan s i with
    | none => s
    | some c =>
      let v := sharedPeek s c.rctr 4
      if (List.range (unitFrames c)).all (fun o => c.acked.contains (v, o)) then
        advanceSource (updChan (sharedPoke s c.rctr (leBytes 4 (v + 1))) i (fun c => { c with acked := c.acked.filter (fun x => x.1 ≠ v) })) i n
      else s

/-- A frame has been acknowledged as intact. -/
def ackFrame (s : State) (x : FSent) : State :=
  match x.own with
  | none => s
  | some (i, u, o) =>
    match chan s i with
    | none => s
    | some c =>
      if c.acked.contains (u, o) || !resetChan.reachedNat u (sharedPeek s c.rctr 4) then s
      else advanceSource (updChan s i (fun c => { c with acked := c.acked ++ [(u, o)] })) i (c.slots + 1)

/-- A frame is to be sent again, oldest frame first, or the link is declared failed after its ninth sending (R335). A link that carries no
data while a load is under way declares nothing (R357). -/
def resend (s : State) (k : Nat) (x : FSent) : State :=
  let s := updLink s k (fun l => { l with sent := l.sent.erase x })
  if x.tries ≥ 9 && carriesData s k then declareLink s k
  else updLink s k (fun l => { l with retx := l.retx.filter (fun y => y.born ≤ x.born) ++ x :: l.retx.filter (fun y => x.born < y.born) })

/-- Takes the acknowledgement of a received frame. -/
def takeAck (s : State) (k seq map : Nat) : State :=
  (List.range 4).reverse.foldl (fun s i =>
    match (link s k).sent.find? (fun x => x.seq = (seq + 65536 - i) % 65536) with
    | none => s
    | some x =>
      if bit map i then ackFrame (updLink s k (fun l => { l with sent := l.sent.erase x })) x else resend s k x) s

/-- FRAME_RTO (R335): every frame of a link that has waited RTT_F + 2 frames is sent again. -/
def execFrameRto (k : Nat) (s : State) : Out := .next <|
  if !codecOn s || k ≥ 16 then s
  else
    let l := link s k
    let rto := rdBits s (fabBase + 0x80 + 8 * k) 16 8 + 2
    (l.sent.filter (fun x => x.at_ + rto ≤ l.frames)).foldl (fun s x => resend s k x) s

/-! ### Receiving (R333, R345, R349, R351, R356) -/

/-- Index of a sink channel by number. -/
def sinkChan (s : State) (n : Nat) : Option Nat :=
  (List.range s.fab.chans.length).find? (fun i => (chan s i).any (fun c => c.role = 1 && c.number = n))

/-- A source learns its sink's release count and abort generation (R344, R356). -/
def learnRelease (s : State) (i rel gen : Nat) : State :=
  match chan s i with
  | none => s
  | some c =>
    let s := updChan s i (fun c => { c with rel := rel, rgen := gen })
    if gen = c.rgen then s else abortOnChannel s i

/-- Advances a sink's CTR over the longest prefix of placed units. -/
def advanceSink (s : State) (i : Nat) : Nat → State
  | 0 => s
  | n + 1 =>
    match chan s i with
    | none => s
    | some c =>
      let v := sharedPeek s c.ctr 4
      if (List.range (unitFrames c)).all (fun o => c.placed.contains (v, o)) then
        advanceSink (updChan (sharedPoke s c.ctr (leBytes 4 (v + 1))) i (fun c => { c with placed := c.placed.filter (fun x => x.1 ≠ v) })) i n
      else s

/-- Passes the records of a frame to the combining adder of the channel's core (R345, R76). -/
def passRecords (s : State) (c : FChan) (pl : List Byte) : State :=
  let rs := (List.range (pl.length / 32)).map (fun j => let r : W256 := BitVec.ofNat 256 (leNat (slice pl (32 * j) 32)); (⟨8 + c.number, Config.tagPath (bits r.toNat 128 32), r⟩ : RecFly))
  setCore s c.core { core s c.core with arr := { (core s c.core).arr with recFly := (core s c.core).arr.recFly ++ rs } }

/-- Places an intact frame of a sink channel: a duplicate has no effect (R335, R345). -/
def placePayload (s : State) (i u o : Nat) (pl : List Byte) : State :=
  match chan s i with
  | none => s
  | some c =>
    if c.placed.contains (u, o) || !resetChan.reachedNat u (sharedPeek s c.ctr 4) then s
    else
      let s := if c.kind = 1 then passRecords s c pl else chanWrite s c (u % max 1 c.slots * c.unitBytes + 576 * o) pl
      advanceSink (updChan s i (fun c => { c with placed := c.placed ++ [(u, o)] })) i (c.slots + 1)

/-- The frames of the `n` units from unit `u` on. -/
def wholeUnits (c : FChan) (u n : Nat) : List (Nat × Nat) :=
  (List.range n).flatMap (fun i => (List.range (unitFrames c)).map (fun o => ((u + i) % 2 ^ 32, o)))

/-- CABORT at a sink (R356): its tasks are aborted and its counters return; the channel restarts from unit `u`. The frames placed of
units below `u` are not sent again, so they stand, and CTR passes the complete ones again (R345). -/
def takeCabort (s : State) (i u sframe : Nat) : State :=
  match chan s i with
  | none => s
  | some c =>
    if c.abortAt = some sframe then s
    else
      let full := sharedPeek s c.ctr 4
      let stop := if resetChan.reachedNat u full then full else u
      let s := abortOnChannel s i
      let v := sharedPeek s c.ctr 4
      let old := c.placed.filter (fun x => !resetChan.reachedNat x.1 u)
      let again := if resetChan.reachedNat stop v then wholeUnits c v ((stop + 2 ^ 32 - v) % 2 ^ 32) else []
      let s := updChan s i (fun c => { c with abortAt := some sframe, placed := again ++ old })
      if resetChan.reachedNat v u then sharedPoke s c.ctr (leBytes 4 u) else advanceSink s i (again.length + c.slots + 1)

/-- A DATA frame for this device: REL and RGEN of the reverse pair, CABORT, or data. -/
def takeData (s : State) (i : Nat) (b : List Byte) : State :=
  match chan s i with
  | none => s
  | some c =>
    let s := match sourceChan s (c.number ^^^ 0x8000) with
      | some j => if ((chan s j).map (·.relWord)) = some 0xFFFF then learnRelease s j (beAt b 48 4) (beAt b 52 2) else s
      | none => s
    if bit (beAt b 1 1) 5 then takeCabort s i (beAt b 16 4) (beAt b 8 4)
    else if beAt b 22 2 = 0 then s
    else placePayload s i (beAt b 16 4) (beAt b 20 2) (slice b 56 (beAt b 22 2))

/-- Do the fields of a DATA frame fit the channel that it names (R333)? A unit of data lies in the ring, less than SLOTS units past the
sink's CTR; a header-only frame may also name the unit after those. -/
def dataFits (s : State) (c : FChan) (b : List Byte) : Bool :=
  let n := beAt b 22 2
  beAt b 14 2 = c.peer && beAt b 20 2 < unitFrames c && (n = 0 || n = frameLen c (beAt b 20 2)) &&
  !resetChan.reachedNat (beAt b 16 4) ((sharedPeek s c.ctr 4 + c.slots + (if n = 0 then 1 else 0)) % 2 ^ 32)

/-- The FORWARD slots that send what arrives on link `k` in the frame `f`: frame index, out link (R346). -/
def forwardTo (s : State) (k f : Nat) : List (Nat × Nat) :=
  (List.range 16).flatMap (fun o => ((nth [] (nth {} s.fab.sets (rdBits s (fabBase + 0x48) 0 2)).runs o).filter (fun r =>
    r.kind = 1 && r.inLink = k && r.start ≤ slotOf s (f + r.delay) && slotOf s (f + r.delay) < r.start + r.count)).map (fun r => (f + r.delay, o)))

/-- The reserved bits of a TRAIN payload (R340). -/
def trainReservedOk (pl : List Byte) : Bool :=
  beAt pl 1 1 < 16 && beAt pl 3 1 = 0 && beAt pl 11 1 = 0 && allZero (slice pl 68 508)

/-- Are the reserved bits of a frame 0 (R333, R339)? -/
def reservedOk (b : List Byte) (old : Bool) : Bool :=
  let z (o n : Nat) : Bool := beAt b o n = 0
  beAt b 0 1 ≤ 3 && beAt b 1 1 < 64 && beAt b 6 1 < 16 && beAt b 7 1 < 4 && beAt b 14 2 < 2048 && beAt b 24 2 < 1024 && beAt b 26 2 < 1024 &&
  bits (beAt b 36 4) 15 1 = 0 && bits (beAt b 36 4) 24 8 = 0 && z 54 2 && z 636 4 && beAt b 22 2 ≤ 576 &&
  (beAt b 0 1 ≠ 3 || trainReservedOk (slice b 56 576)) && (!old || (!bit (beAt b 1 1) 4 && z 40 8))

/-- Notes the receipt of a frame in the acknowledgement fields: SEQ, and whether it was intact. -/
def noteReceipt (s : State) (k seq : Nat) (intact : Bool) : State :=
  updLink s k (fun l =>
    let d := (seq + 65536 - l.rxSeq) % 65536
    { l with rxSeq := seq, ackMap := ((if d ≥ 4 then 0 else l.ackMap * 2 ^ d) + intact.toNat) % 16 })

/-- A forwarding slot whose frame is missing: the frame will come again, too late for it (R346). -/
def noteGap (s : State) (k : Nat) : State :=
  let f := frameIndex s
  if !s.fab.loaded then s
  else updLink s k (fun l => { l with gaps := l.gaps ++ (forwardTo s k f).map (fun x => (f, x)) })

/-- Takes a frame of the arrival slot `f` that came again: into the forward buffer for departure slots still to come, and into the
unscheduled frames of the links whose slot has passed (R346). -/
def forwardAgain (s : State) (k f : Nat) (b : List Byte) : State :=
  let mine := (link s k).gaps.filter (fun x => x.1 = f)
  let s := updLink s k (fun l => { l with gaps := l.gaps.filter (fun x => x.1 ≠ f),
                                          fwd := if mine.any (fun x => decide (frameIndex s ≤ x.2.1)) then (f, b) :: l.fwd else l.fwd })
  (mine.filter (fun x => decide (x.2.1 < frameIndex s))).foldl (fun s x => updLink s x.2.2 (fun l => { l with late := l.late ++ [b] })) s

/-- A DATA frame that arrives on link `k`: forwarded, late or for this device; `none` when it does not fit. The forward buffer holds
the frames of the last 64 arrival slots. -/
def routeData (s : State) (k : Nat) (b : List Byte) : Option State :=
  let f := frameIndex s
  let retx := bit (beAt b 1 1) 0
  match sinkChan s (beAt b 12 2) with
  | some i => if (chan s i).any (fun c => dataFits s c b) then some (takeData s i b) else none
  | none =>
    if !retx then
      if (forwardTo s k f).isEmpty then none
      else some (updLink s k (fun l => { l with fwd := (f, b) :: l.fwd.filter (fun x => f ≤ x.1 + 64) }))
    else match (link s k).gaps.find? (fun x => decide (x.1 % 2 ^ 32 ≥ beAt b 8 4)) with
      | none => some s
      | some g => some (forwardAgain s k g.1 b)

/-- A beacon (R349, R350, R357). -/
def takeBeacon (s : State) (k : Nat) (pl : List Byte) : State :=
  let s := showLink (updLink s k (fun l => { l with peerDigest := slice pl 16 32 })) k
  let l := link s k
  let skew : Int := (tb s : Int) - (beAt pl 0 8 : Nat) - l.delayNs
  let s := wr64 s (fabBase + 0x200 + 8 * k) (ofSigned 64 skew)
  let step := beAt pl 50 2
  let from_ := if l.stepCnt ≠ 0 && l.stepCnt ≠ step + 1 then tb s + 2000000000 else l.skewFrom
  let s := updLink s k (fun l => { l with stepCnt := step + 1, skewFrom := from_ })
  if !s.fab.loaded || tb s < from_ then updLink s k (fun l => { l with skewRun := 0 })
  else
    let big (n : Nat) : Bool := decide (10 * skew.natAbs > n)
    let s := if big 512 then arrive (count64 s (fabBase + 0x280 + 8 * k) 1) 240 k else s
    let run := if big 1024 then l.skewRun + 1 else 0
    let s := updLink s k (fun l => { l with skewRun := run })
    if run ≥ 3 then declareLink s k else s

/-- A fabric-wide shutter instant arrives (R351). -/
def takeShutter (s : State) (k t : Nat) : State :=
  let pending := bit (rd32 s (shtBase + 0x58)) 2
  let held := rd64 s (shtBase + 0x68)
  if pending && held = t then s
  else if t ≤ tb s then arrive (count64 s (fabBase + 0x3A8) 1) 244 k
  else if pending then
    let s := arrive (count64 s (fabBase + 0x3B0) 1) 244 k
    if t < held then armInstant s t true else s
  else armInstant s t true

/-- The header of an intact frame: acknowledgement, peeks, notice and shutter. -/
def takeHeader (s : State) (k : Nat) (b : List Byte) : State :=
  let fl := beAt b 1 1
  let s := takeAck s k (beAt b 4 2) (beAt b 6 1)
  let s := if bit fl 1 then updLink s k (fun l => { l with peekAns := some (beAt b 24 2) }) else s
  let s := if bit fl 2 then
      let w := beAt b 26 2
      let s := updLink s k (fun l => if l.peekOut = some w then { l with peekOut := none, peekAgain := false } else l)
      let l := link s k
      let s := if l.peekSoft && l.peekAsk = some w then
          updLink (wr32 (wr64 s (fabBase + 0x68) (beAt b 28 8)) (fabBase + 0x70) 1) k (fun l => { l with peekSoft := false, peekAsk := none })
        else s
      ((List.range s.fab.chans.length).filter (fun i => (chan s i).any (fun c => c.role = 0 && c.relWord = w && c.relWord ≠ 0xFFFF && c.peer = l.peerDev))).foldl
        (fun s i => learnRelease s i (beAt b 32 4) (beAt b 30 2)) s
    else s
  let s := if bit fl 3 then takeNotice s (bits (beAt b 36 4) 0 11) (bits (beAt b 36 4) 11 4) (bits (beAt b 36 4) 16 8) else s
  if bit fl 4 then takeShutter s k (beAt b 40 8) else s

/-! ### Training (R338, R340) -/

/-- The location of lane `i` of Filzel link `k`, transmit (0) or receive (1): links F0 to F7 lie on L-die 0 and F8 to F15 on L-die 1
(R13, R432). -/
def laneLoc (k d i : Nat) : Nat := 6 * 2 ^ 28 + k / 8 % 2 * 2 ^ 24 + d % 2 * 2 ^ 23 + Config.laneNumber k d i % 256

/-- Repairs of optical lanes of link `k` that take effect at its training (R442). -/
def takeLanes (s : State) (k : Nat) : State :=
  let mine := (List.range 2).flatMap (fun d => (List.range 4).map (fun i => laneLoc k d i))
  (s.rep.pend.filter (fun p => mine.contains p.loc)).foldl finishRepair s

/-- Spare lanes that link `k` uses. -/
def linkSpares (s : State) (k : Nat) : Nat :=
  (((List.range 2).flatMap (fun d => (List.range 4).map (fun i => laneLoc k d i))).filter (fun x => s.rep.optical.contains x)).length

/-- Replaces lanes of link `k`, transmit (0) or receive (1), from the spares (R340, R434). -/
def replaceLanes (s : State) (k dir mask : Nat) : State :=
  takeLanes (((List.range 4).filter (fun i => bit mask i)).foldl (fun s i => engage s (laneLoc k dir i) 0 0) s) k

/-- A lane check begins. -/
def startCheck (s : State) (k round : Nat) : State :=
  updLink s k (fun l => { l with phase := 1, checking := true, round := round, rxOk := 0 })

/-- Training begins (R338): the lanes excluded since the last training are replaced first (R442). -/
def startTraining (s : State) (k : Nat) : State :=
  let s := takeLanes s k
  let s := updLink s k (fun l => { l with
    bad := 0, bad2 := 0, sentStep := 1, readyTx := false, readyRx := false, verOk := false, peerDev := 0xFFFF, peerLink := 0, peerDigest := [], rtts := [] })
  showLink (startCheck s k 0) k

/-- Training has failed: the link is down until it tries again (R338). -/
def trainingFails (s : State) (k : Nat) : State := showLink (updLink s k (fun l => { l with phase := 0, checking := false })) k

/-- FIBRE_LIGHT_GAINED (R338). -/
def execFibreLightGained (k : Nat) (s : State) : Out := .next <|
  if !codecOn s || k ≥ 16 then s
  else
    let s := updLink s k (fun l => { l with light := true })
    if (link s k).phase = 0 then startTraining s k else s

/-- Counts a retrain (R352, R450). -/
def countRetrain (s : State) (k : Nat) : State := satCount64 (count64 s (fabBase + 0x300 + 8 * k) 1) (lfcBase + 0x200 + 8 * k) 1

/-- TRAIN_RETRY (R338). -/
def execTrainRetry (k : Nat) (s : State) : Out := .next <|
  if codecOn s && k < 16 && (link s k).phase = 0 && (link s k).light then startTraining (countRetrain s k) k else s

/-- LANE_CHECK_END (R340): the lanes named in `bad` did not receive cleanly; the link reports its lanes. -/
def execLaneCheckEnd (k : Nat) (bad : List Nat) (s : State) : Out := .next <|
  if !codecOn s || k ≥ 16 || (link s k).phase ≠ 1 || !(link s k).checking then s
  else
    let ok := ((List.range 4).filter (fun i => !bad.contains i)).map (2 ^ ·)
    sendTrain (updLink s k (fun l => { l with checking := false, sentStep := 1, rxOk := ok.sum })) k 1 0 0

/-- Both ends have reported their lanes: on to STEP 2, or another round after lane repair (R340). A transmitter is replaced when the peer
found its lane not clean in a round, and again in the two rounds after it replaced its own receiver. -/
def lanesReported (s : State) (k peerOk : Nat) : State :=
  let l := link s k
  let peerBad := 15 - peerOk % 16
  if l.rxOk = 15 && peerBad = 0 then sendTrain (updLink s k (fun l => { l with sentStep := 2 })) k 2 0 0
  else if l.round ≥ 3 then trainingFails s k
  else
    let s := replaceLanes s k 1 (15 - l.rxOk)
    let s := replaceLanes s k 0 (peerBad &&& l.bad2)
    startCheck (updLink s k (fun l => { l with bad := peerBad, bad2 := peerBad &&& l.bad })) k (l.round + 1)

/-- The highest version that both ends accept (R3). -/
def agreeVersion (lo hi plo phi : Nat × Nat) : Option (Nat × Nat) :=
  let v := min hi.2 phi.2
  if lo.1 = plo.1 && max lo.2 plo.2 ≤ v then some (lo.1, v) else none

/-- The median of 16 round trips, doubled. -/
def median2 (xs : List Nat) : Nat :=
  let ys := xs.mergeSort (fun a b => a ≤ b)
  nth 0 ys 7 + nth 0 ys 8

/-- What a load does to the training of link `k` (R338): a dark link with light trains, and so does one whose version the new image does not
accept (log entry 71). -/
def trainAfterLoad (s : State) (k : Nat) : State :=
  let (lo, hi) := filzelRange s
  let a := fabBase + 0x80 + 8 * k
  let ok := rdBits s a 8 4 = lo.1 && lo.2 ≤ rdBits s a 12 4 && rdBits s a 12 4 ≤ hi.2
  if (link s k).light && ((link s k).phase = 0 || ((link s k).phase = 2 && !ok)) then startTraining s k else s

/-- Both ends are ready: the link comes UP, or is down and tries again (R338). -/
def decideUp (s : State) (k : Nat) : State :=
  let l := link s k
  let m := median2 l.rtts
  let rttF := max 2 (ceilDiv (m * 10) 512)
  if !(l.readyTx && l.readyRx) then s
  else if !(l.rxOk = 15 && l.verOk && s.fab.loaded && l.peerDev ≠ 0xFFFF && linkPeer s k = (l.peerDev, l.peerLink) && rttF ≤ 255) then trainingFails s k
  else
    let a := fabBase + 0x80 + 8 * k
    let s := wrBits s a 16 8 rttF
    let w := rd64 s a
    let s := wr64 s a (setBits (setBits (setBits w 24 11 l.peerDev) 35 4 l.peerLink) 39 4 (linkSpares s k))
    showLink (updLink s k (fun l => { l with phase := 2, delayNs := m / 4, lostAt := 0, skewRun := 0 })) k

/-- STEP 2 and beyond of the peer: the version, once. -/
def takeVersion (s : State) (k : Nat) (pl : List Byte) : State :=
  if (link s k).sentStep ≠ 2 then s
  else
    let own := trainPayload s k 2 0 0
    let v (p : List Byte) (o : Nat) : Nat × Nat := (beAt p o 1, beAt p (o + 1) 1)
    match agreeVersion (v own 4) (v own 6) (v pl 4) (v pl 6) with
    | none => trainingFails s k
    | some x =>
      let a := fabBase + 0x80 + 8 * k
      sendTrain (updLink (wrBits (wrBits s a 8 4 x.1) a 12 4 x.2) k (fun l => { l with verOk := true, sentStep := 3 })) k 3 0 0

/-- Does device `dev` differ from the peer that LINK_PEER names for link `k`? A link without a peer there has none to differ from. -/
def wrongPeer (s : State) (k dev : Nat) : Bool := (linkPeer s k).1 ≠ 0xFFFF && dev ≠ (linkPeer s k).1

/-- STEP 3 and beyond: the peer's identity, once. A peer with another ID than LINK_PEER names puts the link into the failure
set (R352); one without an image only keeps it down. -/
def takeIdentity (s : State) (k : Nat) (pl : List Byte) : State :=
  if (link s k).sentStep ≠ 3 then s
  else
    let dev := beAt pl 8 2
    let s := updLink s k (fun l => { l with peerDev := if bit dev 15 then 0xFFFF else dev % 2048, peerLink := beAt pl 10 1, peerDigest := slice pl 12 32 })
    let s := if s.fab.loaded && !bit dev 15 && wrongPeer s k (dev % 2048) then declareLink s k else s
    sendTrain (updLink s k (fun l => { l with sentStep := 4 })) k 4 0 0

/-- A load's LINK_PEER against the peers of the links that are up (R352). -/
def checkPeers (s : State) : State :=
  (List.range 16).foldl (fun s k => if (link s k).phase = 2 && wrongPeer s k (link s k).peerDev then declareLink s k else s) s

/-- A TRAIN frame (R340). -/
def takeTrain (s : State) (k : Nat) (pl : List Byte) : State :=
  let step := beAt pl 0 1
  let l := link s k
  if l.checking then s
  else if step = 4 then sendTrain (takeIdentity (takeVersion s k pl) k pl) k 5 (beAt pl 44 8) (tb s)
  else if l.phase ≠ 1 then
    if step = 3 || step = 6 then showLink (updLink s k (fun l => { l with peerDigest := slice pl 12 32 })) k else s
  else match step with
    | 1 => if l.sentStep = 1 && beAt pl 2 1 = l.round then lanesReported s k (beAt pl 1 1) else s
    | 2 => takeVersion s k pl
    | 3 => takeIdentity (takeVersion s k pl) k pl
    | 5 =>
      if l.sentStep ≠ 4 then s
      else
        let rtt := (tb s - beAt pl 52 8) - (beAt pl 44 8 - beAt pl 60 8)
        let s := updLink s k (fun l => { l with rtts := l.rtts ++ [rtt] })
        if (link s k).rtts.length < 16 then sendTrain s k 4 0 0
        else decideUp (sendTrain (updLink s k (fun l => { l with sentStep := 6, readyTx := true })) k 6 0 0) k
    | 6 => decideUp (updLink s k (fun l => { l with readyRx := true })) k
    | _ => s

/-- FABRIC_FRAME_RX (R333): an arriving frame is checked, acknowledged, and placed, forwarded or acted on. -/
def execFabricFrameRx (k : Nat) (b : List Byte) (s : State) : Out := .next <|
  let l := link s k
  if !codecOn s || k ≥ 16 || l.phase = 0 || l.checking || b.length ≠ 640 then s
  else if beAt b 632 4 ≠ (crc32c (b.take 632)).toNat then
    let s := sticky (countCE (count64 s (fabBase + 0x180 + 8 * k) 1) 5 1) fabBase stickyCE
    let s := updLink s k (fun l => { l with peekAgain := l.peekOut.isSome })
    noteGap (noteReceipt s k ((l.rxSeq + 1) % 65536) false) k
  else
    let seq := beAt b 2 2
    let bad : State := noteGap (noteReceipt (count64 s (fabBase + 0x398) 1) k seq false) k
    if !reservedOk b (decide (l.phase = 2) && rdBits s (fabBase + 0x80 + 8 * k) 12 4 = 0) then bad
    else
      let s0 := noteReceipt s k seq true
      match beAt b 0 1 with
      | 1 =>
        if !carriesData s k then takeHeader s0 k b
        else match routeData s0 k b with
          | none => bad
          | some s => takeHeader s k b
      | 2 => let s := takeHeader s0 k b; if l.phase = 2 then takeBeacon s k (slice b 56 576) else s
      | 3 => takeTrain (takeHeader s0 k b) k (slice b 56 576)
      | _ => takeHeader s0 k b

/-! ### Losses -/

/-- LANE_LOCK_LOSS (R338, R352): the link goes down and retrains. -/
def execLaneLockLoss (k : Nat) (s : State) : Out := .next <|
  if !codecOn s || k ≥ 16 || (link s k).phase ≠ 2 then s
  else startTraining (countRetrain (updLink s k (fun l => { l with lostAt := tb s + 1, fwd := [], gaps := [] })) k) k

/-- LOCK_LOSS_TIMEOUT (R352): not UP again within 100 µs. -/
def execLockLossTimeout (k : Nat) (s : State) : Out := .next <|
  let l := link s k
  if codecOn s && k < 16 && l.lostAt ≠ 0 && l.phase ≠ 2 && decide (tb s ≥ l.lostAt - 1 + 100000) then
    declareLink (updLink s k (fun l => { l with lostAt := 0 })) k
  else s

/-- POST_LOAD_LINK_CHECK (R352): a link that a route set uses is not UP 10 ms after the load's DONE. -/
def execPostLoadLinkCheck (k : Nat) (s : State) : Out := .next <|
  if codecOn s && k < 16 && s.fab.loaded && decide (tb s ≥ s.fab.doneAt + 10000000) && (link s k).phase ≠ 2 &&
      s.fab.sets.any (fun r => !(nth [] r.runs k).isEmpty) then declareLink s k
  else s

end Sys2Proof.Machine
end

