-- ==== Sys2Proof/Machine/LoaderTables.lean ====
section
/-! DEFINITION. Loader checks 0x0F10 to 0x0F16 on the tables of an image, and the FABRIC part as data (R148, R203, R248 to R261,
R273, R279, R300, R336, R341 to R348, R510). -/

namespace Sys2Proof.Machine

/-! ### DEVICE (R248, R249) -/

/-- The version ranges of DEVICE, Pulys, Filzel, HCP, and the shipped versions (R2). -/
def verMin (d : List Byte) (i : Nat) : Nat × Nat := (leAt d (4 + 4 * i) 1, leAt d (5 + 4 * i) 1)
def verMax (d : List Byte) (i : Nat) : Nat × Nat := (leAt d (6 + 4 * i) 1, leAt d (7 + 4 * i) 1)
def shipped (i : Nat) : Nat × Nat := nth (0, 0) [(1, 2), (1, 1), (1, 3)] i

/-- 0x0F16 and 0x0F15. -/
def deviceCheck (p : Pimg) : Chk Unit := do
  if p.scope = 1 then return ()
  let d := p.get secDevice 0
  let x := p.idx secDevice 0
  must (decide (100000 ≤ leAt d 0 4) && decide (leAt d 0 4 ≤ 100000000) && leAt d 16 1 = (p.insts secPartition).length &&
    decide (1 ≤ leAt d 16 1) && decide (leAt d 16 1 ≤ 8) && allZero (d.drop 17)) 0x0F16 x
  mustAll (List.range 3) (fun i =>
    must ((verMin d i).1 = (verMax d i).1 && decide ((verMin d i).2 ≤ (verMax d i).2) && (verMax d i).1 = (shipped i).1 &&
      decide ((verMax d i).2 ≤ (shipped i).2)) 0x0F15 x i)

/-! ### Partitions and cores (R17, R21, R251, R252) -/

/-- Cores that the image configures. -/
def mineOf (cores : Nat) (p : Pimg) : List Nat := if p.scope = 0 then List.range 8 else (List.range 8).filter (bit cores)
/-- Pairs of a PARTITION part. -/
def pairsOf (b : List Byte) : List (Nat × Nat) := (List.range (min 4 (leAt b 1 1))).map (fun j => (leAt b (4 + 2 * j) 1, leAt b (5 + 2 * j) 1))
/-- Slot masks of the partitions other than `q`: those of the image, and for a partial image those that run. -/
def otherSlots (s : State) (p : Pimg) (q : Nat) : Nat :=
  if p.scope = 0 then ((p.insts secPartition).filter (· ≠ q)).foldl (fun m r => m ||| leAt (p.get secPartition r) 16 32) 0
  else ((List.range 8).filter (· ≠ q)).foldl (fun m r => m ||| (SMap.get {} s.img.parts r).slots) 0
/-- Core masks of the partitions of the image before `q`. -/
def earlierCores (p : Pimg) (q : Nat) : Nat :=
  ((p.insts secPartition).filter (· < q)).foldl (fun m r => m ||| leAt (p.get secPartition r) 0 1) 0

/-- 0x0F10. -/
def partitionCheck (s : State) (cores : Nat) (p : Pimg) : Chk Unit := do
  mustAll (p.insts secPartition) (fun q =>
    let b := p.get secPartition q
    let c := leAt b 0 1
    must (c ≠ 0 && c &&& earlierCores p q = 0 && decide (leAt b 1 1 ≤ 4) && allZero (slice b 2 2) && allZero (slice b 12 4) &&
      allZero (b.drop 48) && (pairsOf b).all (fun (e, d) => e ≠ d && e < 8 && d < 8 && bit c e && bit c d) &&
      leAt b 16 32 &&& otherSlots s p q = 0) 0x0F10 (p.idx secPartition q))
  mustAll (mineOf cores p) (fun n =>
    let b := p.get secCore n
    let home := ((p.insts secPartition).find? (fun q => bit (leAt (p.get secPartition q) 0 1) n)).getD 0xFF
    must (leAt b 0 1 = home && decide (leAt b 1 1 ≤ 2) && leAt b 7 1 = 0 && leAt b 11 1 = 0 && allZero (b.drop 60) &&
      decide (leAt b 3 1 < 8)) 0x0F10 (p.idx secCore n))

/-- Cores of the image that belong to a partition. -/
def placed (cores : Nat) (p : Pimg) : List Nat := (mineOf cores p).filter (fun n => leAt (p.get secCore n) 0 1 ≠ 0xFF)

/-! ### Store split (R253, R273) -/

/-- TILE_MIB of every core in the image or, for a partial image, as it runs. -/
def tileOf (s : State) (p : Pimg) (n : Nat) : Nat := if p.has secCore n then leAt (p.get secCore n) 2 1 else (coreCfg s n).tileMib
/-- Bytes of a shared half under the image. -/
def imgHalf (s : State) (p : Pimg) (die : Nat) : Nat := (192 - ((List.range 4).map (fun i => tileOf s p (4 * die + i))).sum) * 2 ^ 20

/-- 0x0F11. -/
def splitCheck (cores : Nat) (p : Pimg) : Chk Unit :=
  mustAll (mineOf cores p) (fun n =>
    let t := leAt (p.get secCore n) 2 1
    must (t % 4 = 0 && decide (8 ≤ t) && decide (t ≤ 44)) 0x0F11 (p.idx secCore n))

/-! ### HBM map (R254, R281, R300) -/

def pageVpn (e : Nat) : Nat := bits e 0 27
def pagePpn (e : Nat) : Nat := bits e 27 16
/-- Page entries of a partition in the image. -/
def pagesOf (p : Pimg) (q : Nat) : List Nat := (records 8 (p.get secHbm q)).map leNat
/-- Page entries of a partition that runs, in the form of R254. -/
def runPages (s : State) (q : Nat) : List Nat := (s.img.pages.filter (fun x => x.1 / 2 ^ 27 = q)).map (fun x => x.2 % 2 ^ 63)
/-- Page entries of the other partitions: of the image, or as they run. -/
def otherPages (s : State) (p : Pimg) (q : Nat) : List Nat :=
  ((if p.scope = 0 then p.insts secPartition else List.range 8).filter (· ≠ q)).flatMap (fun r => if p.scope = 0 then pagesOf p r else runPages s r)

/-- 0x0F12. -/
def hbmCheck (s : State) (cores : Nat) (p : Pimg) : Chk Unit := do
  mustAll (p.insts secPartition) (fun q =>
    let es := pagesOf p q
    let theirs := (otherPages s p q).map pagePpn
    let x := p.idx secHbm q
    mustAll (indexed es) (fun (i, e) =>
      must (bits e 45 19 = 0 && decide (pagePpn e < 61440) && !(((es.take i).map pageVpn).contains (pageVpn e)) &&
        !theirs.contains (pagePpn e)) 0x0F12 x i))
  let all := (p.insts secPartition).flatMap (pagesOf p) ++ (if p.scope = 1 then otherPages s p p.partId else [])
  must (decide (all.length ≤ 65536) && (List.range 8).all (fun k =>
    decide ((all.filter (fun e => bit e 44 && pageStack (pagePpn e) = k)).length ≤ 1024))) 0x0F12
  mustAll (placed cores p) (fun n =>
    let b := p.get secCore n
    mustAll [leAt b 40 8, leAt b 48 8] (fun va =>
      must (va = 0 || (pagesOf p (leAt b 0 1)).any (fun e => pageVpn e = bits va 21 27 && bit e 43 && va < 2 ^ 48)) 0x0F12 (p.idx secCore n)))

/-! ### Models (R148, R203, R259 to R261, R510) -/

def mdLayers (b : List Byte) : Nat := leAt b 32 4
def mdTab (b : List Byte) : Nat := leAt b 40 8
def mdCb (b : List Byte) : Nat := leAt b 48 8
def mdLayer (b : List Byte) (i : Nat) : List Byte := slice b (64 + 64 * i) 64
/-- Rounds up to 64. -/
def up64 (n : Nat) : Nat := (n + 63) / 64 * 64
/-- Start of the micro-programs part: after the layer table and the side tables. -/
def mdUprogAt (b : List Byte) : Nat := up64 (64 + 64 * mdLayers b + leAt b 8 2 + 36)
/-- Walks `n` micro-programs from offset `o`: their instruction lists and the end, none past the bytes. -/
def mdUprogs (b : List Byte) : Nat → Nat → Option (List (List Nat) × Nat)
  | 0, o => some ([], o)
  | n + 1, o =>
    let k := leAt b o 2
    if o + 2 + 8 * k > b.length then none
    else match mdUprogs b n (o + 2 + 8 * k) with
      | none => none
      | some (ps, e) => some ((List.range k).map (fun i => leAt b (o + 2 + 8 * i) 8) :: ps, e)
/-- The micro-programs of a model. -/
def mdPrograms (b : List Byte) : List (List Nat) := match mdUprogs b (leAt b 36 4) (mdUprogAt b) with | some (ps, _) => ps | none => []
/-- Is a row of 256 bytes valid (R148)? -/
def bankRowOk (row : List Byte) : Bool :=
  leAt row 0 2 = 0 && (List.range 127).all (fun u => decide (leAt row (2 * u) 2 < leAt row (2 * u + 2) 2))
/-- Number of epoch tables. -/
def mdEpochs (b : List Byte) : Nat := (if leAt b 20 2 = 0 then 0 else 1) + (if leAt b 22 2 = 0 then 0 else 1)
/-- Are E[0] to E[15] at offset `o` within R203? -/
def cbCountsOk (b : List Byte) (o : Nat) : Bool :=
  (List.range 16).all (fun i => let e := leAt b (o + 2 * i) 2; if i < leAt b 19 1 then 1 ≤ e && e ≤ 1024 else e = 0)

/-- Is a MODEL part well formed apart from its layers and rows? -/
def modelShape (b : List Byte) : Bool :=
  let sm := leAt b 19 1
  allZero (slice b 56 8) && sm ≤ 16 && (sm = 0 || (1 ≤ leAt b 18 1 && leAt b 18 1 ≤ 128)) &&
  (match mdUprogs b (leAt b 36 4) (mdUprogAt b) with
   | none => false
   | some (_, e) => mdTab b % 64 = 0 && e ≤ mdTab b && mdTab b + 262144 * mdEpochs b ≤ b.length) &&
  (if sm = 0 then mdCb b = 0 else mdCb b % 64 = 0 && mdTab b + 262144 * mdEpochs b ≤ mdCb b && mdCb b < b.length &&
    (mdEpochs b = 0 || cbCountsOk b (mdCb b)) && (mdEpochs b < 2 || cbCountsOk b (mdCb b + cbPartBytes b (mdCb b))))

/-- Is a layer record consistent with its model's header (R260)? -/
def layerShape (b l : List Byte) : Bool :=
  let src (i : Nat) : Bool := i ≥ 0xFFFE || i < mdLayers b
  leAt l 0 1 ≤ 4 && leAt l 1 1 ≤ 1 && src (leAt l 6 2) && src (leAt l 8 2) && allZero (l.drop 56) && bits (leAt l 5 1) 5 3 = 0 &&
  (leAt l 0 1 < 3 || leAt l 52 2 < leAt b 36 4)

/-- A TUNING part (R261). -/
def tuningCheck (p : Pimg) (m : Nat) : Chk Unit :=
  mustAll (indexed (records 4 (p.get secTuning m))) (fun (i, r) =>
    must (leAt r 1 1 = 0 && decide (leAt r 2 2 ≤ 4095)) 0x0F13 (p.idx secTuning m) i)

/-- Digests of the models that run in slots which the image does not replace. -/
def keptDigests (s : State) (p : Pimg) : List (List Byte) :=
  if p.scope = 0 then [] else
    (s.img.models.filter (fun x => !bit (SMap.get {} s.img.parts p.partId).slots x.1 && !bit (p.slotMask p.partId) x.1)).map (fun x => x.2.digest)

/-- 0x0F13. -/
def modelCheck (s : State) (cores : Nat) (p : Pimg) : Chk Unit := do
  mustAll (p.insts secModel) (fun m => do
    let b := p.get secModel m
    let x := p.idx secModel m
    must (modelShape b) 0x0F13 x
    mustAll (List.range (mdLayers b)) (fun i => must (layerShape b (mdLayer b i)) 0x0F13 x i)
    mustAll (List.range (1024 * mdEpochs b)) (fun r => must (bankRowOk (slice b (mdTab b + 256 * r) 256)) 0x0F13 x r)
    must (!((((p.insts secModel).filter (· < m)).map (fun k => sha3_256 (p.get secModel k)) ++ keptDigests s p).contains (sha3_256 b))) 0x0F13 x)
  mustAll (p.insts secTuning) (tuningCheck p)
  mustAll (placed cores p) (fun n =>
    let c := p.get secCore n
    mustAll [(leAt c 4 2, leAt c 6 1), (leAt c 8 2, leAt c 10 1)] (fun (ep, sl) =>
      let b := p.get secModel sl
      must (ep = 0 || (p.has secModel sl && (leAt b 20 2 = ep || leAt b 22 2 = ep) && bit (p.slotMask (leAt c 0 1)) sl)) 0x0F13
        (p.idx secCore n)))

/-! ### FABRIC (R336, R341 to R344, R348) -/

/-- A run of 16 bytes (R342). -/
def runAt (b : List Byte) (o : Nat) : FRun :=
  { start := leAt b o 2, count := leAt b (o + 2) 2 + 1, kind := leAt b (o + 4) 1, inLink := leAt b (o + 5) 1, delay := leAt b (o + 6) 2,
    chan := leAt b (o + 8) 2, act := leAt b (o + 10) 1 }
/-- Runs of links from `l` on, of the set at `o`, beginning at byte `a`. -/
def linkRuns (b : List Byte) (o : Nat) : List Nat → Nat → List (List FRun)
  | [], _ => []
  | l :: ls, a => let k := leAt b (o + 272 + 2 * l) 2; (List.range k).map (fun i => runAt b (a + 16 * i)) :: linkRuns b o ls (a + 16 * k)
/-- `n` route sets from offset `o`. -/
def setsAt (b : List Byte) : Nat → Nat → List RouteSet
  | 0, _ => []
  | n + 1, o =>
    { absent := (List.range (min 64 (leAt b o 2))).map (fun i => (leAt b (o + 16 + 4 * i) 2, leAt b (o + 18 + 4 * i) 1)),
      runs := linkRuns b o (List.range 16) (o + 304) } :: setsAt b n (o + 304 + 16 * setRuns b o)
/-- A channel entry of 32 bytes (R343). -/
def chanAt (b : List Byte) : FChan :=
  { number := leAt b 0 2, role := leAt b 2 1, kind := leAt b 3 1, peer := leAt b 4 2, core := leAt b 6 1, act := leAt b 7 1,
    unitBytes := leAt b 8 4, slots := leAt b 12 2, relWord := leAt b 14 2, base := leAt b 16 8, ctr := leAt b 24 4, rctr := leAt b 28 4 }
def fabDevice (b : List Byte) : Nat := leAt b 0 2
def fabLog2 (b : List Byte) : Nat := leAt b 2 1
def fabLead (b : List Byte) : Nat := leAt b 4 4
def fabSets (b : List Byte) : List RouteSet := setsAt b (leAt b 3 1) 128
def fabChans (b : List Byte) : List FChan := (records 32 (b.drop (128 + setsBytes b (leAt b 3 1) 128))).map chanAt
/-- The image as parsed from bytes, with the fabric that it runs on (R269). -/
def imgOf (s : State) (bs : List Byte) : Pimg :=
  let p := pimg bs
  if p.scope = 0 then { p with sets := fabSets (p.get secFabric 0), chans := fabChans (p.get secFabric 0) }
  else { p with sets := s.fab.sets, chans := s.fab.chans }
/-- LINK_PEER: peer device and link by link. -/
def fabPeers (b : List Byte) : List (Nat × Nat) := (List.range 16).map (fun k => (leAt b (16 + 4 * k) 2, leAt b (18 + 4 * k) 1))

/-- Scheduled slots among the 64 from slot `a`, in a period of `n` slots. -/
def inWindow (rs : List FRun) (n a : Nat) : Nat :=
  (rs.map (fun r => (min (r.start + r.count) (a + 64) - max r.start a) + (min (r.start + n + r.count) (a + 64) - max (r.start + n) a))).sum
/-- Are the runs of a link sorted, disjoint, within the period, and at most 56 of any 64 consecutive frames (R336)? -/
def runsOk (n : Nat) (rs : List FRun) : Bool :=
  (rs.zip (rs.drop 1)).all (fun (a, b) => a.start + a.count ≤ b.start) && rs.all (fun r => r.start + r.count ≤ n) &&
  rs.all (fun r => inWindow rs n r.start ≤ 56)
/-- The name of a link by its lower-numbered end (R341). -/
def linkName (dev k : Nat) (peer : Nat × Nat) : Nat × Nat :=
  if peer.1 < dev || (peer.1 = dev && peer.2 < k) then peer else (dev, k)
/-- Is a run consistent with the links, the channels and R342? -/
def runOk (b : List Byte) (x : RouteSet) (k : Nat) (r : FRun) : Bool :=
  let peers := fabPeers b
  let up (l : Nat) : Bool := let q := nth (0xFFFF, 0) peers l; q.1 ≠ 0xFFFF && !x.absent.contains (linkName (fabDevice b) l q)
  up k && (match r.kind with
    | 0 => (fabChans b).any (fun c => c.number = r.chan && c.role = 0 && c.act = r.act)
    | 1 => r.inLink < 16 && up r.inLink && 2 ≤ r.delay && r.delay ≤ 64
    | 2 => true
    | _ => false)

/-- Does a store address name `n` bytes of the shared store under the image? -/
def inShared (s : State) (p : Pimg) (a n : Nat) : Bool :=
  (0x80000000 ≤ a && a + n ≤ 0x80000000 + imgHalf s p 0) || (0xC0000000 ≤ a && a + n ≤ 0xC0000000 + imgHalf s p 1)
/-- Is a channel entry consistent (R343, R344)? -/
def chanOk (s : State) (p : Pimg) (b : List Byte) (c : FChan) : Bool :=
  let near := (fabPeers b).any (fun q => q.1 = c.peer)
  let back := (fabChans b).any (fun d => d.number = c.number ^^^ 0x8000 && d.role ≠ c.role && d.peer = c.peer)
  let q := c.act / 4
  let ring := c.slots * c.unitBytes
  c.role ≤ 1 && c.kind ≤ 1 && 1 ≤ c.unitBytes && c.unitBytes ≤ 2 ^ 24 && (c.kind = 0 || c.unitBytes % 32 = 0) && 1 ≤ c.slots && c.slots ≤ 4096 &&
  c.act % 4 < 3 && p.has secPartition q && c.ctr % 4 = 0 && c.rctr % 4 = 0 && inShared s p c.ctr 4 && inShared s p c.rctr 4 &&
  (if c.role = 1 && c.kind = 1 then c.core < 8 && bit (leAt (p.get secPartition q) 0 1) c.core
   else if bit c.base 63 then (range' (c.base % 2 ^ 48 / 2 ^ 21) ((c.base % 2 ^ 21 + ring + 2 ^ 21 - 1) / 2 ^ 21)).all (fun v =>
      (pagesOf p q).any (fun e => pageVpn e = v && (c.role = 0 || bit e 43)))
   else inShared s p c.base ring) &&
  (if c.relWord = 0xFFFF then back else near && 64 ≤ c.relWord && c.relWord < 1024)

/-- 0x0F14. -/
def fabricCheck (s : State) (p : Pimg) : Chk Unit := do
  if p.has secFabric 0 then
    let b := p.get secFabric 0
    let x := p.idx secFabric 0
    let n := 2 ^ fabLog2 b
    let peers := fabPeers b
    let cs := fabChans b
    must (decide (fabDevice b < 2048) && decide (6 ≤ fabLog2 b) && decide (fabLog2 b ≤ 16) && decide (1 ≤ leAt b 3 1) && decide (leAt b 3 1 ≤ 4) &&
      decide (leAt b 8 2 ≤ 4096) && allZero (slice b 10 6) && allZero (slice b 80 48) && !allZero (slice p.bs 96 32) &&
      decide (4 * fabLead b ≤ leAt (p.get secDevice 0) 0 4)) 0x0F14 x
    must (((fabSets b).head?.map (fun r => r.absent)) = some []) 0x0F14 x
    mustAll (fabSets b) (fun r => mustAll (indexed r.runs) (fun (k, rs) => do
      must (runsOk n rs && rs.all (runOk b r k)) 0x0F14 x k
      let q := nth (0xFFFF, 0) peers k
      must (q.1 = 0xFFFF || r.absent.contains (linkName (fabDevice b) k q) || rs.any (fun r => r.kind = 2)) 0x0F14 x k))
    mustAll (indexed cs) (fun (i, c) => must (chanOk s p b c && !((cs.take i).any (fun d => d.number = c.number))) 0x0F14 x i)

end Sys2Proof.Machine
end

