-- ==== Sys2Proof/Machine/LoaderPrograms.lean ====
section
/-! DEFINITION. Programs and schedules of an image and loader check 0x0F20 on them (R66 to R71, R74, R76, R118, R120, R125, R159, R182,
R256, R265, R284, R499), with the matrix work of an entry followed step by step (R34, R70, R78, R97, R98). -/

namespace Sys2Proof.Machine

/-! ### Programs and schedules of the image -/

/-- Instruction words of PROGRAM for core `n`, variant `v`. -/
def progOf (p : Pimg) (n v : Nat) : List Nat := (records 16 (p.get secProgram (n + 256 * v))).map leNat
def schedBytes (p : Pimg) (n v : Nat) : List Byte := p.get secSchedule (n + 256 * v)
/-- Cores and variants that carry a program. -/
def progKeys (cores : Nat) (p : Pimg) : List (Nat × Nat) :=
  (placed cores p).flatMap (fun n => ((List.range 4).filter (fun v => p.has secProgram (n + 256 * v))).map (fun v => (n, v)))
/-- Context records: ROLE, ACTIVITY, SEM_FIRST, SEM_COUNT (R256). -/
def schedCtxs (b : List Byte) : List (Nat × Nat × Nat × Nat) :=
  (List.range 8).map (fun c => (leAt b (16 + 4 * c) 1, leAt b (17 + 4 * c) 1, leAt b (18 + 4 * c) 1, leAt b (19 + 4 * c) 1))
/-- Entry records. -/
def schedEntries (b : List Byte) : List SEntry :=
  (List.range (leAt b 0 2)).map (fun i => let o := 48 + 16 * i
    { pc := leAt b o 2, activity := leAt b (o + 2) 1, bound := leAt b (o + 4) 4, flags := leAt b (o + 8) 4, ventry := leAt b (o + 12) 2,
      outSlots := leAt b (o + 14) 1, recSlots := leAt b (o + 15) 1 })
/-- Periodic rows. -/
def schedRows (b : List Byte) : List PRow :=
  (List.range (leAt b 2 2)).map (fun i => let o := 48 + 16 * leAt b 0 2 + 8 * i
    { ctx := leAt b o 1, entry := leAt b (o + 2) 2, offset := leAt b (o + 4) 4 })

/-- Places of a program from `pc` up to its END (R67: nothing branches). -/
def walkTo (prog : List Nat) (pc : Nat) : Nat → Option (List Nat)
  | 0 => none
  | k + 1 => match prog[pc]? with
    | none => none
    | some w => if bits w 0 8 = 0x1F then some [pc] else (walkTo prog (pc + 1) k).map (pc :: ·)
/-- The instructions that an entry runs, with their places. -/
def entryCode (prog : List Nat) (e : SEntry) : List (Nat × Nat) :=
  ((walkTo prog e.pc (prog.length + 1)).getD []).map (fun pc => (pc, nth 0 prog pc))
/-- Every entry of a program with its code: place, record, instructions. -/
def entriesOf (p : Pimg) (n v : Nat) : List (Nat × SEntry × List (Nat × Nat)) :=
  (indexed (schedEntries (schedBytes p n v))).map (fun (i, e) => (i, e, entryCode (progOf p n v) e))
/-- Contexts that may run an entry (R509). -/
def entryCtxs (b : List Byte) (i : Nat) (e : SEntry) : List Nat :=
  (List.range 8).filter (fun c => let x := nth (0, 0, 0, 0) (schedCtxs b) c
    (x.1 = 1 && x.2.1 = e.activity) || (x.1 = 2 && (schedRows b).any (fun r => r.ctx = c && r.entry = i)))

/-- 0x0F20 on a SCHEDULE (R66, R256). -/
def scheduleCheck (p : Pimg) (q : Nat × Nat) : Chk Unit := do
  let b := schedBytes p q.1 q.2
  let x := p.idx secSchedule (q.1 + 256 * q.2)
  let part := leAt (p.get secCore q.1) 0 1
  let actOk (a : Nat) : Bool := a / 4 = part && a % 4 < 3
  let cs := schedCtxs b
  let es := schedEntries b
  must (decide (leAt b 0 2 ≤ 256) && decide (leAt b 2 2 ≤ 64) && allZero (slice b 4 12)) 0x0F20 x
  mustAll (indexed cs) (fun (i, c) => must (c.1 ≤ 2 && c.2.2.1 + c.2.2.2 ≤ 56 && (c.1 = 0 || actOk c.2.1) &&
    (cs.take i).all (fun d => c.2.2.2 = 0 || d.2.2.2 = 0 || d.2.2.1 + d.2.2.2 ≤ c.2.2.1 || c.2.2.1 + c.2.2.2 ≤ d.2.2.1)) 0x0F20 x i)
  mustAll (indexed es) (fun (i, e) => must (actOk e.activity && e.flags < 4 && e.outSlots ≤ 8 && e.recSlots ≤ 16 &&
    leAt b (48 + 16 * i + 3) 1 = 0 && (walkTo (progOf p q.1 q.2) e.pc 16385).isSome) 0x0F20 x i)
  mustAll (indexed (schedRows b)) (fun (i, r) => must (r.ctx < 8 && r.entry < es.length && (nth (0, 0, 0, 0) cs r.ctx).1 = 2 &&
    (nth {} es r.entry).activity = (nth (0, 0, 0, 0) cs r.ctx).2.1 && leAt b (48 + 16 * es.length + 8 * i + 1) 1 = 0) 0x0F20 x (es.length + i))

/-! ### Cores and descriptors as the image gives them -/

/-- Arrays, 8-bit depth and width of a ganging (R60). -/
def gangShape (g : Nat) : Nat × Nat × Nat := if g = 0 then (1, 128, 128) else if g = 1 then (2, 128, 256) else (4, 256, 256)

/-- What the checks of one core's instructions need. -/
structure CoreView where
  n : Nat
  gang : Nat
  part : Nat
  tile : Nat
  descs : List Byte
  count : Nat
def viewOf (p : Pimg) (n : Nat) : CoreView :=
  let c := p.get secCore n
  { n, gang := leAt c 1 1, part := leAt c 0 1, tile := leAt c 2 1, descs := p.get secDesc n, count := leAt c 12 4 }
/-- Descriptor `i` of the image as a number. -/
def CoreView.desc (v : CoreView) (i : Nat) : Nat := leNat (slice v.descs (64 * i) 64)
/-- The transfer descriptor at `i`. -/
def CoreView.xfer (v : CoreView) (i : Nat) : List Byte := slice v.descs (64 * i) 128
/-- Columns of a gang (R60). -/
def CoreView.cols (v : CoreView) : Nat := (gangShape v.gang).2.2
/-- K depth of a gang on a path (R58, R60). -/
def CoreView.depth (v : CoreView) (q : Path) : Nat := if q.fourBit then 2 * (gangShape v.gang).2.1 else (gangShape v.gang).2.1

/-! ### Instruction fields (R67 to R71, R74, R118, R159, R182, R284, R499) -/

/-- Fields of an opcode as (lowest bit, width); none for an opcode that does not exist. -/
def opFields : Nat → Option (List (Nat × Nat))
  | 0x01 => some []
  | 0x02 => some [(8, 1), (10, 38), (64, 32)]
  | 0x03 => some [(8, 1), (10, 38), (64, 32)]
  | 0x04 => some []
  | 0x08 => some [(8, 50)]
  | 0x09 => some [(8, 98)]
  | 0x0A => some [(8, 113)]
  | 0x0B => some [(8, 120)]
  | 0x10 => some [(8, 7), (16, 50)]
  | 0x11 => some [(8, 33), (42, 2), (48, 56)]
  | 0x12 => some [(8, 13), (24, 48)]
  | 0x13 => some [(16, 92)]
  | 0x1F => some []
  | _ => none
/-- Is every bit outside the fields of the opcode 0? -/
def fieldsOk (w : Nat) : Bool :=
  match opFields (bits w 0 8) with
  | none => false
  | some fs => fs.foldl (fun acc f => setBits acc f.1 f.2 0) (setBits w 0 8 0) = 0

/-- The fields of one instruction that 0x0F20 covers and that the word and its core decide: every word of PROGRAM meets them,
whether an entry reaches it or not. -/
def wordOk (s : State) (p : Pimg) (v : CoreView) (w : Nat) : Bool :=
  let op := bits w 0 8
  let g := gangShape v.gang
  fieldsOk w &&
  (if op = 2 || op = 3 then
    if bit w 8 then bits w 64 32 % 4 = 0 && (bits w 64 32 + 4 ≤ v.tile * 2 ^ 20 || inShared s p (bits w 64 32) 4)
    else bits w 16 32 < 65536
  else if op = 8 then
    bits w 8 2 ≥ 2 || (bits w 36 6 < 56 && (leAt (v.xfer (bits w 10 16)) 104 4 = 0 || bits w 30 6 < 56))
  else if op = 9 then bits w 8 2 ≤ 1
  else if op = 0x0A then
    bits w 8 2 ≤ 2 && bits w 94 2 ≤ 2 && (bits w 8 2 ≠ 2 || (bits w 64 20 < 1024 && 1 ≤ bits w 96 16))
  else if op = 0x0B then bits w 8 2 ≤ 1
  else if op = 0x10 || op = 0x11 || op = 0x12 then
    !bit w 10 && bits w 8 3 % g.1 = 0 &&
    (if op = 0x10 then
      let four := [0, 1, 8].contains (bits w 11 4)
      1 ≤ bits w 32 16 && bits w 32 16 ≤ (if four then 2 * g.2.1 else g.2.1) && 1 ≤ bits w 48 16 && bits w 48 16 ≤ g.2.2
    else if op = 0x11 then
      let m := bits w 42 2
      bits w 96 8 + bits w 32 8 ≤ 255 && ((m ≠ 0 && m ≠ 3) || bits w 48 16 = 0)
    else bits w 64 8 + bits w 56 8 ≤ 255)
  else if op = 0x13 then bits w 52 8 + bits w 60 8 ≤ 255 && bits w 68 8 < g.2.2 && bits w 48 3 % g.1 = 0 && bits w 48 3 < 4
  else true)

/-- Does an instruction that an entry of core `k` reaches, in some variant, open a combine slot under a tag? -/
def slotNamed (p : Pimg) (k tag : Nat) : Bool :=
  (List.range 4).any (fun x => (entriesOf p k x).any (fun (_, _, ws) => ws.any (fun y => bits y.2 0 8 = 0x13 && bits y.2 16 32 = tag)))
/-- Is a tag's destination a core of the partition, or a source channel of the partition's activity (R76), and does a CSLOT of the
schedule at the destination name it? -/
def tagOk (p : Pimg) (v : CoreView) (act tag : Nat) : Bool :=
  if bit tag 31 then bits tag 28 3 = 0 && (match p.chans[bits tag 16 12]? with
    | none => false
    | some c => c.role = 0 && c.kind = 1 && c.act = act)
  else
    let k := bits tag 28 3
    bit (leAt (p.get secPartition v.part) 0 1) k && slotNamed p k tag

/-- The fields that 0x0F20 covers and that the entry decides: semaphores its contexts own (`sems`), and the destinations of
combine tags under its activity. -/
def entryWordOk (p : Pimg) (v : CoreView) (act : Nat) (sems : Nat → Bool) (w : Nat) : Bool :=
  let op := bits w 0 8
  if (op = 2 || op = 3) && !bit w 8 then sems (bits w 10 6)
  else if op = 8 && bits w 8 2 < 2 then
    sems (bits w 36 6) && (leAt (v.xfer (bits w 10 16)) 104 4 = 0 || sems (bits w 30 6))
  else if op = 0x11 && bits w 42 2 ≥ 2 then tagOk p v act (bits w 64 32)
  else true

/-! ### Micro-programs (R119, R120, R125, R265) -/

/-- The micro-instructions of a core's store: MICROPROG, or the models of the partition in slot order (R265). -/
def microStore (p : Pimg) (n : Nat) : List Nat :=
  if p.has secMicro n then (records 8 (p.get secMicro n)).map leNat
  else
    let slots := p.slotMask (leAt (p.get secCore n) 0 1)
    (((List.range 256).filter (fun m => bit slots m && p.has secModel m)).map (fun m => (mdPrograms (p.get secModel m)).flatten)).flatten

/-- The micro-instructions from an entry to END, with the ends of the open loops; none when R125 is broken. -/
def microWalk (st : List Nat) : Nat → Nat → List Nat → Option (List Nat)
  | 0, _, _ => none
  | k + 1, pc, ends =>
    let ends := ends.filter (fun e => pc < e)
    match st[pc]? with
    | none => none
    | some u =>
      let op := bits u 0 8
      if op = 1 then (if ends = [] then some [u] else none)
      else if op = 2 then
        let e := pc + 1 + bits u 45 9
        if e > st.length || ends.length ≥ 4 || ends.any (fun x => x ≤ e) then none else (microWalk st k (pc + 1) (e :: ends)).map (u :: ·)
      else (microWalk st k (pc + 1) ends).map (u :: ·)
/-- The micro-program that a MODE 0 VEC starts. -/
def vecProgram (p : Pimg) (n w : Nat) : List Nat := (microWalk (microStore p n) 4097 (bits w 10 12) []).getD []
/-- Does an opcode of R120 exist? -/
def microOpOk (u : Nat) : Bool :=
  let op := bits u 0 8
  (op ≤ 8 || (0x10 ≤ op && op ≤ 0x1A) || (0x1C ≤ op && op ≤ 0x1E) || (0x20 ≤ op && op ≤ 0x2A) || (0x30 ≤ op && op ≤ 0x33) ||
    (0x38 ≤ op && op ≤ 0x3E)) && !(op = 0x3B && bits u 48 2 = 3)
/-- Is it a floating-point step (R120)? -/
def microFp (u : Nat) : Bool := let op := bits u 0 8; (0x20 ≤ op && op ≤ 0x33) || (0x38 ≤ op && op ≤ 0x3E && bit u 47)

/-- What a micro-program costs over `rows` input vectors: the cost of each micro-instruction as often as the loops around it repeat (R120,
R125). `loops` holds the open loops as (first place after the body, repeats). -/
def microCost (cost : Nat → Nat) (rows : Nat) : List (Nat × Nat) → List (Nat × Nat) → Nat
  | _, [] => 0
  | loops, (pc, u) :: us =>
    let loops := loops.filter (fun x => pc < x.1)
    let here := (loops.map (·.2)).foldl (· * ·) 1
    cost u * here + microCost cost rows
      (if bits u 0 8 = 2 then (pc + 1 + bits u 45 9, if bits u 54 9 = 0 then rows else bits u 54 9) :: loops else loops) us
/-- Cost of the micro-program that a MODE 0 VEC runs. -/
def vecCost (p : Pimg) (n w : Nat) (cost : Nat → Nat) : Nat :=
  microCost cost (bits w 86 20 + 1) [] ((vecProgram p n w).zipIdx.map (fun x => (x.2, x.1)))

/-! ### The matrix work of an entry, followed step by step (R34, R64, R68 to R72, R76, R78, R97, R98) -/

/-- A weight tile that a schedule loads; no K rows: none. `fresh` while no SWAP has taken it. -/
structure SimTile where
  fmt : Nat := 0
  kRows : Nat := 0
  fresh : Bool := false
  deriving DecidableEq, Repr
/-- A bank row as a schedule fills it: has the entry written it, its form (0 unknown, 1 integer, 2 floating point), layers of the fused
chain that its sums end (R103). -/
structure SimRow where
  used : Bool := false
  form : Nat := 0
  len : Nat := 0
  deriving DecidableEq, Repr
/-- Records that an MMA sends under a combine tag: tag, first group, is their path an integer one. -/
abbrev SimSend := Nat × Nat × Bool
/-- Where an entry's matrix work stands: tiles by logical array, bank rows by (2 × array + bank) × 256 + row, next group + 1 (0 unknown) by
2 × array + bank, records sent in order, bytes of records appended and not yet signalled by channel index, length of the fused chain that ends
in the ring at a base, and what broke a rule: code and place. -/
structure MatSim where
  shadow : SMap SimTile := []
  active : SMap SimTile := []
  rows : SMap SimRow := []
  next : SMap Nat := []
  sends : List SimSend := []
  sent : SMap Nat := []
  rings : SMap Nat := []
  bad : List (Nat × Nat) := []
  deriving DecidableEq, Repr

/-- Notes a broken rule. -/
def MatSim.note (m : MatSim) (broken : Bool) (code pc : Nat) : MatSim := if broken then { m with bad := m.bad ++ [(code, pc)] } else m

/-- The bank rows of a region. -/
def MatSim.region (m : MatSim) (b row0 n : Nat) : List SimRow := (List.range n).map (fun i => SMap.get {} m.rows (256 * b + row0 + i))
/-- Fills the bank rows of a region. -/
def MatSim.fill (m : MatSim) (b row0 n : Nat) (x : SimRow) : MatSim :=
  { m with rows := (List.range n).foldl (fun r i => SMap.set {} r (256 * b + row0 + i) x) m.rows }

/-- Groups of a pass and BANK_NEXTG after it: those of the loaded K rows, or one slice of a banded pass (R59, R70, R98). -/
def simPass (v : CoreView) (q : Path) (bands kRows g : Nat) : Nat × Nat :=
  if bands = 1 then (ceilDiv kRows 32, g + ceilDiv kRows 32) else (v.depth q / bands / 32, g + 1)

/-- The form of the records that the partition's programs send under a combine tag; 0 when none does. -/
def tagForm (p : Pimg) (part tag : Nat) : Nat :=
  let ws := ((List.range 8).filter (bit (leAt (p.get secPartition part) 0 1))).flatMap (fun k => (List.range 4).flatMap (progOf p k))
  match ws.find? (fun w => bits w 0 8 = 0x11 && bits w 42 2 ≥ 2 && bits w 64 32 = tag) with
  | none => 0
  | some w => if fmtIsFp (bits w 11 4) then 2 else 1

/-- Length of the fused chain behind an input map: that of the ring it reads (R103). -/
def MatSim.lenOf (m : MatSim) (d : Nat) : Nat := if dRingRows d = 0 then 0 else SMap.get 0 m.rings (dBase d)
/-- A layer of a fused chain writes a map: the ring then ends a chain one layer longer, unless the layer works in place (R103). -/
def MatSim.layer (m : MatSim) (ins : List Nat) (len d pc : Nat) : MatSim :=
  if dRingRows d ≠ 0 && ins.any (fun i => dRingRows i ≠ 0 && dBase i = dBase d) then m
  else { m.note (8 < len + 1) 0x0F22 pc with rings := if dRingRows d = 0 then m.rings else SMap.set 0 m.rings (dBase d) (len + 1) }

/-- An MMA: the operands make a path (R34), the weights are the entry's own and no deeper than the gang (R78, R436), the band height is
allowed (R97), a CONT finds the group that its bank expects (R70); its records count toward the units of a channel (R76). -/
def simMma (v : CoreView) (m : MatSim) (pc w : Nat) : MatSim :=
  let a := bits w 8 3
  let f := bits w 11 4
  let mode := bits w 42 2
  let x := SMap.get {} m.shadow a
  let m := if bit w 15 then { m with active := SMap.set {} m.active a x, shadow := SMap.set {} m.shadow a { x with fresh := false } } else m
  let t := SMap.get {} m.active a
  if t.kRows = 0 then m.note true 0x0F30 pc
  else
    let d := v.desc (bits w 16 16)
    let q := pathOf f t.fmt
    let bands := dBands d
    let x := simPass v q bands t.kRows (bits w 48 16)
    let b := 2 * a + bits w 40 1
    let n := bits w 32 8 + 1
    let old := m.region b (bits w 96 8) n
    let len := if mode = 1 then (old.map (·.len)).foldl max (m.lenOf d) else m.lenOf d
    let m := m.note (fmtIsFp f ≠ fmtIsFp t.fmt) 0x0F21 pc
    let m := m.note (v.depth q < t.kRows || (bands ≠ 1 && v.depth q / bands < (if q.isInt then 8 else 32))) 0x0F22 pc
    let m := m.note (mode = 1 && (SMap.get 0 m.next b ≠ bits w 48 16 + 1 || !old.all (·.used))) 0x0F30 pc
    let m := if mode ≤ 1 then { m.fill b (bits w 96 8) n ⟨true, if fmtIsFp f then 2 else 1, len⟩ with next := SMap.set 0 m.next b (x.2 + 1) } else m
    let g0 := if bands = 1 || q.isInt then bits w 48 16 else bits w 48 16 * (v.depth q / bands) / 32
    let sends : List SimSend := if mode = 2 && !q.isInt then (List.range x.1).map (fun i => (bits w 64 32, g0 + i, false))
      else if mode ≥ 2 then [(bits w 64 32, g0, q.isInt)] else []
    let m := { m with sends := m.sends ++ sends }
    if mode ≥ 2 && bit (bits w 64 32) 31 then
      let ch := bits w 80 12
      { m with sent := SMap.set 0 m.sent ch (SMap.get 0 m.sent ch +
          32 * n * v.cols * (if mode = 2 && !q.isInt then x.1 else 1)) }
    else m

/-- One instruction of an entry. `act` is the entry's activity. An LDW over weights that no MMA swaps in would wait for ever (R72). -/
def simStep (p : Pimg) (v : CoreView) (act : Nat) (m : MatSim) (x : Nat × Nat) : MatSim :=
  let (pc, w) := x
  let op := bits w 0 8
  let a := bits w 8 3
  let chans := indexed p.chans
  if op = 0x10 then
    { m.note (SMap.get {} m.shadow a).fresh 0x0F30 pc with shadow := SMap.set {} m.shadow a ⟨bits w 11 4, bits w 32 16, true⟩ }
  else if op = 0x11 then simMma v m pc w
  else if op = 0x12 then
    let d := v.desc (bits w 24 16)
    let rows := m.region (2 * a + bits w 15 1) (bits w 64 8) (bits w 56 8 + 1)
    let m := m.note (rows.any (fun r => r.form ≠ 0 && ((r.form = 2) ≠ fmtIsFp (bits w 11 4)))) 0x0F21 pc
    let m := m.note (!rows.all (·.used)) 0x0F30 pc
    let m := m.note (dBands d ≠ 1 && v.cols / dBands d < dCg d) 0x0F22 pc
    m.layer [] ((rows.map (·.len)).foldl max 0) d pc
  else if op = 9 && bits w 8 2 = 0 then
    let ins := (bits w 22 16 :: [bits w 38 16].filter (· ≠ 0xFFFF)).map v.desc
    m.layer ins ((ins.map m.lenOf).foldl max 0) (v.desc (bits w 54 16)) pc
  else if op = 0x13 then
    m.fill (2 * bits w 48 3 + bits w 51 1) (bits w 52 8) (bits w 60 8 + 1) ⟨true, tagForm p v.part (bits w 16 32), 0⟩
  else if op = 3 && bit w 8 then
    match chans.find? (fun c => c.2.role = 0 && c.2.kind = 1 && c.2.act = act && c.2.ctr = bits w 64 32) with
    | none => m
    | some (i, c) =>
      let need := bits w 16 32 * c.unitBytes
      { m.note (SMap.get 0 m.sent i < need) 0x0F20 pc with sent := SMap.set 0 m.sent i (SMap.get 0 m.sent i - need) }
  else if op = 0x1F then m.note (m.sent ≠ []) 0x0F20 pc
  else m

/-- An entry's matrix work, followed to its END. -/
def matrixWork (p : Pimg) (v : CoreView) (e : SEntry) (ws : List (Nat × Nat)) : MatSim := ws.foldl (simStep p v e.activity) {}
/-- The rules that an entry's matrix work breaks, as (code, place), in program order. -/
def matrixFaults (p : Pimg) (v : CoreView) (e : SEntry) (ws : List (Nat × Nat)) : List (Nat × Nat) := (matrixWork p v e ws).bad
/-- First groups of the floating-point records that the cores of a partition send under a tag in a variant, each with its core, those of one
core in the order in which its entries send them. -/
def tagSends (p : Pimg) (part var tag : Nat) : List (Nat × Nat) :=
  ((List.range 8).filter (bit (leAt (p.get secPartition part) 0 1))).flatMap (fun k =>
    let x := if p.has secProgram (k + 256 * var) then var else 0
    ((entriesOf p k x).flatMap (fun (_, e, ws) => (matrixWork p (viewOf p k) e ws).sends)).filterMap (fun y =>
      if y.1 = tag && !y.2.2 then some (k, y.2.1) else none))

/-! ### 0x0F20 -/

/-- A check on every instruction that an entry runs: core view, variant, entry index and record, word. -/
def codeCheck (cores : Nat) (p : Pimg) (code : Nat) (ok : CoreView → Nat → Nat → SEntry → Nat → Bool) : Chk Unit :=
  mustAll (progKeys cores p) (fun (n, v) =>
    mustAll (entriesOf p n v) (fun (i, e, ws) =>
      mustAll ws (fun (pc, w) => must (ok (viewOf p n) v i e w) code (p.idx secProgram (n + 256 * v)) pc)))
/-- A check on the whole code of every entry: core view, variant, entry index and record, code; the fault is the first place it
names. -/
def entryCheck (cores : Nat) (p : Pimg) (code : Nat) (bad : CoreView → Nat → Nat → SEntry → List (Nat × Nat) → Option Nat) : Chk Unit :=
  mustAll (progKeys cores p) (fun (n, v) =>
    mustAll (entriesOf p n v) (fun (i, e, ws) => match bad (viewOf p n) v i e ws with
      | none => .ok ()
      | some pc => .error ⟨code, p.idx secProgram (n + 256 * v), pc⟩))
/-- The places at which the entries' matrix work breaks a rule of a code. -/
def matrixCheck (cores : Nat) (p : Pimg) (code : Nat) : Chk Unit :=
  entryCheck cores p code (fun v _ _ e ws => ((matrixFaults p v e ws).find? (fun x => x.1 = code)).map (·.2))
/-- What a whole-image analysis that the model does not compute finds under a code (log entry 22). -/
def finding (p : Pimg) (code : Nat) : Chk Unit :=
  match Config.loaderFinding code p.bs with
  | none => .ok ()
  | some (x, r) => .error ⟨code, x, r⟩

/-- Does every context that may run an entry own a semaphore (R66)? -/
def ownsSem (b : List Byte) (i : Nat) (e : SEntry) (sem : Nat) : Bool :=
  (entryCtxs b i e).all (fun c => let y := nth (0, 0, 0, 0) (schedCtxs b) c
    (y.2.2.1 ≤ sem && sem < y.2.2.1 + y.2.2.2) || sem = 56 + c)

/-- 0x0F20: schedules, then every instruction word of PROGRAM, what the entries add, the units that records fill, and every
micro-instruction of the stores. -/
def instructionCheck (s : State) (cores : Nat) (p : Pimg) : Chk Unit := do
  mustAll (progKeys cores p) (scheduleCheck p)
  mustAll (progKeys cores p) (fun (n, v) =>
    mustAll (indexed (progOf p n v)) (fun (i, w) => must (wordOk s p (viewOf p n) w) 0x0F20 (p.idx secProgram (n + 256 * v)) i))
  codeCheck cores p 0x0F20 (fun v var i e w => entryWordOk p v e.activity (ownsSem (schedBytes p v.n var) i e) w)
  matrixCheck cores p 0x0F20
  mustAll (placed cores p) (fun n => mustAll (indexed (microStore p n)) (fun (i, u) => must (microOpOk u) 0x0F20 (p.idx secMicro n) i))

end Sys2Proof.Machine
end

