-- ==== Sys2Proof/Machine/LoaderShapes.lean ====
section
/-! DEFINITION. Loader checks 0x0F21, 0x0F22 and 0x0F23: formats, shapes and the accumulation bound of layers, descriptors and
micro-programs (R28, R30, R34, R37, R39, R48, R53, R78, R89, R92 to R95, R97, R99 to R103, R120, R124, R131, R137, R201, R227, R260,
R503, R506). -/

namespace Sys2Proof.Machine

/-! ### Layers (R260) -/

def lyKind (l : List Byte) : Nat := leAt l 0 1
def lyCodec (l : List Byte) : Bool := leAt l 1 1 = 0
def lyA (l : List Byte) : Nat := leAt l 2 1
def lyW (l : List Byte) : Nat := leAt l 3 1
def lyOut (l : List Byte) : Nat := leAt l 4 1
def lyCin (l : List Byte) : Nat := leAt l 10 2
def lyCout (l : List Byte) : Nat := leAt l 12 2
def lyGroups (l : List Byte) : Nat := leAt l 14 2
def lyKh (l : List Byte) : Nat := leAt l 16 2
def lyKw (l : List Byte) : Nat := leAt l 18 2
/-- PAD_T, PAD_B, PAD_L, PAD_R. -/
def lyPad (l : List Byte) (i : Nat) : Nat := leAt l (24 + i) 1
def lyFill (l : List Byte) : Nat := leAt l 28 1
/-- Channels per group of a layer. -/
def lyCg (l : List Byte) : Nat := lyCin l / max 1 (lyGroups l)
/-- Shared dimension of a layer. -/
def layerK (l : List Byte) : Nat := if lyKind l = 1 then leAt l 48 4 else lyKh l * lyKw l * lyCg l
/-- Does the image carry a layer's weights? A matrix multiply with a second source takes them at run time (R37). -/
def lyCarried (l : List Byte) : Bool := lyKind l = 0 || (lyKind l = 1 && leAt l 8 2 = 0xFFFF)

/-- A check on every layer of every model. -/
def layerCheck (p : Pimg) (code : Nat) (ok : List Byte → List Byte → Bool) : Chk Unit :=
  mustAll (p.insts secModel) (fun m =>
    let b := p.get secModel m
    mustAll (List.range (mdLayers b)) (fun i => must (ok b (mdLayer b i)) code (p.idx secModel m) i))

/-- Start of the weights part of a model: after its micro-programs (R259). -/
def mdWeights (b : List Byte) : Nat := match mdUprogs b (leAt b 36 4) (mdUprogAt b) with | some (_, e) => up64 e | none => b.length

/-! ### 0x0F21 (R30, R34, R39, R48, R53, R94, R124) -/

/-- Do two operand formats make a path, and does an output format fit it (R34, R48)? -/
def pairFits (a w o : Nat) : Bool :=
  a < 14 && w < 14 && o < 14 && fmtIsFp a = fmtIsFp w && fmtIsFp o = fmtIsFp a && (fmtIsFp a || (a ≤ 5 && w ≤ 5))
/-- A finite FP32 encoding. -/
def f32Finite (x : Nat) : Bool := bits x 23 8 ≠ 255
/-- The conversion parameter block of a layer with columns `n` (R48, R71): finite SCALE, BIAS and bounds, and CLIP_LO not above
CLIP_HI. The block of a layer is taken to hold all its output channels (DEDUCED, log entry 22). -/
def paramsOk (fp : Bool) (b : List Byte) (n : Nat) : Bool :=
  let lo := leAt b 0 4
  let hi := leAt b 4 4
  if fp then
    f32Finite lo && f32Finite hi && (fpDecode 13 lo).le (fpDecode 13 hi) &&
      (List.range n).all (fun j => f32Finite (leAt b (16 + 12 * j) 4) && f32Finite (leAt b (20 + 12 * j) 4))
  else decide (toSigned 32 lo ≤ toSigned 32 hi)
/-- Does a micro-instruction move elements of a floating-point format or take a floating-point step (R53, R124)? -/
def microTouchesFp (u : Nat) : Bool := microFp u || ((bits u 0 8 = 3 || bits u 0 8 = 4) && fmtIsFp (bits u 28 4))
/-- Layer formats. -/
def layerFormats (b l : List Byte) : Bool :=
  let k := lyKind l
  lyA l < 14 && lyW l < 14 && lyOut l < 14 && bits (leAt l 5 1) 3 2 ≤ 1 && (!lyCodec l || !(fmtIsFp (lyA l) || fmtIsFp (lyW l) || fmtIsFp (lyOut l))) &&
  (k > 1 || (pairFits (lyA l) (lyW l) (lyOut l) && paramsOk (fmtIsFp (lyOut l)) (b.drop (mdWeights b + leAt l 40 8)) (lyCout l))) &&
  !(k = 0 && lyA l = 8 && (lyCg l % 32 ≠ 0 || leAt l 29 1 ≠ 0)) &&
  !(k ≥ 3 && lyCodec l && (nth [] (mdPrograms b) (leAt l 52 2)).any microTouchesFp)

/-- The format field of a micro-instruction: a format that exists, an integer one for ICLIP, a floating-point one for FCVT and the
functions (R30, R119, R120, R130). -/
def microFmtOk (u : Nat) : Bool :=
  let op := bits u 0 8
  let f := bits u 28 4
  if op = 3 || op = 4 then f < 14
  else if op = 0x17 then fmtIsInt f
  else if op = 0x27 || (0x30 ≤ op && op ≤ 0x33) then fmtIsFp f
  else true

/-- Formats named by an instruction. -/
def insFormats (p : Pimg) (v : CoreView) (e : SEntry) (w : Nat) : Bool :=
  let op := bits w 0 8
  let codec := bit e.flags 0
  let f := bits w 11 4
  if op = 0x10 || op = 0x11 then f < 14 && f ≠ 6 && f ≠ 7 && !(codec && fmtIsFp f) &&
    (op = 0x10 || f ≠ 8 || (let d := v.desc (bits w 16 16); dRegroup d = 0 && (dCg d % 32 = 0 || dKh d * dKw d = 1)))
  else if op = 0x12 then f < 14 && bits w 19 2 ≤ 1 && !(codec && fmtIsFp f)
  else if op = 9 && bits w 8 2 = 0 && codec then !(vecProgram p v.n w).any microTouchesFp
  else true

/-- 0x0F21. -/
def formatCheck (cores : Nat) (p : Pimg) : Chk Unit := do
  layerCheck p 0x0F21 layerFormats
  codeCheck cores p 0x0F21 (fun v _ _ e w => insFormats p v e w)
  matrixCheck cores p 0x0F21
  mustAll (placed cores p) (fun n => mustAll (indexed (microStore p n)) (fun (i, u) => must (microFmtOk u) 0x0F21 (p.idx secMicro n) i))

/-! ### 0x0F22 (R78, R89, R92, R93, R95, R97, R99 to R103, R131, R137, R201, R227, R503, R506) -/

/-- A filter that only a degraded-schedule variant may carry (R101). -/
def largeFilter (kh kw : Nat) : Bool := (kh ≤ 63 && kw ≤ 63) || (kh = 1 && kw ≤ 4095)
/-- Padding and fill of a layer under its class (R92, R93). -/
def layerPads (l : List Byte) : Bool :=
  (List.range 4).all (fun i => lyPad l i ≤ 15) && lyFill l ≤ 3 &&
  (if lyCodec l then lyFill l = 0
   else lyPad l 0 = lyPad l 1 && lyPad l 2 = lyPad l 3 && !(lyFill l = 1 && lyA l = 8))
/-- Layer shapes. `variants` says whether the image carries a degraded-schedule variant. -/
def layerShapes (variants : Bool) (b l : List Byte) : Bool :=
  let k := lyKind l
  let g := lyGroups l
  let kh := lyKh l
  let kw := lyKw l
  let f (o : Nat) : Nat := leAt l o 1
  if k = 0 then
    layerK l ≤ 2 ^ 20 && 1 ≤ g && lyCin l % g = 0 && lyCout l % g = 0 && 1 ≤ kh && 1 ≤ kw &&
    (plainFilter kh kw || (variants && largeFilter kh kw)) && (leAt b 3 1 = 0 || (kh = 1 && kw ≤ 255)) && layerPads l && f 29 ≤ 3 &&
    1 ≤ f 20 && f 20 ≤ 8 && 1 ≤ f 21 && f 21 ≤ 8 && 1 ≤ f 22 && f 22 ≤ 16 && 1 ≤ f 23 && f 23 ≤ 16
  else if k = 1 then 1 ≤ layerK l && layerK l ≤ 2 ^ 20
  else if k = 2 then 1 ≤ g && lyCin l = g && 1 ≤ kh && kh ≤ 15 && 1 ≤ kw && kw ≤ 15 && layerPads l
  else if k = 4 then [128, 256, 512, 1024, 2048, 4096, 8192].contains (leAt l 54 2)
  else true
/-- An audio model's HOP: it divides the FRAME of some sample rate into 1 to 64 vectors (R197, R201). No field declares the rates
of a model, so this is what holds at any of them. -/
def hopOk (b : List Byte) : Bool :=
  leAt b 3 1 = 0 || [160, 240, 320, 441, 480, 640, 882, 960, 1764, 1920].any (fun n =>
    let hop := leAt b 16 2
    1 ≤ hop && n % hop = 0 && n / hop ≤ 64)

/-- Has the output at least one position along an axis (R89)? `n` is the size after regrouping. -/
def axisFits (n lo hi dil k : Nat) : Bool := dil * (k - 1) + 1 ≤ n + lo + hi
/-- Does every window along an axis hold a tap inside the map (R99)? -/
def axisCovered (n lo hi dil k stride : Nat) : Bool :=
  (List.range ((n + lo + hi - dil * (k - 1) - 1) / stride + 1)).all (fun o =>
    (List.range k).any (fun i => lo ≤ o * stride + dil * i && o * stride + dil * i < lo + n))
def dPadB (d : Nat) : Nat := bits d 216 4
def dPadR (d : Nat) : Nat := bits d 224 4

/-- Is a descriptor that a walk names within R95, R503 and R506? `mat` says that a matrix instruction names it, `fp4` that its elements
are FP4 block. -/
def mapOk (d : Nat) (mat fp4 : Bool) : Bool :=
  let sh := 2 ^ dRegroup d
  (mat || dBands d = 1) &&
  (if fp4 then dPixPitch d % 16 = 0 && dCOff d % 32 = 0 && dBandStep d % 32 = 0 else dScaleBase d = 0 && dScalePitch d = 0) &&
  (sh = 1 || (dInH d % sh = 0 && dInW d % sh = 0 && dBands d = 1 && dCg d % (sh * sh) = 0))
/-- The geometry of an input that filter taps read: fill, mirror and output size (R89, R92, R93). -/
def tapsOk (codec fp4 : Bool) (d : Nat) : Bool :=
  let h := dInH d / 2 ^ dRegroup d
  let w := dInW d / 2 ^ dRegroup d
  axisFits h (dPadT d) (dPadB d) (dDilY d) (dKh d) && axisFits w (dPadL d) (dPadR d) (dDilX d) (dKw d) &&
  (!codec || dFill d = 0) && !(dFill d = 1 && fp4) &&
  (dFill d ≠ 2 || (dPadT d < h && dPadB d < h && dPadL d < w && dPadR d < w))
/-- The filter of a matrix input: the limits of normal service with a window of the whole filter, or those of a degraded-schedule
variant (R100, R101). -/
def filterOk (var d : Nat) : Bool :=
  if var ≠ 0 then largeFilter (dKh d) (dKw d)
  else plainFilter (dKh d) (dKw d) && bits d 304 6 = 0 && bits d 310 4 + 1 = dKh d && bits d 314 12 = 0 && bits d 326 8 + 1 = dKw d
/-- A pooling input (R99): per channel, at most 15 × 15, and a tap of the kind it uses in every window. -/
def poolOk (d : Nat) : Bool :=
  let h := dInH d / 2 ^ dRegroup d
  let w := dInW d / 2 ^ dRegroup d
  let inside := (dPool d ≤ 2 && dFill d ≤ 1) || (dPool d = 4 && !dAvgPad d)
  dCg d = 1 && dKh d ≤ 15 && dKw d ≤ 15 &&
  (!inside || (axisCovered h (dPadT d) (dPadB d) (dDilY d) (dKh d) (dStrideY d) && axisCovered w (dPadL d) (dPadR d) (dDilX d) (dKw d) (dStrideX d)))

/-- Does a micro-program move FP4 block elements: loads from input `i`, or stores for `none` (R120)? -/
def microFp4 (us : List Nat) : Option Nat → Bool
  | some i => us.any (fun u => bits u 0 8 = 3 && bits u 45 1 = i && bits u 28 4 = 8)
  | none => us.any (fun u => bits u 0 8 = 4 && bits u 28 4 = 8)

/-- 0x0F22 on one instruction. -/
def insShapes (p : Pimg) (v : CoreView) (var : Nat) (e : SEntry) (w : Nat) : Bool :=
  let op := bits w 0 8
  let codec := bit e.flags 0
  let fp4 := bits w 11 4 = 8
  let use (i : Nat) (ok : Nat → Bool) : Bool := i ≥ v.count || ok (v.desc i)
  if op = 0x11 then use (bits w 16 16) (fun d => mapOk d true fp4 && tapsOk codec fp4 d && filterOk var d)
  else if op = 0x12 then use (bits w 24 16) (fun d => mapOk d true fp4)
  else if op = 9 then
    let us := if bits w 8 2 = 0 then vecProgram p v.n w else []
    let input (i k : Nat) : Bool := use i (fun d => mapOk d false (microFp4 us (some k)) &&
      (dPool d = 0 || (poolOk d && tapsOk codec (microFp4 us (some k)) d)))
    !(codec && bits w 8 2 = 1) && input (bits w 22 16) 0 && input (bits w 38 16) 1 && use (bits w 54 16) (fun d => mapOk d false (microFp4 us none))
  else if op = 0x0A && bits w 8 2 < 2 then
    use (bits w 16 16) (fun d => mapOk d false false) && use (bits w 32 16) (fun d => mapOk d false false) &&
      3 * ((bits w 64 20 + 1 + bits w 10 6) / (bits w 10 6 + 1)) + 2 ≤ 65535
  else true

/-! ### 0x0F23 (R37) -/

/-- Largest magnitude of an integer format (R37). -/
def maxMag (f : Nat) : Nat := nth 0 [8, 15, 128, 255, 32768, 65535] f
/-- Σ_k |w_kj| of column `j` of weights of format `f` from byte `o`: row k after row k − 1, each of `n` columns, 4-bit elements packed along
the row, as LDW reads a tile (R29, R68; DEDUCED, log entry 22). -/
def weightSum (b : List Byte) (o f k n j : Nat) : Nat :=
  let row := (n * fmtBits f + 7) / 8
  ((List.range k).map (fun i =>
    let raw := if fmtBits f = 4 then bits (leAt b (o + i * row + j / 2) 1) (4 * (j % 2)) 4
      else leAt b (o + i * row + j * (fmtBits f / 8)) (fmtBits f / 8)
    (intDecode f raw).natAbs)).sum
/-- Is every B_j of an integer layer below 2^47: A_max × Σ|w| for weights that the image carries, K × A_max × W_max for weights made at
run time? -/
def boundOk (b l : List Byte) : Bool :=
  if lyKind l > 1 || fmtIsFp (lyA l) then true
  else if lyCarried l then
    (List.range (lyCout l)).all (fun j =>
      decide (maxMag (lyA l) * weightSum b (mdWeights b + leAt l 32 8) (lyW l) (layerK l) (lyCout l) j < 2 ^ 47))
  else decide (layerK l * maxMag (lyA l) * maxMag (lyW l) < 2 ^ 47)

/-- 0x0F22 and 0x0F23. -/
def shapeCheck (cores : Nat) (p : Pimg) : Chk Unit := do
  let variants := (progKeys cores p).any (fun x => x.2 ≠ 0)
  mustAll (p.insts secModel) (fun m => must (hopOk (p.get secModel m)) 0x0F22 (p.idx secModel m))
  layerCheck p 0x0F22 (layerShapes variants)
  codeCheck cores p 0x0F22 (fun v var _ e w => insShapes p v var e w)
  matrixCheck cores p 0x0F22
  finding p 0x0F22
  layerCheck p 0x0F23 boundOk

end Sys2Proof.Machine
end

