-- ==== Sys2Proof/Machine/LoaderDescs.lean ====
section
/-! DEFINITION. Loader checks 0x0F24 and 0x0F25 on descriptors and micro-programs, and the store ranges that an instruction can touch
(R84 to R86, R95, R117, R125, R160, R265, R275, R285, R286, R288, R501, R504, R506). -/

namespace Sys2Proof.Machine

/-! ### Descriptors (R84, R85, R160, R285, R501, R504) -/

/-- Walk descriptors of an instruction that R85 binds whole, with their KIND (1 output). MOT uses their BASE, pitch and size fields
only (R182). -/
def walkKinds (w : Nat) : List (Nat × Nat) :=
  let op := bits w 0 8
  if op = 0x11 then [(bits w 16 16, 0)]
  else if op = 0x12 then [(bits w 24 16, 1)]
  else if op = 9 then ((bits w 22 16 :: [bits w 38 16].filter (· ≠ 0xFFFF)).map (fun i => (i, 0))) ++ [(bits w 54 16, 1)]
  else if op = 0x0A && bits w 8 2 < 2 then [(bits w 16 16, 0), (bits w 32 16, 0)]
  else []
/-- Descriptors of a MOT, of which only BASE, pitch and size fields are used (R182): those within R85, and the reserved bits beside them 0. -/
def motDescs (w : Nat) : List Nat :=
  if bits w 0 8 ≠ 0x0B then []
  else if bits w 8 2 = 0 then [bits w 10 16, bits w 26 16, bits w 42 16, bits w 74 16] else [bits w 26 16, bits w 42 16, bits w 58 16]
def sizeFields (d : Nat) : Bool := bits d 92 4 = 0 && bits d 96 16 < 8192 && bits d 112 16 < 8192
/-- The fields of a walk descriptor within the ranges of R85, with KIND `k` and its reserved bits 0. -/
def descFields (d k : Nat) : Bool :=
  sizeFields d && bits d 128 16 < 16384 && bits d 176 6 < 63 && bits d 184 12 < 4095 && bits d 310 4 < 15 &&
  bits d 326 8 < 255 && bits d 233 3 ≤ 4 && bits d 236 3 ≤ 4 && bits d 232 1 = k && bits d 182 2 = 0 && !bit d 199 && !bit d 203 &&
  bits d 334 2 = 0 && d / 2 ^ 448 = 0

/-- A block descriptor holds BASE only (R504). -/
def blockOk (v : CoreView) (i : Nat) : Bool := i < v.count && v.desc i / 2 ^ 32 = 0
/-- A transfer descriptor (R285, R501). -/
def xferOk (e : SEntry) (periodic : Bool) (t : List Byte) : Bool :=
  let fl := leAt t 102 1
  let ssp := leAt t 100 1
  let dsp := leAt t 101 1
  let rel := leAt t 103 1
  let side (sp r k : Nat) : Bool := (r = 0 || (sp = 0 && !periodic)) && r ≤ 4 && (r ≠ 2 || k < e.outSlots) && (r ≠ 3 || k < e.recSlots)
  let sb := leAt t 104 4
  1 ≤ leAt t 16 4 && leAt t 16 4 ≤ 16777216 && [20, 24, 28, 32].all (fun o => 1 ≤ leAt t o 4 && leAt t o 4 ≤ 65536) && ssp ≤ 1 && dsp ≤ 1 &&
  fl < 8 && !(bit fl 0 && bit fl 1) && !(bit fl 0 && dsp = 1) && !(bit fl 1 && ssp = 1) && rel < 64 &&
  side ssp (bits rel 0 3) (leAt t 116 1) && side dsp (bits rel 3 3) (leAt t 117 1) && sb % 64 = 0 &&
  (sb = 0 || (1 ≤ leAt t 108 2 && leAt t 108 2 ≤ 4096)) && leAt t 110 1 ≤ 1 && leAt t 111 1 = 0 && allZero (slice t 118 10)
/-- 0x0F24 on one instruction. -/
def insDescs (p : Pimg) (v : CoreView) (var i : Nat) (e : SEntry) (w : Nat) : Bool :=
  let op := bits w 0 8
  let per := (schedRows (schedBytes p v.n var)).any (fun r => r.entry = i)
  let lanes := bits w 10 6 + 1
  (walksOf w).all (fun x => x.1 < v.count) && (walkKinds w).all (fun x => descFields (v.desc x.1) x.2) && (motDescs w).all (fun i => sizeFields (v.desc i)) &&
  (if op = 8 then
    let d := bits w 10 16
    if bits w 8 2 = 3 then true
    else if bits w 8 2 = 2 then bits w 42 16 + 1 < v.count
    else d + 1 < v.count && xferOk e per (v.xfer d)
  else if op = 0x10 then bit w 64 || (bits w 16 16 < v.count && (let d := v.desc (bits w 16 16); bits d 64 320 = 0 && d / 2 ^ 448 = 0))
  else if op = 0x12 then blockOk v (bits w 40 16)
  else if op = 9 then bits w 70 16 = 0xFFFF || blockOk v (bits w 70 16)
  else if op = 0x0A then
    if bits w 8 2 = 2 then blockOk v (bits w 32 16)
    else bits w 48 16 < v.count && decide (bits (v.desc (bits w 48 16)) 32 32 ≥ 3 * ((bits w 64 20 + lanes) / lanes) + 2) &&
      v.desc (bits w 48 16) / 2 ^ 96 = 0
  else if op = 0x13 then bits w 92 16 < v.count
  else true)
/-- Uses of walk and weight descriptors in a program: descriptor, queue, entry. -/
def usesOf (p : Pimg) (n v : Nat) : List (Nat × Nat × Nat) :=
  (entriesOf p n v).flatMap (fun (i, _, ws) => ws.flatMap (fun (_, w) =>
    (walksOf w ++ (if bits w 0 8 = 0x10 && !bit w 64 then [(bits w 16 16, bits w 8 2)] else [])).map (fun x => (x.1, x.2, i))))
/-- 0x0F24: DESC_COUNT, every use, and no descriptor in two queues or two task programs (R84, R117). -/
def descriptorCheck (cores : Nat) (p : Pimg) : Chk Unit := do
  mustAll (placed cores p) (fun n => must (decide (leAt (p.get secCore n) 12 4 ≤ 8192)) 0x0F24 (p.idx secDesc n))
  codeCheck cores p 0x0F24 (insDescs p)
  mustAll (progKeys cores p) (fun (n, v) =>
    let us := usesOf p n v
    mustAll us (fun u => must (us.all (fun x => x.1 ≠ u.1 || (x.2.1 = u.2.1 && x.2.2 = u.2.2))) 0x0F24 (p.idx secDesc n) u.1))

/-! ### Micro-programs (R119, R125, R265) -/

/-- Does `xs` stand somewhere in `ys` as a run? -/
def occurs (xs : List Nat) : List Nat → Bool
  | [] => xs.isEmpty
  | y :: ys => xs.isPrefixOf (y :: ys) || occurs xs ys
/-- 0x0F25. -/
def microCheck (cores : Nat) (p : Pimg) : Chk Unit := do
  mustAll (placed cores p) (fun n => do
    let st := microStore p n
    let slots := p.slotMask (leAt (p.get secCore n) 0 1)
    must (decide (st.length ≤ 4096)) 0x0F25 (p.idx secMicro n)
    if p.has secMicro n then
      mustAll ((p.insts secModel).filter (bit slots)) (fun m => must ((mdPrograms (p.get secModel m)).all (fun u => occurs u st)) 0x0F25 (p.idx secMicro n)))
  mustAll (p.insts secModel) (fun m => must ((mdPrograms (p.get secModel m)).all (fun u => (microWalk u (u.length + 1) 0 []).isSome)) 0x0F25
    (p.idx secModel m))
  codeCheck cores p 0x0F25 (fun v _ _ _ w =>
    bits w 0 8 ≠ 9 || bits w 8 2 ≠ 0 || (microWalk (microStore p v.n) 4097 (bits w 10 12) []).isSome)

/-! ### Store ranges (R86, R95, R275, R286, R288) -/

/-- Bytes of the store: those `x` from `lo` below `hi` with `x % pitch` from `a` below `b`; all of them for pitch 0. -/
structure Span where
  lo : Nat
  hi : Nat
  pitch : Nat := 0
  a : Nat := 0
  b : Nat := 0
  deriving DecidableEq, Repr
/-- May two spans share a byte? Channels of one pixel grid that lie apart do not. -/
def Span.meets (x y : Span) : Bool := x.lo < y.hi && y.lo < x.hi && (x.pitch = 0 || x.pitch ≠ y.pitch || (x.a < y.b && y.a < x.b))
/-- A range of `n` bytes; none for no byte. -/
def oneRange (a n : Nat) : List Span := if n = 0 then [] else [{ lo := a, hi := a + n }]

/-- Bytes of a map that a descriptor can reach, with elements of `bs` bits, and of its scale plane (R86, R95, R506). -/
def mapReach (d bs : Nat) : List Span :=
  let slots := if dRingRows d = 0 then dInH d else dRingRows d
  let sh := 4 ^ dRegroup d
  let chans := (dCOff d + (dBands d - 1) * dBandStep d + dCg d + sh - 1) / sh
  let p := dPixPitch d
  let first := dCOff d * bs / 8
  let a := (dBase d + first) % max 1 p
  let b := a + (chans * bs + 7) / 8 - first
  let grid := dRegroup d = 0 && p ≠ 0 && dRowPitch d % p = 0 && b ≤ p
  { lo := dBase d + (if dRegroup d = 0 then first else 0), hi := dBase d + (slots - 1) * dRowPitch d + (dInW d - 1) * p + (chans * bs + 7) / 8,
    pitch := if grid then p else 0, a, b } ::
    (if dScaleBase d = 0 then [] else
      [{ lo := dScaleBase d + (if dRegroup d = 0 then dCOff d / 32 else 0),
         hi := dScaleBase d + (slots - 1) * dScalePitch d + ((dInW d - 1) * p + (chans - 1) / 32 * 16) / 16 + 1 }])
/-- Low and high of the runs of a transfer's store side, from `base` with strides at `so` (R286, R288). -/
def xferReach (t : List Byte) (base so : Nat) (ring : Bool) : Span :=
  let sb := leAt t 104 4
  if sb ≠ 0 && ring then { lo := base, hi := base + sb * leAt t 108 2 }
  else
    let ds : List Int := (List.range 4).map (fun i => ((leAt t (20 + 4 * i) 4 - 1 : Nat) : Int) * toSigned 64 (leAt t (so + 8 * i) 8))
    let lo := (ds.map (fun x => min x 0)).sum
    let hi := (ds.map (fun x => max x 0)).sum
    { lo := ((base : Int) + lo).toNat, hi := ((base : Int) + hi).toNat + leAt t 16 4 }
/-- Widest stored element that a VEC moves through its input `i`, or its output for `none` (R118, R120, R137): MODE 1 moves bytes. -/
def vecBits (p : Pimg) (v : CoreView) (w : Nat) (i : Option Nat) : Nat :=
  if bits w 8 2 = 1 then 8
  else
    let pick (u : Nat) : Bool := match i with
      | some k => bits u 0 8 = 3 && bits u 45 1 = k
      | none => bits u 0 8 = 4
    (((vecProgram p v.n w).filter pick).map (fun u => fmtStore (bits u 28 4))).foldl max 0
/-- Bytes of the parameter block that a VEC can read (R120, R128, R137): for a TBL those of its largest table. -/
def vecParBytes (p : Pimg) (v : CoreView) (w : Nat) : Nat :=
  if bits w 8 2 = 1 then 48
  else (((vecProgram p v.n w).filter (fun u => bits u 0 8 = 5 || bits u 0 8 = 0x1A)).map (fun u =>
    if bits u 0 8 = 5 then 4 * (bits u 45 18 + (if bit u 63 then 1 else 128)) else 4 * (bits u 45 18 + 2 ^ 10 + 3))).foldl max 0
/-- The map that descriptor `i` of a core locates, with elements of `bs` bits; none past the table. -/
def CoreView.map (v : CoreView) (i bs : Nat) : List Span := if i ≥ v.count then [] else mapReach (v.desc i) bs
/-- The transfers that a DMA instruction makes: for a REARM those of the streams that its core starts in the slot, from the bases of NDESC
(R290, R291). -/
def xfersOf (p : Pimg) (v : CoreView) (w : Nat) : List (List Byte) :=
  if bits w 8 2 ≠ 2 then [v.xfer (bits w 10 16)]
  else
    let starts := ((List.range 4).flatMap (progOf p v.n)).filter (fun u => bits u 0 8 = 8 && bits u 8 2 = 1 && bits u 26 4 = bits w 26 4)
    starts.map (fun u => (v.xfer (bits w 42 16)).take 16 ++ (v.xfer (bits u 10 16)).drop 16)

/-- Store ranges that an instruction can read. -/
def insReads (p : Pimg) (v : CoreView) (w : Nat) : List Span :=
  let op := bits w 0 8
  let k := bits w 8 2
  let f := bits w 11 4
  if op = 2 then (if bit w 8 then oneRange (bits w 64 32) 4 else [])
  else if op = 0x10 then
    (if bit w 64 then [] else
      let d := v.desc (bits w 16 16)
      oneRange (dBase d) ((bits w 32 16 - 1) * dRowPitch d + (bits w 48 16 * fmtBits f + 7) / 8) ++
        (if f = 8 then oneRange (dScaleBase d) (((bits w 32 16 + 31) / 32 - 1) * dScalePitch d + bits w 48 16) else []))
  else if op = 0x11 then v.map (bits w 16 16) (fmtBits f)
  else if op = 0x12 then oneRange (dBase (v.desc (bits w 40 16))) (16 + 12 * v.cols)
  else if op = 9 then
    v.map (bits w 22 16) (vecBits p v w (some 0)) ++ v.map (bits w 38 16) (vecBits p v w (some 1)) ++
      (if bits w 70 16 = 0xFFFF then [] else oneRange (dBase (v.desc (bits w 70 16))) (vecParBytes p v w))
  else if op = 0x0A then
    let d := v.desc (bits w 48 16)
    if k = 2 then oneRange (dBase (v.desc (bits w 32 16))) (256 * (bits w 64 20 + 1))
    else if k = 1 then v.map (bits w 32 16) 32 ++ oneRange (bits d 0 32) (2 * bits d 32 32 * (bits w 10 6 + 1)) ++ oneRange (bits d 64 32) 256
    else v.map (bits w 16 16) (if bits w 94 2 = 0 then 8 else 16) ++ v.map (bits w 32 16) 32
  else if op = 0x0B then
    (if k = 0 then [bits w 10 16, bits w 26 16, bits w 74 16] else [bits w 26 16, bits w 42 16]).flatMap (fun i => v.map i 16)
  else if op = 8 && k ≠ 3 then
    (xfersOf p v w).flatMap (fun t => if leAt t 100 1 = 1 && !bit (leAt t 102 1) 2 then [xferReach t (leAt t 0 4) 36 (leAt t 110 1 = 1)] else [])
  else []
/-- Store ranges that an instruction can write. -/
def insWrites (p : Pimg) (v : CoreView) (w : Nat) : List Span :=
  let op := bits w 0 8
  let k := bits w 8 2
  if op = 3 then (if bit w 8 then oneRange (bits w 64 32) 4 else [])
  else if op = 0x12 then v.map (bits w 24 16) (fmtStore (bits w 11 4))
  else if op = 9 then v.map (bits w 54 16) (vecBits p v w none)
  else if op = 0x0A then
    let d := v.desc (bits w 48 16)
    if k = 1 then v.map (bits w 16 16) (if bits w 94 2 = 0 then 8 else 16)
    else if k = 0 then oneRange (bits d 0 32) (2 * bits d 32 32 * (bits w 10 6 + 1)) ++ oneRange (bits d 64 32) 256
    else []
  else if op = 0x0B then (if k = 0 then [bits w 42 16, bits w 74 16] else [bits w 58 16]).flatMap (fun i => v.map i 16)
  else if op = 8 && k ≠ 3 then
    (xfersOf p v w).flatMap (fun t => (if leAt t 101 1 = 1 then [xferReach t (leAt t 8 4) 68 (leAt t 110 1 = 0)] else []) ++
      (if bit (leAt t 102 1) 0 then oneRange (leAt t 112 4) 4 else []))
  else []
/-- Store ranges that an instruction can touch (R275). -/
def insReach (p : Pimg) (v : CoreView) (w : Nat) : List (Nat × Nat) := (insReads p v w ++ insWrites p v w).map (fun x => (x.lo, x.hi))

end Sys2Proof.Machine
end

