-- ==== Sys2Proof/Machine/LoaderFlow.lean ====
section
/-! DEFINITION. Loader check 0x0F30 on the bytes that an entry's instructions touch, followed in program order with the walk of every
descriptor: orders of R65, R66, R86, R105, R108, R141, R154, R159, R169, R276 within one entry. -/

namespace Sys2Proof.Machine

/-! ### Bytes of walks (R86, R87, R95, R503, R506) -/

/-- Bytes from `lo` below `hi`. -/
def spanTo (lo hi : Nat) : Span := { lo, hi }
/-- Bytes of `k` channels from `c0` of a pixel of the regrouped map, with elements of `bs` bits, and of their scales. -/
def pixSpans (d bs y x c0 k : Nat) : List Span :=
  let plain (y x c0 k : Nat) : List Span :=
    let a := rowSlot d y + x * dPixPitch d
    spanTo (a + c0 * bs / 8) (a + ((c0 + k) * bs + 7) / 8) ::
      (if bs = 4 && dScaleBase d ≠ 0 then [spanTo (scaleAddr d y x c0) (scaleAddr d y x (c0 + k - 1) + 1)] else [])
  if k = 0 then []
  else if dRegroup d = 0 then plain y x c0 k
  else (List.range k).flatMap (fun i => let (y, x, c) := ungroup d y x (c0 + i); plain y x c 1)
/-- Rows and columns inside the map that the filter taps at walk position `i` read, mirrored and repeated ones included (R86, R91). -/
def tapPixels (d i : Nat) : List (Nat × Nat) :=
  let (oy, ox) := walkPos d i
  let g := 2 ^ dRegroup d
  (List.range (dKh d * dKw d)).filterMap (fun t =>
    let iy : Int := (oy * dStrideY d : Nat) - (dPadT d : Int) + (t / dKw d * dDilY d : Nat)
    let ix : Int := (ox * dStrideX d : Nat) - (dPadL d : Int) + (t % dKw d * dDilX d : Nat)
    match resolve iy (dInH d / g) (dFill d), resolve ix (dInW d / g) (dFill d) with
    | some y, some x => some (y, x)
    | _, _ => none)
/-- Walk positions at which `n` elements in element order lie, each with its number of channels (R503). -/
def elemRuns (d pos n : Nat) : List (Nat × Nat) := (List.range (ceilDiv n (dCg d))).map (fun j => (pos + j, min (dCg d) (n - j * dCg d)))

/-- What an instruction does to one walk: its descriptor, the pixels it touches with their channels (first, number), and how far POS_CUR
moves. -/
structure WalkUse where
  desc : Nat
  bits_ : Nat
  pixels : List ((Nat × Nat) × Nat × Nat)
  move : Nat
def WalkUse.spans (u : WalkUse) (d : Nat) : List Span := u.pixels.flatMap (fun x => pixSpans d u.bits_ x.1.1 x.1.2 x.2.1 x.2.2)

/-- Windows of `m` positions from `pos`, over every band (R87, R97). -/
def windowUse (i d bs pos m move : Nat) : WalkUse :=
  { desc := i, bits_ := bs, move,
    pixels := (List.range m).flatMap (fun k => (tapPixels d (pos + k)).flatMap (fun p =>
      (List.range (dBands d)).map (fun b => (p, dCOff d + b * dBandStep d, dCg d)))) }
/-- `n` elements in element order from `pos` (R503); a pooling input reads the window of each position (R99, R117). -/
def elemUse (i d bs pos n : Nat) : WalkUse :=
  if dPool d ≠ 0 then windowUse i d bs pos (ceilDiv n (dCg d)) (ceilDiv n (dCg d))
  else { desc := i, bits_ := bs, move := ceilDiv n (dCg d), pixels := (elemRuns d pos n).map (fun x => (walkPos d x.1, dCOff d, x.2)) }
/-- The `m` rows of a DRAIN of `cols` columns (R503). -/
def drainUse (i d bs pos m cols : Nat) : WalkUse :=
  { desc := i, bits_ := bs, move := m,
    pixels := (List.range m).flatMap (fun k => (List.range (dBands d)).map (fun b =>
      (walkPos d (pos + k), dCOff d + b * dBandStep d, min (dCg d) (cols / dBands d)))) }
/-- Whole rows `r0` below `r1` of a map, as far as it has them (R177, R180, R182). -/
def rowUse (i d bs r0 r1 : Nat) : WalkUse :=
  { desc := i, bits_ := bs, move := 0,
    pixels := (range' r0 (min r1 (dInH d) - r0)).flatMap (fun y => (List.range (dInW d)).map (fun x => ((y, x), 0, 1))) }

/-- Elements that a VEC's micro-program moves through input `k`, or its output for none: 128 for each LD or ST that it issues (R120). -/
def vecElems (p : Pimg) (v : CoreView) (w : Nat) (k : Option Nat) : Nat :=
  128 * vecCost p v.n w (fun u => match k with
    | some i => if bits u 0 8 = 3 && bits u 45 1 = i then 1 else 0
    | none => if bits u 0 8 = 4 then 1 else 0)

/-- The walks that an instruction reads and writes, from the positions `pos` of the descriptors. -/
def walkUses (p : Pimg) (v : CoreView) (pos : SMap Nat) (w : Nat) : List WalkUse × List WalkUse :=
  let op := bits w 0 8
  let k := bits w 8 2
  let f := bits w 11 4
  let at_ (i : Nat) : Nat := SMap.get 0 pos i
  let elems (i bs n : Nat) : WalkUse := elemUse i (v.desc i) bs (at_ i) n
  if op = 0x11 then
    let i := bits w 16 16
    let m := bits w 32 8 + 1
    ([windowUse i (v.desc i) (fmtBits f) (at_ i) m (if bits w 48 16 = dAdvSlice (v.desc i) then m else 0)], [])
  else if op = 0x12 then
    let i := bits w 24 16
    ([], [drainUse i (v.desc i) (fmtStore f) (at_ i) (bits w 56 8 + 1) v.cols])
  else if op = 9 && k = 0 then
    let input (i j : Nat) : WalkUse := elems i (vecBits p v w (some j)) (vecElems p v w (some j))
    (input (bits w 22 16) 0 :: (if bits w 38 16 = 0xFFFF then [] else [input (bits w 38 16) 1]),
      [elems (bits w 54 16) (vecBits p v w none) (vecElems p v w none)])
  else if op = 0x0A && k < 2 then
    let n := bits w 64 20 + 1
    let sym := elems (bits w 16 16) (if bits w 94 2 = 0 then 8 else 16) n
    let par := elems (bits w 32 16) 32 n
    if k = 0 then ([sym, par], []) else ([par], [sym])
  else if op = 0x0B then
    let b0 := bits w 90 9
    let b1 := b0 + bits w 99 9 + 1
    let rows (i bs r0 r1 : Nat) : WalkUse := rowUse i (v.desc i) bs r0 r1
    if k = 0 then ([rows (bits w 10 16) 16 (16 * b0) (16 * b1), rows (bits w 26 16) 16 (16 * b0 - 68) (16 * b1 + 84), rows (bits w 42 16) 256 (b0 - 1) b0],
      [rows (bits w 42 16) 256 b0 b1])
    else ([rows (bits w 26 16) 16 (16 * b0 - 68) (16 * b1 + 68), rows (bits w 42 16) 256 (b0 - 1) (b1 + 1)],
      [rows (bits w 58 16) 16 (16 * b0) (16 * b1)])
  else ([], [])

/-- Runs of a transfer's store side: each LEN0 bytes (R286). -/
def xferRuns (t : List Byte) (base so : Nat) : List Span :=
  let offs := (List.range 4).foldl (fun (xs : List Int) i =>
    xs.flatMap (fun o => (List.range (leAt t (20 + 4 * i) 4)).map (fun (j : Nat) => o + (j : Int) * toSigned 64 (leAt t (so + 8 * i) 8)))) [(base : Int)]
  offs.map (fun o => spanTo o.toNat (o.toNat + leAt t 16 4))

/-- Bytes that an instruction reads and writes: its walks, and the ranges of its other operands. -/
def insTouch (p : Pimg) (v : CoreView) (pos : SMap Nat) (w : Nat) : List Span × List Span :=
  let op := bits w 0 8
  let k := bits w 8 2
  let (rs, ws) := walkUses p v pos w
  let spans (us : List WalkUse) : List Span := us.flatMap (fun u => u.spans (v.desc u.desc))
  if op = 0x11 || op = 0x0B then (spans rs, spans ws)
  else if op = 0x12 then (spans rs ++ insReads p v w, spans ws)
  else if op = 9 && k = 0 then
    (spans rs ++ (if bits w 70 16 = 0xFFFF then [] else oneRange (dBase (v.desc (bits w 70 16))) (vecParBytes p v w)), spans ws)
  else if op = 0x0A && k < 2 then
    let d := v.desc (bits w 48 16)
    let buf := oneRange (bits d 0 32) (2 * bits d 32 32 * (bits w 10 6 + 1)) ++ oneRange (bits d 64 32) 256
    if k = 0 then (spans rs, spans ws ++ buf) else (spans rs ++ buf, spans ws)
  else if op = 8 && k < 2 then
    let t := v.xfer (bits w 10 16)
    (if leAt t 100 1 = 1 && !bit (leAt t 102 1) 2 then xferRuns t (leAt t 0 4) 36 else [],
      (if leAt t 101 1 = 1 then xferRuns t (leAt t 8 4) 68 else []) ++ (if bit (leAt t 102 1) 0 then oneRange (leAt t 112 4) 4 else []))
  else (insReads p v w, insWrites p v w)

/-! ### Orders within an entry -/

/-- Do two lists of ranges share a byte? -/
def overlap (xs ys : List Span) : Bool := xs.any (fun x => ys.any (fun y => x.meets y))
/-- A span widened to whole 64-bit words (R276). -/
def Span.words (x : Span) : Span :=
  let y := spanTo (x.lo / 8 * 8) ((x.hi + 7) / 8 * 8)
  if x.pitch % 8 = 0 then { y with pitch := x.pitch, a := x.a / 8 * 8, b := (x.b + 7) / 8 * 8 } else y

/-- An instruction that another unit may still be working on: its queue, its bytes, and the semaphores whose rise tells that it is
complete. -/
structure Touch where
  q : Nat
  reads : List Span
  writes : List Span
  told : List Nat

/-- Where an entry stands: positions of its walks, instructions that may not be complete, rows that lie in the slots of rings (slot address,
row), and the first place that breaks an order. -/
structure Flow where
  pos : SMap Nat := []
  pend : List Touch := []
  rings : SMap Nat := []
  bad : Option Nat := none

/-- Does an instruction on queue `q` meet one of another queue that may not be complete: a read of what it writes, a write of what it reads, or
a write of a word that it writes (R65, R105, R141, R159, R169, R276)? -/
def Touch.clash (t : Touch) (q : Nat) (rs ws : List Span) : Bool :=
  t.q ≠ q && (overlap t.writes rs || overlap t.reads ws || overlap (t.writes.map Span.words) (ws.map Span.words))

/-- Is a ring row that an instruction reads overwritten in its slot by another row of the entry (R86, R105)? -/
def ringLost (rings : SMap Nat) (d : Nat) (us : WalkUse) : Bool :=
  dRingRows d ≠ 0 && us.pixels.any (fun x =>
    let (y, _, _) := ungroup d x.1.1 x.1.2 0
    let h := SMap.get 0 rings (rowSlot d y)
    h ≠ 0 && h ≠ y + 1)
/-- The rows that a walk leaves in the slots of its ring. -/
def ringRows (rings : SMap Nat) (d : Nat) (us : WalkUse) : SMap Nat :=
  if dRingRows d = 0 then rings
  else us.pixels.foldl (fun m x => let (y, _, _) := ungroup d x.1.1 x.1.2 0; SMap.set 0 m (rowSlot d y) (y + 1)) rings

/-- Semaphores that rise when an instruction completes (R187, R284): DSEM of a transfer, those of rate control for a reporting encode job. -/
def toldBy (w : Nat) : List Nat :=
  if bits w 0 8 = 8 && bits w 8 2 < 2 then [bits w 36 6]
  else if bits w 0 8 = 0x0A && bits w 8 2 = 0 && bit w 120 then range' 56 8
  else []

/-- An instruction for a unit. A credited transfer orders itself (R288). A decode job's parameters are not the values that it writes (R154). -/
def flowUnit (p : Pimg) (v : CoreView) (f : Flow) (pc w q : Nat) : Flow :=
  if q = 7 && leAt (v.xfer (bits w 10 16)) 104 4 ≠ 0 then f
  else
    let (rs, ws) := insTouch p v f.pos w
    let (ur, uw) := walkUses p v f.pos w
    let clash := f.pend.any (fun t => t.clash q rs ws) || (q = 5 && bits w 8 2 = 1 && overlap rs ws) ||
      ur.any (fun u => ringLost f.rings (v.desc u.desc) u)
    let told := toldBy w
    let rings := uw.foldl (fun m u => ringRows m (v.desc u.desc) u) f.rings
    { pos := (ur ++ uw).foldl (fun m u => SMap.set 0 m u.desc (SMap.get 0 m u.desc + u.move)) f.pos,
      pend := { q, reads := rs, writes := ws, told } :: f.pend.map (fun t => if t.q = q then { t with told := told ++ t.told } else t),
      rings := if q = 7 then SMap.drop (fun a => overlap ws [spanTo a (a + 1)]) rings else rings,
      bad := if f.bad.isSome then f.bad else if clash then some pc else none }

/-- One instruction (R66, R108, R499): a SIGNAL to a counter is held until all earlier work is complete; a SIGNAL to a semaphore tells of the
work before it (DEDUCED, log entry 22), and a WAIT on a semaphore is over when what it tells of is complete. -/
def flowStep (p : Pimg) (v : CoreView) (f : Flow) (x : Nat × Nat) : Flow :=
  let (pc, w) := x
  let op := bits w 0 8
  if op = 3 then
    if bit w 8 then { f with pend := [] } else { f with pend := f.pend.map (fun t => { t with told := bits w 10 6 :: t.told }) }
  else if op = 2 && !bit w 8 then { f with pend := f.pend.filter (fun t => !t.told.contains (bits w 10 6)) }
  else match insQueue w with
    | none => f
    | some q => flowUnit p v f pc w q

/-- The first place of an entry at which an order is not enforced. -/
def unordered (p : Pimg) (v : CoreView) (ws : List (Nat × Nat)) : Option Nat := (ws.foldl (flowStep p v) {}).bad

end Sys2Proof.Machine
end

