-- ==== Sys2Proof/Machine/LoaderOrders.lean ====
section
/-! DEFINITION. Loader checks 0x0F30 to 0x0F33: orders, bounds and budgets (R58, R63, R66, R70 to R72, R81, R108, R125, R141, R159, R161,
R169, R182, R194, R257, R263, R264, R292, R436). -/

namespace Sys2Proof.Machine

/-! ### Orders (R66, R70, R108, R141, R159, R169, R292, R436) -/

/-- Is core `n` the highest core of its partition? -/
def highestCore (p : Pimg) (n : Nat) : Bool := leAt (p.get secPartition (leAt (p.get secCore n) 0 1)) 0 1 / 2 ^ (n + 1) = 0
/-- Uses of store counters by the programs of a partition in a variant: opcode (2 WAIT, 3 SIGNAL), counter, core, contexts, place. -/
def counterUses (cores : Nat) (p : Pimg) (q v : Nat) : List (Nat × Nat × Nat × List Nat × Nat) :=
  ((placed cores p).filter (fun n => leAt (p.get secCore n) 0 1 = q)).flatMap (fun n =>
    let k := if p.has secProgram (n + 256 * v) then v else 0
    (entriesOf p n k).flatMap (fun (i, e, ws) => (ws.filter (fun x => (bits x.2 0 8 = 2 || bits x.2 0 8 = 3) && bit x.2 8)).map (fun x =>
      (bits x.2 0 8, bits x.2 64 32, n, entryCtxs (schedBytes p n k) i e, x.1))))
/-- R108: one context advances each counter, and a ready counter lies in the half on its consumer's C-die. The counters of Filzel
channels lie where their entries put them (R343). -/
def counterCheck (cores : Nat) (p : Pimg) : Chk Unit := do
  let chans := p.chans.flatMap (fun c => [c.ctr, c.rctr])
  mustAll (p.insts secPartition) (fun q => mustAll (List.range 4) (fun v =>
    let us := counterUses cores p q v
    mustAll us (fun u =>
      let same := us.filter (fun x => x.1 = 3 && x.2.1 = u.2.1)
      must (u.1 ≠ 3 || same.all (fun x => x.2.2.1 = u.2.2.1) && (List.range 8).any (fun c => same.all (fun x => x.2.2.2.1.contains c)))
        0x0F30 (p.idx secProgram u.2.2.1) u.2.2.2.2 >>= fun _ =>
      must (u.1 ≠ 2 || chans.contains u.2.1 || u.2.1 < 2 ^ 31 || (u.2.1 ≥ 0xC0000000) = (u.2.2.1 ≥ 4))
        0x0F30 (p.idx secProgram u.2.2.1) u.2.2.2.2)))

/-- Does an instruction forward a tile, or take one from the weight chain (R68)? -/
def forwards (w : Nat) : Bool := bits w 0 8 = 0x10 && bit w 65
def receives (w : Nat) : Bool := bits w 0 8 = 0x10 && bit w 64
/-- How often an entry runs in a period: once for every periodic row that names it, and once as the task of a context of its activity. -/
def entryRuns (b : List Byte) (i : Nat) (e : SEntry) : Nat :=
  ((schedRows b).filter (fun r => r.entry = i)).length + (if (schedCtxs b).any (fun c => c.1 = 1 && c.2.1 = e.activity) then 1 else 0)
/-- Instructions with a property that the entries of an activity run on a core in a period. -/
def entryCount (p : Pimg) (n act : Nat) (f : Nat → Bool) : Nat :=
  (((entriesOf p n 0).filter (fun x => x.2.1.activity = act)).map (fun x =>
    entryRuns (schedBytes p n 0) x.1 x.2.1 * (x.2.2.filter (fun y => f y.2)).length)).sum
/-- R292: no core but the first of a partition's chain receives without a predecessor, and each activity's entries forward as many tiles as
the entries of the successor core receive in a period. -/
def chainCheck (cores : Nat) (p : Pimg) : Chk Unit :=
  mustAll (placed cores p) (fun n =>
    let q := leAt (p.get secCore n) 0 1
    let pred := ((List.range n).filter (fun m => (placed cores p).contains m && leAt (p.get secCore m) 0 1 = q)).getLast?
    mustAll (List.range 3) (fun k =>
      let act := 4 * q + k
      must (decide (entryCount p n act receives = (match pred with | none => 0 | some m => entryCount p m act forwards))) 0x0F30 (p.idx secProgram n)))

/-- 0x0F30, as far as the programs decide it. -/
def orderCheck (cores : Nat) (p : Pimg) : Chk Unit := do
  matrixCheck cores p 0x0F30
  codeCheck cores p 0x0F30 (fun v _ _ _ w => !(highestCore p v.n && forwards w))
  chainCheck cores p
  entryCheck cores p 0x0F30 (fun v _ _ _ ws => unordered p v ws)
  counterCheck cores p
  finding p 0x0F30

/-! ### Bounds (R58, R63, R71, R81, R125, R161, R182, R194, R263) -/

/-- PERIOD_NS of the image, or of the one that runs. -/
def imgPeriod (s : State) (p : Pimg) : Nat := if p.scope = 0 then leAt (p.get secDevice 0) 0 4 else s.img.periodNs
/-- ACLK cycles that a micro-instruction takes to issue: 4 on the dividers, the taps of its window for a pooling vector, else 1 (R115, R117). -/
def microCycles (v : CoreView) (w u : Nat) : Nat :=
  let op := bits u 0 8
  let d := v.desc (if bit u 45 then bits w 38 16 else bits w 22 16)
  if op = 0x19 || op = 0x1E || op = 0x2A || op = 0x3D then 4
  else if op = 3 && dPool d ≠ 0 then dKh d * dKw d
  else 1
/-- Pages of HBM that a transfer touches on its HBM sides. -/
def xferPages (t : List Byte) : Nat :=
  let side (sp base so : Nat) : List Nat :=
    if sp = 1 || (base = 0 && bit (leAt t 102 1) 2) then [] else (xferRuns t (leAt t base 8) so).flatMap (fun x => range' (x.lo / 2 ^ 21) ((x.hi - 1) / 2 ^ 21 + 1 - x.lo / 2 ^ 21))
  (side (leAt t 100 1) 0 36 ++ side (leAt t 101 1) 8 68).eraseDups.length
/-- The bound of R287 on an uncredited transfer, in ACLK cycles: NCLK runs at 1.65 GHz and ACLK at 1.1 GHz. -/
def xferBound (t : List Byte) : Nat :=
  if leAt t 104 4 ≠ 0 then 0
  else
    let r := ([20, 24, 28, 32].map (fun o => leAt t o 4)).foldl (· * ·) 1
    ceilDiv (2 * (64 + r * (ceilDiv (leAt t 16 4) 128 + 1) + 80 * xferPages t)) 3
/-- ACLK cycles that an instruction occupies its unit by the unit bounds that its own fields and descriptors give: weights (R63), activation
rows on the fastest path of their format (R58), drained rows (R71), issued micro-instructions (R115, R117, R125), entropy steps (R161), motion
blocks (R182) and transfers (R287). -/
def unitBound (p : Pimg) (v : CoreView) (w : Nat) : Nat :=
  let op := bits w 0 8
  let f := bits w 11 4
  let lanes := bits w 10 6 + 1
  let steps := (bits w 64 20 + lanes) / lanes
  if op = 0x10 then (if f = 13 then 256 else 128)
  else if op = 0x11 then (bits w 32 8 + 1) * pathBeat f f
  else if op = 0x12 then (bits w 56 8 + 1) * (if f = 7 then 4 else if f = 6 || f = 13 then 2 else 1)
  else if op = 9 && bits w 8 2 = 0 then vecCost p v.n w (microCycles v w)
  else if op = 8 && bits w 8 2 = 0 then xferBound (v.xfer (bits w 10 16))
  else if op = 0x0A then
    (if bits w 8 2 = 0 then 3 * steps + 8 else if bits w 8 2 = 1 then 6 * steps + 12 else 2 * (bits w 64 20 + 1))
  else if op = 0x0B then
    (bits w 99 9 + 1) * ((dInW (v.desc (bits w 26 16)) + 15) / 16) * (if bits w 8 2 = 0 then 768 else 96)
  else 0
/-- A bound of an entry that no bound of the loader lies below: each unit takes at least the sum of its own work, and a rotation's 16 cycles
come on top (R263, R436). The waits that the loader adds come from the analysis of log entry 22. -/
def entryBound (p : Pimg) (v : CoreView) (ws : List (Nat × Nat)) : Nat :=
  16 + ((List.range 8).map (fun q => ((ws.filter (fun x => insQueue x.2 = some q)).map (fun x => unitBound p v x.2)).sum)).foldl max 0
/-- Combine slots that an entry needs open at once (R81): each is open at least until the entry's own records for it have left, and one after
which no MMA, DRAIN or WAIT has come cannot have closed. `tags` holds those open. -/
def slotNeed : List Nat → List (Nat × Nat) → Nat
  | tags, [] => tags.length
  | tags, (_, w) :: ws =>
    let op := bits w 0 8
    let sends (t : Nat) : Bool := ws.any (fun y => bits y.2 0 8 = 0x11 && bits y.2 42 2 ≥ 2 && bits y.2 64 32 = t)
    max tags.length (slotNeed (if op = 0x13 then bits w 16 32 :: tags else if op = 2 || op = 0x11 || op = 0x12 then tags.filter sends else tags) ws)
/-- Combine slots that a core needs open at once: each context may run the entry that needs most. -/
def coreSlotsNeed (p : Pimg) (n v : Nat) : Nat :=
  ((List.range 8).map (fun c => ((entriesOf p n v).filter (fun x => (entryCtxs (schedBytes p n v) x.1 x.2.1).contains c)).foldl
    (fun m x => max m (slotNeed [] x.2.2)) 0)).sum
/-- Is a near-live or archival job short enough beside live work (R194): one latent row, one block row, 4,096 input vectors? A latent row is one
walk row of the values' descriptor. -/
def shortJob (v : CoreView) (w : Nat) : Bool :=
  let op := bits w 0 8
  let d := v.desc (bits w 16 16)
  !(op = 9 && bits w 8 2 = 0 && decide (bits w 86 20 ≥ 4096)) && !(op = 0x0B && decide (bits w 99 9 ≥ 1)) &&
    !(op = 0x0A && bits w 8 2 < 2 && decide (bits w 64 20 + 1 > dTileW d * dCg d))

/-- 0x0F31: periodic rows that overlap or end after the period, bounds below the units' own, too many combine slots, and jobs too long beside
live work. -/
def boundCheck (s : State) (cores : Nat) (p : Pimg) : Chk Unit := do
  mustAll (progKeys cores p) (fun (n, v) => do
    let b := schedBytes p n v
    let es := schedEntries b
    let x := p.idx secSchedule (n + 256 * v)
    let rows := (schedRows b).map (fun r => (r.ctx, r.offset, r.offset + (nth {} es r.entry).bound))
    mustAll (indexed rows) (fun (i, r) => must (r.2.2 ≤ imgPeriod s p * 11 / 10 &&
      (rows.take i).all (fun q => q.1 ≠ r.1 || q.2.2 ≤ r.2.1 || r.2.2 ≤ q.2.1)) 0x0F31 x (es.length + i))
    let live := es.any (fun e => e.activity % 4 = 0)
    mustAll (entriesOf p n v) (fun (i, e, ws) => must (decide (entryBound p (viewOf p n) ws ≤ e.bound) && decide (coreSlotsNeed p n v ≤ 256) &&
      (!live || e.activity % 4 = 0 || ws.all (fun y => shortJob (viewOf p n) y.2))) 0x0F31 x i))
  finding p 0x0F31

/-! ### Budgets (R257, R264) -/

/-- Budget records of the image. -/
def budRecs (p : Pimg) : List (List Byte) := records 232 ((p.get secBudgets 0).drop 8)
/-- Budget of resource `r` in a record (R257): 0 to 7 arrays, 8 to 15 symbols, 16 to 23 HBM, 24 to 39 links. -/
def budField (b : List Byte) (r : Nat) : Nat :=
  if r < 8 then leAt b (8 + 4 * r) 4 else if r < 16 then leAt b (40 + 8 * (r - 8)) 8 else if r < 24 then leAt b (104 + 8 * (r - 16)) 8
  else leAt b (168 + 4 * (r - 24)) 4
/-- Capacity of a resource per period (R264). -/
def capacity (per r : Nat) : Nat :=
  if r < 8 then 4 * (per * 11 / 10) else if r < 16 then 64 * (per * 11 / 10) else if r < 24 then per * 4096 / 5 else per * 5 / 128
/-- RECORD of a budget sum (R262). -/
def capRecord (r : Nat) : Nat := if r < 8 then r else if r < 16 then 0x100 + (r - 8) else if r < 24 then 0x200 + (r - 16) else 0x300 + (r - 24)
/-- Budgets of the activities of other partitions, as they run. -/
def keptBudget (s : State) (p : Pimg) (r : Nat) : Nat :=
  if p.scope = 0 then 0 else (((List.range 32).filter (fun a => a / 4 ≠ p.partId)).map (fun a => SMap.get 0 s.img.budgets (a * 64 + r))).sum
/-- 0x0F32. -/
def budgetCheck (s : State) (p : Pimg) : Chk Unit := do
  let x := p.idx secBudgets 0
  let rs := budRecs p
  must (allZero (slice (p.get secBudgets 0) 2 6)) 0x0F32 x
  mustAll (indexed rs) (fun (i, b) => must (leAt b 1 1 ≤ 2 && allZero (slice b 2 6) && p.has secPartition (leAt b 0 1) &&
    (rs.take i).all (fun c => leAt c 0 2 ≠ leAt b 0 2)) 0x0F32 x i)
  mustAll (List.range 40) (fun r => must (decide ((rs.map (fun b => budField b r)).sum + keptBudget s p r ≤ capacity (imgPeriod s p) r)) 0x0F32 x
    (capRecord r))
/-- Budget of an activity in the image. -/
def imgBudget (p : Pimg) (a r : Nat) : Nat := match (budRecs p).find? (fun b => leAt b 0 1 * 4 + leAt b 1 1 = a) with | some b => budField b r | none => 0
/-- 0x0F33: array work, entropy work, and channel slots with a budget of 0. -/
def zeroCheck (cores : Nat) (p : Pimg) : Chk Unit := do
  mustAll (progKeys cores p) (fun (n, v) => mustAll (entriesOf p n v) (fun (i, e, ws) =>
    let uses (f : Nat → Bool) : Bool := ws.any (fun y => f y.2)
    must ((imgBudget p e.activity n > 0 || !uses (fun w => 0x10 ≤ bits w 0 8 && bits w 0 8 ≤ 0x12)) &&
      (imgBudget p e.activity (8 + n) > 0 || !uses (fun w => bits w 0 8 = 0x0A && bits w 8 2 < 2))) 0x0F33 (p.idx secSchedule (n + 256 * v)) i))
  mustAll p.sets (fun x => mustAll (indexed x.runs) (fun (k, rs) =>
    must (rs.all (fun r => r.kind ≠ 0 || (p.scope ≠ 0 && r.act / 4 ≠ p.partId) || imgBudget p r.act (24 + k) > 0)) 0x0F33 (p.idx secFabric 0) k))
  finding p 0x0F33

end Sys2Proof.Machine
end

