-- ==== Sys2Proof/Machine/LoaderFits.lean ====
section
/-! DEFINITION. Loader checks 0x0F34 to 0x0F39: what fits the stores, the repair state and the running image; and all checks in the order
of R262 (R74, R106, R177, R262, R267, R269, R275). -/

namespace Sys2Proof.Machine

/-! ### Fits (R74, R106, R177, R275) -/

/-- Regions of a core's tile store that CORE names: base and bytes (R106, R252). -/
def coreRegions (c : List Byte) : List (Nat × Nat) :=
  [(0, 262144), (leAt c 16 4, 64 * leAt c 12 4), (leAt c 20 4, 512), (leAt c 24 4, leAt c 28 4), (leAt c 32 4, leAt c 36 4),
    (leAt c 56 4, 512)].filter (fun x => x.2 > 0)
/-- Regions that no map, ring or DMA buffer shares: the program region, the descriptor table and the combine holding regions. -/
def coreOwn (c : List Byte) : List (Nat × Nat) :=
  [(0, 262144), (leAt c 16 4, 64 * leAt c 12 4), (leAt c 32 4, leAt c 36 4)].filter (fun x => x.2 > 0)
/-- The rate slots and the task records, into which no array, engine or vector program writes a map (R186, R500). -/
def coreSlots (c : List Byte) : List (Nat × Nat) := [(leAt c 20 4, 512), (leAt c 56 4, 512)]
/-- Do two regions (base, bytes) lie apart? -/
def apart (x y : Nat × Nat) : Bool := y.1 + y.2 ≤ x.1 || x.1 + x.2 ≤ y.1
/-- Does the record of one source that begins at group `g` arrive before one with a lower group can? One of another source may come later, and
one of the same source does when it was sent later (R76). -/
def canBeEarly : List (Nat × Nat) → List (Nat × Nat) → List Nat
  | _, [] => []
  | before, x :: after =>
    let low (y : Nat × Nat) : Bool := y.2 < x.2
    if before.any (fun y => low y && y.1 ≠ x.1) || after.any low then x.2 :: canBeEarly (x :: before) after else canBeEarly (x :: before) after
/-- First groups of the records that can arrive out of order under the tag of a CSLOT (R74, R76): those of the partition's cores, and those of
the groups that no core of it sends and a channel into the core brings, taken as one further source in ascending order (log entry 22). -/
def earlyGroups (p : Pimg) (v : CoreView) (var w : Nat) : List Nat :=
  let own := tagSends p v.part var (bits w 16 32)
  let brought := p.chans.any (fun c => c.role = 1 && c.kind = 1 && c.core = v.n)
  let far := if brought && tagForm p v.part (bits w 16 32) ≠ 1 then
      ((List.range (bits w 76 16)).filter (fun g => !own.any (fun y => y.2 = g))).map (fun g => (8, g)) else []
  (canBeEarly [] (own ++ far)).eraseDups
/-- The holding region of a CSLOT (R74): one 16-byte place for each position and each record that can arrive out of order, in the core's
holding regions. Integer partials are added as they arrive and hold nothing (R75). -/
def holdOk (p : Pimg) (v : CoreView) (var : Nat) (c : List Byte) (w : Nat) : Bool :=
  let places := (bits w 60 8 + 1) * (bits w 68 8 + 1) * (earlyGroups p v var w).length
  let a := dBase (v.desc (bits w 92 16))
  places = 0 || (leAt c 32 4 ≤ a && a + 16 * places ≤ leAt c 32 4 + leAt c 36 4)

/-- 0x0F34: the regions that CORE names lie in the tile store and are disjoint; every map, ring and DMA buffer of the programs lies in it
beside the program region, the descriptor table and the holding regions; every CSLOT has its places. -/
def tileCheck (cores : Nat) (p : Pimg) : Chk Unit := do
  mustAll (placed cores p) (fun n =>
    let c := p.get secCore n
    let xs := coreRegions c
    must (xs.all (fun x => x.1 + x.2 ≤ leAt c 2 1 * 2 ^ 20) &&
      (indexed xs).all (fun (i, x) => (xs.take i).all (fun y => apart x y))) 0x0F34 (p.idx secCore n))
  codeCheck cores p 0x0F34 (fun v var _ _ w =>
    let c := p.get secCore v.n
    ((insReach p v w).filter (fun r => r.1 < 2 ^ 31)).all (fun r =>
      r.2 ≤ v.tile * 2 ^ 20 && (coreOwn c).all (fun y => apart (r.1, r.2 - r.1) y)) &&
    (bits w 0 8 = 8 || bits w 0 8 = 3 || ((insWrites p v w).filter (fun r => r.lo < 2 ^ 31)).all (fun r =>
      (coreSlots c).all (fun y => apart (r.lo, r.hi - r.lo) y))) &&
    (bits w 0 8 ≠ 0x13 || holdOk p v var c w))
  finding p 0x0F34

/-- Shared-store ranges of a partition of the image: of the programs of its cores, and of its channels' rings and counters
(R275). -/
def sharedRanges (cores : Nat) (p : Pimg) (q : Nat) : List (Nat × Nat) :=
  let code := ((progKeys cores p).filter (fun x => leAt (p.get secCore x.1) 0 1 = q)).flatMap (fun (n, v) =>
    (entriesOf p n v).flatMap (fun (_, _, ws) => ws.flatMap (fun y => insReach p (viewOf p n) y.2)))
  let ch := (p.chans.filter (fun c => c.act / 4 = q)).flatMap (fun c =>
    [(c.ctr, c.ctr + 4), (c.rctr, c.rctr + 4)] ++ (if bit c.base 63 || (c.role = 1 && c.kind = 1) then [] else [(c.base, c.base + c.slots * c.unitBytes)]))
  ((code ++ ch).filter (fun r => r.1 ≥ 2 ^ 31 && r.1 < r.2)).eraseDups
/-- 0x0F35: the ranges fit the halves, and no two partitions share a byte. -/
def sharedCheck (s : State) (cores : Nat) (p : Pimg) : Chk Unit := do
  mustAll (p.insts secPartition) (fun q =>
    let rs := sharedRanges cores p q
    let others := if p.scope = 0 then ((p.insts secPartition).filter (· < q)).flatMap (sharedRanges cores p)
      else (s.img.shared.filter (fun x => x.1 ≠ q)).map (·.2)
    must (rs.all (fun r => inShared s p r.1 (r.2 - r.1) && others.all (fun o => o.2 ≤ r.1 || r.2 ≤ o.1))) 0x0F35 (p.idx secPartition q))
  finding p 0x0F35

/-! ### Repair state and the running image (R267, R269) -/

/-- 0x0F38. -/
def retiredCheck (s : State) (cores : Nat) (p : Pimg) : Chk Unit := do
  mustAll (placed cores p) (fun n =>
    let a := activeArrays s n
    must (!coreRetired s n && (a ≥ 4 || (a ≥ 1 && bit (leAt (p.get secCore n) 3 1) (3 - a)))) 0x0F38 (p.idx secCore n))
  mustAll (p.insts secPartition) (fun q => mustAll (indexed (pagesOf p q)) (fun (i, e) =>
    must (!pageUnavailable s (pagePpn e)) 0x0F38 (p.idx secHbm q) i))

/-- 0x0F38 against the repair state at the start of VALIDATING (R267). -/
def earlyCheck (s : State) : Chk Unit := match s.ld.early with | none => .ok () | some (c, p, r) => .error ⟨c, p, r⟩

/-- Digest of the running whole-device image, from MGT_IMG_DIGi. -/
def runDigest (s : State) : List Byte := (List.range 6).flatMap (fun i => leBytes 8 (rd64 s (mgtBase + 0x458 + 8 * i)))
/-- Channels that an instruction uses, by index: the destination of its records, or the channel whose counter it waits on or advances. -/
def chansUsed (p : Pimg) (w : Nat) : List FChan :=
  let op := bits w 0 8
  if op = 0x11 && bits w 42 2 ≥ 2 && bit (bits w 64 32) 31 then (p.chans[bits w 80 12]?).toList
  else if (op = 2 || op = 3) && bit w 8 then p.chans.filter (fun c => c.ctr = bits w 64 32 || c.rctr = bits w 64 32)
  else []
/-- Does a channel lie within the slots that the fabric assigns to partition `q`: is it the partition's, and sent in some slot when it is a
source (R269)? -/
def chanWithin (p : Pimg) (q : Nat) (c : FChan) : Bool :=
  c.act / 4 = q && (c.role = 1 || p.sets.any (fun x => x.runs.any (fun rs => rs.any (fun r => r.kind = 0 && r.chan = c.number))))

/-- 0x0F39. -/
def baseCheck (s : State) (cores : Nat) (p : Pimg) : Chk Unit := do
  if p.scope = 1 then
    let q := p.partId
    must (slice p.bs 48 48 = runDigest s && leAt (p.get secPartition q) 0 1 = cores) 0x0F39 (p.idx secPartition q)
    mustAll (placed cores p) (fun n => must (leAt (p.get secCore n) 2 1 = (coreCfg s n).tileMib) 0x0F39 (p.idx secCore n))
    let now := (runPages s q).map pagePpn
    let new := (pagesOf p q).map pagePpn
    must (now.all new.contains && new.all now.contains) 0x0F39 (p.idx secHbm q)
    codeCheck cores p 0x0F39 (fun _ _ _ _ w => (chansUsed p w).all (chanWithin p q))

/-! ### All checks in the order of R262 -/

/-- Cores of the partition that a partial image replaces, as they run. -/
def pidCores (s : State) (p : Pimg) : Nat := (SMap.get {} s.img.parts p.partId).cores

/-- The loader's checks on staged bytes, in the order of R262. A SCOPE 1 image needs a running image (R266). -/
def validate (s : State) (bs : List Byte) : Chk Unit := do
  must (decide (bs.length ≤ 2 ^ 33 - 2 ^ 30 * ((List.range 8).filter (relocated s)).length)) 0x0F41
  headerCheck bs
  abiCheck bs
  partCheck bs
  let p := imgOf s bs
  let cores := pidCores s p
  must (p.scope = 0 || bit (rd32 s (mgtBase + 0x488)) 0) 0x0F44
  tableCheck cores p
  crcCheck p
  sizeCheck p
  missingCheck cores p
  signCheck s p
  deviceCheck p
  partitionCheck s cores p
  splitCheck cores p
  hbmCheck s cores p
  modelCheck s cores p
  fabricCheck s p
  instructionCheck s cores p
  formatCheck cores p
  shapeCheck cores p
  descriptorCheck cores p
  microCheck cores p
  orderCheck cores p
  boundCheck s cores p
  budgetCheck s p
  zeroCheck cores p
  tileCheck cores p
  sharedCheck s cores p
  earlyCheck s
  baseCheck s cores p

end Sys2Proof.Machine
end

