-- ==== Sys2Proof/Machine/Streams.lean ====
section
/-! DEFINITION. The stream table's commands, rings and doorbells, and submission records (R305 to R317, R320, R330, R380,
R423, R425). -/

namespace Sys2Proof.Machine

def cEntryInvalid : Nat := 0x0901
def cChannelGroup : Nat := 0x0903
def cMinorLow : Nat := 0x0904
def cSlotOwned : Nat := 0x0905
def cRingInvalid : Nat := 0x0906
def cInputSize : Nat := 0x0907
def cEntryInvalidated : Nat := 0x0909
def cRingFull : Nat := 0x090B
def cEntryBusy : Nat := 0x090C
def cNoImage : Nat := 0x0F44

/-! ### Validity of an entry (R307, R423) -/

/-- Is a partition defined by the image and not stopped? -/
def partUp (s : State) (p : Nat) : Bool :=
  bit (rd32 s (mgtBase + 0x488)) (8 + p) && !bit (rd32 s (mgtBase + 0x488)) (24 + p)

/-- Is ring `r` enabled, of kind `k` and of partition `p`? -/
def ringOk (s : State) (r k p : Nat) : Bool := r < 16384 && ringEnabled s r && ringKind s r = k && ringPart s r = p

/-- Does an entry record `i` of activity `a` stand in the SCHEDULE of a core of partition `p`? -/
def entryRecOk (s : State) (p i a : Nat) : Bool :=
  (List.range 8).any (fun n => partOf s n = p && (sentry s n i).any (fun e => e.activity = a))

/-- The pair conditions of R307. -/
def pairOk (s : State) (e : W512) : Bool :=
  let p := SMap.get {} s.img.parts (ePart e)
  if !eVerify e then eVpair e = 0
  else eVpair e < p.nPairs && !eDecode e && (match p.pairs[eVpair e]? with
    | none => false
    | some (enc, dec) => match sentry s enc (eEntry e) with
      | none => false
      | some r => r.ventry ≠ 0xFFFF && (sentry s dec r.ventry).any (fun v => v.activity = eActivity e))

/-- FRAME sizes of R197. -/
def audioFrames : List Nat := [160, 240, 320, 441, 480, 640, 882, 960, 1764, 1920]

/-- Does a field hold a value that R305 or R219 does not define? -/
def fieldsBad (s : State) (e : W512) : Bool :=
  let f := eFormat e
  let media := if eAudio e then
      f > 1 || !audioFrames.contains (eWidth e) || eChans e = 0 || eChans e > 16 || eb e 27 1 ≠ 0 || eStages e = 0 ||
        eStages e > mStages s (eMslot e)
    else f > 3 || eWidth e < 16 || eWidth e > 8192 || eHeight e < 16 || eHeight e > 4320 ||
      ((f = 0 || f = 3) && (eWidth e % 2 ≠ 0 || eHeight e % 2 ≠ 0))
  media || eKeyInterval e = 0 || eRapKeys e = 0 || eClass e = 3 || eProfile e > 4095 || bits e.toNat 20 12 ≠ 0 || ePminor e = 3

/-- The convolutions of a model's codec layers that read the picture or the audio frame: A_FMT and C_IN of each (R259, R260). -/
def frameLayers (s : State) (m : Nat) : List (Nat × Nat) :=
  let b := (SMap.get {} s.img.models m).bytes
  ((List.range (leAt b 32 4)).map (fun i => slice b (64 + 64 * i) 64)).filterMap (fun l =>
    if leAt l 0 2 = 0 && leAt l 6 2 = 0xFFFE then some (leAt l 2 1, leAt l 10 2) else none)

/-- Does a model's format agree with an entry's (R307)? The model declares none, so it is read from the layers that take the frame:
8-bit elements for 8-bit samples and 16-bit ones for the rest (R365), for audio one INT16 channel for each 16-bit channel of a group
and two for each 24-bit one (R199), with a HOP that cuts FRAME into 1 to 64 vectors (R201; log entry 114). -/
def formatAgrees (s : State) (e : W512) : Bool :=
  let m := eMslot e
  if eAudio e then
    (frameLayers s m).all (fun l => l.1 = 4 && l.2 = mGw s m * (1 + eFormat e)) &&
      1 ≤ mHop s m && eWidth e % max 1 (mHop s m) = 0 && decide (eWidth e / max 1 (mHop s m) ≤ 64)
  else (frameLayers s m).all (fun l => fmtBits l.1 = if eFormat e = 1 then 8 else 16)

/-- Why a WRITE that would make an entry valid is refused; 0 when it is not. -/
def entryStatus (s : State) (e : W512) : Nat :=
  let p := ePart e
  let m := eMslot e
  let g := mGw s m
  let lo := nth (0, 0) s.img.vmin 0
  let hi := nth (0, 0) s.img.vmax 0
  let need := if eProt e then 2 else if eAudio e then 1 else 0
  let parts := SMap.get {} s.img.parts p
  if !partUp s p || !bit parts.slots m then cSlotOwned
  else if (SMap.get {} s.img.models m).bytes = [] || (eAudio e ≠ decide (g ≠ 0)) || !formatAgrees s e then cModelMismatch
  else if eAudio e && eChans e % max 1 g ≠ 0 then cChannelGroup
  else if ePminor e < lo.2 || ePminor e > hi.2 || ePminor e < need then cMinorLow
  else if !ringOk s (eInRing e) 0 p || !ringOk s (eOutRing e) 1 p || !ringOk s (eCplRing e) 3 p ||
      (eRecRing e ≠ 0xFFFF && !ringOk s (eRecRing e) 4 p) then cRingInvalid
  else if !entryRecOk s p (eEntry e) (eActivity e) || (eFeat e && !entryRecOk s p (eFeatEntry e) (eActivity e)) then cEntryInvalid
  else if !pairOk s e || fieldsBad s e then cEntryInvalid
  else if !eProt e then 0
  else match keyOf s (eKeyId e) with
    | none => 0x0202
    | some k => if bit k.usage (if eDecode e then 0 else 1) then 0 else 0x0203

/-! ### Entry commands (R306, R330) -/

/-- STR_EDATA as an entry. -/
def edata (s : State) : W512 := BitVec.ofNat 512 ((List.range 16).foldl (fun acc i => acc + rd32 s (strBase + 0x100 + 4 * i) * 2 ^ (32 * i)) 0)
/-- Sets STR_ESTAT.CODE; a refusal is a code that the scheduler raises. -/
def estat (s : State) (code : Nat) : State :=
  let s := wrBits s (strBase + 0x44) 16 16 code
  if code = 0 then s else raiseBy (raise s strBase code) code
/-- May an entry command act: the scheduler runs and is not busy, and the index exists? -/
def entryCmdOk (s : State) (i : Nat) : Bool := codecOn s && !bit (rd32 s (strBase + 0x44)) 0 && i < 262144

/-- ENTRY_READ (R330). -/
def execEntryRead (i : Nat) (s : State) : Out := .next <|
  if !entryCmdOk s i then s
  else
    let e := (entry s i).toNat
    estat ((List.range 16).foldl (fun s k => wr32 s (strBase + 0x100 + 4 * k) (bits e (32 * k) 32)) s) 0

/-- Keeps of `new` only the fields that a WRITE with INIT = 0 may change, the rest and the device fields from `old`. -/
def mergeEntry (old new : W512) : W512 :=
  let e := [(28, 2), (30, 2), (32, 2), (36, 1), (56, 2)].foldl (fun e x => ebSet e x.1 x.2 (eb new x.1 x.2)) old
  BitVec.ofNat 512 (setBits (setBits (setBits e.toNat 5 2 (eStats new)) 17 2 (eRetry new)) 19 1 (eHold new).toNat)

/-- Does a changed entry hold a value that R305 or R219 does not define, or a FEAT_ENTRY of another activity? The other cases of
R307 concern a WRITE that makes an entry valid. -/
def changeBad (s : State) (e : W512) : Bool :=
  fieldsBad s e || (eFeat e && !entryRecOk s (ePart e) (eFeatEntry e) (eActivity e))

/-- ENTRY_WRITE (R306): a WRITE with INIT = 0 changes the permitted fields of a valid entry; any other change is refused with
entry-busy. -/
def execEntryWrite (i : Nat) (s : State) : Out := .next <|
  if !entryCmdOk s i then s
  else
    let old := entry s i
    let new := edata s
    let m := mergeEntry old new
    let dev (e : W512) : W512 := ebSet (ebSet (ebSet (ebSet e 37 1 0) 38 1 0) 58 2 0) 60 4 0
    if !eValid old then estat s cEntryInvalid
    else if dev m ≠ dev new then estat s cEntryBusy
    else if changeBad s m then estat s cEntryInvalid
    else admitRing (setEntry (estat s 0) i m) (eInRing m)

/-- How many IV_PREFIX values there are (R423). -/
def ivPrefixes : Nat := 2 ^ 32

/-- The next IV_PREFIX: the counter never repeats, and flash reserves it 256 values at a time (R423). -/
def takePrefix (s : State) : Nat × State :=
  let v := s.drk.next
  let s := s.setDrk { s.drk with next := v + 1 }
  (v, if v + 1 > s.flash.prefixEnd then s.setFlash { s.flash with prefixEnd := s.flash.prefixEnd + 256 } else s)

/-- ENTRY_CREATE (R306, R307, R423): a WRITE with INIT = 1 creates an entry after the checks. -/
def execEntryCreate (i : Nat) (s : State) : Out := .next <|
  if !entryCmdOk s i then s
  else
    let new := ebSet (ebSet (edata s) 38 1 0) 58 2 0
    if eValid (entry s i) then estat s cEntryBusy
    else if !eValid new then setEntry (estat s 0) i (BitVec.ofNat 512 (setBits new.toNat 20 12 0))
    else
      let st := entryStatus s new
      if st ≠ 0 then estat s st
      else if eProt new && !eDecode new && s.drk.next ≥ ivPrefixes then estat s 0x020C
      else
        let e := if eProt new && !eDecode new then ebSet new 52 4 (takePrefix s).1 else new
        let s := if eProt new && !eDecode new then (takePrefix s).2 else s
        let r := s.str
        setEntry (estat (s.setStr { r with sinceKey := SMap.set 0 r.sinceKey i 0, keyCount := SMap.set 0 r.keyCount i 0,
                                           readers := SMap.set {} r.readers i {}, dropped := SMap.set [] r.dropped i [],
                                           epochSent := SMap.set [] r.epochSent i [],
                                           tokens := SMap.set [] (SMap.set [] r.tokens (2 * i) []) (2 * i + 1) [], ivNext := SMap.set 0 r.ivNext i 0 }) 0) i e

/-- Releases every ingress slot and assembly of a stream. -/
def releaseStream (s : State) (i : Nat) : State :=
  let r := eInRing (entry s i)
  let s := s.setStr { s.str with asm := s.str.asm.filter (fun a => a.stream ≠ i) }
  (List.range (ringFill s r)).foldl (fun s j =>
    let k := (ringCons s r + j) % 65536
    match islot s r k with
    | none => s
    | some x => if x.stream = i then setIslot s r k (some { x with free := true }) else s) s

/-- Invalidates an entry: VALID clears, its tasks end with `code`, its ingress slots are released (R306). -/
def invalidate (s : State) (i code : Nat) : State :=
  let e := entry s i
  let s := setEntry s i (BitVec.ofNat 512 (setBit e.toNat 0 false))
  let s := s.setStr { s.str with invalidating := s.str.invalidating ++ [i], dropped := SMap.set [] s.str.dropped i [] }
  let s := wrBits s (strBase + 0x44) 0 1 1
  let s := abortWhere s code (fun _ _ t => t.stream = i && t.kind ≠ 2)
  let s := dropReady s code (fun t => t.stream = i)
  let r := eInRing e
  let s := advanceIngress (releaseStream s i) r (ringSlots s r)
  checkInvalidation s

/-- ENTRY_INVALIDATE (R306). -/
def execEntryInvalidate (i : Nat) (s : State) : Out := .next <|
  if !entryCmdOk s i then s
  else if !eValid (entry s i) then estat s cEntryInvalid
  else invalidate (estat s 0) i cEntryInvalidated

/-! ### Rings and doorbells (R310, R315, R380) -/

/-- A doorbell that is ignored: counted, and source 145 arrives. -/
def badDoorbell (s : State) (r : Nat) : State := arrive (count64 s (strBase + 0xD0) 1) 145 r

/-- The host acknowledges records up to a new CONS: slots free and records that waited are written. -/
def moveCons (s : State) (r i : Nat) : State :=
  let n := (i + 65536 - ringCons s r) % 65536
  let s := (List.range n).foldl (fun s j => setOslot s r ((ringCons s r + j) % 65536) none) s
  let s := setCons s r i
  pushRing (payOwed s r (s.str.owed.length)) r

/-- A doorbell (R315). -/
def doorbell (s : State) (r i : Nat) : State :=
  let k := ringKind s r
  if r ≥ 16384 || !ringEnabled s r || k < 2 then badDoorbell s r
  else if k = 2 then
    if (i + 65536 - ringCons s r) % 65536 > ringSlots s r then badDoorbell s r else setProd s r (i % 65536)
  else if (i + 65536 - ringCons s r) % 65536 > ringFill s r then badDoorbell s r
  else moveCons s r (i % 65536)

/-- DOORBELL (R315): a write of STR_DOORBELL. -/
def execDoorbell (r i : Nat) (s : State) : Out := .next <| if codecOn s then doorbell s r i else s

/-- Is `n` a power of two from 2 to 32,768? -/
def slotsOk (n : Nat) : Bool := (List.range 15).any (fun i => n = 2 ^ (i + 1))

/-- The checks of R310 on a descriptor. -/
def ringChecks (s : State) (r : Nat) : Bool :=
  let k := ringKind s r
  let sb := ringSlotBytes s r
  let fl := ringFlags s r
  k ≤ 4 && sb % 64 = 0 && 64 ≤ sb && sb ≤ 2 ^ 30 && slotsOk (ringSlots s r) && bit (rd32 s (mgtBase + 0x488)) (8 + ringPart s r) &&
  (k > 1 || ringPort s r ≤ 9) && (k < 3 || (1 ≤ ringDrainUs s r && ringDrainUs s r ≤ 10000000)) &&
  bits fl 5 3 = 0 && rdBits s (ringAt r + 28) 8 24 = 0

/-- Is every page of the ring mapped and writable? -/
def ringPages (s : State) (r : Nat) : Bool :=
  let first := ringVa s r
  let len := ringSlotBytes s r * ringSlots s r
  first + len ≤ 2 ^ 48 &&
  (List.range ((first % 2 ^ 21 + len + 2 ^ 21 - 1) / 2 ^ 21)).all (fun i =>
    match translate s (ringPart s r) (vaAdd first (i * 2 ^ 21) / 2 ^ 21 * 2 ^ 21) true false with
    | .ok _ => true
    | .error _ => false)

/-- Binds a ring's events to a session; unacknowledged records are sent again (R380). -/
def bindRing (s : State) (r sess : Nat) : State :=
  if sess = 0 || ringKind s r < 3 then s
  else
    let s := s.setStr { s.str with bound := SMap.set 0 s.str.bound r (sess + 1) }
    let s := (List.range (ringFill s r)).foldl (fun s j =>
      let i := (ringCons s r + j) % 65536
      match oslot s r i with
      | none => s
      | some x => setOslot s r i (some { x with sent := false })) s
    pushRing s r

/-- Sets ENABLED of a ring for a session, 0 for a control processor (R310, R380). -/
def enableRing (s : State) (r sess : Nat) : State :=
  if ringEnabled s r then bindRing s r sess
  else if ringChecks s r && ringPages s r then bindRing (wrBits s (ringAt r + 12) 24 1 1) r sess
  else raise (wr32 s (strBase + 0xC8) (r + cRingInvalid * 2 ^ 16)) strBase cRingInvalid

/-- RING_ENABLE (R310): a write of ENABLED by an open session, or by a processor (0). -/
def execRingEnable (r sess : Nat) (s : State) : Out := .next <|
  if !codecOn s || r ≥ 16384 || (sess ≠ 0 && (session s sess).isNone) then s else enableRing s r sess

/-- RING_STALL (R315): CONS has not advanced within DRAIN_US of the oldest record that the host has not acknowledged. -/
def execRingStall (r : Nat) (s : State) : Out := .next <|
  if !codecOn s || r ≥ 16384 || !ringEnabled s r || ringKind s r < 3 || ringFill s r = 0 then s
  else match oslot s r (ringCons s r) with
    | none => s
    | some x =>
      if x.len.isNone || tb s < x.tb + ringDrainUs s r * 1000 then s
      else
        let s := arrive (sticky s strBase stickySTALL) 144 r
        hcpSend s (SMap.get 0 s.str.bound r - 1) 0x30 0 0 (beBytes 1 2 ++ beBytes 2 r ++ beBytes 2 0)

/-! ### Submission records (R313) -/

/-- A submission record as a number. -/
def subField (w o n : Nat) : Nat := bits w (8 * o) (8 * n)

/-- The record at the head of a submission ring, when it may be taken now and has this OP. -/
def subHead (s : State) (r op : Nat) : Option Nat :=
  if !codecOn s || r ≥ 16384 || !ringEnabled s r || ringKind s r ≠ 2 || ringFill s r = 0 then none
  else
    let w := leNat (hbmPeek s (ringPart s r) (slotVa s r (ringCons s r)) 64)
    if subField w 0 1 = op then some w else none

/-- Takes the record from the ring. -/
def subTake (s : State) (r : Nat) : State :=
  setCons (noteLost s (ringPart s r) (slotVa s r (ringCons s r)) 64) r ((ringCons s r + 1) % 65536)

/-- Ends a submission that starts no task with its completion record. -/
def subDone (s : State) (r w code frame : Nat) : State :=
  let s := subTake s r
  let i := subField w 4 4
  if code ≠ 0 then refuseRecord s i code frame (subField w 24 8) false
  else postRecord s (eCplRing (entry s i)) false (completionBytes 0 0 0 i frame 0 0 0 (subField w 24 8) (tb s) (tb s) 0)

/-- Why no submission is taken for the ring's partition or entry: no image, a stopped partition, an invalid entry; 0 when one
may be. -/
def subStatus (s : State) (r w : Nat) : Nat :=
  let stop := SMap.get 0 s.str.stopCode (ringPart s r)
  if !bit (rd32 s (mgtBase + 0x488)) 0 then cNoImage
  else if stop ≠ 0 then stop
  else if !eValid (entry s (subField w 4 4)) then cEntryInvalid
  else 0

/-- Bytes of one raw item of an encode entry (R197, R198, R365). -/
def itemBytes (e : W512) : Nat :=
  if eAudio e then eWidth e * eChans e * (if eFormat e = 0 then 2 else 4)
  else
    let p := eWidth e * eHeight e
    match eFormat e with
    | 0 => p * 3
    | 1 => p * 3
    | 2 => p * 6
    | _ => p * 2

/-- RUN (R313): one task on input in HBM; it waits while the entry admits nothing. -/
def execRunTask (r : Nat) (s : State) : Out := .next <|
  match subHead s r 0 with
  | none => s
  | some w =>
    let i := subField w 4 4
    let e := entry s i
    let st := subStatus s r w
    if st ≠ 0 then subDone s r w st 0
    else if !admitOpen s e then s
    else if !eDecode e && subField w 12 4 ≠ itemBytes e then subDone s r w cInputSize 0
    else admitTask (subTake s r) 1 i (subField w 16 8 % 2 ^ 48) (subField w 12 4) none 0 (bit (subField w 1 1) 0 && !eDecode e) (subField w 24 8) (tb s)

/-- FORCE_KEY (R313). -/
def execForceKey (r : Nat) (s : State) : Out := .next <|
  match subHead s r 1 with
  | none => s
  | some w =>
    let i := subField w 4 4
    let e := entry s i
    let st := subStatus s r w
    if st ≠ 0 then subDone s r w st 0
    else if eDecode e then subDone s r w cEntryInvalid 0
    else subDone (setEntry s i (ebSet e 38 1 (eb e 38 1 ||| 1))) r w 0 0

/-- The END unit: the number of frame units written (R217). -/
def endUnit (frames : Nat) : List Byte :=
  let b := beBytes 2 0xB7E5 ++ [0x20#8, 0#8] ++ beBytes 4 4 ++ beBytes 4 frames
  b ++ beBytes 4 (crc32c b).toNat

/-- WRITE_END_UNIT (R217, R218, R313): the END unit takes the next egress slot, once no frame of the stream is left before it
and the ring has room. -/
def execWriteEndUnit (r : Nat) (s : State) : Out := .next <|
  match subHead s r 2 with
  | none => s
  | some w =>
    let i := subField w 4 4
    let e := entry s i
    let st := subStatus s r w
    if st ≠ 0 then subDone s r w st 0
    else if eDecode e then subDone s r w cEntryInvalid 0
    else if !(streamTasks s i).isEmpty || ringFree s (eOutRing e) = 0 then s
    else
      let o := eOutRing e
      let k := ringProd s o
      let u := endUnit (eFrameNext e)
      let s := hbmPoke s (ringPart s o) (slotVa s o k) u
      let s := setOslot s o k (some { owner := 0, len := some u.length, stream := i, tb := tb s })
      subDone (setProd s o ((k + 1) % 65536)) r w 0 0

/-- The ingress slot of a stream that a final abort holds for a frame (R320). -/
def heldSlot (s : State) (i frame : Nat) : Option Nat :=
  let r := eInRing (entry s i)
  ((List.range (ringFill s r)).map (fun j => (ringCons s r + j) % 65536)).find? (fun k =>
    (islot s r k).any (fun x => x.stream = i && x.state = 2 && x.frame = frame && !x.free))

/-- RETRY (R313): the held slot is admitted again. -/
def execRetry (r : Nat) (s : State) : Out := .next <|
  match subHead s r 3 with
  | none => s
  | some w =>
    let i := subField w 4 4
    let e := entry s i
    let f := subField w 8 4
    let st := subStatus s r w
    if st ≠ 0 then subDone s r w st f
    else match heldSlot s i f with
      | none => subDone s r w cEntryInvalid f
      | some k =>
        if !admitOpen s e then s
        else match islot s (eInRing e) k with
          | none => s
          | some x =>
            let s := setIslot (subTake s r) (eInRing e) k (some { x with state := 1 })
            admitTask s 0 i (slotVa s (eInRing e) k) x.bytes (some k) x.item false (subField w 24 8) x.capture

/-- SKIP (R313): the held slot is released without coding it. -/
def execSkip (r : Nat) (s : State) : Out := .next <|
  match subHead s r 4 with
  | none => s
  | some w =>
    let i := subField w 4 4
    let f := subField w 8 4
    let st := subStatus s r w
    if st ≠ 0 then subDone s r w st f
    else match heldSlot s i f with
      | none => subDone s r w cEntryInvalid f
      | some k => subDone (releaseSlot s (eInRing (entry s i)) k) r w 0 f

end Sys2Proof.Machine
end

