-- ==== Sys2Proof/Machine/Loader.lean ====
section
/-! DEFINITION. The loader: its commands, its states and what APPLYING writes (R64, R158, R240, R252 to R261, R265 to R272, R300, R304). -/

namespace Sys2Proof.Machine

/-! ### State and result (R272) -/

def ldState (s : State) : Nat := rdBits s (mgtBase + 0x408) 0 3
/-- Enters a state of MGT_LD_STATUS: source 8 arrives with it (R392). -/
def setLdState (s : State) (v : Nat) : State := arrive (wrBits s (mgtBase + 0x408) 0 3 v) 8 v
def setLdCode (s : State) (c : Nat) : State := wrBits s (mgtBase + 0x408) 16 16 c
/-- A command refused with load-busy. -/
def ldBusy (s : State) : State := raise (setLdCode s 0x0F40) mgtBase 0x0F40
/-- Ends a load in FAILED with a result. -/
def failLoad (s : State) (e : LdErr) : State :=
  let s := wr64 (raise (setLdCode s e.code) mgtBase e.code) (mgtBase + 0x410) (e.part % 65536 + e.record % 2 ^ 32 * 65536)
  setLdState (s.setLd { s.ld with op := 0 }) 5
/-- Is a load in VALIDATING, DRAINING or APPLYING? -/
def loading (s : State) : Bool := 1 ≤ ldState s && ldState s ≤ 3
def unconfigured (s : State) : Bool := !bit (rd32 s (mgtBase + 0x488)) 0
/-- MGT_LD_STAGED. -/
def setStaged (s : State) (bs : List Byte) : State :=
  wr64 (s.setLd { s.ld with staged := bs }) (mgtBase + 0x418) bs.length
/-- Writes six 64-bit digest registers. -/
def wrDigest (s : State) (a : Nat) (d : List Byte) : State :=
  (List.range 6).foldl (fun s i => wr64 s (a + 8 * i) (leAt d (8 * i) 8)) s

/-! ### LOAD, VALIDATE, CANCEL (R266, R268) -/

/-- What the repair state refuses of the staged image now (R267). -/
def stagedRetired (s : State) : Option (Nat × Nat × Nat) :=
  let p := imgOf s s.ld.staged
  match retiredCheck s (pidCores s p) p with
  | .ok _ => none
  | .error e => some (e.code, e.part, e.record)

/-- Starts a VALIDATE (`op` 1) or a LOAD (`op` 2): the image is held against the repair state of this moment (R267). -/
def startLoad (s : State) (op ms : Nat) : State :=
  if loading s || (op = 2 && rdBits s (shtBase + 0x58) 8 8 ≠ 0) then ldBusy s
  else
    let s := wrBits (wr64 s (mgtBase + 0x410) 0) (mgtBase + 0x408) 3 1 0
    setLdState (s.setLd { s.ld with op := op, drainMs := min ms 60000, early := stagedRetired s }) 1

/-- May the loader run: management is up and not in recovery (R404), and the codec side is on? -/
def loaderOn (s : State) : Bool := mgmtOn s && codecOn s

def execValidate (s : State) : Out := .next <| if loaderOn s then startLoad s 1 0 else s
def execLoad (ms : Nat) (s : State) : Out := .next <| if loaderOn s then startLoad s 2 ms else s

/-- Partitions that the load in progress concerns. -/
def loadParts (s : State) : List Nat := if s.ld.scope = 0 then List.range 8 else [s.ld.part]
/-- Admission resumes for a load that ends early, but for partitions whose earlier load still awaits its start. -/
def resumeParts (s : State) : State :=
  let wait (q : Nat) : Bool := s.ld.starts.any (fun x => x.waits s && x.holds q)
  let ps := (loadParts s).filter (fun q => !wait q)
  admitWaiting (s.setStr { s.str with noAdmit := s.str.noAdmit.filter (fun q => !ps.contains q) })

/-- CANCEL (R268). -/
def cancelLoad (s : State) : State :=
  if ldState s = 1 then failLoad s ⟨0x0F40, 0, 0⟩
  else if ldState s = 2 then resumeParts (failLoad s ⟨0x0F40, 0, 0⟩)
  else s
def execCancel (s : State) : Out := .next <| if loaderOn s then cancelLoad s else s

/-- A write of MGT_LD_CMD (R272). -/
def ldCommand (s : State) (v : Nat) : State :=
  if !loaderOn s then s
  else match bits v 0 3 with
    | 1 => startLoad s 1 0
    | 2 => startLoad s 2 (bits v 16 16)
    | 3 => cancelLoad s
    | _ => s

/-! ### APPLYING begins: entries and rings (R266) -/

/-- Empties a ring: its slots are free and CONS stands at PROD. -/
def emptyRing (s : State) (r : Nat) : State :=
  let own (k : Nat) : Bool := k / 32768 = r
  let s := s.setStr { s.str with islots := SMap.drop own s.str.islots, oslots := SMap.drop own s.str.oslots,
                                 owed := s.str.owed.filter (fun x => x.1 ≠ r), asm := s.str.asm.filter (fun a => a.ring ≠ r) }
  setCons s r (ringProd s r)

/-- Submission records that wait on a ring, oldest first. -/
def queuedSubs (s : State) (r : Nat) : List Nat :=
  (List.range (ringFill s r)).map (fun j => leNat (hbmPeek s (ringPart s r) (slotVa s r (ringCons s r + j)) 64))

/-- Rings of the partitions that the load concerns, enabled ones only. -/
def ringsOf (s : State) (ps : List Nat) : List Nat :=
  (List.range 16384).filter (fun r => ringEnabled s r && ps.contains (ringPart s r))

/-- The affected entries are invalidated, their rings are emptied, and what is still queued completes with 0x0F42; the records
are written after the rings were emptied. -/
def dropStreams (s : State) : State :=
  let ps := loadParts s
  let mine (e : W512) : Bool := ps.contains (ePart e)
  let rings := ringsOf s ps
  let subs := (rings.filter (fun r => ringKind s r = 2)).flatMap (fun r => (queuedSubs s r).map (fun w => w))
  let old := s.str.entries
  let s := rings.foldl emptyRing s
  let s := s.setStr { s.str with invalidating := s.str.invalidating ++ (old.filter (fun x => mine x.2)).map (·.1) }
  let s := abortWhere s 0x0F42 (fun n _ _ => ps.contains (partOf s n))
  let s := dropReady s 0x0F42 (fun t => ps.contains (ePart t.snap))
  let s := subs.foldl (fun s w => refuseRecord s (subField w 4 4) 0x0F42 0 (subField w 24 8) false) s
  let s := wrBits s (strBase + 0x44) 0 1 0
  let gone := (old.filter (fun x => mine x.2)).map (·.1)
  s.setStr { s.str with entries := s.str.entries.filter (fun x => !mine x.2), invalidating := s.str.invalidating.filter (fun i => !gone.contains i),
                        readers := SMap.drop gone.contains s.str.readers, sinceKey := SMap.drop gone.contains s.str.sinceKey,
                        keyCount := SMap.drop gone.contains s.str.keyCount, ivNext := SMap.drop gone.contains s.str.ivNext,
                        epochSent := SMap.drop gone.contains s.str.epochSent, tokens := SMap.drop (fun i => gone.contains (i / 2)) s.str.tokens }

/-- Enters APPLYING, unless the repair state has changed against the image (R267). -/
def beginApply (s : State) : State :=
  match stagedRetired s with
  | some (c, p, r) => resumeParts (failLoad s ⟨c, p, r⟩)
  | none => setLdState (dropStreams s) 3

/-- Has the start-up test ended (R434)? No load enters APPLYING before. -/
def bistDone (s : State) : Bool := bit (rd32 s (repBase + 0x40)) 0

/-- VALIDATION_END (R262, R266). A VALIDATE that passes ends in DONE. -/
def execValidationEnd (s : State) : Out := .next <|
  if !loaderOn s || ldState s ≠ 1 then s
  else match validate s s.ld.staged with
    | .error e => failLoad s e
    | .ok _ =>
      let p := imgOf s s.ld.staged
      let s := wrDigest (setLdCode s 0) (mgtBase + 0x428) (imageDigest p)
      if s.ld.op = 1 then setLdState (s.setLd { s.ld with op := 0 }) 4
      else
        let s := s.setLd { s.ld with scope := p.scope, part := p.partId }
        let s := s.setStr { s.str with noAdmit := (s.str.noAdmit ++ loadParts s).eraseDups }
        if unconfigured s && bistDone s then beginApply s
        else
          let s := setLdState (s.setLd { s.ld with drainTb := tb s }) 2
          if s.ld.drainMs = 0 then (loadParts s).foldl (fun s q => abortPartition s q 0x0F42) s else s

/-- DRAIN_LIMIT (R266): DRAIN_MS after DRAINING began. -/
def execDrainLimit (s : State) : Out := .next <|
  if loaderOn s && ldState s = 2 && decide (s.ld.drainTb + 1000000 * s.ld.drainMs ≤ tb s) then (loadParts s).foldl (fun s q => abortPartition s q 0x0F42) s else s

/-- DRAIN_END (R266, R434): no task of the partitions runs. -/
def execDrainEnd (s : State) : Out := .next <|
  if loaderOn s && ldState s = 2 && bistDone s && !(runningTasks s).any (fun x => (loadParts s).contains (partOf s x.1)) then beginApply s else s

/-! ### What APPLYING writes -/

/-- The variant of core `n` that an image gives it for `v`. -/
def imgVariant (p : Pimg) (n v : Nat) : Variant :=
  let b := schedBytes p n v
  { program := (progOf p n v).map (BitVec.ofNat 128), ctxs := schedCtxs b, entries := schedEntries b, periodic := schedRows b }
/-- The configuration of core `n` under an image, with the variant for its working arrays (R252, R271). -/
def imgCore (s : State) (p : Pimg) (n : Nat) : CoreCfg :=
  let c := p.get secCore n
  let part := leAt c 0 1
  { part, gang := leAt c 1 1, tileMib := leAt c 2 1, variants := leAt c 3 1, descCount := leAt c 12 4, descBase := leAt c 16 4,
    rateBase := leAt c 20 4, winBase := leAt c 24 4, winBytes := leAt c 28 4, holdBase := leAt c 32 4, holdBytes := leAt c 36 4,
    cbVa0 := leAt c 40 8, cbVa1 := leAt c 48 8, taskBase := leAt c 56 4, variant := if part = 0xFF then 0 else 4 - activeArrays s n,
    progs := if part = 0xFF then [] else
      (List.range 4).foldl (fun m v => if p.has secProgram (n + 256 * v) then SMap.set {} m v (imgVariant p n v) else m) [] }
/-- A partition under an image. -/
def imgPart (p : Pimg) (q : Nat) : PartCfg :=
  let b := p.get secPartition q
  { cores := leAt b 0 1, nPairs := leAt b 1 1, pairs := pairsOf b, slots := p.slotMask q }
/-- A model slot under an image, with its digest (R220). -/
def imgModel (p : Pimg) (m : Nat) : Model :=
  let b := p.get secModel m
  { bytes := b, digest := sha3_256 b, tuning := p.get secTuning m }

/-- The configuration after a load: all of it for SCOPE 0, that of one partition for SCOPE 1 (R269). -/
def imgApply (s : State) (p : Pimg) : Image :=
  let i : Image := if p.scope = 0 then {} else s.img
  let d := p.get secDevice 0
  let cores := pidCores s p
  let i := if p.scope = 0 then { i with periodNs := leAt d 0 4, vmin := (List.range 3).map (verMin d), vmax := (List.range 3).map (verMax d),
                                        nPart := leAt d 16 1, svn := leAt p.bs 32 4 } else i
  let qs := p.insts secPartition
  let dropped := if p.scope = 0 then [] else (List.range 256).filter (fun m => bit (SMap.get {} s.img.parts p.partId).slots m)
  let i := { i with
    parts := qs.foldl (fun m q => SMap.set {} m q (imgPart p q)) i.parts,
    cores := (mineOf cores p).foldl (fun m n => SMap.set {} m n (imgCore s p n)) i.cores,
    pages := qs.foldl (fun m q => (pagesOf p q).foldl (fun m e => SMap.set 0 m (q * 2 ^ 27 + pageVpn e) (e + 2 ^ 63)) m)
      (SMap.drop (fun k => qs.contains (k / 2 ^ 27)) i.pages),
    models := (p.insts secModel).foldl (fun m k => SMap.set {} m k (imgModel p k)) (SMap.drop dropped.contains i.models),
    budgets := (budRecs p).foldl (fun m b => (List.range 40).foldl (fun m r =>
      SMap.set 0 m ((leAt b 0 1 * 4 + leAt b 1 1) * 64 + r) (budField b r)) m) (SMap.drop (fun k => qs.contains (k / 256)) i.budgets),
    shared := i.shared.filter (fun x => !qs.contains x.1) ++ qs.flatMap (fun q => (sharedRanges cores p q).map (fun r => (q, r.1, r.2))) }
  i

/-- Clears store bytes `[k, k + n)` of the store map and their errors. -/
def clearStore (m : Memory) (k n : Nat) : Memory :=
  { m with store := SMap.drop (fun x => k ≤ x && x < k + n) m.store,
           badWord := SMap.drop (fun x => k ≤ 8 * x + 7 && 8 * x < k + n) m.badWord }
/-- Puts bytes into the store map. -/
def layStore (m : Memory) (k : Nat) (bs : List Byte) : Memory := { m with store := SMap.setAll 0 m.store k bs }

/-- Fills a table bank of core `n` from an initial tag (R158, R252): the bank image and the codebook set with it. -/
def fillBank (s : State) (n b epoch slot : Nat) : State :=
  if epoch = 0 then wr64 s (bankReg n b) 0
  else
    let m := (SMap.get {} s.img.models slot).bytes
    let second := leAt m 20 2 ≠ epoch
    let k := if second && leAt m 20 2 ≠ 0 then 1 else 0
    let rows := slice m (mdTab m + 262144 * k) 262144
    let cbo := if k = 0 then mdCb m else mdCb m + cbPartBytes m (mdCb m)
    let cb := if leAt m 19 1 = 0 then [] else slice m (cbo + 32) (cbPartBytes m cbo - 32)
    let es := if cb = [] then [] else (List.range (leAt m 19 1)).map (fun i => leAt m (cbo + 2 * i) 2)
    let s := setCore s n { core s n with table := SMap.setAll 0 (core s n).table (b * 262144) rows,
                                         cbLen := SMap.set 0 (core s n).cbLen b cb.length,
                                         norms := cbNorms (core s n).norms b (leAt m 18 1) es cb }
    let s := wr64 s (bankReg n b) (epoch + slot * 2 ^ 16 + 2 ^ 24 + 1023 * 2 ^ 48)
    let va := if b = 0 then (coreCfg s n).cbVa0 else (coreCfg s n).cbVa1
    if cb = [] || va = 0 then s else hbmPoke s (partOf s n) va cb

/-- Writes one core of the image (R64, R65, R158, R255, R265, R266): its tile store holds program and descriptors and is 0
elsewhere, its contexts take their records, its arrays, streams, tables and micro-programs are those of the image. -/
def applyCore (s : State) (p : Pimg) (n : Nat) : State :=
  let cfg := coreCfg s n
  let k := core s n
  let c := p.get secCore n
  let v := SMap.get {} cfg.progs cfg.variant
  let m := layStore (layStore (clearStore s.mem (n * 2 ^ 32) (2 ^ 32)) (n * 2 ^ 32) (v.program.flatMap (fun w => leBytes 16 w.toNat)))
    (n * 2 ^ 32 + cfg.descBase) (p.get secDesc n)
  let s := s.setMem m
  let ctxs := (indexed v.ctxs).foldl (fun m (i, x) =>
    SMap.set ({} : Ctx) m i { role := x.1, activity := x.2.1, semFirst := x.2.2.1, semCount := x.2.2.2 }) []
  let s := setCore s n { k with ctxs := ctxs, queues := [], arr := {}, pst := [], vec := { k.vec with job := none }, table := [], rowBad := [], norms := [], cbLen := [], tlb := [], entJob := none,
                                tableJob := none, motJob := none, reports := [], waits := [], rowStarts := [] }
  let s := wrBits (wrBits s (coreBase n 1 + 0x40) 0 2 cfg.gang) (coreBase n 1 + 0x60) 4 12 0
  let us := if cfg.part = 0xFF then [] else microStore p n
  let s := (List.range 4096).foldl (fun s i => let a := coreBase n 2 + 0x8000 + 8 * i
    if nth 0 us i = rd64 s a then s else wr64 s a (nth 0 us i)) s
  let s := wr32 s (coreBase n 2 + 0x44) us.length
  let s := fillBank (fillBank s n 0 (leAt c 4 2) (leAt c 6 1)) n 1 (leAt c 8 2) (leAt c 10 1)
  if bankValid s n 1 then markNewest s n 1 else if bankValid s n 0 then markNewest s n 0 else s

/-- Charges `len` bytes that the loader writes from `va` to a partition's live activity, by controller (log entry 23). -/
def chargeBytes (s : State) (q va len : Nat) : State :=
  (List.range ((len + 2 ^ 21 - 1) / 2 ^ 21)).foldl (fun s i =>
    match translate s q (vaAdd va (i * 2 ^ 21)) true false with
    | .error _ => s
    | .ok (_, ppn, _) => charge s (q * 4) (16 + pageStack ppn) (min len ((i + 1) * 2 ^ 21) - i * 2 ^ 21)) s

/-- Writes the contents of the models of partition `q` to HBM (R266): where a model lies there no field of the image names (log entry 23). -/
def loadModels (s : State) (p : Pimg) (q : Nat) : State :=
  ((p.insts secModel).filter (bit (p.slotMask q))).foldl (fun s m =>
    let va := Config.modelVa m
    let s := hbmPoke s q va (p.get secModel m)
    if p.scope = 1 then chargeBytes s q va (p.get secModel m).length else s) s

/-- HBM bytes that the loader writes for a core, by controller: its codebook sets. SCOPE 1 charges them to the partition's
live activity (log entry 23). -/
def chargeLoad (s : State) (p : Pimg) (n : Nat) : State :=
  let c := p.get secCore n
  [(leAt c 4 2, leAt c 6 1, (coreCfg s n).cbVa0), (leAt c 8 2, leAt c 10 1, (coreCfg s n).cbVa1)].foldl (fun s (ep, sl, va) =>
    chargeBytes s (partOf s n) va (if ep = 0 || va = 0 then 0 else cbBytesOf (SMap.get {} s.img.models sl).bytes ep)) s
where
  /-- Bytes of the codebook set of an epoch. -/
  cbBytesOf (m : List Byte) (ep : Nat) : Nat :=
    if leAt m 19 1 = 0 then 0
    else if leAt m 20 2 = ep || leAt m 20 2 = 0 then cbPartBytes m (mdCb m) - 32
    else cbPartBytes m (mdCb m + cbPartBytes m (mdCb m)) - 32

/-- A page with C = 1 starts with every block in state 0, which reads as zeros (R300). -/
def clearPages (m : Memory) (es : List Nat) : Memory :=
  (es.filter (fun e => bit e 44)).foldl (fun m e =>
    let k := pagePpn e
    { m with hbm := SMap.drop (fun x => x / 2 ^ 21 = k) m.hbm, blk := SMap.drop (fun x => x / 512 = k) m.blk,
             badSector := SMap.drop (fun x => 32 * x / 2 ^ 21 = k) m.badSector }) m

/-- HBM_CPAGES of every stack: the C = 1 pages mapped on it (R303). -/
def showCPages (s : State) : State :=
  (List.range 8).foldl (fun s st => wrBits s (hbmBase st + 0xC0) 0 11
    (s.img.pages.filter (fun (_, e) => bit e 44 && pageStack (bits e 27 16) = st)).length) s

/-- The fabric of a whole-device image, which empties the failure set (R352); a link that is up keeps its training (R338, R357). -/
def applyFabric (s : State) (p : Pimg) : State :=
  let b := p.get secFabric 0
  let f : Fabric := if p.has secFabric 0 then
      { loaded := true, lead := fabLead b, digest := slice p.bs 96 32, peers := fabPeers b, sets := fabSets b, chans := fabChans b,
        links := s.fab.links, shut := s.fab.shut, doneAt := tb s }
    else { links := s.fab.links, shut := s.fab.shut }
  let on := p.has secFabric 0
  let s := wr32 (s.setFab f) (fabBase + 0x40)
    (if on then fabDevice b + fabLog2 b * 2 ^ 16 + (fabSets b).length * 2 ^ 21 else 0)
  let s := showLinks (clearFails s)
  (List.range 16).foldl trainAfterLoad (if on then checkPeers s else s)

/-- MGT_IMG_STATE after a load. -/
def applyImgState (s : State) (p : Pimg) : State :=
  let a := mgtBase + 0x488
  let degraded := (List.range 8).filter (fun n => (coreCfg s n).variant ≠ 0)
  let s := wr32 s (a + 4) (degraded.map (2 ^ ·)).sum
  if p.scope = 0 then
    let parts := ((p.insts secPartition).map (2 ^ ·)).sum
    let s := wrDigest (wr32 s a (1 + parts * 256)) (mgtBase + 0x458) (imageDigest p)
    (s.setLd { s.ld with partials := [] }).setStr { s.str with stopCode := [] }
  else
    let q := p.partId
    let s := wrBits (wrBits s a (16 + q) 1 1) a (24 + q) 1 0
    (s.setLd { s.ld with partials := SMap.set [] s.ld.partials q (imageDigest p) }).setStr { s.str with stopCode := SMap.set 0 s.str.stopCode q 0 }

/-- Everything that APPLYING writes. -/
def applyImage (s : State) (p : Pimg) : State :=
  let cores := pidCores s p
  let ns := mineOf cores p
  let qs := p.insts secPartition
  let old := if p.scope = 0 then s.img.shared else s.img.shared.filter (fun x => x.1 = p.partId)
  let img := imgApply s p
  let s := s.setImg img
  let s := s.setRep { s.rep with degrade := SMap.drop ns.contains s.rep.degrade }
  let ranges := old ++ img.shared.filter (fun x => qs.contains x.1)
  let m := ranges.foldl (fun m r => clearStore m (2 ^ 40 + r.2.1) (r.2.2 - r.2.1)) s.mem
  let s := s.setMem (qs.foldl (fun m q => clearPages m (pagesOf p q)) m)
  let s := qs.foldl (fun s q => loadModels s p q) s
  let s := ns.foldl (fun s n => applyCore s p n) s
  let s := if p.scope = 1 then ns.foldl (fun s n => chargeLoad s p n) s else applyFabric s p
  let s := applyImgState (showCPages s) p
  if p.scope = 0 then wr64 s (budBase + 0x48) (nextBoundary s) else s

/-- Without an image every activity is unused: its BUD_REM, BUD_THR and BUD_LIM read as 0 (R331). -/
def clearBudgets (s : State) : State :=
  s.setCtl (SMap.drop (fun a => budBase + 0x1000 ≤ a && a < budBase + 0xD000) s.ctl)

/-- The device is unconfigured (R240, R268). -/
def unconfigure (s : State) : State :=
  let s := showLinks (clearFails (wr32 ((s.setImg {}).setFab { links := s.fab.links, shut := s.fab.shut }) (fabBase + 0x40) 0))
  let s := wrDigest (wr64 s (mgtBase + 0x488) 0) (mgtBase + 0x458) []
  let s := (List.range 8).foldl (fun s n => setCore s n { vec := { (core s n).vec with job := none } }) s
  let s := showCPages (clearBudgets s)
  (s.setLd { s.ld with partials := [], starts := [] }).setStr
    { s.str with entries := [], ready := [], islots := [], oslots := [], asm := [], owed := [], invalidating := [], noAdmit := [], stopCode := [],
                 readers := [], sinceKey := [], keyCount := [], ivNext := [], epochSent := [], tokens := [], dropped := [] }

/-- The schedules that await their boundaries after a further load: a whole-device load replaces all, a partial one that of its
partition. -/
def addStart (xs : List LoadStart) (x : LoadStart) : List LoadStart :=
  if x.scope = 0 then [x] else xs.filter (fun y => !(y.scope ≠ 0 && y.part = x.part)) ++ [x]

/-- APPLY_END (R266, R268): DONE, or FAILED after an uncorrectable memory error. The new schedule starts at the first boundary
at or after MGT_LD_ACTTB. -/
def execApplyEnd (memError : Bool) (s : State) : Out := .next <|
  if !loaderOn s || ldState s ≠ 3 then s
  else
    let p := imgOf s s.ld.staged
    if memError then
      if p.scope = 0 then unconfigure (failLoad s ⟨cStoreEcc, 0, 0⟩)
      else stopPartition (resumeParts (failLoad s ⟨cStoreEcc, 0, 0⟩)) p.partId 0x0F43
    else
      let act := rd64 s (mgtBase + 0x420)
      let s := applyImage s p
      let s := if act ≠ 0 && decide (act < tb s) then wrBits s (mgtBase + 0x408) 3 1 1 else s
      let s := s.setLd { s.ld with op := 0, starts := addStart s.ld.starts ⟨p.scope, p.partId, max act (tb s), 0⟩ }
      setLdState (setLdCode s 0) 4

end Sys2Proof.Machine
end

