-- ==== Sys2Proof/Machine/Firmware.lean ====
section
/-! DEFINITION. The boot ROM, management restarts and the firmware update (R402 to R409, R411, R413). -/

namespace Sys2Proof.Machine

/-! ### The firmware image (R402, R403) -/

/-- The bytes that the boot ROM finds in flash: those of the last image programmed, or as shipped. -/
def fwFlash (s : State) : List Byte := s.flash.fw.getD Config.shippedFw
/-- Body and digest of a firmware image: all of it but the trailer. -/
def fwBody (b : List Byte) : List Byte := b.take (b.length - 3348)
def fwDigest (b : List Byte) : List Byte := sha3_384 (fwBody b)
def fwTrailer (b : List Byte) : List Byte := b.drop (b.length - 3348)
def fwSvn (b : List Byte) : Nat := leAt b 16 4
def fwEntry (b : List Byte) : Nat := leAt b 24 4
/-- Does the header meet R402? -/
def fwHeaderOk (b : List Byte) : Bool :=
  decide (3604 ≤ b.length) && decide (b.length ≤ 33554432) && decide (slice b 0 4 = ascii "HFWI") && leAt b 4 1 = 1 && leAt b 5 1 = 0 &&
  leAt b 6 2 = 256 && leAt b 8 2 = 0x4808 && leAt b 10 1 = 0xA1 && leAt b 11 1 = 0 && leAt b 12 4 = b.length &&
  decide (leAt b 20 4 + 3604 ≤ b.length) && allZero (slice b 36 220)
/-- The key that the trailer names. -/
def fwKey (s : State) (b : List Byte) : Option (List Byte) :=
  match ownerKey s (slice (fwTrailer b) 0 32) with
  | some k => some k
  | none => Config.vendorKey (slice (fwTrailer b) 0 32)
/-- Does the trailer verify over the digest? -/
def fwSigned (s : State) (b : List Byte) : Bool :=
  let t := fwTrailer b
  leAt t 32 2 = 1 && allZero (slice t 34 2) && allZero (slice t 3345 3) && !zeroised s && (match fwKey s b with
    | none => false
    | some k => Config.mlDsaVerify k (fwDigest b) (ascii "HAREASOL-FW-1") (slice t 36 3309))
/-- Steps 3 and 4 of R403: 0, or the code of R413. A signature check after zeroisation is refused with zeroised (R426). -/
def fwStatus (s : State) (b : List Byte) : Nat :=
  if !fwHeaderOk b then 0x0101
  else if zeroised s then 0x0207
  else if !fwSigned s b then 0x0102
  else if fwPolicy s = 2 && (ownerKey s (slice (fwTrailer b) 0 32)).isNone then 0x0103
  else if fwSvn b < fwMinSvn s then 0x0104
  else 0

/-! ### Boot (R403, R404) -/

/-- MGT_BOOT.CAUSE of a failed check. -/
def bootCause (code : Nat) : Nat := if code = 0x0101 then 1 else if code = 0x0103 then 3 else if code = 0x0104 then 4 else 2

/-- A processor out of reset at an address, with its MGT_CPUp fields RUN, WFI, INFAST and RSTCAUSE. -/
def startCpu (s : State) (p pc cause : Nat) : State :=
  let s := setCpu s p { pc := BitVec.ofNat 64 pc, kick := tb s }
  setWfi (wrBits s (cpuAddr p) 0 5 (1 + cause * 8)) p false
/-- A processor held in reset. -/
def holdCpu (s : State) (p : Nat) : State := wrBits (setCpu s p {}) (cpuAddr p) 0 5 0

/-- Recovery with a cause (R404): processor 0 alone runs the ROM, and no firmware. -/
def enterRecovery (s : State) (cause : Nat) : State :=
  let s := wrDigest (s.setMgt { s.mgt with svn := 0 }) (mgtBase + 0x590) []
  let s := (range' 1 3).foldl holdCpu (startCpu s 0 0x10000000 0)
  wr32 s (mgtBase + 0x540) (2 + cause * 256)

/-- Runs firmware: watchdogs at 2,000,000 µs, all processors at ENTRY, digest shown. -/
def enterFirmware (s : State) (b : List Byte) : State :=
  let s := s.setMgt { s.mgt with entry := fwEntry b, svn := fwSvn b }
  let s := (List.range 4).foldl (fun s p => wr32 (startCpu s p (0x20000000 + fwEntry b) 0) (mgtBase + 0x520 + 8 * p) 2000000) s
  wrDigest (wr32 s (mgtBase + 0x540) 1) (mgtBase + 0x590) (fwDigest b)

/-- The boot ROM (R403): `repeated` says that the restart is a third within 600 s (R409). The staging buffer is overwritten. -/
def bootRom (s : State) (repeated : Bool) : State :=
  let s := wr64 (s.setMgt { s.mgt with staged := [] }) (mgtBase + 0x558) 0
  let b := fwFlash s
  if repeated then enterRecovery s 5
  else if s.flash.fwBad then enterRecovery s 1
  else
    let code := fwStatus s b
    if code = 0 then enterFirmware s b else enterRecovery s (bootCause code)

/-! ### Management restart (R409) -/

def fwState (s : State) : Nat := rdBits s (mgtBase + 0x550) 0 3
def setFwState (s : State) (v code : Nat) : State :=
  let s := wr32 s (mgtBase + 0x550) (v + code * 2 ^ 16)
  if code = 0 then s else raise s mgtBase code
/-- A command refused with a code, which leaves STATE (R406). -/
def fwRefuse (s : State) (code : Nat) : State := raise (wrBits s (mgtBase + 0x550) 16 16 code) mgtBase code

/-- Ends a firmware update that is not DONE; flash that was being programmed holds no valid image (R405). -/
def endUpdate (s : State) : State :=
  let v := fwState s
  if v = 0 || v = 4 || v = 5 then s
  else
    let s := wrBits s (mgtBase + 0x550) 0 3 5
    if v = 3 then s.setFlash { s.flash with fwBad := true } else s

/-- Ends an image load that is not DONE; its CODE is not stated (log entry 3). In APPLYING it leaves what R268 says of a failed
load. -/
def endLoad (s : State) : State :=
  let v := ldState s
  if v = 0 || v > 3 then s
  else
    let (i, s) := s.fresh
    let e : LdErr := ⟨Config.freeNat i % 65536, 0, 0⟩
    let p := imgOf s s.ld.staged
    if v = 3 && p.scope = 0 then unconfigure (failLoad s e)
    else if v = 3 then stopPartition (resumeParts (failLoad s e)) p.partId 0x0F43
    else if v = 2 then resumeParts (failLoad s e)
    else failLoad s e

/-- The event controller through a restart: ACTIVE and the claim slots clear, the rest stays. -/
def restartEvents (s : State) : State :=
  let s := (List.range 32).foldl (fun s w => wr32 s (evcBase + 0x400 + 4 * w) 0) s
  let s := (List.range 4).foldl (fun s p => wr32 (setSlot (setSlot s p false none) p true none) (lineAddr p) 0) s
  s.setMgt { s.mgt with coal := [] }

/-- A management restart with a cause: 1 watchdog, 2 memory, 3 ACTIVATE, 4 MGT_RESTART. The lifetime records are written before
a restart of cause 3 or 4 (R451), and source 7 arrives after boot. -/
def managementRestart (s : State) (cause : Nat) : State :=
  let s := if cause ≥ 3 then arrive (writeCopy s) 11 0 else s
  let s := (range' 1 8).foldl closeSession s
  let s := endLoad (endUpdate s)
  let s := restartEvents s
  let now := tb s
  let recent := s.mgt.restarts.filter (fun t => now < t + 600000000000)
  let counted := cause ≤ 2
  let s := if counted then s.setMgt { s.mgt with restarts := now :: recent } else s
  let s := satCount64 s (lfcBase + 0x128) 1
  let s := wr32 s (mgtBase + 0x544) (rd32 s (mgtBase + 0x544) + 1)
  let s := (List.range 4).foldl (fun s p => wr32 s (cpuAddr p + 4) (rd32 s (cpuAddr p + 4) + 1)) s
  let s := bootRom s (counted && decide (recent.length ≥ 2))
  arrive s 7 cause

/-- MGT_RESTART (R409, R411): a write of MGT_RESTART.GO. -/
def execMgtRestart (s : State) : Out := .next <| if mgmtOn s && !recovery s then managementRestart s 4 else s

/-- CONTROL_MEMORY_UE (R407). -/
def execControlMemoryUe (s : State) : Out := .next <| if mgmtOn s && !recovery s then managementRestart (sticky s mgtBase stickyUE) 2 else s

/-! ### Firmware update (R405, R406, R413) -/

/-- Takes staged bytes of a firmware transfer: the status of the XFER. -/
def stageFw (s : State) (off : Nat) (data : List Byte) : Nat × State :=
  let st := fwState s
  if st = 1 || st = 3 then (0x0107, s)
  else if off ≠ 0 && off ≠ s.mgt.staged.length then (0x0C05, s)
  else
    let old := if off = 0 then [] else s.mgt.staged
    if old.length + data.length > 33554432 then (0x0105, s)
    else
      let s := wr64 (s.setMgt { s.mgt with staged := old ++ data }) (mgtBase + 0x558) (old.length + data.length)
      (0, if st = 2 then setFwState s 0 0 else s)

/-- VERIFY begins. -/
def fwVerify (s : State) : State :=
  let st := fwState s
  if st = 1 || st = 3 then fwRefuse s 0x0107 else setFwState s 1 0
/-- COMMIT begins: the firmware area is erased. -/
def fwCommit (s : State) : State :=
  let st := fwState s
  if st = 3 then fwRefuse s 0x0107
  else if st ≠ 2 then fwRefuse s 0x0108
  else (setFwState s 3 0).setFlash { s.flash with fwBad := true }

/-- FW_VERIFY (R405). -/
def execFwVerify (s : State) : Out := .next <| if mgmtOn s then fwVerify s else s
/-- FW_VERIFY_END (R405): VERIFIED with the digest, or FAILED with the code. -/
def execFwVerifyEnd (s : State) : Out := .next <|
  if !mgmtOn s || fwState s ≠ 1 then s
  else
    let code := fwStatus s s.mgt.staged
    if code ≠ 0 then setFwState s 5 code else wrDigest (setFwState s 2 0) (mgtBase + 0x560) (fwDigest s.mgt.staged)
/-- FW_COMMIT (R405). -/
def execFwCommit (s : State) : Out := .next <| if mgmtOn s then fwCommit s else s
/-- FW_PROGRAM_END (R405, R406): DONE when the read-back has the digest, else FAILED with flash-program. -/
def execFwProgramEnd (readBackOk : Bool) (s : State) : Out := .next <|
  if !mgmtOn s || fwState s ≠ 3 then s
  else if readBackOk then (setFwState s 4 0).setFlash { s.flash with fw := some s.mgt.staged, fwBad := false }
  else setFwState s 5 0x0106

end Sys2Proof.Machine
end

