-- ==== Sys2Proof/Machine/EthIngress.lean ====
section
/-! DEFINITION. Frames that arrive on a port: filtering and policing, 802.1CB elimination, assembly of media items, and the replies
of the ports (R361, R362, R364 to R366, R371 to R373, R392). -/

namespace Sys2Proof.Machine

/-! ### Frames -/

/-- An Ethernet frame without FCS, taken apart. -/
structure EFrame where
  dmac : List Byte
  smac : List Byte
  vid : Nat
  /-- sequence number of its R-tag -/
  rseq : Option Nat
  etype : Nat
  pl : List Byte
  size : Nat
  deriving DecidableEq, Repr

/-- Parses a frame with at most one VLAN tag and at most one R-tag (R361, R372). -/
def parseFrame (b : List Byte) : EFrame :=
  let tag := beAt b 12 2 = 0x8100
  let o := if tag then 16 else 12
  let r := beAt b o 2 = 0xF1C1
  let o' := if r then o + 6 else o
  { dmac := slice b 0 6, smac := slice b 6 6, vid := if tag then beAt b 14 2 % 4096 else 0, rseq := if r then some (beAt b (o + 4) 2) else none,
    etype := beAt b o' 2, pl := b.drop (o' + 2), size := b.length }

/-- A UDP or ICMP packet: protocol, addresses in 16-byte form, and the data of the IP packet. -/
structure IpPacket where
  proto : Nat
  src : List Byte
  dst : List Byte
  pl : List Byte
  /-- hop limit or time to live -/
  hop : Nat
  deriving DecidableEq, Repr

/-- An IPv4 packet without fragmentation and with a good header checksum, or an IPv6 packet without extension headers. -/
def parseIp (f : EFrame) : Option IpPacket :=
  let b := f.pl
  if f.etype = 0x0800 then
    let h := beAt b 0 1 % 16 * 4
    let n := beAt b 2 2
    if beAt b 0 1 / 16 ≠ 4 || h < 20 || n < h || b.length < n || beAt b 6 2 % 0x4000 ≠ 0 || inetSum (b.take h) ≠ 0 then none
    else some { proto := beAt b 9 1, src := List.replicate 12 0#8 ++ slice b 12 4, dst := List.replicate 12 0#8 ++ slice b 16 4,
                pl := (b.take n).drop h, hop := beAt b 8 1 }
  else if f.etype = 0x86DD then
    let n := beAt b 4 2
    if beAt b 0 1 / 16 ≠ 6 || b.length < 40 + n then none
    else some { proto := beAt b 6 1, src := slice b 8 16, dst := slice b 24 16, pl := (b.take (40 + n)).drop 40, hop := beAt b 7 1 }
  else none

/-- Checksum over the pseudo-header of a packet of `proto` with data `pl`. -/
def pseudoSum (src dst : List Byte) (proto : Nat) (pl : List Byte) : Nat :=
  inetSum ((if isV4 dst then src.drop 12 ++ dst.drop 12 else src ++ dst) ++ beBytes 2 proto ++ beBytes 2 pl.length ++ pl)

/-- The data of a UDP datagram to `port`, with a good checksum (none is allowed over IPv4). -/
def udpData (x : IpPacket) (port : Nat) : Option (List Byte) :=
  let n := beAt x.pl 4 2
  let d := x.pl.take n
  if x.proto ≠ 17 || x.pl.length < n || n < 8 || beAt d 2 2 ≠ port then none
  else if beAt d 6 2 = 0 then (if isV4 x.dst then some (d.drop 8) else none)
  else if pseudoSum x.src x.dst 17 d ≠ 0 then none
  else some (d.drop 8)

/-! ### Ports -/

/-- Does a port act: its link is up; media ports are dark in Standby and in recovery (R404, R474)? -/
def portUp (s : State) (p : Nat) : Bool :=
  p < 10 && mgmtOn s && (codecOn s || 8 ≤ p) && !SMap.get false s.eth.down p

/-- Event source `i` of port `p` (R392). -/
def portEvent (s : State) (p i : Nat) : State := arrive s (256 + 4 * p + i) 0

/-- A frame is discarded under R361 or R366. -/
def rxDrop (s : State) (p : Nat) : State := portEvent (count64 s (portBase p + 0xA0) 1) p 1

/-- Does a port take frames with the R-tag that this one has, or has not? Media ports alone take R-tagged frames (R361). -/
def tagAccepted (p : Nat) (f : EFrame) : Bool := p < 8 || f.rseq.isNone

/-- The packet of a frame that is addressed to the port (R361, R362): its MAC, one of its addresses, within its MTU. -/
def packetFor (s : State) (p : Nat) (f : EFrame) : Option IpPacket :=
  if f.dmac ≠ portMac p || f.pl.length > portMtu s p || !tagAccepted p f then none
  else match parseIp f with
    | none => none
    | some x => if ownIp s p x.dst then some x else none

/-! ### Tables of a media port (R373) -/

/-- Key of a table entry; tables 4 and 5 form one device-wide set. -/
def tableKey (p t i : Nat) : Nat := (if t ≥ 4 then t else p * 8 + t) * 2048 + i
def tableEntry (s : State) (p t i : Nat) : W256 := SMap.get 0 s.eth.tables (tableKey p t i)
def setTable (s : State) (p t i : Nat) (e : W256) : State := s.setEth { s.eth with tables := SMap.set 0 s.eth.tables (tableKey p t i) e }
/-- Field of `n` bytes at byte `o` of an entry, and its replacement. -/
def tb' (e : W256) (o n : Nat) : Nat := bits e.toNat (8 * o) (8 * n)
def tbSet (e : W256) (o n v : Nat) : W256 := BitVec.ofNat 256 (setBits e.toNat (8 * o) (8 * n) v)
/-- Adds one to a counter of an entry. -/
def tableCount (s : State) (p t i o : Nat) : State :=
  let e := tableEntry s p t i
  setTable s p t i (tbSet e o 8 (tb' e o 8 + 1))

/-- The tables in the key order of R373: entries of each. -/
def tableSize (t : Nat) : Nat := if t = 3 then 1040 else if t < 6 then 1024 else 0

/-- The handle that identification gives a frame (R371): the first valid entry that matches, with a HANDLE of 0 to 1,023 (R373). -/
def streamHandle (s : State) (p : Nat) (f : EFrame) : Option Nat :=
  (List.range 1024).findSome? (fun i =>
    let e := tableEntry s p 0 i
    let mac := if tb' e 8 1 = 0 then f.dmac else f.smac
    if e ≠ 0 && bit (tb' e 6 2) 15 && tb' e 6 2 % 4096 = f.vid && leBytes 6 (tb' e 0 6) = mac && tb' e 10 2 < 1024 then some (tb' e 10 2) else none)

/-! ### Stream gates (R371, R373) -/

def gateHead (s : State) (p g : Nat) : W256 := tableEntry s p 3 (65 * g)
/-- The list of a gate: state and interval of each entry in use. -/
def gateRows (s : State) (p g : Nat) : List (Nat × Nat) :=
  (List.range (tb' (gateHead s p g) 1 1)).map (fun i =>
    let e := tableEntry s p 3 (65 * g + 1 + i); (tb' e 0 1 % 2, tb' e 4 4))
/-- Is a stream gate open? -/
def streamGateOpen (s : State) (p g : Nat) : Bool :=
  let h := gateHead s p g
  let o := SMap.get {} s.eth.gates (p * 256 + g)
  if !bit (tb' h 0 1) 0 || o.len = 0 then bit (tb' h 0 1) 1 else (nth (0, 0) o.rows o.pos).1 = 1

/-- The instant at which a list takes effect (R369): its base, or `base + k × cycle` with the smallest `k` that lies in the future. -/
def listStart (now base cycle : Nat) : Nat :=
  if now ≤ base || cycle = 0 then max now base else base + ((now - base) / cycle + 1) * cycle

/-- STREAM_GATE_CONFIG_APPLY (R369, R373): the list takes effect. -/
def execStreamGateConfigApply (p g : Nat) (s : State) : Out := .next <|
  let k := 256 + p * 16 + g
  let t := SMap.get 0 s.eth.starts k
  if !portUp s p || p ≥ 8 || g ≥ 16 || t = 0 || tb s < t - 1 then s
  else
    let rows := gateRows s p g
    s.setEth { s.eth with gates := SMap.set {} s.eth.gates (p * 256 + g) { base := t - 1, pos := 0, len := rows.length, rows := rows },
                          starts := SMap.set 0 s.eth.starts k 0 }

/-- The list after the current interval, when it has ended (R369, R373). -/
def nextInterval (now : Nat) (o : OperList) : OperList :=
  let iv := (nth (0, 0) o.rows o.pos).2
  if o.len = 0 || now < o.base + iv then o else { o with base := o.base + iv, pos := (o.pos + 1) % o.len }

/-- STREAM_GATE_INTERVAL_END (R373). -/
def execStreamGateIntervalEnd (p g : Nat) (s : State) : Out := .next <|
  if !portUp s p || p ≥ 8 || g ≥ 16 then s
  else s.setEth { s.eth with gates := SMap.modify {} s.eth.gates (p * 256 + g) (nextInterval (tb s)) }

/-! ### Policing (R371) -/

/-- The buckets of a meter now: what each lacks, in 10^-9 bytes; overflow of the committed bucket fills the other when CF is set. -/
def meterNow (s : State) (k : Nat) (e : W256) : Nat × Nat :=
  let (c, x, t) := SMap.get (0, 0, 0) s.eth.meters k
  let dt := tb s - t
  let fill := tb' e 0 4 * 125 * dt
  (c - fill, x - tb' e 8 4 * 125 * dt - (if bit (tb' e 16 1) 1 then fill - c else 0))

/-- A frame of `n` bytes at meter `i`: does it pass, and the state after it (R371, R373). -/
def meterFrame (s : State) (p i n : Nat) : Bool × State :=
  let e := tableEntry s p 2 i
  let fl := tb' e 16 1
  if !bit fl 0 then (true, s)
  else
    let red (s : State) : Bool × State :=
      let e := tableEntry s p 2 i
      (false, tableCount (setTable s p 2 i (if bit fl 3 then tbSet e 16 1 (fl ||| 16) else e)) p 2 i 20)
    if bit fl 4 && bit fl 3 then red s
    else
      let k := p * 1024 + i
      let (c, x) := meterNow s k e
      let g := 1000000000
      let put (c x : Nat) : State := s.setEth { s.eth with meters := SMap.set (0, 0, 0) s.eth.meters k (c, x, tb s) }
      if c + n * g ≤ tb' e 4 4 * g then (true, put (c + n * g) x)
      else if x + n * g ≤ tb' e 12 4 * g then (if bit fl 2 then (false, put c x) else (true, put c (x + n * g)))
      else red (put c x)

/-- Filtering and policing of a frame with a handle (R371, R373): does it pass, and the state after it. -/
def filterFrame (s : State) (p h : Nat) (f : EFrame) : Bool × State :=
  let e := tableEntry s p 1 h
  let fl := tb' e 0 1
  if !bit fl 0 then (true, s)
  else
    let dropped (s : State) : Bool × State := (false, portEvent (tableCount s p 1 h 20) p 1)
    if bit fl 2 && bit fl 1 then dropped s
    else if tb' e 8 4 ≠ 0 && f.pl.length > tb' e 8 4 then
      dropped (if bit fl 1 then setTable s p 1 h (tbSet e 0 1 (fl ||| 4)) else s)
    else if tb' e 2 2 ≠ 0xFFFF && !streamGateOpen s p (tb' e 2 2 % 16) then dropped (tableCount s p 3 (65 * (tb' e 2 2 % 16)) 16)
    else if tb' e 4 2 ≠ 0xFFFF then
      match meterFrame s p (tb' e 4 2 % 1024) f.size with
      | (true, s) => (true, tableCount s p 1 h 12)
      | (false, s) => dropped s
    else (true, tableCount s p 1 h 12)

/-! ### 802.1CB elimination (R372) -/

/-- The recovery function bound to a handle of a port. -/
def recoveryOf (s : State) (p h : Nat) : Option Nat :=
  (List.range 1024).find? (fun i =>
    let e := tableEntry s 0 5 i
    e ≠ 0 && bit (tb' e 8 1) 0 && ((tb' e 0 1 = p && tb' e 2 2 = h) || (tb' e 1 1 = p && tb' e 4 2 = h)))

/-- The vector recovery algorithm with history length 32: does a sequence number pass, and the new highest number and history. -/
def vectorRecovery (st : Nat × Nat) (seq : Nat) : Bool × (Nat × Nat) :=
  if st.1 = 0 then (true, (seq + 1, 1))
  else
    let d := toSigned 16 ((seq + 65536 - (st.1 - 1)) % 65536)
    if d ≥ 32 || d ≤ -32 then (false, st)
    else if d > 0 then (true, (seq + 1, (st.2 * 2 ^ d.toNat + 1) % 2 ^ 32))
    else if bit st.2 d.natAbs then (false, st)
    else (true, (st.1, st.2 ||| 2 ^ d.natAbs))

/-- A sequenced frame at its recovery function: does it pass, and the state after it. -/
def recoverFrame (s : State) (i seq : Nat) : Bool × State :=
  let x := SMap.get (0, 0, 0) s.eth.recov i
  let (ok, st) := vectorRecovery (x.1, x.2.1) seq
  let s := s.setEth { s.eth with recov := SMap.set (0, 0, 0) s.eth.recov i (st.1, st.2, if ok then tb s else x.2.2) }
  (ok, tableCount s 0 5 i (if ok then 16 else 24))

/-- RECOVERY_RESET (R372): a recovery function that has seen no frame for RESET_MS takes any number next. -/
def execRecoveryReset (p i : Nat) (s : State) : Out := .next <|
  let x := SMap.get (0, 0, 0) s.eth.recov i
  if portUp s p && p < 8 && i < 1024 && x.1 ≠ 0 && decide (tb s ≥ x.2.2 + tb' (tableEntry s 0 5 i) 6 2 * 1000000) then
    s.setEth { s.eth with recov := SMap.set (0, 0, 0) s.eth.recov i (0, 0, 0) }
  else s

/-- Filtering, policing and elimination of a frame that arrives on a media port; host ports apply none (R371, R372). -/
def admitFrame (s : State) (p : Nat) (f : EFrame) : Bool × State :=
  match (if p < 8 then streamHandle s p f else none) with
  | none => (true, s)
  | some h =>
    match filterFrame s p h f with
    | (false, s) => (false, s)
    | (true, s) =>
      match f.rseq, recoveryOf s p h with
      | some seq, some i => recoverFrame s i seq
      | _, _ => (true, s)

/-! ### Table commands (R373) -/

def tdata (s : State) (p : Nat) : W256 :=
  BitVec.ofNat 256 ((List.range 4).foldl (fun acc i => acc + rd64 s (portBase p + 0x8010 + 8 * i) * 2 ^ (64 * i)) 0)
/-- Sets ETH_TSTAT.CODE; a refusal is a code that the port raises. -/
def tstat (s : State) (p code : Nat) : State :=
  let s := wr32 s (portBase p + 0x8008) (code * 2 ^ 16)
  if code = 0 then s else raise s (portBase p) code

/-- READ of a table entry. -/
def tableRead (s : State) (p t i : Nat) : State :=
  if i ≥ tableSize t then tstat s p 0x0C06
  else
    let e := (tableEntry s p t i).toNat
    tstat ((List.range 4).foldl (fun s j => wr64 s (portBase p + 0x8010 + 8 * j) (bits e (64 * j) 64)) s) p 0

/-- The bits of an entry that R373 defines; the others are reserved and read as 0 (R7). -/
def tableMask (t i : Nat) : Nat :=
  match t with
  | 0 => 0xffff00ff8fffffffffffffff
  | 1 => 0xffffffffffffffffffffffffffffffffffffffff0000ffffffff0007
  | 2 => 0xffffffffffffffff0000001fffffffffffffffffffffffffffffffff
  | 3 => if i % 65 = 0 then 0xffffffffffffffffffffffffffffffff000000000000ff03 else 0xffffffff00000001
  | 4 => 0xffff0001ffff
  | _ => 0xffffffffffffffffffffffffffffffff0000000000000001ffffffffffffffff

/-- Keeps the fields marked RO of the old entry. -/
def keepRO (t i : Nat) (old new : W256) : W256 :=
  let keep (e : W256) (o n : Nat) : W256 := tbSet e o n (tb' old o n)
  match t with
  | 1 => keep (keep new 12 8) 20 8
  | 2 => keep (BitVec.ofNat 256 (setBit new.toNat (8 * 16 + 4) (bit (tb' old 16 1) 4))) 20 8
  | 3 => if i % 65 = 0 then keep new 16 8 else new
  | 4 => keep new 4 2
  | 5 => keep (keep new 16 8) 24 8
  | _ => new

/-- Clears BLOCKED, which a WRITE of FLAGS ends (R373). -/
def clearBlocked (t : Nat) (e : W256) : W256 := if t = 1 then BitVec.ofNat 256 (setBit e.toNat 2 false) else e

/-- WRITE of a table entry; a gate header that enables its list makes it take effect as R369 states. -/
def tableWrite (s : State) (p t i : Nat) : State :=
  if i ≥ tableSize t then tstat s p 0x0C06
  else
    let e := clearBlocked t (keepRO t i (tableEntry s p t i) (tdata s p &&& BitVec.ofNat 256 (tableMask t i)))
    let s := tstat (setTable s p t i e) p 0
    if t = 3 && i % 65 = 0 then
      let g := i / 65
      let cycle := ((gateRows s p g).map (·.2)).sum
      let k := 256 + p * 16 + g
      if bit (tb' e 0 1) 0 then s.setEth { s.eth with starts := SMap.set 0 s.eth.starts k (listStart (tb s) (tb' e 8 8) cycle + 1) }
      else s.setEth { s.eth with starts := SMap.set 0 s.eth.starts k 0, gates := SMap.set {} s.eth.gates (p * 256 + g) {} }
    else if t = 2 then s.setEth { s.eth with meters := SMap.set (0, 0, 0) s.eth.meters (p * 1024 + i) (0, 0, tb s) }
    else if t = 5 then s.setEth { s.eth with recov := SMap.set (0, 0, 0) s.eth.recov i (0, 0, 0) }
    else s

/-- ETH_TABLE_READ, ETH_TABLE_WRITE (R373): host ports have no tables. -/
def execEthTableRead (p t i : Nat) (s : State) : Out := .next <| if codecOn s && p < 8 then tableRead s p t i else s
def execEthTableWrite (p t i : Nat) (s : State) : Out := .next <| if codecOn s && p < 8 then tableWrite s p t i else s

/-! ### Assembly (R311, R364, R366) -/

/-- Do intervals cover `[0, n)`? -/
def covered (got : List (Nat × Nat)) (n : Nat) : Bool :=
  decide (((got.mergeSort (fun a b => a.1 ≤ b.1)).foldl (fun reach x => if x.1 ≤ reach then max reach (x.1 + x.2) else reach) 0) ≥ n)

/-- Remembers that an item of a stream, with the GEN that its data carries, was discarded whole (R311, R366). -/
def dropWhole (s : State) (stream gen item : Nat) : State :=
  s.setStr { s.str with dropped := SMap.modify [] s.str.dropped stream ((gen, item) :: ·) }
/-- Was this item discarded whole? -/
def isDropped (s : State) (stream gen item : Nat) : Bool := (SMap.get [] s.str.dropped stream).contains (gen, item)
/-- Event of an ingress drop (R392). -/
def dropEvent (s : State) (stream : Nat) : State := arrive s 146 stream

/-- Places data in an assembly; a complete item is admitted (R317, R366). -/
def placeData (s : State) (a : Assembly) (off : Nat) (data : List Byte) : State :=
  let s := hbmPoke s (ringPart s a.ring) (vaAdd (slotVa s a.ring a.slot) off) data
  let b := { a with got := (off, data.length) :: a.got }
  if covered b.got b.size then
    let s := s.setStr { s.str with asm := s.str.asm.filter (fun x => x ≠ a) }
    admitRing (setIslot s a.ring a.slot (some { stream := a.stream, item := a.item, bytes := a.size, state := 0, capture := a.started })) a.ring
  else s.setStr { s.str with asm := s.str.asm.map (fun x => if x = a then b else x) }

/-- Does the size of an item differ from what its entry declares (R311)? A unit of a decode entry only has to fit its slot. -/
def sizeDiffers (s : State) (e : W512) (n : Nat) : Bool :=
  n > ringSlotBytes s (eInRing e) || (!eDecode e && n ≠ itemBytes e)

/-- The first datagram of an item (R311, R366). -/
def newItem (s : State) (p stream item size off : Nat) (data : List Byte) : State :=
  let e := entry s stream
  let r := eInRing e
  let drop (s : State) : State := dropWhole s stream (eGen e) item
  if sizeDiffers s e size then refuseRecord (drop s) stream cInputSize item 0 true
  else if (s.str.asm.filter (fun a => a.port = p)).length ≥ 4096 then portEvent (count64 (drop s) (portBase p + 0xA8) 1) p 2
  else if !ringEnabled s r || ringKind s r ≠ 0 || ringFree s r = 0 then dropEvent (count64 (drop s) (strBase + 0xA8) 1) stream
  else
    let a : Assembly := { port := p, ring := r, slot := ringProd s r, stream, item, size, started := tb s }
    let s := setIslot s r a.slot none
    placeData (setProd (s.setStr { s.str with asm := s.str.asm ++ [a] }) r ((a.slot + 1) % 65536)) a off data

/-- The data of a media datagram (R364, R366). -/
def mediaData (s : State) (p : Nat) (d : List Byte) : State :=
  let stream := beAt d 4 4
  let item := beAt d 8 4
  let size := beAt d 12 4
  let off := beAt d 16 4
  let data := d.drop 24
  let e := entry s stream
  if d.length < 24 || beAt d 0 1 ≠ 1 || beAt d 1 1 > 2 || stream ≥ 2 ^ 18 || beAt d 20 4 ≠ 0 || off + data.length > size then rxDrop s p
  else if isDropped s stream (beAt d 2 2) item then s
  else if !eValid e || eGen e ≠ beAt d 2 2 || s.str.invalidating.contains stream then
    dropEvent (count64 (dropWhole s stream (beAt d 2 2) item) (strBase + 0xB0) 1) stream
  else match s.str.asm.find? (fun a => a.stream = stream && a.item = item) with
    | some a => if a.size ≠ size then rxDrop s p else placeData s a off data
    | none => newItem s p stream item size off data

/-- MEDIA_DATAGRAM (R366). -/
def execMediaDatagram (p : Nat) (frame : List Byte) (s : State) : Out := .next <|
  let f := parseFrame frame
  if p ≥ 8 || !portUp s p then s
  else if mediaUdp s p = 0 then rxDrop s p
  else match (packetFor s p f).bind (fun x => udpData x (mediaUdp s p)) with
    | none => rxDrop s p
    | some d =>
      match admitFrame s p f with
      | (false, s) => s
      | (true, s) => mediaData s p d

/-- ASSEMBLY_TIMEOUT (R366): the oldest item of the ring at the port whose ASM_US has passed is abandoned; its slot is freed. -/
def execAssemblyTimeout (p r : Nat) (s : State) : Out := .next <|
  match s.str.asm.find? (fun a => a.port = p && a.ring = r && decide (tb s ≥ a.started + rd32 s (portBase p + 0x48) * 1000)) with
  | none => s
  | some a =>
    if p ≥ 8 || !codecOn s then s
    else
      let s := s.setStr { s.str with asm := s.str.asm.filter (fun x => x ≠ a) }
      let s := setIslot s r a.slot (some { stream := a.stream, item := a.item, bytes := 0, state := 0, free := true })
      portEvent (count64 (advanceIngress s r (ringSlots s r)) (portBase p + 0xA8) 1) p 2

/-- OTHER_FRAME (R361): a frame of a kind that the port does not accept. -/
def execOtherFrame (p : Nat) (_frame : List Byte) (s : State) : Out := .next <| if portUp s p then rxDrop s p else s

/-! ### Replies (R361, R362, R368) -/

/-- ARP_REQUEST (R362, R371): a request for the port's own IPv4 address that filtering and policing pass is answered. -/
def execArpRequest (p : Nat) (frame : List Byte) (s : State) : Out := .next <|
  let f := parseFrame frame
  let a := f.pl
  let tpa := List.replicate 12 0#8 ++ slice a 24 4
  if !portUp s p then s
  else if !tagAccepted p f || f.etype ≠ 0x0806 || a.length < 28 || beAt a 0 2 ≠ 1 || beAt a 2 2 ≠ 0x0800 || beAt a 4 2 ≠ 0x0604 || beAt a 6 2 ≠ 1 then rxDrop s p
  else match admitFrame s p f with
  | (false, s) => s
  | (true, s) =>
    if !isV4 tpa || !ownIp s p tpa then s
    else
    let reply := beBytes 2 1 ++ beBytes 2 0x0800 ++ beBytes 2 0x0604 ++ beBytes 2 2 ++ portMac p ++ slice a 24 4 ++ slice a 8 6 ++ slice a 14 4
    enqueue s p 0 (etherFrame p (slice a 8 6) 0 0 0x0806 reply)

/-- An ICMPv6 message with its checksum. -/
def icmp6 (src dst : List Byte) (b : List Byte) : List Byte := putBe b 2 2 (pseudoSum src dst 58 (putBe b 2 2 0))

/-- NEIGHBOR_SOLICITATION (R362, R371): a solicitation for one of the port's own addresses that filtering and policing pass is
answered. -/
def execNeighborSolicitation (p : Nat) (frame : List Byte) (s : State) : Out := .next <|
  let f := parseFrame frame
  if !portUp s p then s
  else match (if f.etype = 0x86DD && tagAccepted p f then parseIp f else none) with
    | none => rxDrop s p
    | some x =>
      let target := slice x.pl 8 16
      if x.proto ≠ 58 || x.hop ≠ 255 || x.pl.length < 24 || beAt x.pl 0 1 ≠ 135 || pseudoSum x.src x.dst 58 x.pl ≠ 0 then rxDrop s p
      else match admitFrame s p f with
      | (false, s) => s
      | (true, s) =>
        if !(ownIp s p target || (8 ≤ p && target = linkLocal p)) || isV4 target then s
        else
        let dst := if allZero x.src then beBytes 16 0xFF020000000000000000000000000001 else x.src
        let dmac := if allZero x.src then beBytes 6 0x333300000001 else f.smac
        let adv := beBytes 4 0x88000000 ++ beBytes 4 (if allZero x.src then 0x20000000 else 0x60000000) ++ target ++ beBytes 2 0x0201 ++ portMac p
        let pkt := ipPacket target dst 58 (icmp6 target dst adv)
        enqueue s p 0 (etherFrame p dmac 0 0 0x86DD (putBe pkt 7 1 255))

/-- ICMP_ECHO_REQUEST (R361): host ports answer; a media port does not accept it. -/
def execIcmpEchoRequest (p : Nat) (frame : List Byte) (s : State) : Out := .next <|
  let f := parseFrame frame
  if !portUp s p then s
  else if p < 8 then rxDrop s p
  else match packetFor s p f with
    | none => rxDrop s p
    | some x =>
      let v4 := isV4 x.dst
      if x.pl.length < 8 then rxDrop s p
      else if v4 && x.proto = 1 && beAt x.pl 0 1 = 8 && inetSum x.pl = 0 then
        let b := putBe (putBe x.pl 0 1 0) 2 2 0
        enqueue s p 0 (etherFrame p f.smac 0 0 0x0800 (ipPacket x.dst x.src 1 (putBe b 2 2 (inetSum b))))
      else if !v4 && x.proto = 58 && beAt x.pl 0 1 = 128 && pseudoSum x.src x.dst 58 x.pl = 0 then
        enqueue s p 0 (etherFrame p f.smac 0 0 0x86DD (ipPacket x.dst x.src 58 (icmp6 x.dst x.src (putBe x.pl 0 1 129))))
      else rxDrop s p

/-! ### Link state (R392, R450) -/

/-- PORT_LINK_STATE_CHANGE (R392): source +0 arrives, a link-down is counted, and a link that regains takes the lane repairs that
wait for its training (R442). -/
def execPortLinkStateChange (p : Nat) (up : Bool) (s : State) : Out := .next <|
  if p ≥ 10 || !mgmtOn s || (!codecOn s && p < 8) || SMap.get false s.eth.down p ≠ up then s
  else
    let s := s.setEth { s.eth with down := SMap.set false s.eth.down p (!up) }
    let s := if up then takeLanes s (16 + p) else satCount64 s (lfcBase + 0x280 + 8 * p) 1
    portEvent s p 0

end Sys2Proof.Machine
end

