-- ==== Sys2Proof/Machine/EthEgress.lean ====
section
/-! DEFINITION. Frames that leave a port: egress items, gate-control lists, the shaper and transmission selection (R367 to R370,
R372, R385). -/

namespace Sys2Proof.Machine

/-! ### Egress items (R367, R372) -/

/-- The destination entry of a ring, in the L-die that serves its port (R385). -/
def dstEntry (s : State) (p r : Nat) : List Byte :=
  let d := if p < 4 || p = 8 then 0 else 1
  (List.range 8).flatMap (fun i => leBytes 4 (rd32 s (dstBase d + 32 * r + 4 * i)))

/-- UDP port that a port sends from and to (R363). -/
def egressUdp (s : State) (p : Nat) : Nat := if p < 8 then mediaUdp s p else hcpUdp s

/-- A media frame, with an R-tag when it carries a sequence number (R372). -/
def mediaFrame (s : State) (p q vid : Nat) (dmac dst : List Byte) (seq : Option Nat) (pl : List Byte) : List Byte :=
  let ip := ipPacket (sourceIp s p) dst 17 (udpDatagram (sourceIp s p) dst (egressUdp s p) pl)
  match seq with
  | none => etherFrame p dmac vid q (ipEtype dst) ip
  | some n => etherFrame p dmac vid q 0xF1C1 (beBytes 2 0 ++ beBytes 2 n ++ beBytes 2 (ipEtype dst) ++ ip)

/-- Queue of a class (R368). -/
def classQueue (c : Nat) : Nat := if c = 0 then 6 else if c = 1 then 4 else 2

/-- The valid sequence-generation entry of a ring (R372). -/
def generatorOf (s : State) (r : Nat) : Option Nat :=
  (List.range 1024).find? (fun i => let e := tableEntry s 0 4 i; bit (tb' e 2 1) 0 && tb' e 0 2 = r)

/-- KIND of the media header of what a stream sends: a Pulys unit, or raw media (R364). -/
def outKind (e : W512) : Nat := if eDecode e then (if eAudio e then 1 else 0) else 2

/-- Sends the datagram at `off` of an item; live traffic of a media port may be replicated (R372). -/
def sendDatagram (s : State) (r stream item len off n : Nat) (data : List Byte) : State :=
  let p := ringPort s r
  let d := dstEntry s p r
  let e := entry s stream
  let dst := slice d 8 16
  let q := classQueue (eClass e)
  let vid := leAt d 6 2 % 4096
  let head := beBytes 1 1 ++ beBytes 1 (outKind e) ++ beBytes 2 (eGen e) ++ beBytes 4 stream ++ beBytes 4 item ++ beBytes 4 len ++ beBytes 4 off ++ beBytes 4 0
  let pl := head ++ slice data off n
  let p2 := leAt d 24 1
  match (if p < 8 && p2 < 8 && eClass e = 0 then generatorOf s r else none) with
  | none => enqueue s p q (mediaFrame s p q vid (slice d 0 6) dst none pl)
  | some g =>
    let x := tableEntry s 0 4 g
    let seq := tb' x 4 2
    let s := setTable s 0 4 g (tbSet x 4 2 (seq + 1))
    let s := enqueue s p q (mediaFrame s p q vid (slice d 0 6) dst (some seq) pl)
    if mediaUdp s p2 = 0 then s else enqueue s p2 q (mediaFrame s p2 q vid (slice d 0 6) dst (some seq) pl)

/-- DATA_MAX of a ring's port (R367). -/
def dataMax (s : State) (r : Nat) : Nat :=
  let p := ringPort s r
  portMtu s p - (if isV4 (slice (dstEntry s p r) 8 16) then 20 else 40) - 8 - 24

/-- EGRESS_ITEM (R312, R367, R501): the next handed-over item of a ring leaves as datagrams in ascending OFFSET order; an empty
item is passed over. -/
def execEgressItem (r : Nat) (s : State) : Out := .next <|
  let p := ringPort s r
  let i := ringCons s r
  if !codecOn s || !ringEnabled s r || ringKind s r ≠ 1 || ringFill s r = 0 || !portUp s p || egressUdp s p = 0 then s
  else match oslot s r i with
    | none => s
    | some x =>
      match x.len with
      | none => s
      | some len =>
        let free (s : State) : State := setCons (setOslot s r i none) r ((i + 1) % 65536)
        if len = 0 then free s
        else
          let item := SMap.get 0 s.eth.items r
          let m := max 1 (dataMax s r)
          let data := hbmPeek s (ringPart s r) (slotVa s r i) len
          let s := noteLost s (ringPart s r) (slotVa s r i) len
          let s := (List.range (ceilDiv len m)).foldl (fun s k => sendDatagram s r x.stream item len (k * m) (min m (len - k * m)) data) s
          free (s.setEth { s.eth with items := SMap.set 0 s.eth.items r ((item + 1) % 2 ^ 32) })

/-! ### Gate-control lists (R369, R370) -/

/-- The admin list: gates and interval of each entry in use. -/
def adminRows (s : State) (p : Nat) : List (Nat × Nat) :=
  (List.range (min 256 (rdBits s (portBase p + 0xC8) 0 9))).map (fun e =>
    (rdBits s (portBase p + 0x1000 + 8 * e) 0 8, rd32 s (portBase p + 0x1004 + 8 * e)))
def adminCycle (s : State) (p : Nat) : Nat := ((adminRows s p).map (·.2)).sum
def gclPending (s : State) (p : Nat) : Bool := bit (rd32 s (portBase p + 0xC4)) 9

/-- The start of a requested change (R369). -/
def setStart (s : State) (p : Nat) : State :=
  s.setEth { s.eth with starts := SMap.set 0 s.eth.starts p (listStart (tb s) (rd64 s (portBase p + 0xD0)) (adminCycle s p) + 1) }

/-- A config change is requested (R370). -/
def gclChange (s : State) (p : Nat) : State :=
  if gclPending s p then s
  else wrBits (wrBits (setStart s p) (portBase p + 0xC0) 1 1 1) (portBase p + 0xC4) 9 1 1

/-- GCL_CHANGE (R370). -/
def execGclChange (p : Nat) (s : State) : Out := .next <| if mgmtOn s && p < 10 && (codecOn s || 8 ≤ p) then gclChange s p else s

/-- GCL_CONFIG_APPLY (R369): the admin list becomes the oper list at its cycle start. -/
def execGclConfigApply (p : Nat) (s : State) : Out := .next <|
  let t := SMap.get 0 s.eth.starts p
  if !mgmtOn s || p ≥ 10 || (!codecOn s && p < 8) || !gclPending s p || t = 0 || tb s < t - 1 then s
  else
    let rows := adminRows s p
    let s := s.setEth { s.eth with oper := SMap.set {} s.eth.oper p { base := t - 1, pos := 0, len := rows.length, rows := rows },
                                   starts := SMap.set 0 s.eth.starts p 0 }
    wrBits (wrBits (wrBits s (portBase p + 0xC4) 0 9 rows.length) (portBase p + 0xC4) 9 1 0) (portBase p + 0xC0) 1 1 0

/-- GATE_INTERVAL_END (R369). -/
def execGateIntervalEnd (p : Nat) (s : State) : Out := .next <|
  if !mgmtOn s || p ≥ 10 || (!codecOn s && p < 8) then s
  else s.setEth { s.eth with oper := SMap.modify {} s.eth.oper p (nextInterval (tb s)) }

/-- Is the gate list of a port in force? -/
def gated (s : State) (p : Nat) : Bool := bit (rd32 s (portBase p + 0xC0)) 0 && (SMap.get {} s.eth.oper p).len ≠ 0

/-- Time for which the rows from `i` on keep queue `q` open, over at most `n` rows; none when they all do. -/
def openRun (rows : List (Nat × Nat)) (q i : Nat) : Nat → Option Nat
  | 0 => none
  | n + 1 =>
    let x := nth (0, 0) rows (i % max 1 rows.length)
    if bit x.1 q then (openRun rows q (i + 1) n).map (· + x.2) else some 0

/-- Nanoseconds for which the gate of queue `q` stays open from now; none when it never closes. -/
def openFor (s : State) (p q : Nat) : Option Nat :=
  let o := SMap.get {} s.eth.oper p
  if !gated s p then none else (openRun o.rows q o.pos o.rows.length).map (fun t => t - (tb s - o.base))

/-- The longest opening of queue `q`; none when its gate never closes. -/
def longestOpening (s : State) (p q : Nat) : Option Nat :=
  let o := SMap.get {} s.eth.oper p
  if !gated s p then none
  else (List.range o.rows.length).foldl (fun m i =>
    match m, openRun o.rows q i o.rows.length with
    | some a, some b => some (max a b)
    | _, _ => none) (some 0)

/-- Nanoseconds from the start of a frame to its last bit: preamble, frame and FCS at the port's rate, rounded up. -/
def frameTime (p n : Nat) : Nat := if p < 8 then ceilDiv (n + 12) 50 else ceilDiv ((n + 12) * 2) 25

/-! ### Transmission selection (R368, R369) -/

def queueOf (s : State) (p q : Nat) : List QFrame := SMap.get [] s.eth.queues (p * 8 + q)
def setQueue (s : State) (p q : Nat) (xs : List QFrame) : State := s.setEth { s.eth with queues := SMap.set [] s.eth.queues (p * 8 + q) xs }

/-- Rate of a port, in kb/s. -/
def portRate (p : Nat) : Nat := if p < 8 then 400000000 else 100000000

/-- May a queue send its head frame now: its gate is open long enough and its credit is not negative? -/
def maySendQueue (s : State) (p q : Nat) : Bool :=
  match queueOf s p q with
  | [] => false
  | f :: _ =>
    (match openFor s p q with | none => true | some t => frameTime p f.bytes.length ≤ t) &&
    (idleSlope s p q = 0 || decide (creditNow s p q ≥ 0))

/-- Puts the head frame of a queue on the wire. -/
def transmit (s : State) (p q : Nat) (f : QFrame) (rest : List QFrame) : State :=
  let i := idleSlope s p q
  let bits := (f.bytes.length + 24) * 8
  let cost : Int := ((bits * 1000000 * (portRate p - i) / portRate p : Nat) : Int)
  let x := (creditNow s p q - cost, tb s + ceilDiv (bits * 1000000) (portRate p), !rest.isEmpty)
  let s := if i = 0 then s else s.setEth { s.eth with credit := SMap.set (0, 0, false) s.eth.credit (p * 8 + q) x }
  (setQueue s p q rest).emit (.frame p f.bytes)

/-- EGRESS_FRAME (R368, R369): strict priority among open gates; a frame that does not fit its opening waits and is counted, one that
fits none is discarded. -/
def execEgressFrame (p q : Nat) (s : State) : Out := .next <|
  if !portUp s p || q ≥ 8 then s
  else match queueOf s p q with
    | [] => s
    | f :: rest =>
      let n := frameTime p f.bytes.length
      if (longestOpening s p q).any (fun t => decide (t < n)) then
        portEvent (count64 (setQueue (noteWaiting s p q (!rest.isEmpty)) p q rest) (portBase p + 0xB8) 1) p 3
      else if (openFor s p q).any (fun t => decide (t < n)) then
        if f.held then s else count64 (setQueue s p q ({ f with held := true } :: rest)) (portBase p + 0xB0) 1
      else if !maySendQueue s p q || (range' (q + 1) (7 - q)).any (maySendQueue s p) then s
      else transmit s p q f rest

/-! ### Time-base steps (R370, R383) -/

/-- A list in use restarts at the first cycle start after the step. -/
def restartList (now : Nat) (o : OperList) : OperList :=
  let cycle := (o.rows.map (·.2)).sum
  let start := o.base - ((o.rows.take o.pos).map (·.2)).sum
  if o.len = 0 then o
  else { o with pos := 0, base := if cycle ≠ 0 && now < start then start - (start - now) / cycle * cycle else listStart now start cycle }

/-- What a step of the time base does to the ports: pending changes move to the stepped time, lists in use restart (R370, R383). -/
def portsStep (s : State) : State :=
  let s := (List.range 10).foldl (fun s p => if gclPending s p then setStart s p else s) s
  let s := (List.range 8).foldl (fun s p => (List.range 16).foldl (fun s g =>
    let k := 256 + p * 16 + g
    if SMap.get 0 s.eth.starts k = 0 then s
    else s.setEth { s.eth with starts := SMap.set 0 s.eth.starts k (listStart (tb s) (tb' (gateHead s p g) 8 8) (((gateRows s p g).map (·.2)).sum) + 1) }) s) s
  s.setEth { s.eth with oper := s.eth.oper.map (fun (k, o) => (k, restartList (tb s) o)), gates := s.eth.gates.map (fun (k, o) => (k, restartList (tb s) o)) }

end Sys2Proof.Machine
end

