-- ==== Sys2Proof/Machine/Gptp.lean ====
section
/-! DEFINITION. Time: the discipline of the time base by 802.1AS and the messages of its end station (R374, R375, R386, R487). -/

namespace Sys2Proof.Machine

/-- Does time-base discipline run (R404, R474)? -/
def timeOn (s : State) : Bool := mgmtOn s && !recovery s

/-- ETH_TSTATE.STATE, and its change with source 296 (R392). -/
def tState (s : State) : Nat := rdBits s (timBase + 0x40) 0 2
def setTState (s : State) (v : Nat) : State := if tState s = v then s else arrive (wr32 s (timBase + 0x40) v) 296 v

/-- The time base is stepped (R323, R350, R370, R375, R383, R441). -/
def stepTime (s : State) (now : Nat) : State :=
  let old := tb s
  let s := s.setPow { s.pow with tbAcc := now % 2 ^ 64 * 2 ^ 32 }
  let s := count64 (count64 s (timBase + 0x50) 1) (budBase + 0x50) 1
  let s := portsStep (fabricStep (boundary (repStep s old (tb s))))
  arrive (arrive s 13 0) 297 (tState s)

/-- The increments that the servo may set: within 200 ppm of the nominal one (R375, R485). -/
def nominalInc : Nat := 17180123384
def minInc : Nat := nominalInc - nominalInc / 5000
def maxInc : Nat := nominalInc + nominalInc / 5000

/-- The frequency is slewed: the servo's choice within its limits is free (log entry 3); source 12 arrives at the eighth
consecutive request for a limit (R375, R487). -/
def slew (s : State) : State :=
  let (i, s) := s.fresh
  let inc := minInc + Config.freeNat i % (maxInc - minInc + 1)
  let s := s.setPow { s.pow with tbInc := inc }
  let n := if inc = minInc || inc = maxInc then s.eth.servo + 1 else 0
  let s := s.setEth { s.eth with servo := if n ≥ 8 then 0 else n }
  if n ≥ 8 then arrive (count64 s (clkBase + 0xA8) 1) 12 0 else s

/-- SYNC (R375): `origin` is the grandmaster's time now and `offset` the offset of the time base from it, in ns. A first
synchronisation or an offset beyond 1,000 ns steps the time base; any other Sync slews its frequency. -/
def execSync (p origin : Nat) (offset : Int) (s : State) : Out := .next <|
  if !timeOn s || !portUp s p then s
  else if p < 8 then rxDrop s p
  else
    let first := tState s = 0
    let s := wr64 s (timBase + 0x48) (ofSigned 64 offset)
    let s := setTState s 1
    if first || decide (offset.natAbs > 1000) then stepTime s origin else slew s

/-- A PTP timestamp: seconds and nanoseconds, at a resolution of 4 ns (R374). -/
def ptpStamp (s : State) : List Byte := let t := tb s / 4 * 4; beBytes 6 (t / 1000000000) ++ beBytes 4 (t % 1000000000)
/-- Port identity of a host port: its clock identity and port number. -/
def ptpPort (p : Nat) : List Byte := let m := portMac 8; m.take 3 ++ [0xFF#8, 0xFE#8] ++ m.drop 3 ++ beBytes 2 (p - 7)
/-- A peer-delay answer of type `t` with a timestamp for the requester (IEEE 1588 header; log entry 32). -/
def pdelayMsg (s : State) (p t flags : Nat) (seq req : List Byte) : List Byte :=
  beBytes 1 (16 + t) ++ beBytes 1 2 ++ beBytes 2 54 ++ beBytes 2 0 ++ beBytes 2 flags ++ beBytes 8 0 ++ beBytes 4 0 ++ ptpPort p ++ seq ++ beBytes 1 5 ++
    beBytes 1 0x7F ++ ptpStamp s ++ req

/-- PDELAY_REQUEST (R374): a host port answers with a response and its follow-up; a media port discards gPTP. -/
def execPdelayRequest (p : Nat) (frame : List Byte) (s : State) : Out := .next <|
  let f := parseFrame frame
  if !timeOn s || !portUp s p then s
  else if p < 8 || !tagAccepted p f || f.etype ≠ 0x88F7 || f.pl.length < 54 || beAt f.pl 0 1 ≠ 0x12 || beAt f.pl 4 1 ≠ 0 then rxDrop s p
  else
    let seq := slice f.pl 30 2
    let req := slice f.pl 20 10
    let send (s : State) (t flags : Nat) : State := enqueue s p 7 (etherFrame p (beBytes 6 0x0180C200000E) 0 7 0x88F7 (pdelayMsg s p t flags seq req))
    send (send s 3 0x0200) 10 0

/-- SYNC_RECEIPT_TIMEOUT (R375). -/
def execSyncReceiptTimeout (s : State) : Out := .next <| if timeOn s && tState s = 1 then setTState s 2 else s

end Sys2Proof.Machine
end

