-- ==== Sys2Proof/Machine/Power.lean ====
section
/-! DEFINITION. Power states, the reset filter, thermal limits and throttling, and loss of clock (R471 to R489). -/

namespace Sys2Proof.Machine

/-! ### Entering Reset (R475, R479, R484, R487) -/

/-- Everything returns to its reset value; flash, the owner record, the reset-time registers, the filter and what lies outside the
device stay. -/
def resetAll (s : State) : State :=
  { State.reset with
    pending := s.pending
    ctl := s.ctl.filter (fun x => [0x50, 0x58, 0x5C, 0x90, 0x94].contains (x.1 - clkBase) && decide (clkBase ≤ x.1))
    pow := { st := .reset, filter := s.pow.filter, internalHold := s.pow.internalHold, rstNs := s.pow.rstNs, temps := s.pow.temps }
    fab := { links := (List.range 16).foldl (fun m k => SMap.set {} m k { light := (link s k).light }) [] }
    eth := { down := s.eth.down }
    flash := s.flash
    owner := s.owner
    freeIdx := s.freeIdx
    out := s.out }

/-- The device enters Reset with a cause: 1 RST_N, 2 thermal shutdown, 3 loss of lock. -/
def enterReset (s : State) (cause : Nat) : State := wr32 (resetAll s) (clkBase + 0x50) cause

/-- `n` samples of 10 ns pass in Reset: CLK_RSTTIME counts microseconds. -/
def resetTime (s : State) (n : Nat) : State :=
  if s.pow.st ≠ .reset then s
  else
    let ns := s.pow.rstNs + 10 * n
    count64 (s.setPow { s.pow with rstNs := ns % 1000 }) (clkBase + 0x58) (ns / 1000)

/-! ### Leaving Reset (R403, R423, R433, R450, R479) -/

/-- Links whose fibre carries light begin training (R338). -/
def trainLinks (s : State) : State :=
  if codecOn s then (List.range 16).foldl (fun s k => if (link s k).light then startTraining s k else s) s else s

/-- The lifetime records at boot (R450): the copy in flash is restored, the seconds in Reset are booked, and a power-on and a
release of RST_N are counted. -/
def bootRecords (s : State) (released : Bool) : State :=
  let s := restoreLife s
  let us := rd64 s (clkBase + 0x58)
  let s := satCount64 s (lfcBase + 0x100) ((us - rd64 s (clkBase + 0x90)) / 1000000)
  let s := wr64 s (clkBase + 0x90) us
  if !released then s
  else
    let s := if rd32 s (clkBase + 0x50) = 0 then satCount64 s (lfcBase + 0x118) 1 else s
    satCount64 s (lfcBase + 0x120) 1

/-- The device starts from Reset: time counts from 0, the fused repairs and the journal are in force, the darkroom has derived its
keys, and the boot ROM has run. -/
def startDevice (s : State) (released : Bool) : State :=
  let s := s.setPow { s.pow with st := .active }
  let s := wr32 s (clkBase + 0x40) 1
  let s := wr64 s (budBase + 0x48) 1000000
  let s := replayJournal (bootRecords s released)
  let s := s.setDrk { s.drk with next := s.flash.prefixEnd, seedOpen := true }
  let s := wr32 s (drkBase + 0x40) (1 + (owned s).toNat * 4)
  trainLinks (bootRom s false)

/-- Does a sensor read at or above its shutdown threshold (R482)? Sensors 0–15 lie on the C-dies, 16–23 on the L-dies. -/
def tooHot (temps : List Int) : Bool :=
  (List.range temps.length).any (fun i => decide (nth 0 temps i ≥ (if i < 16 then 480 else 420)))

/-! ### RST_N (R479) -/

/-- RST_N_ASSERT (R479): `n` samples of RST_N low. Reset asserts when the filter reaches 500, which also clears internal_hold. -/
def execRstNAssert (n : Nat) (s : State) : Out := .next <|
  if s.pow.st = .off || n = 0 then s
  else
    let l := s.pow.filter
    let s1 := s.setPow { s.pow with filter := min 1000 (l + n), internalHold := s.pow.internalHold && !(decide (l < 500) && decide (l + n ≥ 500)) }
    if s.pow.st = .reset then resetTime s1 n
    else if l + n ≥ 500 then resetTime (enterReset s1 1) (l + n - 500)
    else s1

/-- RST_N_RELEASE (R479, R484): `n` samples of RST_N high. The device leaves Reset at the sample at which the filter stands at 0,
unless an internal hold or a shutdown temperature keeps it there. -/
def execRstNRelease (n : Nat) (s : State) : Out := .next <|
  if s.pow.st = .off || n = 0 then s
  else
    let l := s.pow.filter
    let s1 := s.setPow { s.pow with filter := l - n }
    if s.pow.st ≠ .reset then s1
    else if n < l || s.pow.internalHold || (rd32 s (clkBase + 0x50) = 2 && tooHot s.pow.temps) then resetTime s1 n
    else startDevice (resetTime s1 (max 1 l)) true

/-! ### Power (R471, R473) -/

/-- POWER_ON (R473, R488): the power-on reset holds the device in Reset; it clears the reset-time registers too. -/
def execPowerOn (s : State) : Out := .next <|
  if s.pow.st ≠ .off then s
  else { (resetAll s) with ctl := [], pow := {} }

/-- POWER_LOSS (R473): the device is Off; flash keeps its contents. -/
def execPowerLoss (s : State) : Out := .next <|
  if s.pow.st = .off then s
  else { (resetAll s) with ctl := [], pow := { st := .off } }

/-! ### Standby (R476, R477) -/

/-- Sets CLK_STATUS.PSTATE and the power state. -/
def setPstate (s : State) (p : PState) (v : Nat) : State := wrBits (s.setPow { s.pow with st := p }) (clkBase + 0x40) 1 2 v
/-- CLK_STATUS.CODE. -/
def pwrCode (s : State) (code : Nat) : State :=
  let s := wrBits s (clkBase + 0x40) 16 16 code
  if code = 0 then s else raise s clkBase code

/-- Is a change to Standby refused (R476)? -/
def powerBusy (s : State) : Bool :=
  (ldState s != 0 && decide (ldState s ≤ 3)) || fwState s == 1 || fwState s == 3 || rdBits s (shtBase + 0x58) 8 8 != 0

/-- OP = STANDBY with a drain limit in ms. -/
def standby (s : State) (ms : Nat) : State :=
  if s.pow.st ≠ .active || recovery s then s
  else if powerBusy s then pwrCode s 0x0602
  else
    let s := setPstate (pwrCode s 0) .entering 1
    (s.setPow { s.pow with drain := tb s + min ms 60000 * 1000000 }).setStr { s.str with noAdmit := List.range 8 }

/-- STANDBY (R476). -/
def execStandby (drainMs : Nat) (s : State) : Out := .next <| standby s drainMs

/-- The gated blocks lose their clocks and power (R474): stores are lost, links go dark. -/
def gateBlocks (s : State) : State :=
  let s := s.setMem { s.mem with store := [], badWord := [] }
  let s := s.setFab { s.fab with links := (List.range 16).foldl (fun m k => SMap.set {} m k { light := (link s k).light }) [] }
  let s := s.setEth { s.eth with queues := SMap.drop (· < 64) s.eth.queues }
  showLinks s

/-- STANDBY_DRAIN_END (R476): once DRAIN_MS has passed or nothing runs, what still runs or waits ends with standby-drain, the device becomes unconfigured, the lifetime records
are written, and the blocks are gated. -/
def execStandbyDrainEnd (s : State) : Out := .next <|
  if s.pow.st ≠ .entering || (tb s < s.pow.drain && !(runningTasks s).isEmpty) then s
  else
    let s := abortWhere s 0x0601 (fun _ _ _ => true)
    let s := dropReady s 0x0601 (fun _ => true)
    let subs := ((ringsOf s (List.range 8)).filter (fun r => ringKind s r = 2)).flatMap (queuedSubs s)
    let s := subs.foldl (fun s w => refuseRecord s (subField w 4 4) 0x0601 0 (subField w 24 8) false) s
    let s := unconfigure s
    let s := s.setCtl (SMap.drop (fun a => strBase + 0x80000 ≤ a && a < strBase + 0x100000) s.ctl)
    let s := s.setStr { s.str with bound := [] }
    setPstate (gateBlocks (arrive (writeCopy s) 11 0)) .standby 2

/-- OP = ACTIVE: the blocks are restored and the self-test begins. -/
def activate (s : State) : State :=
  if s.pow.st ≠ .standby || recovery s then s else wrBits (setPstate (pwrCode s 0) .leaving 3) (repBase + 0x40) 0 1 0
/-- ACTIVE (R477). -/
def execActive (s : State) : Out := .next <| activate s

/-- ACTIVE_COMPLETE (R477): the self-test has ended; the links train. -/
def execActiveComplete (s : State) : Out := .next <|
  if s.pow.st = .leaving && bistDone s then trainLinks (setPstate s .active 0) else s

/-- A write of CLK_PWR. -/
def clkPwr (s : State) (v : Nat) : State := match bits v 0 2 with
  | 1 => standby s (bits v 16 16)
  | 2 => activate s
  | _ => s

/-! ### Firmware ACTIVATE (R404, R405, R413) -/

/-- MGT_FW_CMD ACTIVATE: a management restart on the new firmware, or in recovery a restart as a release of RST_N makes. -/
def fwActivate (s : State) : State :=
  let st := fwState s
  if !mgmtOn s then s
  else if st = 3 then fwRefuse s 0x0107
  else if st ≠ 4 then fwRefuse s 0x0108
  else if recovery s then startDevice (resetAll (writeCopy s)) false
  else managementRestart s 3

/-- FW_ACTIVATE (R405). -/
def execFwActivate (s : State) : Out := .next (fwActivate s)

/-- A write of MGT_FW_CMD. -/
def fwCommand (s : State) (v : Nat) : State := match bits v 0 3 with
  | 1 => fwVerify s
  | 2 => fwCommit s
  | 3 => fwActivate s
  | _ => s

/-! ### Thermal limits and throttling (R480 to R484) -/

/-- Readings of a kind of sensor: 0 C-dies, 1 L-dies, 2 HBM stacks. -/
def kindTemps (temps : List Int) (k : Nat) : List Int :=
  (range' (if k = 0 then 0 else if k = 1 then 16 else 24) (if k = 0 then 16 else 8)).map (nth 0 temps)
/-- Thermal-limit threshold of a kind, in quarters of a degree. -/
def limitOf (k : Nat) : Int := if k = 0 then 420 else if k = 1 then 360 else 380
/-- The hottest of some readings. -/
def hottest (xs : List Int) : Int := xs.tail.foldl max (nth 0 xs 0)

/-- Source 6 arrives once for each crossing of a kind's thermal limit (R482). -/
def thermalLimit (s : State) (temps : List Int) (k : Nat) : State :=
  let xs := kindTemps temps k
  if nth false s.pow.limit k then
    (if xs.all (fun t => decide (t ≤ limitOf k - 20)) then s.setPow { s.pow with limit := updNth s.pow.limit k (fun _ => false) } else s)
  else if xs.any (fun t => decide (t ≥ limitOf k)) then arrive (s.setPow { s.pow with limit := updNth s.pow.limit k (fun _ => true) }) 6 0
  else s

/-- THERMAL_SAMPLE (R480, R482, R484): 32 readings in quarters of a degree. -/
def execThermalSample (temps : List Int) (s : State) : Out := .next <|
  let s := s.setPow { s.pow with temps := temps }
  if !mgmtOn s then s
  else
    let s := (List.range 32).foldl (fun s i => wr32 s (clkBase + 0x100 + 4 * i) (ofSigned 10 (nth 0 temps i))) s
    let s := (List.range 3).foldl (fun s k => wrBits s (clkBase + 0x80) (10 * k) 10 (ofSigned 10 (hottest (kindTemps temps k)))) s
    let die (d : Nat) : List Int := (range' (8 * d) 8).map (nth 0 temps)
    let s := s.setPow { s.pow with
      hot := (List.range 2).map (fun d => nth false s.pow.hot d || (die d).any (fun t => decide (t ≥ 400)))
      cool := (List.range 2).map (fun d => nth false s.pow.cool d && (die d).all (fun t => decide (t < 388))) }
    let s := (List.range 3).foldl (fun s k => thermalLimit s temps k) s
    if tooHot temps then enterReset (s.setPow { s.pow with internalHold := true }) 2 else s

/-- THROTTLE_INTERVAL (R483): the power of the last millisecond, and what the samples of the interval showed. -/
def execThrottleInterval (watts : Nat) (s : State) : Out := .next <|
  if !mgmtOn s then s
  else
    let ws := (watts :: s.pow.watts).take 10
    let avg := ws.sum / ws.length
    let s := wr32 s (clkBase + 0x88) (min avg 65535)
    let s := (List.range 2).foldl (fun s d =>
      let k := rdBits s (clkBase + 0x84) (3 * d) 3
      let k' := if nth false s.pow.hot d || ws.sum > 450 * ws.length then min 4 (k + 1)
        else if nth false s.pow.cool d && ws.sum < 430 * ws.length then k - 1 else k
      wrBits s (clkBase + 0x84) (3 * d) 3 k') s
    s.setPow { s.pow with watts := ws, hot := [false, false], cool := [true, true] }

/-- PLL_LOCK_LOSS (R487). -/
def execPllLockLoss (s : State) : Out := .next <|
  if !mgmtOn s then s else enterReset (s.setPow { s.pow with internalHold := true }) 3

end Sys2Proof.Machine
end

