-- ==== Sys2Proof/Machine/Processors.lean ====
section
/-! DEFINITION. Watchdogs and the reset of one processor (R390, R391, R407, R408). -/

namespace Sys2Proof.Machine

def wdTimeout (s : State) (p : Nat) : Nat := rdBits s (mgtBase + 0x520 + 8 * p) 0 24
/-- Does the watchdog of `p` count: firmware runs the processor and TIMEOUT is not 0? -/
def wdOn (s : State) (p : Nat) : Bool := p < 4 && mgmtOn s && !recovery s && cpuRuns s p && wdTimeout s p ≠ 0
/-- Has the count of `p` reached `k` times TIMEOUT, in microseconds of the time base? -/
def wdReached (s : State) (p k : Nat) : Bool := decide (k * wdTimeout s p * 1000 + (cpu s p).kick ≤ tb s)

/-- Resets processor `p` alone, which restarts at ENTRY: its claim slots are emptied and what it had claimed is completed. -/
def resetCpu (s : State) (p cause : Nat) : State :=
  let s := (cpu s p).claimed.foldl (fun s i => setActive s i false) s
  let s := wr32 (setSlot (setSlot s p false none) p true none) (lineAddr p) 0
  let s := s.setMgt { s.mgt with coal := SMap.set false s.mgt.coal p false }
  let s := wr32 s (cpuAddr p + 4) (rd32 s (cpuAddr p + 4) + 1)
  startCpu s p (0x20000000 + s.mgt.entry) cause

/-- A stage-2 reset; the third within 60 s over all processors is a management restart (R408). -/
def stageTwo (s : State) (p : Nat) : State :=
  let now := tb s
  let recent := s.mgt.wdResets.filter (fun t => now < t + 60000000000)
  let s := resetCpu (s.setMgt { s.mgt with wdResets := now :: recent }) p 1
  if recent.length ≥ 2 then managementRestart (s.setMgt { s.mgt with wdResets := [] }) 1 else s

/-- Restarts the count. -/
def kick (s : State) (p : Nat) : State := setCpu s p { cpu s p with kick := tb s, stage1 := false }

/-- KICK (R408). -/
def execKick (p : Nat) (s : State) : Out := .next <| if p < 4 && mgmtOn s then kick s p else s
/-- WATCHDOG_STAGE1 (R408). -/
def execWatchdogStage1 (p : Nat) (s : State) : Out := .next <|
  if wdOn s p && wdReached s p 1 && !(cpu s p).stage1 then arrive (setCpu s p { cpu s p with stage1 := true }) (1 + p) 0 else s
/-- WATCHDOG_STAGE2 (R408). -/
def execWatchdogStage2 (p : Nat) (s : State) : Out := .next <| if wdOn s p && wdReached s p 2 then stageTwo s p else s
/-- CONTROL_SPACE_TIMEOUT (R390): the fault is counted; the access fault is the processor's own. -/
def execControlSpaceTimeout (p : Nat) (s : State) : Out := .next <|
  if p < 4 && mgmtOn s && cpuRuns s p then count64 s (mgtBase + 0x5D8) 1 else s
/-- REGISTER_FILE_PARITY (R407). -/
def execRegisterFileParity (p : Nat) (s : State) : Out := .next <|
  if p < 4 && mgmtOn s && !recovery s && cpuRuns s p then resetCpu s p 2 else s
/-- FAST_CONTEXT_EXCEPTION (R391): a synchronous exception while INFAST = 1. -/
def execFastContextException (p : Nat) (s : State) : Out := .next <|
  if p < 4 && mgmtOn s && !recovery s && cpuRuns s p && inFast s p then resetCpu s p 2 else s

end Sys2Proof.Machine
end

