-- ==== Sys2Proof/Machine/ControlSpace.lean ====
section
/-! DEFINITION. Accesses to the control space: what a register reads as, what a read and a write do (R6, R7, R490 to R495, R507,
R508). -/

namespace Sys2Proof.Machine

/-- The state after a command's meaning, for the register writes that act as that command. -/
def after (o : Out) (s : State) : State := match o with | .next t => t | _ => s

/-! ### What registers read as -/

/-- Byte `i` of MGT_IFMAX or MGT_IFOFF (R493). -/
def ifWord (s : State) (high : Bool) (w : Nat) : Nat :=
  let v := if high then s.img.vmax else s.img.vmin
  let d : List (Nat × Nat) := if high then [(1, 2), (1, 1), (1, 3)] else [(1, 0), (1, 0), (1, 0)]
  let x (i : Nat) : Nat × Nat := if v = [] then nth (0, 0) d i else nth (0, 0) v i
  let h (y : Nat × Nat) : Nat := y.1 + y.2 * 256
  if w = 0 then h (x 0) + 2 * 65536 else h (x 1) + h (x 2) * 65536

/-- Word `i` of a list of bytes. -/
def wordOf (bs : List Byte) (i : Nat) : Nat := leAt bs (4 * i) 4

/-- The word at `a` as the event controller shows it: the aliases of PEND and MASK, and the copies in EVC_STATs (R410). -/
def evcView (s : State) (o : Nat) : Nat :=
  if 0x180 ≤ o ∧ o < 0x280 then rd32 s (evcBase + 0x100 + (o - 0x100) % 0x80)
  else if 0x300 ≤ o ∧ o < 0x400 then rd32 s (evcBase + 0x280 + (o - 0x280) % 0x80)
  else if 0x3000 ≤ o ∧ o < 0x4000 then
    let i := (o - 0x3000) / 4
    rdBits s (evcBase + o) 0 8 + (pendBit s i).toNat * 2 ^ 8 + (maskBit s i).toNat * 2 ^ 9 + (activeBit s i).toNat * 2 ^ 10
  else rd32 s (evcBase + o)

/-- The darkroom's computed words (R423, R429): the public keys read as 0 once they have been cleared. -/
def drkView (s : State) (o : Nat) : Nat :=
  if o = 0x60 then s.drk.next % 2 ^ 32
  else if 0x6000 ≤ o ∧ o < 0x67A0 then (if zeroised s || !mgmtOn s then 0 else wordOf (slice (Config.deviceObject 1) 0 1952) ((o - 0x6000) / 4))
  else if 0x7000 ≤ o ∧ o < 0x74A0 then (if zeroised s || !mgmtOn s then 0 else wordOf (slice (Config.deviceObject 2) 0 1184) ((o - 0x7000) / 4))
  else rd32 s (drkBase + o)

/-- The repair controller's computed words (R436, R443, R449, R453). -/
def repView (s : State) (o : Nat) : Nat :=
  let j := s.flash.journal
  if o = 0x40 then setBit (rd32 s (repBase + 0x40)) 1 (switchHeld s)
  else if 0x80 ≤ o ∧ o < 0xA0 then wordOf (jDigest j) ((o - 0x80) / 4)
  else if o = 0xA0 then j.length
  else if 0x100 ≤ o ∧ o < 0x140 ∧ o % 8 = 4 then min ((tb s - SMap.get 0 s.rep.rotTb ((o - 0x100) / 8)) / 1000000000) (2 ^ 32 - 1)
  else if 0x308 ≤ o ∧ o < 0x348 then
    let i := rdBits s (repBase + 0x300) 0 16
    match j[i]? with
    | some e => wordOf (jBytes (i + 1) e e.applied) ((o - 0x308) / 4)
    | none => 0
  else rd32 s (repBase + o)

/-- LEFT of watchdog `p`: microseconds to stage 1 (R411). -/
def wdLeft (s : State) (p : Nat) : Nat := if wdOn s p then (wdTimeout s p * 1000 + (cpu s p).kick - tb s) / 1000 else 0

/-- The word at byte address `a` (a multiple of 4) without the side effects of a read (R6, R7). -/
def viewWord (s : State) (a : Nat) : Nat :=
  if 0x40 ≤ a ∧ a < 0x50 then ifWord s (decide (a < 0x48)) (a % 8)
  else if 0x520 ≤ a ∧ a < 0x540 ∧ a % 8 = 4 then wdLeft s ((a - 0x520) / 8)
  else
    let b := blockOf a
    let o := a - b.base
    match b.typ with
    | 0x08 => evcView s o
    | 0x02 => drkView s o
    | 0x03 => repView s o
    | 0x0E => if 0x10000 ≤ o ∧ o < 0x12000 then bits (mirrorWord s ((o - 0x10000) / 8)) (if o % 8 = 0 then 0 else 32) 32 else rd32 s a
    | _ => rd32 s a

/-! ### Reads (R6, R395, R494, R507, R508) -/

/-- The row of a register at an address and the byte position in it. -/
def rowAt (a : Nat) : Option (RegRow × Nat) :=
  let b := blockOf a
  let o := a - b.base
  if hasCommon b && o < 0x40 then none else (findRow (regRows b.typ) o).map (fun x => (x.1, x.2.2))

/-- Bits of a register's mask that fall on the word at byte `d`. -/
def maskWord (m d : Nat) : Nat := bits m (8 * d) 32

/-- Does `a` lie in a block of a core that is gated or retired? Such a register keeps what it held (R17, R495). -/
def heldBlock (s : State) (a : Nat) : Bool :=
  let b := blockOf a
  decide (0x10 ≤ b.typ) && decide (b.typ ≤ 0x16) && coreClosed s b.inst

/-- Clears the RC bits of the word at `a` (R6); those of a gated or retired core stay (R495). -/
def clearRC (s : State) (a : Nat) : State :=
  match rowAt a with
  | none => s
  | some (r, d) => if heldBlock s a then s else
    let m := maskWord r.rc d; if m = 0 then s else wr32 s a (rd32 s a &&& (m ^^^ (2 ^ 32 - 1)))

/-- Is `a` a claim register: its processor and class? -/
def claimAt (a : Nat) : Option (Nat × Bool) :=
  let o := a - evcBase
  if evcBase ≤ a ∧ 0x800 ≤ o ∧ o < 0x900 ∧ o % 64 < 8 then some ((o - 0x800) / 64, o % 64 = 4) else none

/-- A 4-byte read without a latch: the value and the state after it; a read of either half of a 64-bit RC register clears all of it. -/
def readPlain (s : State) (a : Nat) : Nat × State :=
  match claimAt a with
  | some (p, f) => claim s p f
  | none =>
    let v := viewWord s a
    match rowAt a with
    | some (r, d) => if r.size = 8 then (v, clearRC (clearRC s (a - d)) (a - d + 4)) else (v, clearRC s a)
    | none => (v, s)

/-- Key of the latch of a requester on a block: processors 0–3, sessions 4–11. -/
def latchKey (q a : Nat) : Nat := q * 2 ^ 24 + (blockOf a).base
def setLatch (s : State) (q a : Nat) (x : Nat × Nat × Nat) : State := { s with latch := SMap.set (0, 0, 0) s.latch (latchKey q a) x }

/-- A 4-byte read by a requester (R494, R507): a low half latches the high half; the next read of that high half takes it. -/
def read32 (s : State) (q a : Nat) : Nat × State :=
  let l := SMap.get (0, 0, 0) s.latch (latchKey q a)
  let s := setLatch s q a (0, 0, 0)
  match rowAt a with
  | some (r, d) =>
    if r.size = 8 ∧ d = 4 ∧ l = ((blockOf a).base, a, l.2.2) then (l.2.2, s)
    else
      let hi := viewWord s (a + 4)
      let (v, s) := readPlain s a
      if r.size = 8 ∧ d = 0 then (v, setLatch s q a ((blockOf a).base, a + 4, hi)) else (v, s)
  | none => readPlain s a

/-- Is the 8-byte word at `a` one 64-bit register? -/
def whole64 (a : Nat) : Bool := match rowAt a with | some (r, d) => r.size = 8 && d = 0 | none => false

/-- An 8-byte read by a requester (R494, R508). -/
def read64 (s : State) (q a : Nat) : Nat × State :=
  let s := setLatch s q a (0, 0, 0)
  if whole64 a then
    let v := viewWord s a + viewWord s (a + 4) * 2 ^ 32
    (v, clearRC (clearRC s a) (a + 4))
  else
    let (x, s) := readPlain s a
    let (y, s) := readPlain s (a + 4)
    (x + y * 2 ^ 32, s)

/-- LOW_HALF_READ (R494): a 4-byte read by processor or session `q`. -/
def execLowHalfRead (q a : Nat) (s : State) : Out := .next <|
  if mgmtOn s && a % 4 = 0 && a < 0x1000000 && q < 12 then (read32 s q a).2 else s

/-! ### Writes -/

/-- A write by the access codes alone: RW bits are stored, W1C bits cleared, W1S bits set (R6). -/
def writeCodes (s : State) (a v : Nat) : State :=
  let b := blockOf a
  let o := a - b.base
  if hasCommon b && o < 0x40 then
    if o = 0x10 then wr32 s a (rd32 s a &&& ((v &&& 0x1F) ^^^ (2 ^ 32 - 1))) else s
  else match rowAt a with
    | none => s
    | some (r, d) =>
      let rw := maskWord r.rw d
      let x := (rd32 s a &&& (rw ^^^ (2 ^ 32 - 1))) ||| (v &&& rw)
      let x := x &&& ((v &&& maskWord r.w1c d) ^^^ (2 ^ 32 - 1))
      wr32 s a (x ||| (v &&& maskWord r.w1s d))

/-- The management block (R268, R405, R408, R409). -/
def writeMgt (s : State) (o v : Nat) : State :=
  if o = 0x400 then ldCommand s v
  else if o = 0x548 then fwCommand s v
  else if o = 0x5C0 then (if bit v 0 then after (execMgtRestart s) s else s)
  else if 0x520 ≤ o ∧ o < 0x540 ∧ o % 8 = 0 then
    let s := writeCodes s o v
    if bit v 31 then kick s ((o - 0x520) / 8) else s
  else writeCodes s o v

/-- The event controller (R395 to R400, R410). -/
def writeEvc (s : State) (o v : Nat) : State :=
  let w := o % 0x80 / 4
  if 0x180 ≤ o ∧ o < 0x200 then pendSet s w v
  else if 0x200 ≤ o ∧ o < 0x280 then pendClr s w v
  else if 0x300 ≤ o ∧ o < 0x380 then maskSet s w v
  else if 0x380 ≤ o ∧ o < 0x400 then maskClr s w v
  else if 0x800 ≤ o ∧ o < 0x900 ∧ o % 64 = 8 then complete s ((o - 0x800) / 64) v
  else if 0x800 ≤ o ∧ o < 0x900 ∧ o % 64 = 16 then budWrite s ((o - 0x800) / 64) v
  else if o = 0x900 then swSet s v
  else if 0x2000 ≤ o ∧ o < 0x3000 then cfgWrite s ((o - 0x2000) / 4) v
  else writeCodes s (evcBase + o) v

/-- The shutter (R455, R462 to R464); `src` is the source number of a FIRE. -/
def writeSht (s : State) (src o v : Nat) : State :=
  if o ≠ 0x48 then writeCodes s (shtBase + o) v
  else match bits v 0 3 with
    | 1 => fire s src
    | 2 => releaseSheet s
    | 3 => unfreeze s
    | 4 => armAt s
    | 5 => disarm s
    | _ => s

/-- The stream scheduler's entry commands (R306, R330). -/
def entryCommand (s : State) (v : Nat) : State :=
  let i := bits v 8 18
  match bits v 0 2 with
  | 1 => after (execEntryRead i s) s
  | 2 => if bit v 2 then after (execEntryCreate i s) s else after (execEntryWrite i s) s
  | 3 => after (execEntryInvalidate i s) s
  | _ => s

/-- A word of a ring descriptor (R310, R380): an enabled one takes only ENABLED, whose setting binds the ring to the session. -/
def writeRing (s : State) (sess r d v : Nat) : State :=
  let a := ringAt r + d
  if d ≠ 12 then (if ringEnabled s r then s else writeCodes s a v)
  else
    let on := bit v 24
    if ringEnabled s r then (if on then enableRing s r sess else wrBits s a 24 1 0)
    else
      let s := writeCodes s a (setBit v 24 false)
      if on then enableRing s r sess else s

def writeStr (s : State) (sess o v : Nat) : State :=
  if o = 0x40 then entryCommand s v
  else if o = 0xC0 then (if codecOn s then doorbell s (bits v 0 14) (bits v 16 16) else s)
  else if 0x80000 ≤ o ∧ o < 0x100000 then writeRing s sess ((o - 0x80000) / 32) (o % 32) v
  else writeCodes s (strBase + o) v

/-- A port block (R369, R370, R373): the admin list is closed while a change is pending. -/
def writeEth (s : State) (p o v : Nat) : State :=
  let a := portBase p + o
  let admin := o = 0xC8 || o = 0xD0 || o = 0xD4 || (0x1000 ≤ o && o < 0x1800)
  if o = 0xC0 then
    let s := wrBits s a 0 1 v
    if bit v 1 then gclChange s p else s
  else if admin && gclPending s p then wrBits s (portBase p + 0xC4) 10 1 1
  else if 0x8000 ≤ o && 8 ≤ p then s
  else if o = 0x8000 then
    let t := bits v 2 3
    let i := bits v 8 11
    match bits v 0 2 with
    | 1 => after (execEthTableRead p t i s) s
    | 2 => after (execEthTableWrite p t i s) s
    | _ => s
  else writeCodes s a v

/-- The fabric (R337, R352). -/
def writeFab (s : State) (o v : Nat) : State :=
  if o = 0x58 then (if bit v 8 then declareCommand s (bits v 0 4) else s)
  else if o = 0x60 then after (execPeek (bits v 0 4) (bits v 16 10) s) s
  else writeCodes s (fabBase + o) v

/-- Writes the 32-bit word at `a` for session `sess`, 0 for a processor. -/
def write32 (s : State) (sess a v : Nat) : State :=
  let b := blockOf a
  let o := a - b.base
  match b.typ with
  | 0x01 => writeMgt s o v
  | 0x08 => writeEvc s o v
  | 0x02 => if o = 0x48 then (if drkOn s then drkCommand s v else s) else writeCodes s a v
  | 0x03 =>
    if 0x200 ≤ o ∧ o < 0x218 then writeClass s ((o - 0x200) / 4) v else writeCodes s a v
  | 0x04 => writeSht s (if sess = 0 then 1 else 0) o v
  | 0x05 => if o = 0x48 then (if bit v 0 then startFlush s else s) else writeCodes s a v
  | 0x06 => if o = 0x48 then clkPwr s v else if o = 0x90 ∨ o = 0x94 then s else writeCodes s a v
  | 0x09 => writeStr s sess o v
  | 0x0C => writeEth s b.inst o v
  | 0x0E => writeFab s o v
  | t =>
    if heldBlock s a then s
    else if t = 0x16 ∧ o = 0x180 then after (execDmaRearm b.inst (BitVec.ofNat 32 v) s) s
    else writeCodes s a v

/-- A write of 8 bytes is taken whole by REP_CMD; elsewhere it is a write of the low half, then of the high half (R494, R508). -/
def write64 (s : State) (sess a v : Nat) : State :=
  if a = repBase + 0x48 then (if bits v 0 4 = 1 then after (execRetire (BitVec.ofNat 32 (v / 2 ^ 32)) s) s else s)
  else write32 (write32 s sess a (v % 2 ^ 32)) sess (a + 4) (v / 2 ^ 32)

/-- Any write ends the requester's latch on the block (R494). -/
def writeReg (s : State) (q sess a size v : Nat) : State :=
  let s := setLatch s q a (0, 0, 0)
  if size = 8 then write64 s sess a v else write32 s sess a (v % 2 ^ 32)

/-- REGISTER_WRITE (R6): a processor writes 4 or 8 aligned bytes. -/
def execRegisterWrite (a : Nat) (v : W64) (size : Nat) (s : State) : Out := .next <|
  if mgmtOn s && (size = 4 || size = 8) && a % size = 0 && decide (a + size ≤ 0x1000000) then writeReg s 0 0 a size v.toNat else s

end Sys2Proof.Machine
end

