-- ==== Sys2Proof/Machine/Hcp.lean ====
section
/-! DEFINITION. HCP as the device receives it: sessions, the order of messages, register access, doorbells, transfers, attestation and
debug (R376 to R383, R404, R405, R418 to R421, R427, R511). -/

namespace Sys2Proof.Machine

def cVersionUnsupported : Nat := 0x0C01
def cSessionLimit : Nat := 0x0C02
def cBadMessage : Nat := 0x0C03
def cNotPermitted : Nat := 0x0C04
def cXferOrder : Nat := 0x0C05
def cZeroised : Nat := 0x0207
def cChallengeStale : Nat := 0x020B

/-- What a request is answered with: STATUS, payload, and the state after it. -/
abbrev Answer := Nat × List Byte × State

/-! ### Messages (R376, R377) -/

def mType (d : List Byte) : Nat := beAt d 4 1
def mFlags (d : List Byte) : Nat := beAt d 5 1
def mSession (d : List Byte) : Nat := beAt d 8 4
def mSeq (d : List Byte) : Nat := beAt d 12 4
def mAck (d : List Byte) : Nat := beAt d 16 4
def mBody (d : List Byte) : List Byte := d.drop 24
/-- Is the header one of R376, its version aside? -/
def headOk (d : List Byte) : Bool :=
  24 ≤ d.length && beAt d 0 2 = 0x4843 && mFlags d < 4 && beAt d 6 2 + 24 = d.length && beAt d 22 2 = 0

/-- The row of the command table that a message belongs to: 0 for what no row names, which any of them answers. DEBUG starts with a
subcommand byte as ATTEST does: 0 UNLOCK, 1 LOCK, others access (PRESUMED, log entry 33). -/
def mKind (d : List Byte) : Nat :=
  let sub := beAt d 24 1
  if !headOk d then 0
  else if bit (mFlags d) 0 then 3
  else match mType d with
    | 0x01 => 1
    | 0x02 => 2
    | 0x03 => 3
    | 0x10 => 4
    | 0x11 => 5
    | 0x20 => 6
    | 0x21 => 7
    | 0x40 => if sub = 1 then 9 else 8
    | 0x50 => if sub < 4 then 10 + sub else 0
    | 0x51 => if sub < 2 then 14 + sub else 16
    | _ => 0

/-! ### Opening a session (R378, R404, R418) -/

/-- The HCP range that the device offers: majors, and lowest and highest minors (R249, R404). -/
def hcpRange (s : State) : Nat × Nat × Nat :=
  if recovery s || unconfigured s then (1, 0, 3)
  else let lo := nth (1, 0) s.img.vmin 2; let hi := nth (1, 3) s.img.vmax 2; (hi.1, lo.2, hi.2)
/-- Is version `a` no higher than `b`? -/
def verLe (a b : Nat × Nat) : Bool := a.1 < b.1 || (a.1 = b.1 && a.2 ≤ b.2)
/-- The highest version that both accept. -/
def pickVersion (s : State) (lo hi : Nat × Nat) : Option (Nat × Nat) :=
  let (m, a, b) := hcpRange s
  (((List.range (b + 1)).reverse.filter (fun i => a ≤ i)).map (fun i => (m, i))).find? (fun v => verLe lo v && verLe v hi)

/-- FLAGS in [7:0] and DEBUG_POLICY in [15:8] of the owner configuration (R416). -/
def ownerPolicy (s : State) : Nat := ownerField s 8 4 0 % 256 + ownerField s 14 1 2 * 256

/-- The port raises its own status codes; any other block raises the code that it answers with (R492). -/
def portCode (s : State) (p c : Nat) : State := if c / 256 = 0x0C then raise s (portBase p) c else raiseBy s c

/-- The fields of a HELLO: MIN, MAX, RETX_MAX, RTO_MS, WINDOW. -/
def helloOk (b : List Byte) : Bool :=
  b.length = 9 && 1 ≤ beAt b 4 1 && beAt b 4 1 ≤ 15 && 1 ≤ beAt b 5 2 && beAt b 5 2 ≤ 10000 && 1 ≤ beAt b 7 2 && beAt b 7 2 ≤ 64
/-- What the device offers: RETX_MAX 15, RTO_MS 1 and WINDOW 64, so that the host's values hold (DESIGN CHOICE, log entry 34). -/
def helloBytes (v : Nat × Nat) (b : List Byte) : List Byte :=
  beBytes 1 v.1 ++ beBytes 1 v.2 ++ beBytes 1 v.1 ++ beBytes 1 v.2 ++ beBytes 1 (min 15 (beAt b 4 1)) ++
    beBytes 2 (max 1 (beAt b 5 2)) ++ beBytes 2 (min 64 (beAt b 7 2))

/-- A session as a HELLO with parameters `b` and version `v` leaves it. -/
def agree (x : Session) (v : Nat × Nat) (b : List Byte) : Session :=
  { x with verMaj := v.1, verMin := v.2, retxMax := min 15 (beAt b 4 1), rtoMs := max 1 (beAt b 5 2), window := min 64 (beAt b 7 2) }

/-- A session for the sender of a frame. -/
def newSession (s : State) (p : Nat) (mac ip : List Byte) : Session :=
  { port := p, mac := mac, ip := ip, verMaj := (hcpRange s).1, verMin := (hcpRange s).2.2, retxMax := 15, rtoMs := 1, window := 64,
    rxSeq := 1, lastRx := tb s, policy := ownerPolicy s }

/-- Answers outside a session: a refusal. -/
def refuseHello (s : State) (p : Nat) (mac ip : List Byte) (d : List Byte) (code : Nat) : State :=
  let x := { newSession s p mac ip with rxSeq := mSeq d }
  hcpWire (portCode s p code) x (hcpBytes x (mSession d) (mType d) 1 code 0 [])

/-- The lowest session number that is free, among 8, or 1 in recovery. -/
def freeSession (s : State) : Option Nat := (range' 1 (if recovery s then 1 else 8)).find? (fun k => (session s k).isNone)

/-- Is `k` a session that the sender's HELLO opened and that has taken nothing since? -/
def justOpened (s : State) (p : Nat) (mac ip : List Byte) (k : Nat) : Bool :=
  match session s k with
  | some x => x.port = p && x.mac = mac && x.ip = ip && x.rxSeq = 1
  | none => false

/-- A HELLO of SESSION 0. One that repeats the HELLO of an open session is answered as before. -/
def helloNew (s : State) (p : Nat) (mac ip : List Byte) (d : List Byte) : State :=
  let b := mBody d
  match (range' 1 8).find? (justOpened s p mac ip) with
  | some k => (match session s k with
    | some x => hcpWire s x (SMap.get [] x.stored 1)
    | none => s)
  | none =>
    if !headOk d || mSeq d ≠ 1 || !helloOk b then refuseHello s p mac ip d cBadMessage
    else match pickVersion s (beAt b 0 1, beAt b 1 1) (beAt b 2 1, beAt b 3 1) with
      | none => refuseHello s p mac ip d cVersionUnsupported
      | some v => match freeSession s with
        | none => refuseHello s p mac ip d cSessionLimit
        | some k => hcpAnswer (setSession s k (some (agree (newSession s p mac ip) v b))) k 1 1 0 (helloBytes v b) 1

/-- A HELLO inside a session settles its parameters anew (DESIGN CHOICE, log entry 34). -/
def helloAgain (s : State) (k : Nat) (b : List Byte) : Answer :=
  if !helloOk b then (cBadMessage, [], s)
  else match pickVersion s (beAt b 0 1, beAt b 1 1) (beAt b 2 1, beAt b 3 1), session s k with
    | some v, some x => (0, helloBytes v b, setSession s k (some (agree x v b)))
    | _, _ => (cVersionUnsupported, [], s)

/-! ### READ and WRITE (R377, R494, R511) -/

/-- Does R511 refuse the header of a READ or WRITE? -/
def accessBad (b : List Byte) : Bool :=
  let a := beAt b 0 4
  let w := beAt b 4 1
  let n := beAt b 5 1
  (w ≠ 4 && w ≠ 8) || a % w ≠ 0 || n < 1 || n > 128 || a + w * n > 0x1000000
/-- May recovery reach these bytes: MGT_BOOT and the MGT_FW_ registers to read, MGT_FW_CMD to write (R404)? -/
def recoveryReads (a n : Nat) : Bool := mgtBase + 0x540 ≤ a && a + n ≤ mgtBase + 0x5C0
def recoveryWrites (a n : Nat) : Bool := mgtBase + 0x548 ≤ a && a + n ≤ mgtBase + 0x550

/-- Reads `n` words of `w` bytes from `a` up, each as one access. -/
def readWords (s : State) (q w a : Nat) : Nat → List Byte × State
  | 0 => ([], s)
  | n + 1 =>
    let (v, s) := if w = 8 then read64 s q a else read32 s q a
    let (r, s) := readWords s q w (a + w) n
    (leBytes w v ++ r, s)
/-- Writes words of `w` bytes from `a` up. -/
def writeWords (s : State) (q sess w a : Nat) (data : List Byte) : Nat → State
  | 0 => s
  | n + 1 => writeWords (writeReg s q sess a w (leAt data 0 w)) q sess w (a + w) (data.drop w) n

def hcpRead (s : State) (k : Nat) (b : List Byte) : Answer :=
  let w := beAt b 4 1
  let n := beAt b 5 1
  if b.length ≠ 6 || accessBad b then (cBadMessage, [], s)
  else if recovery s && !recoveryReads (beAt b 0 4) (w * n) then (cNotPermitted, [], s)
  else let (r, s) := readWords s (3 + k) w (beAt b 0 4) n; (0, r, s)

def hcpWrite (s : State) (k : Nat) (x : Session) (b : List Byte) : Answer :=
  let w := beAt b 4 1
  let n := beAt b 5 1
  if accessBad b || b.length ≠ 6 + w * n then (cBadMessage, [], s)
  else if (bit x.policy 1 && !x.authed) || (recovery s && !recoveryWrites (beAt b 0 4) (w * n)) then (cNotPermitted, [], s)
  else (0, [], writeWords s (3 + k) k w (beAt b 0 4) (b.drop 6) n)

/-! ### SUBMIT and CONS (R271, R313, R315) -/

/-- Writes records into consecutive slots of a submission ring. -/
def putSubs (s : State) (r i : Nat) (b : List Byte) : Nat → State
  | 0 => s
  | n + 1 => putSubs (hbmPoke s (ringPart s r) (slotVa s r i) (slice b 0 64)) r (i + 1) (b.drop 64) n

/-- SUBMIT: the records of a message are appended whole. -/
def hcpSubmit (s : State) (b : List Byte) : Answer :=
  let r := beAt b 0 2
  let n := beAt b 2 2
  let stop := SMap.get 0 s.str.stopCode (ringPart s r)
  if b.length < 4 || b.length ≠ 4 + 64 * n then (cBadMessage, [], s)
  else if !codecOn s || unconfigured s then (cNoImage, [], s)
  else if r ≥ 16384 || !ringEnabled s r || ringKind s r ≠ 2 then (cRingInvalid, [], raise (badDoorbell s r) strBase cRingInvalid)
  else if stop ≠ 0 then (stop, [], s)
  else if ringFree s r < n then (cRingFull, [], raise s strBase cRingFull)
  else (0, [], setProd (putSubs s r (ringProd s r) (b.drop 4) n) r ((ringProd s r + n) % 65536))

/-- CONS: acknowledges records of a completion or record ring. A doorbell that is ignored is answered with ring-invalid. -/
def hcpCons (s : State) (b : List Byte) : Answer :=
  let r := beAt b 0 2
  let i := beAt b 2 2
  if b.length ≠ 4 then (cBadMessage, [], s)
  else if !codecOn s || r ≥ 16384 || !ringEnabled s r || ringKind s r < 3 || (i + 65536 - ringCons s r) % 65536 > ringFill s r then
    (cRingInvalid, [], raise (badDoorbell s r) strBase cRingInvalid)
  else (0, [], moveCons s r i)

/-! ### XFER (R241, R268, R381, R405) -/

/-- Bytes that the staging region holds: 8 GiB, less 1 GiB for each stack whose channel was relocated into it. -/
def stagingBytes (s : State) : Nat := 2 ^ 33 - 2 ^ 30 * ((List.range 8).filter (relocated s)).length

/-- TARGET 0. -/
def xferImage (s : State) (off : Nat) (data : List Byte) : Answer :=
  let old := if off = 0 then [] else s.ld.staged
  if loading s then (0x0F40, [], s)
  else if off ≠ 0 && off ≠ s.ld.staged.length then (cXferOrder, [], s)
  else if old.length + data.length > stagingBytes s then (0x0F41, [], s)
  else
    let s := if off = 0 then wrDigest s (mgtBase + 0x428) [] else s
    (0, [], setStaged s (old ++ data))

/-- XFER: permission, then the target. -/
def hcpXfer (s : State) (x : Session) (b : List Byte) : Answer :=
  let t := beAt b 0 1
  if b.length < 9 || b.length > 8201 || t > 1 then (cBadMessage, [], s)
  else if (bit x.policy 2 && !x.authed) || (recovery s && t = 0) then (cNotPermitted, [], s)
  else if t = 0 then (if codecOn s then xferImage s (beAt b 1 8) (b.drop 9) else (cNotPermitted, [], s))
  else let (c, s) := stageFw s (beAt b 1 8) (b.drop 9); (c, [], s)

/-! ### Challenges (R419, R420) -/

/-- CHALLENGE. -/
def hcpChallenge (s : State) (k : Nat) (b : List Byte) : Answer :=
  if b.length ≠ 1 then (cBadMessage, [], s)
  else
    let (r, s) := random s 32
    match session s k with
    | none => (0, r, s)
    | some x => (0, r, setSession s k (some { x with challenge := some (r, tb s) }))

/-- The message that answers a challenge. -/
def challengeText (c : List Byte) (k purpose scope : Nat) : List Byte :=
  c ++ beBytes 4 k ++ beBytes 1 purpose ++ beBytes 1 scope ++ [0#8, 0#8]

/-- The challenge of a session, if it is still good; it is good for one use. -/
def useChallenge (s : State) (k : Nat) : Option (List Byte) × State :=
  match session s k with
  | none => (none, s)
  | some x =>
    (match x.challenge with
      | none => none
      | some (c, t) => if tb s ≤ t + 60000000000 then some c else none,
     setSession s k (some { x with challenge := none }))

/-- Sets a session's authentication and debug scopes. -/
def grant (s : State) (k : Nat) (f : Session → Session) : State :=
  match session s k with
  | none => s
  | some x => setSession s k (some (f x))

/-- Does key `key` sign the answer? -/
def signs (key c : List Byte) (k purpose scope : Nat) (sig : List Byte) : Bool :=
  Config.mlDsaVerify key (challengeText c k purpose scope) (ascii "HAREASOL-AUTH-1") sig

/-- AUTH: an answer that fails is not permitted (DEDUCED from R427, log entry 35). -/
def hcpAuth (s : State) (k : Nat) (b : List Byte) : Answer :=
  if b.length ≠ 3342 then (cBadMessage, [], s)
  else if zeroised s then (cZeroised, [], raise s drkBase cZeroised)
  else
    let (c, s) := useChallenge s k
    match c with
    | none => (cChallengeStale, [], raise s drkBase cChallengeStale)
    | some c => match ownerKey s (slice b 1 32) with
      | none => (cNotPermitted, [], s)
      | some key =>
        if signs key c k 0 0 (slice b 33 3309) then (0, [], grant s k (fun x => { x with authed := true })) else (cNotPermitted, [], s)

/-! ### The attestation report (R421) -/

def cap16 (n : Nat) : Nat := min n 65535
/-- Scopes unlocked now. -/
def scopesNow (s : State) : Nat := (range' 1 8).foldl (fun a k => match session s k with | some x => a ||| x.debug | none => a) 0
/-- Retired HBM channels, and spare lanes in use (log entry 36). -/
def retiredChannels (s : State) : Nat := (List.range 128).countP (fun i => chanRetired s (i / 16) (i % 16))
def spareLanes (s : State) : Nat := s.rep.optical.length + (s.rep.lanes.map (fun x => x.2.length)).sum
def bytesOf (s : State) (a n : Nat) : List Byte := (List.range (n / 4)).flatMap (fun i => leBytes 4 (viewWord s (a + 4 * i)))

/-- Bytes 0–711 of the report. -/
def reportBody (s : State) (nonce : List Byte) : List Byte :=
  let st := mgtBase + 0x488
  let loaded := !unconfigured s
  let head := ascii "HATR" ++ [1#8, 0#8] ++ leBytes 2 4021 ++ leBytes 2 0x4808 ++ [0xA1#8, BitVec.ofNat 8 (rdBits s (mgtBase + 0x540) 0 3)] ++ nonce ++
    leBytes 8 (tb s) ++ leBytes 4 (rd32 s (mgtBase + 0x544)) ++ leBytes 4 (scopesNow s + s.drk.scopes * 8 + s.drk.vendor.toNat * 64)
  let fw := bytesOf s (mgtBase + 0x590) 48 ++ leBytes 4 s.mgt.svn
  let img := (if loaded then bytesOf s (mgtBase + 0x458) 48 ++ leBytes 4 s.img.svn else List.replicate 52 0#8) ++
    leBytes 1 (rdBits s st 16 8) ++ leBytes 1 (rdBits s st 24 8) ++ leBytes 1 (rdBits s (st + 4) 0 8) ++ [0#8]
  let parts := (List.range 8).flatMap (fun p => slice (SMap.get [] s.ld.partials p) 0 48)
  let vers := (List.range 4).flatMap (fun i => slice (bytesOf s (mgtBase + 0x40) 8) (2 * i) 2 ++ slice (bytesOf s (mgtBase + 0x48) 8) (2 * i) 2)
  let rep := jDigest s.flash.journal ++ leBytes 1 (((List.range 8).filter (coreRetired s)).foldl (fun a n => a + 2 ^ n) 0) ++ [0#8] ++
    leBytes 2 (cap16 (retiredChannels s)) ++ leBytes 2 (cap16 (spareLanes s)) ++ leBytes 2 (cap16 (rd64 s (repBase + 0x60)))
  let own := if owned s then sha3_256 (slice s.owner 0 11213) ++ leBytes 4 (leAt s.owner 4 4) else List.replicate 36 0#8
  let ids := sha3_256 (slice (Config.deviceObject 1) 0 1952) ++ sha3_256 (slice (Config.deviceObject 2) 0 1184)
  head ++ fw ++ img ++ parts ++ vers ++ rep ++ own ++ leBytes 1 (rdBits s (drkBase + 0x40) 4 3) ++ List.replicate 3 0#8 ++ ids

/-- The signed report. -/
def reportBytes (s : State) (nonce : List Byte) : List Byte :=
  let b := reportBody s nonce
  b ++ slice (Config.mlDsaSign b (ascii "HAREASOL-ATTEST-1")) 0 3309

/-- REPORT. -/
def hcpReport (s : State) (k : Nat) (b : List Byte) : Answer :=
  if b.length ≠ 33 then (cBadMessage, [], s)
  else if zeroised s then (cZeroised, [], raise s drkBase cZeroised)
  else (0, beBytes 4 4021, grant s k (fun x => { x with report := reportBytes s (b.drop 1) }))

/-- GET: a part of an object. -/
def hcpGet (s : State) (x : Session) (b : List Byte) : Answer :=
  let o := beAt b 1 1
  let part (d : List Byte) : List Byte := (d.drop (beAt b 2 2 * 1024)).take 1024
  if b.length ≠ 4 || o > 3 then (cBadMessage, [], s)
  else if o = 0 then (if x.report = [] then (cChallengeStale, [], raise s drkBase cChallengeStale) else (0, part x.report, s))
  else if o = 3 then (0, part (Config.deviceObject 3), s)
  else if zeroised s then (cZeroised, [], raise s drkBase cZeroised)
  else (0, part (slice (Config.deviceObject o) 0 (if o = 1 then 1952 else 1184)), s)

/-! ### Debug (R427) -/

/-- Who signs an unlock: 1 an owner key, 2 a vendor key. -/
def unlockKey (s : State) (fp : List Byte) : Option (Nat × List Byte) :=
  match ownerKey s fp with
  | some k => some (1, k)
  | none => (Config.vendorKey fp).map (fun k => (2, k))
/-- The scopes that a policy grants to a signer. -/
def scopesFor (policy who : Nat) : Nat :=
  let dp := bits policy 8 8
  if who = 1 then (if dp = 0 then 0 else 3) else if dp = 2 then (if bit policy 0 then 7 else 3) else 0

/-- Ownership reset: unowned, the minima kept, every stream key erased. -/
def resetOwner (s : State) : State :=
  let s := { s.setFlash { s.flash with ownMin := (imgMinSvn s, fwMinSvn s), ownSeq := 0 } with owner := [] }
  eraseKeys (wrBits s (drkBase + 0x40) 2 1 0)

/-- UNLOCK: KEY_FP, SIG, SCOPE. -/
def hcpUnlock (s : State) (k : Nat) (x : Session) (b : List Byte) : Answer :=
  let scope := beAt b 3342 1
  if b.length ≠ 3343 || scope = 0 || scope > 7 then (cBadMessage, [], s)
  else if zeroised s then (cZeroised, [], raise s drkBase cZeroised)
  else
    let (c, s) := useChallenge s k
    match c with
    | none => (cChallengeStale, [], raise s drkBase cChallengeStale)
    | some c => match unlockKey s (slice b 1 32) with
      | none => (cNotPermitted, [], s)
      | some (who, key) =>
        if !signs key c k 1 scope (slice b 33 3309) || scope &&& scopesFor x.policy who ≠ scope then (cNotPermitted, [], s)
        else
          let s := if who = 2 then eraseKeys s else s
          let s := s.setDrk { s.drk with scopes := s.drk.scopes ||| scope, vendor := s.drk.vendor || who = 2 }
          let s := if bit scope 2 then resetOwner s else s
          (0, [], grant s k (fun y => { y with debug := y.debug ||| scope }))

/-- LOCK. -/
def hcpLock (s : State) (k : Nat) (b : List Byte) : Answer :=
  if b.length ≠ 1 then (cBadMessage, [], s) else (0, [], grant s k (fun y => { y with debug := 0 }))

/-- Key of general register `i` in the bank that the processor uses (R391). -/
def xKey (s : State) (p i : Nat) : Nat := if inFast s p then 32 + i else i
/-- A processor register by its number in the debug module: general registers from 0x1000, dpc, and the CSRs of R412; others are
not stated and read as a free value. -/
def debugGet (s : State) (p i : Nat) : Nat × State :=
  let c := cpu s p
  if i = 0x1000 then (0, s)
  else if 0x1000 < i ∧ i < 0x1020 then ((SMap.get 0 c.x (xKey s p (i - 0x1000))).toNat, s)
  else match i with
    | 0x7B1 => (c.pc.toNat, s)
    | 0x7C0 => (c.ftvec.toNat, s)
    | 0x7C1 => (c.fepc.toNat, s)
    | 0x7C2 => (c.fprv + c.fmie.toNat * 8 + (inFast s p).toNat * 256, s)
    | 0x7C3 => (c.fastTraps % 2 ^ 64, s)
    | _ => let (j, s) := s.fresh; (Config.freeNat j % 2 ^ 64, s)
/-- Writes one. -/
def debugPut (s : State) (p i v : Nat) : State :=
  let c := cpu s p
  if 0x1000 < i ∧ i < 0x1020 then setCpu s p { c with x := SMap.set 0 c.x (xKey s p (i - 0x1000)) (BitVec.ofNat 64 v) }
  else match i with
    | 0x7B1 => setCpu s p { c with pc := BitVec.ofNat 64 v }
    | 0x7C0 => setCpu s p { c with ftvec := BitVec.ofNat 64 (v / 4 * 4) }
    | 0x7C1 => setCpu s p { c with fepc := BitVec.ofNat 64 v }
    | 0x7C2 => setCpu s p { c with fprv := bits v 0 2, fmie := bit v 3 }
    | _ => s
/-- One instruction of a halted processor: what it changes in the processor is its software's, so free (log entry 33). -/
def debugStep (s : State) (p : Nat) : State :=
  let (i, s) := s.fresh
  let (j, s) := s.fresh
  let c := cpu s p
  let r := Config.freeNat i % 32
  let c := if r = 0 then c else { c with x := SMap.set 0 c.x (xKey s p r) (BitVec.ofNat 64 (Config.freeNat (i + 2))) }
  setCpu { s with freeIdx := s.freeIdx + 1 } p { c with pc := BitVec.ofNat 64 (Config.freeNat j) }

/-- Processor debug: 2 HALT, 3 RESUME, 4 STEP, 5 register read, 6 register write; all but HALT act on a halted processor. -/
def debugCpu (s : State) (op : Nat) (b : List Byte) : Answer :=
  let p := beAt b 1 1
  let len := if op = 6 then 12 else if op = 5 then 4 else 2
  if b.length ≠ len || p > 3 then (cBadMessage, [], s)
  else if !cpuRuns s p || (op ≠ 2 && !(cpu s p).halted) then (cNotPermitted, [], s)
  else match op with
    | 2 => (0, [], setCpu s p { cpu s p with halted := true })
    | 3 => (0, [], fastTrap (setCpu s p { cpu s p with halted := false }) p)
    | 4 => (0, [], debugStep s p)
    | 5 => let (v, s) := debugGet s p (beAt b 2 2); (0, leBytes 8 v, s)
    | _ => (0, [], debugPut s p (beAt b 2 2) (leAt b 4 8))

/-- Physical bytes of HBM from a byte address (R277), none past its end or in an uncorrectable sector. -/
def physBytes (s : State) (a n : Nat) : Except Abort (List Byte) :=
  if a + n > 65536 * 2 ^ 21 then .error ⟨cTranslation, a⟩
  else if (List.range n).any (fun i => SMap.get false s.mem.badSector ((a + i) / 32)) then .error ⟨cHbmEcc, a⟩
  else .ok ((List.range n).map (fun i => SMap.get 0 s.mem.hbm (a + i)))
/-- Bytes of a core's tile store or of the shared store from a store address. -/
def storeBytes (s : State) (n a len : Nat) : Except Abort (List Byte) :=
  let ks := (List.range len).map (fun i => storeKey s n (a + i))
  if ks.any (fun k => k.isNone) then .error ⟨cAddressRange, a⟩
  else if ks.any (fun k => SMap.get false s.mem.badWord (k.getD 0 / 8)) then .error ⟨cStoreEcc, a⟩
  else .ok (ks.map (fun k => SMap.get 0 s.mem.store (k.getD 0)))

/-- Memory read, 7: a space (0–7 the store addresses of a core, 8 physical HBM), an address and a length of at most 1,024. -/
def debugMem (s : State) (b : List Byte) : Answer :=
  let n := beAt b 1 1
  let len := beAt b 10 2
  if b.length ≠ 12 || n > 8 || len > 1024 then (cBadMessage, [], s)
  else match (if n = 8 then physBytes s (beAt b 2 8) len else storeBytes s n (beAt b 2 8) len) with
    | .ok bs => (0, bs, s)
    | .error e => (e.code, [], s)

/-- A DEBUG message other than UNLOCK and LOCK, within the unlocked scopes (layout PRESUMED, log entry 33). -/
def hcpDebug (s : State) (x : Session) (b : List Byte) : Answer :=
  let op := beAt b 0 1
  if op > 7 then (cBadMessage, [], s)
  else if op = 7 then (if bit x.debug 1 && codecOn s then debugMem s b else (cNotPermitted, [], s))
  else if bit x.debug 0 then debugCpu s op b
  else (cNotPermitted, [], s)

/-! ### Execution and order (R379, R383, R404) -/

/-- Executes a request of session `k`. -/
def hcpExec (s : State) (k : Nat) (x : Session) (d : List Byte) : Answer :=
  let b := mBody d
  let verOk := beAt d 2 1 = x.verMaj && beAt d 3 1 = x.verMin
  if mKind d = 0 || (mType d ≠ 1 && !verOk) then (cBadMessage, [], s)
  else if recovery s && [6, 7, 14, 15, 16].contains (mKind d) then (cNotPermitted, [], s)
  else match mKind d with
    | 1 => helloAgain s k b
    | 2 => if b = [] then (0, [], s) else (cBadMessage, [], s)
    | 4 => hcpRead s k b
    | 5 => hcpWrite s k x b
    | 6 => hcpSubmit s b
    | 7 => hcpCons s b
    | 10 => hcpChallenge s k b
    | 11 => hcpAuth s k b
    | 12 => hcpReport s k b
    | 13 => hcpGet s x b
    | 14 => hcpUnlock s k x b
    | 15 => hcpLock s k b
    | 16 => hcpDebug s x b
    | _ => hcpXfer s x b

/-- Sends what waits while the window has room. -/
def drainQueue (s : State) (k : Nat) : Nat → State
  | 0 => s
  | n + 1 =>
    match session s k with
    | none => s
    | some x => match x.queue with
      | [] => s
      | (typ, flags, status, pl, req) :: q =>
        if x.unacked.length < x.window then
          drainQueue (hcpAnswer (setSession s k (some { x with queue := q })) k typ flags status pl req) k n
        else s

/-- Takes an acknowledgement: what it covers is done with. -/
def ackMessages (s : State) (k ack : Nat) : State :=
  match session s k with
  | none => s
  | some x => drainQueue (setSession s k (some { x with unacked := x.unacked.filter (fun m => ack < m.seq) })) k x.queue.length

/-- The message that is next in order: a request is executed and answered, a response of the host is taken. -/
def hcpNext (s : State) (k : Nat) (x : Session) (d : List Byte) : State :=
  let s := setSession s k (some { x with rxSeq := x.rxSeq + 1, ackDue := true })
  if headOk d && bit (mFlags d) 0 then s
  else
    let (c, r, s) := hcpExec s k x d
    let s := hcpAnswer (portCode s x.port c) k (mType d) 1 c r (x.rxSeq + 1)
    if mKind d = 2 && c = 0 then closeSession s k else s

/-- Executes what arrived ahead of order and is next now. -/
def drainEarly (s : State) (k : Nat) : Nat → State
  | 0 => s
  | n + 1 =>
    match session s k with
    | none => s
    | some x => match SMap.get [] x.early (x.rxSeq + 1) with
      | [] => s
      | d => drainEarly (hcpNext s k { x with early := SMap.set [] x.early (x.rxSeq + 1) [] } d) k n

/-- A message of an open session (R379): each SEQ is executed once, in order; a repeated request is answered as before. -/
def hcpMessage (s : State) (k : Nat) (x : Session) (d : List Byte) : State :=
  let s := setSession s k (some { x with lastRx := tb s })
  let s := if headOk d && bit (mFlags d) 1 then ackMessages s k (mAck d) else s
  match session s k with
  | none => s
  | some x =>
    if headOk d && mType d = 3 then s
    else if mSeq d ≤ x.rxSeq then
      (match SMap.get [] x.stored (mSeq d) with
       | [] => setSession s k (some { x with ackDue := true })
       | r => hcpWire s x r)
    else if mSeq d = x.rxSeq + 1 then drainEarly (hcpNext s k x d) k 64
    else if mSeq d ≤ x.rxSeq + x.window then
      setSession s k (some { x with early := SMap.set [] x.early (mSeq d) d, ackDue := true })
    else s

/-- A frame that carries HCP on a host port, for the row numbered `row`. A frame that is no HCP datagram of the port is discarded
(R361), as is a message of no open session (log entry 34); a message that another row names changes nothing here. -/
def hcpFrame (s : State) (row p : Nat) (frame : List Byte) : State :=
  let f := parseFrame frame
  if !portUp s p then s
  else if p < 8 then rxDrop s p
  else match packetFor s p f with
    | none => rxDrop s p
    | some i => match udpData i (hcpUdp s) with
      | none => rxDrop s p
      | some d =>
        if mKind d ≠ row && mKind d ≠ 0 then s
        else match session s (mSession d) with
          | some x => hcpMessage s (mSession d) x d
          | none =>
            if headOk d && mType d = 1 && mSession d = 0 then helloNew s p f.smac i.src d
            else if mSession d = 0 then refuseHello s p f.smac i.src d cBadMessage
            else rxDrop s p

/-- HELLO (R378). -/
def execHello (p : Nat) (frame : List Byte) (s : State) : Out := .next (hcpFrame s 1 p frame)
/-- CLOSE (R377). -/
def execClose (p : Nat) (frame : List Byte) (s : State) : Out := .next (hcpFrame s 2 p frame)
/-- ACK (R379): also a response of the host. -/
def execAck (p : Nat) (frame : List Byte) (s : State) : Out := .next (hcpFrame s 3 p frame)
/-- READ (R377, R511). -/
def execRead (p : Nat) (frame : List Byte) (s : State) : Out := .next (hcpFrame s 4 p frame)
/-- WRITE (R377, R418, R511). -/
def execWrite (p : Nat) (frame : List Byte) (s : State) : Out := .next (hcpFrame s 5 p frame)
/-- SUBMIT (R313). -/
def execSubmit (p : Nat) (frame : List Byte) (s : State) : Out := .next (hcpFrame s 6 p frame)
/-- CONS (R315). -/
def execCons (p : Nat) (frame : List Byte) (s : State) : Out := .next (hcpFrame s 7 p frame)
/-- XFER_IMAGE (R381). -/
def execXferImage (p : Nat) (frame : List Byte) (s : State) : Out := .next (hcpFrame s 8 p frame)
/-- XFER_FIRMWARE (R405). -/
def execXferFirmware (p : Nat) (frame : List Byte) (s : State) : Out := .next (hcpFrame s 9 p frame)
/-- CHALLENGE (R419). -/
def execChallenge (p : Nat) (frame : List Byte) (s : State) : Out := .next (hcpFrame s 10 p frame)
/-- AUTH (R418, R419). -/
def execAuth (p : Nat) (frame : List Byte) (s : State) : Out := .next (hcpFrame s 11 p frame)
/-- REPORT (R420, R421). -/
def execReport (p : Nat) (frame : List Byte) (s : State) : Out := .next (hcpFrame s 12 p frame)
/-- GET (R420). -/
def execGetPart (p : Nat) (frame : List Byte) (s : State) : Out := .next (hcpFrame s 13 p frame)
/-- UNLOCK (R427). -/
def execUnlock (p : Nat) (frame : List Byte) (s : State) : Out := .next (hcpFrame s 14 p frame)
/-- LOCK (R427). -/
def execLockDebug (p : Nat) (frame : List Byte) (s : State) : Out := .next (hcpFrame s 15 p frame)
/-- DEBUG_ACCESS (R427). -/
def execDebugAccess (p : Nat) (frame : List Byte) (s : State) : Out := .next (hcpFrame s 16 p frame)

/-! ### Timers (R378, R379) -/

/-- HCP_RETRANSMIT (R379): messages that RTO_MS has passed for are sent again; after RETX_MAX times the session closes. -/
def execHcpRetransmit (k : Nat) (s : State) : Out := .next <|
  match session s k with
  | none => s
  | some x =>
    let due (m : HMsg) : Bool := decide (m.tb + x.rtoMs * 1000000 ≤ tb s)
    if !mgmtOn s then s
    else if x.unacked.any (fun m => due m && decide (x.retxMax ≤ m.tries)) then closeSession s k
    else
      let x' := { x with unacked := x.unacked.map (fun m => if due m then { m with tb := tb s, tries := m.tries + 1 } else m) }
      (x.unacked.filter due).foldl (fun s m => hcpWire s x m.bytes) (setSession s k (some x'))

/-- HCP_ACK_TIMER (R379): an ACK message, when one is due. -/
def execHcpAckTimer (k : Nat) (s : State) : Out := .next <|
  match session s k with
  | none => s
  | some x =>
    if !mgmtOn s || !x.ackDue then s
    else hcpWire (setSession s k (some { x with ackDue := false })) x (hcpBytes x k 3 0 0 0 [])

/-- SESSION_IDLE (R378): 60 s without a receipt. -/
def execSessionIdle (k : Nat) (s : State) : Out := .next <|
  match session s k with
  | none => s
  | some x => if mgmtOn s && decide (x.lastRx + 60000000000 ≤ tb s) then closeSession s k else s

end Sys2Proof.Machine
end

