-- ==== Sys2Proof/Machine/Motion.lean ====
section
/-! DEFINITION. The motion engine: MOT_SEARCH, the window cache, and MOT_COMPENSATE (R167, R172 to R182, R195, R196). -/

namespace Sys2Proof.Machine

/-! ### Fields (R182) -/

def oKind (w : W128) : Nat := bits w.toNat 8 2
def oCur (w : W128) : Nat := bits w.toNat 10 16
def oRef (w : W128) : Nat := bits w.toNat 26 16
def oMv (w : W128) : Nat := bits w.toNat 42 16
def oOut (w : W128) : Nat := bits w.toNat 58 16
def oWin (w : W128) : Nat := bits w.toNat 74 16
def oBrow0 (w : W128) : Nat := bits w.toNat 90 9
def oBrows (w : W128) : Nat := bits w.toNat 99 9 + 1
def oMvw (w : W128) : Nat := bits w.toNat 108 8
def oSplitPen (w : W128) : Nat := bits w.toNat 116 12

/-- A vector in quarter samples. -/
abbrev MVec := Int × Int

/-- A motion abort: MOT_FAULT records it (R195, R196, R392). -/
def motFault (s : State) (n c brow : Nat) (a : Abort) : State :=
  let s := wr32 s (coreBase n 4 + 0xD0) (a.code + brow % 512 * 2 ^ 16 + c * 2 ^ 25 + 2 ^ 31)
  let s := arrive (raise s (coreBase n 4) a.code) (16 + 16 * n + 4) (a.code + c * 2 ^ 16)
  unitAbort s n c a

/-! ### Planes (R167, R172; log entry 18) -/

/-- Clamps a coordinate into `[0, n)`. -/
def clampTo (n : Nat) (i : Int) : Nat := if i < 0 then 0 else min i.toNat (n - 1)

/-- A plane: byte address of its sample (0, 0), row pitch, sample pitch, rows of its ring (0 resident), height and width. -/
structure Plane where
  base : Nat
  rowPitch : Nat
  pixPitch : Nat
  ring : Nat
  h : Nat
  w : Nat
  deriving DecidableEq, Repr

/-- The plane that a descriptor describes: only its BASE, pitch and size fields are used (R182). -/
def planeOf (d : Nat) : Plane := ⟨dBase d, dRowPitch d, dPixPitch d, 0, dInH d, dInW d⟩
/-- Address of a sample. -/
def Plane.addr (p : Plane) (y x : Nat) : Nat := p.base + (if p.ring = 0 then y else y % p.ring) * p.rowPitch + x * p.pixPitch
/-- Rows that a plane's store holds. -/
def Plane.slots (p : Plane) : Nat := if p.ring = 0 then p.h else p.ring

/-- Planes that are compensated, each with its cell size; the planes of a picture lie one after another in the order of R231. -/
def planesOf (fmt d : Nat) : List (Plane × Nat) :=
  let y := planeOf d
  match fmt with
  | 0 =>
    let u : Plane := { y with base := y.base + y.slots * y.rowPitch, rowPitch := y.rowPitch / 2, ring := y.ring / 2, h := y.h / 2, w := y.w / 2 }
    [(y, 8), (u, 4), ({ u with base := u.base + u.slots * u.rowPitch }, 4)]
  | 3 =>
    (List.range 4).map (fun q => ({ y with base := y.base + q / 2 * y.rowPitch + q % 2 * y.pixPitch, rowPitch := 2 * y.rowPitch,
                                           pixPitch := 2 * y.pixPitch, ring := y.ring / 2, h := y.h / 2, w := y.w / 2 }, 8))
  | _ => (List.range 3).map (fun q => ({ y with base := y.base + q * y.slots * y.rowPitch }, 8))

/-- Rows and columns of the motion plane of a picture that a descriptor describes (R172). -/
def motionSize (fmt d : Nat) : Nat × Nat := match (planesOf fmt d).head? with | some (p, _) => (p.h, p.w) | none => (0, 0)

/-- Sample of a plane with clamped coordinates. -/
def planeAt (s : State) (n : Nat) (p : Plane) (x y : Int) : Except Abort Int := do
  let bs ← storeRead s n (p.addr (clampTo p.h y) (clampTo p.w x)) 2
  return (leNat bs : Nat)

/-- Sample of the motion plane of a picture: Y, `(R + 2G + B + 2) >> 2`, or the rounded mean of the two greens of a 2 × 2 cell, which
lie on its diagonal under GRBG and GBRG and off it under RGGB and BGGR (R172, R219). -/
def motionSample (s : State) (n fmt cfa d : Nat) (x y : Int) : Except Abort Int := do
  let vs ← (planesOf fmt d).mapM (fun p => planeAt s n p.1 x y)
  let v (i : Nat) : Int := vs.getD i 0
  return match fmt with
    | 0 => v 0
    | 3 => if cfa = 0 || cfa = 3 then (v 1 + v 2 + 1) / 2 else (v 0 + v 3 + 1) / 2
    | _ => (v 0 + 2 * v 1 + v 2 + 2) / 4

/-! ### Interpolation (R174) -/

/-- Filter taps of a fraction at positions −3 to +4. -/
def tap (f : Nat) : List Int :=
  match f with
  | 0 => [0, 0, 0, 64, 0, 0, 0, 0]
  | 1 => [-1, 3, -9, 59, 16, -5, 2, -1]
  | 2 => [-1, 5, -12, 40, 40, -12, 5, -1]
  | _ => [-1, 2, -5, 16, 59, -9, 3, -1]

/-- A sample at quarter position `(4x + …)` of a plane: `qx`, `qy` are in quarter samples. -/
def interp (sm : Int → Int → Except Abort Int) (d : Nat) (qx qy : Int) : Except Abort Int := do
  let x := qx / 4
  let y := qy / 4
  let tx := tap (qx % 4).toNat
  let ty := tap (qy % 4).toNat
  let rows ← (List.range 8).mapM (fun (j : Nat) => do
    let hs ← (List.range 8).mapM (fun (i : Nat) => do
      let t := tx.getD i 0
      if t = 0 then return 0 else return t * (← sm (x - 3 + (i : Int)) (y - 3 + (j : Int))))
    return ty.getD j 0 * hs.foldl (· + ·) 0)
  let p := rshiftRne (rows.foldl (· + ·) 0) 12
  return (if p < 0 then 0 else min p ((2 ^ d : Nat) - 1))

/-! ### Vector field and predictors (R178, R180) -/

/-- Address of the vector-field entry of a block. -/
def mvAddr (d by_ bx : Nat) : Nat := dBase d + by_ * dRowPitch d + bx * dPixPitch d

/-- Vector of cell `(x, y)` from the vector field. -/
def cellVec (s : State) (n d x y : Nat) : Except Abort MVec := do
  let bs ← storeRead s n (mvAddr d (y / 2) (x / 2) + 4 * (y % 2 * 2 + x % 2)) 4
  return (toSigned 16 (leAt bs 0 2), toSigned 16 (leAt bs 2 2))

/-- Middle of three. -/
def median (a b c : Int) : Int := max (min a b) (min (max a b) c)

/-- The predictor of a cell (R178): `cw` is the width of the grid in cells, `done` the vectors of earlier cells of the same
block. -/
def predictor (s : State) (n d cw x y : Nat) (done : List MVec) : Except Abort MVec := do
  let coded (cx cy : Int) : Bool :=
    decide (0 ≤ cx ∧ cx < cw ∧ 0 ≤ cy) &&
      (decide (cy / 2 < y / 2) || (decide (cy / 2 = y / 2) && (decide (cx / 2 < x / 2) ||
        (decide (cx / 2 = x / 2) && decide (cy % 2 * 2 + cx % 2 < y % 2 * 2 + x % 2)))))
  let get (cx cy : Int) : Except Abort MVec :=
    if !coded cx cy then .ok (0, 0)
    else if cx / 2 = x / 2 ∧ cy / 2 = y / 2 then .ok (done.getD (cy % 2 * 2 + cx % 2).toNat (0, 0))
    else cellVec s n d cx.toNat cy.toNat
  let a ← get (x - 1) y
  let b ← get x (y - 1)
  let c ← if coded (x + 1) (y - 1) then get (x + 1) (y - 1) else get (x - 1) (y - 1)
  return (median a.1 b.1 c.1, median a.2 b.2 c.2)

/-! ### Search (R175, R176) -/

/-- `b(d)` of R176. -/
def mvBits (d : Int) : Nat := 1 + 2 * bitlen d.natAbs

/-- A candidate with its score. -/
structure Cand where
  v : MVec
  j : Int
  deriving DecidableEq, Repr

/-- Does `a` win over `b`, with their distances to the predictor `p` (R176)? -/
def Cand.wins (p : MVec) (a b : Cand) : Bool :=
  let m (c : Cand) : Nat := (c.v.1 - p.1).natAbs + (c.v.2 - p.2).natAbs
  decide (a.j < b.j) || (a.j = b.j && (decide (m a < m b) || (m a = m b && (decide (a.v.2 < b.v.2) || (a.v.2 = b.v.2 && decide (a.v.1 < b.v.1))))))

/-- The best of the candidates. -/
def best (p : MVec) : List Cand → Option Cand
  | [] => none
  | c :: cs => match best p cs with
    | none => some c
    | some b => if b.wins p c then some b else some c

/-- What a search works on: current samples, reference samples, bit depth, cost weight. -/
structure Srch where
  cur : Int → Int → Except Abort Int
  ref : Int → Int → Except Abort Int
  depth : Nat
  mvw : Nat

/-- Cost J of a vector in quarter samples for the square of side `sz` at `(x0, y0)`. -/
def Srch.cost (q : Srch) (x0 y0 sz : Nat) (p v : MVec) : Except Abort Cand := do
  let ds ← (List.range (sz * sz)).mapM (fun i => do
    let x : Int := (x0 + i % sz : Nat)
    let y : Int := (y0 + i / sz : Nat)
    let a ← q.cur x y
    let b ← interp q.ref q.depth (4 * x + v.1) (4 * y + v.2)
    return ((a - b).natAbs : Int))
  return ⟨v, ds.foldl (· + ·) 0 + rshiftRne (q.mvw * (mvBits (v.1 - p.1) + mvBits (v.2 - p.2)) : Nat) 2⟩

/-- Mean of a 4 × 4 square of samples. -/
def mean4 (f : Int → Int → Except Abort Int) (x y : Int) : Except Abort Int := do
  let vs ← (List.range 16).mapM (fun i => f (x + (i % 4 : Nat)) (y + (i / 4 : Nat)))
  return rshiftRne (vs.foldl (· + ·) 0) 4

/-- The three coarse displacements with the lowest scores (step 1). -/
def Srch.coarse (q : Srch) (x0 y0 : Nat) (p : MVec) : Except Abort (List MVec) := do
  let cur ← (List.range 16).mapM (fun k => mean4 q.cur (x0 + k % 4 * 4 : Nat) (y0 + k / 4 * 4 : Nat))
  let cands ← (List.range (65 * 33)).mapM (fun i => do
    let dx : Int := 4 * ((i % 65 : Nat) - 32)
    let dy : Int := 4 * ((i / 65 : Nat) - 16)
    let ds ← (List.range 16).mapM (fun k => do
      let r ← mean4 q.ref ((x0 + k % 4 * 4 : Nat) + dx) ((y0 + k / 4 * 4 : Nat) + dy)
      return ((cur.getD k 0 - r).natAbs : Int))
    return (⟨(4 * dx, 4 * dy), ds.foldl (· + ·) 0⟩ : Cand))
  let take (cs : List Cand) : List Cand × List Cand := match best p cs with
    | none => ([], cs)
    | some b => ([b], cs.erase b)
  let (a, r) := take cands
  let (b, r) := take r
  let (c, _) := take r
  return (a ++ b ++ c).map (fun x => (x.v.1 / 4, x.v.2 / 4))

/-- Steps 2 and 3 around full-pel centres within `±w`: the full-pel vector and the refined candidate. -/
def Srch.refine (q : Srch) (x0 y0 sz : Nat) (p : MVec) (centres : List MVec) (w : Nat) : Except Abort (MVec × Cand) := do
  let side := 2 * w + 1
  let full := (centres.flatMap (fun c => (List.range (side * side)).map (fun i =>
    (c.1 + (i % side : Nat) - (w : Int), c.2 + (i / side : Nat) - (w : Int))))).filter (fun v => v.1.natAbs ≤ 128 && v.2.natAbs ≤ 64)
  let cs ← full.eraseDups.mapM (fun v => q.cost x0 y0 sz p (4 * v.1, 4 * v.2))
  let around (step : Int) (c : Cand) : Except Abort Cand := do
    let ns ← ((List.range 9).filter (· ≠ 4)).mapM (fun i =>
      q.cost x0 y0 sz p (c.v.1 + step * ((i % 3 : Nat) - 1), c.v.2 + step * ((i / 3 : Nat) - 1)))
    return (best p (c :: ns)).getD c
  let f := (best p cs).getD ⟨(0, 0), 0⟩
  let h ← around 2 f
  let r ← around 1 h
  return ((f.v.1 / 4, f.v.2 / 4), r)

/-- Vectors, split flag and cost of the block at block column `bx`, row `by_`. -/
def Srch.block (q : Srch) (s : State) (n mvd cw by_ bx splitPen : Nat) : Except Abort (List MVec × Bool × Int) := do
  let x0 := 16 * bx
  let y0 := 16 * by_
  let p ← predictor s n mvd cw (2 * bx) (2 * by_) []
  let kept ← q.coarse x0 y0 p
  let centres := (kept ++ [(rshiftRne p.1 2, rshiftRne p.2 2), (0, 0)]).eraseDups
  let (fp, whole) ← q.refine x0 y0 16 p centres 4
  let cells ← (List.range 4).foldlM (fun (acc : List Cand) k => do
    let pc ← predictor s n mvd cw (2 * bx + k % 2) (2 * by_ + k / 2) (acc.map (·.v))
    let (_, c) ← q.refine (x0 + 8 * (k % 2)) (y0 + 8 * (k / 2)) 8 pc [fp] 2
    return acc ++ [c]) []
  let sum : Int := (cells.map (·.j)).foldl (· + ·) 0 + (splitPen : Int)
  if sum < whole.j then return (cells.map (·.v), true, sum) else return (List.replicate 4 whole.v, false, whole.j)

/-- Sum of absolute differences between adjacent samples of a block (R180). -/
def blockAct (cur : Int → Int → Except Abort Int) (bx by_ : Nat) : Except Abort Nat := do
  let vs ← (List.range 256).mapM (fun i => do
    let x : Int := (16 * bx + i % 16 : Nat)
    let y : Int := (16 * by_ + i / 16 : Nat)
    let a ← cur x y
    let h : Int ← if i % 16 < 15 then cur (x + 1) y else .ok a
    let v : Int ← if i / 16 < 15 then cur x (y + 1) else .ok a
    return ((a - h).natAbs + (a - v).natAbs : Nat))
  return vs.foldl (· + ·) 0

/-- The 32 bytes of a vector-field entry (R180). -/
def mvEntry (vs : List MVec) (split : Bool) (cost act : Nat) : List Byte :=
  (vs.flatMap (fun v => leBytes 2 (ofSigned 16 v.1) ++ leBytes 2 (ofSigned 16 v.2))) ++ leBytes 1 split.toNat ++ leBytes 3 0 ++
    leBytes 4 cost ++ leBytes 4 act ++ leBytes 4 0

/-! ### The window (R177) -/

/-- First and last reference rows that block row `j` reads, clamped into the picture. -/
def winFirst (j : Nat) : Nat := 16 * j - 68
def winLast (h j : Nat) : Nat := min (16 * j + 83) (h - 1)
/-- The window ring as a plane of 176 row slots. -/
def winPlane (wd h w : Nat) : Plane := ⟨dBase wd, dRowPitch wd, dPixPitch wd, 176, h, w⟩

/-- An uncorrectable error in the window ring aborts with motion-ECC (R195). -/
def asMotionEcc (a : Abort) : Abort := if a.code = cStoreEcc then ⟨cMotionEcc, a.addr⟩ else a

/-- May row `r` of the reference be fetched: has the print ready counter of the core that writes it, if another does, reached it
(R177)? Reading the counter may meet an uncorrectable error (R276). -/
def rowReady (s : State) (n c r : Nat) : Except Abort Bool :=
  match (taskOf s n c).bind (fun t => Config.printCounter n t.sched t.frame r) with
  | none => .ok true
  | some (a, v) => (storeRead s n a 4).map (fun b => reached (leNat b) v)

/-- May all of these rows be fetched? -/
def rowsReady (s : State) (n c : Nat) (rs : List Nat) : Except Abort Bool := (rs.mapM (rowReady s n c)).map (·.all id)

/-- What a fetch works on: picture format, CFA, reference descriptor, motion-plane rows and columns, the ring. -/
structure Fetch where
  fmt : Nat
  cfa : Nat
  rd : Nat
  h : Nat
  w : Nat
  wp : Plane

/-- Rows `lo` to `hi` of the window that MOT_WIN does not show as present. -/
def missingRows (s : State) (n lo hi : Nat) : List Nat :=
  let reg := rd32 s (coreBase n 4 + 0x44)
  (range' lo (hi + 1 - lo)).filter (fun r => !(bits reg 0 13 ≤ r && r < bits reg 0 13 + bits reg 16 8))

/-- Fetches rows into the ring and shows what it holds then: at most 176 rows, the last of them `hi`. -/
def fetchRows (s : State) (n : Nat) (f : Fetch) (lo hi : Nat) : Except Abort State := do
  let reg := rd32 s (coreBase n 4 + 0x44)
  let s ← (missingRows s n lo hi).foldlM (fun s (r : Nat) => (List.range f.w).foldlM (fun s (x : Nat) => do
    let v ← motionSample s n f.fmt f.cfa f.rd x r
    (storeWrite s n (f.wp.addr r x) (leBytes 2 v.toNat)).mapError asMotionEcc) s) s
  let top := if bits reg 16 8 = 0 then lo else max (bits reg 0 13) (hi + 1 - 176)
  return wr32 s (coreBase n 4 + 0x44) (top % 2 ^ 13 + (hi + 1 - top) % 256 * 2 ^ 16)

/-- MVW and SPLIT_PEN of a search: those of the model's TUNING at the first quantiser index of the frame that the task encodes, else those of
the word (R182, R261; DEDUCED, log entry 121). -/
def searchCosts (s : State) (n c : Nat) (w : W128) : Nat × Nat :=
  match taskOf s n c with
  | none => (oMvw w, oSplitPen w)
  | some t =>
    let b := (SMap.get {} s.img.models (eMslot t.snap)).tuning
    if b = [] || eDecode t.snap then (oMvw w, oSplitPen w) else (leAt b (4 * t.qiStart) 1, leAt b (4 * t.qiStart + 2) 2)

/-- Searches block row `by_` (E1); the rows that the next block row adds are fetched meanwhile, once they may be (R177). -/
def searchRow (s : State) (n c fmt cfa : Nat) (w : W128) (by_ : Nat) : Except Abort State := do
  let cd ← descOf s n (oCur w)
  let rd ← descOf s n (oRef w)
  let md ← descOf s n (oMv w)
  let wd ← descOf s n (oWin w)
  let (h, pw) := motionSize fmt rd
  let wp := winPlane wd h pw
  let f : Fetch := ⟨fmt, cfa, rd, h, pw, wp⟩
  let s ← fetchRows s n f (winFirst by_) (winLast h by_)
  let cols := ceilDiv (dInW cd) 16
  let (mvw, pen) := searchCosts s n c w
  let s ← (List.range cols).foldlM (fun s bx => do
    let q : Srch := { cur := planeAt s n (planeOf cd), ref := fun x y => (planeAt s n wp x y).mapError asMotionEcc,
                      depth := fmtDepth fmt, mvw }
    let (vs, split, cost) ← q.block s n md (2 * cols) by_ bx pen
    let act ← blockAct q.cur bx by_
    storeWrite s n (mvAddr md by_ bx) (mvEntry vs split cost.toNat act)) s
  let hi := min (16 * by_ + 99) (h - 1)
  if ← rowsReady s n c (missingRows s n (winFirst by_) hi) then fetchRows s n f (winFirst by_) hi else return s

/-- Keeps the vector-field entries of a block row for the statistics record, without COST and ACT in a decoder (R193). -/
def noteVecs (s : State) (n c mvDesc by_ cols : Nat) (dec : Bool) : Except Abort State :=
  if (taskOf s n c).all (fun t => eStats t.snap = 0) then .ok s
  else do
    let md ← descOf s n mvDesc
    let es ← (List.range cols).mapM (fun bx => storeRead s n (mvAddr md by_ bx) 32)
    let ent (b : List Byte) : List Byte := if dec then b.take 20 ++ List.replicate 12 0#8 else b
    return updTask s n c (fun t => { t with vecs := es.zipIdx.foldl (fun m x => SMap.set [] m (by_ * 512 + x.2) (ent x.1)) t.vecs })

/-- Picture format of the task on a context. -/
def ctxFormat (s : State) (n c : Nat) : Nat := match taskOf s n c with | some t => eFormat t.snap | none => 0

/-- MOT_STATUS. -/
def setMotStatus (s : State) (n c kind brow : Nat) (busy : Bool) : State :=
  wr32 s (coreBase n 4 + 0x40) (busy.toNat + kind * 2 + c * 4 + brow * 2 ^ 16)

/-- Issues a MOT of KIND `k` into the motion engine's queue, or begins it (R65). -/
def motIssue (n c : Nat) (w : W128) (k : Nat) (run : State → State) (s : State) : Out :=
  .next (if oKind w ≠ k then s else issue s n c w 0x0B 6 0 (!unitBusy s n 6) true run)

/-- MOT_SEARCH (R175): starts a search job; its window is empty. -/
def execMotSearch (n c : Nat) (w : W128) (s : State) : Out :=
  motIssue n c w 0 (fun s =>
    let s := wr32 s (coreBase n 4 + 0x44) 0
    setMotStatus (setCore s n { core s n with motJob := some { ctx := c, w := w } }) n c 0 (oBrow0 w) true) s

/-- CFA of the task's stream. -/
def ctxCfa (s : State) (n c : Nat) : Nat := match taskOf s n c with | some t => Config.cfa t.stream % 4 | none => 0

/-- May every row that the window of block row `j` lacks be fetched? -/
def windowReady (s : State) (n c fmt : Nat) (w : W128) (j : Nat) : Except Abort Bool := do
  let rd ← descOf s n (oRef w)
  rowsReady s n c (missingRows s n (winFirst j) (winLast (motionSize fmt rd).1 j))

/-- A block row of a search whose window rows may be fetched: it is searched and its entries are kept. -/
def blockRow (s : State) (n c fmt cfa : Nat) (w : W128) (brow : Nat) : Except Abort (State × Nat) := do
  let cd ← descOf s n (oCur w)
  let s ← searchRow s n c fmt cfa w brow
  let s ← noteVecs s n c (oMv w) brow (ceilDiv (dInW cd) 16) false
  return (s, ceilDiv (dInW cd) 16)

/-- BLOCK_ROW_START (R177): the next block row of the search job starts once its window rows may be fetched; the last one ends the
job. -/
def execBlockRowStart (n : Nat) (s : State) : Out := .next <|
  match (core s n).motJob with
  | none => s
  | some j =>
    if !codecOn s || frozen s (partOf s n) then s
    else
      let brow := oBrow0 j.w + j.brow
      let fmt := ctxFormat s n j.ctx
      match windowReady s n j.ctx fmt j.w brow with
      | .error a => motFault s n j.ctx brow a
      | .ok false => s
      | .ok true =>
      match blockRow s n j.ctx fmt (ctxCfa s n j.ctx) j.w brow with
      | .error a => motFault s n j.ctx brow a
      | .ok (s', cols) =>
        let s' := count64 s' (coreBase n 4 + 0xA0) cols
        if j.brow + 1 = oBrows j.w then setMotStatus (setCore s' n { core s' n with motJob := none }) n j.ctx 0 brow false
        else setMotStatus (setCore s' n { core s' n with motJob := some { j with brow := j.brow + 1 } }) n j.ctx 0 (brow + 1) true

/-! ### Overlapped-block compensation (R181) -/

/-- Weight at distance `i` from an edge, for cells of `sz` samples. -/
def obmcW (sz i : Nat) : Int := if sz = 8 then [16, 10, 6, 2].getD i 0 else [16, 6].getD i 0

/-- Predicted sample `(i, j)` (row, column) of cell `(cx, cy)` of a plane. -/
def obmcSample (s : State) (n d mvd cw ch : Nat) (p : Plane) (sz cx cy i j : Nat) : Except Abort Int := do
  let x : Int := (cx * sz + j : Nat)
  let y : Int := (cy * sz + i : Nat)
  let at_ (kx ky : Nat) : Except Abort Int := do
    let v ← cellVec s n mvd kx ky
    let v : MVec := if sz = 4 then (rshiftRne v.1 1, rshiftRne v.2 1) else v
    interp (planeAt s n p) d (4 * x + v.1) (4 * y + v.2)
  let half := sz / 2
  let ns : List (Bool × Nat × Nat × Int) := [
    (decide (i < half ∧ 0 < cy), cx, cy - 1, obmcW sz i), (decide (half ≤ i ∧ cy + 1 < ch), cx, cy + 1, obmcW sz (sz - 1 - i)),
    (decide (j < half ∧ 0 < cx), cx - 1, cy, obmcW sz j), (decide (half ≤ j ∧ cx + 1 < cw), cx + 1, cy, obmcW sz (sz - 1 - j))]
  let own ← at_ cx cy
  let parts ← (ns.filter (·.1)).mapM (fun (_, kx, ky, w) => do return (w, w * (← at_ kx ky)))
  let wOwn := 64 - (parts.map (·.1)).foldl (· + ·) 0
  return rshiftRne (wOwn * own + (parts.map (·.2)).foldl (· + ·) 0) 6

/-- Is a vector inside the limits of R173? -/
def vecInRange (v : MVec) : Bool := v.1.natAbs ≤ 515 && v.2.natAbs ≤ 259

/-- Checks the vectors of a block row. -/
def checkVecs (s : State) (n mvd cw by_ : Nat) : Except Abort Unit := do
  let vs ← (List.range (2 * cw)).mapM (fun i => cellVec s n mvd (i % cw) (2 * by_ + i / cw))
  if vs.all vecInRange then return () else .error ⟨cMotionRange, 0⟩

/-- Compensates block row `by_` of every plane. -/
def compRow (s : State) (n fmt : Nat) (w : W128) (by_ : Nat) : Except Abort State := do
  let rd ← descOf s n (oRef w)
  let md ← descOf s n (oMv w)
  let od ← descOf s n (oOut w)
  let half := if fmt = 3 then 2 else 1
  let cw := 2 * ceilDiv (dInW od / half) 16
  let ch := 2 * ceilDiv (dInH od / half) 16
  checkVecs s n md cw by_
  ((planesOf fmt rd).zip (planesOf fmt od)).foldlM (fun s1 ((rp, sz), (op, _)) =>
    (List.range (2 * cw)).foldlM (fun s1 k =>
      (List.range (sz * sz)).foldlM (fun s1 q => do
        let cx := k % cw
        let cy := 2 * by_ + k / cw
        let v ← obmcSample s n (fmtDepth fmt) md cw ch rp sz cx cy (q / sz) (q % sz)
        if cy * sz + q / sz < op.h ∧ cx * sz + q % sz < op.w then
          storeWrite s1 n (op.addr (cy * sz + q / sz) (cx * sz + q % sz)) (leBytes 2 v.toNat)
        else return s1) s1) s1) s

/-- The effect of a compensation that begins. -/
def compRun (n c : Nat) (w : W128) (s : State) : State :=
  let s := setMotStatus s n c 1 (oBrow0 w) false
  let fmt := ctxFormat s n c
  let cols := match descOf s n (oOut w) with | .ok d => ceilDiv (dInW d / (if fmt = 3 then 2 else 1)) 16 | .error _ => 0
  let dec := (taskOf s n c).any (fun t => eDecode t.snap)
  let row (s : State) (b : Nat) : Except Abort State := do
    let s ← compRow s n fmt w b
    if dec then noteVecs s n c (oMv w) b cols true else return s
  let r : Except (Nat × Abort) State :=
    (List.range (oBrows w)).foldlM (fun s i => (row s (oBrow0 w + i)).mapError (fun a => (oBrow0 w + i, a))) s
  match r with
  | .error (b, a) => motFault s n c b a
  | .ok s' =>
    count64 s' (coreBase n 4 + 0xA0) (cols * oBrows w)

/-- MOT_COMPENSATE (R181). -/
def execMotCompensate (n c : Nat) (w : W128) (s : State) : Out := motIssue n c w 1 (compRun n c w) s

end Sys2Proof.Machine
end

