-- ==== Sys2Proof/Machine/Rate.lean ====
section
/-! DEFINITION. The row rate controller (R186 to R189, R195, R196, R512). -/

namespace Sys2Proof.Machine

/-- Fields of a rate slot (R186), as integers. -/
structure RSlot where
  u : Nat
  p : Nat
  t : Nat
  cap : Nat
  rows : Nat
  row : Nat
  c : Int
  q : Nat
  f : Bool
  h : Bool
  lastHeld : Bool
  sideLeft : Nat
  qiMin : Int
  qiMax : Int
  gain : Int
  dqMax : Int
  trow : Int
  rowHdr : Nat
  laneHdr : Nat
  deriving DecidableEq, Repr

/-- Reads a rate slot from the tile store. -/
def readSlot (s : State) (n a : Nat) : RSlot :=
  let f (o l : Nat) : Nat := storePeek s n (a + o) l
  { u := f 0 8, p := f 8 8, t := f 16 4, cap := f 20 4, rows := f 24 2, row := f 26 2, c := f 28 1, q := f 29 1,
    f := bit (f 30 1) 0, h := bit (f 30 1) 1, lastHeld := bit (f 30 1) 2, sideLeft := f 31 1, qiMin := f 32 1, qiMax := f 33 1,
    gain := f 34 1, dqMax := f 35 1, trow := f 36 4, rowHdr := f 40 2, laneHdr := f 42 2 }

/-- Writes the fields that an update changes. -/
def writeSlot (s : State) (n a : Nat) (r : RSlot) : State :=
  let s := storePoke s n a 8 r.u
  let s := storePoke s n (a + 8) 8 r.p
  let s := storePoke s n (a + 26) 2 r.row
  let s := storePoke s n (a + 28) 1 r.c.toNat
  let s := storePoke s n (a + 29) 1 r.q
  let s := storePoke s n (a + 30) 1 (r.f.toNat + r.h.toNat * 2 + r.lastHeld.toNat * 4)
  let s := storePoke s n (a + 31) 1 r.sideLeft
  storePoke s n (a + 36) 4 r.trow.toNat

/-- `max(1, div_rne(T − U, rows))`. -/
def rowTarget (r : RSlot) (rows : Nat) : Int := max 1 (divRne ((r.t : Int) - r.u) (max 1 rows))

/-- The update of R187 for a report of `b` bits on `n` lanes. -/
def rateStep (r : RSlot) (b n : Nat) : RSlot :=
  let hdr := r.rowHdr + n * r.laneHdr
  let held := r.h || decide (r.p + b > r.cap)
  let b := if held then 0 else b
  let r : RSlot := { r with h := held, lastHeld := held, p := r.p + b, u := r.u + b + hdr }
  if r.sideLeft > 0 then
    let r : RSlot := { r with sideLeft := r.sideLeft - 1 }
    if r.sideLeft = 0 then { r with trow := rowTarget r r.rows } else r
  else
    let delta : Int :=
      if held then r.dqMax
      else
        let e := (log2qStep (max b 1 : Nat) 0).1 - (log2qStep r.trow 0).1
        min (max (rshiftRne (r.gain * e) 20) (-r.dqMax)) r.dqMax
    let r : RSlot := { r with c := min (max (r.c + delta) r.qiMin) r.qiMax, row := r.row + 1, f := r.f || decide (r.u ≥ r.t) }
    let r : RSlot := { r with q := if r.f then 63 else r.c.toNat }
    if r.row < r.rows then { r with trow := rowTarget r (r.rows - r.row) } else r

/-- RCT_SLOTc and RCT_SLOTPc show the slot (R196). -/
def showSlot (s : State) (n c : Nat) (r : RSlot) : State :=
  let a := coreBase n 5 + 0x100 + 16 * c
  wr64 (wr64 s a (r.q % 64 + r.c.toNat % 64 * 2 ^ 8 + r.f.toNat * 2 ^ 16 + r.h.toNat * 2 ^ 17 + r.sideLeft % 4 * 2 ^ 20 + r.row % 2 ^ 16 * 2 ^ 32))
    (a + 8) r.p

/-- What an update leaves for the frame's statistics record and completion flags (R193, R314). -/
def Task.noteRow (t : Task) (r r' : RSlot) (rep : Nat) : Task :=
  let row := r.sideLeft = 0
  let forced := row && r.f && !r'.lastHeld
  { t with cflags := t.cflags ||| (if forced then 0x10 else 0) ||| (if r'.lastHeld then 0x20 else 0),
           sideHeld := t.sideHeld || (!row && r'.lastHeld),
           rowStats := if row then t.rowStats ++ [{ qi := r.q, forced := forced, held := r'.lastHeld, lanes := rep % 128, bits := rep / 128 }]
             else t.rowStats }

/-- RATE_UPDATE (R187): the waiting report of a context updates its rate slot, and semaphore 56 + c gains 1. The update of a task
that was aborted in between completes into the slot all the same (R195). An uncorrectable error in the slot aborts the task (R276). -/
def execRateUpdate (n c : Nat) (s : State) : Out := .next <|
  let rep := SMap.get 0 (core s n).reports c
  if !codecOn s || rep = 0 then s
  else
    let s := setCore s n { core s n with reports := SMap.set 0 (core s n).reports c 0 }
    match storeRead s n (rateSlot s n c) 48 with
    | .error a => if slotOpen s n c then unitAbort s n c a else s
    | .ok _ =>
    let r := readSlot s n (rateSlot s n c)
    let r' := rateStep r (rep / 128) (rep % 128)
    let s := showSlot (writeSlot s n (rateSlot s n c) r') n c r'
    let row := r.sideLeft = 0
    let s := if row then count64 s (coreBase n 5 + 0xA0) 1 else s
    let s := if row && r.f && !r'.lastHeld then count64 s (coreBase n 5 + 0xA8) 1 else s
    let s := if r'.lastHeld then count64 s (coreBase n 5 + 0xB0) 1 else s
    if slotOpen s n c then semSignal (updTask s n c (fun t => t.noteRow r r' rep)) n c (56 + c) 1 else s

/-- Opens the rate slot of a context for a task that starts there; a report left by an earlier task is over. -/
def openSlot (s : State) (n c : Nat) : State :=
  wrBits (setCore s n { core s n with reports := SMap.set 0 (core s n).reports c 0 }) (coreBase n 5 + 0x40) c 1 1

/-- Field of a rate profile (R308): `len` bytes at byte `o`. -/
def profField (p : W256) (o len : Nat) : Nat := bits p.toNat (8 * o) (8 * len)

/-- The first quantiser index of a frame that is encoded: C and Q of its rate slot at task start (R512). -/
def firstIndex (t : Task) : Nat :=
  let carry : Int := (eQiCarry t.snap : Int) + (if t.isKey then toSigned 8 (profField t.prof 20 1) else 0)
  (min (max carry (profField t.prof 16 1)) (profField t.prof 17 1)).toNat

/-- The 64 bytes of a rate slot at the start of an encode task (R186, R512). -/
def slotBytes (s : State) (t : Task) : List Byte :=
  let f := profField t.prof
  let q := leBytes 1 (firstIndex t)
  leBytes 16 0 ++ leBytes 4 (f (if t.isKey then 0 else 4) 4) ++ leBytes 4 (f (if t.isKey then 8 else 12) 4) ++ leBytes 2 (latentRows s t.snap) ++
    leBytes 2 0 ++ q ++ q ++ leBytes 1 0 ++ leBytes 1 (if t.isKey then 1 else 3) ++ leBytes 4 (f 16 4) ++ leBytes 4 0 ++ leBytes 2 32 ++
    leBytes 2 16 ++ leBytes 20 0

/-- Fills the rate slot of a starting encode task (R186, R512): whole words, which no error holds back (R276). -/
def fillSlot (s : State) (n c : Nat) (t : Task) : State :=
  let s := openSlot (storePoke s n (rateSlot s n c) 64 (leNat (slotBytes s t))) n c
  showSlot s n c (readSlot s n (rateSlot s n c))

end Sys2Proof.Machine
end

