-- ==== Sys2Proof/Machine/TaskEnd.lean ====
section
/-! DEFINITION. The start of a task, its end and commit, verification, print hashes, payload protection on the egress path,
and the overrun check (R18, R22, R166, R186, R187, R190, R191, R193, R211, R231, R234, R237, R309, R319, R321, R500, R501,
R509). -/

namespace Sys2Proof.Machine

/-! ### Key frames and frame numbers (R166, R234, R309) -/

/-- Uncommitted earlier encode frame of the stream that runs, if any. -/
def pendingFrame (s : State) (t : Task) : Option Task :=
  ((runningTasks s).map (·.2.2)).find? (fun u => u.isFrame && u.stream = t.stream && u.order < t.order)

/-- Frames coded since and with the last key frame, 0 when no reference is held; key frames coded. -/
def sinceKeyOf (s : State) (t : Task) : Nat × Nat :=
  let a := SMap.get 0 s.str.sinceKey t.stream
  let k := SMap.get 0 s.str.keyCount t.stream
  match pendingFrame s t with
  | some u => if u.isKey then (1, k + 1) else (a + 1, k)
  | none => (a, k)

/-- Is the frame of an encode task a key frame: asked for, no valid reference, or the interval is reached? -/
def keyFrame (s : State) (t : Task) : Bool :=
  let a := (sinceKeyOf s t).1
  t.key || a = 0 || decide (a ≥ eKeyInterval t.snap)

/-- Is it a random-access point? -/
def rapFrame (s : State) (t : Task) : Bool := keyFrame s t && (sinceKeyOf s t).2 % max 1 (eRapKeys t.snap) = 0

/-! ### The start of a task (R318, R500) -/

/-- The 64-byte task record. -/
def taskRecordBytes (t : Task) : List Byte :=
  let e := t.snap
  let fl := t.isKey.toNat + t.isRap.toNat * 2 + (eVerify e).toNat * 4 + (eProt e).toNat * 8
  leBytes 8 t.inVa ++ leBytes 4 t.inBytes ++ leBytes 4 t.stream ++ leBytes 4 (if eDecode e then 0 else t.frame) ++ leBytes 1 fl ++
    leBytes 1 (eStages e) ++ leBytes 2 0 ++ leBytes 8 (eBufVa e) ++ leBytes 8 t.user ++ leBytes 8 t.tbAdmit ++ List.replicate 16 0#8

/-- Entry that a task takes its slots for: with a feature network, the more of the two entries' slots (log entry 19). -/
def slotEntry (s : State) (n : Nat) (t : Task) (e : SEntry) : SEntry :=
  if !eFeat t.snap then e
  else match sentry s n (eFeatEntry t.snap) with
    | none => e
    | some f => { e with outSlots := max e.outSlots f.outSlots, recSlots := max e.recSlots f.recSlots }

/-- The first ready task of an activity that waits on no frame of its stream (R318). -/
def nextReady (s : State) (a : Nat) : Option Task :=
  s.str.ready.find? (fun t => t.activity = a && frameReady s t && decide (t.notBefore ≤ tb s))

/-- Does the raw input of a video encode task hold a sample with non-zero unused bits (R365)? -/
def dirtyInput (s : State) (n : Nat) (t : Task) : Bool :=
  let e := t.snap
  let top := match eFormat e with | 3 => 4096 | 1 => 65536 | _ => 1024
  if eAudio e || eFormat e = 1 then false
  else match hbmRead s (partOf s n) false t.inVa t.inBytes with
    | .error _ => false
    | .ok bs => (List.range (bs.length / 2)).any (fun i => decide (leAt bs (2 * i) 2 ≥ top))

/-- A task takes a context: its program starts at the entry's PC with its walks at position 0, and its task record is written (R87,
R500). -/
def occupy (s : State) (n c : Nat) (t : Task) (e : SEntry) : State :=
  let s := setCtx s n c { ctxOf s n c with task := some t, hold := .none }
  let s := resetWalks (setPc (setSeqStatus s n c true false) n c e.pc) n e.pc
  storePoke s n ((coreCfg s n).taskBase + 64 * c) 64 (leNat (taskRecordBytes t))

/-- Starts a task that leaves the ready list on context `c` of core `n`, with its slots, its task record and, for a video encode task,
its rate slot (R318, R500, R512); a key frame of an audio encode takes a history of zeros. The history of an audio stream with no earlier frame
under way is kept for an abort (R202; log entry 50). -/
def startOn (s : State) (t : Task) (n c : Nat) (e : SEntry) : State × Task :=
  let s0 := s
  let (s, t) := takeTaskSlots (s.setStr { s.str with ready := s.str.ready.erase t }) t (slotEntry s n t e)
  let enc := t.isFrame && !eDecode t.snap
  let t : Task := if enc then { t with isKey := keyFrame s0 t, isRap := rapFrame s0 t,
                                       frame := (eFrameNext (entry s0 t.stream) + earlierFrames s0 t.stream t.order) % 2 ^ 32 }
    else t
  let t : Task := { t with qiStart := if enc && !eAudio t.snap then firstIndex t else 0, core := n, ctx := c, fabCounters := chanCounters s t.activity,
                           saved := if t.isFrame && eAudio t.snap && earlierFrames s0 t.stream t.order = 0 then historyNow s n t else [] }
  let s := occupy s n c t e
  let s := if enc && eAudio t.snap && t.isKey then substitute s n c (zeroHistory s n t) else s
  (if enc && !eAudio t.snap then fillSlot s n c t else s, (taskOf s n c).getD t)

/-- Starts a stripe of the frame of task `t` on context `c` of core `n` (R19): it has the frame's slots and its own task record, and
the rate slot of a video encode reaches it through the shared store (R186). -/
def startStripe (s : State) (t : Task) (n c : Nat) (e : SEntry) : State :=
  let s := occupy s n c { t with kind := 4, extents := [], saved := [], inSlot := none } e
  if !eDecode t.snap && !eAudio t.snap then openSlot s n c else s

/-- TASK_START (R318, R500): the next ready task of the activity takes its slots and starts on the lowest-numbered free
context; its task record is written, and an encode task's rate slot is filled. The stripes of its frame start with it on the other
cores that the image gives them (R19). -/
def execTaskStart (a : Nat) (s : State) : Out := .next <|
  if !codecOn s then s
  else match nextReady s a with
    | none => s
    | some t =>
      match taskPlace s t with
      | none => s
      | some (n, c, e) =>
        if frozen s (partOf s n) || !slotsFree s t (slotEntry s n t e) then s
        else match stripePlaces s t n with
        | none => s
        | some ps =>
          let (s, t) := startOn s t n c e
          let s := ps.foldl (fun s (m, d, e) => startStripe s t m d e) s
          if t.isFrame && !eDecode t.snap && dirtyInput s n t then abortTask s n c 0x0907 else s

/-- ACLK cycles since the period's boundary, at 1.1 GHz (R323, R509). -/
def aclkInPeriod (s : State) : Nat := tb s % max 1 s.img.periodNs * 11 / 10
/-- Is the start of a periodic row due: its OFFSET is reached, and it has not come in this period (R256, R509)? -/
def rowDue (s : State) (n row : Nat) (r : PRow) : Bool :=
  r.offset ≤ aclkInPeriod s && SMap.get 0 (core s n).rowStarts row ≠ period s + 1

/-- PERIODIC_START (R509): the row's entry starts on its context once a period, at OFFSET; while the context holds a task the start waits,
and a start that still waits when the next comes is dropped and counted. -/
def execPeriodicStart (n row : Nat) (s : State) : Out := .next <|
  match (variantOf s n).periodic[row]? with
  | none => s
  | some r =>
    match sentry s n r.entry with
    | none => s
    | some e =>
      if !codecOn s || n ≥ 8 || !partRuns s n || !rowDue s n row r then s
      else
        let s := setCore s n { core s n with rowStarts := SMap.set 0 (core s n).rowStarts row (period s + 1) }
        if (taskOf s n r.ctx).isSome then
          if SMap.get false (core s n).waits row then count64 s (coreBase n 0 + 0x210) 1
          else setCore s n { core s n with waits := SMap.set false (core s n).waits row true }
        else startPeriodic (setCore s n { core s n with waits := SMap.set false (core s n).waits row false }) n r e

/-! ### Bounds (R321, R328) -/

/-- Periods that ACLK cycles take, at 1.1 GHz. -/
def aclkPeriods (s : State) (k : Nat) : Nat := ceilDiv k (max 1 (s.img.periodNs * 11 / 10))
/-- Periods since the attempt's admission, frozen ones left out. -/
def periodsRun (s : State) (t : Task) : Nat := (period s + 2 ^ 32 - t.startPeriod) % 2 ^ 32 - t.frozenPeriods

/-- Bound of the attempt of a task in periods (R328): its own use and that of the tasks of its activity admitted before it, the two added
periods, and the wait for the target boundary of each link failover since (log entry 20). -/
def taskBound (s : State) (t : Task) : Nat :=
  max 1 (aclkPeriods s (t.ahead + t.use)) + 2 + (s.fab.fails.length - t.fails) * (1 + ceilDiv s.fab.lead (max 1 s.img.periodNs))

/-- TASK_OVERRUN (R321): a task that has not reached END within its bound plus 2 periods is aborted. -/
def execTaskOverrun (n c : Nat) (s : State) : Out := .next <|
  match taskOf s n c with
  | none => s
  | some t =>
    if !codecOn s || frozen s (partOf s n) || (ctxOf s n c).hold = .atEnd || periodsRun s t ≤ taskBound s t + 2 then s
    else
      let s := satCount64 s (lfcBase + 0x388) 1
      abortTask (arrive s (16 + 16 * n + 7) (0x090A + c * 2 ^ 16)) n c 0x090A

/-! ### Print hashes (R231) -/

/-- The hash input's prefix. -/
def printPrefix (e : W512) : List Byte :=
  if eAudio e then beBytes 2 (eWidth e) ++ beBytes 1 (eChans e) ++ [1#8] ++ beBytes 1 (eFormat e) ++ List.replicate 3 0#8
  else beBytes 2 (eWidth e) ++ beBytes 2 (eHeight e) ++ [0#8] ++ beBytes 1 (eFormat e) ++ List.replicate 2 0#8

/-- Sample `i` of the print of frame `f`, as it is hashed. Where the program keeps it in the stream's state area is free
(R168, R305; log entry 3). -/
def printSample (s : State) (n : Nat) (t : Task) (f i : Nat) : List Byte :=
  let va := vaAdd (eBufVa t.snap) (Config.printOffset n t.sched (f % 3) i)
  let rd (l : Nat) : Nat := leNat (hbmPeek s (partOf s n) va l)
  if eAudio t.snap then beBytes 4 (if eFormat t.snap = 0 then ofSigned 32 (toSigned 16 (rd 2)) else rd 4)
  else beBytes 2 (if eFormat t.snap = 1 then rd 1 else rd 2)

/-- PRINT_HASH of frame `f` as the task on core `n` holds its print. -/
def printHashOf (s : State) (n : Nat) (t : Task) (f : Nat) : W64 :=
  BitVec.ofNat 64 (beAt (sha3_256 (printPrefix t.snap ++ ((List.range (printSamples t.snap)).map (printSample s n t f)).flatten)) 0 8)

/-! ### Payload protection on the egress path (R237, R425) -/

/-- Protects the frame units of a slot's bytes in order: IV from the stream's counter, AES-256-GCM of the body, fresh LENGTH and
CRC. Answers the bytes and the next counter, or none where bytes are no unit, which nothing would protect. -/
def sealUnits (key : List Byte) (pre ctr : Nat) (bs : List Byte) : Nat → Option (List Byte × Nat)
  | 0 => none
  | fuel + 1 =>
    if bs = [] then some ([], ctr)
    else match parseUnit bs with
    | .error _ => none
    | .ok u =>
      if (u.typ = 0x10 || u.typ = 0x11) && !bit (beAt u.body 5 1) 2 then
        let iv := beBytes 4 pre ++ beBytes 8 ctr
        let head := beBytes 2 0xB7E5 ++ beBytes 1 u.typ ++ [1#8] ++ beBytes 4 (u.body.length + 28)
        let fh := u.body.take 20
        let unit := head ++ fh ++ iv ++ Config.gcmSeal key iv (head ++ fh) (u.body.drop 20)
        (sealUnits key pre (ctr + 1) u.rest fuel).map (fun r => (unit ++ beBytes 4 (crc32c unit).toNat ++ r.1, r.2))
      else (sealUnits key pre ctr u.rest fuel).map (fun r => (bs.take (12 + u.body.length) ++ r.1, r.2))

/-- Protects output slot `k` of the task on a context; answers whether the task goes on. Bytes that are no unit never leave a protected
stream: the task is aborted (DESIGN CHOICE, log entry 25). -/
def sealSlot (s : State) (n c k : Nat) : State × Bool :=
  match taskOf s n c with
  | none => (s, false)
  | some t =>
    match keyOf s (eKeyId t.snap) with
    | none => (abortTask s n c 0x0207, false)
    | some key =>
      let r := eOutRing t.snap
      let va := slotVa s r ((t.outFirst + k) % 65536)
      let bs := hbmPeek s (ringPart s r) va (t.outExtent k)
      match sealUnits key.key (eIvPrefix t.snap) (SMap.get 0 s.str.ivNext t.stream) bs (bs.length + 1) with
      | none => (abortTask s n c cUnitSyntax, false)
      | some (out, ctr) =>
        let s := s.setStr { s.str with ivNext := SMap.set 0 s.str.ivNext t.stream ctr }
        if out.length > ringSlotBytes s r then (abortTask s n c cAddressRange, false)
        else
          let s := hbmPoke s (ringPart s r) va out
          (updTask s n c (fun t => { t with extents := SMap.set 0 t.extents k out.length }), true)

/-- Protects every output slot of an encode task of a PROT entry. -/
def sealTask (s : State) (n c : Nat) (t : Task) : State × Bool :=
  if !eProt t.snap || eDecode t.snap || !t.isFrame then (s, true)
  else (List.range t.outN).foldl (fun acc k => if acc.2 then sealSlot acc.1 n c k else acc) (s, true)

/-! ### The frame unit of an encode task (R224, R231; log entry 25) -/

/-- The unit at the head of what a program wrote: its SYNC and its LENGTH; its CRC is not written yet. -/
def ownUnit (bs : List Byte) : Option PUnit :=
  let len := beAt bs 4 4
  if bs.length < 12 || beAt bs 0 2 ≠ 0xB7E5 || bs.length < 12 + len then none
  else some ⟨beAt bs 2 1, beAt bs 3 1, bs.take 8, (bs.drop 8).take len, bs.drop (12 + len)⟩

/-- The frame header of an encode task's frame (R224). -/
def frameHeader (s : State) (t : Task) : List Byte :=
  let e := t.snap
  beBytes 4 t.frame ++ beBytes 1 (!t.isKey).toNat ++ beBytes 1 (t.isRap.toNat + (eVerify e).toNat * 2) ++ beBytes 2 t.epoch ++
    beBytes 8 t.capture ++ beBytes 2 (bodyPlan s e t.isKey).length ++ beBytes 1 (if eAudio e then eStages e else 0) ++ [0#8]

/-- The units of a slot with the frame header, the PRINT_HASH and the CRC of each frame unit; what follows bytes that are no unit stays. -/
def stampUnits (hdr hash bs : List Byte) : Nat → List Byte
  | 0 => bs
  | fuel + 1 => match ownUnit bs with
    | none => bs
    | some u =>
      (if u.typ = 0x10 || u.typ = 0x11 then unitBytes u.typ u.uflags (hdr ++ hash ++ u.body.drop 28) else bs.take (12 + u.body.length)) ++
        stampUnits hdr hash u.rest fuel

/-- Completes the frame units in the output slots of the task on a context. -/
def stampFrame (s : State) (n c : Nat) (t : Task) : State :=
  if eDecode t.snap || !t.isFrame then s
  else (List.range t.outN).foldl (fun s k =>
    let r := eOutRing t.snap
    let va := slotVa s r ((t.outFirst + k) % 65536)
    let bs := hbmPeek s (ringPart s r) va (t.outExtent k)
    let out := stampUnits (frameHeader s t) (beBytes 8 ((t.printHash.map (·.toNat)).getD 0)) bs bs.length
    updTask (hbmPoke s (ringPart s r) va out) n c (fun t => { t with extents := SMap.set 0 t.extents k out.length })) s

/-! ### The units that open an encode frame (R218, R223, R234) -/

/-- Puts the units that a frame must open with before the bytes of the task's first output slot that holds any, unless they stand there
already (log entry 109); answers whether the task goes on. -/
def openFrame (s : State) (n c : Nat) (t : Task) : State × Bool :=
  match (if eDecode t.snap || !t.isFrame then none else (List.range t.outN).find? (fun k => t.outExtent k ≠ 0)) with
  | none => (s, true)
  | some k =>
    let us := openUnits s n t
    let r := eOutRing t.snap
    let va := slotVa s r ((t.outFirst + k) % 65536)
    let bs := hbmPeek s (ringPart s r) va (t.outExtent k)
    if us = [] || us.isPrefixOf bs then (s, true)
    else if (us ++ bs).length > ringSlotBytes s r then (abortTask s n c cAddressRange, false)
    else
      let x := reader s t.stream
      let s := if t.isRap && x.hdr = [] then setReader s t.stream { x with hdr := streamHeader t.stream t.snap, decl := modelDecl s (eMslot t.snap) } else s
      let s := hbmPoke s (ringPart s r) va (us ++ bs)
      (updTask s n c (fun t => { t with extents := SMap.set 0 t.extents k (us ++ bs).length }), true)

/-- The frame's units as they leave: completed, opened, then protected. -/
def finishUnits (s : State) (n c : Nat) (t : Task) : State × Bool :=
  let s := stampFrame s n c t
  match openFrame s n c ((taskOf s n c).getD t) with
  | (s, false) => (s, false)
  | (s, true) => sealTask s n c ((taskOf s n c).getD t)

/-! ### Stripes (R19, R107, R111, R189) -/

/-- The stripes of a frame that run: core, context, task. -/
def stripesOf (s : State) (order : Nat) : List (Nat × Nat × Task) := (runningTasks s).filter (fun (_, _, u) => u.kind = 4 && u.order = order)

/-- Has every stripe of the frame reached END? -/
def stripesDone (s : State) (order : Nat) : Bool := (stripesOf s order).all (fun (m, d, _) => (ctxOf s m d).hold = .atEnd && !hasWork s m d)

/-- The frame's task takes what its stripes leave: extents, numeric and completion flags, and what the statistics record counts. -/
def gatherStripes (s : State) (n c : Nat) (t : Task) : State :=
  (stripesOf s t.order).foldl (fun s (_, _, u) => updTask s n c (fun t =>
    { t with extents := u.extents.foldl (fun m x => SMap.set 0 m x.1 (max (SMap.get 0 m x.1) x.2)) t.extents,
             numFlags := t.numFlags ||| u.numFlags, cflags := t.cflags ||| u.cflags, sideHeld := t.sideHeld || u.sideHeld,
             rowStats := t.rowStats ++ u.rowStats, vecs := u.vecs.foldl (fun m x => SMap.set [] m x.1 x.2) t.vecs })) s

/-- The rate slot of a frame after its last latent row: of the slots of its tasks the one that stands at the highest row. -/
def lastSlot (s : State) (n c order : Nat) : RSlot :=
  (stripesOf s order).foldl (fun r (m, d, _) =>
    let q := readSlot s m (rateSlot s m d)
    if q.row > r.row then q else r) (readSlot s n (rateSlot s n c))

/-! ### Commit (R18, R319) -/

/-- What the commit of a decode frame does to its reader, and its CFLAGS: concealment and the hash comparison of R191, which a
frame with no print skips (R211). After a mismatch the print is no reference for the next frame. -/
def commitReader (s : State) (t : Task) : State × Nat :=
  match t.rd with
  | none => (s, 0)
  | some r =>
    if r.kind ≠ 1 then (s, 0)
    else
      let differs := match r.hash, t.printHash with
        | some h, some p => !r.conceal && decide (p ≠ h)
        | _, _ => false
      let x := reader s t.stream
      let conceal := r.conceal || differs || (x.conceal && !r.key)
      let heldRow := ((bodyPlan s t.snap r.key).zip r.held).any (fun (k, h) => k.1 = 3 && h)
      (setReader s t.stream { x with started := true, conceal := conceal, lost := differs },
        (if r.conceal then 1 else 0) + (if differs then 2 else 0) + (if r.key then 8 else 0) + (if heldRow then 0x20 else 0))

/-- Tokens that a frame of a video stream adds to the context memory: one for every position of its negative (R185, R228). -/
def frameTokens (s : State) (e : W512) : Nat :=
  let a := max 1 (mAlign s (eMslot e))
  latentRows s e * (ceilDiv (eWidth e) a * a / 2 ^ mLatSh s (eMslot e))

/-- Number of tokens that runs of a context memory hold. -/
def tokenCount (rs : List (Nat × Nat × Nat)) : Nat := (rs.map (fun r => r.2.2 - r.2.1)).sum
/-- A context memory without its `k` oldest tokens (R185). -/
def dropTokens : Nat → List (Nat × Nat × Nat) → List (Nat × Nat × Nat)
  | _, [] => []
  | k, (f, a, b) :: rs => if b - a ≤ k then dropTokens (k - (b - a)) rs else (f, a + k, b) :: rs

/-- The context memories of a stream after frame `f` commits: a key frame empties them, and beyond CTX_MAX the oldest tokens go
(R185); a verified stream's decode core keeps its own (R192). -/
def addTokens (s : State) (t : Task) (f : Nat) (key : Bool) : State :=
  if eAudio t.snap then s
  else
    let add (s : State) (i : Nat) : State :=
      let rs := (if key then [] else SMap.get [] s.str.tokens i) ++ [(f, 0, frameTokens s t.snap)]
      s.setStr { s.str with tokens := SMap.set [] s.str.tokens i (dropTokens (tokenCount rs - mCtxMax s (eMslot t.snap)) rs) }
    let s := add s (2 * t.stream)
    if eVerify t.snap then add s (2 * t.stream + 1) else s

/-- The device fields of the entry (R187, R305, R309), the key-frame counts of the stream, and the epochs that it has emitted (R223). -/
def commitFields (s : State) (n c : Nat) (t : Task) : State × Nat :=
  let i := t.stream
  if eDecode t.snap then
    match t.rd with
    | some r => if r.kind = 1 then
        (addTokens (setEntry s i (ebSet (entry s i) 60 4 ((r.frame + 1) % 2 ^ 32))) t r.frame r.key, r.frame) else (s, r.frame)
    | none => (s, 0)
  else
    let f := eFrameNext (entry s i)
    let q := (lastSlot s n c t.order).c.toNat
    let e := ebSet (entry s i) 60 4 ((f + 1) % 2 ^ 32)
    let s := setEntry s i (if eAudio t.snap then e else ebSet e 37 1 q)
    let st := s.str
    let since := if t.isKey then 1 else SMap.get 0 st.sinceKey i + 1
    let keys := SMap.get 0 st.keyCount i + t.isKey.toNat
    let sent := SMap.get [] st.epochSent i
    let sent := if builtIn s t || sent.contains t.epoch then sent else sent ++ [t.epoch]
    let s := s.setStr { st with sinceKey := SMap.set 0 st.sinceKey i since, keyCount := SMap.set 0 st.keyCount i keys,
                                epochSent := SMap.set [] st.epochSent i sent }
    (addTokens s t f t.isKey, f)

/-! ### Statistics and feature records (R193, R212) -/

/-- What a frame's latent rows leave for its statistics record: an encoder's as they were reported, a decoder's as the row headers
give them. A decoder knows of no forced index, and DESIGN CHOICE: a held row's QI, and QI_FIRST with it, is the index that the slot held
before its update at an encoder and 0 at a decoder (log entry 21). -/
def rowStatsOf (t : Task) : List RowStat :=
  if !eDecode t.snap then t.rowStats
  else match t.rd with
    | none => []
    | some r => ((r.segs.zip r.held).filter (fun x => x.1.kind = 3)).map (fun (g, h) =>
        { qi := if h then 0 else g.qi, forced := false, held := h, lanes := g.lanes, bits := 16 * g.words })

/-- PAYLOAD, USED, TARGET and CAP of a frame: an encoder's from its rate slot, a decoder's from its segments. -/
def usage (s : State) (n c : Nat) (t : Task) : Nat × Nat × Nat × Nat :=
  if !eDecode t.snap then
    let r := lastSlot s n c t.order
    (r.p, r.u, r.t, r.cap)
  else
    let segs := match t.rd with | some r => r.segs | none => []
    let p := (segs.map (fun g => 16 * g.words)).sum
    (p, p + (segs.map (fun g => 32 + 16 * g.lanes)).sum, 0, 0)

/-- The statistics record of a committed frame with its row and vector-field entries (R193). -/
def statsBytes (s : State) (n c : Nat) (t : Task) (frame : Nat) (key conceal : Bool) : List Byte :=
  let rows := rowStatsOf t
  let rows := if eAudio t.snap then [] else rows
  let heldRows := (rows.filter (·.held)).length
  let forced := (rows.filter (·.forced)).length
  let side := if eDecode t.snap then (match t.rd with | some r => (r.segs.zip r.held).any (fun x => x.1.kind < 3 && x.2) | none => false) else t.sideHeld
  let vs := t.vecs.map (·.2)
  let (p, u, tg, cap) := if eAudio t.snap then (0, 0, 0, 0) else usage s n c t
  let fl := conceal.toNat + side.toNat * 2 + (decide (forced > 0)).toNat * 4 + (decide (heldRows > 0)).toNat * 8 + (decide (t.verify = some true)).toNat * 16
  let head := leBytes 4 t.stream ++ leBytes 4 frame ++ leBytes 1 (!key).toNat ++ leBytes 1 fl ++
    leBytes 1 ((rows.head?.map (·.qi)).getD 0) ++ leBytes 1 (eQiCarry (entry s t.stream)) ++ leBytes 2 rows.length ++ leBytes 2 heldRows ++
    leBytes 4 p ++ leBytes 4 u ++ leBytes 4 tg ++ leBytes 4 cap ++ leBytes 8 (vs.map (fun b => leAt b 20 4)).sum ++
    leBytes 8 (vs.map (fun b => leAt b 24 4)).sum ++ leBytes 8 (tb s) ++ leBytes 2 forced ++
    leBytes 2 (vs.filter (fun b => leAt b 16 1 = 1)).length ++ leBytes 4 0
  let lv := eStats t.snap
  head ++ (if lv ≥ 2 then rows.flatMap (fun r => leBytes 1 r.qi ++ leBytes 1 (r.forced.toNat + r.held.toNat * 2) ++ leBytes 1 r.lanes ++
      leBytes 1 0 ++ leBytes 4 r.bits) else []) ++ (if lv ≥ 3 then vs.flatten else [])

/-- Writes the statistics record into the task's first record slot, as far as the slot reaches (R193, log entry 21). -/
def writeStats (s : State) (n c : Nat) (t : Task) (frame : Nat) (key conceal : Bool) : State × Task :=
  if eStats t.snap = 0 || t.recN = 0 then (s, t)
  else
    let r := eRecRing t.snap
    let bs := (statsBytes s n c t frame key conceal).take (ringSlotBytes s r)
    (hbmPoke s (ringPart s r) (slotVa s r t.recFirst) bs, { t with extents := SMap.set 0 t.extents 256 bs.length })

/-- The feature records of a committed audio frame, one per group, in the record slots after that of the statistics record (R212, log entry
21): the device writes STREAM, FRAME, SOURCE, GROUP and the reserved bytes; the feature network's program writes DIMS, VECTORS and the
values, which give the record its length. A record that it did not begin has no values. -/
def stampFeatures (s : State) (t : Task) (frame : Nat) : State × Task :=
  if !eFeat t.snap || !eAudio t.snap then (s, t)
  else
    let r := eRecRing t.snap
    let k0 := if eStats t.snap = 0 then 0 else 1
    (List.range (eChans t.snap / max 1 (mGw s (eMslot t.snap)))).foldl (fun (s, t) g =>
      if k0 + g ≥ t.recN then (s, t)
      else
        let va := slotVa s r ((t.recFirst + k0 + g) % 65536)
        let shape := if t.recExtent (k0 + g) < 16 then List.replicate 4 0#8 else hbmPeek s (ringPart s r) (vaAdd va 10) 4
        let len := min (ringSlotBytes s r) (16 + 2 * leAt shape 0 2 * leAt shape 2 2)
        (hbmPoke s (ringPart s r) va (leBytes 4 t.stream ++ leBytes 4 frame ++ leBytes 1 (eSource t.snap).toNat ++ leBytes 1 g ++ shape ++ leBytes 2 0),
          { t with extents := SMap.set 0 t.extents (256 + k0 + g) len })) (s, t)

/-- Commits the task on a context: device fields, records, hand-over and completion record, release of the ingress slot (R319). The
contexts of its stripes are released with its own. -/
def commitTask (s : State) (n c : Nat) (t : Task) : State :=
  let (s, cf) := commitReader s t
  let (s, frame) := commitFields s n c t
  let late := decide (periodsRun s t > taskBound s t)
  let s := if late then arrive s (16 + 16 * n + 7) (c * 2 ^ 16) else s
  let flags := t.cflags ||| cf ||| (if late then 0x40 else 0) ||| (if !eDecode t.snap && t.isKey then 8 else 0) |||
    (if t.verify = some true then 4 else 0)
  let empty := eDecode t.snap && t.rd.all (fun r => r.kind ≠ 1)
  let (s, t) := if empty then (s, t) else writeStats s n c t frame (bit flags 3) (bit flags 0)
  let (s, t) := if empty then (s, t) else stampFeatures s t frame
  let s := handTask s t empty
  let s := (stripesOf s t.order).foldl (fun s (m, d, _) => clearCtx s m d false) s
  let s := clearCtx s n c false
  let s := postRecord s (eCplRing t.snap) false
    (completionBytes ((t.rd.map (·.damaged)).getD 0) t.numFlags flags t.stream frame n c t.reissues t.user t.tbAdmit (tb s) (if empty then 0 else t.outBytes))
  let s := match t.inSlot with
    | none => s
    | some i => releaseSlot s (eInRing t.snap) i
  checkInvalidation s

/-! ### Verification (R22, R192) -/

/-- The other half of a verified frame goes to the ready list once the encode half has reached END; it takes its epoch, its table
bank and its held segments from the frame's units (R155, R156, R192). It stands at the end of the list: R317 and R318 order
admitted tasks, and nothing orders this one (DESIGN CHOICE, log entry 112). -/
def startVerify (s : State) (n : Nat) (t : Task) : State :=
  let v := match sentry s n t.sched with | some e => e.ventry | none => 0xFFFF
  let d : Task := { t with kind := 3, sched := v, extents := [], numFlags := 0, cflags := 0, counters := [], inSlot := none, epoch := 0,
                           bank := none, rd := none, jobs := 0, rowStats := [], sideHeld := false, vecs := [], saved := [] }
  s.setStr { s.str with ready := s.str.ready ++ [d] }

/-- VERIFY_CHECK: the decode half has reached END, and the hashes of the two prints are compared. -/
def verifyEnd (s : State) (n c : Nat) (t : Task) : State :=
  match readInput s n c with
  | (s, false) => s
  | (s, true) =>
    match (runningTasks s).find? (fun (_, _, u) => u.isFrame && u.order = t.order && eVerify u.snap) with
    | none => clearCtx s n c false
    | some (m, d, u) =>
      if u.printHash = some (printHashOf s n t t.frame) then
        updTask (clearCtx s n c false) m d (fun u => { u with verify := some true })
      else
        let s := satCount64 s (lfcBase + 0x380) 1
        let s := abortTask s m d cVerifyMismatch
        faultEventAt (faultEventAt s (7 * 2 ^ 28 + m * 2 ^ 24) false) (7 * 2 ^ 28 + n * 2 ^ 24) false

/-- Is the END instruction the one at the PC of a context that may reach it, newly or again while its verification or its frame is
open? -/
def canEnd (s : State) (n c : Nat) (w : W128) : Bool :=
  canIssue s n c w 0x1F ||
  (codecOn s && !frozen s (partOf s n) && (ctxOf s n c).hold = .atEnd && bits w.toNat 0 8 = 0x1F && programWord s n c = w.toNat)

/-- The feature network's program begins, with its own walks at position 0 (R87, R211). -/
def startFeature (s : State) (n c pc : Nat) : State :=
  resetWalks (setPc (holdCtx (updTask s n c (fun t => { t with feat := true })) n c .none false) n c pc) n pc

/-- Is the verifying decode of a frame ready or running? -/
def verifying (s : State) (order : Nat) : Bool :=
  (s.str.ready ++ (runningTasks s).map (·.2.2)).any (fun t => t.kind = 3 && t.order = order)

/-- A frame reaches END with its stripes: it takes what they leave, its print is hashed, unless none is written (R211, R231), and an encode
frame's units are made whole. What the feature network does after it changes neither. -/
def finishFrame (s : State) (n c : Nat) (t : Task) : State × Bool :=
  let s := gatherStripes s n c t
  let h := if eSource t.snap && ePrintless t.snap && eDecode t.snap then none else some (printHashOf s n t t.number)
  let s := updTask s n c (fun t => { t with finished := true, printHash := h })
  finishUnits s n c ((taskOf s n c).getD t)

/-- END of a frame task whose work and stripes are complete. -/
def endFrame (s : State) (n c : Nat) : State :=
  match readInput s n c with
  | (s, false) => s
  | (s, true) =>
    match taskOf s n c with
    | none => s
    | some t =>
      if !epochHeld s n t then abortTask s n c cEpochMissing
      else match (if t.finished then (s, true) else finishFrame s n c t) with
      | (s, false) => s
      | (s, true) =>
        let t := (taskOf s n c).getD t
        match (if eFeat t.snap && !t.feat then sentry s n (eFeatEntry t.snap) else none) with
        | some f => startFeature s n c f.pc
        | none =>
          if eVerify t.snap && !eDecode t.snap && t.verify.isNone then
            (if verifying s t.order then s else startVerify s n t)
          else if earlierFrames s t.stream t.order ≠ 0 || !canPost s (eCplRing t.snap) then s
          else commitTask s n c t

/-- END (R319): the context has reached END; once the task's work on every unit is complete, the task ends. A stripe stays on its context
until its frame commits (R18, R111), and the frame waits for its stripes. -/
def execEndTask (n c : Nat) (w : W128) (s : State) : Out := .next <|
  if !canEnd s n c w then notIssued s n c
  else
    let s := holdCtx s n c .atEnd false
    if hasWork s n c then s
    else match taskOf s n c with
      | none => s
      | some t =>
        if t.kind = 2 then startWaiting (clearCtx s n c false) n c
        else if t.kind = 3 then verifyEnd s n c t
        else if t.kind = 4 || !stripesDone s t.order then s
        else endFrame s n c

end Sys2Proof.Machine
end

