-- ==== Sys2Proof/Machine/Dispatch.lean ====
section
/-! DEFINITION. One arm per command: each is one direct call of the command's own meaning. -/

namespace Sys2Proof.Machine

def exec (i : Instr) (s : State) : Host.Outcome State Fault Refusal :=
  match i with
  | .nop core ctx w => Sys2Proof.Machine.execNop core ctx w s
  | .wait core ctx w => Sys2Proof.Machine.execWait core ctx w s
  | .waitSatisfied core ctx => Sys2Proof.Machine.execWaitSatisfied core ctx s
  | .signal core ctx w => Sys2Proof.Machine.execSignal core ctx w s
  | .readyCounterAdvance core ctx => Sys2Proof.Machine.execReadyCounterAdvance core ctx s
  | .period core ctx w => Sys2Proof.Machine.execPeriod core ctx w s
  | .dmaTransfer core ctx w => Sys2Proof.Machine.execDmaTransfer core ctx w s
  | .persist core ctx w => Sys2Proof.Machine.execPersist core ctx w s
  | .rearm core ctx w => Sys2Proof.Machine.execRearm core ctx w s
  | .stop core ctx w => Sys2Proof.Machine.execStop core ctx w s
  | .vecMicroprogram core ctx w => Sys2Proof.Machine.execVecMicroprogram core ctx w s
  | .boxDecoding core ctx w => Sys2Proof.Machine.execBoxDecoding core ctx w s
  | .entEncode core ctx w => Sys2Proof.Machine.execEntEncode core ctx w s
  | .entDecode core ctx w => Sys2Proof.Machine.execEntDecode core ctx w s
  | .tableLoad core ctx w => Sys2Proof.Machine.execTableLoad core ctx w s
  | .tableLoadEnd core => Sys2Proof.Machine.execTableLoadEnd core s
  | .encodeJobEnd core => Sys2Proof.Machine.execEncodeJobEnd core s
  | .rateUpdate core ctx => Sys2Proof.Machine.execRateUpdate core ctx s
  | .motSearch core ctx w => Sys2Proof.Machine.execMotSearch core ctx w s
  | .motCompensate core ctx w => Sys2Proof.Machine.execMotCompensate core ctx w s
  | .blockRowStart core => Sys2Proof.Machine.execBlockRowStart core s
  | .ldw core ctx w => Sys2Proof.Machine.execLdw core ctx w s
  | .chainPartArrival core => Sys2Proof.Machine.execChainPartArrival core s
  | .mmaStart core ctx w => Sys2Proof.Machine.execMmaStart core ctx w s
  | .mmaCont core ctx w => Sys2Proof.Machine.execMmaCont core ctx w s
  | .mmaEmit core ctx w => Sys2Proof.Machine.execMmaEmit core ctx w s
  | .mmaHead core ctx w => Sys2Proof.Machine.execMmaHead core ctx w s
  | .drain core ctx w => Sys2Proof.Machine.execDrain core ctx w s
  | .cslot core ctx w => Sys2Proof.Machine.execCslot core ctx w s
  | .combineRecord core rec => Sys2Proof.Machine.execCombineRecord core rec s
  | .endTask core ctx w => Sys2Proof.Machine.execEndTask core ctx w s
  | .microNop core w => Sys2Proof.Machine.execMicroNop core w s
  | .microEnd core w => Sys2Proof.Machine.execMicroEnd core w s
  | .loop core w => Sys2Proof.Machine.execLoop core w s
  | .ld core w => Sys2Proof.Machine.execLd core w s
  | .st core w => Sys2Proof.Machine.execSt core w s
  | .ldp core w => Sys2Proof.Machine.execLdp core w s
  | .movi core w => Sys2Proof.Machine.execMovi core w s
  | .mov core w => Sys2Proof.Machine.execMov core w s
  | .sel core w => Sys2Proof.Machine.execSel core w s
  | .iadd core w => Sys2Proof.Machine.execIadd core w s
  | .isub core w => Sys2Proof.Machine.execIsub core w s
  | .imul core w => Sys2Proof.Machine.execImul core w s
  | .ishr core w => Sys2Proof.Machine.execIshr core w s
  | .ishl core w => Sys2Proof.Machine.execIshl core w s
  | .imax core w => Sys2Proof.Machine.execImax core w s
  | .imin core w => Sys2Proof.Machine.execImin core w s
  | .iclip core w => Sys2Proof.Machine.execIclip core w s
  | .icmp core w => Sys2Proof.Machine.execIcmp core w s
  | .idiv core w => Sys2Proof.Machine.execIdiv core w s
  | .tbl core w => Sys2Proof.Machine.execTbl core w s
  | .exp2q core w => Sys2Proof.Machine.execExp2q core w s
  | .log2q core w => Sys2Proof.Machine.execLog2q core w s
  | .rsqrtq core w => Sys2Proof.Machine.execRsqrtq core w s
  | .fadd core w => Sys2Proof.Machine.execFadd core w s
  | .fsub core w => Sys2Proof.Machine.execFsub core w s
  | .fmul core w => Sys2Proof.Machine.execFmul core w s
  | .fma core w => Sys2Proof.Machine.execFma core w s
  | .fmax core w => Sys2Proof.Machine.execFmax core w s
  | .fmin core w => Sys2Proof.Machine.execFmin core w s
  | .fcmp core w => Sys2Proof.Machine.execFcmp core w s
  | .fcvt core w => Sys2Proof.Machine.execFcvt core w s
  | .ftoi core w => Sys2Proof.Machine.execFtoi core w s
  | .itof core w => Sys2Proof.Machine.execItof core w s
  | .fdiv core w => Sys2Proof.Machine.execFdiv core w s
  | .exp2f core w => Sys2Proof.Machine.execExp2f core w s
  | .log2f core w => Sys2Proof.Machine.execLog2f core w s
  | .rcpf core w => Sys2Proof.Machine.execRcpf core w s
  | .rsqrtf core w => Sys2Proof.Machine.execRsqrtf core w s
  | .rsum core w => Sys2Proof.Machine.execRsum core w s
  | .rmax core w => Sys2Proof.Machine.execRmax core w s
  | .rmin core w => Sys2Proof.Machine.execRmin core w s
  | .aclr core w => Sys2Proof.Machine.execAclr core w s
  | .aget core w => Sys2Proof.Machine.execAget core w s
  | .agetd core w => Sys2Proof.Machine.execAgetd core w s
  | .rdot core w => Sys2Proof.Machine.execRdot core w s
  | .creditSlotDone core who => Sys2Proof.Machine.execCreditSlotDone core who s
  | .transferComplete core ctx => Sys2Proof.Machine.execTransferComplete core ctx s
  | .passBoundary core slot => Sys2Proof.Machine.execPassBoundary core slot s
  | .dmaRearm core value => Sys2Proof.Machine.execDmaRearm core value s
  | .taskStart activity => Sys2Proof.Machine.execTaskStart activity s
  | .periodicStart core row => Sys2Proof.Machine.execPeriodicStart core row s
  | .taskOverrun core ctx => Sys2Proof.Machine.execTaskOverrun core ctx s
  | .periodBoundary => Sys2Proof.Machine.execPeriodBoundary s
  | .boundaryTaken domain => Sys2Proof.Machine.execBoundaryTaken domain s
  | .validate => Sys2Proof.Machine.execValidate s
  | .load drainMs => Sys2Proof.Machine.execLoad drainMs s
  | .cancel => Sys2Proof.Machine.execCancel s
  | .validationEnd => Sys2Proof.Machine.execValidationEnd s
  | .drainLimit => Sys2Proof.Machine.execDrainLimit s
  | .drainEnd => Sys2Proof.Machine.execDrainEnd s
  | .applyEnd memError => Sys2Proof.Machine.execApplyEnd memError s
  | .entryRead index => Sys2Proof.Machine.execEntryRead index s
  | .entryWrite index => Sys2Proof.Machine.execEntryWrite index s
  | .entryCreate index => Sys2Proof.Machine.execEntryCreate index s
  | .entryInvalidate index => Sys2Proof.Machine.execEntryInvalidate index s
  | .doorbell ring index => Sys2Proof.Machine.execDoorbell ring index s
  | .ringEnable ring session => Sys2Proof.Machine.execRingEnable ring session s
  | .runTask ring => Sys2Proof.Machine.execRunTask ring s
  | .forceKey ring => Sys2Proof.Machine.execForceKey ring s
  | .writeEndUnit ring => Sys2Proof.Machine.execWriteEndUnit ring s
  | .retry ring => Sys2Proof.Machine.execRetry ring s
  | .skip ring => Sys2Proof.Machine.execSkip ring s
  | .ringStall ring => Sys2Proof.Machine.execRingStall ring s
  | .mediaDatagram port frame => Sys2Proof.Machine.execMediaDatagram port frame s
  | .assemblyTimeout port ring => Sys2Proof.Machine.execAssemblyTimeout port ring s
  | .egressItem ring => Sys2Proof.Machine.execEgressItem ring s
  | .egressFrame port queue => Sys2Proof.Machine.execEgressFrame port queue s
  | .gclChange port => Sys2Proof.Machine.execGclChange port s
  | .gclConfigApply port => Sys2Proof.Machine.execGclConfigApply port s
  | .gateIntervalEnd port => Sys2Proof.Machine.execGateIntervalEnd port s
  | .streamGateIntervalEnd port gate => Sys2Proof.Machine.execStreamGateIntervalEnd port gate s
  | .recoveryReset port index => Sys2Proof.Machine.execRecoveryReset port index s
  | .ethTableRead port table index => Sys2Proof.Machine.execEthTableRead port table index s
  | .ethTableWrite port table index => Sys2Proof.Machine.execEthTableWrite port table index s
  | .arpRequest port frame => Sys2Proof.Machine.execArpRequest port frame s
  | .neighborSolicitation port frame => Sys2Proof.Machine.execNeighborSolicitation port frame s
  | .icmpEchoRequest port frame => Sys2Proof.Machine.execIcmpEchoRequest port frame s
  | .sync port origin offset => Sys2Proof.Machine.execSync port origin offset s
  | .pdelayRequest port frame => Sys2Proof.Machine.execPdelayRequest port frame s
  | .syncReceiptTimeout => Sys2Proof.Machine.execSyncReceiptTimeout s
  | .hello port frame => Sys2Proof.Machine.execHello port frame s
  | .close port frame => Sys2Proof.Machine.execClose port frame s
  | .ack port frame => Sys2Proof.Machine.execAck port frame s
  | .read port frame => Sys2Proof.Machine.execRead port frame s
  | .write port frame => Sys2Proof.Machine.execWrite port frame s
  | .submit port frame => Sys2Proof.Machine.execSubmit port frame s
  | .cons port frame => Sys2Proof.Machine.execCons port frame s
  | .xferImage port frame => Sys2Proof.Machine.execXferImage port frame s
  | .xferFirmware port frame => Sys2Proof.Machine.execXferFirmware port frame s
  | .challenge port frame => Sys2Proof.Machine.execChallenge port frame s
  | .auth port frame => Sys2Proof.Machine.execAuth port frame s
  | .report port frame => Sys2Proof.Machine.execReport port frame s
  | .getPart port frame => Sys2Proof.Machine.execGetPart port frame s
  | .unlock port frame => Sys2Proof.Machine.execUnlock port frame s
  | .lockDebug port frame => Sys2Proof.Machine.execLockDebug port frame s
  | .debugAccess port frame => Sys2Proof.Machine.execDebugAccess port frame s
  | .hcpRetransmit session => Sys2Proof.Machine.execHcpRetransmit session s
  | .hcpAckTimer session => Sys2Proof.Machine.execHcpAckTimer session s
  | .sessionIdle session => Sys2Proof.Machine.execSessionIdle session s
  | .fabricFrameRx link frame => Sys2Proof.Machine.execFabricFrameRx link frame s
  | .sendSlot link => Sys2Proof.Machine.execSendSlot link s
  | .forwardSlot link => Sys2Proof.Machine.execForwardSlot link s
  | .beaconSlot link => Sys2Proof.Machine.execBeaconSlot link s
  | .frameRto link => Sys2Proof.Machine.execFrameRto link s
  | .laneCheckEnd link errors => Sys2Proof.Machine.execLaneCheckEnd link errors s
  | .trainRetry link => Sys2Proof.Machine.execTrainRetry link s
  | .laneLockLoss link => Sys2Proof.Machine.execLaneLockLoss link s
  | .lockLossTimeout link => Sys2Proof.Machine.execLockLossTimeout link s
  | .postLoadLinkCheck link => Sys2Proof.Machine.execPostLoadLinkCheck link s
  | .routeSwitch => Sys2Proof.Machine.execRouteSwitch s
  | .declare link => Sys2Proof.Machine.execDeclare link s
  | .peek link word => Sys2Proof.Machine.execPeek link word s
  | .eventArrival source info => Sys2Proof.Machine.execEventArrival source info s
  | .claimSlotFill => Sys2Proof.Machine.execClaimSlotFill s
  | .fastMret p => Sys2Proof.Machine.execFastMret p s
  | .wfi p => Sys2Proof.Machine.execWfi p s
  | .coalTimer p => Sys2Proof.Machine.execCoalTimer p s
  | .evcClaim p => Sys2Proof.Machine.execEvcClaim p s
  | .evcFclaim p => Sys2Proof.Machine.execEvcFclaim p s
  | .evcComplete p value => Sys2Proof.Machine.execEvcComplete p value s
  | .evcPendset word value => Sys2Proof.Machine.execEvcPendset word value s
  | .evcPendclr word value => Sys2Proof.Machine.execEvcPendclr word value s
  | .evcMaskset word value => Sys2Proof.Machine.execEvcMaskset word value s
  | .evcMaskclr word value => Sys2Proof.Machine.execEvcMaskclr word value s
  | .evcCfgWrite source value => Sys2Proof.Machine.execEvcCfgWrite source value s
  | .evcSwset value => Sys2Proof.Machine.execEvcSwset value s
  | .evcBudWrite p limit => Sys2Proof.Machine.execEvcBudWrite p limit s
  | .watchdogStage1 p => Sys2Proof.Machine.execWatchdogStage1 p s
  | .watchdogStage2 p => Sys2Proof.Machine.execWatchdogStage2 p s
  | .kick p => Sys2Proof.Machine.execKick p s
  | .controlSpaceTimeout p => Sys2Proof.Machine.execControlSpaceTimeout p s
  | .mgtRestart => Sys2Proof.Machine.execMgtRestart s
  | .fwVerify => Sys2Proof.Machine.execFwVerify s
  | .fwVerifyEnd => Sys2Proof.Machine.execFwVerifyEnd s
  | .fwCommit => Sys2Proof.Machine.execFwCommit s
  | .fwProgramEnd readBackOk => Sys2Proof.Machine.execFwProgramEnd readBackOk s
  | .fwActivate => Sys2Proof.Machine.execFwActivate s
  | .install => Sys2Proof.Machine.execInstall s
  | .sealKey slot => Sys2Proof.Machine.execSeal slot s
  | .unsealKey => Sys2Proof.Machine.execUnseal s
  | .erase slot => Sys2Proof.Machine.execErase slot s
  | .ownerUpdate => Sys2Proof.Machine.execOwnerUpdate s
  | .tamperFire sensor => Sys2Proof.Machine.execTamperFire sensor s
  | .drbgReseed => Sys2Proof.Machine.execDrbgReseed s
  | .seedBankClose => Sys2Proof.Machine.execSeedBankClose s
  | .retire loc => Sys2Proof.Machine.execRetire loc s
  | .faultEvent loc uncorrectable => Sys2Proof.Machine.execFaultEvent loc uncorrectable s
  | .repairCopyEnd loc => Sys2Proof.Machine.execRepairCopyEnd loc s
  | .repairSwitch loc => Sys2Proof.Machine.execRepairSwitch loc s
  | .periodicTest failed => Sys2Proof.Machine.execPeriodicTest failed s
  | .rotation core => Sys2Proof.Machine.execRotation core s
  | .targetedTestEnd loc failed => Sys2Proof.Machine.execTargetedTestEnd loc failed s
  | .bistEnd failed => Sys2Proof.Machine.execBistEnd failed s
  | .repClassWrite cls value => Sys2Proof.Machine.execRepClassWrite cls value s
  | .flushTimer => Sys2Proof.Machine.execFlushTimer s
  | .flush => Sys2Proof.Machine.execFlush s
  | .flushDone => Sys2Proof.Machine.execFlushDone s
  | .recordSample temp volts => Sys2Proof.Machine.execRecordSample temp volts s
  | .fire => Sys2Proof.Machine.execFire s
  | .release => Sys2Proof.Machine.execRelease s
  | .unfreeze => Sys2Proof.Machine.execUnfreeze s
  | .armAt => Sys2Proof.Machine.execArmAt s
  | .disarm => Sys2Proof.Machine.execDisarm s
  | .instantReached => Sys2Proof.Machine.execInstantReached s
  | .shutterLatch block => Sys2Proof.Machine.execShutterLatch block s
  | .firingComplete => Sys2Proof.Machine.execFiringComplete s
  | .standby drainMs => Sys2Proof.Machine.execStandby drainMs s
  | .standbyDrainEnd => Sys2Proof.Machine.execStandbyDrainEnd s
  | .active => Sys2Proof.Machine.execActive s
  | .activeComplete => Sys2Proof.Machine.execActiveComplete s
  | .powerOn => Sys2Proof.Machine.execPowerOn s
  | .powerLoss => Sys2Proof.Machine.execPowerLoss s
  | .rstNAssert samples => Sys2Proof.Machine.execRstNAssert samples s
  | .rstNRelease samples => Sys2Proof.Machine.execRstNRelease samples s
  | .thermalSample temps => Sys2Proof.Machine.execThermalSample temps s
  | .throttleInterval watts => Sys2Proof.Machine.execThrottleInterval watts s
  | .pllLockLoss => Sys2Proof.Machine.execPllLockLoss s
  | .lowHalfRead requester addr => Sys2Proof.Machine.execLowHalfRead requester addr s
  | .registerWrite addr value size => Sys2Proof.Machine.execRegisterWrite addr value size s
  | .fibreLightGained link => Sys2Proof.Machine.execFibreLightGained link s
  | .portLinkStateChange port up => Sys2Proof.Machine.execPortLinkStateChange port up s
  | .unscheduledFrame link => Sys2Proof.Machine.execUnscheduledFrame link s
  | .streamGateConfigApply port gate => Sys2Proof.Machine.execStreamGateConfigApply port gate s
  | .fastContextException p => Sys2Proof.Machine.execFastContextException p s
  | .controlMemoryUe => Sys2Proof.Machine.execControlMemoryUe s
  | .registerFileParity p => Sys2Proof.Machine.execRegisterFileParity p s
  | .otherFrame port frame => Sys2Proof.Machine.execOtherFrame port frame s

end Sys2Proof.Machine
end

