-- ==== Sys2Proof/Machine/Tick.lean ====
section
/-! DEFINITION. One TCLK cycle with no command (R323, R485; log entry 7). -/

namespace Sys2Proof.Machine

/-- The time base advances by its increment while the device is out of Reset and Off; nothing else moves without a command
(R323, R485). -/
def tick (s : State) : State :=
  if mgmtOn s then s.setPow { s.pow with tbAcc := s.pow.tbAcc + s.pow.tbInc } else s

end Sys2Proof.Machine
end

