-- ==== Sys2Proof/Safety.lean ====
section
/-! DEFINITION. What counts as a safe run: every command that the device takes leads to a next state. -/

namespace Sys2Proof.Safety

open Sys2Proof.Machine

/-- The outcome is a next state. -/
def answersNext (o : Host.Outcome State Fault Refusal) : Prop := ∃ t, o = .next t

/-- `k` steps from `s` reach `t` with no fault and no refusal. -/
inductive Runs : Nat → State → State → Prop where
  | done (s : State) : Runs 0 s s
  | more (k : Nat) (s t u : State) (h : step s = .next t) (r : Runs k t u) : Runs (k + 1) s u

/-! ### Frames, in the terms that the statements use -/

/-- From `s` to `t` only control-space words at the addresses `ws` may differ: every other word and all other state is as it was. -/
def OnlyWords (ws : List Nat) (s t : State) : Prop := t = s.setCtl t.ctl ∧ ∀ a, a ∉ ws → rd32 t a = rd32 s a

/-- From `s` to `t` only core `n` and the control-space words at `ws` may differ. -/
def OnlyCore (n : Nat) (ws : List Nat) (s t : State) : Prop :=
  t = (s.setCtl t.ctl).setCores t.cores ∧ (∀ m, m ≠ n → Machine.core t m = Machine.core s m) ∧ ∀ a, a ∉ ws → rd32 t a = rd32 s a

/-- From `s` to `t` only context `c` of core `n` and the control-space words at `ws` may differ. -/
def OnlyCtx (n c : Nat) (ws : List Nat) (s t : State) : Prop :=
  OnlyCore n ws s t ∧ Machine.core t n = { Machine.core s n with ctxs := (Machine.core t n).ctxs } ∧ ∀ d, d ≠ c → ctxOf t n d = ctxOf s n d

/-- A lane-wise micro-instruction `i` of core `n` completes from `s` with the results and conditions `f`: lanes of its destination that are
active take their result and every other lane of every register stays, the conditions of the active lanes are ORed into VEC_NUMSTS, the
micro-program goes on, and no memory, predicate, accumulator or other core changes. -/
def WritesLanes (n : Nat) (w : W64) (i : Instr) (f : Nat → W64 × NumFlags) (s : State) : Prop :=
  ∃ t, exec i s = .next t ∧
    (∀ r l, l < 128 → lane (vec t n) r l = if r = uVd w ∧ activeLane (vec s n) w l = true then (f l).1 else lane (vec s n) r l) ∧
    rd32 t (coreBase n 2 + 0x80) =
      (rd32 s (coreBase n 2 + 0x80) ||| ((List.range 128).filter (activeLane (vec s n) w)).foldl (fun g l => g ||| (f l).2) 0) % 2 ^ 32 ∧
    (vec t n).p = (vec s n).p ∧ (vec t n).ac = (vec s n).ac ∧ t.mem = s.mem ∧ ∀ m, m ≠ n → Machine.core t m = Machine.core s m

/-! ### Unit instructions (R65) -/

/-- The word `w` of context `c` of core `n` is due with opcode `op`, and unit `u` is free to begin it at once: nothing waits in its queue and
it executes nothing. -/
abbrev UnitFree (s : State) (n c : Nat) (w : W128) (op u : Nat) : Prop :=
  canIssue s n c w op = true ∧ unitQueue s n u = [] ∧ unitBusy s n u = false

/-- The instruction `i` reaches unit `u` in issue order. At the head of the queue of a unit that is ready for it, it leaves the queue and
`run` is its effect. Otherwise nothing is issued while its context may not issue it, it is refused while its activity has no budget of
resource `r`, joins the queue while others stand there or the unit is not ready, and else begins at once. -/
def IssuesInOrder (i : Instr) (n c : Nat) (w : W128) (op u r : Nat) (ready adm : Bool) (run : State → State) (s : State) : Prop :=
  ((atHead s n c u w && ready) = true → exec i s = .next (run (setUnitQueue s n u (unitQueue s n u).tail))) ∧
  ((atHead s n c u w && ready) = false →
    (canIssue s n c w op = false ∨ mayQueue s n c u = false → exec i s = .next (notIssued s n c)) ∧
    (canIssue s n c w op = true → mayQueue s n c u = true →
      (adm = false → exec i s = .next (refused s (ctxActivity s n c) r)) ∧
      (adm = true → unitQueue s n u ≠ [] ∨ ready = false → exec i s = .next (joinQueue s n c u w)) ∧
      (adm = true → unitQueue s n u = [] → ready = true → exec i s = .next (run (nextPc s n c)))))

/-! ### HCP messages (R377 to R379) -/

/-- A frame at host port `p` that carries the message `d` of the open session `k`, whose state is `x`. -/
def CarriesMessage (s : State) (p : Nat) (frame d : List Byte) (k : Nat) (x : Session) : Prop :=
  portUp s p = true ∧ 8 ≤ p ∧ mSession d = k ∧ session s k = some x ∧
    ∃ i, packetFor s p (parseFrame frame) = some i ∧ udpData i (hcpUdp s) = some d

/-- A request `d` of session `k` is next in order: `u` and `y` are the device and the session once its receipt and its acknowledgement are
noted. -/
def RequestInOrder (s : State) (k : Nat) (d : List Byte) (x : Session) (u : State) (y : Session) : Prop :=
  u = (if bit (mFlags d) 1 then ackMessages (setSession s k (some { x with lastRx := tb s })) k (mAck d)
    else setSession s k (some { x with lastRx := tb s })) ∧
  session u k = some y ∧ headOk d = true ∧ bit (mFlags d) 0 = false ∧ mType d ≠ 3 ∧ mSeq d = y.rxSeq + 1 ∧
  (mType d = 1 ∨ (beAt d 2 1 = y.verMaj ∧ beAt d 3 1 = y.verMin))

/-- The command `i` executes that request with the status, body and device of `a`, and answers it; what waited behind it follows. -/
def Answers (i : Instr) (s : State) (k : Nat) (d : List Byte) (y : Session) (a : Answer) : Prop :=
  exec i s = .next (drainEarly (hcpAnswer (portCode a.2.2 y.port a.1) k (mType d) 1 a.1 a.2.1 (y.rxSeq + 1)) k 64)

/-- Memory keeps its canonical form from `s` to `t`. -/
def MemoryFormKept (s t : State) : Prop := s.mem.wf = true → t.mem.wf = true

end Sys2Proof.Safety
end

