-- ==== Sys2Proof/Certificates/Slice0/Obligations.lean ====
section
/-! DEFINITION. Statements about the H8, for the provers. -/

open Sys2Proof Sys2Proof.Machine Sys2Proof.Safety

/-! ### The queue, the tick and reset -/

/-- The command at the front of the queue runs on the state with the queue's rest (log entry 7 says what an empty queue does). -/
def Obligations.StepRunsTheFrontCommand : Prop :=
  ∀ (c : Instr) (rest : List Instr) (s : State), step { s with pending := c :: rest } = exec c { s with pending := rest }

/-- On an empty queue one TCLK cycle passes: out of Reset and Off the time base gains its increment, and nothing else moves. That a step
on an empty queue is one cycle is the model's choice (log entry 7). -/
def Obligations.EmptyQueueIsOneTclkCycle : Prop :=
  ∀ s : State, s.pending = [] →
    (mgmtOn s = true → step s = .next { s with pow := { s.pow with tbAcc := s.pow.tbAcc + s.pow.tbInc } }) ∧
    (mgmtOn s = false → step s = .next s)

/-- Every command leads to a next state: no command faults and none is refused.
No row of the table has bits, so no word spells a command, and a fetch word changes nothing. -/
def Obligations.EveryCommandCompletesAndNoWordSpellsOne : Prop :=
  (∀ (c : Instr) (s : State), ∃ t, exec c s = .next t) ∧
  (∀ nbits w : Nat, decodeTableWord nbits w = none ∧ ∀ s : State, s.withFetchWord nbits w = s)

/-! ### What every step keeps -/

/-- Memory, bad words and blocks included, keeps its canonical form over every step. -/
def Obligations.StepKeepsMemoryForm : Prop := ∀ s t : State, s.mem.wf = true → step s = .next t → t.mem.wf = true

/-- What reset leaves: the device in Reset, every control-space word at its reset value, no memory, table, task, session or key, and
nothing waiting.
Reset memory has the canonical form, and the prefix counter of reset lies within what flash has reserved. -/
def Obligations.ResetLeavesTheInvariants : Prop :=
  (State.reset.pow.st = .reset ∧ (∀ a, rd32 State.reset a = (resetWord a).toNat) ∧ State.reset.mem = {} ∧ runningTasks State.reset = [] ∧
  State.reset.str.ready = [] ∧ State.reset.drk.keys = [] ∧ State.reset.eth.sessions = [] ∧ State.reset.owner = [] ∧ State.reset.pending = [] ∧
  mgmtOn State.reset = false ∧ codecOn State.reset = false) ∧
  (State.reset.mem.wf = true ∧ State.reset.drk.next ≤ State.reset.flash.prefixEnd)

/-- The minimum security versions of images and of firmware never fall, whatever the command: neither an owner record, nor its removal,
nor an ownership reset lowers one. -/
def Obligations.StepNeverLowersAMinimumVersion : Prop :=
  ∀ s t : State, step s = .next t → imgMinSvn s ≤ imgMinSvn t ∧ fwMinSvn s ≤ fwMinSvn t

/-- The repair journal only grows: over every step each entry keeps its place and everything but its STATE. -/
def Obligations.StepOnlyAppendsToTheJournal : Prop :=
  ∀ s t : State, step s = .next t →
    s.flash.journal.map (fun e => { e with applied := false }) <+: t.flash.journal.map (fun e => { e with applied := false })

/-- The IV prefix counter stays within the values that flash has reserved, and flash never takes a reservation back. -/
def Obligations.StepKeepsPrefixesReserved : Prop :=
  ∀ s t : State, s.drk.next ≤ s.flash.prefixEnd → step s = .next t → t.drk.next ≤ t.flash.prefixEnd ∧ s.flash.prefixEnd ≤ t.flash.prefixEnd

/-- Every step takes the front command and no other, uses free values in rising order, and takes back nothing that has left the
device. These are the model's own queue, counter and record (log entries 3, 6 and 7). -/
def Obligations.StepTakesOneCommandAndReusesNothing : Prop :=
  ∀ s t : State, step s = .next t → t.pending = s.pending.tail ∧ s.freeIdx ≤ t.freeIdx ∧ s.out <:+ t.out

/-- The device never leaves Off or Reset by itself: it leaves Off only when power is applied, and Reset only at the release of RST_N (or
when power is lost, into Off). -/
def Obligations.OnlyPowerAndRstNLeaveOffAndReset : Prop :=
  ∀ (c : Instr) (s t : State), exec c s = .next t →
    (s.pow.st = .off → t.pow.st ≠ .off → c = .powerOn) ∧
    (s.pow.st = .reset → t.pow.st ≠ .reset → (∃ k, c = .rstNRelease k) ∨ c = .powerLoss)

/-! ### Sequencer instructions -/

/-- NOP and PERIOD: NOP moves the context to its next instruction and does nothing else; PERIOD holds the context, shown as ACTIVE and
WAITING, and moves no PC. -/
def Obligations.NopAndPeriodComplete : Prop :=
  ∀ (n c : Nat) (w : W128) (s : State),
    (canIssue s n c w 0x01 = true →
      ∃ t, exec (.nop n c w) s = .next t ∧ pcOf t n c = (pcOf s n c + 1) % 2 ^ 14 ∧ OnlyWords [coreBase n 0 + 0x80 + 8 * c] s t) ∧
    (canIssue s n c w 0x04 = true →
      ∃ t, exec (.period n c w) s = .next t ∧ ctxOf t n c = { ctxOf s n c with hold := .period } ∧
        rd32 t (coreBase n 0 + 0x40) = setBit (setBit (rd32 s (coreBase n 0 + 0x40)) c true) (8 + c) true % 2 ^ 32 ∧
        OnlyCtx n c [coreBase n 0 + 0x40] s t)

/-- WAIT on a semaphore: with the target reached, the semaphore loses VALUE and the context goes on; otherwise nothing is subtracted and
the context is held until the target is reached. A VALUE of 0 completes at once.
WAIT on a counter in the store, under the signed comparison of R108: reached, the context goes on; not reached, it is held; a counter
that cannot be read aborts the task. Nothing is written to the counter.
A held WAIT whose target is reached releases its context, which goes on after the instruction: a semaphore then loses VALUE. While
the target is not reached nothing changes. -/
def Obligations.WaitsEndAtTheirTarget : Prop :=
  (∀ (n c : Nat) (w : W128) (s : State), c < 8 → canIssue s n c w 0x02 = true →
    (wsValue w = 0 → exec (.wait n c w) s = .next (nextPc s n c)) ∧
    (wsValue w ≠ 0 → wsTarget w = 0 → wsValue w ≤ semOf s n (wsSem w) →
      ∃ t, exec (.wait n c w) s = .next t ∧ semOf t n (wsSem w) = semOf s n (wsSem w) - wsValue w ∧
        pcOf t n c = (pcOf s n c + 1) % 2 ^ 14 ∧ OnlyWords [coreBase n 0 + 0x80 + 8 * c, coreBase n 0 + 0x100 + 4 * wsSem w] s t) ∧
    (wsValue w ≠ 0 → wsTarget w = 0 → semOf s n (wsSem w) < wsValue w →
      ∃ t, exec (.wait n c w) s = .next t ∧ ctxOf t n c = { ctxOf s n c with hold := .sem (wsSem w) (wsValue w) } ∧
        OnlyCtx n c [coreBase n 0 + 0x40] s t)) ∧
  (∀ (n c : Nat) (w : W128) (s : State), canIssue s n c w 0x02 = true → wsValue w ≠ 0 → wsTarget w = 1 →
    (∀ bs, storeRead s n (wsAddr w) 4 = .ok bs → toSigned 32 ((leNat bs + (2 ^ 32 - wsValue w)) % 2 ^ 32) ≥ 0 →
      exec (.wait n c w) s = .next (nextPc s n c)) ∧
    (∀ bs, storeRead s n (wsAddr w) 4 = .ok bs → toSigned 32 ((leNat bs + (2 ^ 32 - wsValue w)) % 2 ^ 32) < 0 →
      exec (.wait n c w) s = .next (holdCtx s n c (.counter (wsAddr w) (wsValue w)) true)) ∧
    (∀ a, storeRead s n (wsAddr w) 4 = .error a → exec (.wait n c w) s = .next (abortTask s n c a.code))) ∧
  (∀ (n c : Nat) (s : State), codecOn s = true →
    (∀ i v, (ctxOf s n c).hold = .sem i v → v ≤ semOf s n i →
      ∃ t, exec (.waitSatisfied n c) s = .next t ∧ (ctxOf t n c).hold = .none ∧
        t = nextPc (setSeqStatus (setCtx (setSem s n i (semOf s n i - v)) n c { ctxOf s n c with hold := .none }) n c true false) n c) ∧
    (∀ i v, (ctxOf s n c).hold = .sem i v → semOf s n i < v → exec (.waitSatisfied n c) s = .next s) ∧
    (∀ a v bs, (ctxOf s n c).hold = .counter a v → storeRead s n a 4 = .ok bs → reached (leNat bs) v = true →
      exec (.waitSatisfied n c) s = .next (nextPc (setSeqStatus (setCtx s n c { ctxOf s n c with hold := .none }) n c true false) n c)) ∧
    (∀ a v bs, (ctxOf s n c).hold = .counter a v → storeRead s n a 4 = .ok bs → reached (leNat bs) v = false →
      exec (.waitSatisfied n c) s = .next s))

/-- SIGNAL of a semaphore: the semaphore gains VALUE; above 65,535 it stays there and the task is aborted with sem-overflow. SIGNAL of a
counter is held until the context's earlier work is complete.
A held SIGNAL of a counter: while the context has work on another unit nothing changes; then the counter gains VALUE modulo 2^32 in
its four bytes, no other byte of any store or of HBM changes, its value before the task's first advance is kept, and the context goes
on. -/
def Obligations.SignalsReachTheirCounters : Prop :=
  (∀ (n c : Nat) (w : W128) (s : State), canIssue s n c w 0x03 = true →
    (wsValue w = 0 → exec (.signal n c w) s = .next (nextPc s n c)) ∧
    (c < 8 → wsValue w ≠ 0 → wsTarget w = 0 → semOf s n (wsSem w) + wsValue w ≤ 65535 →
      ∃ t, exec (.signal n c w) s = .next t ∧ semOf t n (wsSem w) = semOf s n (wsSem w) + wsValue w ∧
        pcOf t n c = (pcOf s n c + 1) % 2 ^ 14 ∧ OnlyWords [coreBase n 0 + 0x80 + 8 * c, coreBase n 0 + 0x100 + 4 * wsSem w] s t) ∧
    (c < 8 → wsValue w ≠ 0 → wsTarget w = 0 → 65535 < semOf s n (wsSem w) + wsValue w →
      exec (.signal n c w) s = .next (abortTask (setSem (nextPc s n c) n (wsSem w) 65535) n c cSemOverflow)) ∧
    (wsValue w ≠ 0 → wsTarget w = 1 →
      exec (.signal n c w) s = .next (holdCtx s n c (.ready (wsAddr w) (wsValue w)) false))) ∧
  (∀ (n c a v : Nat) (s : State), codecOn s = true → (ctxOf s n c).hold = .ready a v →
    (hasWork s n c = true → exec (.readyCounterAdvance n c) s = .next s) ∧
    (∀ bs u k, hasWork s n c = false → storeRead s n a 4 = .ok bs → storeWrite s n a (leBytes 4 (leNat bs + v)) = .ok u →
      storeKey s n a = some k →
      ∃ t, exec (.readyCounterAdvance n c) s = .next t ∧
        t = resume (updTask u n c (fun x =>
          if x.counters.any (fun y => y.1 = k) then x else { x with counters := SMap.insert x.counters k (leNat bs) })) n c ∧
        storeRead t n a 4 = .ok (leBytes 4 (leNat bs + v)) ∧ t.mem.hbm = s.mem.hbm ∧
        ∀ j, (∀ i, i < 4 → storeKey s n (a + i) ≠ some j) → SMap.get 0 t.mem.store j = SMap.get 0 s.mem.store j))

/-! ### Transfers -/

/-- TRANSFER reaches the DMA engine in issue order. A free engine begins it with its descriptor latched: with credits, or while another run of
the core goes first, the transfer only starts; a descriptor or an input that cannot be read ends it; without credits every byte moves and the engine stays held. A stack without budget is charged
for the refusal and the transfer keeps what it has moved; a byte that cannot be read or written ends it as a fault. The last write
acknowledged frees the engine, clears DMA_STATUS and adds 1 to DSEM; an uncredited transfer that was held moves what is left first.
One credit of a transfer or of a persistent stream that no other run goes before: the semaphore that gives the credit loses 1, the bytes of
the slot move, the slot counts as done, and the other semaphore gains 1. With no credit, or with all slots done, nothing changes. -/
def Obligations.TransfersMoveTheirBytes : Prop :=
  (∀ (n c : Nat) (w : W128) (s : State), xKind w = 0 →
    IssuesInOrder (.dmaTransfer n c w) n c w 0x08 7 0 (!unitBusy s n 7) true (transferRun n c w) s) ∧
  (∀ (n c : Nat) (w : W128) (s u : State), codecOn s = true → xKind w = 0 → UnitFree s n c w 0x08 7 → u = nextPc s n c →
    (∀ r, openDesc u n c w = (r, none) → exec (.dmaTransfer n c w) s = .next r) ∧
    (∀ a, transferDesc s n (xDesc w) = .error a → openDesc u n c w = (dmaFault u n c (xDesc w) a, none)) ∧
    (∀ t d, taskOf s n c = some t → transferDesc s n (xDesc w) = .ok d → tSrel d ≠ 1 → tSrel d ≠ 2 → openDesc u n c w = (u, some (t, d)))) ∧
  (∀ (n c : Nat) (w : W128) (t : Task) (d : Nat) (s u v : State),
    codecOn s = true → xKind w = 0 → UnitFree s n c w 0x08 7 → openDesc (nextPc s n c) n c w = (u, some (t, d)) →
    v = setDmaActive (setTransfer u n c { desc := xDesc w, csem := xCsem w, dsem := xDsem w, run := newRun d }) n c true →
    (tSlotBytes d ≠ 0 ∨ dmaWaits v n c (t.activity % 4) = true → exec (.dmaTransfer n c w) s = .next v) ∧
    (∀ m, tSlotBytes d = 0 → dmaWaits v n c (t.activity % 4) = false → m = move v c (runOf n (newRun d) t) (tTotal d) (newRun d) →
      let left : State := setTransfer m.s n c { desc := xDesc w, csem := xCsem w, dsem := xDsem w, run := m.m }
      (m.refusedAt = none → m.err = none → exec (.dmaTransfer n c w) s = .next left) ∧
      (∀ st, m.refusedAt = some st → exec (.dmaTransfer n c w) s = .next (refused left t.activity (16 + st))) ∧
      (∀ a, m.refusedAt = none → m.err = some a → exec (.dmaTransfer n c w) s = .next (dmaFault left n c (xDesc w) a)))) ∧
  (∀ (n c : Nat) (t : Task) (x : Transfer) (s : State), taskOf s n c = some t → codecOn s = true → (ctxOf s n c).transfer = some x →
    ((tSlotBytes x.run.d = 0 ∧ x.run.closed = true ∨ tSlotBytes x.run.d ≠ 0 ∧ tCredits x.run.d ≤ x.run.done) →
      x.dsem < 64 → semOf s n x.dsem < 65535 →
      ∃ v, exec (.transferComplete n c) s = .next v ∧ semOf v n x.dsem = semOf s n x.dsem + 1 ∧
        ctxOf v n c = { ctxOf s n c with transfer := none } ∧
        OnlyCtx n c [coreBase n 6 + 0x40, coreBase n 0 + 0x100 + 4 * x.dsem] s v) ∧
    (∀ m, tSlotBytes x.run.d = 0 → x.run.closed = false → dmaWaits s n c (t.activity % 4) = false →
      m = move s c (runOf n x.run t) (tTotal x.run.d) x.run → m.refusedAt = none → m.err = none →
      exec (.transferComplete n c) s =
        .next (semSignal (setDmaActive (setCtx m.s n c { ctxOf m.s n c with transfer := none }) n c false) n c x.dsem 1))) ∧
  (∀ (n c p : Nat) (t : Task) (s : State), codecOn s = true →
    (∀ x m, c < 8 → taskOf s n c = some t → (ctxOf s n c).transfer = some x → tSlotBytes x.run.d ≠ 0 → dmaWaits s n c (t.activity % 4) = false →
      creditStep s c (runOf n x.run t) x.csem x.dsem x.run = some m → m.refusedAt = none → m.err = none →
      exec (.creditSlotDone n c) s = .next (semSignal (setTransfer m.s n c { x with run := m.m.slotDone }) n c
        (if tDrain m.m.d then x.csem else x.dsem) 1)) ∧
    (∀ x m, pstream s n p = some x → x.parked = false → taskOf s n x.ctx = some t → tSlotBytes x.run.d ≠ 0 →
      dmaWaits s n (8 + p) (t.activity % 4) = false → creditStep s x.ctx (runOf n x.run t) x.csem x.dsem x.run = some m →
      m.refusedAt = none → m.err = none →
      exec (.creditSlotDone n (8 + p)) s = .next (semSignal (setPstream m.s n p { x with run := m.m.slotDone }) n x.ctx
        (if tDrain m.m.d then x.csem else x.dsem) 1)) ∧
    (∀ x, c < 8 → taskOf s n c = some t → (ctxOf s n c).transfer = some x → x.run.opened = false →
      (tCredits x.run.d ≤ x.run.done ∨ semOf s n (if tDrain x.run.d then x.dsem else x.csem) = 0) → exec (.creditSlotDone n c) s = .next s) ∧
    (∀ r csem dsem (x : Mover), x.opened = false → x.done < tCredits r.d → 0 < semOf s r.n (if tDrain r.d then dsem else csem) →
      creditStep s c r csem dsem x = some (move (setSem s r.n (if tDrain r.d then dsem else csem)
        (semOf s r.n (if tDrain r.d then dsem else csem) - 1)) c r (creditEnd r.d x.done) { x with opened := true })))

/-- PERSIST, REARM and STOP reach the DMA engine in issue order, and a free engine begins them; DMA_REARM is a register. A stream starts in a
free slot and shows in DMA_STATUS and DMA_PST; a base set waits as PENDING and an earlier one still pending counts as an overrun; a stream
that is stopped ends after its pass; what names no stream is counted as discarded; a gated core ignores DMA_REARM.
A pass ends: without credits its bytes move once no other run of the core goes first, with credits they have moved; PASSES and DSEM gain 1;
a base set that waits is taken and PENDING clears, while the descriptor stays as the PERSIST latched it; a stream that is to stop ends and its
slot shows neither ACTIVE nor PENDING. -/
def Obligations.PersistentStreamsRunInPasses : Prop :=
  (∀ (n c : Nat) (w : W128) (s : State),
    (xKind w = 1 → IssuesInOrder (.persist n c w) n c w 0x08 7 0 (!unitBusy s n 7) true (persistRun n c w) s) ∧
    (xKind w = 2 → IssuesInOrder (.rearm n c w) n c w 0x08 7 0 (!unitBusy s n 7) true (rearmRun n c w) s) ∧
    (xKind w = 3 → IssuesInOrder (.stop n c w) n c w 0x08 7 0 (!unitBusy s n 7) true (stopRun n w) s)) ∧
  (∀ (n c : Nat) (w : W128) (v : W32) (d : Nat) (s u : State), u = nextPc s n c →
    (∀ r t, xKind w = 1 → UnitFree s n c w 0x08 7 → pstream s n (xSlot w) = none → openDesc u n c w = (r, some (t, d)) →
      exec (.persist n c w) s = .next (wr64 (wrBits (setPstream r n (xSlot w)
        { ctx := c, desc := xDesc w, csem := xCsem w, dsem := xDsem w, run := newRun d })
        (coreBase n 6 + 0x40) (16 + xSlot w) 1 1) (coreBase n 6 + 0x200 + 16 * xSlot w) (1 + c * 4 + xDesc w * 2 ^ 16))) ∧
    (∀ r, xKind w = 1 → UnitFree s n c w 0x08 7 → pstream s n (xSlot w) = none → openDesc u n c w = (r, none) →
      exec (.persist n c w) s = .next r) ∧
    (∀ x, xKind w = 1 → UnitFree s n c w 0x08 7 → pstream s n (xSlot w) = some x →
      exec (.persist n c w) s = .next (dmaFault u n c (xDesc w) ⟨cAddressRange, 0⟩)) ∧
    (xKind w = 2 → UnitFree s n c w 0x08 7 → descOf s n (xNdesc w) = .ok d →
      exec (.rearm n c w) s = .next (rearmSlot u n (xSlot w) (tSrc d) (tDst d))) ∧
    (codecOn s = true → coreClosed s n = false → descOf s n (bits v.toNat 16 16) = .ok d →
      exec (.dmaRearm n v) s = .next (rearmSlot s n (bits v.toNat 0 4) (tSrc d) (tDst d))) ∧
    (coreClosed s n = true → exec (.dmaRearm n v) s = .next s) ∧
    (∀ p x src dst, pstream s n p = some x → x.pending = false →
      rearmSlot s n p src dst = wrBits (setPstream s n p { x with nsrc := src, ndst := dst, pending := true }) (coreBase n 6 + 0x200 + 16 * p) 1 1 1) ∧
    (∀ x, xKind w = 3 → UnitFree s n c w 0x08 7 → pstream s n (xSlot w) = some x →
      exec (.stop n c w) s = .next (setPstream u n (xSlot w) { x with stopping := true })) ∧
    (xKind w = 3 → UnitFree s n c w 0x08 7 → pstream s n (xSlot w) = none →
      exec (.stop n c w) s = .next (count64 u (coreBase n 6 + 0x188) 1))) ∧
  (∀ (n p : Nat) (t : Task) (x : PStream) (s : State), codecOn s = true → pstream s n p = some x → x.parked = false →
    taskOf s n x.ctx = some t →
    (tSlotBytes x.run.d ≠ 0 → tCredits x.run.d ≤ x.run.done → exec (.passBoundary n p) s = .next (passEnd s n p x)) ∧
    (∀ m, tSlotBytes x.run.d = 0 → dmaWaits s n (8 + p) (t.activity % 4) = false →
      m = move s x.ctx (runOf n x.run t) (tTotal x.run.d) x.run → m.refusedAt = none → m.err = none →
      exec (.passBoundary n p) s = .next (passEnd m.s n p x)) ∧
    (x.stopping = true → passEnd s n p x = semSignal (endPstream (wrBits s (coreBase n 6 + 0x200 + 16 * p + 4) 0 32
      (rd32 s (coreBase n 6 + 0x200 + 16 * p + 4) + 1)) n p) n x.ctx x.dsem 1) ∧
    (x.stopping = false → x.pending = true → passEnd s n p x = semSignal (wrBits (setPstream
      (wrBits s (coreBase n 6 + 0x200 + 16 * p + 4) 0 32 (rd32 s (coreBase n 6 + 0x200 + 16 * p + 4) + 1)) n p
      { x with run := { newRun x.run.d with src := x.nsrc, dst := x.ndst }, pending := false, parked := frozen s (partOf s n) })
      (coreBase n 6 + 0x200 + 16 * p) 1 1 0) n x.ctx x.dsem 1))

/-! ### Tensor arrays -/

/-- LDW reaches its array in issue order: it waits in the queue while the shadow registers hold weights not yet swapped in or an earlier LDW is
still at the weight chain, and is refused without budget. A free array begins it: from the tile store it puts the tile into the shadow
registers, marks them loaded and charges the array; a tile that comes from the weight chain or is forwarded goes part by part, the array shown
as BUSY meanwhile.
A weight-chain part under way takes a free place of the chain buffer, oldest part first; with both places full it waits. An LDW that
waits for it takes it from there, and the previous core's LDW sends its next part. -/
def Obligations.WeightsAndChainPartsArrive : Prop :=
  (∀ (n c : Nat) (w : W128) (s u : State), u = nextPc s n c →
    IssuesInOrder (.ldw n c w) n c w 0x10 (mArray w) n (ldwReady s n w && !unitBusy s n (mArray w)) (admitted s (ctxActivity s n c) n)
      (ldwRun n c w) s ∧
    (UnitFree s n c w 0x10 (mArray w) → admitted s (ctxActivity s n c) n = true → ldwReady s n w = true →
      (∀ tile scales, ldwSrc w = false → ldwFwd w = false → readTile s n w = .ok (tile, scales) →
        ∃ t, exec (.ldw n c w) s = .next t ∧ SMap.get {} (Machine.core t n).arr.shadow (mArray w) = tileWeights w tile scales ∧
          t.mem = s.mem ∧
          t = chargeArray (setShadow u n (mArray w) (tileWeights w tile scales)) n c (gangArrays s n) (if ldwFmt w = 13 then 256 else 128)) ∧
      (∀ tile scales, ldwSrc w = false → ldwFwd w = true → readTile s n w = .ok (tile, scales) →
        exec (.ldw n c w) s = .next (chainOpen u n ⟨c, w, tile, scales, chainParts w tile scales⟩)) ∧
      (ldwSrc w = true → exec (.ldw n c w) s = .next (chainOpen u n ⟨c, w, [], [], []⟩)) ∧
      (∀ l : ChainLoad, chainOpen u n l = chainTake (aryState (setCore u n { Machine.core u n with
          arr := { (Machine.core u n).arr with chainLoad := some l } }) n 0 (mArray l.w) true) n 3))) ∧
  (∀ (n : Nat) (p : ChainPart) (rest : List ChainPart) (s : State), codecOn s = true → (Machine.core s n).arr.chainFly = p :: rest →
    ((Machine.core s n).arr.chainBuf.length < 2 → exec (.chainPartArrival n) s = .next (chainFeed (chainTake (setCore s n { Machine.core s n with
      arr := { (Machine.core s n).arr with chainFly := rest, chainBuf := (Machine.core s n).arr.chainBuf ++ [p] } }) n 3) n)) ∧
    ((Machine.core s n).arr.chainBuf.length < 2 → (Machine.core s n).arr.chainLoad = none →
      (∀ m, chainPrev s n = some m → (Machine.core s m).arr.chainLoad = none) →
      ∃ t, exec (.chainPartArrival n) s = .next t ∧ (Machine.core t n).arr.chainBuf = (Machine.core s n).arr.chainBuf ++ [p] ∧ (Machine.core t n).arr.chainFly = rest ∧
        OnlyCore n [] s t) ∧
    (2 ≤ (Machine.core s n).arr.chainBuf.length → exec (.chainPartArrival n) s = .next s))

/-- An MMA reaches its array in issue order. START and CONT, once every element of their rows can be read: the rows stream through the active
weights (swapped in first when SWAP is 1) into the bank, START from +0 and CONT from the bank, each entry by the pass of its column; no other
entry and no byte of HBM changes, the context goes on, and BANK_NEXTG names the group that follows. A CONT whose G_FIRST is not BANK_NEXTG
aborts the task with chain-order and streams nothing.
EMIT and HEAD, once every element of their rows can be read: the records of the pass go to the core or the channel that CTAG names, with the
conditions of the products noted here, and every bank of every core stays as it was; the context goes on. -/
def Obligations.MmaStreamsAndSendsRecords : Prop :=
  (∀ (n c : Nat) (w : W128) (s : State),
    let way (i : Instr) (run : State → State) : Prop :=
      IssuesInOrder i n c w 0x11 (mArray w) n (true && !unitBusy s n (mArray w)) (admitted s (ctxActivity s n c) n) run s
    (mmaMode w = 0 → way (.mmaStart n c w) (mmaBankMode n c w true)) ∧ (mmaMode w = 1 → way (.mmaCont n c w) (mmaBankMode n c w false)) ∧
    (mmaMode w = 2 → way (.mmaEmit n c w) (mmaSend n c w false)) ∧ (mmaMode w = 3 → way (.mmaHead n c w) (mmaSend n c w true))) ∧
  (∀ (n c : Nat) (w : W128) (d : Nat) (q : Pass) (s b r : State), UnitFree s n c w 0x11 (mArray w) → admitted s (ctxActivity s n c) n = true →
    b = mmaSwapIn (nextPc s n c) n w → descOf b n (mmaDesc w) = .ok d →
    q = passOf b n w d (SMap.get {} (Machine.core b n).arr.active (mArray w)) → r = writeBand b n (mmaDesc w) d q.firstGroup →
    let readable : Prop := ∀ m, m < mmaRows w → ∃ xs, rowElems r n d (dPosCur d + m) q = .ok xs
    let streams (i : Instr) (start : Bool) : Prop := ∃ t, exec i s = .next t ∧ nextG t n (mArray w) (mmaBank w) = q.next ∧
      (n < 8 → c < 8 → ctxActivity s n c < 32 → pcOf t n c = (pcOf s n c + 1) % 2 ^ 14) ∧ t.mem.hbm = s.mem.hbm ∧
      (∀ m j xs, m < mmaRows w → j < gangCols s n → rowElems r n d (dPosCur d + m) q = .ok xs →
        bankEntry t n (mArray w) (mmaBank w) (mmaRow0 w + m) j =
          q.apply xs (gangCols s n) j (if start then {} else bankEntry s n (mArray w) (mmaBank w) (mmaRow0 w + m) j)) ∧
      (∀ k, (∀ m j, m < mmaRows w → j < gangCols s n → k ≠ bankKey (mArray w) (mmaBank w) (mmaRow0 w + m) j) →
        SMap.get {} (Machine.core t n).arr.bank k = SMap.get {} (Machine.core s n).arr.bank k)
    let sends (i : Instr) (head : Bool) : Prop := ∃ rs f, emitRecords r n d q w head = .ok (rs, f) ∧
      exec i s = .next (mmaAfter (noteFlags (sendRecords r n q.path (mmaCtag w) rs) n c false f) n c w d q.wts.fmt)
    (mmaMode w = 0 → readable → streams (.mmaStart n c w) true) ∧
    (mmaMode w = 1 → readable → nextG s n (mArray w) (mmaBank w) = mmaGFirst w → streams (.mmaCont n c w) false) ∧
    (mmaMode w = 1 → nextG s n (mArray w) (mmaBank w) ≠ mmaGFirst w →
      exec (.mmaCont n c w) s = .next (abortTask (raise (nextPc s n c) (coreBase n 1) cChainOrder) n c cChainOrder)) ∧
    (mmaMode w = 2 → readable → sends (.mmaEmit n c w) false) ∧
    (mmaMode w = 3 → readable → sends (.mmaHead n c w) true) ∧
    (∀ m u rs, bit (mmaCtag w) 31 = false → (Machine.core (sendRecords u n q.path (mmaCtag w) rs) m).arr.bank = (Machine.core u m).arr.bank))

/-- DRAIN reaches its array in issue order and waits in the queue while a combine slot of its rows is open. A free array begins it: it
converts its rows and writes them through the output descriptor, advances the cursor, notes the numeric conditions and charges the array, and
the context goes on; a row that cannot be converted or written ends it as an address-generator fault. -/
def Obligations.DrainConvertsAndWrites : Prop :=
  ∀ (n c : Nat) (w : W128) (d p : Nat) (par : List Byte) (u v : State) (f : NumFlags) (s : State),
    IssuesInOrder (.drain n c w) n c w 0x12 (mArray w) n (!drainWaits s n w && !unitBusy s n (mArray w)) (admitted s (ctxActivity s n c) n)
      (drainRun n c w) s ∧
    (UnitFree s n c w 0x12 (mArray w) → admitted s (ctxActivity s n c) n = true → drainWaits s n w = false → v = nextPc s n c →
      (descOf s n (drDesc w) = .ok d → descOf s n (drPar w) = .ok p →
        storeRead s n (dBase p) (16 + 12 * drCols d (gangCols s n)) = .ok par → drainRows v n w d par = .ok (u, f) →
        exec (.drain n c w) s = .next (chargeArray (noteFlags (advPos u n (drDesc w) (drRows w)) n c false f) n c
          (gangCols u n / 128) (drRows w * drainBeat (drFmt w)))) ∧
      (∀ a, descOf s n (drDesc w) = .error a → exec (.drain n c w) s = .next (agFault v n c (drDesc w) (mArray w) a)))

/-- CSLOT opens a combine slot with the fields of its word at the end of the list, empties its region of the home bank and no other entry,
and moves the context on; with 256 slots open, or with a DRAIN of its rows waiting in the array's queue, it waits. A record under way, the
first of its source, that meets an open slot changes the one entry of its row and column, and a slot whose rows are all final closes; a chained
one that is not its position's next is held, with its special values noted and the entry's value left; one that meets no slot, lies outside its
slot, counts a group twice, has the reserved KIND or names its groups in the wrong order (log entry 14) is discarded and counted. A record's
special flags join the entry; KIND 0 adds to its integer; a chained record that is next is applied at once. -/
def Obligations.CombineSlotsTakeRecords : Prop :=
  ∀ (n c : Nat) (w : W128) (r : W256) (x : RecFly) (s : State),
    (canIssue s n c w 0x13 = true → (Machine.core s n).arr.slots.length < 256 → slotHazard s n (openedSlot c w) = false →
      ∃ t sl, exec (.cslot n c w) s = .next t ∧ (Machine.core t n).arr.slots = (Machine.core s n).arr.slots ++ [sl] ∧ sl.ctag = bits w.toNat 16 32 ∧
        sl.array = bits w.toNat 48 3 ∧ sl.bank = bits w.toNat 51 1 ∧ sl.row0 = bits w.toNat 52 8 ∧ sl.rows = bits w.toNat 60 8 + 1 ∧
        sl.cols = bits w.toNat 68 8 + 1 ∧ sl.groups = bits w.toNat 76 16 ∧ sl.holdDesc = bits w.toNat 92 16 ∧ sl.ctx = c ∧ sl.got = [] ∧
        sl.next = [] ∧ sl.held = [] ∧ t.mem = s.mem ∧ (c < 8 → pcOf t n c = (pcOf s n c + 1) % 2 ^ 14) ∧
        (∀ i j, i < sl.rows → j < sl.cols → bankEntry t n sl.array sl.bank (sl.row0 + i) j = {}) ∧
        (∀ k, (∀ i j, i < sl.rows → j < sl.cols → k ≠ bankKey sl.array sl.bank (sl.row0 + i) j) →
          SMap.get {} (Machine.core t n).arr.bank k = SMap.get {} (Machine.core s n).arr.bank k)) ∧
    (canIssue s n c w 0x13 = true → 256 ≤ (Machine.core s n).arr.slots.length ∨ slotHazard s n (openedSlot c w) = true →
      exec (.cslot n c w) s = .next s) ∧
    (codecOn s = true → nextRecord (Machine.core s n).arr.recFly r = some x →
      (∀ sl e sl', (Machine.core s n).arr.slots.find? (fun sl => sl.ctag = rCtag r) = some sl → recordBad sl r = false →
        takeRecord (pathNum x.path) sl r (bankEntry s n sl.array sl.bank (sl.row0 + rRow r) (rCol r)) = (e, sl') →
        ∃ t, exec (.combineRecord n r) s = .next t ∧ bankEntry t n sl.array sl.bank (sl.row0 + rRow r) (rCol r) = e ∧
          (∀ k, k ≠ bankKey sl.array sl.bank (sl.row0 + rRow r) (rCol r) → SMap.get {} (Machine.core t n).arr.bank k = SMap.get {} (Machine.core s n).arr.bank k) ∧
          (Machine.core t n).arr.recFly = (Machine.core s n).arr.recFly.erase x ∧ (recordHeld sl r = false → t.mem = s.mem) ∧
          (Machine.core t n).arr.slots = (if (List.range sl'.rows).all sl'.rowFinal then (Machine.core s n).arr.slots.erase sl
            else (Machine.core s n).arr.slots.map (fun y => if y = sl then sl' else y)) ∧
          (recordHeld sl r = true → e = { bankEntry s n sl.array sl.bank (sl.row0 + rRow r) (rCol r) with
              sp := (bankEntry s n sl.array sl.bank (sl.row0 + rRow r) (rCol r)).sp.or (rSpecial r) } ∧
            SMap.get 0 sl'.held (slotPos (rRow r) (rCol r) * 65536 + rG0 r) = r)) ∧
      ((Machine.core s n).arr.slots.find? (fun sl => sl.ctag = rCtag r) = none ∨
        (∃ sl, (Machine.core s n).arr.slots.find? (fun sl => sl.ctag = rCtag r) = some sl ∧ recordBad sl r = true) →
        exec (.combineRecord n r) s = .next (count64 (setCore s n { Machine.core s n with arr := { (Machine.core s n).arr with
          recFly := (Machine.core s n).arr.recFly.erase x } }) (coreBase n 1 + 0xC8) 1))) ∧
    (∀ sl : CSlot, recordBad sl r = true ↔ sl.rows ≤ rRow r ∨ sl.cols ≤ rCol r ∨ rKind r = 3 ∨ rG1 r < rG0 r ∨
      ∃ g, rG0 r ≤ g ∧ g ≤ rG1 r ∧ SMap.get 0 sl.got (slotPos (rRow r) (rCol r) * 65536 + g) ≠ 0) ∧
    (∀ (p : Path) (sl sl' : CSlot) (e e' : Acc), takeRecord p sl r e = (e', sl') →
      (rKind r = 0 → e' = { e with sp := e.sp.or (rSpecial r), int := wrap48 (e.int + toSigned 64 (rValue r)) }) ∧
      (rKind r ≠ 0 → rG0 r = SMap.get 0 sl.next (slotPos (rRow r) (rCol r)) →
        SMap.get 0 sl.held (slotPos (rRow r) (rCol r) * 65536 + (rG1 r + 1)) = 0 →
        e' = applyRecord p r { e with sp := e.sp.or (rSpecial r) } ∧ SMap.get 0 sl'.next (slotPos (rRow r) (rCol r)) = rG1 r + 1))

/-! ### Vector unit -/

/-- VEC reaches the vector unit in issue order. A free unit begins it: MODE 0 starts a micro-program at ENTRY; BOX DECODING runs the whole
procedure of R139, or ends as a vector fault that leaves the unit's registers empty. NOP goes on; LOOP opens a loop over the instructions that
follow it; END frees the unit. -/
def Obligations.VectorProgramsStartLoopAndEnd : Prop :=
  ∀ (n c : Nat) (w : W128) (u : W64) (j : VJob) (s v : State), v = nextPc s n c →
    (vMode w = 0 → IssuesInOrder (.vecMicroprogram n c w) n c w 0x09 4 0 (!unitBusy s n 4) true (vecRun n c w) s) ∧
    (vMode w = 1 → IssuesInOrder (.boxDecoding n c w) n c w 0x09 4 0 (!unitBusy s n 4) true (boxStart n c w) s) ∧
    (UnitFree s n c w 0x09 4 → vMode w = 0 →
      exec (.vecMicroprogram n c w) s = .next (wr32 (setVec v n { vec v n with job := some { ctx := c, w := w } })
        (coreBase n 2 + 0x40) (1 + c * 2 + vEntry w * 2 ^ 16))) ∧
    (∀ t, UnitFree s n c w 0x09 4 → vMode w = 1 → boxRun (wr32 v (coreBase n 2 + 0x40) (c * 2 + 16)) n c w = .ok t →
      exec (.boxDecoding n c w) s = .next t) ∧
    (∀ a, UnitFree s n c w 0x09 4 → vMode w = 1 → boxRun (wr32 v (coreBase n 2 + 0x40) (c * 2 + 16)) n c w = .error a →
      exec (.boxDecoding n c w) s = .next (vecFault (setVec (wr32 v (coreBase n 2 + 0x40) (c * 2 + 16)) n {}) n c a)) ∧
    ((vec s n).job = some j →
      (microReady s n u 0x00 j = true → exec (.microNop n u) s = .next (microNext s n j)) ∧
      (microReady s n u 0x01 j = true → exec (.microEnd n u) s = .next (vecEnd (setMicroPc (microNext s n j) n (microPc s n)) n j)) ∧
      (microReady s n u 0x02 j = true → uImm u % 512 = 0 → exec (.loop n u) s = .next (microNext s n j)) ∧
      (microReady s n u 0x02 j = true → uImm u % 512 ≠ 0 → exec (.loop n u) s = .next (microNext s n { j with
        loops := (microPc s n + 1, microPc s n + uImm u % 512, if uImm u / 512 = 0 then vRows j.w else uImm u / 512) :: j.loops })))

/-- LD loads the next 128 elements of its input and moves that input's cursor on; ST writes the active lanes of the next 128 elements of the
output and moves its cursor on. -/
def Obligations.LdAndStWalkTheirDescriptors : Prop :=
  ∀ (n : Nat) (w : W64) (j : VJob) (d : Nat) (s : State), (vec s n).job = some j →
    (∀ xs, microReady s n w 0x03 j = true → descOf s n (vIn j.w (uImm w % 2)) = .ok d →
      (List.range 128).mapM (fun l => loadElem s n d (uFmt w) ((if uImm w % 2 = 0 then j.read0 else j.read1) + l) (lane (vec s n) (uVd w) l)) = .ok xs →
      exec (.ld n w) s = .next (microNext (putLanes s n j.ctx w (fun l => xs.getD l (0, 0))) n
        (if uImm w % 2 = 0 then { j with read0 := j.read0 + 128 } else { j with read1 := j.read1 + 128 }))) ∧
    (∀ u f, microReady s n w 0x04 j = true → descOf s n (vOut j.w) = .ok d → uFmt w = 8 → storeFp4 s n d j.wrote (vec s n) w = .ok (u, f) →
      exec (.st n w) s = .next (microNext (noteFlags u n j.ctx true f) n { j with wrote := j.wrote + 128 })) ∧
    (∀ u f, microReady s n w 0x04 j = true → descOf s n (vOut j.w) = .ok d → uFmt w ≠ 8 →
      (List.range 128).foldlM (fun x l => storeLane x.1 x.2 n d j.wrote (vec s n) w l) (s, 0) = .ok (u, f) →
      exec (.st n w) s = .next (microNext (noteFlags u n j.ctx true f) n { j with wrote := j.wrote + 128 })) ∧
    (∀ r g u l, activeLane (vec s n) w l = true →
      writeElem r n d (uFmt w) (j.wrote + l) (if fmtIsInt (uFmt w) then intEncode (uFmt w) (intFit (uFmt w) (uSat w) (laneI (vec s n) (uVa w) l)).1
        else (fpEncode (uFmt w) (uInf w) (laneF (vec s n) (uVa w) l)).1) = .ok u →
      ∃ f, storeLane r g n d j.wrote (vec s n) w l = .ok (u, g ||| f)) ∧
    (∀ r g l, activeLane (vec s n) w l = false → storeLane r g n d j.wrote (vec s n) w l = .ok (r, g))

/-- Integer steps: each active lane takes the integer result that the step names, saturated where R120 says so. -/
def Obligations.IntegerStepsComplete : Prop :=
  ∀ (n : Nat) (w : W64) (j : VJob) (s : State) (v : Vec), v = vec s n → v.job = some j →
    let r (x : Int × NumFlags) : W64 × NumFlags := (laneOfInt x.1, x.2)
    (microReady s n w 0x06 j = true → WritesLanes n w (.movi n w) (fun _ => (laneOfInt (uImmS w), 0)) s) ∧
    (microReady s n w 0x07 j = true → WritesLanes n w (.mov n w) (fun l => (lane v (uVa w) l, 0)) s) ∧
    (microReady s n w 0x10 j = true → WritesLanes n w (.iadd n w) (fun l => r (satI64 (laneI v (uVa w) l + srcBI v w l))) s) ∧
    (microReady s n w 0x11 j = true → WritesLanes n w (.isub n w) (fun l => r (satI64 (laneI v (uVa w) l - srcBI v w l))) s) ∧
    (microReady s n w 0x12 j = true → WritesLanes n w (.imul n w) (fun l => r (satI64 (laneI v (uVa w) l * srcBI v w l))) s) ∧
    (microReady s n w 0x13 j = true → WritesLanes n w (.ishr n w) (fun l => r (satI64 (rshiftRne (laneI v (uVa w) l) (uSh w)))) s) ∧
    (microReady s n w 0x14 j = true → WritesLanes n w (.ishl n w) (fun l => r (satI64 (laneI v (uVa w) l * (2 ^ uSh w : Nat)))) s) ∧
    (microReady s n w 0x15 j = true → WritesLanes n w (.imax n w) (fun l => r (max (laneI v (uVa w) l) (srcBI v w l), 0)) s) ∧
    (microReady s n w 0x16 j = true → WritesLanes n w (.imin n w) (fun l => r (min (laneI v (uVa w) l) (srcBI v w l), 0)) s) ∧
    (microReady s n w 0x17 j = true → WritesLanes n w (.iclip n w) (fun l => r (intFit (uFmt w) (uSat w) (laneI v (uVa w) l))) s) ∧
    (microReady s n w 0x19 j = true → WritesLanes n w (.idiv n w) (fun l => r (idivStep (laneI v (uVa w) l * (2 ^ uSh w : Nat)) (srcBI v w l))) s) ∧
    (microReady s n w 0x1C j = true → WritesLanes n w (.exp2q n w) (fun l => r (exp2qStep (laneI v (uVa w) l))) s) ∧
    (microReady s n w 0x1D j = true → WritesLanes n w (.log2q n w) (fun l => r (log2qStep (laneI v (uVa w) l) (uSh w))) s) ∧
    (microReady s n w 0x1E j = true → WritesLanes n w (.rsqrtq n w) (fun l => r (rsqrtqStep (laneI v (uVa w) l) (uSh w))) s) ∧
    (microReady s n w 0x28 j = true → WritesLanes n w (.ftoi n w) (fun l => r (fpToInt i64Min i64Max (uSh w) (laneF v (uVa w) l))) s)

/-- Floating-point steps: each active lane takes the exact result rounded once to the step's format, in the low 32 bits of its lane; the
conditions are those of the step and of the rounding. -/
def Obligations.FloatingPointStepsComplete : Prop :=
  ∀ (n : Nat) (w : W64) (j : VJob) (s : State) (v : Vec), v = vec s n → v.job = some j →
    let r (fmt l : Nat) (x : Fp × NumFlags) : W64 × NumFlags :=
      (laneOfFp (lane v (uVd w) l) (fpRound fmt (uInf w) x.1).1, x.2 ||| (fpRound fmt (uInf w) x.1).2)
    (microReady s n w 0x20 j = true → WritesLanes n w (.fadd n w) (fun l => r 13 l (fpAdd (laneF v (uVa w) l) (srcBF v w l))) s) ∧
    (microReady s n w 0x21 j = true → WritesLanes n w (.fsub n w) (fun l => r 13 l (fpAdd (laneF v (uVa w) l) (srcBF v w l).neg)) s) ∧
    (microReady s n w 0x22 j = true → WritesLanes n w (.fmul n w) (fun l => r 13 l (fpMul (laneF v (uVa w) l) (srcBF v w l))) s) ∧
    (microReady s n w 0x23 j = true → WritesLanes n w (.fma n w) (fun l => r 13 l (fpFma (laneF v (uVa w) l) (srcBF v w l) (laneF v (uVc w) l))) s) ∧
    (microReady s n w 0x24 j = true → WritesLanes n w (.fmax n w) (fun l => r 13 l (fpMax (laneF v (uVa w) l) (srcBF v w l))) s) ∧
    (microReady s n w 0x25 j = true → WritesLanes n w (.fmin n w) (fun l => r 13 l (fpMin (laneF v (uVa w) l) (srcBF v w l))) s) ∧
    (microReady s n w 0x27 j = true → WritesLanes n w (.fcvt n w) (fun l => r (uFmt w) l (laneF v (uVa w) l, fIf (laneF v (uVa w) l).isNan fNanIn)) s) ∧
    (microReady s n w 0x29 j = true → WritesLanes n w (.itof n w) (fun l => r 13 l (Fp.ofInt (laneI v (uVa w) l) (-(uSh w : Int)), 0)) s) ∧
    (microReady s n w 0x2A j = true → WritesLanes n w (.fdiv n w) (fun l => r 13 l (fpDiv (laneF v (uVa w) l) (srcBF v w l))) s) ∧
    (microReady s n w 0x30 j = true → WritesLanes n w (.exp2f n w) (fun l => r (uFmt w) l (fpExp2 (laneF v (uVa w) l))) s) ∧
    (microReady s n w 0x31 j = true → WritesLanes n w (.log2f n w) (fun l => r (uFmt w) l (fpLog2 (laneF v (uVa w) l))) s) ∧
    (microReady s n w 0x32 j = true → WritesLanes n w (.rcpf n w) (fun l => r (uFmt w) l (fpRcp (laneF v (uVa w) l))) s) ∧
    (microReady s n w 0x33 j = true → WritesLanes n w (.rsqrtf n w) (fun l => r (uFmt w) l (fpRsqrt (laneF v (uVa w) l))) s)

/-- The steps that read the parameter block or an accumulator: LDP gives each lane its word or one word to all, TBL interpolates in the
table of the parameter block, AGET and AGETD give every lane the accumulator, as it stands or divided by lane 0 of VB; the empty value of a
cleared maximum or minimum divides as a NaN that is no operand.
SEL picks each lane's source by its predicate and is not guarded; ICMP and FCMP write the active lanes of a predicate, P0 excepted, which
stays all ones; no register changes with a compare. -/
def Obligations.ReadsSelectsAndComparesComplete : Prop :=
  (∀ (n : Nat) (w : W64) (j : VJob) (s : State) (v : Vec), v = vec s n → v.job = some j →
    let quot (a : VAcc) (y : Fp) : Fp × NumFlags := if a.noOperand then (.nan, if y.isNan then fNanIn else 0) else fpDiv (accFp a) y
    (∀ xs, microReady s n w 0x05 j = true → bit (uImm w) 18 = false → (List.range 128).mapM (fun l => parWord s n j (uImm w % 2 ^ 18 + l)) = .ok xs →
      WritesLanes n w (.ldp n w) (fun l => (laneOfInt (xs.getD l 0), 0)) s) ∧
    (∀ x, microReady s n w 0x05 j = true → bit (uImm w) 18 = true → parWord s n j (uImm w % 2 ^ 18) = .ok x →
      WritesLanes n w (.ldp n w) (fun l => (laneOfInt ((List.replicate 128 x).getD l 0), 0)) s) ∧
    (∀ base b t, microReady s n w 0x1A j = true → parWord s n j (uImm w % 2 ^ 18) = .ok base → parWord s n j (uImm w % 2 ^ 18 + 1) = .ok b →
      (List.range (2 ^ (ofSigned 32 b % 16) + 1)).mapM (fun i => parWord s n j (uImm w % 2 ^ 18 + 2 + i)) = .ok t →
      WritesLanes n w (.tbl n w) (fun l => (laneOfInt (tblLookup base (ofSigned 32 b % 16) (uSh w) (fun i => t.getD i 0) (laneI v (uVa w) l)), 0)) s) ∧
    (microReady s n w 0x3C j = true → uFloat w = false → WritesLanes n w (.aget n w)
      (fun _ => (laneOfInt (accInt (acc s n (uAc w))).1, (accInt (acc s n (uAc w))).2)) s) ∧
    (microReady s n w 0x3C j = true → uFloat w = true → WritesLanes n w (.aget n w)
      (fun l => (laneOfFp (lane v (uVd w) l) (fpRound 13 (uInf w) (accFp (acc s n (uAc w)))).1, (fpRound 13 (uInf w) (accFp (acc s n (uAc w)))).2)) s) ∧
    (microReady s n w 0x3D j = true → uFloat w = false → WritesLanes n w (.agetd n w)
      (fun _ => (laneOfInt (idivStep (accInt (acc s n (uAc w))).1 (srcBI v w 0)).1,
        (accInt (acc s n (uAc w))).2 ||| (idivStep (accInt (acc s n (uAc w))).1 (srcBI v w 0)).2)) s) ∧
    (microReady s n w 0x3D j = true → uFloat w = true → WritesLanes n w (.agetd n w)
      (fun l => (laneOfFp (lane v (uVd w) l) (fpStep 13 (uInf w) (quot (acc s n (uAc w)) (srcBF v w 0))).1,
        (fpStep 13 (uInf w) (quot (acc s n (uAc w)) (srcBF v w 0))).2)) s)) ∧
  (∀ (n : Nat) (w : W64) (j : VJob) (s : State) (v : Vec), v = vec s n → v.job = some j →
    (microReady s n w 0x08 j = true → ∃ t, exec (.sel n w) s = .next t ∧ t.mem = s.mem ∧ (vec t n).p = v.p ∧ (vec t n).ac = v.ac ∧
      ∀ r l, l < 128 → lane (vec t n) r l = if r = uVd w then
        (if activeLane v w l then lane v (uVa w) l else if uImmB w then laneOfInt (uImmS w) else lane v (uVb w) l) else lane v r l) ∧
    (microReady s n w 0x18 j = true → ∃ t, exec (.icmp n w) s = .next t ∧ t.mem = s.mem ∧ (vec t n).v = v.v ∧ (vec t n).ac = v.ac ∧
      ∀ p l, l < 128 → pred (vec t n) p l = if p = uVd w % 8 ∧ p ≠ 0 ∧ activeLane v w l = true then
        condHolds (uSh w % 4) (compare (laneI v (uVa w) l) (srcBI v w l)) else pred v p l) ∧
    (microReady s n w 0x26 j = true → ∃ t, exec (.fcmp n w) s = .next t ∧ t.mem = s.mem ∧ (vec t n).v = v.v ∧ (vec t n).ac = v.ac ∧
      ∀ p l, l < 128 → pred (vec t n) p l = if p = uVd w % 8 ∧ p ≠ 0 ∧ activeLane v w l = true then
        (fpCond (uSh w % 4) (laneF v (uVa w) l) (srcBF v w l)).1 else pred v p l))

/-- Reductions: the accumulator takes the integer form saturated, or the floating-point form chained in groups of 32; inactive lanes count
as no operand; ACLR leaves the selected empty value; no register, predicate or memory changes. -/
def Obligations.ReductionsComplete : Prop :=
  ∀ (n : Nat) (w : W64) (j : VJob) (s : State) (v : Vec) (a : VAcc), v = vec s n → v.job = some j → a = acc s n (uAc w) →
    let on := (List.range 128).filter (activeLane v w)
    let done (i : Instr) (x : VAcc) (f : NumFlags) : Prop := exec i s = .next (microNext (noteFlags (setAcc s n (uAc w) x) n j.ctx true f) n j)
    let int (i : Instr) (x : Int × NumFlags) : Prop := done i { isInt := true, int := x.1 } ((accInt a).2 ||| x.2)
    let flt (i : Instr) (x : VAcc × NumFlags) : Prop := done i x.1 x.2
    (microReady s n w 0x38 j = true → uFloat w = false →
      int (.rsum n w) (satI64 ((on.map (laneI v (uVa w))).foldl (· + ·) (accInt a).1))) ∧
    (microReady s n w 0x38 j = true → uFloat w = true → flt (.rsum n w) (reduceFp a
      ((List.range 128).map (fun l => if activeLane v w l then (laneF v (uVa w) l, Fp.one) else (Fp.zero, Fp.one))))) ∧
    (microReady s n w 0x3E j = true → uFloat w = false →
      int (.rdot n w) (satI64 ((on.map (fun l => laneI v (uVa w) l * srcBI v w l)).foldl (· + ·) (accInt a).1))) ∧
    (microReady s n w 0x3E j = true → uFloat w = true → flt (.rdot n w) (reduceFp a
      ((List.range 128).map (fun l => if activeLane v w l then (laneF v (uVa w) l, srcBF v w l) else (Fp.zero, Fp.one))))) ∧
    (microReady s n w 0x39 j = true → uFloat w = false → int (.rmax n w) ((on.map (laneI v (uVa w))).foldl max (accInt a).1, 0)) ∧
    (microReady s n w 0x39 j = true → uFloat w = true → flt (.rmax n w) (foldMinMax fpMax a (on.map (laneF v (uVa w))))) ∧
    (microReady s n w 0x3A j = true → uFloat w = false → int (.rmin n w) ((on.map (laneI v (uVa w))).foldl min (accInt a).1, 0)) ∧
    (microReady s n w 0x3A j = true → uFloat w = true → flt (.rmin n w) (foldMinMax fpMin a (on.map (laneF v (uVa w))))) ∧
    (microReady s n w 0x3B j = true →
      exec (.aclr n w) s = .next (microNext (setAcc s n (uAc w) (clearedAcc (uFloat w) (bits (uImm w) 3 2))) n j))

/-- IDIV by zero returns 0 when the dividend is 0, else the i64 extreme of the dividend's sign, and INVALID is set in both cases. -/
def Obligations.IdivByZero : Prop :=
  ∀ (n l : Nat) (w : W64) (j : VJob) (s : State), (vec s n).job = some j → microReady s n w 0x19 j = true → l < 128 →
    activeLane (vec s n) w l = true → srcBI (vec s n) w l = 0 →
    ∃ t, exec (.idiv n w) s = .next t ∧ bit (rd32 t (coreBase n 2 + 0x80)) 1 = true ∧
      (laneI (vec s n) (uVa w) l = 0 → laneI (vec t n) (uVd w) l = 0) ∧
      (0 < laneI (vec s n) (uVa w) l → laneI (vec t n) (uVd w) l = 2 ^ 63 - 1) ∧
      (laneI (vec s n) (uVa w) l < 0 → laneI (vec t n) (uVd w) l = -2 ^ 63)

/-! ### Entropy engine, motion engine, rate controller -/

/-- Coding is exact: a decode step undoes the encode step of the same symbol, for every state that the coder can hold, every frequency and
start that a valid row has, and whatever words were emitted before. -/
def Obligations.DecodeStepUndoesEncodeStep : Prop :=
  ∀ (x : Nat) (out : List Nat) (p : RStep), 2 ^ 16 ≤ x → x < 2 ^ 32 → 0 < p.f → p.c + p.f ≤ 2 ^ 16 →
    decStep (encStep (x, out) p).1 (encStep (x, out) p).2 p = some (x, out) ∧
    2 ^ 16 ≤ (encStep (x, out) p).1 ∧ (encStep (x, out) p).1 < 2 ^ 32 ∧ (encStep (x, out) p).1 % 2 ^ 16 - p.c < p.f

/-- ENT encode and decode jobs reach the engine in issue order. A free engine begins them: an encode job fixes the task's epoch, takes the bank of
that epoch and looks whether its segment is held; it codes against that bank, and with RC_REPORT holds the engine with its substreams until
ENCODE_JOB_END; a segment after a held one is not coded; a decode job writes the decoded values, or the means of a held segment; a job that
cannot run aborts its task, and what it had coded by then is counted. ENCODE_JOB_END writes the substreams, frees the engine, shows the count and keeps it as its context's report; while one of the same
context waits for its update nothing changes. -/
def Obligations.EntropyJobsRun : Prop :=
  (∀ (n c : Nat) (w : W128) (s : State),
    (nKind w = 0 → IssuesInOrder (.entEncode n c w) n c w 0x0A 5 (8 + n) (entFree s n) (admitted s (ctxActivity s n c) (8 + n)) (encodeStart n c w) s) ∧
    (nKind w = 1 → IssuesInOrder (.entDecode n c w) n c w 0x0A 5 (8 + n) (entFree s n) (admitted s (ctxActivity s n c) (8 + n)) (decodeStart n c w) s)) ∧
  (∀ (n c b : Nat) (w : W128) (t : Task) (s : State), UnitFree s n c w 0x0A 5 → admitted s (ctxActivity s n c) (8 + n) = true →
    (∀ r q u h, nKind w = 0 → r = setEntStatus (nextPc s n c) n c w false → taskOf r n c = some t → fixEpoch r n c t = .ok q →
      jobBank q n c = .ok (u, b) → slotHeld u n c = .ok h → encodeOpen r n c = .ok (u, b, h)) ∧
    (∀ r u h, nKind w = 0 → r = setEntStatus (nextPc s n c) n c w false → encodeOpen r n c = .ok (u, b, h) →
      let counted (vals : List (List RStep)) : State := entSteps u n c (vals.map List.length).sum (vals.filter (fun x => x.length = 3)).length
      let subs (vals : List (List RStep)) : List (List Nat) := (List.range (nLanes w)).map (fun l => encLane (laneOf vals (nLanes w) l).flatten)
      (∀ vals, h = false → segSteps u n b w = (vals, none) →
        (∀ x, nReport w = false → encodeEnd (counted vals) n w (subs vals) = .ok x → exec (.entEncode n c w) s = .next x) ∧
        (nReport w = true → exec (.entEncode n c w) s = .next (setEntStatus (setCore (counted vals) n { Machine.core (counted vals) n with
          entJob := some { ctx := c, w := w, subs := subs vals } }) n c w true))) ∧
      (∀ vals e, h = false → segSteps u n b w = (vals, some e) →
        exec (.entEncode n c w) s = .next (entFault (bankFault (counted vals) n b e) n c e)) ∧
      (h = true → nReport w = false → exec (.entEncode n c w) s = .next (entDone (counted []) n 0 w)) ∧
      (h = true → nReport w = true → exec (.entEncode n c w) s = .next (setEntStatus (setCore (counted []) n { Machine.core (counted []) n with
        entJob := some { ctx := c, w := w, subs := [] } }) n c w true))) ∧
    (∀ r e, nKind w = 0 → r = setEntStatus (nextPc s n c) n c w false → encodeOpen r n c = .error e →
      exec (.entEncode n c w) s = .next (entFault r n c e)) ∧
    (∀ r q k e, nKind w = 1 → readInput (nextPc s n c) n c = (r, true) → taskOf r n c = some t →
      countJob (setEntStatus r n c w false) n c t = (q, k) → segWork t k ≠ .none → jobBank q n c = .error e →
      exec (.entDecode n c w) s = .next (entFault q n c e)) ∧
    (∀ r q k u v, nKind w = 1 → readInput (nextPc s n c) n c = (r, true) → taskOf r n c = some t →
      countJob (setEntStatus r n c w false) n c t = (q, k) → jobBank q n c = .ok (u, b) →
      (∀ e, segWork t k = .coded → decodeRun u n c b w = (v, some e) → exec (.entDecode n c w) s = .next (entFault (bankFault v n b e) n c e)) ∧
      (segWork t k = .coded → decodeRun u n c b w = (v, none) → exec (.entDecode n c w) s = .next v) ∧
      (segWork t k = .held → heldRun u n w = .ok v → exec (.entDecode n c w) s = .next v) ∧
      (∀ e, segWork t k = .held → heldRun u n w = .error e → exec (.entDecode n c w) s = .next (entFault u n c e)))) ∧
  (∀ (n : Nat) (j : EntJob) (u v x : State), codecOn u = true → (Machine.core u n).entJob = some j →
    (slotOpen u n j.ctx = true → SMap.get 0 (Machine.core u n).reports j.ctx ≠ 0 → exec (.encodeJobEnd n) u = .next u) ∧
    (v = setEntStatus (setCore u n { Machine.core u n with entJob := none }) n j.ctx j.w false →
      slotOpen u n j.ctx = false ∨ SMap.get 0 (Machine.core u n).reports j.ctx = 0 → j.subs ≠ [] → encodeEnd v n j.w j.subs = .ok x →
      let b := 16 * (j.subs.map List.length).sum
      let y := wr64 x (coreBase n 3 + 0xC8) (b + nCount j.w * 2 ^ 32)
      (slotOpen y n j.ctx = true → exec (.encodeJobEnd n) u = .next (setCore y n { Machine.core y n with
        reports := SMap.set 0 (Machine.core y n).reports j.ctx (b * 128 + nLanes j.w) })) ∧
      (slotOpen y n j.ctx = false → exec (.encodeJobEnd n) u = .next (count64 y (coreBase n 5 + 0xB8) 1))))

/-- TABLE_LOAD reaches the entropy engine in issue order and needs no budget. A free engine begins it: an epoch whose tables a decode task's
reader has not accepted is not loaded; a bank that holds the epoch already becomes the newest and nothing is copied; otherwise the older bank
is taken, empty and loading, unless a task still refers to it, which aborts the load with table-busy. TABLE_LOAD_END copies the tables and,
as far as the HBM budget lets it, the codebooks; the load ends with the bank valid, when every row is, and with the bank empty and the task
aborted otherwise. -/
def Obligations.TableLoadsFillABank : Prop :=
  ∀ (n c : Nat) (w : W128) (s r : State),
    (nKind w = 2 → IssuesInOrder (.tableLoad n c w) n c w 0x0A 5 (8 + n) (entFree s n) true (loadStart n c w) s) ∧
    (UnitFree s n c w 0x0A 5 → nKind w = 2 → readInput (nextPc s n c) n c = (r, true) →
      ((taskOf r n c).all (fun t => epochRead r t (nEpoch w)) = false → exec (.tableLoad n c w) s = .next r) ∧
      (∀ b, (taskOf r n c).all (fun t => epochRead r t (nEpoch w)) = true → findBank r n (nSlot w) (nEpoch w) = some b → exec (.tableLoad n c w) s = .next (markNewest r n b)) ∧
      (∀ b, (taskOf r n c).all (fun t => epochRead r t (nEpoch w)) = true → findBank r n (nSlot w) (nEpoch w) = none → b = (if !bankValid r n 0 && !bankValid r n 1 then 0 else if bankNewest r n 0 then 1 else 0) →
        (0 < bankRefs r n b → exec (.tableLoad n c w) s =
          .next (entFault (count64 r (coreBase n 3 + 0xC0) 1) n c ⟨⟨cTableBusy, 0⟩, 0⟩)) ∧
        (bankRefs r n b = 0 → ∃ t, exec (.tableLoad n c w) s = .next t ∧ (Machine.core t n).tableJob = some { ctx := c, w := w } ∧
          bankLoading t n b = true ∧ bankValid t n b = false ∧ t.mem = r.mem))) ∧
    (∀ j b, codecOn s = true → (Machine.core s n).tableJob = some j → b = (if bankLoading s n 0 then 0 else 1) →
      let failed (v : State) (e : Abort) (i : Nat) : State := entFault (emptyBank (tableIdle v n j) n b) n j.ctx ⟨e, i⟩
      (∀ e, copyTables s n b j.w (readEpochs s n j.ctx) = .error e → exec (.tableLoadEnd n) s = .next (failed s e 0)) ∧
      (∀ u cb v m, copyTables s n b j.w (readEpochs s n j.ctx) = .ok (u, cb) →
        let copied (x : CbCopy) : Prop := (if cbVa u n b = 0 then (u, j.cb, CbCopy.done)
          else copyCodebook n (ctxActivity s n j.ctx) (cbVa u n b) cb (cb.length + 1) u j.cb) = (v, m, x)
        (copied .done → (∀ i, i < nCount j.w → rowValid (Machine.core v n) b i = true) →
          exec (.tableLoadEnd n) s = .next (tableIdle (wrBits (wrBits v (bankReg n b) 25 1 0) (bankReg n b) 24 1 1) n j)) ∧
        (∀ i, copied .done → i < nCount j.w → rowValid (Machine.core v n) b i = false → (∀ q, q < i → rowValid (Machine.core v n) b q = true) →
          exec (.tableLoadEnd n) s = .next (failed v ⟨cTableInvalid, 0⟩ i)) ∧
        (∀ st, copied (.held st) → exec (.tableLoadEnd n) s = .next (refused (setCore v n { Machine.core v n with
          tableJob := some { j with cb := m } }) (ctxActivity s n j.ctx) (16 + st))) ∧
        (∀ e, copied (.failed e) → exec (.tableLoadEnd n) s = .next (failed v e 0))))

/-- The motion engine takes its instructions in issue order. A free engine begins them: MOT SEARCH starts at its first block row; each
BLOCK_ROW_START, once the rows that its window lacks may be fetched, searches one row, keeps its vectors, counts its blocks and goes on to the
next, or frees the engine after the last; what cannot be read ends the job. MOT COMPENSATE compensates its block rows in order and counts their
blocks; a decode task's keeps the vectors too. -/
def Obligations.MotionEngineRuns : Prop :=
  ∀ (n c : Nat) (w : W128) (s : State),
    (oKind w = 1 → IssuesInOrder (.motCompensate n c w) n c w 0x0B 6 0 (!unitBusy s n 6) true (compRun n c w) s) ∧
    (oKind w = 0 → unitQueue s n 6 ≠ [] ∨ unitBusy s n 6 = true → canIssue s n c w 0x0B = true → mayQueue s n c 6 = true →
      (atHead s n c 6 w && !unitBusy s n 6) = false → exec (.motSearch n c w) s = .next (joinQueue s n c 6 w)) ∧
    (UnitFree s n c w 0x0B 6 → oKind w = 0 →
      ∃ t, exec (.motSearch n c w) s = .next t ∧ (Machine.core t n).motJob = some { ctx := c, w := w } ∧
        bit (rd32 t (coreBase n 4 + 0x40)) 0 = true ∧ (c < 8 → pcOf t n c = (pcOf s n c + 1) % 2 ^ 14) ∧ t.mem = s.mem) ∧
    (∀ j row fmt, codecOn s = true → frozen s (partOf s n) = false → (Machine.core s n).motJob = some j → row = oBrow0 j.w + j.brow →
      fmt = ctxFormat s n j.ctx →
      (windowReady s n j.ctx fmt j.w row = .ok false → exec (.blockRowStart n) s = .next s) ∧
      (∀ a, windowReady s n j.ctx fmt j.w row = .error a → exec (.blockRowStart n) s = .next (motFault s n j.ctx row a)) ∧
      (∀ a, windowReady s n j.ctx fmt j.w row = .ok true → blockRow s n j.ctx fmt (ctxCfa s n j.ctx) j.w row = .error a →
        exec (.blockRowStart n) s = .next (motFault s n j.ctx row a)) ∧
      (∀ d u v, descOf s n (oCur j.w) = .ok d → searchRow s n j.ctx fmt (ctxCfa s n j.ctx) j.w row = .ok u →
        noteVecs u n j.ctx (oMv j.w) row (ceilDiv (dInW d) 16) false = .ok v →
        blockRow s n j.ctx fmt (ctxCfa s n j.ctx) j.w row = .ok (v, ceilDiv (dInW d) 16)) ∧
      (∀ u k, windowReady s n j.ctx fmt j.w row = .ok true → blockRow s n j.ctx fmt (ctxCfa s n j.ctx) j.w row = .ok (u, k) →
        ∃ t, exec (.blockRowStart n) s = .next t ∧ t.mem = u.mem ∧ rd32 t (coreBase n 4 + 0xA0) = (rd32 u (coreBase n 4 + 0xA0) + k) % 2 ^ 32 ∧
          (Machine.core t n).motJob = (if j.brow + 1 = oBrows j.w then none else some { j with brow := j.brow + 1 }))) ∧
    (∀ r u d k, UnitFree s n c w 0x0B 6 → oKind w = 1 → r = setMotStatus (nextPc s n c) n c 1 (oBrow0 w) false → descOf r n (oOut w) = .ok d →
      k = ceilDiv (dInW d / (if ctxFormat r n c = 3 then 2 else 1)) 16 →
      (List.range (oBrows w)).foldlM (fun x i => (compRow x n (ctxFormat r n c) w (oBrow0 w + i)).bind (fun y =>
        if (taskOf r n c).any (fun t => eDecode t.snap) then noteVecs y n c (oMv w) (oBrow0 w + i) k true else .ok y)) r = .ok u →
      exec (.motCompensate n c w) s = .next (count64 u (coreBase n 4 + 0xA0) (k * oBrows w)))

/-- RATE_UPDATE: the waiting report of a context with an open slot is taken, its rate slot takes the update of R187, and semaphore 56 + c
gains 1; after an abort the update still completes into the slot, with no signal; a slot that cannot be read ends the task; without a report
nothing happens. RCT_SLOT and RCT_SLOTP show the slot that the update leaves; the rows controlled, the rows forced and the segments held are
counted, the task notes them, and no other register or core changes. The update itself: P and U grow by the row's bits and headers, and a held
row counts no bits; a side segment leaves C and Q; else C moves by the error of R187 within its limits, and Q is C or, once U reaches T, 63. -/
def Obligations.RateUpdateMovesTheSlot : Prop :=
  ∀ (n c b k : Nat) (r : RSlot) (s : State),
    (SMap.get 0 (Machine.core s n).reports c = 0 → exec (.rateUpdate n c) s = .next s) ∧
    (∀ u a, codecOn s = true → SMap.get 0 (Machine.core s n).reports c ≠ 0 →
      u = setCore s n { Machine.core s n with reports := SMap.set 0 (Machine.core s n).reports c 0 } →
      storeRead u n (rateSlot u n c) 48 = .error a → exec (.rateUpdate n c) s = .next (if slotOpen u n c then unitAbort u n c a else u)) ∧
    (∀ u bs, codecOn s = true → SMap.get 0 (Machine.core s n).reports c ≠ 0 → slotOpen s n c = true →
      u = setCore s n { Machine.core s n with reports := SMap.set 0 (Machine.core s n).reports c 0 } → storeRead u n (rateSlot u n c) 48 = .ok bs →
      ∃ t, exec (.rateUpdate n c) s = .next (semSignal t n c (56 + c) 1) ∧ (Machine.core t n).reports = (Machine.core u n).reports ∧
        t.mem = (writeSlot u n (rateSlot u n c) (rateStep (readSlot u n (rateSlot u n c)) (SMap.get 0 (Machine.core s n).reports c / 128)
          (SMap.get 0 (Machine.core s n).reports c % 128))).mem ∧
        (∀ x y, x = readSlot u n (rateSlot u n c) →
          y = rateStep x (SMap.get 0 (Machine.core s n).reports c / 128) (SMap.get 0 (Machine.core s n).reports c % 128) →
          (ctxOf t n c).task = (ctxOf s n c).task.map (fun j => j.noteRow x y (SMap.get 0 (Machine.core s n).reports c)) ∧
          rd64 t (coreBase n 5 + 0x100 + 16 * c) = y.q % 64 + y.c.toNat % 64 * 2 ^ 8 + y.f.toNat * 2 ^ 16 + y.h.toNat * 2 ^ 17 +
            y.sideLeft % 4 * 2 ^ 20 + y.row % 2 ^ 16 * 2 ^ 32 ∧
          rd64 t (coreBase n 5 + 0x108 + 16 * c) = y.p % 2 ^ 64 ∧
          rd64 t (coreBase n 5 + 0xA0) = (rd64 s (coreBase n 5 + 0xA0) + (if x.sideLeft = 0 then 1 else 0)) % 2 ^ 64 ∧
          rd64 t (coreBase n 5 + 0xA8) = (rd64 s (coreBase n 5 + 0xA8) + (if x.sideLeft = 0 ∧ x.f = true ∧ y.lastHeld = false then 1 else 0)) % 2 ^ 64 ∧
          rd64 t (coreBase n 5 + 0xB0) = (rd64 s (coreBase n 5 + 0xB0) + (if y.lastHeld = true then 1 else 0)) % 2 ^ 64) ∧
        (∀ m, m ≠ n → Machine.core t m = Machine.core s m) ∧ (∀ m, m ≠ c → ctxOf t n m = ctxOf s n m) ∧
        (∀ a, a ∉ [coreBase n 5 + 0x100 + 16 * c, coreBase n 5 + 0x104 + 16 * c, coreBase n 5 + 0x108 + 16 * c, coreBase n 5 + 0x10C + 16 * c,
          coreBase n 5 + 0xA0, coreBase n 5 + 0xA4, coreBase n 5 + 0xA8, coreBase n 5 + 0xAC, coreBase n 5 + 0xB0, coreBase n 5 + 0xB4] →
          rd32 t a = rd32 s a)) ∧
    (∀ u bs, codecOn s = true → SMap.get 0 (Machine.core s n).reports c ≠ 0 → slotOpen s n c = false →
      u = setCore s n { Machine.core s n with reports := SMap.set 0 (Machine.core s n).reports c 0 } → storeRead u n (rateSlot u n c) 48 = .ok bs →
      ∃ t, exec (.rateUpdate n c) s = .next t ∧ Machine.core t n = Machine.core u n ∧
        t.mem = (writeSlot u n (rateSlot u n c) (rateStep (readSlot u n (rateSlot u n c)) (SMap.get 0 (Machine.core s n).reports c / 128)
          (SMap.get 0 (Machine.core s n).reports c % 128))).mem) ∧
    (∀ (y : RSlot) (held : Bool) (bits used : Nat) (d : Int), y = rateStep r b k → held = (r.h || decide (r.cap < r.p + b)) →
      bits = (if held then 0 else b) → used = r.u + bits + (r.rowHdr + k * r.laneHdr) →
      d = (if held then (r.dqMax : Int) else min (max (rshiftRne (r.gain * ((log2qStep (max bits 1 : Nat) 0).1 - (log2qStep r.trow 0).1)) 20)
        (-r.dqMax)) r.dqMax) →
      y.h = held ∧ y.lastHeld = held ∧ y.p = r.p + bits ∧ y.u = used ∧
      (r.qiMin ≤ r.qiMax → r.qiMin ≤ r.c → r.c ≤ r.qiMax → r.qiMin ≤ y.c ∧ y.c ≤ r.qiMax) ∧
      (0 < r.sideLeft → y.sideLeft = r.sideLeft - 1 ∧ y.c = r.c ∧ y.q = r.q ∧ y.f = r.f ∧ y.row = r.row ∧
        y.trow = (if r.sideLeft = 1 then max 1 (divRne ((r.t : Int) - used) (max 1 r.rows)) else r.trow)) ∧
      (r.sideLeft = 0 → y.sideLeft = 0 ∧ y.c = min (max (r.c + d) r.qiMin) r.qiMax ∧ y.row = r.row + 1 ∧ y.f = (r.f || decide (r.t ≤ used)) ∧
        y.q = (if y.f then 63 else y.c.toNat) ∧
        y.trow = (if r.row + 1 < r.rows then max 1 (divRne ((r.t : Int) - used) (max 1 (r.rows - (r.row + 1)))) else r.trow)))

/-! ### Tasks -/

/-- TASK_START: the activity's next ready task leaves the ready list, takes its slots and a free context of its core, whose PC is the
entry's, and each stripe of its frame takes a context of another core of the partition; an encode task whose raw input has a set unused bit is
then aborted with 0x0907. A frozen partition, a ring without room or a stripe without a context starts nothing. Periodic rows start once a
period, from their OFFSET on, on their context, or wait for it once, or are counted as missed. A task that outruns its bound is aborted.
END holds its context and waits while that has work on another unit; then it ends a periodic task and starts the row that waits for its
context, compares a verification's prints, keeps a stripe until its frame commits, or ends a frame task: with its stripes done, its input
read and its epoch held, its units are finished once, the program of a feature network follows if the entry names one, one to be verified waits
for its verifying decode, and with no earlier frame of its stream open and room for its record the task is committed. A frame whose epoch no
bank holds is aborted. -/
def Obligations.TasksStartAndEnd : Prop :=
  (∀ (a n c row : Nat) (t : Task) (e : SEntry) (ps : List (Nat × Nat × SEntry)) (r : PRow) (s : State), codecOn s = true →
    (nextReady s a = some t → taskPlace s t = some (n, c, e) → frozen s (partOf s n) = false → slotsFree s t (slotEntry s n t e) = true →
      stripePlaces s t n = some ps →
      ∃ u x, exec (.taskStart a) s = .next (if x.isFrame && !eDecode x.snap && dirtyInput u n x then abortTask u n c 0x0907 else u) ∧
        (ctxOf u n c).task = some x ∧ (ctxOf u n c).hold = .none ∧ x.core = n ∧ x.ctx = c ∧ x.order = t.order ∧
        x.snap = t.snap ∧ (c < 8 → pcOf u n c = e.pc % 2 ^ 14) ∧
        ∀ m d f, (m, d, f) ∈ ps → ∃ y, (ctxOf u m d).task = some y ∧ y.kind = 4 ∧ y.order = t.order) ∧
    (nextReady s a = some t → taskPlace s t = some (n, c, e) →
      (frozen s (partOf s n) || !slotsFree s t (slotEntry s n t e)) = true ∨ stripePlaces s t n = none →
      exec (.taskStart a) s = .next s) ∧
    ((variantOf s n).periodic[row]? = some r → sentry s n r.entry = some e → n < 8 → partRuns s n = true →
      let u : State := setCore s n { Machine.core s n with rowStarts := SMap.set 0 (Machine.core s n).rowStarts row (period s + 1) }
      (rowDue s n row r = false → exec (.periodicStart n row) s = .next s) ∧
      (rowDue s n row r = true → taskOf s n r.ctx = none → exec (.periodicStart n row) s =
        .next (startPeriodic (setCore u n { Machine.core u n with waits := SMap.set false (Machine.core u n).waits row false }) n r e)) ∧
      (rowDue s n row r = true → (taskOf s n r.ctx).isSome = true → SMap.get false (Machine.core s n).waits row = false →
        exec (.periodicStart n row) s = .next (setCore u n { Machine.core u n with waits := SMap.set false (Machine.core u n).waits row true })) ∧
      (rowDue s n row r = true → (taskOf s n r.ctx).isSome = true → SMap.get false (Machine.core s n).waits row = true →
        exec (.periodicStart n row) s = .next (count64 u (coreBase n 0 + 0x210) 1))) ∧
    (taskOf s n c = some t → frozen s (partOf s n) = false → (ctxOf s n c).hold ≠ .atEnd → taskBound s t + 2 < periodsRun s t →
      exec (.taskOverrun n c) s = .next (abortTask (arrive (satCount64 s (lfcBase + 0x388) 1) (16 + 16 * n + 7) (0x090A + c * 2 ^ 16)) n c 0x090A))) ∧
  (∀ (n c : Nat) (w : W128) (t : Task) (s u : State), canEnd s n c w = true → u = holdCtx s n c .atEnd false →
    (hasWork u n c = true → exec (.endTask n c w) s = .next u) ∧
    (hasWork u n c = false → taskOf u n c = some t → t.kind = 2 → exec (.endTask n c w) s = .next (startWaiting (clearCtx u n c false) n c)) ∧
    (hasWork u n c = false → taskOf u n c = some t → t.kind = 3 → exec (.endTask n c w) s = .next (verifyEnd u n c t)) ∧
    (hasWork u n c = false → taskOf u n c = some t → t.kind = 4 → exec (.endTask n c w) s = .next u) ∧
    (hasWork u n c = false → taskOf u n c = some t → t.isFrame = true → stripesDone u t.order = false → exec (.endTask n c w) s = .next u) ∧
    (∀ r x, hasWork u n c = false → taskOf u n c = some t → t.isFrame = true → stripesDone u t.order = true →
      readInput u n c = (r, true) → taskOf r n c = some x →
      (epochHeld r n x = false → exec (.endTask n c w) s = .next (abortTask r n c cEpochMissing)) ∧
      (∀ v, epochHeld r n x = true → x.finished = false → finishFrame r n c x = (v, false) → exec (.endTask n c w) s = .next v) ∧
      (∀ v y f, epochHeld r n x = true → (x.finished = true ∧ v = r ∨ x.finished = false ∧ finishFrame r n c x = (v, true)) →
        y = (taskOf v n c).getD x → f = (if eFeat y.snap && !y.feat then sentry v n (eFeatEntry y.snap) else none) →
        (∀ e, f = some e → exec (.endTask n c w) s = .next (startFeature v n c e.pc)) ∧
        (f = none → (eVerify y.snap && !eDecode y.snap && y.verify.isNone) = true →
          exec (.endTask n c w) s = .next (if verifying v y.order then v else startVerify v n y)) ∧
        (f = none → (eVerify y.snap && !eDecode y.snap && y.verify.isNone) = false →
          (earlierFrames v y.stream y.order ≠ 0 ∨ canPost v (eCplRing y.snap) = false) → exec (.endTask n c w) s = .next v) ∧
        (f = none → (eVerify y.snap && !eDecode y.snap && y.verify.isNone) = false →
          earlierFrames v y.stream y.order = 0 → canPost v (eCplRing y.snap) = true → exec (.endTask n c w) s = .next (commitTask v n c y)))))

/-! ### Periods and the loader -/

/-- PERIOD_BOUNDARY: once the time base reaches BUD_NEXTTB the period number rises by 1 modulo 2^32 and BUD_NEXTTB is the next multiple of the
period after the time base; before that nothing changes. Starts of schedules that were made are dropped, and those that are due are marked for
this boundary; nothing else changes. -/
def Obligations.PeriodsFollowTheTimeBase : Prop :=
  ∀ (s : State),
    (mgmtOn s = true → rd64 s (budBase + 0x48) ≤ tb s → ∃ t, exec .periodBoundary s = .next t ∧ period t = (period s + 1) % 2 ^ 32 ∧
      rd64 t (budBase + 0x48) = nextBoundary s % 2 ^ 64 ∧ (s.ld.starts = [] → OnlyWords [budBase + 0x40, budBase + 0x48, budBase + 0x4C] s t) ∧
      ∃ u, OnlyWords [budBase + 0x40, budBase + 0x48, budBase + 0x4C] s u ∧ t = u.setLd { u.ld with starts := t.ld.starts } ∧
        t.ld.starts = (s.ld.starts.filter (fun x => x.at_ = 0 || SMap.get 0 s.dom 0 ≠ period s)).map
          (fun x => if x.at_ ≠ 0 ∨ x.tb ≤ tb s then { x with at_ := period t + 1 } else x)) ∧
    (tb s < rd64 s (budBase + 0x48) → exec .periodBoundary s = .next s) ∧
    tb s < nextBoundary s ∧ nextBoundary s ≤ tb s + periodNs s ∧ nextBoundary s % periodNs s = 0

/-- BOUNDARY_TAKEN: a domain takes each boundary once. HCLK refills its counts of every activity to BUD_LIM plus what is owed, sets the counts
and limits of the activities whose schedule starts to the new budgets, and writes nothing else; ACLK refills its counts, starts a loaded schedule, switches degraded cores, freezes and releases partitions and releases PERIOD;
the L-dies take a boundary from the frame on that starts at or after it, refill their counts and take slots again; MCLK refills delivery
budgets. -/
def Obligations.DomainsTakeBoundaries : Prop :=
  ∀ (d : Nat) (s u : State), mgmtOn s = true → u = s.setDom (SMap.set 0 s.dom d (period s)) →
    (SMap.get 0 s.dom d = period s → exec (.boundaryTaken d) s = .next s) ∧
    (d = 0 → SMap.get 0 s.dom d ≠ period s → exec (.boundaryTaken d) s =
      .next (releasePeriods (freezeSwitch (degradedSwitch (scheduleStart (agePeriod (takeBudgets u (List.range 16)))))))) ∧
    (d = 1 → SMap.get 0 s.dom d ≠ period s → ∃ t, exec (.boundaryTaken d) s = .next t ∧
      t = (u.setCtl t.ctl) ∧
      (∀ a r, a < 32 → 16 ≤ r → r < 24 →
        ((startActs s).contains a = false → rd64 t (budRem a r) = ofSigned 64 ((rd64 s (budLim a r) : Int) + min (remOf s a r) 0) ∧
          rd64 t (budLim a r) = rd64 s (budLim a r)) ∧
        ((startActs s).contains a = true → rd64 t (budRem a r) = SMap.get 0 s.img.budgets (a * 64 + r) % 2 ^ 64 ∧
          rd64 t (budLim a r) = SMap.get 0 s.img.budgets (a * 64 + r) % 2 ^ 64)) ∧
      (∀ x, (∀ a r, a < 32 → 16 ≤ r → r < 24 → x ≠ budRem a r ∧ x ≠ budRem a r + 4 ∧ x ≠ budLim a r ∧ x ≠ budLim a r + 4) → rd32 t x = rd32 s x)) ∧
    (3 < d → exec (.boundaryTaken d) s = .next s) ∧
    (d = 2 → SMap.get 0 s.dom d ≠ period s → tb s * 10 / 256 < boundaryFrame s → exec (.boundaryTaken d) s = .next s) ∧
    (d = 2 → SMap.get 0 s.dom d ≠ period s → boundaryFrame s ≤ tb s * 10 / 256 →
      exec (.boundaryTaken d) s = .next (takeBudgets (u.setFab { u.fab with quiet := false }) (range' 24 16))) ∧
    (d = 3 → SMap.get 0 s.dom d ≠ period s → exec (.boundaryTaken d) s = .next (refillDeliveries u))

/-- LOAD and VALIDATE enter VALIDATING, with the repair state held against the image, unless a load is under way, when the code is 0x0F40;
CANCEL ends a load that is validating or draining and leaves one that is applying; the drain limit aborts what still runs once DRAIN_MS has
passed, and the drain's end begins APPLYING.
VALIDATION_END: an image with a finding leaves the load FAILED with that finding; a VALIDATE of a good image ends in DONE with its digest
shown and the device unchanged; a LOAD begins to apply an unconfigured device and otherwise drains its partitions. APPLY_END writes the image,
notes when its schedule starts and ends in DONE, or fails on a memory error: a whole-device load then leaves the device unconfigured, a partial load stops its partition. -/
def Obligations.LoadsRunFromCommandToDone : Prop :=
  (∀ (ms : Nat) (s u : State), loaderOn s = true → u = wrBits (wr64 s (mgtBase + 0x410) 0) (mgtBase + 0x408) 3 1 0 →
    (loading s = false → exec .validate s = .next (setLdState (u.setLd { u.ld with op := 1, drainMs := 0, early := stagedRetired u }) 1)) ∧
    (loading s = false → rdBits s (shtBase + 0x58) 8 8 = 0 →
      exec (.load ms) s = .next (setLdState (u.setLd { u.ld with op := 2, drainMs := min ms 60000, early := stagedRetired u }) 1)) ∧
    (loading s = true → exec .validate s = .next (ldBusy s) ∧ exec (.load ms) s = .next (ldBusy s)) ∧
    (ldState s = 1 → exec .cancel s = .next (failLoad s ⟨0x0F40, 0, 0⟩)) ∧
    (ldState s = 2 → exec .cancel s = .next (resumeParts (failLoad s ⟨0x0F40, 0, 0⟩))) ∧
    (ldState s = 3 → exec .cancel s = .next s) ∧
    (ldState s = 2 → tb s < s.ld.drainTb + 1000000 * s.ld.drainMs → exec .drainLimit s = .next s) ∧
    (ldState s = 2 → s.ld.drainTb + 1000000 * s.ld.drainMs ≤ tb s → exec .drainLimit s = .next ((loadParts s).foldl (fun s q => abortPartition s q 0x0F42) s)) ∧
    (ldState s = 2 → bistDone s = true → (runningTasks s).any (fun x => (loadParts s).contains (partOf s x.1)) = false →
      exec .drainEnd s = .next (beginApply s))) ∧
  (∀ (s : State), loaderOn s = true →
    (∀ e, ldState s = 1 → validate s s.ld.staged = .error e → exec .validationEnd s = .next (failLoad s e)) ∧
    (∀ v u, ldState s = 1 → validate s s.ld.staged = .ok v → u = wrDigest (setLdCode s 0) (mgtBase + 0x428) (imageDigest (imgOf s s.ld.staged)) →
      (s.ld.op = 1 → exec .validationEnd s = .next (setLdState (u.setLd { u.ld with op := 0 }) 4)) ∧
      (∀ x y, s.ld.op ≠ 1 → x = u.setLd { u.ld with scope := (imgOf s s.ld.staged).scope, part := (imgOf s s.ld.staged).partId } →
        y = x.setStr { x.str with noAdmit := (x.str.noAdmit ++ loadParts x).eraseDups } →
        let z : State := setLdState (y.setLd { y.ld with drainTb := tb y }) 2
        ((unconfigured y && bistDone y) = true → exec .validationEnd s = .next (beginApply y)) ∧
        ((unconfigured y && bistDone y) = false → s.ld.drainMs ≠ 0 → exec .validationEnd s = .next z) ∧
        ((unconfigured y && bistDone y) = false → s.ld.drainMs = 0 → exec .validationEnd s =
          .next ((loadParts z).foldl (fun s q => abortPartition s q 0x0F42) z)))) ∧
    (ldState s = 3 → (imgOf s s.ld.staged).scope = 0 → exec (.applyEnd true) s = .next (unconfigure (failLoad s ⟨cStoreEcc, 0, 0⟩))) ∧
    (ldState s = 3 → (imgOf s s.ld.staged).scope ≠ 0 →
      exec (.applyEnd true) s = .next (stopPartition (resumeParts (failLoad s ⟨cStoreEcc, 0, 0⟩)) (imgOf s s.ld.staged).partId 0x0F43)) ∧
    (∀ u v, ldState s = 3 → u = applyImage s (imgOf s s.ld.staged) →
      v = (if rd64 s (mgtBase + 0x420) ≠ 0 ∧ rd64 s (mgtBase + 0x420) < tb u then wrBits u (mgtBase + 0x408) 3 1 1 else u) →
      exec (.applyEnd false) s = .next (setLdState (setLdCode (v.setLd { v.ld with
        op := 0, starts := addStart v.ld.starts ⟨(imgOf s s.ld.staged).scope, (imgOf s s.ld.staged).partId,
          max (rd64 s (mgtBase + 0x420)) (tb v), 0⟩ }) 0) 4)))

/-! ### Streams -/

/-- The stream table's commands: READ shows the entry in STR_EDATA and changes nothing else; WRITE of a valid entry changes only its permitted
fields, or is refused with entry-busy; a WRITE that creates an entry takes the checks of R307 and, for a protected encode stream, the next
IV prefix, and one that leaves VALID 0 is kept with its reserved control bits at 0; INVALIDATE ends a valid entry. A refusal changes no entry.
Rings: a doorbell moves PROD of a submission ring or acknowledges records up to a new CONS, and one that no ring takes is counted and
reported; ENABLED is set when the descriptor passes its checks and its pages are writable, and is refused with ring-invalid otherwise; a ring
whose oldest record stays unacknowledged for DRAIN_US is reported to the host. -/
def Obligations.EntriesAndRingsFollowTheirCommands : Prop :=
  (∀ (i : Nat) (s : State), entryCmdOk s i = true →
    (∃ t, exec (.entryRead i) s = .next t ∧ t = s.setCtl t.ctl ∧
      (∀ k, k < 16 → rd32 t (strBase + 0x100 + 4 * k) = bits (entry s i).toNat (32 * k) 32) ∧
      rdBits t (strBase + 0x44) 16 16 = 0 ∧
      (∀ a, a ≠ strBase + 0x44 → (∀ k, k < 16 → a ≠ strBase + 0x100 + 4 * k) → rd32 t a = rd32 s a)) ∧
    (eValid (entry s i) = false → exec (.entryWrite i) s = .next (estat s cEntryInvalid)) ∧
    (∀ m, eValid (entry s i) = true → m = mergeEntry (entry s i) (edata s) →
      let dev (e : W512) : W512 := ebSet (ebSet (ebSet (ebSet e 37 1 0) 38 1 0) 58 2 0) 60 4 0
      (dev m ≠ dev (edata s) → exec (.entryWrite i) s = .next (estat s cEntryBusy)) ∧
      (dev m = dev (edata s) → changeBad s m = true → exec (.entryWrite i) s = .next (estat s cEntryInvalid)) ∧
      (dev m = dev (edata s) → changeBad s m = false → exec (.entryWrite i) s = .next (admitRing (setEntry (estat s 0) i m) (eInRing m)))) ∧
    (eValid (entry s i) = true → exec (.entryCreate i) s = .next (estat s cEntryBusy)) ∧
    (∀ e, eValid (entry s i) = false → e = ebSet (ebSet (edata s) 38 1 0) 58 2 0 → eValid e = false →
      exec (.entryCreate i) s = .next (setEntry (estat s 0) i (BitVec.ofNat 512 (setBits e.toNat 20 12 0)))) ∧
    (∀ e r, eValid (entry s i) = false → e = ebSet (ebSet (edata s) 38 1 0) 58 2 0 → eValid e = true →
      (entryStatus s e ≠ 0 → exec (.entryCreate i) s = .next (estat s (entryStatus s e))) ∧
      (entryStatus s e = 0 → (eProt e && !eDecode e) = false → r = s.str → exec (.entryCreate i) s = .next (setEntry (estat (s.setStr { r with
        sinceKey := SMap.set 0 r.sinceKey i 0, keyCount := SMap.set 0 r.keyCount i 0, readers := SMap.set {} r.readers i {},
        dropped := SMap.set [] r.dropped i [], epochSent := SMap.set [] r.epochSent i [],
        tokens := SMap.set [] (SMap.set [] r.tokens (2 * i) []) (2 * i + 1) [],
        ivNext := SMap.set 0 r.ivNext i 0 }) 0) i e)) ∧
      (entryStatus s e = 0 → (eProt e && !eDecode e) = true → ivPrefixes ≤ s.drk.next → exec (.entryCreate i) s = .next (estat s 0x020C)) ∧
      (∀ u, entryStatus s e = 0 → (eProt e && !eDecode e) = true → s.drk.next < ivPrefixes → u = (takePrefix s).2 → r = u.str →
        u.drk.next = s.drk.next + 1 ∧
        exec (.entryCreate i) s = .next (setEntry (estat (u.setStr { r with
          sinceKey := SMap.set 0 r.sinceKey i 0, keyCount := SMap.set 0 r.keyCount i 0, readers := SMap.set {} r.readers i {},
          dropped := SMap.set [] r.dropped i [], epochSent := SMap.set [] r.epochSent i [],
          tokens := SMap.set [] (SMap.set [] r.tokens (2 * i) []) (2 * i + 1) [],
          ivNext := SMap.set 0 r.ivNext i 0 }) 0) i (ebSet e 52 4 s.drk.next)))) ∧
    (eValid (entry s i) = true → exec (.entryInvalidate i) s = .next (invalidate (estat s 0) i cEntryInvalidated)) ∧
    (eValid (entry s i) = false → exec (.entryInvalidate i) s = .next (estat s cEntryInvalid))) ∧
  (∀ (r i sess : Nat) (x : OSlot) (s : State), codecOn s = true →
    (16384 ≤ r ∨ ringEnabled s r = false ∨ ringKind s r < 2 → exec (.doorbell r i) s = .next (badDoorbell s r)) ∧
    (r < 16384 → ringEnabled s r = true → ringKind s r = 2 →
      ((i + 65536 - ringCons s r) % 65536 ≤ ringSlots s r → exec (.doorbell r i) s = .next (setProd s r (i % 65536))) ∧
      (ringSlots s r < (i + 65536 - ringCons s r) % 65536 → exec (.doorbell r i) s = .next (badDoorbell s r))) ∧
    (r < 16384 → ringEnabled s r = true → 2 < ringKind s r →
      ((i + 65536 - ringCons s r) % 65536 ≤ ringFill s r → exec (.doorbell r i) s = .next (moveCons s r (i % 65536))) ∧
      (ringFill s r < (i + 65536 - ringCons s r) % 65536 → exec (.doorbell r i) s = .next (badDoorbell s r))) ∧
    (r < 16384 → (sess = 0 ∨ (session s sess).isSome = true) → ringEnabled s r = false →
      ((ringChecks s r && ringPages s r) = true → exec (.ringEnable r sess) s = .next (bindRing (wrBits s (ringAt r + 12) 24 1 1) r sess)) ∧
      ((ringChecks s r && ringPages s r) = false →
        exec (.ringEnable r sess) s = .next (raise (wr32 s (strBase + 0xC8) (r + cRingInvalid * 2 ^ 16)) strBase cRingInvalid))) ∧
    (r < 16384 → ringEnabled s r = true → 3 ≤ ringKind s r → ringFill s r ≠ 0 → oslot s r (ringCons s r) = some x → x.len.isSome = true →
      x.tb + ringDrainUs s r * 1000 ≤ tb s → exec (.ringStall r) s = .next (hcpSend (arrive (sticky s strBase stickySTALL) 144 r)
        (SMap.get 0 (arrive (sticky s strBase stickySTALL) 144 r).str.bound r - 1) 0x30 0 0 (beBytes 1 2 ++ beBytes 2 r ++ beBytes 2 0))))

/-- Submission records: with no image, a stopped partition or an invalid entry every record ends with that code. Otherwise RUN admits its task,
or waits while the entry admits none, or ends with input-size; FORCE_KEY marks an encode entry; WRITE_END_UNIT puts the END unit into the next
egress slot once the stream has no task left; RETRY admits the held slot of its frame again and SKIP releases it. -/
def Obligations.SubmissionsComplete : Prop :=
  ∀ (r w i : Nat) (e : W512) (s : State), i = subField w 4 4 → e = entry s i →
    (subStatus s r w ≠ 0 →
      (subHead s r 0 = some w → exec (.runTask r) s = .next (subDone s r w (subStatus s r w) 0)) ∧
      (subHead s r 1 = some w → exec (.forceKey r) s = .next (subDone s r w (subStatus s r w) 0)) ∧
      (subHead s r 2 = some w → exec (.writeEndUnit r) s = .next (subDone s r w (subStatus s r w) 0)) ∧
      (subHead s r 3 = some w → exec (.retry r) s = .next (subDone s r w (subStatus s r w) (subField w 8 4))) ∧
      (subHead s r 4 = some w → exec (.skip r) s = .next (subDone s r w (subStatus s r w) (subField w 8 4)))) ∧
    (subStatus s r w = 0 →
      (subHead s r 0 = some w → admitOpen s e = false → exec (.runTask r) s = .next s) ∧
      (subHead s r 0 = some w → admitOpen s e = true → eDecode e = false → subField w 12 4 ≠ itemBytes e →
        exec (.runTask r) s = .next (subDone s r w cInputSize 0)) ∧
      (subHead s r 0 = some w → admitOpen s e = true → (eDecode e = true ∨ subField w 12 4 = itemBytes e) →
        exec (.runTask r) s = .next (admitTask (subTake s r) 1 i (subField w 16 8 % 2 ^ 48) (subField w 12 4) none 0
          (bit (subField w 1 1) 0 && !eDecode e) (subField w 24 8) (tb s))) ∧
      (subHead s r 1 = some w → eDecode e = false →
        exec (.forceKey r) s = .next (subDone (setEntry s i (ebSet e 38 1 (eb e 38 1 ||| 1))) r w 0 0)) ∧
      (subHead s r 2 = some w → eDecode e = false → ((streamTasks s i).isEmpty = false ∨ ringFree s (eOutRing e) = 0) →
        exec (.writeEndUnit r) s = .next s) ∧
      (∀ o k u v, subHead s r 2 = some w → eDecode e = false → (streamTasks s i).isEmpty = true → ringFree s (eOutRing e) ≠ 0 → o = eOutRing e →
        k = ringProd s o → u = endUnit (eFrameNext e) → v = hbmPoke s (ringPart s o) (slotVa s o k) u →
        exec (.writeEndUnit r) s = .next (subDone (setProd (setOslot v o k (some { owner := 0, len := some u.length, stream := i, tb := tb v })) o
          ((k + 1) % 65536)) r w 0 0)) ∧
      (∀ k x, subHead s r 3 = some w → heldSlot s i (subField w 8 4) = some k → admitOpen s e = true → islot s (eInRing e) k = some x →
        exec (.retry r) s = .next (admitTask (setIslot (subTake s r) (eInRing e) k (some { x with state := 1 })) 0 i
          (slotVa (setIslot (subTake s r) (eInRing e) k (some { x with state := 1 })) (eInRing e) k) x.bytes (some k) x.item false (subField w 24 8) x.capture)) ∧
      (subHead s r 3 = some w → heldSlot s i (subField w 8 4) = none →
        exec (.retry r) s = .next (subDone s r w cEntryInvalid (subField w 8 4))) ∧
      (∀ k, subHead s r 4 = some w → heldSlot s i (subField w 8 4) = some k →
        exec (.skip r) s = .next (subDone (releaseSlot s (eInRing e) k) r w 0 (subField w 8 4))) ∧
      (subHead s r 4 = some w → heldSlot s i (subField w 8 4) = none → exec (.skip r) s = .next (subDone s r w cEntryInvalid (subField w 8 4))))

/-! ### Ethernet ports -/

/-- Frames that a port takes: a media datagram that passes identification, policing and elimination reaches its item, and one that does not
is dropped and counted; an item that stays incomplete for ASM_US gives its slot back; requests for a port's own addresses that policing
passes are answered; a kind
of frame that the port does not take is dropped; a change of link state is noted.
Frames that a port sends: an egress item leaves as its datagrams in order and frees its slot; the head frame of a queue leaves when no
higher queue may send and its gate stays open long enough; a frame that does not fit its opening waits and is counted once, and one that fits
no opening is discarded. -/
def Obligations.PortsTakeAndSendFrames : Prop :=
  (∀ (p r : Nat) (frame : List Byte) (f : EFrame) (a : List Byte) (s : State), f = parseFrame frame → a = f.pl →
    (p < 8 → portUp s p = true →
      (mediaUdp s p = 0 → exec (.mediaDatagram p frame) s = .next (rxDrop s p)) ∧
      (∀ d, mediaUdp s p ≠ 0 → (packetFor s p f).bind (fun x => udpData x (mediaUdp s p)) = some d →
        (∀ u, admitFrame s p f = (true, u) → exec (.mediaDatagram p frame) s = .next (mediaData u p d)) ∧
        (∀ u, admitFrame s p f = (false, u) → exec (.mediaDatagram p frame) s = .next u)) ∧
      exec (.icmpEchoRequest p frame) s = .next (rxDrop s p)) ∧
    (∀ x u, p < 8 → codecOn s = true →
      s.str.asm.find? (fun a => a.port = p && a.ring = r && decide (tb s ≥ a.started + rd32 s (portBase p + 0x48) * 1000)) = some x →
      u = setIslot (s.setStr { s.str with asm := s.str.asm.filter (fun y => y ≠ x) }) r x.slot
        (some { stream := x.stream, item := x.item, bytes := 0, state := 0, free := true }) →
      exec (.assemblyTimeout p r) s = .next (portEvent (count64 (advanceIngress u r (ringSlots u r)) (portBase p + 0xA8) 1) p 2)) ∧
    (portUp s p = true → exec (.otherFrame p frame) s = .next (rxDrop s p)) ∧
    (∀ v u, portUp s p = true → tagAccepted p f = true → admitFrame s p f = (v, u) →
      (f.etype = 0x0806 → 28 ≤ a.length → beAt a 0 2 = 1 → beAt a 2 2 = 0x0800 → beAt a 4 2 = 0x0604 → beAt a 6 2 = 1 →
        (v = false → exec (.arpRequest p frame) s = .next u) ∧
        (v = true → isV4 (List.replicate 12 0#8 ++ slice a 24 4) = true → ownIp u p (List.replicate 12 0#8 ++ slice a 24 4) = true →
          exec (.arpRequest p frame) s = .next (enqueue u p 0 (etherFrame p (slice a 8 6) 0 0 0x0806 (beBytes 2 1 ++ beBytes 2 0x0800 ++
            beBytes 2 0x0604 ++ beBytes 2 2 ++ portMac p ++ slice a 24 4 ++ slice a 8 6 ++ slice a 14 4))))) ∧
      (∀ x, f.etype = 0x86DD → parseIp f = some x → x.proto = 58 → x.hop = 255 → 24 ≤ x.pl.length → beAt x.pl 0 1 = 135 →
        pseudoSum x.src x.dst 58 x.pl = 0 →
        (v = false → exec (.neighborSolicitation p frame) s = .next u) ∧
        (v = true → (ownIp u p (slice x.pl 8 16) || (8 ≤ p && slice x.pl 8 16 = linkLocal p)) = true → isV4 (slice x.pl 8 16) = false →
          allZero x.src = false → exec (.neighborSolicitation p frame) s = .next (enqueue u p 0 (etherFrame p f.smac 0 0 0x86DD
            (putBe (ipPacket (slice x.pl 8 16) x.src 58 (icmp6 (slice x.pl 8 16) x.src (beBytes 4 0x88000000 ++ beBytes 4 0x60000000 ++
              slice x.pl 8 16 ++ beBytes 2 0x0201 ++ portMac p))) 7 1 255)))))) ∧
    (∀ x, portUp s p = true → 8 ≤ p → packetFor s p f = some x → 8 ≤ x.pl.length → isV4 x.dst = false → x.proto = 58 → beAt x.pl 0 1 = 128 →
      pseudoSum x.src x.dst 58 x.pl = 0 → exec (.icmpEchoRequest p frame) s =
        .next (enqueue s p 0 (etherFrame p f.smac 0 0 0x86DD (ipPacket x.dst x.src 58 (icmp6 x.dst x.src (putBe x.pl 0 1 129)))))) ∧
    (∀ u, p < 10 → mgmtOn s = true → (codecOn s = true ∨ 8 ≤ p) → SMap.get false s.eth.down p = false →
      u = s.setEth { s.eth with down := SMap.set false s.eth.down p true } →
      exec (.portLinkStateChange p false) s = .next (portEvent (satCount64 u (lfcBase + 0x280 + 8 * p) 1) p 0))) ∧
  (∀ (r p q : Nat) (x : OSlot) (f : QFrame) (rest : List QFrame) (s : State),
    (codecOn s = true → ringEnabled s r = true → ringKind s r = 1 → ringFill s r ≠ 0 → portUp s (ringPort s r) = true →
      egressUdp s (ringPort s r) ≠ 0 → oslot s r (ringCons s r) = some x →
      (x.len = some 0 → exec (.egressItem r) s = .next (setCons (setOslot s r (ringCons s r) none) r ((ringCons s r + 1) % 65536))) ∧
      (∀ len item m data u, x.len = some len → len ≠ 0 → item = SMap.get 0 s.eth.items r → m = max 1 (dataMax s r) →
        data = hbmPeek s (ringPart s r) (slotVa s r (ringCons s r)) len →
        u = (List.range (ceilDiv len m)).foldl (fun s k => sendDatagram s r x.stream item len (k * m) (min m (len - k * m)) data)
          (noteLost s (ringPart s r) (slotVa s r (ringCons s r)) len) →
        exec (.egressItem r) s = .next (setCons (setOslot (u.setEth { u.eth with items := SMap.set 0 u.eth.items r ((item + 1) % 2 ^ 32) }) r
          (ringCons s r) none) r ((ringCons s r + 1) % 65536)))) ∧
    (portUp s p = true → q < 8 → queueOf s p q = f :: rest →
      ((longestOpening s p q).any (fun t => decide (t < frameTime p f.bytes.length)) = true →
        exec (.egressFrame p q) s =
          .next (portEvent (count64 (setQueue (noteWaiting s p q (!rest.isEmpty)) p q rest) (portBase p + 0xB8) 1) p 3)) ∧
      ((longestOpening s p q).any (fun t => decide (t < frameTime p f.bytes.length)) = false →
        (openFor s p q).any (fun t => decide (t < frameTime p f.bytes.length)) = true →
        exec (.egressFrame p q) s =
          .next (if f.held then s else count64 (setQueue s p q ({ f with held := true } :: rest)) (portBase p + 0xB0) 1)) ∧
      ((longestOpening s p q).any (fun t => decide (t < frameTime p f.bytes.length)) = false →
        (openFor s p q).any (fun t => decide (t < frameTime p f.bytes.length)) = false → maySendQueue s p q = true →
        (range' (q + 1) (7 - q)).any (maySendQueue s p) = false → exec (.egressFrame p q) s = .next (transmit s p q f rest))))

/-- Gate lists, tables and elimination: a config change is requested once and takes its start from R369; the admin list becomes the oper list
once its start has come, and no later than asked; an interval that has ended gives way to the next of its list, and the lists of other ports
stay; READ shows an entry of a table and WRITE puts ETH_TDATA there with the entry's RO fields kept and its reserved bits 0; a recovery function that has seen no frame
for RESET_MS forgets its history. -/
def Obligations.GateListsAndTables : Prop :=
  ∀ (p g t i : Nat) (s : State),
    (mgmtOn s = true → p < 10 → (codecOn s = true ∨ 8 ≤ p) →
      (gclPending s p = true → exec (.gclChange p) s = .next s) ∧
      (gclPending s p = false → exec (.gclChange p) s =
        .next (wrBits (wrBits (setStart s p) (portBase p + 0xC0) 1 1 1) (portBase p + 0xC4) 9 1 1)) ∧
      (∀ u, gclPending s p = true → SMap.get 0 s.eth.starts p ≠ 0 → SMap.get 0 s.eth.starts p - 1 ≤ tb s →
        u = s.setEth { s.eth with
          oper := SMap.set {} s.eth.oper p { base := SMap.get 0 s.eth.starts p - 1, pos := 0, len := (adminRows s p).length, rows := adminRows s p }
          starts := SMap.set 0 s.eth.starts p 0 } →
        exec (.gclConfigApply p) s = .next (wrBits (wrBits (wrBits u (portBase p + 0xC4) 0 9 (adminRows s p).length) (portBase p + 0xC4) 9 1 0)
          (portBase p + 0xC0) 1 1 0)) ∧
      (∃ u, exec (.gateIntervalEnd p) s = .next u ∧ SMap.get {} u.eth.oper p = nextInterval (tb s) (SMap.get {} s.eth.oper p) ∧
        (∀ k, k ≠ p → SMap.get {} u.eth.oper k = SMap.get {} s.eth.oper k) ∧ u = s.setEth { s.eth with oper := u.eth.oper })) ∧
    (portUp s p = true → p < 8 → g < 16 →
      (∃ u, exec (.streamGateIntervalEnd p g) s = .next u ∧
        SMap.get {} u.eth.gates (p * 256 + g) = nextInterval (tb s) (SMap.get {} s.eth.gates (p * 256 + g)) ∧
        (∀ k, k ≠ p * 256 + g → SMap.get {} u.eth.gates k = SMap.get {} s.eth.gates k) ∧ u = s.setEth { s.eth with gates := u.eth.gates }) ∧
      (∀ b, SMap.get 0 s.eth.starts (256 + p * 16 + g) = b + 1 → b ≤ tb s →
        ∃ u, exec (.streamGateConfigApply p g) s = .next u ∧ SMap.get {} u.eth.gates (p * 256 + g) =
          { base := b, pos := 0, len := (gateRows s p g).length, rows := gateRows s p g } ∧ SMap.get 0 u.eth.starts (256 + p * 16 + g) = 0) ∧
      (i < 1024 → (SMap.get (0, 0, 0) s.eth.recov i).1 ≠ 0 →
        (SMap.get (0, 0, 0) s.eth.recov i).2.2 + tb' (tableEntry s 0 5 i) 6 2 * 1000000 ≤ tb s →
        ∃ u, exec (.recoveryReset p i) s = .next u ∧ SMap.get (0, 0, 0) u.eth.recov i = (0, 0, 0) ∧
          ∀ k, k ≠ i → SMap.get (0, 0, 0) u.eth.recov k = SMap.get (0, 0, 0) s.eth.recov k)) ∧
    (codecOn s = true → p < 8 →
      (tableSize t ≤ i → exec (.ethTableRead p t i) s = .next (tstat s p 0x0C06) ∧ exec (.ethTableWrite p t i) s = .next (tstat s p 0x0C06)) ∧
      (i < tableSize t → exec (.ethTableRead p t i) s = .next (tstat ((List.range 4).foldl (fun u j =>
        wr64 u (portBase p + 0x8010 + 8 * j) (bits (tableEntry s p t i).toNat (64 * j) 64)) s) p 0)) ∧
      (i < tableSize t → ∃ u, exec (.ethTableWrite p t i) s = .next u ∧
        tableEntry u p t i = clearBlocked t (keepRO t i (tableEntry s p t i) (tdata s p &&& BitVec.ofNat 256 (tableMask t i))) ∧
        ∀ k, k ≠ tableKey p t i → SMap.get 0 u.eth.tables k = SMap.get 0 s.eth.tables k))

/-- Time: a Sync at a host port synchronises; the first one, or one more than 1,000 ns away, steps the time base, and any other slews its
frequency within 200 ppm of the nominal increment; a peer-delay request is answered with a response and its follow-up; a missing Sync ends
synchronisation; media ports drop gPTP. -/
def Obligations.TimeFollowsSync : Prop :=
  ∀ (p origin : Nat) (offset : Int) (frame : List Byte) (f : EFrame) (s u : State), f = parseFrame frame → timeOn s = true →
    u = setTState (wr64 s (timBase + 0x48) (ofSigned 64 offset)) 1 →
    (portUp s p = true → p < 8 → exec (.sync p origin offset) s = .next (rxDrop s p) ∧ exec (.pdelayRequest p frame) s = .next (rxDrop s p)) ∧
    (portUp s p = true → 8 ≤ p → (tState s = 0 ∨ 1000 < offset.natAbs) → exec (.sync p origin offset) s = .next (stepTime u origin)) ∧
    (portUp s p = true → 8 ≤ p → tState s ≠ 0 → offset.natAbs ≤ 1000 → ∃ t, exec (.sync p origin offset) s = .next t ∧
      minInc ≤ t.pow.tbInc ∧ t.pow.tbInc ≤ maxInc ∧ t.pow.tbAcc = s.pow.tbAcc) ∧
    (portUp s p = true → 8 ≤ p → f.rseq = none → f.etype = 0x88F7 → 54 ≤ f.pl.length → beAt f.pl 0 1 = 0x12 → beAt f.pl 4 1 = 0 →
      ∃ v, v = enqueue s p 7 (etherFrame p (beBytes 6 0x0180C200000E) 0 7 0x88F7 (pdelayMsg s p 3 0x0200 (slice f.pl 30 2) (slice f.pl 20 10))) ∧
        exec (.pdelayRequest p frame) s = .next (enqueue v p 7 (etherFrame p (beBytes 6 0x0180C200000E) 0 7 0x88F7
          (pdelayMsg v p 10 0 (slice f.pl 30 2) (slice f.pl 20 10))))) ∧
    (tState s = 1 → exec .syncReceiptTimeout s = .next (setTState s 2)) ∧ (tState s ≠ 1 → exec .syncReceiptTimeout s = .next s)

/-! ### HCP -/

/-- An HCP frame at a host port reaches the session that it names, by the row of its message and by no other: of each row, the message of its
kind is handled, and one of another kind changes nothing. A request that is next in order is executed and answered, and what waited behind it
follows; a request that repeats is answered as before and not executed again. -/
def Obligations.HcpMessagesReachTheirSession : Prop :=
  ∀ (p k : Nat) (frame d : List Byte) (i : IpPacket) (x : Session) (s : State), portUp s p = true → 8 ≤ p →
    packetFor s p (parseFrame frame) = some i → udpData i (hcpUdp s) = some d → k = mSession d → session s k = some x →
    (∀ r c, (r, c) ∈ [(1, Instr.hello), (2, Instr.close), (3, Instr.ack), (4, Instr.read), (5, Instr.write), (6, Instr.submit), (7, Instr.cons),
        (8, Instr.xferImage), (9, Instr.xferFirmware), (10, Instr.challenge), (11, Instr.auth), (12, Instr.report), (13, Instr.getPart),
        (14, Instr.unlock), (15, Instr.lockDebug), (16, Instr.debugAccess)] →
      (mKind d = r → exec (c p frame) s = .next (hcpMessage s k x d)) ∧
      (mKind d ≠ r → mKind d ≠ 0 → exec (c p frame) s = .next s)) ∧
    (∀ y u, headOk d = true → mFlags d = 0 → mType d ≠ 3 → y = { x with lastRx := tb s } → u = setSession s k (some y) → session u k = some y →
      (mSeq d = x.rxSeq + 1 → hcpMessage s k x d = drainEarly (hcpNext u k y d) k 64) ∧
      (mSeq d ≤ x.rxSeq → ∀ m, m ≠ [] → SMap.get [] x.stored (mSeq d) = m → hcpMessage s k x d = hcpWire u y m)) ∧
    (∀ u c r t, headOk d = true → mFlags d = 0 → u = setSession s k (some { x with rxSeq := x.rxSeq + 1, ackDue := true }) → hcpExec u k x d = (c, r, t) →
      (mKind d ≠ 2 → hcpNext s k x d = hcpAnswer (portCode t x.port c) k (mType d) 1 c r (x.rxSeq + 1)) ∧
      (mKind d = 2 → c = 0 → hcpNext s k x d = closeSession (hcpAnswer (portCode t x.port c) k (mType d) 1 c r (x.rxSeq + 1)) k))

/-- What a request in order does, by its row: a HELLO settles the parameters, CLOSE is granted, READ and WRITE access their words in order,
SUBMIT appends its records whole, CONS acknowledges, XFER appends to staging, CHALLENGE leaves its random bytes with the session, AUTH with a
good answer authenticates it, REPORT and GET hand out the report, UNLOCK grants scopes to the session and LOCK takes them back, DEBUG acts
within them. -/
def Obligations.HcpRequestsTakeEffect : Prop :=
  ∀ (k : Nat) (d b : List Byte) (x : Session) (s : State), b = mBody d → beAt d 2 1 = x.verMaj → beAt d 3 1 = x.verMin → recovery s = false →
    (mKind d = 1 → helloOk b = false → hcpExec s k x d = (cBadMessage, [], s)) ∧
    (∀ v, mKind d = 1 → helloOk b = true → pickVersion s (beAt b 0 1, beAt b 1 1) (beAt b 2 1, beAt b 3 1) = some v → session s k = some x →
      hcpExec s k x d = (0, helloBytes v b, setSession s k (some (agree x v b)))) ∧
    (mKind d = 2 → b = [] → hcpExec s k x d = (0, [], s)) ∧
    (mKind d = 4 → b.length = 6 → accessBad b = false → hcpExec s k x d = (0, readWords s (3 + k) (beAt b 4 1) (beAt b 0 4) (beAt b 5 1))) ∧
    (mKind d = 5 → b.length = 6 + beAt b 4 1 * beAt b 5 1 → accessBad b = false → (bit x.policy 1 = false ∨ x.authed = true) →
      hcpExec s k x d = (0, [], writeWords s (3 + k) k (beAt b 4 1) (beAt b 0 4) (b.drop 6) (beAt b 5 1))) ∧
    (∀ r n, mKind d = 6 → r = beAt b 0 2 → n = beAt b 2 2 → b.length = 4 + 64 * n → codecOn s = true → unconfigured s = false → r < 16384 →
      ringEnabled s r = true → ringKind s r = 2 → SMap.get 0 s.str.stopCode (ringPart s r) = 0 →
      (n ≤ ringFree s r → hcpExec s k x d = (0, [], setProd (putSubs s r (ringProd s r) (b.drop 4) n) r ((ringProd s r + n) % 65536))) ∧
      (ringFree s r < n → hcpExec s k x d = (cRingFull, [], raise s strBase cRingFull))) ∧
    (∀ r i, mKind d = 7 → r = beAt b 0 2 → i = beAt b 2 2 → b.length = 4 → codecOn s = true → r < 16384 → ringEnabled s r = true → 3 ≤ ringKind s r →
      (i + 65536 - ringCons s r) % 65536 ≤ ringFill s r → hcpExec s k x d = (0, [], moveCons s r i)) ∧
    (∀ t, mKind d = 8 → 9 ≤ b.length → b.length ≤ 8201 → beAt b 0 1 = 0 → (bit x.policy 2 = false ∨ x.authed = true) → codecOn s = true →
      loading s = false → beAt b 1 8 = s.ld.staged.length → s.ld.staged ≠ [] → s.ld.staged.length + (b.drop 9).length ≤ stagingBytes s →
      t = setStaged s (s.ld.staged ++ b.drop 9) → hcpExec s k x d = (0, [], t)) ∧
    (mKind d = 9 → 9 ≤ b.length → b.length ≤ 8201 → beAt b 0 1 = 1 → (bit x.policy 2 = false ∨ x.authed = true) →
      hcpExec s k x d = ((stageFw s (beAt b 1 8) (b.drop 9)).1, [], (stageFw s (beAt b 1 8) (b.drop 9)).2)) ∧
    (∀ y, mKind d = 10 → b.length = 1 → session (random s 32).2 k = some y → hcpExec s k x d = (0, (random s 32).1,
      setSession (random s 32).2 k (some { y with challenge := some ((random s 32).1, tb (random s 32).2) }))) ∧
    (∀ c key u, mKind d = 11 → b.length = 3342 → zeroised s = false → useChallenge s k = (some c, u) → ownerKey u (slice b 1 32) = some key →
      (signs key c k 0 0 (slice b 33 3309) = true → hcpExec s k x d = (0, [], grant u k (fun x => { x with authed := true }))) ∧
      (signs key c k 0 0 (slice b 33 3309) = false → hcpExec s k x d = (cNotPermitted, [], u))) ∧
    (mKind d = 12 → b.length = 33 → zeroised s = false →
      hcpExec s k x d = (0, beBytes 4 4021, grant s k (fun x => { x with report := reportBytes s (b.drop 1) }))) ∧
    (mKind d = 13 → b.length = 4 → beAt b 1 1 = 0 → x.report ≠ [] →
      hcpExec s k x d = (0, (x.report.drop (beAt b 2 2 * 1024)).take 1024, s)) ∧
    (∀ c key u scope, mKind d = 14 → b.length = 3343 → scope = beAt b 3342 1 → 0 < scope → scope < 4 → zeroised s = false →
      useChallenge s k = (some c, u) → unlockKey u (slice b 1 32) = some (1, key) → signs key c k 1 scope (slice b 33 3309) = true →
      scope &&& scopesFor x.policy 1 = scope → hcpExec s k x d = (0, [], grant (u.setDrk { u.drk with scopes := u.drk.scopes ||| scope }) k
        (fun y => { y with debug := y.debug ||| scope }))) ∧
    (mKind d = 15 → b.length = 1 → hcpExec s k x d = (0, [], grant s k (fun y => { y with debug := 0 }))) ∧
    (mKind d = 16 → beAt b 0 1 = 2 → bit x.debug 0 = true → b.length = 2 → beAt b 1 1 ≤ 3 → cpuRuns s (beAt b 1 1) = true →
      hcpExec s k x d = (0, [], setCpu s (beAt b 1 1) { cpu s (beAt b 1 1) with halted := true })) ∧
    (mKind d = 16 → beAt b 0 1 ≤ 6 → bit x.debug 0 = false → hcpExec s k x d = (cNotPermitted, [], s))

/-- Every request command of HCP, taken from an open session in order, executes its request and answers it with the status and body of its
row: a second HELLO agrees again, CLOSE ends the session after its answer, READ and WRITE access their words, SUBMIT appends its records
whole, CONS acknowledges, XFER appends to staging, CHALLENGE leaves its bytes with the session, AUTH authenticates it, REPORT and GET hand out
the report, UNLOCK grants and LOCK takes back, DEBUG acts within what is granted. An ACK takes what it acknowledges from the window and
executes nothing. -/
def Obligations.HcpCommandsExecuteAndAnswer : Prop :=
  ∀ (p k : Nat) (frame d b : List Byte) (x y : Session) (s u v : State), CarriesMessage s p frame d k x → b = mBody d →
    (mKind d = 3 → headOk d = true → mType d = 3 → bit (mFlags d) 1 = true →
      exec (.ack p frame) s = .next (ackMessages (setSession s k (some { x with lastRx := tb s })) k (mAck d))) ∧
    (RequestInOrder s k d x u y → recovery u = false → v = setSession u k (some { y with rxSeq := y.rxSeq + 1, ackDue := true }) →
      let done (i : Instr) (a : Answer) : Prop := Answers i s k d y a
      (mKind d = 1 → done (.hello p frame) (helloAgain v k b)) ∧
      (mKind d = 2 → b = [] → exec (.close p frame) s =
        .next (drainEarly (closeSession (hcpAnswer (portCode v y.port 0) k (mType d) 1 0 [] (y.rxSeq + 1)) k) k 64)) ∧
      (mKind d = 4 → b.length = 6 → accessBad b = false → done (.read p frame) (0, readWords v (3 + k) (beAt b 4 1) (beAt b 0 4) (beAt b 5 1))) ∧
      (mKind d = 5 → b.length = 6 + beAt b 4 1 * beAt b 5 1 → accessBad b = false → (bit y.policy 1 = false ∨ y.authed = true) →
        done (.write p frame) (0, [], writeWords v (3 + k) k (beAt b 4 1) (beAt b 0 4) (b.drop 6) (beAt b 5 1))) ∧
      (∀ r n, mKind d = 6 → r = beAt b 0 2 → n = beAt b 2 2 → b.length = 4 + 64 * n → codecOn v = true → unconfigured v = false → r < 16384 →
        ringEnabled v r = true → ringKind v r = 2 → SMap.get 0 v.str.stopCode (ringPart v r) = 0 → n ≤ ringFree v r →
        done (.submit p frame) (0, [], setProd (putSubs v r (ringProd v r) (b.drop 4) n) r ((ringProd v r + n) % 65536))) ∧
      (∀ r i, mKind d = 7 → r = beAt b 0 2 → i = beAt b 2 2 → b.length = 4 → codecOn v = true → r < 16384 → ringEnabled v r = true →
        3 ≤ ringKind v r → (i + 65536 - ringCons v r) % 65536 ≤ ringFill v r → done (.cons p frame) (0, [], moveCons v r i)) ∧
      (mKind d = 8 → 9 ≤ b.length → b.length ≤ 8201 → beAt b 0 1 = 0 → (bit y.policy 2 = false ∨ y.authed = true) → codecOn v = true →
        loading v = false → beAt b 1 8 = v.ld.staged.length → v.ld.staged ≠ [] → v.ld.staged.length + (b.drop 9).length ≤ stagingBytes v →
        done (.xferImage p frame) (0, [], setStaged v (v.ld.staged ++ b.drop 9))) ∧
      (mKind d = 9 → 9 ≤ b.length → b.length ≤ 8201 → beAt b 0 1 = 1 → (bit y.policy 2 = false ∨ y.authed = true) →
        done (.xferFirmware p frame) ((stageFw v (beAt b 1 8) (b.drop 9)).1, [], (stageFw v (beAt b 1 8) (b.drop 9)).2)) ∧
      (∀ z, mKind d = 10 → b.length = 1 → session (random v 32).2 k = some z → done (.challenge p frame) (0, (random v 32).1,
        setSession (random v 32).2 k (some { z with challenge := some ((random v 32).1, tb (random v 32).2) }))) ∧
      (∀ c key t, mKind d = 11 → b.length = 3342 → zeroised v = false → useChallenge v k = (some c, t) → ownerKey t (slice b 1 32) = some key →
        signs key c k 0 0 (slice b 33 3309) = true → done (.auth p frame) (0, [], grant t k (fun z => { z with authed := true }))) ∧
      (mKind d = 12 → b.length = 33 → zeroised v = false →
        done (.report p frame) (0, beBytes 4 4021, grant v k (fun z => { z with report := reportBytes v (b.drop 1) }))) ∧
      (mKind d = 13 → b.length = 4 → beAt b 1 1 = 0 → y.report ≠ [] →
        done (.getPart p frame) (0, (y.report.drop (beAt b 2 2 * 1024)).take 1024, v)) ∧
      (∀ c key t scope, mKind d = 14 → b.length = 3343 → scope = beAt b 3342 1 → 0 < scope → scope < 4 → zeroised v = false →
        useChallenge v k = (some c, t) → unlockKey t (slice b 1 32) = some (1, key) → signs key c k 1 scope (slice b 33 3309) = true →
        scope &&& scopesFor y.policy 1 = scope → done (.unlock p frame) (0, [], grant (t.setDrk { t.drk with scopes := t.drk.scopes ||| scope }) k
          (fun z => { z with debug := z.debug ||| scope }))) ∧
      (mKind d = 15 → b.length = 1 → done (.lockDebug p frame) (0, [], grant v k (fun z => { z with debug := 0 }))) ∧
      (mKind d = 16 → beAt b 0 1 = 2 → bit y.debug 0 = true → b.length = 2 → beAt b 1 1 ≤ 3 → cpuRuns v (beAt b 1 1) = true →
        done (.debugAccess p frame) (0, [], setCpu v (beAt b 1 1) { cpu v (beAt b 1 1) with halted := true })))

/-- Opening and timers: a HELLO of session 0 opens the lowest free session with the highest version that both sides accept, or is refused; what
stays unacknowledged for RTO_MS is sent again, and after RETX_MAX times the session closes; an ACK goes out when one is due; 60 s without a
receipt close a session. -/
def Obligations.HcpSessionsOpenAndClose : Prop :=
  ∀ (p k : Nat) (frame d b : List Byte) (f : EFrame) (i : IpPacket) (x : Session) (s : State), f = parseFrame frame → b = mBody d →
    (portUp s p = true → 8 ≤ p → packetFor s p f = some i → udpData i (hcpUdp s) = some d → headOk d = true → mKind d = 1 → mType d = 1 →
      mSession d = 0 → session s 0 = none → mSeq d = 1 →
      (range' 1 8).find? (justOpened s p f.smac i.src) = none →
      (helloOk b = false → exec (.hello p frame) s = .next (refuseHello s p f.smac i.src d cBadMessage)) ∧
      (helloOk b = true → pickVersion s (beAt b 0 1, beAt b 1 1) (beAt b 2 1, beAt b 3 1) = none →
        exec (.hello p frame) s = .next (refuseHello s p f.smac i.src d cVersionUnsupported)) ∧
      (∀ v, helloOk b = true → pickVersion s (beAt b 0 1, beAt b 1 1) (beAt b 2 1, beAt b 3 1) = some v →
        (freeSession s = none → exec (.hello p frame) s = .next (refuseHello s p f.smac i.src d cSessionLimit)) ∧
        (freeSession s = some k → exec (.hello p frame) s =
          .next (hcpAnswer (setSession s k (some (agree (newSession s p f.smac i.src) v b))) k 1 1 0 (helloBytes v b) 1)))) ∧
    (mgmtOn s = true → session s k = some x →
      let due (m : HMsg) : Bool := decide (m.tb + x.rtoMs * 1000000 ≤ tb s)
      (x.unacked.any (fun m => due m && decide (x.retxMax ≤ m.tries)) = true → exec (.hcpRetransmit k) s = .next (closeSession s k)) ∧
      (x.unacked.any (fun m => due m && decide (x.retxMax ≤ m.tries)) = false → exec (.hcpRetransmit k) s =
        .next ((x.unacked.filter due).foldl (fun s m => hcpWire s x m.bytes) (setSession s k (some { x with
          unacked := x.unacked.map (fun m => if due m then { m with tb := tb s, tries := m.tries + 1 } else m) })))) ∧
      (x.ackDue = true → exec (.hcpAckTimer k) s =
        .next (hcpWire (setSession s k (some { x with ackDue := false })) x (hcpBytes x k 3 0 0 0 []))) ∧
      (x.ackDue = false → exec (.hcpAckTimer k) s = .next s) ∧
      (x.lastRx + 60000000000 ≤ tb s → exec (.sessionIdle k) s = .next (closeSession s k)) ∧
      (tb s < x.lastRx + 60000000000 → exec (.sessionIdle k) s = .next s))

/-! ### Fabric -/

/-- A link that may send fills every frame: a SEND run sends the channel's next frame and counts it as sent, or a frame without data when
the producer or the consumer holds it back, and a channel that ends sends its CABORT; a FORWARD run sends what arrived DELAY frames before,
or IDLE, and keeps it for other runs; both first take a boundary that their frame begins. A BEACON run sends the time; a
frame that no run assigns carries the oldest retransmission, else a late forward, else IDLE. A link that has sent its frame sends no
other. -/
def Obligations.SlotsSendTheirFrames : Prop :=
  ∀ (k : Nat) (s : State), (maySend s k = false → ∀ c ∈ [Instr.sendSlot k, .forwardSlot k, .beaconSlot k, .unscheduledFrame k], exec c s = .next s) ∧
    (∀ r u, maySend s k = true → runNow s k = some r → u = takeFabricBoundary s → carriesData u k = true → u.fab.quiet = false →
      (∀ i c, r.kind = 0 → sourceChan u r.chan = some i → chan u i = some c →
        (c.cabort = none → resetChan.reachedNat (sharedPeek u c.ctr 4) (c.unit + 1) = true → waitsRelease u c = false → admitted u r.act (24 + k) = true →
          exec (.sendSlot k) s = .next (updChan (sendData (charge u r.act (24 + k) 1) k
              (dataBase u c c.unit c.off false
                (chanRead u c (c.unit % max 1 c.slots * c.unitBytes + 576 * c.off) (frameLen c c.off))) (some (i, c.unit, c.off)) false) i
            (fun c => if unitFrames c ≤ c.off + 1 then { c with unit := (c.unit + 1) % 2 ^ 32, off := 0 } else { c with off := c.off + 1 }))) ∧
        (c.cabort = none → resetChan.reachedNat (sharedPeek u c.ctr 4) (c.unit + 1) = false → pairOf u c = none →
          exec (.sendSlot k) s = .next (sendIdle (count64 u (fabBase + 0x380) 1) k)) ∧
        (c.cabort = none → resetChan.reachedNat (sharedPeek u c.ctr 4) (c.unit + 1) = true → waitsRelease u c = true →
          exec (.sendSlot k) s = .next (sendIdle (count64 u (fabBase + 0x388) 1) k)) ∧
        (c.cabort = none → resetChan.reachedNat (sharedPeek u c.ctr 4) (c.unit + 1) = true → waitsRelease u c = false → admitted u r.act (24 + k) = false →
          exec (.sendSlot k) s = .next (sendIdle (count64 (refused u r.act (24 + k)) (fabBase + 0x390) 1) k)) ∧
        (∀ n v, c.cabort = some n → admitted u r.act (24 + k) = true →
          v = updChan (charge u r.act (24 + k) 1) i (fun c => { c with cabort := none }) →
          exec (.sendSlot k) s = .next (sendData v k (dataBase u c n 0 true []) none false))) ∧
      (r.kind = 1 →
        ((link u r.inLink).fwd.find? (fun x => x.1 + r.delay = frameIndex u) = none → exec (.forwardSlot k) s = .next (sendIdle u k)) ∧
        (∀ x, (link u r.inLink).fwd.find? (fun x => x.1 + r.delay = frameIndex u) = some x →
          exec (.forwardSlot k) s = .next (sendData u k x.2 none true)))) ∧
    (maySend s k = true → carriesData s k = true →
      (runNow s k = none →
        (∀ b rest, (link s k).retx = [] → (link s k).late = b :: rest →
          exec (.unscheduledFrame k) s = .next (sendData (updLink s k (fun l => { l with late := rest })) k b none true)) ∧
        ((link s k).retx = [] → (link s k).late = [] → exec (.unscheduledFrame k) s = .next (sendIdle s k)) ∧
        (∀ x rest u q b, (link s k).retx = x :: rest → (u, q, b) = sendFrame (count64 s (fabBase + 0x100 + 8 * k) 1) k x.bytes true true →
          exec (.unscheduledFrame k) s = .next (updLink u k
            (fun l => { l with retx := rest, sent := l.sent ++ [{ x with at_ := (link s k).frames, seq := q, tries := x.tries + 1, bytes := b }] }))))) ∧
    (maySend s k = true → ∀ r, runNow s k = some r → r.kind = 2 → (link s k).phase = 2 →
      exec (.beaconSlot k) s = .next (sendFrame s k (baseBytes { kind := 2, rset := rdBits s (fabBase + 0x48) 0 2, sframe := frameIndex s % 2 ^ 32, payload := beaconPayload s })
        false false).1)

/-- A frame that arrives whole: with a bad CRC it counts as an error and stands unacknowledged; with a good one it is acknowledged, its
header is taken, a data frame is placed, forwarded or kept as late, a beacon gives the skew, and a training frame moves the training on.
A data frame that does not fit stands unacknowledged and is counted. What has waited RTT_F + 2 frames for its acknowledgement is sent again,
in the order of the frames' first sending, at most eight times on a link that carries data; the ninth time the link is declared failed. -/
def Obligations.FramesAreTaken : Prop :=
  ∀ (k : Nat) (b : List Byte) (s : State), codecOn s = true → k < 16 →
    ((link s k).phase ≠ 0 → (link s k).checking = false → b.length = 640 →
      (beAt b 632 4 ≠ (crc32c (b.take 632)).toNat → exec (.fabricFrameRx k b) s = .next (noteGap (noteReceipt
        (updLink (sticky (countCE (count64 s (fabBase + 0x180 + 8 * k) 1) 5 1) fabBase stickyCE) k
          (fun l => { l with peekAgain := l.peekOut.isSome })) k (((link s k).rxSeq + 1) % 65536) false) k)) ∧
      (∀ u, beAt b 632 4 = (crc32c (b.take 632)).toNat →
        reservedOk b (decide ((link s k).phase = 2) && decide (rdBits s (fabBase + 0x80 + 8 * k) 12 4 = 0)) = true →
        u = noteReceipt s k (beAt b 2 2) true →
        (∀ t, beAt b 0 1 = 1 → carriesData s k = true → routeData u k b = some t → exec (.fabricFrameRx k b) s = .next (takeHeader t k b)) ∧
        (beAt b 0 1 = 1 → carriesData s k = true → routeData u k b = none → exec (.fabricFrameRx k b) s =
          .next (noteGap (noteReceipt (count64 s (fabBase + 0x398) 1) k (beAt b 2 2) false) k)) ∧
        (beAt b 0 1 = 2 → (link s k).phase = 2 → exec (.fabricFrameRx k b) s = .next (takeBeacon (takeHeader u k b) k (slice b 56 576))) ∧
        (beAt b 0 1 = 3 → exec (.fabricFrameRx k b) s = .next (takeTrain (takeHeader u k b) k (slice b 56 576))) ∧
        (beAt b 0 1 = 0 → exec (.fabricFrameRx k b) s = .next (takeHeader u k b)))) ∧
    (exec (.frameRto k) s = .next (((link s k).sent.filter
      (fun x => decide (x.at_ + (rdBits s (fabBase + 0x80 + 8 * k) 16 8 + 2) ≤ (link s k).frames))).foldl (fun s x => resend s k x) s)) ∧
    (∀ x u, u = updLink s k (fun l => { l with sent := l.sent.erase x }) →
      (9 ≤ x.tries → carriesData u k = true → resend s k x = declareLink u k) ∧
      (x.tries < 9 ∨ carriesData u k = false → ∃ t, resend s k x = t ∧ x ∈ (link t k).retx ∧ (∀ y ∈ (link u k).retx, y ∈ (link t k).retx) ∧
        (∀ y ∈ (link t k).retx, y = x ∨ y ∈ (link u k).retx) ∧ (link t k).sent = (link s k).sent.erase x ∧
        ((link s k).retx.Pairwise (fun a b => a.born ≤ b.born) → (link t k).retx.Pairwise (fun a b => a.born ≤ b.born))))

/-- Links come and go: light starts training, a link that is down retries, the lane check ends with the lanes that received cleanly, a lost
lock retrains, a lock lost for 100 µs and a link not up 10 ms after a load are declared failed; a failed link enters the failure set once, with
source 242, and at the earliest target boundary the lowest covering route set takes over, or every partition on the fabric stops; declarations
with a later boundary keep theirs. A peek asks the
link's next frames for its word. -/
def Obligations.LinksTrainAndFail : Prop :=
  ∀ (k : Nat) (s : State), codecOn s = true → k < 16 →
    (∀ u, u = updLink s k (fun l => { l with light := true }) →
      ((link u k).phase = 0 → exec (.fibreLightGained k) s = .next (startTraining u k)) ∧ ((link u k).phase ≠ 0 → exec (.fibreLightGained k) s = .next u)) ∧
    ((link s k).phase = 0 → (link s k).light = true → exec (.trainRetry k) s = .next (startTraining (countRetrain s k) k)) ∧
    (∀ bad, (link s k).phase = 1 → (link s k).checking = true → exec (.laneCheckEnd k bad) s = .next (sendTrain (updLink s k
      (fun l => { l with checking := false, sentStep := 1, rxOk := (((List.range 4).filter (fun i => !bad.contains i)).map (2 ^ ·)).sum })) k 1 0 0)) ∧
    ((link s k).phase = 2 → exec (.laneLockLoss k) s = .next (startTraining (countRetrain
      (updLink s k (fun l => { l with lostAt := tb s + 1, fwd := [], gaps := [] })) k) k)) ∧
    ((link s k).lostAt ≠ 0 → (link s k).phase ≠ 2 → (link s k).lostAt - 1 + 100000 ≤ tb s →
      exec (.lockLossTimeout k) s = .next (declareLink (updLink s k (fun l => { l with lostAt := 0 })) k)) ∧
    (s.fab.loaded = true → s.fab.doneAt + 10000000 ≤ tb s → (link s k).phase ≠ 2 → (∃ r ∈ s.fab.sets, nth [] r.runs k ≠ []) →
      exec (.postLoadLinkCheck k) s = .next (declareLink s k)) ∧
    exec (.declare k) s = .next (declareLink s k) ∧
    (∀ x u, s.fab.loaded = true → s.fab.fails.length < 64 → s.fab.fails.contains x = false → x = nameOf s k →
      u = wrBits (wr32 (s.setFab { s.fab with
          fails := s.fab.fails ++ [x]
          links := (List.range 16).foldl (fun m j => SMap.modify {} m j (fun l => { l with
            notices := l.notices ++ [(x.1, x.2, targetNow s / periodNs s % 256)] })) s.fab.links })
          (fabBase + 0x400 + 4 * s.fab.fails.length) (x.1 + x.2 * 2 ^ 11 + 2 ^ 31)) (fabBase + 0x48) 8 7 (s.fab.fails.length + 1) →
      declareLink s k = failChannels (showLinks (arrive (takeTarget u x (targetNow s)) 242 x.2)) (targetNow s)) ∧
    (∀ x t, s.fab.loaded = true → s.fab.fails.contains x = true → addFailure s x t = if declared s x then takeTarget s x t else s) ∧
    (∀ t u, switchAt s = some t → t ≤ tb s →
      u = showSwitch (s.setFab { s.fab with targets := s.fab.targets.filter (fun x => decide (tb s < x.2.2)) }) →
      (coveringSet s = none → exec .routeSwitch s = .next (noRoute u)) ∧
      (∀ r, coveringSet s = some r → exec .routeSwitch s = .next (arrive (wrBits u (fabBase + 0x48) 0 2 r) 243 0))) ∧
    ((∀ t, switchAt s = some t → tb s < t) → exec .routeSwitch s = .next s) ∧
    (∀ w, w < 1024 → ∃ t, exec (.peek k w) s = .next t ∧ (link t k).peekAsk = some w ∧ (link t k).peekSoft = true)

/-! ### Events and control processors -/

/-- Events: a named source arrives with its INFO; winners enter the claim slots and a fast line takes its trap; a claim answers the slot's
source with VALID and its count, the source turns from pending to active and the slot empties; a complete of an active source by its
processor clears ACTIVE, any other is counted. FAST_MRET brings back what the trap saved; WFI and the moderation timer let a waiting line
rise.
The controller's own registers: a word of pending or masked bits gains or loses exactly the bits written as 1, and no other word
changes; a source's configuration is written only while it is masked, inactive and in no slot; a software source arrives with the INFO set
for it; a claim budget of 0 is ignored. -/
def Obligations.EventControllerDelivers : Prop :=
  (∀ (p : Nat) (s : State), p < 4 → mgmtOn s = true →
    (∀ src info, sourceOk src = true → exec (.eventArrival src info) s = .next (arrive s src info.toNat)) ∧
    (∀ src info, sourceOk src = false → exec (.eventArrival src info) s = .next s) ∧
    (recovery s = false → exec .claimSlotFill s =
      .next ((List.range 4).foldl (fun s p => fastTrap (moderate (fillClaim (fillClaim s p true) p false) p false) p) s)) ∧
    (cpuRuns s p = true → inFast s p = true → exec (.fastMret p) s = .next (fastTrap (wrBits (setCpu s p { cpu s p with
      pc := (cpu s p).fepc, prv := (cpu s p).fprv, mie := (cpu s p).fmie }) (cpuAddr p) 2 1 0) p)) ∧
    (∀ i, inFast s p = false → cpuRuns s p = true → (cpu s p).halted = false → slotSource s p true = some i →
      fastTrap s p = setWfi (wrBits (setCpu s p { cpu s p with
        fepc := (cpu s p).pc, fprv := (cpu s p).prv, fmie := (cpu s p).mie, prv := 3
        pc := (cpu s p).ftvec, fastTraps := (cpu s p).fastTraps + 1 }) (cpuAddr p) 2 1 1) p false) ∧
    (cpuRuns s p = true → (cpu s p).halted = false → exec (.wfi p) s = .next (moderate (setWfi s p true) p false)) ∧
    (SMap.get false s.mgt.coal p = true → exec (.coalTimer p) s =
      .next (wrBits (s.setMgt { s.mgt with coal := SMap.set false s.mgt.coal p false }) (lineAddr p) 0 1 1)) ∧
    (∀ fast, slotSource s p fast = none → claim s p fast = (0, s)) ∧
    (∀ fast i, slotSource s p fast = some i → (claim s p fast).1 = i + rdBits s (evcBase + 0x3000 + 4 * i) 0 8 * 2 ^ 16 + 2 ^ 31) ∧
    (∀ c fast u, (c, fast) ∈ [(Instr.evcClaim p, false), (.evcFclaim p, true)] → cpuRuns s p = true → u = claim (setWfi s p false) p fast →
      (u.1 = 0 ∨ 512 ≤ bits u.1 0 10 → exec c s = .next u.2) ∧
      (u.1 ≠ 0 → bits u.1 0 10 < 512 → exec c s =
        .next (deviceEvent u.2 (bits u.1 0 10) (bits u.1 16 8) p (rd32 u.2 (evcBase + 0x4000 + 4 * bits u.1 0 10))))) ∧
    (∀ v i, i = bits (BitVec.toNat v) 0 10 →
      (activeBit s i = true → evTarget s i = p → exec (.evcComplete p v) s =
        .next (setCpu (setActive s i false) p { cpu s p with claimed := (cpu s p).claimed.erase i })) ∧
      (activeBit s i = false ∨ evTarget s i ≠ p → exec (.evcComplete p v) s = .next (count64 s (evcBase + 0x820 + 64 * p) 1)))) ∧
  (∀ (w : Nat) (v : W32) (s : State), mgmtOn s = true → w < 32 →
    (∃ t, exec (.evcPendset w v) s = .next t ∧ rd32 t (evcBase + 0x100 + 4 * w) = rd32 s (evcBase + 0x100 + 4 * w) ||| v.toNat ∧
      OnlyWords [evcBase + 0x100 + 4 * w] s t) ∧
    (∃ t, exec (.evcPendclr w v) s = .next t ∧ rd32 t (evcBase + 0x100 + 4 * w) = rd32 s (evcBase + 0x100 + 4 * w) &&& (v.toNat ^^^ (2 ^ 32 - 1)) ∧
      OnlyWords [evcBase + 0x100 + 4 * w] s t) ∧
    (∃ t, exec (.evcMaskset w v) s = .next t ∧ rd32 t (evcBase + 0x280 + 4 * w) = rd32 s (evcBase + 0x280 + 4 * w) ||| v.toNat ∧
      OnlyWords [evcBase + 0x280 + 4 * w] s t) ∧
    (∃ t, exec (.evcMaskclr w v) s = .next t ∧ rd32 t (evcBase + 0x280 + 4 * w) = rd32 s (evcBase + 0x280 + 4 * w) &&& (v.toNat ^^^ (2 ^ 32 - 1)) ∧
      OnlyWords [evcBase + 0x280 + 4 * w] s t) ∧
    (∀ i, i < 1024 → maskBit s i = true → activeBit s i = false → (∀ p < 4, slotSource s p false ≠ some i ∧ slotSource s p true ≠ some i) →
      exec (.evcCfgWrite i v) s = .next (wrBits s (evcBase + 0x2000 + 4 * i) 0 (if 1 ≤ i ∧ i ≤ 4 then 3 else 6) v.toNat)) ∧
    (∀ i, i < 1024 → maskBit s i = false ∨ activeBit s i = true → exec (.evcCfgWrite i v) s = .next s) ∧
    (512 ≤ bits v.toNat 0 10 → exec (.evcSwset v) s = .next (arrive s (bits v.toNat 0 10) (rd32 s (evcBase + 0x904)))) ∧
    (bits v.toNat 0 10 < 512 → exec (.evcSwset v) s = .next s) ∧
    (∀ p, p < 4 → v.toNat ≠ 0 → ∃ t, exec (.evcBudWrite p v) s = .next t ∧ rd32 t (evcBase + 0x810 + 64 * p) = v.toNat ∧
      OnlyWords [evcBase + 0x810 + 64 * p] s t) ∧
    (∀ p, p < 4 → v.toNat = 0 → exec (.evcBudWrite p v) s = .next s))

/-- Watchdogs, faults of a processor and of the control memory: stage 1 is an event, stage 2 and a fault of one processor reset that
processor, the third stage 2 within 60 s and a fault of the control memory restart management; a kick restarts the count; a timeout on the
control network is counted. -/
def Obligations.ProcessorsAreWatched : Prop :=
  ∀ (p : Nat) (s : State), p < 4 → mgmtOn s = true →
    (exec (.kick p) s = .next (setCpu s p { cpu s p with kick := tb s, stage1 := false })) ∧
    (wdOn s p = true → wdReached s p 1 = true → (cpu s p).stage1 = false → exec (.watchdogStage1 p) s =
      .next (arrive (setCpu s p { cpu s p with stage1 := true }) (1 + p) 0)) ∧
    (∀ u r, wdOn s p = true → wdReached s p 2 = true → r = s.mgt.wdResets.filter (fun t => decide (tb s < t + 60000000000)) →
      u = resetCpu (s.setMgt { s.mgt with wdResets := tb s :: r }) p 1 →
      (r.length < 2 → exec (.watchdogStage2 p) s = .next u) ∧
      (2 ≤ r.length → exec (.watchdogStage2 p) s = .next (managementRestart (u.setMgt { u.mgt with wdResets := [] }) 1))) ∧
    (cpuRuns s p = true → exec (.controlSpaceTimeout p) s = .next (count64 s (mgtBase + 0x5D8) 1)) ∧
    (recovery s = false →
      exec .mgtRestart s = .next (managementRestart s 4) ∧ exec .controlMemoryUe s = .next (managementRestart (sticky s mgtBase stickyUE) 2) ∧
      (cpuRuns s p = true → exec (.registerFileParity p) s = .next (resetCpu s p 2)) ∧
      (cpuRuns s p = true → inFast s p = true → exec (.fastContextException p) s = .next (resetCpu s p 2)))

/-- A firmware update goes through VERIFYING, VERIFIED, PROGRAMMING and DONE, each command in its place: the staged image is verified, with
its digest shown or its code; COMMIT erases the firmware area, which holds no image until the read-back succeeds; ACTIVATE restarts
management; a command out of its place leaves only its code. -/
def Obligations.FirmwareUpdatesInOrder : Prop :=
  ∀ (s : State), mgmtOn s = true →
    (fwState s ≠ 1 → fwState s ≠ 3 → exec .fwVerify s = .next (setFwState s 1 0)) ∧
    (fwState s = 1 ∨ fwState s = 3 → exec .fwVerify s = .next (fwRefuse s 0x0107)) ∧
    (∀ c, fwState s = 1 → c = fwStatus s s.mgt.staged →
      (c ≠ 0 → exec .fwVerifyEnd s = .next (setFwState s 5 c)) ∧
      (c = 0 → exec .fwVerifyEnd s = .next (wrDigest (setFwState s 2 0) (mgtBase + 0x560) (fwDigest s.mgt.staged)))) ∧
    (fwState s = 2 → ∃ t, exec .fwCommit s = .next t ∧ fwState t = 3 ∧ t.flash.fwBad = true) ∧
    (fwState s ≠ 2 → fwState s ≠ 3 → exec .fwCommit s = .next (fwRefuse s 0x0108)) ∧
    (fwState s = 3 → ∃ t, exec (.fwProgramEnd true) s = .next t ∧ fwState t = 4 ∧ t.flash.fw = some s.mgt.staged ∧ t.flash.fwBad = false) ∧
    (fwState s = 3 → exec (.fwProgramEnd false) s = .next (setFwState s 5 0x0106)) ∧
    (fwState s = 4 → recovery s = false → exec .fwActivate s = .next (managementRestart s 3)) ∧
    (fwState s = 4 → recovery s = true → exec .fwActivate s = .next (startDevice (resetAll (writeCopy s)) false)) ∧
    (fwState s = 3 → exec .fwActivate s = .next (fwRefuse s 0x0107)) ∧
    (fwState s ≠ 3 → fwState s ≠ 4 → exec .fwActivate s = .next (fwRefuse s 0x0108))

/-! ### Darkroom -/

/-- Darkroom commands: INSTALL and UNSEAL open a key and put it into the lowest free slot under a new generation, SEAL gives the blob of a
key, ERASE takes a key that no entry uses, an owner record that is newer and signed by an owner key is taken (one without keys leaves the
minima); each refusal leaves its code and an empty mailbox, and a zeroised device refuses all of them.
A tamper sensor erases every stream key, takes back every session's rights, shows its bit, raises source 5, counts, and ends what uses a
protected entry; the random source is reseeded after 2^20 requests, and the seed bank closes. -/
def Obligations.DarkroomKeepsAndErasesKeys : Prop :=
  (∀ (s : State), drkOn s = true →
    (zeroised s = true → ∀ slot, slot < 4096 → ∀ c ∈ [Instr.install, .sealKey slot, .unsealKey, .erase slot, .ownerUpdate],
      exec c s = .next (drkDone s 0x0207 [])) ∧
    (zeroised s = false →
      (∀ b, b = mbox s 1136 → slice b 0 4 = ascii "HKEY" → allZero (slice b 5 3) = true →
        (Config.kemUnwrap (slice b 8 1088) (slice b 1096 40) = none → exec .install s = .next (drkDone s 0x0206 [])) ∧
        (∀ key i, Config.kemUnwrap (slice b 8 1088) (slice b 1096 40) = some key → freeSlot s = some i →
          exec .install s = .next (drkDone (putKey s i { usage := leAt b 4 1 % 4, key := key }) 0 []))) ∧
      (∀ b, b = mbox s 76 → slice b 0 4 = ascii "HSEL" → allZero (slice b 5 3) = true → allZero (slice b 68 8) = true →
        (Config.gcmOpen Config.sealKey (slice b 8 12) [] (slice b 20 48) = none → exec .unsealKey s = .next (drkDone s 0x0206 [])) ∧
        (∀ key i, Config.gcmOpen Config.sealKey (slice b 8 12) [] (slice b 20 48) = some key → freeSlot s = some i →
          exec .unsealKey s = .next (drkDone (putKey s i { usage := leAt b 4 1 % 4, key := key }) 0 []))) ∧
      (∀ slot, slot < 4096 →
        (SMap.get none s.drk.keys slot = none → exec (.sealKey slot) s = .next (drkDone s 0x0202 []) ∧ exec (.erase slot) s = .next (drkDone s 0x0202 [])) ∧
        (∀ k, SMap.get none s.drk.keys slot = some k →
          (∀ u, u = random s 12 → exec (.sealKey slot) s = .next (drkDone u.2 0 (ascii "HSEL" ++ leBytes 1 k.usage ++ leBytes 3 0 ++ u.1 ++
            slice (Config.gcmSeal Config.sealKey u.1 [] k.key) 0 48 ++ leBytes 8 0))) ∧
          (keyBusy s slot = true → exec (.erase slot) s = .next (drkDone s 0x0204 [])) ∧
          (keyBusy s slot = false → exec (.erase slot) s =
            .next (drkDone (showSlots (s.setDrk { s.drk with keys := SMap.set none s.drk.keys slot none })) 0 [])))) ∧
      (∀ b, b = mbox s 11213 →
        (ownerStatus s b ≠ 0 → exec .ownerUpdate s = .next (drkDone s (ownerStatus s b) [])) ∧
        (∀ u, ownerStatus s b = 0 → leAt b 15 1 ≠ 0 →
          u = { s.setFlash { s.flash with ownMin := (leAt b 16 4, leAt b 20 4), ownSeq := leAt b 4 4 } with owner := b } →
          exec .ownerUpdate s = .next (drkDone (wrBits u (drkBase + 0x40) 2 1 (owned u).toNat) 0 [])) ∧
        (∀ u, ownerStatus s b = 0 → leAt b 15 1 = 0 →
          u = { s.setFlash { s.flash with ownMin := (imgMinSvn s, fwMinSvn s), ownSeq := leAt b 4 4 } with owner := [] } →
          exec .ownerUpdate s = .next (drkDone (wrBits u (drkBase + 0x40) 2 1 (owned u).toNat) 0 []))))) ∧
  (∀ (s : State), mgmtOn s = true →
    (∀ k u v, k < 3 →
      u = (range' 1 8).foldl (fun s i => match session s i with
        | none => s
        | some x => setSession s i (some { x with authed := false, debug := 0, challenge := none })) (eraseKeys s) →
      v = orWord u (drkBase + 0x40) (2 + 2 ^ (4 + k)) →
      exec (.tamperFire k) s = .next (dropReady (abortWhere (satCount64 (arrive v 5 (rdBits v (drkBase + 0x40) 4 3)) (lfcBase + 0x360 + 8 * k) 1) 0x0207
        (fun _ _ t => t.kind ≠ 2 && eProt t.snap)) 0x0207 (fun t => eProt t.snap))) ∧
    (eraseKeys s).drk.keys = [] ∧
    (2 ^ 20 ≤ s.drk.requests → exec .drbgReseed s = .next (s.setDrk { s.drk with requests := 0 })) ∧
    (s.drk.requests < 2 ^ 20 → exec .drbgReseed s = .next s) ∧
    exec .seedBankClose s = .next (s.setDrk { s.drk with seedOpen := false }))

/-! ### Repair and lifetime -/

/-- Verdicts become repairs: RETIRE, a failed periodic test and a failed self-test engage a repair, which is journalled with its location
and spare before anything switches; a copy that ends waits for its switch; a switch is made when the resource is idle or its deadline has
passed, with what still runs there aborted; an optical lane and a held schedule wait. The self-test sets BIST_DONE. -/
def Obligations.RepairsRunTheirCourse : Prop :=
  ∀ (loc : W32) (failed : List Nat) (l : Nat) (s : State), mgmtOn s = true → l = loc.toNat →
    (locOk l = true → outOfService s l = false → locKind l ≠ 4 → chooseSpare s l ≠ .none → exec (.retire loc) s = .next (engage s l 4 0)) ∧
    (locOk l = true → outOfService s l = true → exec (.retire loc) s = .next s) ∧
    (locOk l = true → outOfService s l = false → locKind l = 4 → exec (.retire loc) s = .next (lasting s l 4 0)) ∧
    (∀ o ev x sp u, locOk l = true → outOfService s l = false → s.rep.pend.any (fun p => p.loc = l) = false → chooseSpare s l = .take x sp →
      s.rep.pend.any (fun p => p.loc = x) = false → locKind x ≠ 5 → locKind x ≠ 6 →
      u = (jAdd s { kind := locKind x, origin := o, loc := x, spare := sp, tb := tb s, events := ev }).1 →
      engage s l o ev = setPend u (u.rep.pend ++
        [{ loc := x, spare := sp, seq := s.flash.journal.length + 1, copying := decide (locKind x = 3), deadline := deferUntil u }])) ∧
    (∀ p, s.rep.pend.find? (fun p => p.loc = l && p.copying) = some p → locKind p.loc ≠ 5 → exec (.repairCopyEnd loc) s =
      .next (setPend s (s.rep.pend.map (fun q => if q.seq = p.seq then { q with copying := false, deadline := deferUntil s } else q)))) ∧
    (∀ p, s.rep.pend.find? (fun p => p.loc = l && !p.copying) = some p →
      (locKind p.loc ≠ 6 → switchHeld s = false → mayTake s p.loc p.deadline = true →
        exec (.repairSwitch loc) s = .next (finishRepair (forceIdle s p.loc) p)) ∧
      (locKind p.loc = 6 ∨ switchHeld s = true ∨ mayTake s p.loc p.deadline = false → exec (.repairSwitch loc) s = .next s)) ∧
    (∀ k, k = tb s / (max 1 (rdBits s (repBase + 0x50) 16 16) * 1000000000) → s.rep.tested < k →
      exec (.periodicTest failed) s = .next (failed.foldl (fun s l => lasting s l 1 0) (s.setRep { s.rep with tested := k }))) ∧
    (∀ u, bit (rd32 s (repBase + 0x40)) 0 = false → u = failed.foldl (fun s l => engage s l 0 0) s →
      exec (.bistEnd failed) s = .next (wrBits ((u.rep.pend.filter (fun p => locKind p.loc ≠ 6)).foldl finishRepair u) (repBase + 0x40) 0 1 1)) ∧
    (bit (rd32 s (repBase + 0x40)) 0 = true → exec (.bistEnd failed) s = .next s)

/-- Faults are counted, and tests decide: a corrected error of a memory or of HBM shows and counts, an uncorrectable one poisons a place; an
array's parity error or check mismatch aborts the tasks with bank regions there; an uncorrectable error inside a core aborts the vector unit's
task or poisons a row of a table bank, and a corrected one may be one of a table bank, by a free value (log entries 3 and 107); the window
count may give a verdict. An idle core rotates its spare
array in and tests the one it replaces; a targeted test that finds nothing clears the counts, one that finds something engages repairs. A
class that is written loses its counts. -/
def Obligations.FaultsAreCountedAndTested : Prop :=
  ∀ (loc : W32) (failed : List Nat) (l : Nat) (s : State), mgmtOn s = true → l = loc.toNat →
    (locOk l = true →
      (∀ ue, locKind l = 1 ∨ locKind l = 6 → exec (.faultEvent loc ue) s = .next (faultEventAt s l ue)) ∧
      (∀ i u, locKind l = 7 → s.fresh = (i, u) →
        (Config.freeNat i % 2 = 0 → exec (.faultEvent loc false) s = .next (faultEventAt u l false)) ∧
        (Config.freeNat i % 2 = 1 → exec (.faultEvent loc false) s = .next (faultEventAt
          (arrive (sticky (countCE u 0 1) (coreBase (locCore l) 3) stickyCE) (16 + 16 * locCore l + 6) 0) l false))) ∧
      (∀ b, b = hbmBase (locStack l) → locKind l = 4 ∨ locKind l = 5 →
        exec (.faultEvent loc false) s = .next (faultEventAt (arrive (count64 (sticky (countCE s 1 1) b stickyCE) (b + 0xA8) 1)
          (160 + 8 * locStack l) (locChan l)) l false) ∧
        (∀ i u, s.fresh = (i, u) → exec (.faultEvent loc true) s = .next (faultEventAt
          (u.setMem { u.mem with badSector := SMap.set false u.mem.badSector (errorSector u l (Config.freeNat i)) true }) l true))) ∧
      (∀ o, o = macroHome (locMacro l) → locKind l = 3 →
        (o < 8 → exec (.faultEvent loc false) s = .next (faultEventAt (arrive (sticky (countCE s 0 1) (coreBase o 0) stickyCE) (16 + 16 * o + 6) 0) l false)) ∧
        (8 ≤ o → exec (.faultEvent loc false) s = .next (faultEventAt (countCE s 0 1) l false)) ∧
        (∀ i u, s.fresh = (i, u) → exec (.faultEvent loc true) s =
          .next (faultEventAt (u.setMem { u.mem with badWord := SMap.set false u.mem.badWord (errorWord u l (Config.freeNat i)) true }) l true))) ∧
      (∀ ue code, locKind l = 2 → code = (if ue then cBankParity else cArrayCheck) →
        ∀ hit : Nat → Nat → Task → Bool, (∀ m x t, hit m x t = (m = locCore l && (ctxOf s (locCore l) x).regions.any (fun g =>
          (range' g.1 (gangArrays s (locCore l))).any (fun k => lmapOf s (locCore l) k = locArray l)))) →
          ((runningTasks s).any (fun x => hit x.1 x.2.1 x.2.2) = true → exec (.faultEvent loc ue) s =
            .next (faultEventAt (abortWhere (raise s (coreBase (locCore l) 1) code) code hit) l ue)) ∧
          ((runningTasks s).any (fun x => hit x.1 x.2.1 x.2.2) = false → exec (.faultEvent loc ue) s = .next (faultEventAt s l ue))) ∧
      (∀ i u, locKind l = 7 → s.fresh = (i, u) →
        (∀ j, Config.freeNat i % 2 = 0 → (vec u (locCore l)).job = some j → exec (.faultEvent loc true) s =
          .next (faultEventAt (vecFault u (locCore l) j.ctx ⟨cVectorParity, 0⟩) l true)) ∧
        (Config.freeNat i % 2 = 0 → (vec u (locCore l)).job = none → exec (.faultEvent loc true) s = .next (faultEventAt u l true)) ∧
        (Config.freeNat i % 2 = 1 → exec (.faultEvent loc true) s = .next (faultEventAt (setCore u (locCore l) { Machine.core u (locCore l) with
          rowBad := SMap.set false (Machine.core u (locCore l)).rowBad (Config.freeNat i / 2 % 2048) true }) l true)))) ∧
    (∀ ue n v e, countOn s l n = (v, e) → n = (if ue && (repClass l = 0 || repClass l = 2) then clsT s (repClass l) else 1) →
      faultEventAt s l ue = if e.1 then lasting v l 2 e.2 else v) ∧
    (∀ n i, codecOn s = true → n < 8 → coreRetired s n = false → partOf s n ≤ 7 → spareOf s n ≠ 7 → rdBits s (mgtBase + 0x408) 0 3 ≠ 3 →
      (runningTasks s).any (fun x => x.1 = n) = false → SMap.get 0 s.rep.rotTb n + max 1 (rdBits s (repBase + 0x50) 16 16) * 1000000000 ≤ tb s →
      (range' (SMap.get 0 s.rep.rot n) 5).find? (fun i => (List.range 4).any (fun l => lmapOf s n l = i % 5)) = some i →
      ∀ u, u = swapSpare s n (i % 5) → exec (.rotation n) s = .next (u.setRep { u.rep with
        rot := SMap.set 0 u.rep.rot n ((i + 1) % 5), rotTb := SMap.set 0 u.rep.rotTb n (tb u)
        tests := u.rep.tests ++ [{ loc := arrayLoc n (i % 5), targeted := false, deadline := 0 }] })) ∧
    (∀ t u v, s.rep.tests.find? (fun t => t.loc = l) = some t → switchHeld s = false → t.targeted = true → mayTake s t.loc t.deadline = true →
      u = (if locKind t.loc = 2 then swapSpare (forceIdle s t.loc) (locCore t.loc) (locArray t.loc) else forceIdle s t.loc) →
      v = u.setRep { u.rep with tests := u.rep.tests.erase t } →
      (failed = [] → exec (.targetedTestEnd loc failed) s =
        .next (count64 (v.setRep { v.rep with locs := v.rep.locs.filter (fun x => x.loc ≠ t.loc) }) (repBase + 0x70) 1)) ∧
      (failed ≠ [] → exec (.targetedTestEnd loc failed) s = .next (failed.foldl (fun s l => engage s l 3 0) v))) ∧
    (∀ c v u, c ≤ 5 → u = wr32 s (repBase + 0x200 + 4 * c) (bits (BitVec.toNat v) 0 28) →
      exec (.repClassWrite c v) s = .next (u.setRep { u.rep with locs := u.rep.locs.filter (fun x => repClass x.loc ≠ c) }))

/-- The lifetime records: the timer and FLUSH begin a write to flash; when it is done the newer copy stands first, with the next SEQ, FLUSHING
is clear and source 11 arrives. A sample counts one second of the power state, one bin of temperature and one of each rail. -/
def Obligations.LifetimeRecordsAreKept : Prop :=
  ∀ (s : State), mgmtOn s = true →
    (∀ c ∈ [Instr.flushTimer, .flush], ∃ t, exec c s = .next t ∧ bit (rd32 t (lfcBase + 0x40)) 0 = true ∧ OnlyWords [lfcBase + 0x40] s t) ∧
    (bit (rd32 s (lfcBase + 0x40)) 0 = true → exec .flushDone s = .next (arrive (writeCopy s) 11 0)) ∧
    (bit (rd32 s (lfcBase + 0x40)) 0 = false → exec .flushDone s = .next s) ∧
    (writeCopy s).flash.life = ((s.flash.life.head?.map (·.1)).getD 0 + 1, s.ctl.filter (fun x => lifeWord x.1)) :: s.flash.life.take 1 ∧
    (∀ temp volts, exec (.recordSample temp volts) s = .next (((List.range 16).zip volts).foldl
      (fun s x => satCount64 s (lfcBase + 0x1000 + 0xB0 * x.1 + 8 * voltBin x.2) 1)
      (satCount64 (satCount64 s (lfcBase + (if s.pow.st = .standby then 0x108 else 0x110)) 1) (lfcBase + 0x800 + 8 * tempBin temp) 1)))

/-! ### Shutter -/

/-- The shutter: a firing takes the next SHOT, the time and its source, waits for every block and adds the freeze set, unless one is in flight
or a kept sheet waits, which counts it as dropped; a block latches once, and then its window and nothing else holds SHOT, VALID, TB_FIRE and the
block's registers; when all have latched BUSY clears, SHEET is set and source 10 carries SHOT. RELEASE clears SHEET and nothing else. UNFREEZE,
while something is frozen, waits for the boundary, at which the frozen partitions go and those of a firing come. ARM_AT sets the instant, which
the links that run 1.1 relay; one that has passed is counted, and of two the earlier stands (log entry 125). DISARM clears the instant and
nothing else; the instant fires when the time base reaches it, as source 3 or, when it was relayed, 4. -/
def Obligations.ShutterFiresLatchesAndCompletes : Prop :=
  ∀ (b : Nat) (s : State), mgmtOn s = true →
    exec .fire s = .next (fire s 0) ∧
    (∀ src, bit (rd32 s (shtBase + 0x58)) 0 = true ∨ (bit (rd32 s (shtBase + 0x40)) 1 = true ∧ bit (rd32 s (shtBase + 0x58)) 1 = true) →
      fire s src = count64 s (shtBase + 0x70) 1) ∧
    (∀ src u, bit (rd32 s (shtBase + 0x58)) 0 = false → bit (rd32 s (shtBase + 0x40)) 1 = false ∨ bit (rd32 s (shtBase + 0x58)) 1 = false →
      u = wr64 (wr32 s (shtBase + 0x58) (setBits (setBits (setBit (rd32 s (shtBase + 0x58)) 0 true) 4 3 src) 16 16
        ((bits (rd32 s (shtBase + 0x58)) 16 16 + 1) % 65536))) (shtBase + 0x60) (tb s) →
      fire s src = u.setSht { u.sht with
        latch := latchBlocks u
        freeze := if bit (rd32 s (shtBase + 0x40)) 0 then u.sht.freeze ||| bits (rd32 s (shtBase + 0x40)) 8 8 else u.sht.freeze }) ∧
    (s.sht.latch.contains b = true → exec (.shutterLatch b) s = .next (latchBlock (s.setSht { s.sht with latch := s.sht.latch.erase b }) b)) ∧
    (s.sht.latch.contains b = false → exec (.shutterLatch b) s = .next s) ∧
    (∀ t, t = latchBlock s b → t = s.setCtl t.ctl ∧ rd64 t (sheetAt b) = rdBits s (shtBase + 0x58) 16 16 + 2 ^ 16 ∧
      rd64 t (sheetAt b + 8) = rd64 s (shtBase + 0x60) ∧
      (∀ i x, (blockCopies b)[i]? = some x → rd64 t (sheetAt b + 0x40 + 8 * i) = if x.2 = 8 then rd64 s x.1 else rd32 s x.1) ∧
      (∀ a, a < sheetAt b ∨ sheetAt b + 0x40 + 8 * sheetCopies b ≤ a → rd32 t a = rd32 s a)) ∧
    (bit (rd32 s (shtBase + 0x58)) 0 = true → s.sht.latch = [] → exec .firingComplete s = .next
      (arrive (wrBits (wrBits s (shtBase + 0x58) 0 1 0) (shtBase + 0x58) 1 1 1) 10 (rdBits s (shtBase + 0x58) 16 16))) ∧
    (bit (rd32 s (shtBase + 0x58)) 0 = false ∨ s.sht.latch ≠ [] → exec .firingComplete s = .next s) ∧
    (∃ t, exec .release s = .next t ∧ (∀ i, bit (rd32 t (shtBase + 0x58)) i = (bit (rd32 s (shtBase + 0x58)) i && i != 1)) ∧
      OnlyWords [shtBase + 0x58] s t) ∧
    (bit (rd32 s (shtBase + 0x58)) 3 = true → exec .unfreeze s = .next (s.setSht { s.sht with unfreeze := true })) ∧
    (bit (rd32 s (shtBase + 0x58)) 3 = false → exec .unfreeze s = .next s) ∧
    (rdBits s (mgtBase + 0x408) 0 3 ≠ 3 → s.sht.freeze < 256 → ∃ t, freezeSwitch s = t ∧ t.sht = { s.sht with freeze := 0, unfreeze := false } ∧
      rdBits t (shtBase + 0x58) 8 8 = (if s.sht.unfreeze then 0 else rdBits s (shtBase + 0x58) 8 8) ||| s.sht.freeze ∧
      bit (rd32 t (shtBase + 0x58)) 3 = decide (rdBits t (shtBase + 0x58) 8 8 ≠ 0) ∧ ∀ a, a ≠ shtBase + 0x58 → rd32 t a = rd32 s a) ∧
    (bit (rd32 s (shtBase + 0x58)) 2 = false → tb s ≤ rd64 s (shtBase + 0x50) → exec .armAt s = .next (armInstant s (rd64 s (shtBase + 0x50)) false)) ∧
    (rd64 s (shtBase + 0x50) < tb s → exec .armAt s = .next (count64 s (shtBase + 0x70) 1)) ∧
    (bit (rd32 s (shtBase + 0x58)) 2 = true → tb s ≤ rd64 s (shtBase + 0x50) →
      (rd64 s (shtBase + 0x68) ≤ rd64 s (shtBase + 0x50) → exec .armAt s = .next (count64 s (shtBase + 0x70) 1)) ∧
      (rd64 s (shtBase + 0x50) < rd64 s (shtBase + 0x68) →
        exec .armAt s = .next (armInstant (count64 s (shtBase + 0x70) 1) (rd64 s (shtBase + 0x50)) false))) ∧
    (∀ x r t, x < 2 ^ 64 → t = armInstant s x r → t = ((s.setCtl t.ctl).setSht { s.sht with relayed := r }).setFab t.fab ∧
      bit (rd32 t (shtBase + 0x58)) 2 = true ∧ rd64 t (shtBase + 0x68) = x ∧
      t.fab = { s.fab with shut := some x, links := s.fab.links.map (fun (k, l) => (k,
        if rdBits s (fabBase + 0x80 + 8 * k) 0 3 = 2 ∧ 1 ≤ rdBits s (fabBase + 0x80 + 8 * k) 12 4 then { l with shutLeft := 64 } else l)) } ∧
      (∀ i, i ≠ 2 → bit (rd32 t (shtBase + 0x58)) i = bit (rd32 s (shtBase + 0x58)) i) ∧
      ∀ a, a ∉ [shtBase + 0x58, shtBase + 0x68, shtBase + 0x6C] → rd32 t a = rd32 s a) ∧
    (∃ t, exec .disarm s = .next t ∧ (∀ i, bit (rd32 t (shtBase + 0x58)) i = (bit (rd32 s (shtBase + 0x58)) i && i != 2)) ∧
      rd64 t (shtBase + 0x68) = 0 ∧ OnlyWords [shtBase + 0x58, shtBase + 0x68, shtBase + 0x6C] s t) ∧
    (bit (rd32 s (shtBase + 0x58)) 2 = true → rd64 s (shtBase + 0x68) ≤ tb s → exec .instantReached s =
      .next (fire (disarm s) (if s.sht.relayed then 4 else 3))) ∧
    (bit (rd32 s (shtBase + 0x58)) 2 = false ∨ tb s < rd64 s (shtBase + 0x68) → exec .instantReached s = .next s)

/-! ### Power, clock and reset -/

/-- Reset and power: RST_N low for the filter's length asserts Reset with cause 1, and high until the filter stands at 0 starts the device,
unless an internal hold or the heat keeps it; power brings the device from Off into Reset, its loss into Off; a shutdown temperature and a
lost PLL lock put it into Reset with an internal hold.
Standby: the command is refused with standby-busy while an image, firmware or a frozen schedule is in work, else admission stops and the drain
limit is set; the drain ends at its limit or when nothing runs; ACTIVE leaves Standby through the self-test, after whose end the links
train. -/
def Obligations.PowerStatesFollowTheirCommands : Prop :=
  (∀ (n : Nat) (s : State), 0 < n →
    (∀ u, s.pow.st ≠ .off → s.pow.st ≠ .reset →
      u = s.setPow { s.pow with filter := min 1000 (s.pow.filter + n), internalHold := s.pow.internalHold &&
        !(decide (s.pow.filter < 500) && decide (500 ≤ s.pow.filter + n)) } →
      (s.pow.filter + n < 500 → exec (.rstNAssert n) s = .next u) ∧
      (500 ≤ s.pow.filter + n → exec (.rstNAssert n) s = .next (resetTime (enterReset u 1) (s.pow.filter + n - 500)))) ∧
    (∀ u, u = s.setPow { s.pow with filter := s.pow.filter - n } →
      (s.pow.st = .reset → n < s.pow.filter ∨ s.pow.internalHold = true ∨ (rd32 s (clkBase + 0x50) = 2 ∧ tooHot s.pow.temps = true) →
        exec (.rstNRelease n) s = .next (resetTime u n)) ∧
      (s.pow.st = .reset → s.pow.filter ≤ n → s.pow.internalHold = false → tooHot s.pow.temps = false →
        exec (.rstNRelease n) s = .next (startDevice (resetTime u (max 1 s.pow.filter)) true)) ∧
      (s.pow.st ≠ .off → s.pow.st ≠ .reset → exec (.rstNRelease n) s = .next u)) ∧
    (∀ u : State, u.pow.st = .reset → (enterReset s 1).pow.st = .reset ∧ rd32 (enterReset s 1) (clkBase + 0x50) = 1 ∧
      resetTime u n = count64 (u.setPow { u.pow with rstNs := (u.pow.rstNs + 10 * n) % 1000 }) (clkBase + 0x58) ((u.pow.rstNs + 10 * n) / 1000)) ∧
    (s.pow.st = .off → ∃ t, exec .powerOn s = .next t ∧ t.pow.st = .reset ∧ t.flash = s.flash ∧ ∀ a, rd32 t a = (resetWord a).toNat) ∧
    (s.pow.st ≠ .off → ∃ t, exec .powerLoss s = .next t ∧ t.pow.st = .off ∧ t.flash = s.flash) ∧
    (mgmtOn s = true → exec .pllLockLoss s = .next (enterReset (s.setPow { s.pow with internalHold := true }) 3)) ∧
    (mgmtOn s = false → exec .pllLockLoss s = .next s)) ∧
  (∀ (ms : Nat) (s : State), recovery s = false →
    (∀ u, s.pow.st = .active → powerBusy s = false → u = setPstate (pwrCode s 0) .entering 1 → exec (.standby ms) s =
      .next ((u.setPow { u.pow with drain := tb u + min ms 60000 * 1000000 }).setStr { u.str with noAdmit := List.range 8 })) ∧
    (s.pow.st = .active → powerBusy s = true → exec (.standby ms) s = .next (pwrCode s 0x0602)) ∧
    (∀ u w x, s.pow.st = .entering → s.pow.drain ≤ tb s ∨ runningTasks s = [] →
      u = dropReady (abortWhere s 0x0601 (fun _ _ _ => true)) 0x0601 (fun _ => true) →
      w = unconfigure ((((ringsOf u (List.range 8)).filter (fun r => ringKind u r = 2)).flatMap (queuedSubs u)).foldl
        (fun s w => refuseRecord s (subField w 4 4) 0x0601 0 (subField w 24 8) false) u) →
      x = w.setCtl (SMap.drop (fun a => decide (strBase + 0x80000 ≤ a) && decide (a < strBase + 0x100000)) w.ctl) →
      exec .standbyDrainEnd s = .next (setPstate (gateBlocks (arrive (writeCopy (x.setStr { x.str with bound := [] })) 11 0)) .standby 2) ∧
      (setPstate x .standby 2).pow.st = .standby ∧ (gateBlocks x).mem.store = []) ∧
    (s.pow.st = .entering → tb s < s.pow.drain → runningTasks s ≠ [] → exec .standbyDrainEnd s = .next s) ∧
    (s.pow.st = .standby → ∃ t, exec .active s = .next t ∧ t.pow.st = .leaving ∧ bistDone t = false) ∧
    (s.pow.st = .leaving → bistDone s = true → exec .activeComplete s = .next (trainLinks (setPstate s .active 0))) ∧
    (s.pow.st = .leaving → bistDone s = false → exec .activeComplete s = .next s))

/-- Temperatures and power: a sample shows the 32 readings and the hottest of each kind, keeps what the throttle needs, raises source 6 at a limit
once, and shuts the device down at a shutdown temperature; each interval moves every die's throttle by at most one step, up when it was hot
or the average power was above 450 W, down when it was cool and below 430 W. -/
def Obligations.TemperatureAndThrottle : Prop :=
  ∀ (temps : List Int) (watts : Nat) (s : State),
    (mgmtOn s = false → exec (.thermalSample temps) s = .next (s.setPow { s.pow with temps := temps })) ∧
    (∀ u v w, mgmtOn s = true → u = s.setPow { s.pow with temps := temps } →
      v = (List.range 3).foldl (fun s k => wrBits s (clkBase + 0x80) (10 * k) 10 (ofSigned 10 (hottest (kindTemps temps k))))
        ((List.range 32).foldl (fun s i => wr32 s (clkBase + 0x100 + 4 * i) (ofSigned 10 (nth 0 temps i))) u) →
      w = (List.range 3).foldl (fun s k => thermalLimit s temps k) (v.setPow { v.pow with
        hot := (List.range 2).map (fun d => nth false v.pow.hot d || ((range' (8 * d) 8).map (nth 0 temps)).any (fun t => decide (400 ≤ t)))
        cool := (List.range 2).map (fun d => nth false v.pow.cool d && ((range' (8 * d) 8).map (nth 0 temps)).all (fun t => decide (t < 388))) }) →
      (tooHot temps = false → exec (.thermalSample temps) s = .next w) ∧
      (tooHot temps = true → exec (.thermalSample temps) s = .next (enterReset (w.setPow { w.pow with internalHold := true }) 2))) ∧
    (∀ ws avg u v, mgmtOn s = true → ws = (watts :: s.pow.watts).take 10 → avg = ws.sum / ws.length → u = wr32 s (clkBase + 0x88) (min avg 65535) →
      v = (List.range 2).foldl (fun s d => wrBits s (clkBase + 0x84) (3 * d) 3 (
        if nth false s.pow.hot d || decide (450 * ws.length < ws.sum) then min 4 (rdBits s (clkBase + 0x84) (3 * d) 3 + 1)
        else if nth false s.pow.cool d && decide (ws.sum < 430 * ws.length) then rdBits s (clkBase + 0x84) (3 * d) 3 - 1
        else rdBits s (clkBase + 0x84) (3 * d) 3)) u →
      exec (.throttleInterval watts) s = .next (v.setPow { v.pow with watts := ws, hot := [false, false], cool := [true, true] }))

/-! ### Control space -/

/-- A word is written by its access codes: bits that are RW take the value, W1C bits written as 1 clear, W1S bits written as 1 set, every other
bit and word stays; what has no register ignores the write; a core without a partition ignores it too. This is the rule of every block that
gives a write no effect of its own.
A read of the low half of a 64-bit register keeps its high half for the same requester: the next read of the high half gives what
stood there at the first read, whatever has changed since, and frees the latch. -/
def Obligations.ControlSpaceAccessesFollowTheCodes : Prop :=
  (∀ (a : Nat) (v : W64) (w : Nat) (b : Blk) (s : State), mgmtOn s = true → a % 4 = 0 → a + 4 ≤ 0x1000000 → b = blockOf a → w = v.toNat % 2 ^ 32 →
    b.typ ∉ [1, 2, 3, 4, 5, 6, 8, 9, 0xC, 0xE] → ¬ (b.typ = 0x16 ∧ a - b.base = 0x180) →
    (∀ r d, ¬ (0x10 ≤ b.typ ∧ b.typ ≤ 0x16 ∧ coreClosed s b.inst = true) → rowAt a = some (r, d) → (hasCommon b = true → 0x40 ≤ a - b.base) →
      ∃ t, exec (.registerWrite a v 4) s = .next t ∧
        rd32 t a = ((((rd32 s a &&& (maskWord r.rw d ^^^ (2 ^ 32 - 1))) ||| (w &&& maskWord r.rw d)) &&&
          ((w &&& maskWord r.w1c d) ^^^ (2 ^ 32 - 1))) ||| (w &&& maskWord r.w1s d)) % 2 ^ 32 ∧
        (∀ x, x ≠ a → rd32 t x = rd32 s x) ∧ t = { (s.setCtl t.ctl) with latch := t.latch }) ∧
    (0x10 ≤ b.typ → b.typ ≤ 0x16 → coreClosed s b.inst = true → exec (.registerWrite a v 4) s = .next (setLatch s 0 a (0, 0, 0)))) ∧
  (∀ (q a : Nat) (r : RegRow) (s : State), mgmtOn s = true → q < 12 → a % 4 = 0 → a < 0x1000000 → r.size = 8 →
    (∀ u, rowAt a = some (r, 0) → rowAt (a + 4) = some (r, 4) → claimAt a = none → r.rc = 0 → u = setLatch s q a (0, 0, 0) →
      exec (.lowHalfRead q a) s = .next (setLatch u q a ((blockOf a).base, a + 4, viewWord u (a + 4)))) ∧
    (∀ h, rowAt a = some (r, 4) → SMap.get (0, 0, 0) s.latch (latchKey q a) = ((blockOf a).base, a, h) →
      read32 s q a = (h, setLatch s q a (0, 0, 0)) ∧ exec (.lowHalfRead q a) s = .next (setLatch s q a (0, 0, 0))))

/-- A read of the low half of a 64-bit RC register gives the low half, latches the high half and clears the whole register at once; the high
half then comes from the latch. A read of the high half without a latch gives the current high half and clears the whole register too. -/
def Obligations.RcHalvesClearTogether : Prop :=
  ∀ (q a : Nat) (r : RegRow) (u s : State), mgmtOn s = true → q < 12 → a % 4 = 0 → a + 4 < 0x1000000 → r.size = 8 →
    rowAt a = some (r, 0) → rowAt (a + 4) = some (r, 4) → blockOf (a + 4) = blockOf a → claimAt a = none → claimAt (a + 4) = none →
    u = setLatch s q a (0, 0, 0) →
    let cleared (t : State) : Prop := rd32 t a = rd32 s a &&& (maskWord r.rc 0 ^^^ (2 ^ 32 - 1)) ∧
      rd32 t (a + 4) = rd32 s (a + 4) &&& (maskWord r.rc 4 ^^^ (2 ^ 32 - 1))
    (∃ t, exec (.lowHalfRead q a) s = .next t ∧ read32 s q a = (viewWord u a, t) ∧ cleared t ∧
      (read32 t q (a + 4)).1 = viewWord u (a + 4)) ∧
    (SMap.get (0, 0, 0) s.latch (latchKey q a) = (0, 0, 0) → ∃ t, exec (.lowHalfRead q (a + 4)) s = .next t ∧
      read32 s q (a + 4) = (viewWord u (a + 4), t) ∧ cleared t)

/-! ### CRC -/

/-- CRC is CRC-32C: the reflected polynomial 0x82F6_3B78, register initialised to all ones, every byte taken least significant bit first,
the result inverted; the nine ASCII bytes "123456789" give 0xE306_9283. The CRC field of a unit is stored big-endian: the END unit ends
with it, and a unit whose four bytes there are others is refused with unit-crc. -/
def Obligations.CrcIsCrc32c : Prop :=
  (∀ bs : List Byte, crc32c bs = (bs.foldl (fun (x : BitVec 32) b => (List.range 8).foldl (fun (x : BitVec 32) i =>
      if x.getLsbD 0 ^^ b.getLsbD i then (x >>> 1) ^^^ 0x82F63B78#32 else x >>> 1) x) 0xFFFFFFFF#32) ^^^ 0xFFFFFFFF#32) ∧
  crc32c (ascii "123456789") = 0xE3069283#32 ∧
  (∀ (f : Nat) (c : BitVec 32), c = crc32c ((endUnit f).take 12) →
    (endUnit f).drop 12 = [c.extractLsb' 24 8, c.extractLsb' 16 8, c.extractLsb' 8 8, c.extractLsb' 0 8]) ∧
  (∀ (bs : List Byte) (len : Nat) (c : BitVec 32), len = beAt bs 4 4 → 12 + len ≤ bs.length → beAt bs 0 2 = 0xB7E5 → len ≤ 0xFFFFFFF0 →
    c = crc32c (bs.take (8 + len)) →
    (bs.drop (8 + len)).take 4 ≠ [c.extractLsb' 24 8, c.extractLsb' 16 8, c.extractLsb' 8 8, c.extractLsb' 0 8] →
    parseUnit bs = .error cUnitCrc)
end

