-- ==== Sys2Proof/Laws/SMap.lean ====
section
/-! SUPPORT. Sparse maps: a read after a write, and that writing, dropping and filling keep the canonical form. -/

namespace Sys2Proof.Machine

@[simp] theorem SMap.get_nil {β : Type} (d : β) (k : Nat) : SMap.get d [] k = d := rfl

theorem SMap.get_erase {β : Type} (d : β) (m : SMap β) (k j : Nat) :
    SMap.get d (SMap.erase m k) j = if j = k then d else SMap.get d m j := by
  induction m with
  | nil => simp [SMap.erase, SMap.get]
  | cons p m ih =>
    obtain ⟨a, v⟩ := p
    by_cases h : a = k
    · subst h
      rw [show SMap.erase ((a, v) :: m) a = SMap.erase m a by simp [SMap.erase], ih]
      by_cases hj : j = a
      · simp [hj]
      · have : a ≠ j := fun h => hj h.symm
        simp [SMap.get, hj, this]
    · rw [show SMap.erase ((a, v) :: m) k = (a, v) :: SMap.erase m k by simp [SMap.erase, h]]
      by_cases hj : a = j
      · subst hj; simp [SMap.get, h]
      · simp [SMap.get, hj, ih]

theorem SMap.get_insert {β : Type} (d : β) (m : SMap β) (k : Nat) (v : β) (j : Nat) (hj : j ≠ k) :
    SMap.get d (SMap.insert m k v) j = SMap.get d m j := by
  have hk : k ≠ j := fun h => hj h.symm
  induction m with
  | nil => simp [SMap.insert, SMap.get, hk]
  | cons p m ih =>
    obtain ⟨a, w⟩ := p
    unfold SMap.insert
    split
    · simp [SMap.get, hk]
    · simp [SMap.get, ih]

theorem SMap.get_insert_self {β : Type} (d : β) (m : SMap β) (k : Nat) (v : β) (h : ∀ p ∈ m, p.1 ≠ k) :
    SMap.get d (SMap.insert m k v) k = v := by
  induction m with
  | nil => simp [SMap.insert, SMap.get]
  | cons p m ih =>
    obtain ⟨a, w⟩ := p
    have ha : a ≠ k := h (a, w) (by simp)
    by_cases hlt : k < a
    · simp [SMap.insert, hlt, SMap.get]
    · simp [SMap.insert, hlt, SMap.get, ha, ih (fun p hp => h p (by simp [hp]))]

theorem SMap.erase_keys {β : Type} (m : SMap β) (k : Nat) : ∀ p ∈ SMap.erase m k, p.1 ≠ k := by
  induction m with
  | nil => simp [SMap.erase]
  | cons p m ih =>
    obtain ⟨a, w⟩ := p
    by_cases h : a = k
    · simpa [SMap.erase, h] using ih
    · intro q hq
      simp only [SMap.erase, h, if_false, List.mem_cons] at hq
      rcases hq with rfl | hq
      · exact h
      · exact ih q hq

/-- A read after a write. -/
@[simp] theorem SMap.get_set {β : Type} [DecidableEq β] (d : β) (m : SMap β) (k : Nat) (v : β) (j : Nat) :
    SMap.get d (SMap.set d m k v) j = if j = k then v else SMap.get d m j := by
  unfold SMap.set
  by_cases hv : v = d
  · simp only [hv, if_true, SMap.get_erase]
  · simp only [hv, if_false]
    by_cases hj : j = k
    · subst hj
      simp [SMap.get_insert_self d _ _ v (SMap.erase_keys m j)]
    · rw [SMap.get_insert d _ k v j hj]
      simp [SMap.get_erase, hj]

theorem SMap.get_set_self {β : Type} [DecidableEq β] (d : β) (m : SMap β) (k : Nat) (v : β) : SMap.get d (SMap.set d m k v) k = v := by simp
theorem SMap.get_set_ne {β : Type} [DecidableEq β] (d : β) (m : SMap β) (k : Nat) (v : β) (j : Nat) (h : j ≠ k) :
    SMap.get d (SMap.set d m k v) j = SMap.get d m j := by simp [h]

/-- Another key reads as before, whatever unlisted keys read as. -/
theorem SMap.get_set_other {β : Type} [DecidableEq β] (d e : β) (m : SMap β) (k : Nat) (v : β) (j : Nat) (h : j ≠ k) :
    SMap.get e (SMap.set d m k v) j = SMap.get e m j := by
  unfold SMap.set
  split
  · rw [SMap.get_erase, if_neg h]
  · rw [SMap.get_insert e _ k v j h, SMap.get_erase, if_neg h]

/-! ### The canonical form -/

theorem SMap.wfFrom_mono {β : Type} [DecidableEq β] {d : β} {lo lo' : Nat} {m : SMap β} (h : SMap.wfFrom d lo m = true) (hl : lo' ≤ lo) :
    SMap.wfFrom d lo' m = true := by
  cases m with
  | nil => rfl
  | cons p m =>
    obtain ⟨a, v⟩ := p
    simp only [SMap.wfFrom, Bool.and_eq_true, decide_eq_true_eq] at h ⊢
    exact ⟨⟨Nat.le_trans hl h.1.1, h.1.2⟩, h.2⟩

theorem SMap.wfFrom_erase {β : Type} [DecidableEq β] {d : β} {lo : Nat} {m : SMap β} (k : Nat) (h : SMap.wfFrom d lo m = true) :
    SMap.wfFrom d lo (SMap.erase m k) = true := by
  induction m generalizing lo with
  | nil => rfl
  | cons p m ih =>
    obtain ⟨a, v⟩ := p
    simp only [SMap.wfFrom, Bool.and_eq_true, decide_eq_true_eq] at h
    by_cases ha : a = k
    · simp only [SMap.erase, ha, if_true]
      exact ih (SMap.wfFrom_mono h.2 (by omega))
    · simp only [SMap.erase, ha, if_false, SMap.wfFrom, Bool.and_eq_true, decide_eq_true_eq]
      exact ⟨h.1, ih h.2⟩

theorem SMap.wfFrom_insert {β : Type} [DecidableEq β] {d : β} {lo : Nat} {m : SMap β} {k : Nat} {v : β} (hv : v ≠ d) (hk : lo ≤ k)
    (hn : ∀ p ∈ m, p.1 ≠ k) (h : SMap.wfFrom d lo m = true) : SMap.wfFrom d lo (SMap.insert m k v) = true := by
  induction m generalizing lo with
  | nil => simp [SMap.insert, SMap.wfFrom, hk, hv]
  | cons p m ih =>
    obtain ⟨a, w⟩ := p
    have ha : a ≠ k := hn (a, w) (by simp)
    simp only [SMap.wfFrom, Bool.and_eq_true, decide_eq_true_eq] at h
    by_cases hlt : k < a
    · simp only [SMap.insert, hlt, if_true, SMap.wfFrom, Bool.and_eq_true, decide_eq_true_eq]
      exact ⟨⟨hk, hv⟩, ⟨⟨hlt, h.1.2⟩, h.2⟩⟩
    · simp only [SMap.insert, hlt, if_false, SMap.wfFrom, Bool.and_eq_true, decide_eq_true_eq]
      exact ⟨h.1, ih (by omega) (fun p hp => hn p (by simp [hp])) h.2⟩

/-- A write keeps the canonical form. -/
theorem SMap.wf_set {β : Type} [DecidableEq β] {d : β} {m : SMap β} (k : Nat) (v : β) (h : SMap.wf d m = true) :
    SMap.wf d (SMap.set d m k v) = true := by
  unfold SMap.set SMap.wf at *
  split
  · exact SMap.wfFrom_erase k h
  · exact SMap.wfFrom_insert (by assumption) (Nat.zero_le k) (SMap.erase_keys m k) (SMap.wfFrom_erase k h)

/-- Dropping keys keeps it. -/
theorem SMap.wf_drop {β : Type} [DecidableEq β] {d : β} {m : SMap β} (p : Nat → Bool) (h : SMap.wf d m = true) :
    SMap.wf d (SMap.drop p m) = true := by
  have key : ∀ lo, SMap.wfFrom d lo m = true → SMap.wfFrom d lo (SMap.drop p m) = true := by
    clear h
    induction m with
    | nil => intros; rfl
    | cons q m ih =>
      obtain ⟨a, v⟩ := q
      intro lo h
      simp only [SMap.wfFrom, Bool.and_eq_true, decide_eq_true_eq] at h
      by_cases hp : p a
      · simp only [SMap.drop, hp, if_true]
        exact ih lo (SMap.wfFrom_mono h.2 (by omega))
      · have : SMap.drop p ((a, v) :: m) = (a, v) :: SMap.drop p m := by simp [SMap.drop, hp]
        rw [this]
        simp [SMap.wfFrom, h.1.1, h.1.2, ih (a + 1) h.2]
  exact key 0 h

/-- Writing consecutive values keeps it. -/
theorem SMap.wf_setAll {β : Type} [DecidableEq β] {d : β} {m : SMap β} (k : Nat) (vs : List β) (h : SMap.wf d m = true) :
    SMap.wf d (SMap.setAll d m k vs) = true := by
  induction vs generalizing m k with
  | nil => exact h
  | cons v vs ih => exact ih (k + 1) (SMap.wf_set k v h)

end Sys2Proof.Machine
end

