-- ==== Sys2Proof/Laws/State.lean ====
section
/-! SUPPORT. What each setter and each control-space write leaves in each field of the state, and what a read gives after a
write. -/

namespace Sys2Proof.Machine

/-! ### Setters -/

@[simp] theorem State.setCtl_pending (s : State) (c : SMap W32) : (s.setCtl c).pending = s.pending := (rfl)
@[simp] theorem State.setCtl_ctl (s : State) (c : SMap W32) : (s.setCtl c).ctl = c := (rfl)
@[simp] theorem State.setCtl_pow (s : State) (c : SMap W32) : (s.setCtl c).pow = s.pow := (rfl)
@[simp] theorem State.setCtl_mem (s : State) (c : SMap W32) : (s.setCtl c).mem = s.mem := (rfl)
@[simp] theorem State.setCtl_cores (s : State) (c : SMap W32) : (s.setCtl c).cores = s.cores := (rfl)
@[simp] theorem State.setCtl_img (s : State) (c : SMap W32) : (s.setCtl c).img = s.img := (rfl)
@[simp] theorem State.setCtl_ld (s : State) (c : SMap W32) : (s.setCtl c).ld = s.ld := (rfl)
@[simp] theorem State.setCtl_str (s : State) (c : SMap W32) : (s.setCtl c).str = s.str := (rfl)
@[simp] theorem State.setCtl_eth (s : State) (c : SMap W32) : (s.setCtl c).eth = s.eth := (rfl)
@[simp] theorem State.setCtl_fab (s : State) (c : SMap W32) : (s.setCtl c).fab = s.fab := (rfl)
@[simp] theorem State.setCtl_drk (s : State) (c : SMap W32) : (s.setCtl c).drk = s.drk := (rfl)
@[simp] theorem State.setCtl_mgt (s : State) (c : SMap W32) : (s.setCtl c).mgt = s.mgt := (rfl)
@[simp] theorem State.setCtl_sht (s : State) (c : SMap W32) : (s.setCtl c).sht = s.sht := (rfl)
@[simp] theorem State.setCtl_dom (s : State) (c : SMap W32) : (s.setCtl c).dom = s.dom := (rfl)
@[simp] theorem State.setCtl_rep (s : State) (c : SMap W32) : (s.setCtl c).rep = s.rep := (rfl)
@[simp] theorem State.setCtl_flash (s : State) (c : SMap W32) : (s.setCtl c).flash = s.flash := (rfl)
@[simp] theorem State.setCtl_latch (s : State) (c : SMap W32) : (s.setCtl c).latch = s.latch := (rfl)
@[simp] theorem State.setCtl_owner (s : State) (c : SMap W32) : (s.setCtl c).owner = s.owner := (rfl)
@[simp] theorem State.setCtl_freeIdx (s : State) (c : SMap W32) : (s.setCtl c).freeIdx = s.freeIdx := (rfl)
@[simp] theorem State.setCtl_out (s : State) (c : SMap W32) : (s.setCtl c).out = s.out := (rfl)
@[simp] theorem State.setMem_pending (s : State) (c : Memory) : (s.setMem c).pending = s.pending := (rfl)
@[simp] theorem State.setMem_ctl (s : State) (c : Memory) : (s.setMem c).ctl = s.ctl := (rfl)
@[simp] theorem State.setMem_pow (s : State) (c : Memory) : (s.setMem c).pow = s.pow := (rfl)
@[simp] theorem State.setMem_mem (s : State) (c : Memory) : (s.setMem c).mem = c := (rfl)
@[simp] theorem State.setMem_cores (s : State) (c : Memory) : (s.setMem c).cores = s.cores := (rfl)
@[simp] theorem State.setMem_img (s : State) (c : Memory) : (s.setMem c).img = s.img := (rfl)
@[simp] theorem State.setMem_ld (s : State) (c : Memory) : (s.setMem c).ld = s.ld := (rfl)
@[simp] theorem State.setMem_str (s : State) (c : Memory) : (s.setMem c).str = s.str := (rfl)
@[simp] theorem State.setMem_eth (s : State) (c : Memory) : (s.setMem c).eth = s.eth := (rfl)
@[simp] theorem State.setMem_fab (s : State) (c : Memory) : (s.setMem c).fab = s.fab := (rfl)
@[simp] theorem State.setMem_drk (s : State) (c : Memory) : (s.setMem c).drk = s.drk := (rfl)
@[simp] theorem State.setMem_mgt (s : State) (c : Memory) : (s.setMem c).mgt = s.mgt := (rfl)
@[simp] theorem State.setMem_sht (s : State) (c : Memory) : (s.setMem c).sht = s.sht := (rfl)
@[simp] theorem State.setMem_dom (s : State) (c : Memory) : (s.setMem c).dom = s.dom := (rfl)
@[simp] theorem State.setMem_rep (s : State) (c : Memory) : (s.setMem c).rep = s.rep := (rfl)
@[simp] theorem State.setMem_flash (s : State) (c : Memory) : (s.setMem c).flash = s.flash := (rfl)
@[simp] theorem State.setMem_latch (s : State) (c : Memory) : (s.setMem c).latch = s.latch := (rfl)
@[simp] theorem State.setMem_owner (s : State) (c : Memory) : (s.setMem c).owner = s.owner := (rfl)
@[simp] theorem State.setMem_freeIdx (s : State) (c : Memory) : (s.setMem c).freeIdx = s.freeIdx := (rfl)
@[simp] theorem State.setMem_out (s : State) (c : Memory) : (s.setMem c).out = s.out := (rfl)
@[simp] theorem State.setPow_pending (s : State) (c : Power) : (s.setPow c).pending = s.pending := (rfl)
@[simp] theorem State.setPow_ctl (s : State) (c : Power) : (s.setPow c).ctl = s.ctl := (rfl)
@[simp] theorem State.setPow_pow (s : State) (c : Power) : (s.setPow c).pow = c := (rfl)
@[simp] theorem State.setPow_mem (s : State) (c : Power) : (s.setPow c).mem = s.mem := (rfl)
@[simp] theorem State.setPow_cores (s : State) (c : Power) : (s.setPow c).cores = s.cores := (rfl)
@[simp] theorem State.setPow_img (s : State) (c : Power) : (s.setPow c).img = s.img := (rfl)
@[simp] theorem State.setPow_ld (s : State) (c : Power) : (s.setPow c).ld = s.ld := (rfl)
@[simp] theorem State.setPow_str (s : State) (c : Power) : (s.setPow c).str = s.str := (rfl)
@[simp] theorem State.setPow_eth (s : State) (c : Power) : (s.setPow c).eth = s.eth := (rfl)
@[simp] theorem State.setPow_fab (s : State) (c : Power) : (s.setPow c).fab = s.fab := (rfl)
@[simp] theorem State.setPow_drk (s : State) (c : Power) : (s.setPow c).drk = s.drk := (rfl)
@[simp] theorem State.setPow_mgt (s : State) (c : Power) : (s.setPow c).mgt = s.mgt := (rfl)
@[simp] theorem State.setPow_sht (s : State) (c : Power) : (s.setPow c).sht = s.sht := (rfl)
@[simp] theorem State.setPow_dom (s : State) (c : Power) : (s.setPow c).dom = s.dom := (rfl)
@[simp] theorem State.setPow_rep (s : State) (c : Power) : (s.setPow c).rep = s.rep := (rfl)
@[simp] theorem State.setPow_flash (s : State) (c : Power) : (s.setPow c).flash = s.flash := (rfl)
@[simp] theorem State.setPow_latch (s : State) (c : Power) : (s.setPow c).latch = s.latch := (rfl)
@[simp] theorem State.setPow_owner (s : State) (c : Power) : (s.setPow c).owner = s.owner := (rfl)
@[simp] theorem State.setPow_freeIdx (s : State) (c : Power) : (s.setPow c).freeIdx = s.freeIdx := (rfl)
@[simp] theorem State.setPow_out (s : State) (c : Power) : (s.setPow c).out = s.out := (rfl)
@[simp] theorem State.setCores_pending (s : State) (c : SMap Core) : (s.setCores c).pending = s.pending := (rfl)
@[simp] theorem State.setCores_ctl (s : State) (c : SMap Core) : (s.setCores c).ctl = s.ctl := (rfl)
@[simp] theorem State.setCores_pow (s : State) (c : SMap Core) : (s.setCores c).pow = s.pow := (rfl)
@[simp] theorem State.setCores_mem (s : State) (c : SMap Core) : (s.setCores c).mem = s.mem := (rfl)
@[simp] theorem State.setCores_cores (s : State) (c : SMap Core) : (s.setCores c).cores = c := (rfl)
@[simp] theorem State.setCores_img (s : State) (c : SMap Core) : (s.setCores c).img = s.img := (rfl)
@[simp] theorem State.setCores_ld (s : State) (c : SMap Core) : (s.setCores c).ld = s.ld := (rfl)
@[simp] theorem State.setCores_str (s : State) (c : SMap Core) : (s.setCores c).str = s.str := (rfl)
@[simp] theorem State.setCores_eth (s : State) (c : SMap Core) : (s.setCores c).eth = s.eth := (rfl)
@[simp] theorem State.setCores_fab (s : State) (c : SMap Core) : (s.setCores c).fab = s.fab := (rfl)
@[simp] theorem State.setCores_drk (s : State) (c : SMap Core) : (s.setCores c).drk = s.drk := (rfl)
@[simp] theorem State.setCores_mgt (s : State) (c : SMap Core) : (s.setCores c).mgt = s.mgt := (rfl)
@[simp] theorem State.setCores_sht (s : State) (c : SMap Core) : (s.setCores c).sht = s.sht := (rfl)
@[simp] theorem State.setCores_dom (s : State) (c : SMap Core) : (s.setCores c).dom = s.dom := (rfl)
@[simp] theorem State.setCores_rep (s : State) (c : SMap Core) : (s.setCores c).rep = s.rep := (rfl)
@[simp] theorem State.setCores_flash (s : State) (c : SMap Core) : (s.setCores c).flash = s.flash := (rfl)
@[simp] theorem State.setCores_latch (s : State) (c : SMap Core) : (s.setCores c).latch = s.latch := (rfl)
@[simp] theorem State.setCores_owner (s : State) (c : SMap Core) : (s.setCores c).owner = s.owner := (rfl)
@[simp] theorem State.setCores_freeIdx (s : State) (c : SMap Core) : (s.setCores c).freeIdx = s.freeIdx := (rfl)
@[simp] theorem State.setCores_out (s : State) (c : SMap Core) : (s.setCores c).out = s.out := (rfl)
@[simp] theorem State.setImg_pending (s : State) (c : Image) : (s.setImg c).pending = s.pending := (rfl)
@[simp] theorem State.setImg_ctl (s : State) (c : Image) : (s.setImg c).ctl = s.ctl := (rfl)
@[simp] theorem State.setImg_pow (s : State) (c : Image) : (s.setImg c).pow = s.pow := (rfl)
@[simp] theorem State.setImg_mem (s : State) (c : Image) : (s.setImg c).mem = s.mem := (rfl)
@[simp] theorem State.setImg_cores (s : State) (c : Image) : (s.setImg c).cores = s.cores := (rfl)
@[simp] theorem State.setImg_img (s : State) (c : Image) : (s.setImg c).img = c := (rfl)
@[simp] theorem State.setImg_ld (s : State) (c : Image) : (s.setImg c).ld = s.ld := (rfl)
@[simp] theorem State.setImg_str (s : State) (c : Image) : (s.setImg c).str = s.str := (rfl)
@[simp] theorem State.setImg_eth (s : State) (c : Image) : (s.setImg c).eth = s.eth := (rfl)
@[simp] theorem State.setImg_fab (s : State) (c : Image) : (s.setImg c).fab = s.fab := (rfl)
@[simp] theorem State.setImg_drk (s : State) (c : Image) : (s.setImg c).drk = s.drk := (rfl)
@[simp] theorem State.setImg_mgt (s : State) (c : Image) : (s.setImg c).mgt = s.mgt := (rfl)
@[simp] theorem State.setImg_sht (s : State) (c : Image) : (s.setImg c).sht = s.sht := (rfl)
@[simp] theorem State.setImg_dom (s : State) (c : Image) : (s.setImg c).dom = s.dom := (rfl)
@[simp] theorem State.setImg_rep (s : State) (c : Image) : (s.setImg c).rep = s.rep := (rfl)
@[simp] theorem State.setImg_flash (s : State) (c : Image) : (s.setImg c).flash = s.flash := (rfl)
@[simp] theorem State.setImg_latch (s : State) (c : Image) : (s.setImg c).latch = s.latch := (rfl)
@[simp] theorem State.setImg_owner (s : State) (c : Image) : (s.setImg c).owner = s.owner := (rfl)
@[simp] theorem State.setImg_freeIdx (s : State) (c : Image) : (s.setImg c).freeIdx = s.freeIdx := (rfl)
@[simp] theorem State.setImg_out (s : State) (c : Image) : (s.setImg c).out = s.out := (rfl)
@[simp] theorem State.setLd_pending (s : State) (c : Loader) : (s.setLd c).pending = s.pending := (rfl)
@[simp] theorem State.setLd_ctl (s : State) (c : Loader) : (s.setLd c).ctl = s.ctl := (rfl)
@[simp] theorem State.setLd_pow (s : State) (c : Loader) : (s.setLd c).pow = s.pow := (rfl)
@[simp] theorem State.setLd_mem (s : State) (c : Loader) : (s.setLd c).mem = s.mem := (rfl)
@[simp] theorem State.setLd_cores (s : State) (c : Loader) : (s.setLd c).cores = s.cores := (rfl)
@[simp] theorem State.setLd_img (s : State) (c : Loader) : (s.setLd c).img = s.img := (rfl)
@[simp] theorem State.setLd_ld (s : State) (c : Loader) : (s.setLd c).ld = c := (rfl)
@[simp] theorem State.setLd_str (s : State) (c : Loader) : (s.setLd c).str = s.str := (rfl)
@[simp] theorem State.setLd_eth (s : State) (c : Loader) : (s.setLd c).eth = s.eth := (rfl)
@[simp] theorem State.setLd_fab (s : State) (c : Loader) : (s.setLd c).fab = s.fab := (rfl)
@[simp] theorem State.setLd_drk (s : State) (c : Loader) : (s.setLd c).drk = s.drk := (rfl)
@[simp] theorem State.setLd_mgt (s : State) (c : Loader) : (s.setLd c).mgt = s.mgt := (rfl)
@[simp] theorem State.setLd_sht (s : State) (c : Loader) : (s.setLd c).sht = s.sht := (rfl)
@[simp] theorem State.setLd_dom (s : State) (c : Loader) : (s.setLd c).dom = s.dom := (rfl)
@[simp] theorem State.setLd_rep (s : State) (c : Loader) : (s.setLd c).rep = s.rep := (rfl)
@[simp] theorem State.setLd_flash (s : State) (c : Loader) : (s.setLd c).flash = s.flash := (rfl)
@[simp] theorem State.setLd_latch (s : State) (c : Loader) : (s.setLd c).latch = s.latch := (rfl)
@[simp] theorem State.setLd_owner (s : State) (c : Loader) : (s.setLd c).owner = s.owner := (rfl)
@[simp] theorem State.setLd_freeIdx (s : State) (c : Loader) : (s.setLd c).freeIdx = s.freeIdx := (rfl)
@[simp] theorem State.setLd_out (s : State) (c : Loader) : (s.setLd c).out = s.out := (rfl)
@[simp] theorem State.setEth_pending (s : State) (c : Eth) : (s.setEth c).pending = s.pending := (rfl)
@[simp] theorem State.setEth_ctl (s : State) (c : Eth) : (s.setEth c).ctl = s.ctl := (rfl)
@[simp] theorem State.setEth_pow (s : State) (c : Eth) : (s.setEth c).pow = s.pow := (rfl)
@[simp] theorem State.setEth_mem (s : State) (c : Eth) : (s.setEth c).mem = s.mem := (rfl)
@[simp] theorem State.setEth_cores (s : State) (c : Eth) : (s.setEth c).cores = s.cores := (rfl)
@[simp] theorem State.setEth_img (s : State) (c : Eth) : (s.setEth c).img = s.img := (rfl)
@[simp] theorem State.setEth_ld (s : State) (c : Eth) : (s.setEth c).ld = s.ld := (rfl)
@[simp] theorem State.setEth_str (s : State) (c : Eth) : (s.setEth c).str = s.str := (rfl)
@[simp] theorem State.setEth_eth (s : State) (c : Eth) : (s.setEth c).eth = c := (rfl)
@[simp] theorem State.setEth_fab (s : State) (c : Eth) : (s.setEth c).fab = s.fab := (rfl)
@[simp] theorem State.setEth_drk (s : State) (c : Eth) : (s.setEth c).drk = s.drk := (rfl)
@[simp] theorem State.setEth_mgt (s : State) (c : Eth) : (s.setEth c).mgt = s.mgt := (rfl)
@[simp] theorem State.setEth_sht (s : State) (c : Eth) : (s.setEth c).sht = s.sht := (rfl)
@[simp] theorem State.setEth_dom (s : State) (c : Eth) : (s.setEth c).dom = s.dom := (rfl)
@[simp] theorem State.setEth_rep (s : State) (c : Eth) : (s.setEth c).rep = s.rep := (rfl)
@[simp] theorem State.setEth_flash (s : State) (c : Eth) : (s.setEth c).flash = s.flash := (rfl)
@[simp] theorem State.setEth_latch (s : State) (c : Eth) : (s.setEth c).latch = s.latch := (rfl)
@[simp] theorem State.setEth_owner (s : State) (c : Eth) : (s.setEth c).owner = s.owner := (rfl)
@[simp] theorem State.setEth_freeIdx (s : State) (c : Eth) : (s.setEth c).freeIdx = s.freeIdx := (rfl)
@[simp] theorem State.setEth_out (s : State) (c : Eth) : (s.setEth c).out = s.out := (rfl)
@[simp] theorem State.setFab_pending (s : State) (c : Fabric) : (s.setFab c).pending = s.pending := (rfl)
@[simp] theorem State.setFab_ctl (s : State) (c : Fabric) : (s.setFab c).ctl = s.ctl := (rfl)
@[simp] theorem State.setFab_pow (s : State) (c : Fabric) : (s.setFab c).pow = s.pow := (rfl)
@[simp] theorem State.setFab_mem (s : State) (c : Fabric) : (s.setFab c).mem = s.mem := (rfl)
@[simp] theorem State.setFab_cores (s : State) (c : Fabric) : (s.setFab c).cores = s.cores := (rfl)
@[simp] theorem State.setFab_img (s : State) (c : Fabric) : (s.setFab c).img = s.img := (rfl)
@[simp] theorem State.setFab_ld (s : State) (c : Fabric) : (s.setFab c).ld = s.ld := (rfl)
@[simp] theorem State.setFab_str (s : State) (c : Fabric) : (s.setFab c).str = s.str := (rfl)
@[simp] theorem State.setFab_eth (s : State) (c : Fabric) : (s.setFab c).eth = s.eth := (rfl)
@[simp] theorem State.setFab_fab (s : State) (c : Fabric) : (s.setFab c).fab = c := (rfl)
@[simp] theorem State.setFab_drk (s : State) (c : Fabric) : (s.setFab c).drk = s.drk := (rfl)
@[simp] theorem State.setFab_mgt (s : State) (c : Fabric) : (s.setFab c).mgt = s.mgt := (rfl)
@[simp] theorem State.setFab_sht (s : State) (c : Fabric) : (s.setFab c).sht = s.sht := (rfl)
@[simp] theorem State.setFab_dom (s : State) (c : Fabric) : (s.setFab c).dom = s.dom := (rfl)
@[simp] theorem State.setFab_rep (s : State) (c : Fabric) : (s.setFab c).rep = s.rep := (rfl)
@[simp] theorem State.setFab_flash (s : State) (c : Fabric) : (s.setFab c).flash = s.flash := (rfl)
@[simp] theorem State.setFab_latch (s : State) (c : Fabric) : (s.setFab c).latch = s.latch := (rfl)
@[simp] theorem State.setFab_owner (s : State) (c : Fabric) : (s.setFab c).owner = s.owner := (rfl)
@[simp] theorem State.setFab_freeIdx (s : State) (c : Fabric) : (s.setFab c).freeIdx = s.freeIdx := (rfl)
@[simp] theorem State.setFab_out (s : State) (c : Fabric) : (s.setFab c).out = s.out := (rfl)
@[simp] theorem State.setDrk_pending (s : State) (c : Darkroom) : (s.setDrk c).pending = s.pending := (rfl)
@[simp] theorem State.setDrk_ctl (s : State) (c : Darkroom) : (s.setDrk c).ctl = s.ctl := (rfl)
@[simp] theorem State.setDrk_pow (s : State) (c : Darkroom) : (s.setDrk c).pow = s.pow := (rfl)
@[simp] theorem State.setDrk_mem (s : State) (c : Darkroom) : (s.setDrk c).mem = s.mem := (rfl)
@[simp] theorem State.setDrk_cores (s : State) (c : Darkroom) : (s.setDrk c).cores = s.cores := (rfl)
@[simp] theorem State.setDrk_img (s : State) (c : Darkroom) : (s.setDrk c).img = s.img := (rfl)
@[simp] theorem State.setDrk_ld (s : State) (c : Darkroom) : (s.setDrk c).ld = s.ld := (rfl)
@[simp] theorem State.setDrk_str (s : State) (c : Darkroom) : (s.setDrk c).str = s.str := (rfl)
@[simp] theorem State.setDrk_eth (s : State) (c : Darkroom) : (s.setDrk c).eth = s.eth := (rfl)
@[simp] theorem State.setDrk_fab (s : State) (c : Darkroom) : (s.setDrk c).fab = s.fab := (rfl)
@[simp] theorem State.setDrk_drk (s : State) (c : Darkroom) : (s.setDrk c).drk = c := (rfl)
@[simp] theorem State.setDrk_mgt (s : State) (c : Darkroom) : (s.setDrk c).mgt = s.mgt := (rfl)
@[simp] theorem State.setDrk_sht (s : State) (c : Darkroom) : (s.setDrk c).sht = s.sht := (rfl)
@[simp] theorem State.setDrk_dom (s : State) (c : Darkroom) : (s.setDrk c).dom = s.dom := (rfl)
@[simp] theorem State.setDrk_rep (s : State) (c : Darkroom) : (s.setDrk c).rep = s.rep := (rfl)
@[simp] theorem State.setDrk_flash (s : State) (c : Darkroom) : (s.setDrk c).flash = s.flash := (rfl)
@[simp] theorem State.setDrk_latch (s : State) (c : Darkroom) : (s.setDrk c).latch = s.latch := (rfl)
@[simp] theorem State.setDrk_owner (s : State) (c : Darkroom) : (s.setDrk c).owner = s.owner := (rfl)
@[simp] theorem State.setDrk_freeIdx (s : State) (c : Darkroom) : (s.setDrk c).freeIdx = s.freeIdx := (rfl)
@[simp] theorem State.setDrk_out (s : State) (c : Darkroom) : (s.setDrk c).out = s.out := (rfl)
@[simp] theorem State.setMgt_pending (s : State) (c : Mgt) : (s.setMgt c).pending = s.pending := (rfl)
@[simp] theorem State.setMgt_ctl (s : State) (c : Mgt) : (s.setMgt c).ctl = s.ctl := (rfl)
@[simp] theorem State.setMgt_pow (s : State) (c : Mgt) : (s.setMgt c).pow = s.pow := (rfl)
@[simp] theorem State.setMgt_mem (s : State) (c : Mgt) : (s.setMgt c).mem = s.mem := (rfl)
@[simp] theorem State.setMgt_cores (s : State) (c : Mgt) : (s.setMgt c).cores = s.cores := (rfl)
@[simp] theorem State.setMgt_img (s : State) (c : Mgt) : (s.setMgt c).img = s.img := (rfl)
@[simp] theorem State.setMgt_ld (s : State) (c : Mgt) : (s.setMgt c).ld = s.ld := (rfl)
@[simp] theorem State.setMgt_str (s : State) (c : Mgt) : (s.setMgt c).str = s.str := (rfl)
@[simp] theorem State.setMgt_eth (s : State) (c : Mgt) : (s.setMgt c).eth = s.eth := (rfl)
@[simp] theorem State.setMgt_fab (s : State) (c : Mgt) : (s.setMgt c).fab = s.fab := (rfl)
@[simp] theorem State.setMgt_drk (s : State) (c : Mgt) : (s.setMgt c).drk = s.drk := (rfl)
@[simp] theorem State.setMgt_mgt (s : State) (c : Mgt) : (s.setMgt c).mgt = c := (rfl)
@[simp] theorem State.setMgt_sht (s : State) (c : Mgt) : (s.setMgt c).sht = s.sht := (rfl)
@[simp] theorem State.setMgt_dom (s : State) (c : Mgt) : (s.setMgt c).dom = s.dom := (rfl)
@[simp] theorem State.setMgt_rep (s : State) (c : Mgt) : (s.setMgt c).rep = s.rep := (rfl)
@[simp] theorem State.setMgt_flash (s : State) (c : Mgt) : (s.setMgt c).flash = s.flash := (rfl)
@[simp] theorem State.setMgt_latch (s : State) (c : Mgt) : (s.setMgt c).latch = s.latch := (rfl)
@[simp] theorem State.setMgt_owner (s : State) (c : Mgt) : (s.setMgt c).owner = s.owner := (rfl)
@[simp] theorem State.setMgt_freeIdx (s : State) (c : Mgt) : (s.setMgt c).freeIdx = s.freeIdx := (rfl)
@[simp] theorem State.setMgt_out (s : State) (c : Mgt) : (s.setMgt c).out = s.out := (rfl)
@[simp] theorem State.setSht_pending (s : State) (c : Shutter) : (s.setSht c).pending = s.pending := (rfl)
@[simp] theorem State.setSht_ctl (s : State) (c : Shutter) : (s.setSht c).ctl = s.ctl := (rfl)
@[simp] theorem State.setSht_pow (s : State) (c : Shutter) : (s.setSht c).pow = s.pow := (rfl)
@[simp] theorem State.setSht_mem (s : State) (c : Shutter) : (s.setSht c).mem = s.mem := (rfl)
@[simp] theorem State.setSht_cores (s : State) (c : Shutter) : (s.setSht c).cores = s.cores := (rfl)
@[simp] theorem State.setSht_img (s : State) (c : Shutter) : (s.setSht c).img = s.img := (rfl)
@[simp] theorem State.setSht_ld (s : State) (c : Shutter) : (s.setSht c).ld = s.ld := (rfl)
@[simp] theorem State.setSht_str (s : State) (c : Shutter) : (s.setSht c).str = s.str := (rfl)
@[simp] theorem State.setSht_eth (s : State) (c : Shutter) : (s.setSht c).eth = s.eth := (rfl)
@[simp] theorem State.setSht_fab (s : State) (c : Shutter) : (s.setSht c).fab = s.fab := (rfl)
@[simp] theorem State.setSht_drk (s : State) (c : Shutter) : (s.setSht c).drk = s.drk := (rfl)
@[simp] theorem State.setSht_mgt (s : State) (c : Shutter) : (s.setSht c).mgt = s.mgt := (rfl)
@[simp] theorem State.setSht_sht (s : State) (c : Shutter) : (s.setSht c).sht = c := (rfl)
@[simp] theorem State.setSht_dom (s : State) (c : Shutter) : (s.setSht c).dom = s.dom := (rfl)
@[simp] theorem State.setSht_rep (s : State) (c : Shutter) : (s.setSht c).rep = s.rep := (rfl)
@[simp] theorem State.setSht_flash (s : State) (c : Shutter) : (s.setSht c).flash = s.flash := (rfl)
@[simp] theorem State.setSht_latch (s : State) (c : Shutter) : (s.setSht c).latch = s.latch := (rfl)
@[simp] theorem State.setSht_owner (s : State) (c : Shutter) : (s.setSht c).owner = s.owner := (rfl)
@[simp] theorem State.setSht_freeIdx (s : State) (c : Shutter) : (s.setSht c).freeIdx = s.freeIdx := (rfl)
@[simp] theorem State.setSht_out (s : State) (c : Shutter) : (s.setSht c).out = s.out := (rfl)
@[simp] theorem State.setDom_pending (s : State) (c : SMap Nat) : (s.setDom c).pending = s.pending := (rfl)
@[simp] theorem State.setDom_ctl (s : State) (c : SMap Nat) : (s.setDom c).ctl = s.ctl := (rfl)
@[simp] theorem State.setDom_pow (s : State) (c : SMap Nat) : (s.setDom c).pow = s.pow := (rfl)
@[simp] theorem State.setDom_mem (s : State) (c : SMap Nat) : (s.setDom c).mem = s.mem := (rfl)
@[simp] theorem State.setDom_cores (s : State) (c : SMap Nat) : (s.setDom c).cores = s.cores := (rfl)
@[simp] theorem State.setDom_img (s : State) (c : SMap Nat) : (s.setDom c).img = s.img := (rfl)
@[simp] theorem State.setDom_ld (s : State) (c : SMap Nat) : (s.setDom c).ld = s.ld := (rfl)
@[simp] theorem State.setDom_str (s : State) (c : SMap Nat) : (s.setDom c).str = s.str := (rfl)
@[simp] theorem State.setDom_eth (s : State) (c : SMap Nat) : (s.setDom c).eth = s.eth := (rfl)
@[simp] theorem State.setDom_fab (s : State) (c : SMap Nat) : (s.setDom c).fab = s.fab := (rfl)
@[simp] theorem State.setDom_drk (s : State) (c : SMap Nat) : (s.setDom c).drk = s.drk := (rfl)
@[simp] theorem State.setDom_mgt (s : State) (c : SMap Nat) : (s.setDom c).mgt = s.mgt := (rfl)
@[simp] theorem State.setDom_sht (s : State) (c : SMap Nat) : (s.setDom c).sht = s.sht := (rfl)
@[simp] theorem State.setDom_dom (s : State) (c : SMap Nat) : (s.setDom c).dom = c := (rfl)
@[simp] theorem State.setDom_rep (s : State) (c : SMap Nat) : (s.setDom c).rep = s.rep := (rfl)
@[simp] theorem State.setDom_flash (s : State) (c : SMap Nat) : (s.setDom c).flash = s.flash := (rfl)
@[simp] theorem State.setDom_latch (s : State) (c : SMap Nat) : (s.setDom c).latch = s.latch := (rfl)
@[simp] theorem State.setDom_owner (s : State) (c : SMap Nat) : (s.setDom c).owner = s.owner := (rfl)
@[simp] theorem State.setDom_freeIdx (s : State) (c : SMap Nat) : (s.setDom c).freeIdx = s.freeIdx := (rfl)
@[simp] theorem State.setDom_out (s : State) (c : SMap Nat) : (s.setDom c).out = s.out := (rfl)
@[simp] theorem State.setRep_pending (s : State) (c : Repairs) : (s.setRep c).pending = s.pending := (rfl)
@[simp] theorem State.setRep_ctl (s : State) (c : Repairs) : (s.setRep c).ctl = s.ctl := (rfl)
@[simp] theorem State.setRep_pow (s : State) (c : Repairs) : (s.setRep c).pow = s.pow := (rfl)
@[simp] theorem State.setRep_mem (s : State) (c : Repairs) : (s.setRep c).mem = s.mem := (rfl)
@[simp] theorem State.setRep_cores (s : State) (c : Repairs) : (s.setRep c).cores = s.cores := (rfl)
@[simp] theorem State.setRep_img (s : State) (c : Repairs) : (s.setRep c).img = s.img := (rfl)
@[simp] theorem State.setRep_ld (s : State) (c : Repairs) : (s.setRep c).ld = s.ld := (rfl)
@[simp] theorem State.setRep_str (s : State) (c : Repairs) : (s.setRep c).str = s.str := (rfl)
@[simp] theorem State.setRep_eth (s : State) (c : Repairs) : (s.setRep c).eth = s.eth := (rfl)
@[simp] theorem State.setRep_fab (s : State) (c : Repairs) : (s.setRep c).fab = s.fab := (rfl)
@[simp] theorem State.setRep_drk (s : State) (c : Repairs) : (s.setRep c).drk = s.drk := (rfl)
@[simp] theorem State.setRep_mgt (s : State) (c : Repairs) : (s.setRep c).mgt = s.mgt := (rfl)
@[simp] theorem State.setRep_sht (s : State) (c : Repairs) : (s.setRep c).sht = s.sht := (rfl)
@[simp] theorem State.setRep_dom (s : State) (c : Repairs) : (s.setRep c).dom = s.dom := (rfl)
@[simp] theorem State.setRep_rep (s : State) (c : Repairs) : (s.setRep c).rep = c := (rfl)
@[simp] theorem State.setRep_flash (s : State) (c : Repairs) : (s.setRep c).flash = s.flash := (rfl)
@[simp] theorem State.setRep_latch (s : State) (c : Repairs) : (s.setRep c).latch = s.latch := (rfl)
@[simp] theorem State.setRep_owner (s : State) (c : Repairs) : (s.setRep c).owner = s.owner := (rfl)
@[simp] theorem State.setRep_freeIdx (s : State) (c : Repairs) : (s.setRep c).freeIdx = s.freeIdx := (rfl)
@[simp] theorem State.setRep_out (s : State) (c : Repairs) : (s.setRep c).out = s.out := (rfl)
@[simp] theorem State.setFlash_pending (s : State) (c : Flash) : (s.setFlash c).pending = s.pending := (rfl)
@[simp] theorem State.setFlash_ctl (s : State) (c : Flash) : (s.setFlash c).ctl = s.ctl := (rfl)
@[simp] theorem State.setFlash_pow (s : State) (c : Flash) : (s.setFlash c).pow = s.pow := (rfl)
@[simp] theorem State.setFlash_mem (s : State) (c : Flash) : (s.setFlash c).mem = s.mem := (rfl)
@[simp] theorem State.setFlash_cores (s : State) (c : Flash) : (s.setFlash c).cores = s.cores := (rfl)
@[simp] theorem State.setFlash_img (s : State) (c : Flash) : (s.setFlash c).img = s.img := (rfl)
@[simp] theorem State.setFlash_ld (s : State) (c : Flash) : (s.setFlash c).ld = s.ld := (rfl)
@[simp] theorem State.setFlash_str (s : State) (c : Flash) : (s.setFlash c).str = s.str := (rfl)
@[simp] theorem State.setFlash_eth (s : State) (c : Flash) : (s.setFlash c).eth = s.eth := (rfl)
@[simp] theorem State.setFlash_fab (s : State) (c : Flash) : (s.setFlash c).fab = s.fab := (rfl)
@[simp] theorem State.setFlash_drk (s : State) (c : Flash) : (s.setFlash c).drk = s.drk := (rfl)
@[simp] theorem State.setFlash_mgt (s : State) (c : Flash) : (s.setFlash c).mgt = s.mgt := (rfl)
@[simp] theorem State.setFlash_sht (s : State) (c : Flash) : (s.setFlash c).sht = s.sht := (rfl)
@[simp] theorem State.setFlash_dom (s : State) (c : Flash) : (s.setFlash c).dom = s.dom := (rfl)
@[simp] theorem State.setFlash_rep (s : State) (c : Flash) : (s.setFlash c).rep = s.rep := (rfl)
@[simp] theorem State.setFlash_flash (s : State) (c : Flash) : (s.setFlash c).flash = c := (rfl)
@[simp] theorem State.setFlash_latch (s : State) (c : Flash) : (s.setFlash c).latch = s.latch := (rfl)
@[simp] theorem State.setFlash_owner (s : State) (c : Flash) : (s.setFlash c).owner = s.owner := (rfl)
@[simp] theorem State.setFlash_freeIdx (s : State) (c : Flash) : (s.setFlash c).freeIdx = s.freeIdx := (rfl)
@[simp] theorem State.setFlash_out (s : State) (c : Flash) : (s.setFlash c).out = s.out := (rfl)
@[simp] theorem State.setStr_pending (s : State) (c : Streams) : (s.setStr c).pending = s.pending := (rfl)
@[simp] theorem State.setStr_ctl (s : State) (c : Streams) : (s.setStr c).ctl = s.ctl := (rfl)
@[simp] theorem State.setStr_pow (s : State) (c : Streams) : (s.setStr c).pow = s.pow := (rfl)
@[simp] theorem State.setStr_mem (s : State) (c : Streams) : (s.setStr c).mem = s.mem := (rfl)
@[simp] theorem State.setStr_cores (s : State) (c : Streams) : (s.setStr c).cores = s.cores := (rfl)
@[simp] theorem State.setStr_img (s : State) (c : Streams) : (s.setStr c).img = s.img := (rfl)
@[simp] theorem State.setStr_ld (s : State) (c : Streams) : (s.setStr c).ld = s.ld := (rfl)
@[simp] theorem State.setStr_str (s : State) (c : Streams) : (s.setStr c).str = c := (rfl)
@[simp] theorem State.setStr_eth (s : State) (c : Streams) : (s.setStr c).eth = s.eth := (rfl)
@[simp] theorem State.setStr_fab (s : State) (c : Streams) : (s.setStr c).fab = s.fab := (rfl)
@[simp] theorem State.setStr_drk (s : State) (c : Streams) : (s.setStr c).drk = s.drk := (rfl)
@[simp] theorem State.setStr_mgt (s : State) (c : Streams) : (s.setStr c).mgt = s.mgt := (rfl)
@[simp] theorem State.setStr_sht (s : State) (c : Streams) : (s.setStr c).sht = s.sht := (rfl)
@[simp] theorem State.setStr_dom (s : State) (c : Streams) : (s.setStr c).dom = s.dom := (rfl)
@[simp] theorem State.setStr_rep (s : State) (c : Streams) : (s.setStr c).rep = s.rep := (rfl)
@[simp] theorem State.setStr_flash (s : State) (c : Streams) : (s.setStr c).flash = s.flash := (rfl)
@[simp] theorem State.setStr_latch (s : State) (c : Streams) : (s.setStr c).latch = s.latch := (rfl)
@[simp] theorem State.setStr_owner (s : State) (c : Streams) : (s.setStr c).owner = s.owner := (rfl)
@[simp] theorem State.setStr_freeIdx (s : State) (c : Streams) : (s.setStr c).freeIdx = s.freeIdx := (rfl)
@[simp] theorem State.setStr_out (s : State) (c : Streams) : (s.setStr c).out = s.out := (rfl)
@[simp] theorem State.emit_pending (s : State) (m : OutMsg) : (s.emit m).pending = s.pending := (rfl)
@[simp] theorem State.emit_ctl (s : State) (m : OutMsg) : (s.emit m).ctl = s.ctl := (rfl)
@[simp] theorem State.emit_pow (s : State) (m : OutMsg) : (s.emit m).pow = s.pow := (rfl)
@[simp] theorem State.emit_mem (s : State) (m : OutMsg) : (s.emit m).mem = s.mem := (rfl)
@[simp] theorem State.emit_cores (s : State) (m : OutMsg) : (s.emit m).cores = s.cores := (rfl)
@[simp] theorem State.emit_img (s : State) (m : OutMsg) : (s.emit m).img = s.img := (rfl)
@[simp] theorem State.emit_ld (s : State) (m : OutMsg) : (s.emit m).ld = s.ld := (rfl)
@[simp] theorem State.emit_str (s : State) (m : OutMsg) : (s.emit m).str = s.str := (rfl)
@[simp] theorem State.emit_eth (s : State) (m : OutMsg) : (s.emit m).eth = s.eth := (rfl)
@[simp] theorem State.emit_fab (s : State) (m : OutMsg) : (s.emit m).fab = s.fab := (rfl)
@[simp] theorem State.emit_drk (s : State) (m : OutMsg) : (s.emit m).drk = s.drk := (rfl)
@[simp] theorem State.emit_mgt (s : State) (m : OutMsg) : (s.emit m).mgt = s.mgt := (rfl)
@[simp] theorem State.emit_sht (s : State) (m : OutMsg) : (s.emit m).sht = s.sht := (rfl)
@[simp] theorem State.emit_dom (s : State) (m : OutMsg) : (s.emit m).dom = s.dom := (rfl)
@[simp] theorem State.emit_rep (s : State) (m : OutMsg) : (s.emit m).rep = s.rep := (rfl)
@[simp] theorem State.emit_flash (s : State) (m : OutMsg) : (s.emit m).flash = s.flash := (rfl)
@[simp] theorem State.emit_latch (s : State) (m : OutMsg) : (s.emit m).latch = s.latch := (rfl)
@[simp] theorem State.emit_owner (s : State) (m : OutMsg) : (s.emit m).owner = s.owner := (rfl)
@[simp] theorem State.emit_freeIdx (s : State) (m : OutMsg) : (s.emit m).freeIdx = s.freeIdx := (rfl)
@[simp] theorem State.emit_out (s : State) (m : OutMsg) : (s.emit m).out = m :: s.out := (rfl)
@[simp] theorem State.fresh_pending (s : State) : s.fresh.2.pending = s.pending := (rfl)
@[simp] theorem State.fresh_ctl (s : State) : s.fresh.2.ctl = s.ctl := (rfl)
@[simp] theorem State.fresh_pow (s : State) : s.fresh.2.pow = s.pow := (rfl)
@[simp] theorem State.fresh_mem (s : State) : s.fresh.2.mem = s.mem := (rfl)
@[simp] theorem State.fresh_cores (s : State) : s.fresh.2.cores = s.cores := (rfl)
@[simp] theorem State.fresh_img (s : State) : s.fresh.2.img = s.img := (rfl)
@[simp] theorem State.fresh_ld (s : State) : s.fresh.2.ld = s.ld := (rfl)
@[simp] theorem State.fresh_str (s : State) : s.fresh.2.str = s.str := (rfl)
@[simp] theorem State.fresh_eth (s : State) : s.fresh.2.eth = s.eth := (rfl)
@[simp] theorem State.fresh_fab (s : State) : s.fresh.2.fab = s.fab := (rfl)
@[simp] theorem State.fresh_drk (s : State) : s.fresh.2.drk = s.drk := (rfl)
@[simp] theorem State.fresh_mgt (s : State) : s.fresh.2.mgt = s.mgt := (rfl)
@[simp] theorem State.fresh_sht (s : State) : s.fresh.2.sht = s.sht := (rfl)
@[simp] theorem State.fresh_dom (s : State) : s.fresh.2.dom = s.dom := (rfl)
@[simp] theorem State.fresh_rep (s : State) : s.fresh.2.rep = s.rep := (rfl)
@[simp] theorem State.fresh_flash (s : State) : s.fresh.2.flash = s.flash := (rfl)
@[simp] theorem State.fresh_latch (s : State) : s.fresh.2.latch = s.latch := (rfl)
@[simp] theorem State.fresh_owner (s : State) : s.fresh.2.owner = s.owner := (rfl)
@[simp] theorem State.fresh_freeIdx (s : State) : s.fresh.2.freeIdx = s.freeIdx + 1 := (rfl)
@[simp] theorem State.fresh_out (s : State) : s.fresh.2.out = s.out := (rfl)

/-! ### Control-space writes -/

@[simp] theorem wr32_pending (s : State) (a v : Nat) : (wr32 s a v).pending = s.pending := State.setCtl_pending _ _
@[simp] theorem wr32_pow (s : State) (a v : Nat) : (wr32 s a v).pow = s.pow := State.setCtl_pow _ _
@[simp] theorem wr32_mem (s : State) (a v : Nat) : (wr32 s a v).mem = s.mem := State.setCtl_mem _ _
@[simp] theorem wr32_cores (s : State) (a v : Nat) : (wr32 s a v).cores = s.cores := State.setCtl_cores _ _
@[simp] theorem wr32_img (s : State) (a v : Nat) : (wr32 s a v).img = s.img := State.setCtl_img _ _
@[simp] theorem wr32_ld (s : State) (a v : Nat) : (wr32 s a v).ld = s.ld := State.setCtl_ld _ _
@[simp] theorem wr32_str (s : State) (a v : Nat) : (wr32 s a v).str = s.str := State.setCtl_str _ _
@[simp] theorem wr32_eth (s : State) (a v : Nat) : (wr32 s a v).eth = s.eth := State.setCtl_eth _ _
@[simp] theorem wr32_fab (s : State) (a v : Nat) : (wr32 s a v).fab = s.fab := State.setCtl_fab _ _
@[simp] theorem wr32_drk (s : State) (a v : Nat) : (wr32 s a v).drk = s.drk := State.setCtl_drk _ _
@[simp] theorem wr32_mgt (s : State) (a v : Nat) : (wr32 s a v).mgt = s.mgt := State.setCtl_mgt _ _
@[simp] theorem wr32_sht (s : State) (a v : Nat) : (wr32 s a v).sht = s.sht := State.setCtl_sht _ _
@[simp] theorem wr32_dom (s : State) (a v : Nat) : (wr32 s a v).dom = s.dom := State.setCtl_dom _ _
@[simp] theorem wr32_rep (s : State) (a v : Nat) : (wr32 s a v).rep = s.rep := State.setCtl_rep _ _
@[simp] theorem wr32_flash (s : State) (a v : Nat) : (wr32 s a v).flash = s.flash := State.setCtl_flash _ _
@[simp] theorem wr32_latch (s : State) (a v : Nat) : (wr32 s a v).latch = s.latch := State.setCtl_latch _ _
@[simp] theorem wr32_owner (s : State) (a v : Nat) : (wr32 s a v).owner = s.owner := State.setCtl_owner _ _
@[simp] theorem wr32_freeIdx (s : State) (a v : Nat) : (wr32 s a v).freeIdx = s.freeIdx := State.setCtl_freeIdx _ _
@[simp] theorem wr32_out (s : State) (a v : Nat) : (wr32 s a v).out = s.out := State.setCtl_out _ _
@[simp] theorem wr64_pending (s : State) (a v : Nat) : (wr64 s a v).pending = s.pending := (wr32_pending _ _ _).trans (wr32_pending _ _ _)
@[simp] theorem wr64_pow (s : State) (a v : Nat) : (wr64 s a v).pow = s.pow := (wr32_pow _ _ _).trans (wr32_pow _ _ _)
@[simp] theorem wr64_mem (s : State) (a v : Nat) : (wr64 s a v).mem = s.mem := (wr32_mem _ _ _).trans (wr32_mem _ _ _)
@[simp] theorem wr64_cores (s : State) (a v : Nat) : (wr64 s a v).cores = s.cores := (wr32_cores _ _ _).trans (wr32_cores _ _ _)
@[simp] theorem wr64_img (s : State) (a v : Nat) : (wr64 s a v).img = s.img := (wr32_img _ _ _).trans (wr32_img _ _ _)
@[simp] theorem wr64_ld (s : State) (a v : Nat) : (wr64 s a v).ld = s.ld := (wr32_ld _ _ _).trans (wr32_ld _ _ _)
@[simp] theorem wr64_str (s : State) (a v : Nat) : (wr64 s a v).str = s.str := (wr32_str _ _ _).trans (wr32_str _ _ _)
@[simp] theorem wr64_eth (s : State) (a v : Nat) : (wr64 s a v).eth = s.eth := (wr32_eth _ _ _).trans (wr32_eth _ _ _)
@[simp] theorem wr64_fab (s : State) (a v : Nat) : (wr64 s a v).fab = s.fab := (wr32_fab _ _ _).trans (wr32_fab _ _ _)
@[simp] theorem wr64_drk (s : State) (a v : Nat) : (wr64 s a v).drk = s.drk := (wr32_drk _ _ _).trans (wr32_drk _ _ _)
@[simp] theorem wr64_mgt (s : State) (a v : Nat) : (wr64 s a v).mgt = s.mgt := (wr32_mgt _ _ _).trans (wr32_mgt _ _ _)
@[simp] theorem wr64_sht (s : State) (a v : Nat) : (wr64 s a v).sht = s.sht := (wr32_sht _ _ _).trans (wr32_sht _ _ _)
@[simp] theorem wr64_dom (s : State) (a v : Nat) : (wr64 s a v).dom = s.dom := (wr32_dom _ _ _).trans (wr32_dom _ _ _)
@[simp] theorem wr64_rep (s : State) (a v : Nat) : (wr64 s a v).rep = s.rep := (wr32_rep _ _ _).trans (wr32_rep _ _ _)
@[simp] theorem wr64_flash (s : State) (a v : Nat) : (wr64 s a v).flash = s.flash := (wr32_flash _ _ _).trans (wr32_flash _ _ _)
@[simp] theorem wr64_latch (s : State) (a v : Nat) : (wr64 s a v).latch = s.latch := (wr32_latch _ _ _).trans (wr32_latch _ _ _)
@[simp] theorem wr64_owner (s : State) (a v : Nat) : (wr64 s a v).owner = s.owner := (wr32_owner _ _ _).trans (wr32_owner _ _ _)
@[simp] theorem wr64_freeIdx (s : State) (a v : Nat) : (wr64 s a v).freeIdx = s.freeIdx := (wr32_freeIdx _ _ _).trans (wr32_freeIdx _ _ _)
@[simp] theorem wr64_out (s : State) (a v : Nat) : (wr64 s a v).out = s.out := (wr32_out _ _ _).trans (wr32_out _ _ _)
@[simp] theorem wrBits_pending (s : State) (a lo n v : Nat) : (wrBits s a lo n v).pending = s.pending := wr32_pending _ _ _
@[simp] theorem wrBits_pow (s : State) (a lo n v : Nat) : (wrBits s a lo n v).pow = s.pow := wr32_pow _ _ _
@[simp] theorem wrBits_mem (s : State) (a lo n v : Nat) : (wrBits s a lo n v).mem = s.mem := wr32_mem _ _ _
@[simp] theorem wrBits_cores (s : State) (a lo n v : Nat) : (wrBits s a lo n v).cores = s.cores := wr32_cores _ _ _
@[simp] theorem wrBits_img (s : State) (a lo n v : Nat) : (wrBits s a lo n v).img = s.img := wr32_img _ _ _
@[simp] theorem wrBits_ld (s : State) (a lo n v : Nat) : (wrBits s a lo n v).ld = s.ld := wr32_ld _ _ _
@[simp] theorem wrBits_str (s : State) (a lo n v : Nat) : (wrBits s a lo n v).str = s.str := wr32_str _ _ _
@[simp] theorem wrBits_eth (s : State) (a lo n v : Nat) : (wrBits s a lo n v).eth = s.eth := wr32_eth _ _ _
@[simp] theorem wrBits_fab (s : State) (a lo n v : Nat) : (wrBits s a lo n v).fab = s.fab := wr32_fab _ _ _
@[simp] theorem wrBits_drk (s : State) (a lo n v : Nat) : (wrBits s a lo n v).drk = s.drk := wr32_drk _ _ _
@[simp] theorem wrBits_mgt (s : State) (a lo n v : Nat) : (wrBits s a lo n v).mgt = s.mgt := wr32_mgt _ _ _
@[simp] theorem wrBits_sht (s : State) (a lo n v : Nat) : (wrBits s a lo n v).sht = s.sht := wr32_sht _ _ _
@[simp] theorem wrBits_dom (s : State) (a lo n v : Nat) : (wrBits s a lo n v).dom = s.dom := wr32_dom _ _ _
@[simp] theorem wrBits_rep (s : State) (a lo n v : Nat) : (wrBits s a lo n v).rep = s.rep := wr32_rep _ _ _
@[simp] theorem wrBits_flash (s : State) (a lo n v : Nat) : (wrBits s a lo n v).flash = s.flash := wr32_flash _ _ _
@[simp] theorem wrBits_latch (s : State) (a lo n v : Nat) : (wrBits s a lo n v).latch = s.latch := wr32_latch _ _ _
@[simp] theorem wrBits_owner (s : State) (a lo n v : Nat) : (wrBits s a lo n v).owner = s.owner := wr32_owner _ _ _
@[simp] theorem wrBits_freeIdx (s : State) (a lo n v : Nat) : (wrBits s a lo n v).freeIdx = s.freeIdx := wr32_freeIdx _ _ _
@[simp] theorem wrBits_out (s : State) (a lo n v : Nat) : (wrBits s a lo n v).out = s.out := wr32_out _ _ _
@[simp] theorem count64_pending (s : State) (a n : Nat) : (count64 s a n).pending = s.pending := wr64_pending _ _ _
@[simp] theorem count64_pow (s : State) (a n : Nat) : (count64 s a n).pow = s.pow := wr64_pow _ _ _
@[simp] theorem count64_mem (s : State) (a n : Nat) : (count64 s a n).mem = s.mem := wr64_mem _ _ _
@[simp] theorem count64_cores (s : State) (a n : Nat) : (count64 s a n).cores = s.cores := wr64_cores _ _ _
@[simp] theorem count64_img (s : State) (a n : Nat) : (count64 s a n).img = s.img := wr64_img _ _ _
@[simp] theorem count64_ld (s : State) (a n : Nat) : (count64 s a n).ld = s.ld := wr64_ld _ _ _
@[simp] theorem count64_str (s : State) (a n : Nat) : (count64 s a n).str = s.str := wr64_str _ _ _
@[simp] theorem count64_eth (s : State) (a n : Nat) : (count64 s a n).eth = s.eth := wr64_eth _ _ _
@[simp] theorem count64_fab (s : State) (a n : Nat) : (count64 s a n).fab = s.fab := wr64_fab _ _ _
@[simp] theorem count64_drk (s : State) (a n : Nat) : (count64 s a n).drk = s.drk := wr64_drk _ _ _
@[simp] theorem count64_mgt (s : State) (a n : Nat) : (count64 s a n).mgt = s.mgt := wr64_mgt _ _ _
@[simp] theorem count64_sht (s : State) (a n : Nat) : (count64 s a n).sht = s.sht := wr64_sht _ _ _
@[simp] theorem count64_dom (s : State) (a n : Nat) : (count64 s a n).dom = s.dom := wr64_dom _ _ _
@[simp] theorem count64_rep (s : State) (a n : Nat) : (count64 s a n).rep = s.rep := wr64_rep _ _ _
@[simp] theorem count64_flash (s : State) (a n : Nat) : (count64 s a n).flash = s.flash := wr64_flash _ _ _
@[simp] theorem count64_latch (s : State) (a n : Nat) : (count64 s a n).latch = s.latch := wr64_latch _ _ _
@[simp] theorem count64_owner (s : State) (a n : Nat) : (count64 s a n).owner = s.owner := wr64_owner _ _ _
@[simp] theorem count64_freeIdx (s : State) (a n : Nat) : (count64 s a n).freeIdx = s.freeIdx := wr64_freeIdx _ _ _
@[simp] theorem count64_out (s : State) (a n : Nat) : (count64 s a n).out = s.out := wr64_out _ _ _
@[simp] theorem satCount64_pending (s : State) (a n : Nat) : (satCount64 s a n).pending = s.pending := wr64_pending _ _ _
@[simp] theorem satCount64_pow (s : State) (a n : Nat) : (satCount64 s a n).pow = s.pow := wr64_pow _ _ _
@[simp] theorem satCount64_mem (s : State) (a n : Nat) : (satCount64 s a n).mem = s.mem := wr64_mem _ _ _
@[simp] theorem satCount64_cores (s : State) (a n : Nat) : (satCount64 s a n).cores = s.cores := wr64_cores _ _ _
@[simp] theorem satCount64_img (s : State) (a n : Nat) : (satCount64 s a n).img = s.img := wr64_img _ _ _
@[simp] theorem satCount64_ld (s : State) (a n : Nat) : (satCount64 s a n).ld = s.ld := wr64_ld _ _ _
@[simp] theorem satCount64_str (s : State) (a n : Nat) : (satCount64 s a n).str = s.str := wr64_str _ _ _
@[simp] theorem satCount64_eth (s : State) (a n : Nat) : (satCount64 s a n).eth = s.eth := wr64_eth _ _ _
@[simp] theorem satCount64_fab (s : State) (a n : Nat) : (satCount64 s a n).fab = s.fab := wr64_fab _ _ _
@[simp] theorem satCount64_drk (s : State) (a n : Nat) : (satCount64 s a n).drk = s.drk := wr64_drk _ _ _
@[simp] theorem satCount64_mgt (s : State) (a n : Nat) : (satCount64 s a n).mgt = s.mgt := wr64_mgt _ _ _
@[simp] theorem satCount64_sht (s : State) (a n : Nat) : (satCount64 s a n).sht = s.sht := wr64_sht _ _ _
@[simp] theorem satCount64_dom (s : State) (a n : Nat) : (satCount64 s a n).dom = s.dom := wr64_dom _ _ _
@[simp] theorem satCount64_rep (s : State) (a n : Nat) : (satCount64 s a n).rep = s.rep := wr64_rep _ _ _
@[simp] theorem satCount64_flash (s : State) (a n : Nat) : (satCount64 s a n).flash = s.flash := wr64_flash _ _ _
@[simp] theorem satCount64_latch (s : State) (a n : Nat) : (satCount64 s a n).latch = s.latch := wr64_latch _ _ _
@[simp] theorem satCount64_owner (s : State) (a n : Nat) : (satCount64 s a n).owner = s.owner := wr64_owner _ _ _
@[simp] theorem satCount64_freeIdx (s : State) (a n : Nat) : (satCount64 s a n).freeIdx = s.freeIdx := wr64_freeIdx _ _ _
@[simp] theorem satCount64_out (s : State) (a n : Nat) : (satCount64 s a n).out = s.out := wr64_out _ _ _
@[simp] theorem orWord_pending (s : State) (a m : Nat) : (orWord s a m).pending = s.pending := wr32_pending _ _ _
@[simp] theorem orWord_pow (s : State) (a m : Nat) : (orWord s a m).pow = s.pow := wr32_pow _ _ _
@[simp] theorem orWord_mem (s : State) (a m : Nat) : (orWord s a m).mem = s.mem := wr32_mem _ _ _
@[simp] theorem orWord_cores (s : State) (a m : Nat) : (orWord s a m).cores = s.cores := wr32_cores _ _ _
@[simp] theorem orWord_img (s : State) (a m : Nat) : (orWord s a m).img = s.img := wr32_img _ _ _
@[simp] theorem orWord_ld (s : State) (a m : Nat) : (orWord s a m).ld = s.ld := wr32_ld _ _ _
@[simp] theorem orWord_str (s : State) (a m : Nat) : (orWord s a m).str = s.str := wr32_str _ _ _
@[simp] theorem orWord_eth (s : State) (a m : Nat) : (orWord s a m).eth = s.eth := wr32_eth _ _ _
@[simp] theorem orWord_fab (s : State) (a m : Nat) : (orWord s a m).fab = s.fab := wr32_fab _ _ _
@[simp] theorem orWord_drk (s : State) (a m : Nat) : (orWord s a m).drk = s.drk := wr32_drk _ _ _
@[simp] theorem orWord_mgt (s : State) (a m : Nat) : (orWord s a m).mgt = s.mgt := wr32_mgt _ _ _
@[simp] theorem orWord_sht (s : State) (a m : Nat) : (orWord s a m).sht = s.sht := wr32_sht _ _ _
@[simp] theorem orWord_dom (s : State) (a m : Nat) : (orWord s a m).dom = s.dom := wr32_dom _ _ _
@[simp] theorem orWord_rep (s : State) (a m : Nat) : (orWord s a m).rep = s.rep := wr32_rep _ _ _
@[simp] theorem orWord_flash (s : State) (a m : Nat) : (orWord s a m).flash = s.flash := wr32_flash _ _ _
@[simp] theorem orWord_latch (s : State) (a m : Nat) : (orWord s a m).latch = s.latch := wr32_latch _ _ _
@[simp] theorem orWord_owner (s : State) (a m : Nat) : (orWord s a m).owner = s.owner := wr32_owner _ _ _
@[simp] theorem orWord_freeIdx (s : State) (a m : Nat) : (orWord s a m).freeIdx = s.freeIdx := wr32_freeIdx _ _ _
@[simp] theorem orWord_out (s : State) (a m : Nat) : (orWord s a m).out = s.out := wr32_out _ _ _
@[simp] theorem sticky_pending (s : State) (base m : Nat) : (sticky s base m).pending = s.pending := wr32_pending _ _ _
@[simp] theorem sticky_pow (s : State) (base m : Nat) : (sticky s base m).pow = s.pow := wr32_pow _ _ _
@[simp] theorem sticky_mem (s : State) (base m : Nat) : (sticky s base m).mem = s.mem := wr32_mem _ _ _
@[simp] theorem sticky_cores (s : State) (base m : Nat) : (sticky s base m).cores = s.cores := wr32_cores _ _ _
@[simp] theorem sticky_img (s : State) (base m : Nat) : (sticky s base m).img = s.img := wr32_img _ _ _
@[simp] theorem sticky_ld (s : State) (base m : Nat) : (sticky s base m).ld = s.ld := wr32_ld _ _ _
@[simp] theorem sticky_str (s : State) (base m : Nat) : (sticky s base m).str = s.str := wr32_str _ _ _
@[simp] theorem sticky_eth (s : State) (base m : Nat) : (sticky s base m).eth = s.eth := wr32_eth _ _ _
@[simp] theorem sticky_fab (s : State) (base m : Nat) : (sticky s base m).fab = s.fab := wr32_fab _ _ _
@[simp] theorem sticky_drk (s : State) (base m : Nat) : (sticky s base m).drk = s.drk := wr32_drk _ _ _
@[simp] theorem sticky_mgt (s : State) (base m : Nat) : (sticky s base m).mgt = s.mgt := wr32_mgt _ _ _
@[simp] theorem sticky_sht (s : State) (base m : Nat) : (sticky s base m).sht = s.sht := wr32_sht _ _ _
@[simp] theorem sticky_dom (s : State) (base m : Nat) : (sticky s base m).dom = s.dom := wr32_dom _ _ _
@[simp] theorem sticky_rep (s : State) (base m : Nat) : (sticky s base m).rep = s.rep := wr32_rep _ _ _
@[simp] theorem sticky_flash (s : State) (base m : Nat) : (sticky s base m).flash = s.flash := wr32_flash _ _ _
@[simp] theorem sticky_latch (s : State) (base m : Nat) : (sticky s base m).latch = s.latch := wr32_latch _ _ _
@[simp] theorem sticky_owner (s : State) (base m : Nat) : (sticky s base m).owner = s.owner := wr32_owner _ _ _
@[simp] theorem sticky_freeIdx (s : State) (base m : Nat) : (sticky s base m).freeIdx = s.freeIdx := wr32_freeIdx _ _ _
@[simp] theorem sticky_out (s : State) (base m : Nat) : (sticky s base m).out = s.out := wr32_out _ _ _
@[simp] theorem raise_pending (s : State) (base code : Nat) : (raise s base code).pending = s.pending := wr32_pending _ _ _
@[simp] theorem raise_pow (s : State) (base code : Nat) : (raise s base code).pow = s.pow := wr32_pow _ _ _
@[simp] theorem raise_mem (s : State) (base code : Nat) : (raise s base code).mem = s.mem := wr32_mem _ _ _
@[simp] theorem raise_cores (s : State) (base code : Nat) : (raise s base code).cores = s.cores := wr32_cores _ _ _
@[simp] theorem raise_img (s : State) (base code : Nat) : (raise s base code).img = s.img := wr32_img _ _ _
@[simp] theorem raise_ld (s : State) (base code : Nat) : (raise s base code).ld = s.ld := wr32_ld _ _ _
@[simp] theorem raise_str (s : State) (base code : Nat) : (raise s base code).str = s.str := wr32_str _ _ _
@[simp] theorem raise_eth (s : State) (base code : Nat) : (raise s base code).eth = s.eth := wr32_eth _ _ _
@[simp] theorem raise_fab (s : State) (base code : Nat) : (raise s base code).fab = s.fab := wr32_fab _ _ _
@[simp] theorem raise_drk (s : State) (base code : Nat) : (raise s base code).drk = s.drk := wr32_drk _ _ _
@[simp] theorem raise_mgt (s : State) (base code : Nat) : (raise s base code).mgt = s.mgt := wr32_mgt _ _ _
@[simp] theorem raise_sht (s : State) (base code : Nat) : (raise s base code).sht = s.sht := wr32_sht _ _ _
@[simp] theorem raise_dom (s : State) (base code : Nat) : (raise s base code).dom = s.dom := wr32_dom _ _ _
@[simp] theorem raise_rep (s : State) (base code : Nat) : (raise s base code).rep = s.rep := wr32_rep _ _ _
@[simp] theorem raise_flash (s : State) (base code : Nat) : (raise s base code).flash = s.flash := wr32_flash _ _ _
@[simp] theorem raise_latch (s : State) (base code : Nat) : (raise s base code).latch = s.latch := wr32_latch _ _ _
@[simp] theorem raise_owner (s : State) (base code : Nat) : (raise s base code).owner = s.owner := wr32_owner _ _ _
@[simp] theorem raise_freeIdx (s : State) (base code : Nat) : (raise s base code).freeIdx = s.freeIdx := wr32_freeIdx _ _ _
@[simp] theorem raise_out (s : State) (base code : Nat) : (raise s base code).out = s.out := wr32_out _ _ _
@[simp] theorem setPc_pending (s : State) (n c v : Nat) : (setPc s n c v).pending = s.pending := wr32_pending _ _ _
@[simp] theorem setPc_pow (s : State) (n c v : Nat) : (setPc s n c v).pow = s.pow := wr32_pow _ _ _
@[simp] theorem setPc_mem (s : State) (n c v : Nat) : (setPc s n c v).mem = s.mem := wr32_mem _ _ _
@[simp] theorem setPc_cores (s : State) (n c v : Nat) : (setPc s n c v).cores = s.cores := wr32_cores _ _ _
@[simp] theorem setPc_img (s : State) (n c v : Nat) : (setPc s n c v).img = s.img := wr32_img _ _ _
@[simp] theorem setPc_ld (s : State) (n c v : Nat) : (setPc s n c v).ld = s.ld := wr32_ld _ _ _
@[simp] theorem setPc_str (s : State) (n c v : Nat) : (setPc s n c v).str = s.str := wr32_str _ _ _
@[simp] theorem setPc_eth (s : State) (n c v : Nat) : (setPc s n c v).eth = s.eth := wr32_eth _ _ _
@[simp] theorem setPc_fab (s : State) (n c v : Nat) : (setPc s n c v).fab = s.fab := wr32_fab _ _ _
@[simp] theorem setPc_drk (s : State) (n c v : Nat) : (setPc s n c v).drk = s.drk := wr32_drk _ _ _
@[simp] theorem setPc_mgt (s : State) (n c v : Nat) : (setPc s n c v).mgt = s.mgt := wr32_mgt _ _ _
@[simp] theorem setPc_sht (s : State) (n c v : Nat) : (setPc s n c v).sht = s.sht := wr32_sht _ _ _
@[simp] theorem setPc_dom (s : State) (n c v : Nat) : (setPc s n c v).dom = s.dom := wr32_dom _ _ _
@[simp] theorem setPc_rep (s : State) (n c v : Nat) : (setPc s n c v).rep = s.rep := wr32_rep _ _ _
@[simp] theorem setPc_flash (s : State) (n c v : Nat) : (setPc s n c v).flash = s.flash := wr32_flash _ _ _
@[simp] theorem setPc_latch (s : State) (n c v : Nat) : (setPc s n c v).latch = s.latch := wr32_latch _ _ _
@[simp] theorem setPc_owner (s : State) (n c v : Nat) : (setPc s n c v).owner = s.owner := wr32_owner _ _ _
@[simp] theorem setPc_freeIdx (s : State) (n c v : Nat) : (setPc s n c v).freeIdx = s.freeIdx := wr32_freeIdx _ _ _
@[simp] theorem setPc_out (s : State) (n c v : Nat) : (setPc s n c v).out = s.out := wr32_out _ _ _
@[simp] theorem setSem_pending (s : State) (n i v : Nat) : (setSem s n i v).pending = s.pending := wr32_pending _ _ _
@[simp] theorem setSem_pow (s : State) (n i v : Nat) : (setSem s n i v).pow = s.pow := wr32_pow _ _ _
@[simp] theorem setSem_mem (s : State) (n i v : Nat) : (setSem s n i v).mem = s.mem := wr32_mem _ _ _
@[simp] theorem setSem_cores (s : State) (n i v : Nat) : (setSem s n i v).cores = s.cores := wr32_cores _ _ _
@[simp] theorem setSem_img (s : State) (n i v : Nat) : (setSem s n i v).img = s.img := wr32_img _ _ _
@[simp] theorem setSem_ld (s : State) (n i v : Nat) : (setSem s n i v).ld = s.ld := wr32_ld _ _ _
@[simp] theorem setSem_str (s : State) (n i v : Nat) : (setSem s n i v).str = s.str := wr32_str _ _ _
@[simp] theorem setSem_eth (s : State) (n i v : Nat) : (setSem s n i v).eth = s.eth := wr32_eth _ _ _
@[simp] theorem setSem_fab (s : State) (n i v : Nat) : (setSem s n i v).fab = s.fab := wr32_fab _ _ _
@[simp] theorem setSem_drk (s : State) (n i v : Nat) : (setSem s n i v).drk = s.drk := wr32_drk _ _ _
@[simp] theorem setSem_mgt (s : State) (n i v : Nat) : (setSem s n i v).mgt = s.mgt := wr32_mgt _ _ _
@[simp] theorem setSem_sht (s : State) (n i v : Nat) : (setSem s n i v).sht = s.sht := wr32_sht _ _ _
@[simp] theorem setSem_dom (s : State) (n i v : Nat) : (setSem s n i v).dom = s.dom := wr32_dom _ _ _
@[simp] theorem setSem_rep (s : State) (n i v : Nat) : (setSem s n i v).rep = s.rep := wr32_rep _ _ _
@[simp] theorem setSem_flash (s : State) (n i v : Nat) : (setSem s n i v).flash = s.flash := wr32_flash _ _ _
@[simp] theorem setSem_latch (s : State) (n i v : Nat) : (setSem s n i v).latch = s.latch := wr32_latch _ _ _
@[simp] theorem setSem_owner (s : State) (n i v : Nat) : (setSem s n i v).owner = s.owner := wr32_owner _ _ _
@[simp] theorem setSem_freeIdx (s : State) (n i v : Nat) : (setSem s n i v).freeIdx = s.freeIdx := wr32_freeIdx _ _ _
@[simp] theorem setSem_out (s : State) (n i v : Nat) : (setSem s n i v).out = s.out := wr32_out _ _ _
@[simp] theorem setRem_pending (s : State) (a r : Nat) (m : Int) : (setRem s a r m).pending = s.pending := wr64_pending _ _ _
@[simp] theorem setRem_pow (s : State) (a r : Nat) (m : Int) : (setRem s a r m).pow = s.pow := wr64_pow _ _ _
@[simp] theorem setRem_mem (s : State) (a r : Nat) (m : Int) : (setRem s a r m).mem = s.mem := wr64_mem _ _ _
@[simp] theorem setRem_cores (s : State) (a r : Nat) (m : Int) : (setRem s a r m).cores = s.cores := wr64_cores _ _ _
@[simp] theorem setRem_img (s : State) (a r : Nat) (m : Int) : (setRem s a r m).img = s.img := wr64_img _ _ _
@[simp] theorem setRem_ld (s : State) (a r : Nat) (m : Int) : (setRem s a r m).ld = s.ld := wr64_ld _ _ _
@[simp] theorem setRem_str (s : State) (a r : Nat) (m : Int) : (setRem s a r m).str = s.str := wr64_str _ _ _
@[simp] theorem setRem_eth (s : State) (a r : Nat) (m : Int) : (setRem s a r m).eth = s.eth := wr64_eth _ _ _
@[simp] theorem setRem_fab (s : State) (a r : Nat) (m : Int) : (setRem s a r m).fab = s.fab := wr64_fab _ _ _
@[simp] theorem setRem_drk (s : State) (a r : Nat) (m : Int) : (setRem s a r m).drk = s.drk := wr64_drk _ _ _
@[simp] theorem setRem_mgt (s : State) (a r : Nat) (m : Int) : (setRem s a r m).mgt = s.mgt := wr64_mgt _ _ _
@[simp] theorem setRem_sht (s : State) (a r : Nat) (m : Int) : (setRem s a r m).sht = s.sht := wr64_sht _ _ _
@[simp] theorem setRem_dom (s : State) (a r : Nat) (m : Int) : (setRem s a r m).dom = s.dom := wr64_dom _ _ _
@[simp] theorem setRem_rep (s : State) (a r : Nat) (m : Int) : (setRem s a r m).rep = s.rep := wr64_rep _ _ _
@[simp] theorem setRem_flash (s : State) (a r : Nat) (m : Int) : (setRem s a r m).flash = s.flash := wr64_flash _ _ _
@[simp] theorem setRem_latch (s : State) (a r : Nat) (m : Int) : (setRem s a r m).latch = s.latch := wr64_latch _ _ _
@[simp] theorem setRem_owner (s : State) (a r : Nat) (m : Int) : (setRem s a r m).owner = s.owner := wr64_owner _ _ _
@[simp] theorem setRem_freeIdx (s : State) (a r : Nat) (m : Int) : (setRem s a r m).freeIdx = s.freeIdx := wr64_freeIdx _ _ _
@[simp] theorem setRem_out (s : State) (a r : Nat) (m : Int) : (setRem s a r m).out = s.out := wr64_out _ _ _
@[simp] theorem charge_pending (s : State) (a r n : Nat) : (charge s a r n).pending = s.pending := wr64_pending _ _ _
@[simp] theorem charge_pow (s : State) (a r n : Nat) : (charge s a r n).pow = s.pow := wr64_pow _ _ _
@[simp] theorem charge_mem (s : State) (a r n : Nat) : (charge s a r n).mem = s.mem := wr64_mem _ _ _
@[simp] theorem charge_cores (s : State) (a r n : Nat) : (charge s a r n).cores = s.cores := wr64_cores _ _ _
@[simp] theorem charge_img (s : State) (a r n : Nat) : (charge s a r n).img = s.img := wr64_img _ _ _
@[simp] theorem charge_ld (s : State) (a r n : Nat) : (charge s a r n).ld = s.ld := wr64_ld _ _ _
@[simp] theorem charge_str (s : State) (a r n : Nat) : (charge s a r n).str = s.str := wr64_str _ _ _
@[simp] theorem charge_eth (s : State) (a r n : Nat) : (charge s a r n).eth = s.eth := wr64_eth _ _ _
@[simp] theorem charge_fab (s : State) (a r n : Nat) : (charge s a r n).fab = s.fab := wr64_fab _ _ _
@[simp] theorem charge_drk (s : State) (a r n : Nat) : (charge s a r n).drk = s.drk := wr64_drk _ _ _
@[simp] theorem charge_mgt (s : State) (a r n : Nat) : (charge s a r n).mgt = s.mgt := wr64_mgt _ _ _
@[simp] theorem charge_sht (s : State) (a r n : Nat) : (charge s a r n).sht = s.sht := wr64_sht _ _ _
@[simp] theorem charge_dom (s : State) (a r n : Nat) : (charge s a r n).dom = s.dom := wr64_dom _ _ _
@[simp] theorem charge_rep (s : State) (a r n : Nat) : (charge s a r n).rep = s.rep := wr64_rep _ _ _
@[simp] theorem charge_flash (s : State) (a r n : Nat) : (charge s a r n).flash = s.flash := wr64_flash _ _ _
@[simp] theorem charge_latch (s : State) (a r n : Nat) : (charge s a r n).latch = s.latch := wr64_latch _ _ _
@[simp] theorem charge_owner (s : State) (a r n : Nat) : (charge s a r n).owner = s.owner := wr64_owner _ _ _
@[simp] theorem charge_freeIdx (s : State) (a r n : Nat) : (charge s a r n).freeIdx = s.freeIdx := wr64_freeIdx _ _ _
@[simp] theorem charge_out (s : State) (a r n : Nat) : (charge s a r n).out = s.out := wr64_out _ _ _
@[simp] theorem setSeqStatus_pending (s : State) (n c : Nat) (act wait : Bool) : (setSeqStatus s n c act wait).pending = s.pending := wr32_pending _ _ _
@[simp] theorem setSeqStatus_pow (s : State) (n c : Nat) (act wait : Bool) : (setSeqStatus s n c act wait).pow = s.pow := wr32_pow _ _ _
@[simp] theorem setSeqStatus_mem (s : State) (n c : Nat) (act wait : Bool) : (setSeqStatus s n c act wait).mem = s.mem := wr32_mem _ _ _
@[simp] theorem setSeqStatus_cores (s : State) (n c : Nat) (act wait : Bool) : (setSeqStatus s n c act wait).cores = s.cores := wr32_cores _ _ _
@[simp] theorem setSeqStatus_img (s : State) (n c : Nat) (act wait : Bool) : (setSeqStatus s n c act wait).img = s.img := wr32_img _ _ _
@[simp] theorem setSeqStatus_ld (s : State) (n c : Nat) (act wait : Bool) : (setSeqStatus s n c act wait).ld = s.ld := wr32_ld _ _ _
@[simp] theorem setSeqStatus_str (s : State) (n c : Nat) (act wait : Bool) : (setSeqStatus s n c act wait).str = s.str := wr32_str _ _ _
@[simp] theorem setSeqStatus_eth (s : State) (n c : Nat) (act wait : Bool) : (setSeqStatus s n c act wait).eth = s.eth := wr32_eth _ _ _
@[simp] theorem setSeqStatus_fab (s : State) (n c : Nat) (act wait : Bool) : (setSeqStatus s n c act wait).fab = s.fab := wr32_fab _ _ _
@[simp] theorem setSeqStatus_drk (s : State) (n c : Nat) (act wait : Bool) : (setSeqStatus s n c act wait).drk = s.drk := wr32_drk _ _ _
@[simp] theorem setSeqStatus_mgt (s : State) (n c : Nat) (act wait : Bool) : (setSeqStatus s n c act wait).mgt = s.mgt := wr32_mgt _ _ _
@[simp] theorem setSeqStatus_sht (s : State) (n c : Nat) (act wait : Bool) : (setSeqStatus s n c act wait).sht = s.sht := wr32_sht _ _ _
@[simp] theorem setSeqStatus_dom (s : State) (n c : Nat) (act wait : Bool) : (setSeqStatus s n c act wait).dom = s.dom := wr32_dom _ _ _
@[simp] theorem setSeqStatus_rep (s : State) (n c : Nat) (act wait : Bool) : (setSeqStatus s n c act wait).rep = s.rep := wr32_rep _ _ _
@[simp] theorem setSeqStatus_flash (s : State) (n c : Nat) (act wait : Bool) : (setSeqStatus s n c act wait).flash = s.flash := wr32_flash _ _ _
@[simp] theorem setSeqStatus_latch (s : State) (n c : Nat) (act wait : Bool) : (setSeqStatus s n c act wait).latch = s.latch := wr32_latch _ _ _
@[simp] theorem setSeqStatus_owner (s : State) (n c : Nat) (act wait : Bool) : (setSeqStatus s n c act wait).owner = s.owner := wr32_owner _ _ _
@[simp] theorem setSeqStatus_freeIdx (s : State) (n c : Nat) (act wait : Bool) : (setSeqStatus s n c act wait).freeIdx = s.freeIdx := wr32_freeIdx _ _ _
@[simp] theorem setSeqStatus_out (s : State) (n c : Nat) (act wait : Bool) : (setSeqStatus s n c act wait).out = s.out := wr32_out _ _ _
@[simp] theorem setCore_pending (s : State) (n : Nat) (c : Core) : (setCore s n c).pending = s.pending := State.setCores_pending _ _
@[simp] theorem setCtx_pending (s : State) (n c : Nat) (x : Ctx) : (setCtx s n c x).pending = s.pending := State.setCores_pending _ _
@[simp] theorem updTask_pending (s : State) (n c : Nat) (f : Task → Task) : (updTask s n c f).pending = s.pending := State.setCores_pending _ _
@[simp] theorem setCore_ctl (s : State) (n : Nat) (c : Core) : (setCore s n c).ctl = s.ctl := State.setCores_ctl _ _
@[simp] theorem setCtx_ctl (s : State) (n c : Nat) (x : Ctx) : (setCtx s n c x).ctl = s.ctl := State.setCores_ctl _ _
@[simp] theorem updTask_ctl (s : State) (n c : Nat) (f : Task → Task) : (updTask s n c f).ctl = s.ctl := State.setCores_ctl _ _
@[simp] theorem setCore_pow (s : State) (n : Nat) (c : Core) : (setCore s n c).pow = s.pow := State.setCores_pow _ _
@[simp] theorem setCtx_pow (s : State) (n c : Nat) (x : Ctx) : (setCtx s n c x).pow = s.pow := State.setCores_pow _ _
@[simp] theorem updTask_pow (s : State) (n c : Nat) (f : Task → Task) : (updTask s n c f).pow = s.pow := State.setCores_pow _ _
@[simp] theorem setCore_mem (s : State) (n : Nat) (c : Core) : (setCore s n c).mem = s.mem := State.setCores_mem _ _
@[simp] theorem setCtx_mem (s : State) (n c : Nat) (x : Ctx) : (setCtx s n c x).mem = s.mem := State.setCores_mem _ _
@[simp] theorem updTask_mem (s : State) (n c : Nat) (f : Task → Task) : (updTask s n c f).mem = s.mem := State.setCores_mem _ _
@[simp] theorem setCore_img (s : State) (n : Nat) (c : Core) : (setCore s n c).img = s.img := State.setCores_img _ _
@[simp] theorem setCtx_img (s : State) (n c : Nat) (x : Ctx) : (setCtx s n c x).img = s.img := State.setCores_img _ _
@[simp] theorem updTask_img (s : State) (n c : Nat) (f : Task → Task) : (updTask s n c f).img = s.img := State.setCores_img _ _
@[simp] theorem setCore_ld (s : State) (n : Nat) (c : Core) : (setCore s n c).ld = s.ld := State.setCores_ld _ _
@[simp] theorem setCtx_ld (s : State) (n c : Nat) (x : Ctx) : (setCtx s n c x).ld = s.ld := State.setCores_ld _ _
@[simp] theorem updTask_ld (s : State) (n c : Nat) (f : Task → Task) : (updTask s n c f).ld = s.ld := State.setCores_ld _ _
@[simp] theorem setCore_str (s : State) (n : Nat) (c : Core) : (setCore s n c).str = s.str := State.setCores_str _ _
@[simp] theorem setCtx_str (s : State) (n c : Nat) (x : Ctx) : (setCtx s n c x).str = s.str := State.setCores_str _ _
@[simp] theorem updTask_str (s : State) (n c : Nat) (f : Task → Task) : (updTask s n c f).str = s.str := State.setCores_str _ _
@[simp] theorem setCore_eth (s : State) (n : Nat) (c : Core) : (setCore s n c).eth = s.eth := State.setCores_eth _ _
@[simp] theorem setCtx_eth (s : State) (n c : Nat) (x : Ctx) : (setCtx s n c x).eth = s.eth := State.setCores_eth _ _
@[simp] theorem updTask_eth (s : State) (n c : Nat) (f : Task → Task) : (updTask s n c f).eth = s.eth := State.setCores_eth _ _
@[simp] theorem setCore_fab (s : State) (n : Nat) (c : Core) : (setCore s n c).fab = s.fab := State.setCores_fab _ _
@[simp] theorem setCtx_fab (s : State) (n c : Nat) (x : Ctx) : (setCtx s n c x).fab = s.fab := State.setCores_fab _ _
@[simp] theorem updTask_fab (s : State) (n c : Nat) (f : Task → Task) : (updTask s n c f).fab = s.fab := State.setCores_fab _ _
@[simp] theorem setCore_drk (s : State) (n : Nat) (c : Core) : (setCore s n c).drk = s.drk := State.setCores_drk _ _
@[simp] theorem setCtx_drk (s : State) (n c : Nat) (x : Ctx) : (setCtx s n c x).drk = s.drk := State.setCores_drk _ _
@[simp] theorem updTask_drk (s : State) (n c : Nat) (f : Task → Task) : (updTask s n c f).drk = s.drk := State.setCores_drk _ _
@[simp] theorem setCore_mgt (s : State) (n : Nat) (c : Core) : (setCore s n c).mgt = s.mgt := State.setCores_mgt _ _
@[simp] theorem setCtx_mgt (s : State) (n c : Nat) (x : Ctx) : (setCtx s n c x).mgt = s.mgt := State.setCores_mgt _ _
@[simp] theorem updTask_mgt (s : State) (n c : Nat) (f : Task → Task) : (updTask s n c f).mgt = s.mgt := State.setCores_mgt _ _
@[simp] theorem setCore_sht (s : State) (n : Nat) (c : Core) : (setCore s n c).sht = s.sht := State.setCores_sht _ _
@[simp] theorem setCtx_sht (s : State) (n c : Nat) (x : Ctx) : (setCtx s n c x).sht = s.sht := State.setCores_sht _ _
@[simp] theorem updTask_sht (s : State) (n c : Nat) (f : Task → Task) : (updTask s n c f).sht = s.sht := State.setCores_sht _ _
@[simp] theorem setCore_dom (s : State) (n : Nat) (c : Core) : (setCore s n c).dom = s.dom := State.setCores_dom _ _
@[simp] theorem setCtx_dom (s : State) (n c : Nat) (x : Ctx) : (setCtx s n c x).dom = s.dom := State.setCores_dom _ _
@[simp] theorem updTask_dom (s : State) (n c : Nat) (f : Task → Task) : (updTask s n c f).dom = s.dom := State.setCores_dom _ _
@[simp] theorem setCore_rep (s : State) (n : Nat) (c : Core) : (setCore s n c).rep = s.rep := State.setCores_rep _ _
@[simp] theorem setCtx_rep (s : State) (n c : Nat) (x : Ctx) : (setCtx s n c x).rep = s.rep := State.setCores_rep _ _
@[simp] theorem updTask_rep (s : State) (n c : Nat) (f : Task → Task) : (updTask s n c f).rep = s.rep := State.setCores_rep _ _
@[simp] theorem setCore_flash (s : State) (n : Nat) (c : Core) : (setCore s n c).flash = s.flash := State.setCores_flash _ _
@[simp] theorem setCtx_flash (s : State) (n c : Nat) (x : Ctx) : (setCtx s n c x).flash = s.flash := State.setCores_flash _ _
@[simp] theorem updTask_flash (s : State) (n c : Nat) (f : Task → Task) : (updTask s n c f).flash = s.flash := State.setCores_flash _ _
@[simp] theorem setCore_latch (s : State) (n : Nat) (c : Core) : (setCore s n c).latch = s.latch := State.setCores_latch _ _
@[simp] theorem setCtx_latch (s : State) (n c : Nat) (x : Ctx) : (setCtx s n c x).latch = s.latch := State.setCores_latch _ _
@[simp] theorem updTask_latch (s : State) (n c : Nat) (f : Task → Task) : (updTask s n c f).latch = s.latch := State.setCores_latch _ _
@[simp] theorem setCore_owner (s : State) (n : Nat) (c : Core) : (setCore s n c).owner = s.owner := State.setCores_owner _ _
@[simp] theorem setCtx_owner (s : State) (n c : Nat) (x : Ctx) : (setCtx s n c x).owner = s.owner := State.setCores_owner _ _
@[simp] theorem updTask_owner (s : State) (n c : Nat) (f : Task → Task) : (updTask s n c f).owner = s.owner := State.setCores_owner _ _
@[simp] theorem setCore_freeIdx (s : State) (n : Nat) (c : Core) : (setCore s n c).freeIdx = s.freeIdx := State.setCores_freeIdx _ _
@[simp] theorem setCtx_freeIdx (s : State) (n c : Nat) (x : Ctx) : (setCtx s n c x).freeIdx = s.freeIdx := State.setCores_freeIdx _ _
@[simp] theorem updTask_freeIdx (s : State) (n c : Nat) (f : Task → Task) : (updTask s n c f).freeIdx = s.freeIdx := State.setCores_freeIdx _ _
@[simp] theorem setCore_out (s : State) (n : Nat) (c : Core) : (setCore s n c).out = s.out := State.setCores_out _ _
@[simp] theorem setCtx_out (s : State) (n c : Nat) (x : Ctx) : (setCtx s n c x).out = s.out := State.setCores_out _ _
@[simp] theorem updTask_out (s : State) (n c : Nat) (f : Task → Task) : (updTask s n c f).out = s.out := State.setCores_out _ _

/-! ### A read after a write -/

/-- A word read after a word was written. -/
theorem rd32_wr32 (s : State) (a v b : Nat) : rd32 (wr32 s a v) b = if b = a then v % 2 ^ 32 else rd32 s b := by
  unfold rd32 wr32 State.setCtl
  by_cases h : b = a
  · subst h; simp
  · simp only [h, if_false]
    rw [SMap.get_set_other _ _ _ _ _ _ h]
@[simp] theorem rd32_wr32_self (s : State) (a v : Nat) : rd32 (wr32 s a v) a = v % 2 ^ 32 := by rw [rd32_wr32, if_pos rfl]
theorem rd32_wr32_ne (s : State) (a v b : Nat) (h : b ≠ a) : rd32 (wr32 s a v) b = rd32 s b := by rw [rd32_wr32, if_neg h]
@[simp] theorem rd32_lt (s : State) (a : Nat) : rd32 s a < 2 ^ 32 := BitVec.isLt _
theorem rd32_wr64 (s : State) (a v b : Nat) :
    rd32 (wr64 s a v) b = if b = a + 4 then v / 2 ^ 32 % 2 ^ 32 else if b = a then v % 2 ^ 32 else rd32 s b := by
  unfold wr64; rw [rd32_wr32, rd32_wr32]
theorem rd32_wrBits (s : State) (a lo n v b : Nat) :
    rd32 (wrBits s a lo n v) b = if b = a then setBits (rd32 s a) lo n v % 2 ^ 32 else rd32 s b := rd32_wr32 _ _ _ _
theorem rd64_wr64 (s : State) (a v : Nat) : rd64 (wr64 s a v) a = v % 2 ^ 64 := by
  unfold rd64
  rw [rd32_wr64, rd32_wr64]
  have h : a ≠ a + 4 := by omega
  simp only [if_true, h, if_false]
  omega
theorem rd32_count64_ne (s : State) (a n b : Nat) (h : b ≠ a) (k : b ≠ a + 4) : rd32 (count64 s a n) b = rd32 s b := by
  unfold count64; rw [rd32_wr64, if_neg k, if_neg h]
theorem rd64_count64 (s : State) (a n : Nat) : rd64 (count64 s a n) a = (rd64 s a + n) % 2 ^ 64 := rd64_wr64 _ _ _
/-- What does not write control words leaves every one. -/
theorem rd32_of_ctl {s t : State} (h : t.ctl = s.ctl) (a : Nat) : rd32 t a = rd32 s a := by unfold rd32; rw [h]

/-- The control words do not change with another part of the state. -/
theorem rd64_of_ctl {s t : State} (h : t.ctl = s.ctl) (a : Nat) : rd64 t a = rd64 s a := by unfold rd64; rw [rd32_of_ctl h, rd32_of_ctl h]
@[simp] theorem rd32_setPow (s : State) x (a : Nat) : rd32 (s.setPow x) a = rd32 s a := rd32_of_ctl (by simp) a
@[simp] theorem rd64_setPow (s : State) x (a : Nat) : rd64 (s.setPow x) a = rd64 s a := rd64_of_ctl (by simp) a
@[simp] theorem rd32_setMem (s : State) x (a : Nat) : rd32 (s.setMem x) a = rd32 s a := rd32_of_ctl (by simp) a
@[simp] theorem rd64_setMem (s : State) x (a : Nat) : rd64 (s.setMem x) a = rd64 s a := rd64_of_ctl (by simp) a
@[simp] theorem rd32_setCores (s : State) x (a : Nat) : rd32 (s.setCores x) a = rd32 s a := rd32_of_ctl (by simp) a
@[simp] theorem rd64_setCores (s : State) x (a : Nat) : rd64 (s.setCores x) a = rd64 s a := rd64_of_ctl (by simp) a
@[simp] theorem rd32_setImg (s : State) x (a : Nat) : rd32 (s.setImg x) a = rd32 s a := rd32_of_ctl (by simp) a
@[simp] theorem rd64_setImg (s : State) x (a : Nat) : rd64 (s.setImg x) a = rd64 s a := rd64_of_ctl (by simp) a
@[simp] theorem rd32_setLd (s : State) x (a : Nat) : rd32 (s.setLd x) a = rd32 s a := rd32_of_ctl (by simp) a
@[simp] theorem rd64_setLd (s : State) x (a : Nat) : rd64 (s.setLd x) a = rd64 s a := rd64_of_ctl (by simp) a
@[simp] theorem rd32_setStr (s : State) x (a : Nat) : rd32 (s.setStr x) a = rd32 s a := rd32_of_ctl (by simp) a
@[simp] theorem rd64_setStr (s : State) x (a : Nat) : rd64 (s.setStr x) a = rd64 s a := rd64_of_ctl (by simp) a
@[simp] theorem rd32_setEth (s : State) x (a : Nat) : rd32 (s.setEth x) a = rd32 s a := rd32_of_ctl (by simp) a
@[simp] theorem rd64_setEth (s : State) x (a : Nat) : rd64 (s.setEth x) a = rd64 s a := rd64_of_ctl (by simp) a
@[simp] theorem rd32_setFab (s : State) x (a : Nat) : rd32 (s.setFab x) a = rd32 s a := rd32_of_ctl (by simp) a
@[simp] theorem rd64_setFab (s : State) x (a : Nat) : rd64 (s.setFab x) a = rd64 s a := rd64_of_ctl (by simp) a
@[simp] theorem rd32_setDrk (s : State) x (a : Nat) : rd32 (s.setDrk x) a = rd32 s a := rd32_of_ctl (by simp) a
@[simp] theorem rd64_setDrk (s : State) x (a : Nat) : rd64 (s.setDrk x) a = rd64 s a := rd64_of_ctl (by simp) a
@[simp] theorem rd32_setMgt (s : State) x (a : Nat) : rd32 (s.setMgt x) a = rd32 s a := rd32_of_ctl (by simp) a
@[simp] theorem rd64_setMgt (s : State) x (a : Nat) : rd64 (s.setMgt x) a = rd64 s a := rd64_of_ctl (by simp) a
@[simp] theorem rd32_setSht (s : State) x (a : Nat) : rd32 (s.setSht x) a = rd32 s a := rd32_of_ctl (by simp) a
@[simp] theorem rd64_setSht (s : State) x (a : Nat) : rd64 (s.setSht x) a = rd64 s a := rd64_of_ctl (by simp) a
@[simp] theorem rd32_setDom (s : State) x (a : Nat) : rd32 (s.setDom x) a = rd32 s a := rd32_of_ctl (by simp) a
@[simp] theorem rd64_setDom (s : State) x (a : Nat) : rd64 (s.setDom x) a = rd64 s a := rd64_of_ctl (by simp) a
@[simp] theorem rd32_setRep (s : State) x (a : Nat) : rd32 (s.setRep x) a = rd32 s a := rd32_of_ctl (by simp) a
@[simp] theorem rd64_setRep (s : State) x (a : Nat) : rd64 (s.setRep x) a = rd64 s a := rd64_of_ctl (by simp) a
@[simp] theorem rd32_setFlash (s : State) x (a : Nat) : rd32 (s.setFlash x) a = rd32 s a := rd32_of_ctl (by simp) a
@[simp] theorem rd64_setFlash (s : State) x (a : Nat) : rd64 (s.setFlash x) a = rd64 s a := rd64_of_ctl (by simp) a

/-! ### A firing and an arrival, which change control words and the shutter alone -/

@[simp] theorem fire_pending (s : State) (src : Nat) : (fire s src).pending = s.pending := by unfold fire; dsimp only; split <;> simp
@[simp] theorem fire_pow (s : State) (src : Nat) : (fire s src).pow = s.pow := by unfold fire; dsimp only; split <;> simp
@[simp] theorem fire_mem (s : State) (src : Nat) : (fire s src).mem = s.mem := by unfold fire; dsimp only; split <;> simp
@[simp] theorem fire_cores (s : State) (src : Nat) : (fire s src).cores = s.cores := by unfold fire; dsimp only; split <;> simp
@[simp] theorem fire_img (s : State) (src : Nat) : (fire s src).img = s.img := by unfold fire; dsimp only; split <;> simp
@[simp] theorem fire_ld (s : State) (src : Nat) : (fire s src).ld = s.ld := by unfold fire; dsimp only; split <;> simp
@[simp] theorem fire_str (s : State) (src : Nat) : (fire s src).str = s.str := by unfold fire; dsimp only; split <;> simp
@[simp] theorem fire_eth (s : State) (src : Nat) : (fire s src).eth = s.eth := by unfold fire; dsimp only; split <;> simp
@[simp] theorem fire_fab (s : State) (src : Nat) : (fire s src).fab = s.fab := by unfold fire; dsimp only; split <;> simp
@[simp] theorem fire_drk (s : State) (src : Nat) : (fire s src).drk = s.drk := by unfold fire; dsimp only; split <;> simp
@[simp] theorem fire_mgt (s : State) (src : Nat) : (fire s src).mgt = s.mgt := by unfold fire; dsimp only; split <;> simp
@[simp] theorem fire_dom (s : State) (src : Nat) : (fire s src).dom = s.dom := by unfold fire; dsimp only; split <;> simp
@[simp] theorem fire_rep (s : State) (src : Nat) : (fire s src).rep = s.rep := by unfold fire; dsimp only; split <;> simp
@[simp] theorem fire_flash (s : State) (src : Nat) : (fire s src).flash = s.flash := by unfold fire; dsimp only; split <;> simp
@[simp] theorem fire_latch (s : State) (src : Nat) : (fire s src).latch = s.latch := by unfold fire; dsimp only; split <;> simp
@[simp] theorem fire_owner (s : State) (src : Nat) : (fire s src).owner = s.owner := by unfold fire; dsimp only; split <;> simp
@[simp] theorem fire_freeIdx (s : State) (src : Nat) : (fire s src).freeIdx = s.freeIdx := by unfold fire; dsimp only; split <;> simp
@[simp] theorem fire_out (s : State) (src : Nat) : (fire s src).out = s.out := by unfold fire; dsimp only; split <;> simp
@[simp] theorem arrive_pending (s : State) (src info : Nat) : (arrive s src info).pending = s.pending := by
  unfold arrive; dsimp only; repeat' split
  all_goals simp
@[simp] theorem arrive_pow (s : State) (src info : Nat) : (arrive s src info).pow = s.pow := by
  unfold arrive; dsimp only; repeat' split
  all_goals simp
@[simp] theorem arrive_mem (s : State) (src info : Nat) : (arrive s src info).mem = s.mem := by
  unfold arrive; dsimp only; repeat' split
  all_goals simp
@[simp] theorem arrive_cores (s : State) (src info : Nat) : (arrive s src info).cores = s.cores := by
  unfold arrive; dsimp only; repeat' split
  all_goals simp
@[simp] theorem arrive_img (s : State) (src info : Nat) : (arrive s src info).img = s.img := by
  unfold arrive; dsimp only; repeat' split
  all_goals simp
@[simp] theorem arrive_ld (s : State) (src info : Nat) : (arrive s src info).ld = s.ld := by
  unfold arrive; dsimp only; repeat' split
  all_goals simp
@[simp] theorem arrive_str (s : State) (src info : Nat) : (arrive s src info).str = s.str := by
  unfold arrive; dsimp only; repeat' split
  all_goals simp
@[simp] theorem arrive_eth (s : State) (src info : Nat) : (arrive s src info).eth = s.eth := by
  unfold arrive; dsimp only; repeat' split
  all_goals simp
@[simp] theorem arrive_fab (s : State) (src info : Nat) : (arrive s src info).fab = s.fab := by
  unfold arrive; dsimp only; repeat' split
  all_goals simp
@[simp] theorem arrive_drk (s : State) (src info : Nat) : (arrive s src info).drk = s.drk := by
  unfold arrive; dsimp only; repeat' split
  all_goals simp
@[simp] theorem arrive_mgt (s : State) (src info : Nat) : (arrive s src info).mgt = s.mgt := by
  unfold arrive; dsimp only; repeat' split
  all_goals simp
@[simp] theorem arrive_dom (s : State) (src info : Nat) : (arrive s src info).dom = s.dom := by
  unfold arrive; dsimp only; repeat' split
  all_goals simp
@[simp] theorem arrive_rep (s : State) (src info : Nat) : (arrive s src info).rep = s.rep := by
  unfold arrive; dsimp only; repeat' split
  all_goals simp
@[simp] theorem arrive_flash (s : State) (src info : Nat) : (arrive s src info).flash = s.flash := by
  unfold arrive; dsimp only; repeat' split
  all_goals simp
@[simp] theorem arrive_latch (s : State) (src info : Nat) : (arrive s src info).latch = s.latch := by
  unfold arrive; dsimp only; repeat' split
  all_goals simp
@[simp] theorem arrive_owner (s : State) (src info : Nat) : (arrive s src info).owner = s.owner := by
  unfold arrive; dsimp only; repeat' split
  all_goals simp
@[simp] theorem arrive_freeIdx (s : State) (src info : Nat) : (arrive s src info).freeIdx = s.freeIdx := by
  unfold arrive; dsimp only; repeat' split
  all_goals simp
@[simp] theorem arrive_out (s : State) (src info : Nat) : (arrive s src info).out = s.out := by
  unfold arrive; dsimp only; repeat' split
  all_goals simp

/-! ### Cores and contexts after a write -/

theorem core_setCore (s : State) (n m : Nat) (c : Core) : core (setCore s n c) m = if m = n then c else core s m := by
  simp [core, setCore]
@[simp] theorem core_setCore_self (s : State) (n : Nat) (c : Core) : core (setCore s n c) n = c := by simp [core_setCore]
theorem ctxOf_setCtx (s : State) (n c m d : Nat) (x : Ctx) :
    ctxOf (setCtx s n c x) m d = if m = n ∧ d = c then x else ctxOf s m d := by
  unfold ctxOf setCtx
  rw [core_setCore]
  by_cases hm : m = n
  · subst hm
    by_cases hd : d = c <;> simp [hd]
  · simp [hm]
@[simp] theorem ctxOf_setCtx_self (s : State) (n c : Nat) (x : Ctx) : ctxOf (setCtx s n c x) n c = x := by simp [ctxOf_setCtx]
@[simp] theorem core_setCtl (s : State) (c : SMap W32) (n : Nat) : core (s.setCtl c) n = core s n := (rfl)
@[simp] theorem core_wr32 (s : State) (a v n : Nat) : core (wr32 s a v) n = core s n := (rfl)
@[simp] theorem core_wr64 (s : State) (a v n : Nat) : core (wr64 s a v) n = core s n := by unfold wr64; simp
@[simp] theorem core_wrBits (s : State) (a p w v n : Nat) : core (wrBits s a p w v) n = core s n := by unfold wrBits; simp
@[simp] theorem core_count64 (s : State) (a v n : Nat) : core (count64 s a v) n = core s n := by unfold count64; simp
@[simp] theorem ctxOf_wr32 (s : State) (a v n c : Nat) : ctxOf (wr32 s a v) n c = ctxOf s n c := (rfl)
@[simp] theorem rd32_setCore (s : State) (n : Nat) (c : Core) (a : Nat) : rd32 (setCore s n c) a = rd32 s a := (rfl)
@[simp] theorem rd32_setCtx (s : State) (n c : Nat) (x : Ctx) (a : Nat) : rd32 (setCtx s n c x) a = rd32 s a := (rfl)

/-! ### A state from its fields -/

/-- Two states that agree but for the control words. -/
theorem State.eq_setCtl {s t : State} (h0 : t.pending = s.pending) (h2 : t.pow = s.pow) (h3 : t.mem = s.mem) (h4 : t.cores = s.cores) (h5 : t.img = s.img) (h6 : t.ld = s.ld) (h7 : t.str = s.str) (h8 : t.eth = s.eth) (h9 : t.fab = s.fab) (h10 : t.drk = s.drk) (h11 : t.mgt = s.mgt) (h12 : t.sht = s.sht) (h13 : t.dom = s.dom) (h14 : t.rep = s.rep) (h15 : t.flash = s.flash) (h16 : t.latch = s.latch) (h17 : t.owner = s.owner) (h18 : t.freeIdx = s.freeIdx) (h19 : t.out = s.out) : t = s.setCtl t.ctl := by
  cases s; cases t; simp only at *; subst_vars; rfl
/-- Two states that agree but for the control words and the cores. -/
theorem State.eq_setCtl_setCores {s t : State} (h0 : t.pending = s.pending) (h2 : t.pow = s.pow) (h3 : t.mem = s.mem) (h5 : t.img = s.img) (h6 : t.ld = s.ld) (h7 : t.str = s.str) (h8 : t.eth = s.eth) (h9 : t.fab = s.fab) (h10 : t.drk = s.drk) (h11 : t.mgt = s.mgt) (h12 : t.sht = s.sht) (h13 : t.dom = s.dom) (h14 : t.rep = s.rep) (h15 : t.flash = s.flash) (h16 : t.latch = s.latch) (h17 : t.owner = s.owner) (h18 : t.freeIdx = s.freeIdx) (h19 : t.out = s.out) : t = (s.setCtl t.ctl).setCores t.cores := by
  cases s; cases t; simp only at *; subst_vars; rfl

/-! ### The named registers of a context -/

theorem pcOf_setPc (s : State) (n c v : Nat) : pcOf (setPc s n c v) n c = v % 2 ^ 14 := by
  unfold pcOf setPc rdBits bits
  rw [rd32_wr32_self]
  simp only [Nat.shiftRight_zero]
  omega
theorem semOf_setSem (s : State) (n i v : Nat) : semOf (setSem s n i v) n i = v % 2 ^ 16 := by
  unfold semOf setSem rdBits bits
  rw [rd32_wr32_self]
  simp only [Nat.shiftRight_zero]
  omega

end Sys2Proof.Machine
end

