-- ==== Sys2Proof/Laws/Store.lean ====
section
/-! SUPPORT. What a write to the on-chip store does, said once: it changes the bytes that it names and no other, and a read gives them
back. -/

namespace Sys2Proof.Machine

/-- Where a store address lies depends on the image alone. -/
theorem storeKey_setMem (s : State) (m : Memory) (n a : Nat) : storeKey (s.setMem m) n a = storeKey s n a := rfl
theorem inRegion_setMem (s : State) (m : Memory) (n a : Nat) : inRegion (s.setMem m) n a = inRegion s n a := rfl

/-- Two addresses less than 4 GiB apart name two places. -/
theorem storeKey_ne (s : State) (n a i j k l : Nat) (hi : storeKey s n (a + i) = some k) (hj : storeKey s n (a + j) = some l) (hij : i < j)
    (hb : j < i + 2 ^ 32) : k ≠ l := by
  unfold storeKey at hi hj
  split at hi
  · simp only [Option.some.injEq] at hi
    split at hj
    · simp only [Option.some.injEq] at hj; omega
    · split at hj
      · simp only [Option.some.injEq] at hj; omega
      · split at hj
        · simp only [Option.some.injEq] at hj; omega
        · cases hj
  · have hk : k = 2 ^ 40 + (a + i) := by
      split at hi
      · simpa using hi.symm
      · split at hi
        · simpa using hi.symm
        · cases hi
    split at hj
    · simp only [Option.some.injEq] at hj; omega
    · have hl : l = 2 ^ 40 + (a + j) := by
        split at hj
        · simpa using hj.symm
        · split at hj
          · simpa using hj.symm
          · cases hj
      omega

/-- A store write that succeeds changes only memory, only at the bytes that it names, and makes no word bad. -/
theorem storeWrite_frame {s u : State} {n a : Nat} {bs : List Byte} (h : storeWrite s n a bs = .ok u) :
    u = s.setMem u.mem ∧ u.mem.hbm = s.mem.hbm ∧
    (∀ j, (∀ i, i < bs.length → storeKey s n (a + i) ≠ some j) → SMap.get 0 u.mem.store j = SMap.get 0 s.mem.store j) ∧
    (∀ j, SMap.get false s.mem.badWord j = false → SMap.get false u.mem.badWord j = false) := by
  induction bs generalizing s a with
  | nil => cases h; exact ⟨rfl, rfl, fun _ _ => rfl, fun _ h => h⟩
  | cons b bs ih =>
    unfold storeWrite at h
    split at h
    · cases h
    · rename_i k hk
      split at h
      · cases h
      · split at h
        · cases h
        · obtain ⟨h1, h2, h3, h4⟩ := ih h
          refine ⟨h1, h2, fun j hj => ?_, fun j hj => h4 j ?_⟩
          · rw [h3 j (fun i hi => ?_)]
            · have hkj : j ≠ k := fun e => hj 0 (Nat.succ_pos _) (by rw [e]; exact hk)
              exact SMap.get_set_ne _ _ _ _ _ hkj
            · have := hj (i + 1) (by simpa using hi)
              rwa [show a + (i + 1) = a + 1 + i by omega] at this
          · show SMap.get false (SMap.set false s.mem.badWord (k / 8) false) j = false
            rw [SMap.get_set]; split
            · rfl
            · exact hj

/-- Hardware's own write to the store, which lands or does nothing, changes only memory. -/
theorem storePoke_only (s : State) (n a l v : Nat) : storePoke s n a l v = s.setMem (storePoke s n a l v).mem := by
  unfold storePoke
  split
  · rename_i u h; exact (storeWrite_frame h).1
  · rfl
@[simp] theorem storePoke_pending (s : State) (n a l v : Nat) : (storePoke s n a l v).pending = s.pending := by rw [storePoke_only]; simp
@[simp] theorem storePoke_ctl (s : State) (n a l v : Nat) : (storePoke s n a l v).ctl = s.ctl := by rw [storePoke_only]; simp
@[simp] theorem storePoke_pow (s : State) (n a l v : Nat) : (storePoke s n a l v).pow = s.pow := by rw [storePoke_only]; simp
@[simp] theorem storePoke_cores (s : State) (n a l v : Nat) : (storePoke s n a l v).cores = s.cores := by rw [storePoke_only]; simp
@[simp] theorem storePoke_img (s : State) (n a l v : Nat) : (storePoke s n a l v).img = s.img := by rw [storePoke_only]; simp
@[simp] theorem storePoke_ld (s : State) (n a l v : Nat) : (storePoke s n a l v).ld = s.ld := by rw [storePoke_only]; simp
@[simp] theorem storePoke_str (s : State) (n a l v : Nat) : (storePoke s n a l v).str = s.str := by rw [storePoke_only]; simp
@[simp] theorem storePoke_eth (s : State) (n a l v : Nat) : (storePoke s n a l v).eth = s.eth := by rw [storePoke_only]; simp
@[simp] theorem storePoke_fab (s : State) (n a l v : Nat) : (storePoke s n a l v).fab = s.fab := by rw [storePoke_only]; simp
@[simp] theorem storePoke_drk (s : State) (n a l v : Nat) : (storePoke s n a l v).drk = s.drk := by rw [storePoke_only]; simp
@[simp] theorem storePoke_mgt (s : State) (n a l v : Nat) : (storePoke s n a l v).mgt = s.mgt := by rw [storePoke_only]; simp
@[simp] theorem storePoke_sht (s : State) (n a l v : Nat) : (storePoke s n a l v).sht = s.sht := by rw [storePoke_only]; simp
@[simp] theorem storePoke_dom (s : State) (n a l v : Nat) : (storePoke s n a l v).dom = s.dom := by rw [storePoke_only]; simp
@[simp] theorem storePoke_rep (s : State) (n a l v : Nat) : (storePoke s n a l v).rep = s.rep := by rw [storePoke_only]; simp
@[simp] theorem storePoke_flash (s : State) (n a l v : Nat) : (storePoke s n a l v).flash = s.flash := by rw [storePoke_only]; simp
@[simp] theorem storePoke_latch (s : State) (n a l v : Nat) : (storePoke s n a l v).latch = s.latch := by rw [storePoke_only]; simp
@[simp] theorem storePoke_owner (s : State) (n a l v : Nat) : (storePoke s n a l v).owner = s.owner := by rw [storePoke_only]; simp
@[simp] theorem storePoke_freeIdx (s : State) (n a l v : Nat) : (storePoke s n a l v).freeIdx = s.freeIdx := by rw [storePoke_only]; simp
@[simp] theorem storePoke_out (s : State) (n a l v : Nat) : (storePoke s n a l v).out = s.out := by rw [storePoke_only]; simp

/-- A read gives back what a write put there. -/
theorem storeRead_storeWrite {s u : State} {n a : Nat} {bs : List Byte} (h : storeWrite s n a bs = .ok u) (hl : bs.length ≤ 2 ^ 32) :
    storeRead u n a bs.length = .ok bs := by
  induction bs generalizing s a with
  | nil => rfl
  | cons b bs ih =>
    have hs := h
    unfold storeWrite at h
    split at h
    · cases h
    · rename_i k hk
      split at h
      · cases h
      · rename_i hr
        split at h
        · cases h
        · have hl' : bs.length + 1 ≤ 2 ^ 32 := by simpa using hl
          obtain ⟨h1, -, h3, h4⟩ := storeWrite_frame h
          have hku : storeKey u n a = some k := by rw [h1]; exact hk
          have hrs : inRegion s n a = true := by simpa using hr
          have hru : inRegion u n a = true := by rw [h1]; exact hrs
          have hv : SMap.get 0 u.mem.store k = b := by
            rw [h3 k (fun i hi e => ?_)]
            · exact SMap.get_set_self _ _ _ _
            · rw [show a + 1 + i = a + (i + 1) by omega] at e
              exact storeKey_ne s n a 0 (i + 1) k k hk e (Nat.succ_pos _) (by omega) rfl
          have hb : SMap.get false u.mem.badWord (k / 8) = false := h4 _ (show SMap.get false (SMap.set false s.mem.badWord (k / 8) false) (k / 8) = false from SMap.get_set_self _ _ _ _)
          have hi := ih h (by omega)
          show storeRead u n a (bs.length + 1) = _
          unfold storeRead
          simp only [hku, hru, hb, hi, hv]
          rfl

end Sys2Proof.Machine
end

