-- ==== Sys2Proof/Laws/Sequencer.lean ====
section
/-! SUPPORT. What moving, holding and releasing a context leaves in each field, and what a read of the store depends on. -/

namespace Sys2Proof.Machine

@[simp] theorem nextPc_pending (s : State) (n c : Nat) : (nextPc s n c).pending = s.pending := setPc_pending _ _ _ _
@[simp] theorem nextPc_pow (s : State) (n c : Nat) : (nextPc s n c).pow = s.pow := setPc_pow _ _ _ _
@[simp] theorem nextPc_mem (s : State) (n c : Nat) : (nextPc s n c).mem = s.mem := setPc_mem _ _ _ _
@[simp] theorem nextPc_img (s : State) (n c : Nat) : (nextPc s n c).img = s.img := setPc_img _ _ _ _
@[simp] theorem nextPc_ld (s : State) (n c : Nat) : (nextPc s n c).ld = s.ld := setPc_ld _ _ _ _
@[simp] theorem nextPc_str (s : State) (n c : Nat) : (nextPc s n c).str = s.str := setPc_str _ _ _ _
@[simp] theorem nextPc_eth (s : State) (n c : Nat) : (nextPc s n c).eth = s.eth := setPc_eth _ _ _ _
@[simp] theorem nextPc_fab (s : State) (n c : Nat) : (nextPc s n c).fab = s.fab := setPc_fab _ _ _ _
@[simp] theorem nextPc_drk (s : State) (n c : Nat) : (nextPc s n c).drk = s.drk := setPc_drk _ _ _ _
@[simp] theorem nextPc_mgt (s : State) (n c : Nat) : (nextPc s n c).mgt = s.mgt := setPc_mgt _ _ _ _
@[simp] theorem nextPc_sht (s : State) (n c : Nat) : (nextPc s n c).sht = s.sht := setPc_sht _ _ _ _
@[simp] theorem nextPc_dom (s : State) (n c : Nat) : (nextPc s n c).dom = s.dom := setPc_dom _ _ _ _
@[simp] theorem nextPc_rep (s : State) (n c : Nat) : (nextPc s n c).rep = s.rep := setPc_rep _ _ _ _
@[simp] theorem nextPc_flash (s : State) (n c : Nat) : (nextPc s n c).flash = s.flash := setPc_flash _ _ _ _
@[simp] theorem nextPc_latch (s : State) (n c : Nat) : (nextPc s n c).latch = s.latch := setPc_latch _ _ _ _
@[simp] theorem nextPc_owner (s : State) (n c : Nat) : (nextPc s n c).owner = s.owner := setPc_owner _ _ _ _
@[simp] theorem nextPc_freeIdx (s : State) (n c : Nat) : (nextPc s n c).freeIdx = s.freeIdx := setPc_freeIdx _ _ _ _
@[simp] theorem nextPc_out (s : State) (n c : Nat) : (nextPc s n c).out = s.out := setPc_out _ _ _ _
@[simp] theorem nextPc_cores (s : State) (n c : Nat) : (nextPc s n c).cores = s.cores := setPc_cores _ _ _ _
@[simp] theorem holdCtx_pending (s : State) (n c : Nat) (h : Hold) (b : Bool) : (holdCtx s n c h b).pending = s.pending :=
  (setSeqStatus_pending _ _ _ _ _).trans (setCtx_pending _ _ _ _)
@[simp] theorem holdCtx_pow (s : State) (n c : Nat) (h : Hold) (b : Bool) : (holdCtx s n c h b).pow = s.pow :=
  (setSeqStatus_pow _ _ _ _ _).trans (setCtx_pow _ _ _ _)
@[simp] theorem holdCtx_mem (s : State) (n c : Nat) (h : Hold) (b : Bool) : (holdCtx s n c h b).mem = s.mem :=
  (setSeqStatus_mem _ _ _ _ _).trans (setCtx_mem _ _ _ _)
@[simp] theorem holdCtx_img (s : State) (n c : Nat) (h : Hold) (b : Bool) : (holdCtx s n c h b).img = s.img :=
  (setSeqStatus_img _ _ _ _ _).trans (setCtx_img _ _ _ _)
@[simp] theorem holdCtx_ld (s : State) (n c : Nat) (h : Hold) (b : Bool) : (holdCtx s n c h b).ld = s.ld :=
  (setSeqStatus_ld _ _ _ _ _).trans (setCtx_ld _ _ _ _)
@[simp] theorem holdCtx_str (s : State) (n c : Nat) (h : Hold) (b : Bool) : (holdCtx s n c h b).str = s.str :=
  (setSeqStatus_str _ _ _ _ _).trans (setCtx_str _ _ _ _)
@[simp] theorem holdCtx_eth (s : State) (n c : Nat) (h : Hold) (b : Bool) : (holdCtx s n c h b).eth = s.eth :=
  (setSeqStatus_eth _ _ _ _ _).trans (setCtx_eth _ _ _ _)
@[simp] theorem holdCtx_fab (s : State) (n c : Nat) (h : Hold) (b : Bool) : (holdCtx s n c h b).fab = s.fab :=
  (setSeqStatus_fab _ _ _ _ _).trans (setCtx_fab _ _ _ _)
@[simp] theorem holdCtx_drk (s : State) (n c : Nat) (h : Hold) (b : Bool) : (holdCtx s n c h b).drk = s.drk :=
  (setSeqStatus_drk _ _ _ _ _).trans (setCtx_drk _ _ _ _)
@[simp] theorem holdCtx_mgt (s : State) (n c : Nat) (h : Hold) (b : Bool) : (holdCtx s n c h b).mgt = s.mgt :=
  (setSeqStatus_mgt _ _ _ _ _).trans (setCtx_mgt _ _ _ _)
@[simp] theorem holdCtx_sht (s : State) (n c : Nat) (h : Hold) (b : Bool) : (holdCtx s n c h b).sht = s.sht :=
  (setSeqStatus_sht _ _ _ _ _).trans (setCtx_sht _ _ _ _)
@[simp] theorem holdCtx_dom (s : State) (n c : Nat) (h : Hold) (b : Bool) : (holdCtx s n c h b).dom = s.dom :=
  (setSeqStatus_dom _ _ _ _ _).trans (setCtx_dom _ _ _ _)
@[simp] theorem holdCtx_rep (s : State) (n c : Nat) (h : Hold) (b : Bool) : (holdCtx s n c h b).rep = s.rep :=
  (setSeqStatus_rep _ _ _ _ _).trans (setCtx_rep _ _ _ _)
@[simp] theorem holdCtx_flash (s : State) (n c : Nat) (h : Hold) (b : Bool) : (holdCtx s n c h b).flash = s.flash :=
  (setSeqStatus_flash _ _ _ _ _).trans (setCtx_flash _ _ _ _)
@[simp] theorem holdCtx_latch (s : State) (n c : Nat) (h : Hold) (b : Bool) : (holdCtx s n c h b).latch = s.latch :=
  (setSeqStatus_latch _ _ _ _ _).trans (setCtx_latch _ _ _ _)
@[simp] theorem holdCtx_owner (s : State) (n c : Nat) (h : Hold) (b : Bool) : (holdCtx s n c h b).owner = s.owner :=
  (setSeqStatus_owner _ _ _ _ _).trans (setCtx_owner _ _ _ _)
@[simp] theorem holdCtx_freeIdx (s : State) (n c : Nat) (h : Hold) (b : Bool) : (holdCtx s n c h b).freeIdx = s.freeIdx :=
  (setSeqStatus_freeIdx _ _ _ _ _).trans (setCtx_freeIdx _ _ _ _)
@[simp] theorem holdCtx_out (s : State) (n c : Nat) (h : Hold) (b : Bool) : (holdCtx s n c h b).out = s.out :=
  (setSeqStatus_out _ _ _ _ _).trans (setCtx_out _ _ _ _)
@[simp] theorem resume_pending (s : State) (n c : Nat) : (resume s n c).pending = s.pending := (nextPc_pending _ _ _).trans (holdCtx_pending _ _ _ _ _)
@[simp] theorem resume_pow (s : State) (n c : Nat) : (resume s n c).pow = s.pow := (nextPc_pow _ _ _).trans (holdCtx_pow _ _ _ _ _)
@[simp] theorem resume_mem (s : State) (n c : Nat) : (resume s n c).mem = s.mem := (nextPc_mem _ _ _).trans (holdCtx_mem _ _ _ _ _)
@[simp] theorem resume_img (s : State) (n c : Nat) : (resume s n c).img = s.img := (nextPc_img _ _ _).trans (holdCtx_img _ _ _ _ _)
@[simp] theorem resume_ld (s : State) (n c : Nat) : (resume s n c).ld = s.ld := (nextPc_ld _ _ _).trans (holdCtx_ld _ _ _ _ _)
@[simp] theorem resume_str (s : State) (n c : Nat) : (resume s n c).str = s.str := (nextPc_str _ _ _).trans (holdCtx_str _ _ _ _ _)
@[simp] theorem resume_eth (s : State) (n c : Nat) : (resume s n c).eth = s.eth := (nextPc_eth _ _ _).trans (holdCtx_eth _ _ _ _ _)
@[simp] theorem resume_fab (s : State) (n c : Nat) : (resume s n c).fab = s.fab := (nextPc_fab _ _ _).trans (holdCtx_fab _ _ _ _ _)
@[simp] theorem resume_drk (s : State) (n c : Nat) : (resume s n c).drk = s.drk := (nextPc_drk _ _ _).trans (holdCtx_drk _ _ _ _ _)
@[simp] theorem resume_mgt (s : State) (n c : Nat) : (resume s n c).mgt = s.mgt := (nextPc_mgt _ _ _).trans (holdCtx_mgt _ _ _ _ _)
@[simp] theorem resume_sht (s : State) (n c : Nat) : (resume s n c).sht = s.sht := (nextPc_sht _ _ _).trans (holdCtx_sht _ _ _ _ _)
@[simp] theorem resume_dom (s : State) (n c : Nat) : (resume s n c).dom = s.dom := (nextPc_dom _ _ _).trans (holdCtx_dom _ _ _ _ _)
@[simp] theorem resume_rep (s : State) (n c : Nat) : (resume s n c).rep = s.rep := (nextPc_rep _ _ _).trans (holdCtx_rep _ _ _ _ _)
@[simp] theorem resume_flash (s : State) (n c : Nat) : (resume s n c).flash = s.flash := (nextPc_flash _ _ _).trans (holdCtx_flash _ _ _ _ _)
@[simp] theorem resume_latch (s : State) (n c : Nat) : (resume s n c).latch = s.latch := (nextPc_latch _ _ _).trans (holdCtx_latch _ _ _ _ _)
@[simp] theorem resume_owner (s : State) (n c : Nat) : (resume s n c).owner = s.owner := (nextPc_owner _ _ _).trans (holdCtx_owner _ _ _ _ _)
@[simp] theorem resume_freeIdx (s : State) (n c : Nat) : (resume s n c).freeIdx = s.freeIdx := (nextPc_freeIdx _ _ _).trans (holdCtx_freeIdx _ _ _ _ _)
@[simp] theorem resume_out (s : State) (n c : Nat) : (resume s n c).out = s.out := (nextPc_out _ _ _).trans (holdCtx_out _ _ _ _ _)

/-- The PC after the next instruction is reached, and every other word as before. -/
theorem pcOf_nextPc (s : State) (n c : Nat) : pcOf (nextPc s n c) n c = (pcOf s n c + 1) % 2 ^ 14 := pcOf_setPc _ _ _ _
theorem rd32_nextPc_ne (s : State) (n c a : Nat) (h : a ≠ coreBase n 0 + 0x80 + 8 * c) : rd32 (nextPc s n c) a = rd32 s a :=
  rd32_wr32_ne _ _ _ _ h

/-- Where a store address lies, and what a read of the store gives, depend on the image and on memory alone. -/
theorem storeKey_congr {s t : State} (hi : t.img = s.img) (n a : Nat) : storeKey t n a = storeKey s n a := by
  unfold storeKey halfBytes coreCfg; rw [hi]
theorem inRegion_congr {s t : State} (hi : t.img = s.img) (n a : Nat) : inRegion t n a = inRegion s n a := by
  unfold inRegion partOf coreCfg; rw [storeKey_congr hi, hi]
theorem storeRead_congr {s t : State} (hi : t.img = s.img) (hm : t.mem = s.mem) (n a len : Nat) : storeRead t n a len = storeRead s n a len := by
  induction len generalizing a with
  | zero => rfl
  | succ len ih => unfold storeRead; rw [storeKey_congr hi, inRegion_congr hi, hm, ih]

end Sys2Proof.Machine
end

