-- ==== Sys2Proof/Laws/Vector.lean ====
section
/-! SUPPORT. What a lane-wise step of the vector unit does, said once: it writes the active lanes of one register and ORs their
conditions, and the micro-program goes on. -/

namespace Sys2Proof.Machine

theorem noteFlags_mem (s : State) (n c : Nat) (v : Bool) (f : Nat) : (noteFlags s n c v f).mem = s.mem := by
  unfold noteFlags; split <;> simp
theorem noteFlags_core (s : State) (n c : Nat) (v : Bool) (f m : Nat) :
    core (noteFlags s n c v f) m = { core s m with ctxs := (core (noteFlags s n c v f) m).ctxs } := by
  unfold noteFlags
  split
  · rfl
  · dsimp only [updTask]
    unfold setCtx
    rw [core_setCore]
    split
    · rename_i e; subst e; unfold orWord; rw [core_wr32]
    · unfold orWord; rw [core_wr32]
theorem noteFlags_core_ne (s : State) (n c : Nat) (v : Bool) (f m : Nat) (h : m ≠ n) : core (noteFlags s n c v f) m = core s m := by
  unfold noteFlags
  split
  · rfl
  · dsimp only [updTask]
    unfold setCtx
    rw [core_setCore, if_neg h]; unfold orWord; rw [core_wr32]
theorem rd32_noteFlags (s : State) (n c : Nat) (v : Bool) (f a : Nat) : rd32 (noteFlags s n c v f) a =
    if a = coreBase n (if v then 2 else 1) + 0x80 then (rd32 s a ||| f) % 2 ^ 32 else rd32 s a := by
  by_cases h : f = 0
  · subst h
    rw [Nat.or_zero, Nat.mod_eq_of_lt (rd32_lt _ _)]
    unfold noteFlags; simp
  · unfold noteFlags
    rw [if_neg h]
    dsimp only
    generalize coreBase n (if v then 2 else 1) + 0x80 = A
    rw [rd32_of_ctl (s := orWord s A f) (by simp [updTask])]
    unfold orWord
    rw [rd32_wr32]
    by_cases e : a = A
    · rw [if_pos e, if_pos e, e]
    · rw [if_neg e, if_neg e]

theorem vec_setVec (s : State) (n : Nat) (v : Vec) : vec (setVec s n v) n = v := by unfold vec setVec; rw [core_setCore_self]
theorem vec_noteFlags (s : State) (n c : Nat) (b : Bool) (f m : Nat) : vec (noteFlags s n c b f) m = vec s m := by
  unfold vec; rw [noteFlags_core]
theorem core_setVec_ne (s : State) (n m : Nat) (v : Vec) (h : m ≠ n) : core (setVec s n v) m = core s m := by
  unfold setVec; rw [core_setCore, if_neg h]

/-- The registers and conditions that a fold over the lanes leaves. -/
theorem lanes_fold (v : Vec) (w : W64) (f : Nat → W64 × NumFlags) (N : Nat) :
    (∀ k, SMap.get 0 ((List.range N).foldl (fun (x : SMap W64 × NumFlags) l =>
        if activeLane v w l then (SMap.set 0 x.1 (uVd w * 128 + l) (f l).1, x.2 ||| (f l).2) else x) (v.v, 0)).1 k =
      if uVd w * 128 ≤ k ∧ k < uVd w * 128 + N ∧ activeLane v w (k - uVd w * 128) = true then (f (k - uVd w * 128)).1 else SMap.get 0 v.v k) ∧
    ((List.range N).foldl (fun (x : SMap W64 × NumFlags) l =>
        if activeLane v w l then (SMap.set 0 x.1 (uVd w * 128 + l) (f l).1, x.2 ||| (f l).2) else x) (v.v, 0)).2 =
      ((List.range N).filter (activeLane v w)).foldl (fun g l => g ||| (f l).2) 0 := by
  induction N with
  | zero =>
    refine ⟨fun k => ?_, rfl⟩
    simp only [List.range_zero, List.foldl_nil]
    rw [if_neg (by omega)]
  | succ N ih =>
    rw [List.range_succ, List.foldl_append, List.filter_append, List.foldl_append]
    simp only [List.foldl_cons, List.foldl_nil]
    by_cases ha : activeLane v w N = true
    · rw [if_pos ha]
      refine ⟨fun k => ?_, ?_⟩
      · dsimp only
        rw [SMap.get_set]
        by_cases hk : k = uVd w * 128 + N
        · subst hk
          rw [if_pos rfl, if_pos ⟨by omega, by omega, by rw [Nat.add_sub_cancel_left]; exact ha⟩, Nat.add_sub_cancel_left]
        · rw [if_neg hk, ih.1 k]
          by_cases hc : uVd w * 128 ≤ k ∧ k < uVd w * 128 + N ∧ activeLane v w (k - uVd w * 128) = true
          · rw [if_pos hc, if_pos ⟨hc.1, by omega, hc.2.2⟩]
          · rw [if_neg hc, if_neg (fun h => hc ⟨h.1, by omega, h.2.2⟩)]
      · dsimp only
        rw [ih.2]
        simp [List.filter, ha]
    · rw [if_neg ha]
      refine ⟨fun k => ?_, ?_⟩
      · rw [ih.1 k]
        by_cases hc : uVd w * 128 ≤ k ∧ k < uVd w * 128 + N ∧ activeLane v w (k - uVd w * 128) = true
        · rw [if_pos hc, if_pos ⟨hc.1, by omega, hc.2.2⟩]
        · rw [if_neg hc, if_neg (fun h => hc ⟨h.1, ?_, h.2.2⟩)]
          by_cases hk : k = uVd w * 128 + N
          · subst hk; rw [Nat.add_sub_cancel_left] at h; exact absurd h.2.2 ha
          · omega
      · rw [ih.2]
        simp [List.filter, ha]

/-- The lanes of every register after a lane-wise step. -/
theorem lane_putLanes (s : State) (n c : Nat) (w : W64) (f : Nat → W64 × NumFlags) (r l : Nat) (hl : l < 128) :
    lane (vec (putLanes s n c w f) n) r l = if r = uVd w ∧ activeLane (vec s n) w l = true then (f l).1 else lane (vec s n) r l := by
  unfold putLanes
  dsimp only
  rw [vec_noteFlags, vec_setVec]
  unfold lane
  have h := (lanes_fold (vec s n) w f 128).1 (r * 128 + l)
  refine Eq.trans h ?_
  by_cases hr : r = uVd w
  · subst hr
    rw [Nat.add_sub_cancel_left]
    by_cases ha : activeLane (vec s n) w l = true
    · rw [if_pos ⟨by omega, by omega, ha⟩, if_pos ⟨rfl, ha⟩]
    · rw [if_neg (fun h => ha h.2.2), if_neg (fun h => ha h.2)]
  · rw [if_neg (fun h => hr (by omega)), if_neg (fun h => hr h.1)]

/-- All else of the unit, memory and other cores after a lane-wise step. -/
theorem putLanes_rest (s : State) (n c : Nat) (w : W64) (f : Nat → W64 × NumFlags) :
    (putLanes s n c w f).mem = s.mem ∧ (∀ m, m ≠ n → core (putLanes s n c w f) m = core s m) ∧
    { vec (putLanes s n c w f) n with v := [] } = { vec s n with v := [] } ∧
    ∀ a, rd32 (putLanes s n c w f) a = if a = coreBase n 2 + 0x80 then
      (rd32 s a ||| ((List.range 128).filter (activeLane (vec s n) w)).foldl (fun g l => g ||| (f l).2) 0) % 2 ^ 32 else rd32 s a := by
  unfold putLanes
  dsimp only
  refine ⟨?_, fun m hm => ?_, ?_, fun a => ?_⟩
  · rw [noteFlags_mem]; unfold setVec; simp
  · rw [noteFlags_core_ne _ _ _ _ _ _ hm, core_setVec_ne _ _ _ _ hm]
  · rw [vec_noteFlags, vec_setVec]
  · rw [rd32_noteFlags]
    rw [show rd32 (setVec s n _) a = rd32 s a from rd32_of_ctl (by unfold setVec; simp) a]
    have h := (lanes_fold (vec s n) w f 128).2
    simp only [if_true]
    by_cases e : a = coreBase n 2 + 0x80
    · rw [if_pos e, if_pos e]; exact congrArg (fun g => (rd32 s a ||| g) % 2 ^ 32) h
    · rw [if_neg e, if_neg e]

/-- A micro-instruction that acts without an abort: the micro-program goes on to its next step. -/
theorem micro_ok {n : Nat} {w : W64} {op : Nat} {run : VJob → State → Except Abort (State × VJob)} {s s' : State} {j j' : VJob}
    (hj : (vec s n).job = some j) (hr : microReady s n w op j = true) (h : run j s = .ok (s', j')) : micro n w op run s = .next (microNext s' n j') := by
  unfold micro
  simp only [hj, hr, h]
  rfl

/-- Going on changes the unit's job, its PC and the cycle counter. -/
theorem microNext_rest (s : State) (n : Nat) (j : VJob) :
    (microNext s n j).mem = s.mem ∧ (∀ m, m ≠ n → core (microNext s n j) m = core s m) ∧
    { vec (microNext s n j) n with job := none } = { vec s n with job := none } ∧
    ∀ a, a ≠ vecBase n + 0x40 → a ≠ vecBase n + 0xA0 → a ≠ vecBase n + 0xA4 → rd32 (microNext s n j) a = rd32 s a := by
  unfold microNext
  dsimp only
  refine ⟨?_, fun m hm => ?_, ?_, fun a h1 h2 h3 => ?_⟩
  · unfold setMicroPc setVec; simp
  · have : ∀ t : State, t.cores = (setVec s n { vec s n with job := some { j with loops := (loopNext (microPc s n) j.loops).2 } }).cores → core t m = core s m := by
      intro t ht
      have : core t m = core (setVec s n { vec s n with job := some { j with loops := (loopNext (microPc s n) j.loops).2 } }) m := by unfold core; rw [ht]
      rw [this, core_setVec_ne _ _ _ _ hm]
    exact this _ (by unfold setMicroPc; simp)
  · have : ∀ t : State, t.cores = (setVec s n { vec s n with job := some { j with loops := (loopNext (microPc s n) j.loops).2 } }).cores →
        vec t n = { vec s n with job := some { j with loops := (loopNext (microPc s n) j.loops).2 } } := by
      intro t ht
      have : vec t n = vec (setVec s n { vec s n with job := some { j with loops := (loopNext (microPc s n) j.loops).2 } }) n :=
        congrArg (fun c => (SMap.get {} c n).vec) ht
      rw [this, vec_setVec]
    rw [this _ (by unfold setMicroPc; simp)]
  · rw [rd32_count64_ne _ _ _ _ h2 h3]
    unfold setMicroPc wrBits
    rw [rd32_wr32_ne _ _ _ _ h1]
    exact rd32_of_ctl (by unfold setVec; simp) a

/-- A micro-instruction whose effect is a lane-wise write of a register completes with just that effect. -/
theorem writesLanes_of {n : Nat} {w : W64} {op : Nat} {run : VJob → State → Except Abort (State × VJob)} {s : State} {j j' : VJob}
    {i : Instr} {f : Nat → W64 × NumFlags} (he : exec i s = micro n w op run s) (hj : (vec s n).job = some j)
    (hr : microReady s n w op j = true) (h : run j s = .ok (putLanes s n j.ctx w f, j')) : Safety.WritesLanes n w i f s := by
  have p := putLanes_rest s n j.ctx w f
  have q := lane_putLanes s n j.ctx w f
  have e : exec i s = .next (microNext (putLanes s n j.ctx w f) n j') := he.trans (micro_ok hj hr h)
  generalize putLanes s n j.ctx w f = u at p q e
  have m := microNext_rest u n j'
  generalize microNext u n j' = t at m e
  have pv : (vec u n).p = (vec s n).p ∧ (vec u n).ac = (vec s n).ac := by have := p.2.2.1; injection this; exact ⟨‹_›, ‹_›⟩
  have mv : (vec t n).v = (vec u n).v ∧ (vec t n).p = (vec u n).p ∧ (vec t n).ac = (vec u n).ac := by
    have := m.2.2.1; injection this; exact ⟨‹_›, ‹_›, ‹_›⟩
  refine ⟨t, e, fun r l hl => ?_, ?_, mv.2.1.trans pv.1, mv.2.2.trans pv.2, m.1.trans p.1, fun k hk => (m.2.1 k hk).trans (p.2.1 k hk)⟩
  · rw [← q r l hl]
    unfold lane
    rw [mv.1]
  · rw [m.2.2.2 _ (by unfold vecBase; omega) (by unfold vecBase; omega) (by unfold vecBase; omega), p.2.2.2 _, if_pos rfl]

/-- The integer steps, one result per lane. -/
theorem intStep_writes {n : Nat} {w : W64} {op : Nat} {s : State} {j : VJob} {i : Instr} (f : Vec → Nat → Int × NumFlags)
    (he : exec i s = intStep n w op f s) (hj : (vec s n).job = some j) (hr : microReady s n w op j = true) :
    Safety.WritesLanes n w i (fun l => (laneOfInt (f (vec s n) l).1, (f (vec s n) l).2)) s := by
  unfold intStep at he
  exact writesLanes_of he hj hr rfl

/-- The floating-point steps, one exact result per lane. -/
theorem fpStep_writes {n : Nat} {w : W64} {op fmt : Nat} {s : State} {j : VJob} {i : Instr} (f : Vec → Nat → Fp × NumFlags)
    (he : exec i s = fpStepFmt n w op fmt f s) (hj : (vec s n).job = some j) (hr : microReady s n w op j = true) :
    Safety.WritesLanes n w i (fun l => (laneOfFp (lane (vec s n) (uVd w) l) (fpRound fmt (uInf w) (f (vec s n) l).1).1,
      (f (vec s n) l).2 ||| (fpRound fmt (uInf w) (f (vec s n) l).1).2)) s := by
  unfold fpStepFmt fpStep at he
  exact writesLanes_of he hj hr rfl

/-- What a fold that sets every lane of register `d` leaves. -/
theorem setLanes_fold (m : SMap W64) (d : Nat) (f : Nat → W64) (N k : Nat) :
    SMap.get 0 ((List.range N).foldl (fun m l => SMap.set 0 m (d * 128 + l) (f l)) m) k =
      if d * 128 ≤ k ∧ k < d * 128 + N then f (k - d * 128) else SMap.get 0 m k := by
  induction N with
  | zero => simp only [List.range_zero, List.foldl_nil]; rw [if_neg (by omega)]
  | succ N ih =>
    rw [List.range_succ, List.foldl_append]
    simp only [List.foldl_cons, List.foldl_nil]
    rw [SMap.get_set, ih]
    by_cases hk : k = d * 128 + N
    · subst hk; rw [if_pos rfl, if_pos (by omega), Nat.add_sub_cancel_left]
    · rw [if_neg hk]
      by_cases hc : d * 128 ≤ k ∧ k < d * 128 + N
      · rw [if_pos hc, if_pos (by omega)]
      · rw [if_neg hc, if_neg (by omega)]

/-- What a compare leaves in the predicates. -/
theorem preds_fold (v : Vec) (w : W64) (d : Nat) (f : Nat → Bool × NumFlags) (N k : Nat) :
    SMap.get false ((List.range N).foldl (fun (x : SMap Bool × NumFlags) l =>
        if activeLane v w l then (SMap.set false x.1 (d * 128 + l) ((f l).1 && d != 0), x.2 ||| (f l).2) else x) (v.p, 0)).1 k =
      if d * 128 ≤ k ∧ k < d * 128 + N ∧ activeLane v w (k - d * 128) = true then ((f (k - d * 128)).1 && d != 0) else SMap.get false v.p k := by
  induction N with
  | zero => simp only [List.range_zero, List.foldl_nil]; rw [if_neg (by omega)]
  | succ N ih =>
    rw [List.range_succ, List.foldl_append]
    simp only [List.foldl_cons, List.foldl_nil]
    by_cases ha : activeLane v w N = true
    · rw [if_pos ha]
      dsimp only
      rw [SMap.get_set, ih]
      by_cases hk : k = d * 128 + N
      · subst hk; rw [if_pos rfl, if_pos ⟨by omega, by omega, by rw [Nat.add_sub_cancel_left]; exact ha⟩, Nat.add_sub_cancel_left]
      · rw [if_neg hk]
        by_cases hc : d * 128 ≤ k ∧ k < d * 128 + N ∧ activeLane v w (k - d * 128) = true
        · rw [if_pos hc, if_pos ⟨hc.1, by omega, hc.2.2⟩]
        · rw [if_neg hc, if_neg (fun h => hc ⟨h.1, by omega, h.2.2⟩)]
    · rw [if_neg ha, ih]
      by_cases hc : d * 128 ≤ k ∧ k < d * 128 + N ∧ activeLane v w (k - d * 128) = true
      · rw [if_pos hc, if_pos ⟨hc.1, by omega, hc.2.2⟩]
      · rw [if_neg hc, if_neg (fun h => hc ⟨h.1, ?_, h.2.2⟩)]
        by_cases hk : k = d * 128 + N
        · subst hk; rw [Nat.add_sub_cancel_left] at h; exact absurd h.2.2 ha
        · omega

end Sys2Proof.Machine
end

