-- ==== Sys2Proof/Laws/Compute.lean ====
section
/-! SUPPORT. What the shared operations of the sequencer, the arrays and the vector unit leave. -/

namespace Sys2Proof.Machine
open Sys2Proof.Safety

/-- The cores decide a core. -/
theorem core_of_cores (s t : State) (h : t.cores = s.cores) (m : Nat) : core t m = core s m := by unfold core; rw [h]

/-- The PC word decides the PC. -/
theorem pcOf_of_word (s t : State) (n c : Nat) (h : rd32 t (coreBase n 0 + 0x80 + 8 * c) = rd32 s (coreBase n 0 + 0x80 + 8 * c)) : pcOf t n c = pcOf s n c := by
  unfold pcOf rdBits; rw [h]

/-- A write of one word touches only it. -/
theorem onlyWords_wr32 (s : State) (a v : Nat) : OnlyWords [a] s (wr32 s a v) :=
  ⟨rfl, fun b h => rd32_wr32_ne _ _ _ _ (by simpa using h)⟩

/-- Two writes touch two words. -/
theorem onlyWords_wr32_wr32 (s : State) (a b v w : Nat) : OnlyWords [a, b] s (wr32 (wr32 s b w) a v) :=
  ⟨rfl, fun x h => by
    simp only [List.mem_cons, List.not_mem_nil, or_false, not_or] at h
    rw [rd32_wr32_ne _ _ _ _ h.1, rd32_wr32_ne _ _ _ _ h.2]⟩

/-- Two writes touch two words, in the other order. -/
theorem onlyWords_wr32_wr32' (s : State) (a b v w : Nat) : OnlyWords [a, b] s (wr32 (wr32 s a w) b v) :=
  ⟨rfl, fun x h => by
    simp only [List.mem_cons, List.not_mem_nil, or_false, not_or] at h
    rw [rd32_wr32_ne _ _ _ _ h.2, rd32_wr32_ne _ _ _ _ h.1]⟩

/-- Holding a context touches it and SEQ_STATUS. -/
theorem onlyCtx_holdCtx (s : State) (n c : Nat) (h : Hold) (b : Bool) : OnlyCtx n c [coreBase n 0 + 0x40] s (holdCtx s n c h b) := by
  unfold holdCtx setSeqStatus
  refine ⟨⟨rfl, ?_, ?_⟩, ?_, ?_⟩
  · intro m hm; rw [core_wr32]; unfold setCtx; rw [core_setCore, if_neg hm]
  · intro a ha; rw [rd32_wr32_ne _ _ _ _ (by simpa using ha)]; rfl
  · rw [core_wr32]; unfold setCtx; rw [core_setCore_self]
  · intro d hd; rw [ctxOf_wr32, ctxOf_setCtx, if_neg (fun h => hd h.2)]

/-- A semaphore has 16 bits. -/
theorem semOf_lt (s : State) (n i : Nat) : semOf s n i < 2 ^ 16 := by
  unfold semOf rdBits bits; exact Nat.mod_lt _ (by decide)

/-- VALUE has 32 bits. -/
theorem wsValue_lt (w : W128) : wsValue w < 2 ^ 32 := by unfold wsValue bits; exact Nat.mod_lt _ (by decide)

/-- A context issues only while the codec is on. -/
theorem canIssue_codecOn {s n c w op} (h : canIssue s n c w op = true) : codecOn s = true := by
  unfold canIssue ctxRuns at h; simp only [Bool.and_eq_true] at h; exact h.1.1.1.1.1.1

/-- A semaphore is not DMA_STATUS. -/
theorem semWord_ne_dmaStatus (n i : Nat) (h : i < 64) : coreBase n 0 + 0x100 + 4 * i ≠ coreBase n 6 + 0x40 := by unfold coreBase; omega

/-- The next PC leaves the cores. -/
theorem nextPc_core (s : State) (n c m : Nat) : core (nextPc s n c) m = core s m := by unfold core; rw [nextPc_cores]

/-- Flags leave the arrays. -/
theorem noteFlags_core_arr (s : State) (n c : Nat) (v : Bool) (f m : Nat) : (core (noteFlags s n c v f) m).arr = (core s m).arr := by rw [noteFlags_core]

/-- Slots alone change. -/
theorem setSlots_core_arr (s : State) (n : Nat) (l : List CSlot) : (core (setSlots s n l) n).arr = { (core s n).arr with slots := l } := by
  unfold setSlots wrBits; rw [core_wr32, core_setCore_self]

/-- Slots leave memory. -/
theorem setSlots_mem (s : State) (n : Nat) (l : List CSlot) : (setSlots s n l).mem = s.mem := by unfold setSlots; simp

/-- The registers decide a lane. -/
theorem lane_of_v (u v : Vec) (h : u.v = v.v) (r l : Nat) : lane u r l = lane v r l := by unfold lane; rw [h]

/-- The predicates decide a lane's predicate. -/
theorem pred_of_p (u v : Vec) (h : u.p = v.p) (r l : Nat) : pred u r l = pred v r l := by unfold pred; rw [h]

/-- The cores decide a context. -/
theorem ctxOf_of_cores (s t : State) (h : t.cores = s.cores) (n c : Nat) : ctxOf t n c = ctxOf s n c := by unfold ctxOf; rw [core_of_cores s t h]

end Sys2Proof.Machine
end

