-- ==== Sys2Proof/Laws/Device.lean ====
section
/-! SUPPORT. What the shared operations of events, firmware, repair, the shutter, the control space and the CRC leave. -/

namespace Sys2Proof.Machine
open Sys2Proof.Safety

/-- The state of an update reads as it was set. -/
theorem fwState_setFwState (s : State) (v : Nat) (h : v < 8) : fwState (setFwState s v 0) = v := by
  show bits (rd32 (wr32 s (mgtBase + 0x550) (v + 0 * 2 ^ 16)) (mgtBase + 0x550)) 0 3 = v
  rw [rd32_wr32_self]; unfold bits; simp; omega

/-- Flash leaves the state of an update. -/
theorem fwState_setFlash (s : State) (f : Flash) : fwState (s.setFlash f) = fwState s := rfl

/-- A bit set to 0 reads 0. -/
theorem bit_setBits_zero (x i : Nat) (h : i < 32) : bit (setBits x i 1 0 % 2 ^ 32) i = false := by
  unfold bit setBits bits; rw [Nat.shiftRight_eq_div_pow]
  rw [Nat.testBit_mod_two_pow]
  simp only [h, decide_true, Bool.true_and]
  have : x - x / 2 ^ i % 2 ^ 1 * 2 ^ i + 0 % 2 ^ 1 * 2 ^ i = 2 ^ i * (2 * (x / 2 ^ i / 2)) + x % 2 ^ i := by
    have h1 := Nat.div_add_mod x (2 ^ i)
    have h2 := Nat.div_add_mod (x / 2 ^ i) 2
    generalize x / 2 ^ i = y at *
    have h3 : x = 2 ^ i * (2 * (y / 2) + y % 2) + x % 2 ^ i := by rw [h2]; exact h1.symm
    rw [Nat.mul_add] at h3
    have h4 : y % 2 ^ 1 * 2 ^ i = 2 ^ i * (y % 2) := by rw [Nat.mul_comm, Nat.pow_one]
    omega
  rw [this, Nat.testBit_two_pow_mul_add _ (Nat.mod_lt _ (Nat.two_pow_pos i))]
  simp

/-- Showing the links leaves memory. -/
theorem showLinks_mem (s : State) : (showLinks s).mem = s.mem := by
  unfold showLinks
  have : ∀ (l : List Nat) (s : State), (l.foldl showLink s).mem = s.mem := by
    intro l
    induction l with
    | nil => intro s; rfl
    | cons k l ih =>
      intro s
      rw [List.foldl_cons, ih]
      unfold showLink
      dsimp only
      split <;> simp
  exact this _ _

/-- A read-to-clear read of a block that is not held clears the mask's bits of its word. -/
theorem rd32_clearRC (s : State) (a d : Nat) (r : RegRow) (h : rowAt a = some (r, d)) (hb : heldBlock s a = false) (x : Nat) :
    rd32 (clearRC s a) x = if x = a then rd32 s a &&& (maskWord r.rc d ^^^ (2 ^ 32 - 1)) else rd32 s x := by
  unfold clearRC
  rw [h]
  dsimp only
  rw [if_neg (by simp [hb])]
  by_cases hm : maskWord r.rc d = 0
  · rw [if_pos hm]
    split
    · rename_i e; subst e; rw [hm, Nat.zero_xor, Nat.and_two_pow_sub_one_eq_mod, Nat.mod_eq_of_lt (rd32_lt _ _)]
    · rfl
  · rw [if_neg hm, rd32_wr32]
    split
    · rw [Nat.mod_eq_of_lt (Nat.lt_of_le_of_lt Nat.and_le_left (rd32_lt _ _))]
    · rfl

/-- A read-to-clear read of a gated or retired core's block changes nothing. -/
theorem clearRC_of_held (s : State) (a : Nat) (hb : heldBlock s a = true) : clearRC s a = s := by
  unfold clearRC
  split
  · rfl
  · rw [if_pos hb]

/-- A latch is no control word. -/
theorem rd32_setLatch (s : State) (q a : Nat) x (b : Nat) : rd32 (setLatch s q a x) b = rd32 s b := rfl

/-- One CRC bit, with the message bit on top. -/
theorem crcBit_xor (x z : BitVec 32) : crcBit (x ^^^ z) = (if x.getLsbD 0 ^^ z.getLsbD 0 then (x >>> 1) ^^^ 0x82F63B78#32 else x >>> 1) ^^^ (z >>> 1) := by
  unfold crcBit
  rw [BitVec.getLsbD_xor, BitVec.ushiftRight_xor_distrib]
  split
  · rw [BitVec.xor_assoc, BitVec.xor_comm (z >>> 1), ← BitVec.xor_assoc]
  · rfl

/-- One CRC byte is eight bits, least significant first. -/
theorem crcByte_eq_bits (x : BitVec 32) (b : Byte) : crcByte x b = (List.range 8).foldl (fun (x : BitVec 32) i =>
      if x.getLsbD 0 ^^ b.getLsbD i then (x >>> 1) ^^^ 0x82F63B78#32 else x >>> 1) x := by
  have hz : ∀ k, k < 8 → ((b.setWidth 32) >>> k).getLsbD 0 = b.getLsbD k := by
    intro k hk
    rw [BitVec.getLsbD_ushiftRight, BitVec.getLsbD_setWidth, Nat.add_zero]
    simp; intro; omega
  obtain ⟨S, hS⟩ : ∃ S : BitVec 32 → Nat → BitVec 32, S = fun (x : BitVec 32) i => if x.getLsbD 0 ^^ b.getLsbD i then (x >>> 1) ^^^ 0x82F63B78#32 else x >>> 1 := ⟨_, rfl⟩
  rw [← hS]
  have e : ∀ (x : BitVec 32) (k : Nat), k < 8 → crcBit (x ^^^ (b.setWidth 32) >>> k) = S x k ^^^ (b.setWidth 32) >>> (k + 1) := by
    intro x k hk
    rw [crcBit_xor, hz k hk, hS, BitVec.shiftRight_add]
  have h8 : (b.setWidth 32) >>> 8 = 0#32 := by
    apply BitVec.eq_of_getLsbD_eq
    intro i _
    rw [BitVec.getLsbD_ushiftRight, BitVec.getLsbD_setWidth]
    simp
  have h0 : crcByte x b = crcBit (crcBit (crcBit (crcBit (crcBit (crcBit (crcBit (crcBit (x ^^^ (b.setWidth 32) >>> 0)))))))) := by
    unfold crcByte; rw [BitVec.ushiftRight_zero]
  rw [h0, e _ 0 (by omega), e _ 1 (by omega), e _ 2 (by omega), e _ 3 (by omega), e _ 4 (by omega), e _ 5 (by omega), e _ 6 (by omega), e _ 7 (by omega), h8, BitVec.xor_zero]
  simp only [show List.range 8 = [0, 1, 2, 3, 4, 5, 6, 7] from rfl, List.foldl_cons, List.foldl_nil]

/-- Four bytes of a word, most significant first. -/
theorem beBytes_four (c : BitVec 32) : beBytes 4 c.toNat = [c.extractLsb' 24 8, c.extractLsb' 16 8, c.extractLsb' 8 8, c.extractLsb' 0 8] := by
  have h : ∀ k, BitVec.ofNat 8 (c.toNat / 2 ^ k) = c.extractLsb' k 8 := by
    intro k; apply BitVec.eq_of_toNat_eq; simp [Nat.shiftRight_eq_div_pow]
  rw [← h 24, ← h 16, ← h 8, ← h 0]
  simp [beBytes, leBytes, Nat.div_div_eq_div_mul]

/-- Four bytes are those of the word that they spell. -/
theorem bytes_of_beNat (l : List Byte) (hl : l.length = 4) (c : BitVec 32) (h : beNat l = c.toNat) :
    l = [c.extractLsb' 24 8, c.extractLsb' 16 8, c.extractLsb' 8 8, c.extractLsb' 0 8] := by
  rw [← beBytes_four, ← h]
  match l, hl with
  | [a, b, x, d], _ =>
    have ha := a.isLt; have hb := b.isLt; have hx := x.isLt; have hd := d.isLt
    have e : beNat [a, b, x, d] = ((a.toNat * 256 + b.toNat) * 256 + x.toNat) * 256 + d.toNat := by simp [beNat]
    rw [e]
    simp only [beBytes, leBytes, List.reverse_cons, List.reverse_nil, List.nil_append, List.cons_append, List.cons.injEq, and_true]
    refine ⟨?_, ?_, ?_, ?_⟩ <;> (apply BitVec.eq_of_toNat_eq; rw [BitVec.toNat_ofNat]; omega)

/-- FLUSHING is set. -/
theorem startFlush_flushing (s : State) : bit (rd32 (startFlush s) (lfcBase + 0x40)) 0 = true := by
  unfold startFlush; rw [rd32_wrBits, if_pos rfl]; unfold bit setBits bits; simp; omega

end Sys2Proof.Machine
end

