-- ==== Sys2Proof/Laws/Kept.lean ====
section
/-! SUPPORT. What no meaning disturbs, said once: a relation between a state and one that a meaning reached from it, with the rules
that carry it through lets, branches, folds and the setters. The files beside this one carry it through every function of the
model. -/

namespace Sys2Proof.Machine

/-- A journal entry without its STATE. -/
def JEntry.fixed (e : JEntry) : JEntry := { e with applied := false }

theorem map_modify_fixed (l : List JEntry) (i : Nat) : (updNth l i (fun e => { e with applied := true })).map JEntry.fixed = l.map JEntry.fixed := by
  unfold updNth
  induction l generalizing i with
  | nil => simp
  | cons x l ih =>
    cases i with
    | zero => simp [JEntry.fixed]
    | succ i => simpa using ih i

/-- From `s0` to `s`: the queue is the same, memory keeps its canonical form, the repair journal only grows, the minimum versions
never fall, the IV prefix counter stays within what flash has reserved, which never shrinks, no free value is used twice, and what
has left the device stays in the record of it. -/
structure Kept (s0 s : State) : Prop where
  pending : s.pending = s0.pending
  mem : s0.mem.wf = true → s.mem.wf = true
  journal : s0.flash.journal.map JEntry.fixed <+: s.flash.journal.map JEntry.fixed
  imgMin : imgMinSvn s0 ≤ imgMinSvn s
  fwMin : fwMinSvn s0 ≤ fwMinSvn s
  prefixes : s0.flash.prefixEnd ≤ s.flash.prefixEnd
  next : s0.drk.next ≤ s0.flash.prefixEnd → s.drk.next ≤ s.flash.prefixEnd
  free : s0.freeIdx ≤ s.freeIdx
  out : s0.out <:+ s.out

theorem Kept.refl (s : State) : Kept s s := ⟨rfl, id, List.prefix_rfl, Nat.le_refl _, Nat.le_refl _, Nat.le_refl _, id, Nat.le_refl _, List.suffix_rfl⟩

theorem Kept.trans {a b c : State} (h : Kept a b) (k : Kept b c) : Kept a c :=
  ⟨k.pending.trans h.pending, fun x => k.mem (h.mem x), h.journal.trans k.journal, Nat.le_trans h.imgMin k.imgMin,
   Nat.le_trans h.fwMin k.fwMin, Nat.le_trans h.prefixes k.prefixes, fun x => k.next (h.next x), Nat.le_trans h.free k.free, h.out.trans k.out⟩

/-- A command's outcome. -/
def KeptOut (s0 : State) (o : Out) : Prop := ∀ t, o = .next t → Kept s0 t

/-! ### Rules -/

theorem kept_letS {s0 e : State} {b : State → State} (h1 : Kept s0 e) (h2 : ∀ t, Kept s0 t → Kept s0 (b t)) : Kept s0 (have t := e; b t) := h2 e h1
theorem kept_let {s0 : State} {α : Sort _} {e : α} {b : α → State} (h : ∀ t, Kept s0 (b t)) : Kept s0 (have t := e; b t) := h e
theorem kept_zeta {s0 : State} {α : Sort _} {e : α} {b : α → State} (h : Kept s0 (b e)) : Kept s0 (have t := e; b t) := h
theorem keptOut_zeta {s0 : State} {α : Sort _} {e : α} {b : α → Out} (h : KeptOut s0 (b e)) : KeptOut s0 (have t := e; b t) := h
theorem kept_ite {s0 : State} {c : Prop} [Decidable c] {a b : State} (h1 : Kept s0 a) (h2 : Kept s0 b) : Kept s0 (if c then a else b) := by
  split <;> assumption
theorem kept_foldl {s0 : State} {α : Type _} {f : State → α → State} {l : List α} {s : State} (h : ∀ s x, Kept s0 s → Kept s0 (f s x)) (hs : Kept s0 s) :
    Kept s0 (l.foldl f s) := by
  induction l generalizing s with
  | nil => exact hs
  | cons x l ih => exact ih (h s x hs)
theorem kept_out {s0 s : State} (h : Kept s0 s) : KeptOut s0 (.next s) := fun _ e => by cases e; exact h
theorem keptOut_letS {s0 e : State} {b : State → Out} (h1 : Kept s0 e) (h2 : ∀ t, Kept s0 t → KeptOut s0 (b t)) : KeptOut s0 (have t := e; b t) := h2 e h1
theorem keptOut_let {s0 : State} {α : Sort _} {e : α} {b : α → Out} (h : ∀ t, KeptOut s0 (b t)) : KeptOut s0 (have t := e; b t) := h e
theorem keptOut_ite {s0 : State} {c : Prop} [Decidable c] {a b : Out} (h1 : KeptOut s0 a) (h2 : KeptOut s0 b) : KeptOut s0 (if c then a else b) := by
  split <;> assumption

/-- The state inside a result that may fail. -/
def KeptE {ε α : Type} (f : α → State) (s0 : State) (x : Except ε α) : Prop := ∀ t, x = .ok t → Kept s0 (f t)
def KeptOpt {α : Type} (f : α → State) (s0 : State) (x : Option α) : Prop := ∀ t, x = some t → Kept s0 (f t)

section
variable {ε α : Type} {f : α → State} {s0 : State}
theorem keptE_ok {a : α} (h : Kept s0 (f a)) : KeptE (ε := ε) f s0 (.ok a) := fun _ e => by cases e; exact h
theorem keptE_pure {a : α} (h : Kept s0 (f a)) : KeptE (ε := ε) f s0 (pure a) := fun _ e => by cases e; exact h
theorem keptE_error {e : ε} : KeptE f s0 (.error e) := fun _ e => by cases e
theorem keptE_throw {e : ε} : KeptE f s0 (throw e : Except ε α) := fun _ e => by cases e
theorem keptE_bind {β : Type} {x : Except ε β} {g : β → Except ε α} (h : ∀ b, x = .ok b → KeptE f s0 (g b)) : KeptE f s0 (x >>= g) := by
  intro t e
  cases x with
  | error => cases e
  | ok b => exact h b rfl t e
theorem keptE_foldlM {β : Type} {g : α → β → Except ε α} {l : List β} {a : α} (h : ∀ a x, Kept s0 (f a) → KeptE f s0 (g a x)) (ha : Kept s0 (f a)) :
    KeptE f s0 (l.foldlM g a) := by
  induction l generalizing a with
  | nil => exact keptE_pure ha
  | cons x l ih =>
    intro t e
    rw [List.foldlM_cons] at e
    cases hx : g a x with
    | error err => rw [hx] at e; cases e
    | ok b => rw [hx] at e; exact ih (h a x ha b hx) t e
theorem keptE_mapError {δ : Type} {g : ε → δ} {x : Except ε α} (h : KeptE f s0 x) : KeptE f s0 (x.mapError g) := by
  intro t e
  cases x with
  | error => cases e
  | ok b => cases e; exact h _ rfl
theorem kept_pr_foldl {β : Type} {g : α → β → α} {l : List β} {a : α} (h : ∀ a x, Kept s0 (f a) → Kept s0 (f (g a x))) (ha : Kept s0 (f a)) :
    Kept s0 (f (l.foldl g a)) := by
  induction l generalizing a with
  | nil => exact ha
  | cons x l ih => exact ih (h a x ha)
theorem keptE_letS {e : State} {b : State → Except ε α} (h1 : Kept s0 e) (h2 : ∀ t, Kept s0 t → KeptE f s0 (b t)) : KeptE f s0 (have t := e; b t) := h2 e h1
theorem keptE_let {γ : Sort _} {e : γ} {b : γ → Except ε α} (h : ∀ t, KeptE f s0 (b t)) : KeptE f s0 (have t := e; b t) := h e
theorem keptE_ite {c : Prop} [Decidable c] {a b : Except ε α} (h1 : KeptE f s0 a) (h2 : KeptE f s0 b) : KeptE f s0 (if c then a else b) := by
  split <;> assumption
theorem keptOpt_some {a : α} (h : Kept s0 (f a)) : KeptOpt f s0 (some a) := fun _ e => by cases e; exact h
theorem keptOpt_none : KeptOpt f s0 none := fun _ e => by cases e
theorem keptOpt_letS {e : State} {b : State → Option α} (h1 : Kept s0 e) (h2 : ∀ t, Kept s0 t → KeptOpt f s0 (b t)) : KeptOpt f s0 (have t := e; b t) := h2 e h1
theorem keptOpt_let {γ : Sort _} {e : γ} {b : γ → Option α} (h : ∀ t, KeptOpt f s0 (b t)) : KeptOpt f s0 (have t := e; b t) := h e
theorem keptOpt_ite {c : Prop} [Decidable c] {a b : Option α} (h1 : KeptOpt f s0 a) (h2 : KeptOpt f s0 b) : KeptOpt f s0 (if c then a else b) := by
  split <;> assumption
/-- The state inside a pair. -/
theorem kept_pr_letS {e : State} {b : State → α} (h1 : Kept s0 e) (h2 : ∀ t, Kept s0 t → Kept s0 (f (b t))) : Kept s0 (f (have t := e; b t)) := h2 e h1
theorem kept_pr_let {γ : Sort _} {e : γ} {b : γ → α} (h : ∀ t, Kept s0 (f (b t))) : Kept s0 (f (have t := e; b t)) := h e
theorem kept_pr_ite {c : Prop} [Decidable c] {a b : α} (h1 : Kept s0 (f a)) (h2 : Kept s0 (f b)) : Kept s0 (f (if c then a else b)) := by
  split <;> assumption
theorem kept_pr_eq {x y : α} (h : Kept s0 (f x)) (e : x = y) : Kept s0 (f y) := e ▸ h
theorem kept_fst {γ : Type} {s : State} {a : γ} (h : Kept s0 s) : Kept s0 (s, a).1 := h
theorem kept_snd {γ : Type} {s : State} {a : γ} (h : Kept s0 s) : Kept s0 (a, s).2 := h
theorem kept_snd_snd {γ δ : Type} {s : State} {a : γ} {b : δ} (h : Kept s0 s) : Kept s0 (a, b, s).2.2 := h
/-- From an equation that a match leaves. -/
theorem kept_fst_eq {γ : Type} {x : State × γ} {s : State} {a : γ} (e : x = (s, a)) (h : Kept s0 x.1) : Kept s0 s := by subst e; exact h
theorem kept_snd_eq {γ : Type} {x : γ × State} {s : State} {a : γ} (e : x = (a, s)) (h : Kept s0 x.2) : Kept s0 s := by subst e; exact h
theorem kept_snd_snd_eq {γ δ : Type} {x : γ × δ × State} {s : State} {a : γ} {b : δ} (e : x = (a, b, s)) (h : Kept s0 x.2.2) : Kept s0 s := by
  subst e; exact h
theorem keptE_zeta {γ : Sort _} {e : γ} {b : γ → Except ε α} (h : KeptE f s0 (b e)) : KeptE f s0 (have t := e; b t) := h
theorem keptOpt_zeta {γ : Sort _} {e : γ} {b : γ → Option α} (h : KeptOpt f s0 (b e)) : KeptOpt f s0 (have t := e; b t) := h
theorem kept_pr_zeta {γ : Sort _} {e : γ} {b : γ → α} (h : Kept s0 (f (b e))) : Kept s0 (f (have t := e; b t)) := h
theorem keptE_get {x : Except ε α} {a : α} (e : x = .ok a) (h : KeptE f s0 x) : Kept s0 (f a) := h a e
theorem keptOpt_get {x : Option α} {a : α} (e : x = some a) (h : KeptOpt f s0 x) : Kept s0 (f a) := h a e
end

/-! ### Memory's parts keep the canonical form -/

theorem Memory.wf_iff (m : Memory) : m.wf = true ↔
    (SMap.wf 0 m.hbm = true ∧ SMap.wf 0 m.store = true ∧ SMap.wf false m.badWord = true ∧ SMap.wf false m.badSector = true ∧ SMap.wf 0 m.blk = true) := by
  simp only [Memory.wf, Bool.and_eq_true, and_assoc]

theorem SMap.wf_fold {β : Type} {α : Type} [DecidableEq β] {d : β} {f : SMap β → α → SMap β} (hf : ∀ m x, SMap.wf d m = true → SMap.wf d (f m x) = true)
    (l : List α) {m : SMap β} (h : SMap.wf d m = true) : SMap.wf d (l.foldl f m) = true := by
  induction l generalizing m with
  | nil => exact h
  | cons x l ih => exact ih (hf m x h)

theorem Memory.wf_fold {α : Type} {f : Memory → α → Memory} (hf : ∀ m x, m.wf = true → (f m x).wf = true) (l : List α) {m : Memory} (h : m.wf = true) :
    (l.foldl f m).wf = true := by
  induction l generalizing m with
  | nil => exact h
  | cons x l ih => exact ih (hf m x h)

theorem Memory.wf_store {m : Memory} {q : SMap Byte} (hq : SMap.wf 0 q = true) (h : m.wf = true) : Memory.wf { m with store := q } = true := by
  rw [Memory.wf_iff] at h ⊢
  exact ⟨h.1, hq, h.2.2⟩
theorem Memory.wf_layStore {m : Memory} (a : Nat) (bs : List Byte) (h : m.wf = true) : (layStore m a bs).wf = true :=
  Memory.wf_store (SMap.wf_setAll _ _ ((Memory.wf_iff m).1 h).2.1) h
theorem Memory.wf_putStore {m : Memory} (k : Nat) (b : Byte) (h : m.wf = true) : (m.putStore k b).wf = true := by
  rw [Memory.wf_iff] at h ⊢
  exact ⟨h.1, SMap.wf_set _ _ h.2.1, (SMap.wf_set (k / 8) false h.2.2.1 : SMap.wf false (SMap.set false m.badWord (k / 8) false) = true), h.2.2.2⟩
theorem Memory.wf_putHbm {m : Memory} (k : Nat) (b : Byte) (h : m.wf = true) : (m.putHbm k b).wf = true := by
  rw [Memory.wf_iff] at h ⊢
  exact ⟨SMap.wf_set _ _ h.1, h.2.1, h.2.2.1, (SMap.wf_set (k / 32) false h.2.2.2.1 : SMap.wf false (SMap.set false m.badSector (k / 32) false) = true), h.2.2.2.2⟩
theorem Memory.wf_keyWrite {m : Memory} (k : Nat) (bs : List Byte) (h : m.wf = true) : (keyWrite m k bs).wf = true := by
  induction bs generalizing m k with
  | nil => exact h
  | cons b bs ih =>
    refine ih _ ?_
    split
    · exact h
    · exact Memory.wf_putStore _ _ h
theorem Memory.wf_clearStore {m : Memory} (a n : Nat) (h : m.wf = true) : (clearStore m a n).wf = true := by
  rw [Memory.wf_iff] at h ⊢
  exact ⟨h.1, SMap.wf_drop _ h.2.1, SMap.wf_drop _ h.2.2.1, h.2.2.2⟩
theorem Memory.wf_clearPages {m : Memory} (es : List Nat) (h : m.wf = true) : (clearPages m es).wf = true := by
  refine Memory.wf_fold (fun m x h => ?_) _ h
  rw [Memory.wf_iff] at h ⊢
  exact ⟨SMap.wf_drop _ h.1, h.2.1, h.2.2.1, SMap.wf_drop _ h.2.2.2.1, SMap.wf_drop _ h.2.2.2.2⟩

/-! ### Setters -/

variable {s0 s : State}

theorem kept_setCtl (c : SMap W32) (h : Kept s0 s) : Kept s0 (s.setCtl c) := ⟨h.1, h.2, h.3, h.4, h.5, h.6, h.7, h.8, h.9⟩
theorem kept_setPow (c : Power) (h : Kept s0 s) : Kept s0 (s.setPow c) := ⟨h.1, h.2, h.3, h.4, h.5, h.6, h.7, h.8, h.9⟩
theorem kept_setCores (c : SMap Core) (h : Kept s0 s) : Kept s0 (s.setCores c) := ⟨h.1, h.2, h.3, h.4, h.5, h.6, h.7, h.8, h.9⟩
theorem kept_setImg (c : Image) (h : Kept s0 s) : Kept s0 (s.setImg c) := ⟨h.1, h.2, h.3, h.4, h.5, h.6, h.7, h.8, h.9⟩
theorem kept_setLd (c : Loader) (h : Kept s0 s) : Kept s0 (s.setLd c) := ⟨h.1, h.2, h.3, h.4, h.5, h.6, h.7, h.8, h.9⟩
theorem kept_setEth (c : Eth) (h : Kept s0 s) : Kept s0 (s.setEth c) := ⟨h.1, h.2, h.3, h.4, h.5, h.6, h.7, h.8, h.9⟩
theorem kept_setFab (c : Fabric) (h : Kept s0 s) : Kept s0 (s.setFab c) := ⟨h.1, h.2, h.3, h.4, h.5, h.6, h.7, h.8, h.9⟩
theorem kept_setMgt (c : Mgt) (h : Kept s0 s) : Kept s0 (s.setMgt c) := ⟨h.1, h.2, h.3, h.4, h.5, h.6, h.7, h.8, h.9⟩
theorem kept_setSht (c : Shutter) (h : Kept s0 s) : Kept s0 (s.setSht c) := ⟨h.1, h.2, h.3, h.4, h.5, h.6, h.7, h.8, h.9⟩
theorem kept_setDom (c : SMap Nat) (h : Kept s0 s) : Kept s0 (s.setDom c) := ⟨h.1, h.2, h.3, h.4, h.5, h.6, h.7, h.8, h.9⟩
theorem kept_setRep (c : Repairs) (h : Kept s0 s) : Kept s0 (s.setRep c) := ⟨h.1, h.2, h.3, h.4, h.5, h.6, h.7, h.8, h.9⟩
theorem kept_setStr (c : Streams) (h : Kept s0 s) : Kept s0 (s.setStr c) := ⟨h.1, h.2, h.3, h.4, h.5, h.6, h.7, h.8, h.9⟩
theorem kept_emit (m : OutMsg) (h : Kept s0 s) : Kept s0 (s.emit m) :=
  ⟨h.1, h.2, h.3, h.4, h.5, h.6, h.7, h.8, h.9.trans (List.suffix_cons m _)⟩
theorem kept_setMem {m : Memory} (h : Kept s0 s) (hm : s.mem.wf = true → m.wf = true) : Kept s0 (s.setMem m) :=
  ⟨h.1, fun x => hm (h.2 x), h.3, h.4, h.5, h.6, h.7, h.8, h.9⟩
theorem kept_setDrk {c : Darkroom} (h : Kept s0 s) (hn : c.next = s.drk.next) : Kept s0 (s.setDrk c) :=
  ⟨h.1, h.2, h.3, h.4, h.5, h.6, fun x => Nat.le_trans (Nat.le_of_eq hn) (h.7 x), h.8, h.9⟩
theorem kept_setFlash {c : Flash} (h : Kept s0 s) (hj : c.journal = s.flash.journal) (hm : c.ownMin = s.flash.ownMin)
    (hp : c.prefixEnd = s.flash.prefixEnd) : Kept s0 (s.setFlash c) := by
  refine ⟨h.1, h.2, ?_, ?_, ?_, ?_, ?_, h.8, h.9⟩
  · show _ <+: c.journal.map _; rw [hj]; exact h.3
  · show _ ≤ (if owned s then _ else c.ownMin.1); rw [hm]; exact h.4
  · show _ ≤ (if owned s then _ else c.ownMin.2); rw [hm]; exact h.5
  · show _ ≤ c.prefixEnd; rw [hp]; exact h.6
  · show _ → _ ≤ c.prefixEnd; rw [hp]; exact h.7
theorem kept_badWord (k : Nat) (v : Bool) (h : Kept s0 s) : Kept s0 (s.setMem { s.mem with badWord := SMap.set false s.mem.badWord k v }) :=
  kept_setMem h (fun hm => by rw [Memory.wf_iff] at hm ⊢; exact ⟨hm.1, hm.2.1, SMap.wf_set _ _ hm.2.2.1, hm.2.2.2.1, hm.2.2.2.2⟩)
theorem kept_badSector (k : Nat) (v : Bool) (h : Kept s0 s) : Kept s0 (s.setMem { s.mem with badSector := SMap.set false s.mem.badSector k v }) :=
  kept_setMem h (fun hm => by rw [Memory.wf_iff] at hm ⊢; exact ⟨hm.1, hm.2.1, hm.2.2.1, SMap.wf_set _ _ hm.2.2.2.1, hm.2.2.2.2⟩)
theorem kept_blk (k v : Nat) (h : Kept s0 s) : Kept s0 (s.setMem { s.mem with blk := SMap.set 0 s.mem.blk k v }) :=
  kept_setMem h (fun hm => by rw [Memory.wf_iff] at hm ⊢; exact ⟨hm.1, hm.2.1, hm.2.2.1, hm.2.2.2.1, SMap.wf_set _ _ hm.2.2.2.2⟩)
theorem kept_noStore (h : Kept s0 s) : Kept s0 (s.setMem { s.mem with store := [], badWord := [] }) :=
  kept_setMem h (fun hm => by rw [Memory.wf_iff] at hm ⊢; exact ⟨hm.1, rfl, rfl, hm.2.2.2.1, hm.2.2.2.2⟩)
theorem kept_rawFree {k : Nat} (h : Kept s0 s) (hk : s.freeIdx ≤ k) : Kept s0 { s with freeIdx := k } :=
  ⟨h.1, h.2, h.3, h.4, h.5, h.6, h.7, Nat.le_trans h.8 hk, h.9⟩
theorem kept_rawLatch (k : SMap (Nat × Nat × Nat)) (h : Kept s0 s) : Kept s0 { s with latch := k } := ⟨h.1, h.2, h.3, h.4, h.5, h.6, h.7, h.8, h.9⟩
theorem kept_rawPow (c : SMap W32) (p : Power) (h : Kept s0 s) : Kept s0 { s with ctl := c, pow := p } := ⟨h.1, h.2, h.3, h.4, h.5, h.6, h.7, h.8, h.9⟩
theorem kept_openPrefix {c : Darkroom} (h : Kept s0 s) (hn : c.next = s.flash.prefixEnd) : Kept s0 (s.setDrk c) :=
  ⟨h.1, h.2, h.3, h.4, h.5, h.6, fun _ => Nat.le_of_eq hn, h.8, h.9⟩
theorem keptOut_get {o : Out} {t : State} (e : o = .next t) (h : KeptOut s0 o) : Kept s0 t := h t e
/-- A new owner record (or none) with what flash keeps beside it. -/
theorem kept_owner {c : Flash} {o : List Byte} (h : Kept s0 s) (hj : c.journal = s.flash.journal) (hp : c.prefixEnd = s.flash.prefixEnd)
    (hi : imgMinSvn s ≤ if o ≠ [] then leAt o 16 4 else c.ownMin.1) (hf : fwMinSvn s ≤ if o ≠ [] then leAt o 20 4 else c.ownMin.2) :
    Kept s0 { s.setFlash c with owner := o } := by
  refine ⟨h.1, h.2, ?_, Nat.le_trans h.4 ?_, Nat.le_trans h.5 ?_, ?_, ?_, h.8, h.9⟩
  · show _ <+: c.journal.map _; rw [hj]; exact h.3
  · simpa [imgMinSvn, owned, State.setFlash] using hi
  · simpa [fwMinSvn, owned, State.setFlash] using hf
  · show _ ≤ c.prefixEnd; rw [hp]; exact h.6
  · show _ → _ ≤ c.prefixEnd; rw [hp]; exact h.7
theorem kept_fresh (h : Kept s0 s) : Kept s0 s.fresh.2 := ⟨h.1, h.2, h.3, h.4, h.5, h.6, h.7, Nat.le_succ_of_le h.8, h.9⟩

end Sys2Proof.Machine
end

