-- ==== Sys2Proof/Laws/KeptBase.lean ====
section
/-! SUPPORT. `Kept` through the shared operations, rings, tasks and channels: one lemma per function. -/

namespace Sys2Proof.Machine

/-! ### Machine/Ops.lean -/

theorem kept_wr32 {s0 : State} (s : State) (a1 : Nat) (a2 : Nat)  (h0 : Kept s0 s) : Kept s0 (wr32 s a1 a2) := by
  unfold wr32
  exact (kept_setCtl _ h0)

theorem kept_wr64 {s0 : State} (s : State) (a1 : Nat) (a2 : Nat)  (h0 : Kept s0 s) : Kept s0 (wr64 s a1 a2) := by
  unfold wr64
  exact (kept_wr32 _ _ _ (kept_wr32 _ _ _ h0))

theorem kept_wrBits {s0 : State} (s : State) (a1 : Nat) (a2 : Nat) (a3 : Nat) (a4 : Nat)  (h0 : Kept s0 s) : Kept s0 (wrBits s a1 a2 a3 a4) := by
  unfold wrBits
  exact (kept_wr32 _ _ _ h0)

theorem kept_count64 {s0 : State} (s : State) (a1 : Nat) (a2 : Nat)  (h0 : Kept s0 s) : Kept s0 (count64 s a1 a2) := by
  unfold count64
  exact (kept_wr64 _ _ _ h0)

theorem kept_satCount64 {s0 : State} (s : State) (a1 : Nat) (a2 : Nat)  (h0 : Kept s0 s) : Kept s0 (satCount64 s a1 a2) := by
  unfold satCount64
  exact (kept_wr64 _ _ _ h0)

theorem kept_orWord {s0 : State} (s : State) (a1 : Nat) (a2 : Nat)  (h0 : Kept s0 s) : Kept s0 (orWord s a1 a2) := by
  unfold orWord
  exact (kept_wr32 _ _ _ h0)

theorem kept_sticky {s0 : State} (s : State) (a1 : Nat) (a2 : Nat)  (h0 : Kept s0 s) : Kept s0 (sticky s a1 a2) := by
  unfold sticky
  exact (kept_orWord _ _ _ h0)

theorem kept_raise {s0 : State} (s : State) (a1 : Nat) (a2 : Nat)  (h0 : Kept s0 s) : Kept s0 (raise s a1 a2) := by
  unfold raise
  exact (kept_wr32 _ _ _ h0)

theorem kept_raiseBy {s0 : State} (s : State) (a1 : Nat)  (h0 : Kept s0 s) : Kept s0 (raiseBy s a1) := by
  unfold raiseBy
  exact (by
      split
      · rename_i x0 x1 e2
        exact (kept_raise _ _ _ h0)
      · rename_i x3 e4
        exact h0)

theorem kept_setCore {s0 : State} (s : State) (a1 : Nat) (a2 : Core)  (h0 : Kept s0 s) : Kept s0 (setCore s a1 a2) := by
  unfold setCore
  exact (kept_setCores _ h0)

theorem kept_setCtx {s0 : State} (s : State) (a1 : Nat) (a2 : Nat) (a3 : Ctx)  (h0 : Kept s0 s) : Kept s0 (setCtx s a1 a2 a3) := by
  unfold setCtx
  exact (kept_setCore _ _ _ h0)

theorem kept_updTask {s0 : State} (s : State) (a1 : Nat) (a2 : Nat) (a3 : Task → Task)  (h0 : Kept s0 s) : Kept s0 (updTask s a1 a2 a3) := by
  unfold updTask
  exact (kept_setCtx _ _ _ _ h0)

theorem kept_setPc {s0 : State} (s : State) (a1 : Nat) (a2 : Nat) (a3 : Nat)  (h0 : Kept s0 s) : Kept s0 (setPc s a1 a2 a3) := by
  unfold setPc
  exact (kept_wr32 _ _ _ h0)

theorem kept_setSem {s0 : State} (s : State) (a1 : Nat) (a2 : Nat) (a3 : Nat)  (h0 : Kept s0 s) : Kept s0 (setSem s a1 a2 a3) := by
  unfold setSem
  exact (kept_wr32 _ _ _ h0)

theorem kept_setSeqStatus {s0 : State} (s : State) (a1 : Nat) (a2 : Nat) (a3 : Bool) (a4 : Bool)  (h0 : Kept s0 s) : Kept s0 (setSeqStatus s a1 a2 a3 a4) := by
  unfold setSeqStatus
  exact (kept_wr32 _ _ _ h0)

theorem kept_fire {s0 : State} (s : State) (a1 : Nat)  (h0 : Kept s0 s) : Kept s0 (fire s a1) := by
  unfold fire
  exact (by
      extract_lets v10 v11 v12 v13 v14 v15
      have h16 : Kept s0 v13 := (kept_wr32 _ _ _ h0)
      clear_value v13
      have h18 : Kept s0 v14 := (kept_wr64 _ _ _ h16)
      clear_value v14
      exact (kept_ite (kept_count64 _ _ _ h0) (kept_setSht _ h18)))

theorem kept_arrive {s0 : State} (s : State) (a1 : Nat) (a2 : Nat)  (h0 : Kept s0 s) : Kept s0 (arrive s a1 a2) := by
  unfold arrive
  exact (kept_ite h0 (by
      extract_lets v5 v6 v7 v8
      have h9 : Kept s0 v5 := (kept_orWord _ _ _ h0)
      clear_value v5
      have h17 : Kept s0 v7 := (kept_wrBits _ _ _ _ _ h9)
      clear_value v7
      have h19 : Kept s0 v8 := (kept_wr32 _ _ _ h17)
      clear_value v8
      exact (kept_ite (kept_fire _ _ (kept_wrBits _ _ _ _ _ h19)) h19)))

theorem kept_storeWrite {s0 : State} (s : State) (a1 : Nat) (a2 : Nat) (a3 : List Sys2Proof.Byte)  (h0 : Kept s0 s) : KeptE (fun x => x) s0 (storeWrite s a1 a2 a3) := by
  induction a3 generalizing s a1 a2 with
  | nil =>
    unfold storeWrite
    exact (keptE_ok h0)
  | cons x xs ih =>
    unfold storeWrite
    exact (by
        split
        · rename_i x45 e46
          exact (keptE_error)
        · rename_i x49 x50 e51
          exact (keptE_ite (keptE_error) (keptE_ite (keptE_error) (ih _ _ _ (kept_setMem h0 (fun x63 => (Memory.wf_putStore _ _ x63)))))))

theorem kept_storePoke {s0 : State} (s : State) (a1 : Nat) (a2 : Nat) (a3 : Nat) (a4 : Nat)  (h0 : Kept s0 s) : Kept s0 (storePoke s a1 a2 a3 a4) := by
  unfold storePoke
  exact (by
      split
      · rename_i x20 t21 e22
        exact (keptE_get (f := fun x => x) e22 (kept_storeWrite _ _ _ _ h0))
      · rename_i x65 x66 e67
        exact h0)

theorem kept_hbmError {s0 : State} (s : State) (a1 : Nat)  (h0 : Kept s0 s) : Kept s0 (hbmError s a1) := by
  unfold hbmError
  exact (by
      extract_lets v23 v24
      exact (kept_arrive _ _ _ (kept_raise _ _ _ (kept_sticky _ _ _ (kept_count64 _ _ _ h0)))))

theorem kept_hbmWrite {s0 : State} (s : State) (a1 : Nat) (a2 : Bool) (a3 : Nat) (a4 : List Sys2Proof.Byte)  (h0 : Kept s0 s) : KeptE (fun x => x) s0 (hbmWrite s a1 a2 a3 a4) := by
  induction a4 generalizing s a1 a2 a3 with
  | nil =>
    unfold hbmWrite
    exact (keptE_ok h0)
  | cons x xs ih =>
    unfold hbmWrite
    exact (by
        split
        · rename_i x77 x78 e79
          exact (keptE_error)
        · rename_i x83 x84 x85 x86 e87
          exact (keptE_ite (keptE_error) (ih _ _ _ _ (kept_setMem h0 (fun x102 => (Memory.wf_putHbm _ _ x102))))))

theorem kept_hbmPutByte {s0 : State} (s : State) (a1 : Nat) (a2 : Nat) (a3 : Nat) (a4 : Sys2Proof.Byte)  (h0 : Kept s0 s) : Kept s0 (hbmPutByte s a1 a2 a3 a4) := by
  unfold hbmPutByte
  exact (by
      split
      · rename_i x25 x26 e27
        exact h0
      · rename_i x28 x29 x30 x31 e32
        exact (kept_ite h0 (kept_setMem h0 (fun x33 => (Memory.wf_putHbm _ _ x33)))))

theorem kept_hbmPut {s0 : State} (s : State) (a1 : Nat) (a2 : Nat) (a3 : List Sys2Proof.Byte)  (h0 : Kept s0 s) : Kept s0 (hbmPut s a1 a2 a3) := by
  induction a3 generalizing s a1 a2 with
  | nil =>
    unfold hbmPut
    exact h0
  | cons x xs ih =>
    unfold hbmPut
    exact (ih _ _ _ (kept_hbmPutByte _ _ _ _ _ h0))

theorem kept_noteState {s0 : State} (s : State) (a1 : Nat)  (h0 : Kept s0 s) : Kept s0 (noteState s a1) := by
  unfold noteState
  exact (kept_blk _ _ h0)

theorem kept_countPacked {s0 : State} (s : State) (a1 : Nat) (a2 : Nat)  (h0 : Kept s0 s) : Kept s0 (countPacked s a1 a2) := by
  unfold countPacked
  exact (by
      extract_lets v34 v35 v36
      have h37 : Kept s0 v35 := (kept_count64 _ _ _ (kept_count64 _ _ _ h0))
      clear_value v35
      have h38 : Kept s0 v36 := (kept_ite (kept_count64 _ _ _ h37) (kept_ite (kept_count64 _ _ _ h37) h37))
      clear_value v36
      exact (kept_count64 _ _ _ h38))

theorem kept_hbmPoke {s0 : State} (s : State) (a1 : Nat) (a2 : Nat) (a3 : List Sys2Proof.Byte)  (h0 : Kept s0 s) : Kept s0 (hbmPoke s a1 a2 a3) := by
  unfold hbmPoke
  exact (by
      extract_lets v39
      exact (kept_foldl (fun t40 x41 h42 => (by
        extract_lets v43
        have h44 : Kept s0 v43 := (kept_noteState _ _ h42)
        clear_value v43
        exact (kept_countPacked _ _ _ h44))) (kept_hbmPut _ _ _ _ h0)))

theorem kept_noteLost {s0 : State} (s : State) (a1 : Nat) (a2 : Nat) (a3 : Nat)  (h0 : Kept s0 s) : Kept s0 (noteLost s a1 a2 a3) := by
  unfold noteLost
  exact (by
      extract_lets v47 v48
      exact (kept_ite h0 (kept_foldl (fun t52 x53 h54 => (kept_hbmError _ _ h54)) (kept_fresh h0))))

theorem kept_setRem {s0 : State} (s : State) (a1 : Nat) (a2 : Nat) (a3 : Int)  (h0 : Kept s0 s) : Kept s0 (setRem s a1 a2 a3) := by
  unfold setRem
  exact (kept_wr64 _ _ _ h0)

theorem kept_charge {s0 : State} (s : State) (a1 : Nat) (a2 : Nat) (a3 : Nat)  (h0 : Kept s0 s) : Kept s0 (charge s a1 a2 a3) := by
  unfold charge
  exact (kept_setRem _ _ _ _ h0)

theorem kept_refused {s0 : State} (s : State) (a1 : Nat) (a2 : Nat)  (h0 : Kept s0 s) : Kept s0 (refused s a1 a2) := by
  unfold refused
  exact (kept_ite h0 (by
      extract_lets v55 v56 v57 v58
      have h59 : Kept s0 v56 := (kept_setStr _ h0)
      clear_value v56
      have h64 : Kept s0 v57 := (kept_count64 _ _ _ h59)
      clear_value v57
      exact (kept_satCount64 _ _ _ (kept_sticky _ _ _ h64))))

theorem kept_chargeHbm {s0 : State} (s : State) (a1 : Nat) (a2 : Nat) (a3 : Nat)  (h0 : Kept s0 s) : Kept s0 (chargeHbm s a1 a2 a3) := by
  unfold chargeHbm
  exact (kept_count64 _ _ _ (kept_charge _ _ _ _ h0))

theorem kept_chargeFetch {s0 : State} (s : State) (a1 : Nat) (a2 : Nat) (a3 : Coll)  (h0 : Kept s0 s) : Kept s0 (chargeFetch s a1 a2 a3) := by
  unfold chargeFetch
  exact (by
      extract_lets v60 v61
      have h62 : Kept s0 v61 := (kept_count64 _ _ _ h0)
      clear_value v61
      exact (kept_chargeHbm _ _ _ _ (kept_count64 _ _ _ h62)))

theorem kept_endReads {s0 : State} (s : State) (a1 : Nat) (a2 : Option Coll)  (h0 : Kept s0 s) : Kept s0 (endReads s a1 a2) := by
  unfold endReads
  exact (by
      split
      · rename_i x68
        exact h0
      · rename_i x70 x71
        exact (kept_chargeFetch _ _ _ _ h0))

theorem kept_endWrites {s0 : State} (s : State) (a1 : Nat) (a2 : Option Coll)  (h0 : Kept s0 s) : Kept s0 (endWrites s a1 a2) := by
  unfold endWrites
  exact (by
      split
      · rename_i x69
        exact h0
      · rename_i x72 x73
        exact (by
          extract_lets v74 v75
          have h76 : Kept s0 v75 := (kept_countPacked _ _ _ h0)
          clear_value v75
          exact (kept_ite (kept_chargeHbm _ _ _ _ h76) (kept_chargeFetch _ _ _ _ h76))))

theorem kept_endColls {s0 : State} (s : State) (a1 : Nat) (a2 : Mover)  (h0 : Kept s0 s) : Kept s0 (endColls s a1 a2) := by
  unfold endColls
  exact (kept_endWrites _ _ _ (kept_endReads _ _ _ h0))

theorem kept_chargeSectors {s0 : State} (s : State) (a1 : Nat) (a2 : Bool) (a3 : Nat) (a4 : Nat)  (h0 : Kept s0 s) : Kept s0 (chargeSectors s a1 a2 a3 a4) := by
  unfold chargeSectors
  exact (kept_foldl (fun t80 x81 h82 => (by
      split
      · rename_i x88 x89 x90
        exact (kept_chargeHbm _ _ _ _ h82))) h0)

theorem kept_chargeRead {s0 : State} (s : State) (a1 : Nat) (a2 : Option (Nat × Bool)) (a3 : Nat) (a4 : Mover)  (h0 : Kept s0 s) : Kept s0 (chargeRead s a1 a2 a3 a4).1 := by
  unfold chargeRead
  exact (by
      split
      · rename_i x91
        exact h0
      · rename_i x92 x93
        exact (kept_fst (kept_chargeSectors _ _ _ _ _ (kept_endReads _ _ _ h0)))
      · rename_i x100 x101
        exact (kept_fst (kept_endReads _ _ _ h0)))

theorem kept_chargeWrite {s0 : State} (s : State) (a1 : Nat) (a2 : Option (Nat × Bool)) (a3 : Nat) (a4 : Nat) (a5 : Mover)  (h0 : Kept s0 s) : Kept s0 (chargeWrite s a1 a2 a3 a4 a5).1 := by
  unfold chargeWrite
  exact (by
      split
      · rename_i x94
        exact h0
      · rename_i x103 x104
        exact (kept_fst (kept_chargeSectors _ _ _ _ _ (kept_endWrites _ _ _ h0)))
      · rename_i x105 x106
        exact (kept_fst (kept_endWrites _ _ _ (kept_noteState _ _ h0))))

theorem kept_touchTlb {s0 : State} (s : State) (a1 : Nat) (a2 : Nat)  (h0 : Kept s0 s) : Kept s0 (touchTlb s a1 a2) := by
  unfold touchTlb
  exact (by
      extract_lets v95 v96 v97 v98
      have h99 : Kept s0 v97 := (kept_count64 _ _ _ h0)
      clear_value v97
      exact (kept_ite h0 (kept_ite (kept_setCore _ _ _ h99) (by
        split
        · rename_i x107 x108 t109 e110
          exact (kept_setCore _ _ _ (kept_snd_eq e110 (kept_fresh h99)))))))

/-! ### Machine/Net.lean -/

theorem kept_noteWaiting {s0 : State} (s : State) (a1 : Nat) (a2 : Nat) (a3 : Bool)  (h0 : Kept s0 s) : Kept s0 (noteWaiting s a1 a2 a3) := by
  unfold noteWaiting
  exact (by
      extract_lets v0 v1
      exact (kept_ite h0 (kept_setEth _ h0)))

theorem kept_enqueue {s0 : State} (s : State) (a1 : Nat) (a2 : Nat) (a3 : List Sys2Proof.Byte)  (h0 : Kept s0 s) : Kept s0 (enqueue s a1 a2 a3) := by
  unfold enqueue
  exact (by
      extract_lets v2 v3
      have h4 : Kept s0 v2 := (kept_noteWaiting _ _ _ _ h0)
      clear_value v2
      exact (kept_setEth _ h4))

theorem kept_sendUdp {s0 : State} (s : State) (a1 : Nat) (a2 : Nat) (a3 : Nat) (a4 : List Sys2Proof.Byte) (a5 : List Sys2Proof.Byte) (a6 : Nat) (a7 : List Sys2Proof.Byte)  (h0 : Kept s0 s) : Kept s0 (sendUdp s a1 a2 a3 a4 a5 a6 a7) := by
  unfold sendUdp
  exact (kept_enqueue _ _ _ _ h0)

theorem kept_setSession {s0 : State} (s : State) (a1 : Nat) (a2 : Option Session)  (h0 : Kept s0 s) : Kept s0 (setSession s a1 a2) := by
  unfold setSession
  exact (kept_setEth _ h0)

theorem kept_closeSession {s0 : State} (s : State) (a1 : Nat)  (h0 : Kept s0 s) : Kept s0 (closeSession s a1) := by
  unfold closeSession
  exact (by
      extract_lets v5 v6
      have h7 : Kept s0 v5 := (kept_setSession _ _ _ h0)
      clear_value v5
      exact (kept_setStr _ h7))

theorem kept_hcpWire {s0 : State} (s : State) (a1 : Session) (a2 : List Sys2Proof.Byte)  (h0 : Kept s0 s) : Kept s0 (hcpWire s a1 a2) := by
  unfold hcpWire
  exact (kept_sendUdp _ _ _ _ _ _ _ _ h0)

theorem kept_hcpAnswer {s0 : State} (s : State) (a1 : Nat) (a2 : Nat) (a3 : Nat) (a4 : Nat) (a5 : List Sys2Proof.Byte) (a6 : Nat)  (h0 : Kept s0 s) : Kept s0 (hcpAnswer s a1 a2 a3 a4 a5 a6) := by
  unfold hcpAnswer
  exact (by
      split
      · rename_i x8 e9
        exact h0
      · rename_i x10 x11 e12
        exact (kept_ite (by
          extract_lets v17 v18
          exact (kept_hcpWire _ _ _ (kept_setSession _ _ _ h0))) (kept_setSession _ _ _ h0)))

theorem kept_hcpSend {s0 : State} (s : State) (a1 : Nat) (a2 : Nat) (a3 : Nat) (a4 : Nat) (a5 : List Sys2Proof.Byte)  (h0 : Kept s0 s) : Kept s0 (hcpSend s a1 a2 a3 a4 a5) := by
  unfold hcpSend
  exact (kept_hcpAnswer _ _ _ _ _ _ _ h0)

theorem kept_deviceEvent {s0 : State} (s : State) (a1 : Nat) (a2 : Nat) (a3 : Nat) (a4 : Nat)  (h0 : Kept s0 s) : Kept s0 (deviceEvent s a1 a2 a3 a4) := by
  unfold deviceEvent
  exact (by
      extract_lets v13
      exact (kept_foldl (fun t14 x15 h16 => (kept_hcpSend _ _ _ _ _ _ h16)) h0))

/-! ### Machine/Channels.lean -/

theorem kept_sharedPoke {s0 : State} (s : State) (a1 : Nat) (a2 : List Sys2Proof.Byte)  (h0 : Kept s0 s) : Kept s0 (sharedPoke s a1 a2) := by
  unfold sharedPoke
  exact (kept_setMem h0 (fun x5 => (Memory.wf_keyWrite _ _ x5)))

theorem kept_updChan {s0 : State} (s : State) (a1 : Nat) (a2 : FChan → FChan)  (h0 : Kept s0 s) : Kept s0 (updChan s a1 a2) := by
  unfold updChan
  exact (kept_setFab _ h0)

theorem kept_chanWrite {s0 : State} (s : State) (a1 : FChan) (a2 : Nat) (a3 : List Sys2Proof.Byte)  (h0 : Kept s0 s) : Kept s0 (chanWrite s a1 a2 a3) := by
  unfold chanWrite
  exact (kept_ite (kept_hbmPoke _ _ _ _ h0) (kept_sharedPoke _ _ _ h0))

theorem kept_restoreStore {s0 : State} (s : State) (a1 : SMap Nat) (h0 : Kept s0 s) : Kept s0 (restoreStore s a1) :=
  kept_setMem h0 (fun hm => Memory.wf_fold (fun _ _ h => Memory.wf_keyWrite _ _ h) _ hm)

theorem kept_resetChan {s0 : State} (s : State) (a1 : Nat)  (h0 : Kept s0 s) : Kept s0 (resetChan s a1) := by
  unfold resetChan
  exact (by
      split
      · rename_i x0 e1
        exact h0
      · rename_i x2 x3 e4
        exact (by
          extract_lets v7 v8
          exact (kept_ite (kept_updChan _ _ _ h0) (kept_updChan _ _ _ h0))))

theorem kept_endChannels {s0 : State} (s : State) (a1 : Nat)  (h0 : Kept s0 s) : Kept s0 (endChannels s a1) := by
  unfold endChannels
  exact (kept_foldl (fun t6 x9 h10 => (kept_updChan _ _ _ h10)) h0)

theorem kept_abortChannels {s0 : State} (s : State) (a1 : Nat) (a2 : SMap Nat) (a3 : Nat)  (h0 : Kept s0 s) : Kept s0 (abortChannels s a1 a2 a3) := by
  unfold abortChannels
  exact (kept_ite h0 (by
      extract_lets v11
      have h12 : Kept s0 v11 := (kept_foldl (fun t13 x14 h15 => (kept_resetChan _ _ h15)) (kept_restoreStore _ _ h0))
      clear_value v11
      exact (kept_ite h12 (kept_endChannels _ _ h12))))

/-! ### Machine/Rings.lean -/

theorem kept_setEntry {s0 : State} (s : State) (a1 : Nat) (a2 : Sys2Proof.W512)  (h0 : Kept s0 s) : Kept s0 (setEntry s a1 a2) := by
  unfold setEntry
  exact (kept_setStr _ h0)

theorem kept_setProd {s0 : State} (s : State) (a1 : Nat) (a2 : Nat)  (h0 : Kept s0 s) : Kept s0 (setProd s a1 a2) := by
  unfold setProd
  exact (kept_wrBits _ _ _ _ _ h0)

theorem kept_setCons {s0 : State} (s : State) (a1 : Nat) (a2 : Nat)  (h0 : Kept s0 s) : Kept s0 (setCons s a1 a2) := by
  unfold setCons
  exact (kept_wrBits _ _ _ _ _ h0)

theorem kept_countOvf {s0 : State} (s : State) (a1 : Nat)  (h0 : Kept s0 s) : Kept s0 (countOvf s a1) := by
  unfold countOvf
  exact (kept_wr32 _ _ _ h0)

theorem kept_setOslot {s0 : State} (s : State) (a1 : Nat) (a2 : Nat) (a3 : Option OSlot)  (h0 : Kept s0 s) : Kept s0 (setOslot s a1 a2 a3) := by
  unfold setOslot
  exact (kept_setStr _ h0)

theorem kept_setIslot {s0 : State} (s : State) (a1 : Nat) (a2 : Nat) (a3 : Option ISlot)  (h0 : Kept s0 s) : Kept s0 (setIslot s a1 a2 a3) := by
  unfold setIslot
  exact (kept_setStr _ h0)

theorem kept_pushFrom {s0 : State} (s : State) (a1 : Nat) (a2 : Nat) (a3 : Nat)  (h0 : Kept s0 s) : Kept s0 (pushFrom s a1 a2 a3) := by
  induction a3 generalizing s a1 a2 with
  | zero =>
    unfold pushFrom
    exact h0
  | succ k ih =>
    unfold pushFrom
    exact (by
        split
        · rename_i x24 e25
          exact (ih _ _ _ h0)
        · rename_i x26 x27 e28
          exact (by
            split
            · rename_i x29 e30
              exact h0
            · rename_i x31 x32 e33
              exact (kept_ite (ih _ _ _ h0) (by
                extract_lets v34 v35 v36
                have h37 : Kept s0 v34 := (kept_setOslot _ _ _ _ h0)
                clear_value v34
                exact (ih _ _ _ (kept_hcpSend _ _ _ _ _ _ (kept_noteLost _ _ _ _ h37)))))))

theorem kept_pushRing {s0 : State} (s : State) (a1 : Nat)  (h0 : Kept s0 s) : Kept s0 (pushRing s a1) := by
  unfold pushRing
  exact (kept_ite h0 (kept_pushFrom _ _ _ _ h0))

theorem kept_putRecord {s0 : State} (s : State) (a1 : Nat) (a2 : List Sys2Proof.Byte)  (h0 : Kept s0 s) : Kept s0 (putRecord s a1 a2) := by
  unfold putRecord
  exact (by
      extract_lets v0 v1 v2 v3
      have h4 : Kept s0 v2 := (kept_hbmPoke _ _ _ _ h0)
      clear_value v2
      have h5 : Kept s0 v3 := (kept_setOslot _ _ _ _ h4)
      clear_value v3
      exact (kept_pushRing _ _ (kept_setProd _ _ _ h5)))

theorem kept_postRecord {s0 : State} (s : State) (a1 : Nat) (a2 : Bool) (a3 : List Sys2Proof.Byte)  (h0 : Kept s0 s) : Kept s0 (postRecord s a1 a2 a3) := by
  unfold postRecord
  exact (kept_ite h0 (kept_ite (kept_ite (kept_countOvf _ _ h0) (kept_setStr _ h0)) (kept_putRecord _ _ _ h0)))

theorem kept_payOwed {s0 : State} (s : State) (a1 : Nat) (a2 : Nat)  (h0 : Kept s0 s) : Kept s0 (payOwed s a1 a2) := by
  induction a2 generalizing s a1 with
  | zero =>
    unfold payOwed
    exact h0
  | succ k ih =>
    unfold payOwed
    exact (by
        split
        · rename_i x17 e18
          exact h0
        · rename_i x19 x20 e21
          exact (kept_ite h0 (ih _ _ (kept_putRecord _ _ _ (kept_setStr _ h0)))))

theorem kept_refuseRecord {s0 : State} (s : State) (a1 : Nat) (a2 : Nat) (a3 : Nat) (a4 : Nat) (a5 : Bool)  (h0 : Kept s0 s) : Kept s0 (refuseRecord s a1 a2 a3 a4 a5) := by
  unfold refuseRecord
  exact (by
      extract_lets v6 v7
      have h8 : Kept s0 v7 := (kept_raiseBy _ _ (kept_raise _ _ _ h0))
      clear_value v7
      exact (kept_ite (kept_postRecord _ _ _ _ h8) h8))

theorem kept_advanceIngress {s0 : State} (s : State) (a1 : Nat) (a2 : Nat)  (h0 : Kept s0 s) : Kept s0 (advanceIngress s a1 a2) := by
  induction a2 generalizing s a1 with
  | zero =>
    unfold advanceIngress
    exact h0
  | succ k ih =>
    unfold advanceIngress
    exact (by
        split
        · rename_i x14 x15 e16
          exact (kept_ite (ih _ _ (kept_setCons _ _ _ (kept_setIslot _ _ _ _ h0))) h0)
        · rename_i x22 e23
          exact h0)

theorem kept_releaseSlot {s0 : State} (s : State) (a1 : Nat) (a2 : Nat)  (h0 : Kept s0 s) : Kept s0 (releaseSlot s a1 a2) := by
  unfold releaseSlot
  exact (by
      split
      · rename_i x9 e10
        exact h0
      · rename_i x11 x12 e13
        exact (kept_advanceIngress _ _ _ (kept_setIslot _ _ _ _ h0)))

/-! ### Machine/Operands.lean -/

theorem kept_setPosCur {s0 : State} (s : State) (a1 : Nat) (a2 : Nat) (a3 : Nat)  (h0 : Kept s0 s) : Kept s0 (setPosCur s a1 a2 a3) := by
  unfold setPosCur
  exact (kept_storePoke _ _ _ _ _ h0)

theorem kept_advPos {s0 : State} (s : State) (a1 : Nat) (a2 : Nat) (a3 : Nat)  (h0 : Kept s0 s) : Kept s0 (advPos s a1 a2 a3) := by
  unfold advPos
  exact (kept_setPosCur _ _ _ _ h0)

theorem kept_advElems {s0 : State} (s : State) (a1 : Nat) (a2 : Nat) (a3 : Nat)  (h0 : Kept s0 s) : Kept s0 (advElems s a1 a2 a3) := by
  unfold advElems
  exact (by
      split
      · rename_i x3 x4 e5
        exact (kept_advPos _ _ _ _ h0)
      · rename_i x6 x7 e8
        exact h0)

theorem kept_resetWalks {s0 : State} (s : State) (a1 : Nat) (a2 : Nat)  (h0 : Kept s0 s) : Kept s0 (resetWalks s a1 a2) := by
  unfold resetWalks
  exact (kept_foldl (fun t0 x1 h2 => (kept_setPosCur _ _ _ _ h2)) h0)

theorem kept_writeAt {s0 : State} (s : State) (a1 : Nat) (a2 : Nat) (a3 : Nat) (a4 : Nat) (a5 : Nat) (a6 : Nat) (a7 : Nat)  (h0 : Kept s0 s) : KeptE (fun x => x) s0 (writeAt s a1 a2 a3 a4 a5 a6 a7) := by
  unfold writeAt
  exact (by
      split
      · rename_i x14 x15 x16 x17 e18
        exact (by
          extract_lets v19 v20
          exact (keptE_ite (keptE_bind (fun x26 x27 => (kept_storeWrite _ _ _ _ h0))) (kept_storeWrite _ _ _ _ h0))))

theorem kept_writeScale {s0 : State} (s : State) (a1 : Nat) (a2 : Nat) (a3 : Nat) (a4 : Nat) (a5 : Nat) (a6 : Nat)  (h0 : Kept s0 s) : KeptE (fun x => x) s0 (writeScale s a1 a2 a3 a4 a5 a6) := by
  unfold writeScale
  exact (by
      split
      · rename_i x9 x10 x11 x12 e13
        exact (kept_storeWrite _ _ _ _ h0))

theorem kept_writeElem {s0 : State} (s : State) (a1 : Nat) (a2 : Nat) (a3 : Nat) (a4 : Nat) (a5 : Nat)  (h0 : Kept s0 s) : KeptE (fun x => x) s0 (writeElem s a1 a2 a3 a4 a5) := by
  unfold writeElem
  exact (by
      split
      · rename_i x21 x22 x23 x24 e25
        exact (kept_writeAt _ _ _ _ _ _ _ _ h0))

theorem kept_writeBand {s0 : State} (s : State) (a1 : Nat) (a2 : Nat) (a3 : Nat) (a4 : Nat)  (h0 : Kept s0 s) : Kept s0 (writeBand s a1 a2 a3 a4) := by
  unfold writeBand
  exact (kept_ite h0 (by
      split
      · rename_i x28 x29 x30 x31 x32 e33
        exact (by
          extract_lets v34 v35
          exact (kept_storePoke _ _ _ _ _ h0))))

/-! ### Machine/Tasks.lean -/

theorem kept_admitTask {s0 : State} (s : State) (a1 : Nat) (a2 : Nat) (a3 : Nat) (a4 : Nat) (a5 : Option Nat) (a6 : Nat) (a7 : Bool) (a8 : Nat) (a9 : Nat)  (h0 : Kept s0 s) : Kept s0 (admitTask s a1 a2 a3 a4 a5 a6 a7 a8 a9) := by
  unfold admitTask
  exact (by
      extract_lets v0 v1 v2 v3 v4 v5 v6 v7
      have h8 : Kept s0 v6 := (kept_setStr _ h0)
      clear_value v6
      have h12 : Kept s0 v7 := (kept_ite (kept_setEntry _ _ _ h8) h8)
      clear_value v7
      exact (kept_count64 _ _ _ h12))

theorem kept_admitSlot {s0 : State} (s : State) (a1 : Nat) (a2 : Nat)  (h0 : Kept s0 s) : Kept s0 (admitSlot s a1 a2) := by
  unfold admitSlot
  exact (by
      split
      · rename_i x21 e22
        exact h0
      · rename_i x23 x24 e25
        exact (kept_ite (by
          extract_lets v26
          have h27 : Kept s0 v26 := (kept_setIslot _ _ _ _ h0)
          clear_value v26
          exact (kept_admitTask _ _ _ _ _ _ _ _ _ _ h27)) h0))

theorem kept_admitRing {s0 : State} (s : State) (a1 : Nat)  (h0 : Kept s0 s) : Kept s0 (admitRing s a1) := by
  unfold admitRing
  exact (kept_foldl (fun t9 x10 h11 => (kept_admitSlot _ _ _ h11)) h0)

theorem kept_admitWaiting {s0 : State} (s : State)  (h0 : Kept s0 s) : Kept s0 (admitWaiting s) := by
  unfold admitWaiting
  exact (kept_foldl (fun t13 x14 h15 => (kept_admitRing _ _ h15)) h0)

theorem kept_takeSlots {s0 : State} (s : State) (a1 : Nat) (a2 : Nat) (a3 : Nat) (a4 : Nat)  (h0 : Kept s0 s) : Kept s0 (takeSlots s a1 a2 a3 a4) := by
  unfold takeSlots
  exact (by
      extract_lets v16
      have h17 : Kept s0 v16 := (kept_foldl (fun t18 x19 h20 => (kept_setOslot _ _ _ _ h20)) h0)
      clear_value v16
      exact (kept_setProd _ _ _ h17))

theorem kept_takeTaskSlots {s0 : State} (s : State) (a1 : Task) (a2 : SEntry)  (h0 : Kept s0 s) : Kept s0 (takeTaskSlots s a1 a2).1 := by
  unfold takeTaskSlots
  exact (kept_pr_ite (f := Prod.fst) h0 (by
      split
      · rename_i x28 t29 x30 e31
        exact (by
          extract_lets v32
          exact (by
            split
            · rename_i x45 t46 x47 e48
              exact (kept_fst (kept_fst_eq e48 (kept_pr_ite (f := Prod.fst) (kept_fst (kept_fst_eq e31 (kept_pr_ite (f := Prod.fst) h0 (kept_fst (kept_takeSlots _ _ _ _ _ h0))))) (kept_pr_ite (f := Prod.fst) (kept_fst (kept_takeSlots _ _ _ _ _ (kept_fst_eq e31 (kept_pr_ite (f := Prod.fst) h0 (kept_fst (kept_takeSlots _ _ _ _ _ h0)))))) (kept_fst (kept_foldl (fun t137 x138 h139 => (kept_countOvf _ _ h139)) (kept_fst_eq e31 (kept_pr_ite (f := Prod.fst) h0 (kept_fst (kept_takeSlots _ _ _ _ _ h0))))))))))))))

theorem kept_handOver {s0 : State} (s : State) (a1 : Nat) (a2 : Nat) (a3 : Nat) (a4 : Nat → Nat)  (h0 : Kept s0 s) : Kept s0 (handOver s a1 a2 a3 a4) := by
  unfold handOver
  exact (kept_foldl (fun t36 x37 h38 => (by
      split
      · rename_i x49 e50
        exact h38
      · rename_i x51 x52 e53
        exact (kept_setOslot _ _ _ _ h38))) h0)

theorem kept_handTask {s0 : State} (s : State) (a1 : Task) (a2 : Bool)  (h0 : Kept s0 s) : Kept s0 (handTask s a1 a2) := by
  unfold handTask
  exact (by
      extract_lets v33 v34
      have h35 : Kept s0 v33 := (kept_handOver _ _ _ _ _ h0)
      clear_value v33
      have h58 : Kept s0 v34 := (kept_handOver _ _ _ _ _ h35)
      clear_value v34
      exact (kept_ite h58 (kept_pushRing _ _ h58)))

theorem kept_aryState {s0 : State} (s : State) (a1 : Nat) (a2 : Nat) (a3 : Nat) (a4 : Bool)  (h0 : Kept s0 s) : Kept s0 (aryState s a1 a2 a3 a4) := by
  unfold aryState
  exact (kept_foldl (fun t39 x40 h41 => (kept_wrBits _ _ _ _ _ h41)) h0)

theorem kept_setBankV {s0 : State} (s : State) (a1 : Nat) (a2 : Nat) (a3 : Nat) (a4 : Bool)  (h0 : Kept s0 s) : Kept s0 (setBankV s a1 a2 a3 a4) := by
  unfold setBankV
  exact (kept_foldl (fun t42 x43 h44 => (kept_wrBits _ _ _ _ _ h44)) h0)

theorem kept_markNewest {s0 : State} (s : State) (a1 : Nat) (a2 : Nat)  (h0 : Kept s0 s) : Kept s0 (markNewest s a1 a2) := by
  unfold markNewest
  exact (kept_wrBits _ _ _ _ _ (kept_wrBits _ _ _ _ _ h0))

theorem kept_emptyBank {s0 : State} (s : State) (a1 : Nat) (a2 : Nat)  (h0 : Kept s0 s) : Kept s0 (emptyBank s a1 a2) := by
  unfold emptyBank
  exact (by
      extract_lets v54 v55 v56
      have h57 : Kept s0 v54 := (kept_wr32 _ _ _ h0)
      clear_value v54
      have h59 : Kept s0 v56 := (kept_setCore _ _ _ h57)
      clear_value v56
      exact (kept_ite (kept_markNewest _ _ _ h59) h59))

theorem kept_stopLoads {s0 : State} (s : State) (a1 : Nat)  (h0 : Kept s0 s) : Kept s0 (stopLoads s a1) := by
  unfold stopLoads
  exact (kept_ite (kept_emptyBank _ _ _ h0) (kept_ite (kept_emptyBank _ _ _ h0) h0))

theorem kept_clearCtx {s0 : State} (s : State) (a1 : Nat) (a2 : Nat) (a3 : Bool)  (h0 : Kept s0 s) : Kept s0 (clearCtx s a1 a2 a3) := by
  unfold clearCtx
  exact (by
      extract_lets v60 v61 v62 v63 v64 v65 v66 v67 v68 v69 v70 v71 v72 v73 v74 v75 v76 v77 v78 v79 v80 v81 v82 v83 v84 v85 v86 v87 v88 v89 v90 v91 v92
      have h99 : Kept s0 v78 := (kept_foldl (fun t100 x101 h102 => (kept_endColls _ _ _ h102)) h0)
      clear_value v78
      have h104 : Kept s0 v79 := (kept_setCore _ _ _ h99)
      clear_value v79
      have h111 : Kept s0 v80 := (kept_foldl (fun t112 x113 h114 => (kept_setSem _ _ _ _ h114)) h104)
      clear_value v80
      have h135 : Kept s0 v81 := (kept_setSem _ _ _ _ h111)
      clear_value v81
      have h142 : Kept s0 v82 := (kept_setSeqStatus _ _ _ _ _ h135)
      clear_value v82
      have h149 : Kept s0 v83 := (kept_wrBits _ _ _ _ _ h142)
      clear_value v83
      have h157 : Kept s0 v84 := (kept_foldl (fun t158 x159 h160 => (kept_wrBits _ _ _ _ _ (kept_wrBits _ _ _ _ _ h160))) h149)
      clear_value v84
      have h178 : Kept s0 v85 := (kept_wrBits _ _ _ _ _ h157)
      clear_value v85
      have h179 : Kept s0 v86 := (by
        unfold v86
        clear_value v72
        split
        · rename_i x216 x217
          exact (kept_aryState _ _ _ _ _ h178)
        · rename_i x225
          exact h178)
      clear_value v86
      have h229 : Kept s0 v87 := (kept_ite (kept_wrBits _ _ _ _ _ h179) h179)
      clear_value v87
      have h234 : Kept s0 v88 := (kept_ite (kept_wrBits _ _ _ _ _ h229) h229)
      clear_value v88
      have h239 : Kept s0 v89 := (kept_ite (kept_stopLoads _ _ h234) h234)
      clear_value v89
      have h240 : Kept s0 v90 := (kept_wrBits _ _ _ _ _ h239)
      clear_value v90
      have h241 : Kept s0 v91 := (kept_ite (kept_wrBits _ _ _ _ _ h240) h240)
      clear_value v91
      have h242 : Kept s0 v92 := (kept_foldl (fun t243 x244 h245 => (kept_ite h245 (kept_setBankV _ _ _ _ _ h245))) h241)
      clear_value v92
      exact (by
        clear_value v76
        split
        · rename_i x246
          exact h242
        · rename_i x247 x248
          exact (kept_wrBits _ _ _ _ _ h242)))

theorem kept_startPeriodic {s0 : State} (s : State) (a1 : Nat) (a2 : PRow) (a3 : SEntry)  (h0 : Kept s0 s) : Kept s0 (startPeriodic s a1 a2 a3) := by
  unfold startPeriodic
  exact (by
      extract_lets v93 v94 v95 v96 v97
      have h98 : Kept s0 v95 := (kept_count64 _ _ _ (kept_setStr _ h0))
      clear_value v95
      have h103 : Kept s0 v97 := (kept_setCtx _ _ _ _ h98)
      clear_value v97
      exact (kept_resetWalks _ _ _ (kept_setPc _ _ _ _ (kept_setSeqStatus _ _ _ _ _ h103))))

theorem kept_startWaiting {s0 : State} (s : State) (a1 : Nat) (a2 : Nat)  (h0 : Kept s0 s) : Kept s0 (startWaiting s a1 a2) := by
  unfold startWaiting
  exact (by
      split
      · rename_i x105 e106
        exact h0
      · rename_i x107 x108 x109 e110
        exact (kept_ite h0 (by
          split
          · rename_i x121 e122
            exact h0
          · rename_i x123 x124 e125
            exact (by
              extract_lets v131 v132
              have h133 : Kept s0 v132 := (kept_setCore _ _ _ h0)
              clear_value v132
              exact (by
                split
                · rename_i x140 e141
                  exact h133
                · rename_i x143 x144 e145
                  exact (kept_startPeriodic _ _ _ _ h133))))))

theorem kept_restoreCounters {s0 : State} (s : State) (a1 : Task) (h0 : Kept s0 s) : Kept s0 (restoreCounters s a1) :=
  kept_setMem h0 (fun hm => Memory.wf_fold (fun _ _ h => Memory.wf_keyWrite _ _ h) _ hm)

theorem kept_restoreSaved {s0 : State} (s : State) (a1 : Nat) (a2 : Task)  (h0 : Kept s0 s) : Kept s0 (restoreSaved s a1 a2) := by
  unfold restoreSaved
  exact (kept_foldl (fun t115 x116 h117 => (by
      split
      · rename_i x118 x119 x120
        exact (kept_hbmPoke _ _ _ _ h117))) h0)

theorem kept_checkInvalidation {s0 : State} (s : State)  (h0 : Kept s0 s) : Kept s0 (checkInvalidation s) := by
  unfold checkInvalidation
  exact (by
      extract_lets v126 v127 v128 v129 v130
      have h134 : Kept s0 v129 := (kept_setStr _ h0)
      clear_value v129
      have h136 : Kept s0 v130 := (kept_ite (kept_wrBits _ _ _ _ _ h134) h134)
      clear_value v130
      exact (kept_ite h0 (kept_foldl (fun t146 x147 h148 => (kept_arrive _ _ _ h148)) h136)))

theorem kept_finalAbort {s0 : State} (s : State) (a1 : Task) (a2 : Nat) (a3 : Nat) (a4 : Nat)  (h0 : Kept s0 s) : Kept s0 (finalAbort s a1 a2 a3 a4) := by
  unfold finalAbort
  exact (kept_ite h0 (by
      extract_lets v150 v151 v152 v153 v154 v155
      have h156 : Kept s0 v150 := (kept_ite (kept_handTask _ _ _ h0) h0)
      clear_value v150
      have h161 : Kept s0 v153 := (by
        unfold v153
        split
        · rename_i x173 e174
          exact h156
        · rename_i x175 x176 e177
          exact (kept_ite (by
            split
            · rename_i x180 x181 e182
              exact (kept_setIslot _ _ _ _ h156)
            · rename_i x189 e190
              exact h156) (kept_releaseSlot _ _ _ h156)))
      clear_value v153
      have h194 : Kept s0 v155 := (kept_postRecord _ _ _ _ h161)
      clear_value v155
      exact (kept_checkInvalidation _ h194)))

theorem kept_afterAbort {s0 : State} (s : State) (a1 : Task) (a2 : Nat) (a3 : Nat) (a4 : Nat)  (h0 : Kept s0 s) : Kept s0 (afterAbort s a1 a2 a3 a4) := by
  unfold afterAbort
  exact (by
      split
      · rename_i x191 e192
        exact (kept_ite (kept_setStr _ h0) (kept_finalAbort _ _ _ _ _ h0))
      · rename_i x205 e206
        exact (kept_ite h0 (kept_setStr _ h0))
      · rename_i x219 e220 e221
        exact (kept_finalAbort _ _ _ _ _ h0))

theorem kept_abortOne {s0 : State} (s : State) (a1 : Nat) (a2 : Nat) (a3 : Nat)  (h0 : Kept s0 s) : Kept s0 (abortOne s a1 a2 a3) := by
  unfold abortOne
  exact (by
      split
      · rename_i x162 e163
        exact h0
      · rename_i x164 x165 e166
        exact (by
          extract_lets v167 v168 v169 v170 v171
          have h172 : Kept s0 v167 := (kept_clearCtx _ _ _ _ h0)
          clear_value v167
          have h249 : Kept s0 v168 := (kept_wr32 _ _ _ h172)
          clear_value v168
          have h250 : Kept s0 v169 := (kept_raiseBy _ _ (kept_raise _ _ _ h249))
          clear_value v169
          have h251 : Kept s0 v170 := (kept_arrive _ _ _ h250)
          clear_value v170
          have h252 : Kept s0 v171 := (kept_abortChannels _ _ _ _ (kept_restoreCounters _ _ (kept_restoreSaved _ _ _ h251)))
          clear_value v171
          exact (kept_ite h252 (kept_startWaiting _ _ _ (kept_afterAbort _ _ _ _ _ h252)))))

theorem kept_dropVerify {s0 : State} (s : State) (a1 : Nat)  (h0 : Kept s0 s) : Kept s0 (dropVerify s a1) := by
  unfold dropVerify
  exact (kept_setStr _ h0)

theorem kept_afterVictim {s0 : State} (s : State) (a1 : Victim)  (h0 : Kept s0 s) : Kept s0 (afterVictim s a1) := by
  unfold afterVictim
  exact (by
      split
      · rename_i x183 x184 x185 x186 x187
        exact (by
          extract_lets v188
          have h193 : Kept s0 v188 := (kept_ite h0 (kept_dropVerify _ _ h0))
          clear_value v188
          exact (kept_ite h193 (kept_foldl (fun t196 x197 h198 => (kept_ite (kept_setCore _ _ _ h198) h198)) h193))))

theorem kept_abortAll {s0 : State} (s : State) (a1 : List Victim)  (h0 : Kept s0 s) : Kept s0 (abortAll s a1) := by
  unfold abortAll
  exact (by
      extract_lets v195
      exact (kept_foldl (fun t199 x200 h201 => (kept_afterVictim _ _ h201)) (kept_foldl (fun t202 x203 h204 => (kept_abortOne _ _ _ _ h204)) h0)))

theorem kept_abortWhere {s0 : State} (s : State) (a1 : Nat) (a2 : Nat → Nat → Task → Bool)  (h0 : Kept s0 s) : Kept s0 (abortWhere s a1 a2) := by
  unfold abortWhere
  exact (kept_abortAll _ _ h0)

theorem kept_abortTask {s0 : State} (s : State) (a1 : Nat) (a2 : Nat) (a3 : Nat)  (h0 : Kept s0 s) : Kept s0 (abortTask s a1 a2 a3) := by
  unfold abortTask
  exact (by
      split
      · rename_i x207 e208
        exact h0
      · rename_i x209 x210 e211
        exact (kept_abortAll _ _ h0))

theorem kept_abortPartition {s0 : State} (s : State) (a1 : Nat) (a2 : Nat)  (h0 : Kept s0 s) : Kept s0 (abortPartition s a1 a2) := by
  unfold abortPartition
  exact (kept_abortWhere _ _ _ h0)

theorem kept_dropReady {s0 : State} (s : State) (a1 : Nat) (a2 : Task → Bool)  (h0 : Kept s0 s) : Kept s0 (dropReady s a1 a2) := by
  unfold dropReady
  exact (by
      extract_lets v212 v213 v214
      have h215 : Kept s0 v214 := (kept_setStr _ h0)
      clear_value v214
      exact (kept_foldl (fun t226 x227 h228 => (kept_finalAbort _ _ _ _ _ (kept_raiseBy _ _ h228))) h215))

theorem kept_stopPartition {s0 : State} (s : State) (a1 : Nat) (a2 : Nat)  (h0 : Kept s0 s) : Kept s0 (stopPartition s a1 a2) := by
  unfold stopPartition
  exact (by
      extract_lets v218 v222 v223
      have h224 : Kept s0 v218 := (kept_wrBits _ _ _ _ _ h0)
      clear_value v218
      have h230 : Kept s0 v223 := (kept_setStr _ h224)
      clear_value v223
      exact (kept_dropReady _ _ _ (kept_abortPartition _ _ _ h230)))

theorem kept_unitAbort {s0 : State} (s : State) (a1 : Nat) (a2 : Nat) (a3 : Abort)  (h0 : Kept s0 s) : Kept s0 (unitAbort s a1 a2 a3) := by
  unfold unitAbort
  exact (kept_abortTask _ _ _ _ h0)

theorem kept_nextPc {s0 : State} (s : State) (a1 : Nat) (a2 : Nat)  (h0 : Kept s0 s) : Kept s0 (nextPc s a1 a2) := by
  unfold nextPc
  exact (kept_setPc _ _ _ _ h0)

theorem kept_setUnitQueue {s0 : State} (s : State) (a1 : Nat) (a2 : Nat) (a3 : List (Nat × Sys2Proof.W128))  (h0 : Kept s0 s) : Kept s0 (setUnitQueue s a1 a2 a3) := by
  unfold setUnitQueue
  exact (kept_setCore _ _ _ h0)

theorem kept_notIssued {s0 : State} (s : State) (a1 : Nat) (a2 : Nat)  (h0 : Kept s0 s) : Kept s0 (notIssued s a1 a2) := by
  unfold notIssued
  exact (by
      split
      · rename_i x231 x232 e233
        exact (kept_ite (kept_unitAbort _ _ _ _ h0) h0)
      · rename_i x253 x254 e255
        exact h0)

theorem kept_beginWork {s0 : State} (s : State) (a1 : Nat) (a2 : Nat) (a3 : Nat) (a4 : Sys2Proof.W128)  (h0 : Kept s0 s) : Kept s0 (beginWork s a1 a2 a3 a4) := by
  unfold beginWork
  exact (kept_ite (kept_setUnitQueue _ _ _ _ h0) (kept_nextPc _ _ _ h0))

theorem kept_joinQueue {s0 : State} (s : State) (a1 : Nat) (a2 : Nat) (a3 : Nat) (a4 : Sys2Proof.W128)  (h0 : Kept s0 s) : Kept s0 (joinQueue s a1 a2 a3 a4) := by
  unfold joinQueue
  exact (kept_nextPc _ _ _ (kept_setUnitQueue _ _ _ _ h0))

theorem kept_requeue {s0 : State} (s : State) (a1 : Nat) (a2 : Nat) (a3 : Nat) (a4 : Sys2Proof.W128)  (h0 : Kept s0 s) : Kept s0 (requeue s a1 a2 a3 a4) := by
  unfold requeue
  exact (kept_setUnitQueue _ _ _ _ h0)

theorem kept_issue {s0 : State} (s : State) (a1 : Nat) (a2 : Nat) (a3 : Sys2Proof.W128) (a4 : Nat) (a5 : Nat) (a6 : Nat) (a7 : Bool) (a8 : Bool) (a9 : State → State) (f9 : ∀ t, Kept s0 t → Kept s0 (a9 t)) (h0 : Kept s0 s) : Kept s0 (issue s a1 a2 a3 a4 a5 a6 a7 a8 a9) := by
  unfold issue
  exact (by
      split
      · rename_i x237 e238
        exact (kept_notIssued _ _ _ h0)
      · rename_i x256 e257
        exact (kept_refused _ _ _ h0)
      · rename_i x258 e259
        exact (kept_joinQueue _ _ _ _ _ h0)
      · rename_i x260 e261
        exact (f9 _ (kept_beginWork _ _ _ _ _ h0)))

theorem kept_noteFlags {s0 : State} (s : State) (a1 : Nat) (a2 : Nat) (a3 : Bool) (a4 : Nat)  (h0 : Kept s0 s) : Kept s0 (noteFlags s a1 a2 a3 a4) := by
  unfold noteFlags
  exact (kept_ite h0 (by
      extract_lets v235
      have h236 : Kept s0 v235 := (kept_orWord _ _ _ h0)
      clear_value v235
      exact (kept_updTask _ _ _ _ h236)))

/-! ### Machine/Sequencer.lean -/

theorem kept_semSignal {s0 : State} (s : State) (a1 : Nat) (a2 : Nat) (a3 : Nat) (a4 : Nat)  (h0 : Kept s0 s) : Kept s0 (semSignal s a1 a2 a3 a4) := by
  unfold semSignal
  exact (kept_ite (kept_abortTask _ _ _ _ (kept_setSem _ _ _ _ h0)) (kept_setSem _ _ _ _ h0))

theorem kept_holdCtx {s0 : State} (s : State) (a1 : Nat) (a2 : Nat) (a3 : Hold) (a4 : Bool)  (h0 : Kept s0 s) : Kept s0 (holdCtx s a1 a2 a3 a4) := by
  unfold holdCtx
  exact (kept_setSeqStatus _ _ _ _ _ (kept_setCtx _ _ _ _ h0))

theorem kept_resume {s0 : State} (s : State) (a1 : Nat) (a2 : Nat)  (h0 : Kept s0 s) : Kept s0 (resume s a1 a2) := by
  unfold resume
  exact (kept_nextPc _ _ _ (kept_holdCtx _ _ _ _ _ h0))

theorem kept_execNop {s0 : State} (a0 : Nat) (a1 : Nat) (a2 : Sys2Proof.W128) (s : State)  (h0 : Kept s0 s) : KeptOut s0 (execNop a0 a1 a2 s) := by
  unfold execNop
  exact (kept_out (kept_ite (kept_nextPc _ _ _ h0) (kept_notIssued _ _ _ h0)))

theorem kept_execWait {s0 : State} (a0 : Nat) (a1 : Nat) (a2 : Sys2Proof.W128) (s : State)  (h0 : Kept s0 s) : KeptOut s0 (execWait a0 a1 a2 s) := by
  unfold execWait
  exact (kept_out (kept_ite (kept_notIssued _ _ _ h0) (kept_ite (kept_nextPc _ _ _ h0) (kept_ite (kept_ite (kept_nextPc _ _ _ (kept_setSem _ _ _ _ h0)) (kept_holdCtx _ _ _ _ _ h0)) (by
      split
      · rename_i x4 x5 e6
        exact (kept_unitAbort _ _ _ _ h0)
      · rename_i x11 x12 e13
        exact (kept_ite (kept_nextPc _ _ _ h0) (kept_holdCtx _ _ _ _ _ h0)))))))

theorem kept_execWaitSatisfied {s0 : State} (a0 : Nat) (a1 : Nat) (s : State)  (h0 : Kept s0 s) : KeptOut s0 (execWaitSatisfied a0 a1 s) := by
  unfold execWaitSatisfied
  exact (kept_out (kept_ite h0 (by
      split
      · rename_i x0 x1 x2 e3
        exact (kept_ite (kept_resume _ _ _ (kept_setSem _ _ _ _ h0)) h0)
      · rename_i x7 x8 x9 e10
        exact (by
          split
          · rename_i x14 x15 e16
            exact (kept_unitAbort _ _ _ _ h0)
          · rename_i x17 x18 e19
            exact (kept_ite (kept_resume _ _ _ h0) h0))
      · rename_i x24 e25 e26
        exact h0)))

theorem kept_execSignal {s0 : State} (a0 : Nat) (a1 : Nat) (a2 : Sys2Proof.W128) (s : State)  (h0 : Kept s0 s) : KeptOut s0 (execSignal a0 a1 a2 s) := by
  unfold execSignal
  exact (kept_out (kept_ite (kept_notIssued _ _ _ h0) (kept_ite (kept_nextPc _ _ _ h0) (kept_ite (kept_semSignal _ _ _ _ _ (kept_nextPc _ _ _ h0)) (kept_holdCtx _ _ _ _ _ h0)))))

theorem kept_execReadyCounterAdvance {s0 : State} (a0 : Nat) (a1 : Nat) (s : State)  (h0 : Kept s0 s) : KeptOut s0 (execReadyCounterAdvance a0 a1 s) := by
  unfold execReadyCounterAdvance
  exact (kept_out (kept_ite h0 (by
      split
      · rename_i x20 x21 x22 e23
        exact (kept_ite h0 (by
          split
          · rename_i x27 x28 e29
            exact (kept_unitAbort _ _ _ _ h0)
          · rename_i x30 x31 e32
            exact (by
              split
              · rename_i x33 x34 e35
                exact (kept_unitAbort _ _ _ _ h0)
              · rename_i x36 t37 e38
                exact (by
                  extract_lets v39
                  exact (kept_resume _ _ _ (kept_updTask _ _ _ _ (keptE_get (f := fun x => x) e38 (kept_storeWrite _ _ _ _ h0))))))))
      · rename_i x40 e41
        exact h0)))

theorem kept_execPeriod {s0 : State} (a0 : Nat) (a1 : Nat) (a2 : Sys2Proof.W128) (s : State)  (h0 : Kept s0 s) : KeptOut s0 (execPeriod a0 a1 a2 s) := by
  unfold execPeriod
  exact (kept_out (kept_ite (kept_holdCtx _ _ _ _ _ h0) (kept_notIssued _ _ _ h0)))

end Sys2Proof.Machine
end

