-- ==== Sys2Proof/Laws/KeptCompute.lean ====
section
/-! SUPPORT. `Kept` through the arrays and the vector unit: one lemma per function. -/

namespace Sys2Proof.Machine

/-! ### Machine/Arrays.lean -/

theorem kept_chargeArray {s0 : State} (s : State) (a1 : Nat) (a2 : Nat) (a3 : Nat) (a4 : Nat)  (h0 : Kept s0 s) : Kept s0 (chargeArray s a1 a2 a3 a4) := by
  unfold chargeArray
  exact (kept_count64 _ _ _ (kept_charge _ _ _ _ h0))

theorem kept_arrayIssue {s0 : State} (s : State) (a1 : Nat) (a2 : Nat) (a3 : Sys2Proof.W128) (a4 : Nat) (a5 : Bool) (a6 : State → State) (f6 : ∀ t, Kept s0 t → Kept s0 (a6 t)) (h0 : Kept s0 s) : Kept s0 (arrayIssue s a1 a2 a3 a4 a5 a6) := by
  unfold arrayIssue
  exact (kept_issue _ _ _ _ _ _ _ _ _ _ (fun t0 h1 => (f6 _ h1)) h0)

theorem kept_agFault {s0 : State} (s : State) (a1 : Nat) (a2 : Nat) (a3 : Nat) (a4 : Nat) (a5 : Abort)  (h0 : Kept s0 s) : Kept s0 (agFault s a1 a2 a3 a4 a5) := by
  unfold agFault
  exact (by
      extract_lets v2
      have h3 : Kept s0 v2 := (kept_ite (kept_arrive _ _ _ (kept_wr32 _ _ _ h0)) h0)
      clear_value v2
      exact (kept_unitAbort _ _ _ _ (kept_raise _ _ _ h3)))

theorem kept_setShadow {s0 : State} (s : State) (a1 : Nat) (a2 : Nat) (a3 : Weights)  (h0 : Kept s0 s) : Kept s0 (setShadow s a1 a2 a3) := by
  unfold setShadow
  exact (by
      extract_lets v4 v5
      exact (kept_aryState _ _ _ _ _ (kept_setCore _ _ _ h0)))

theorem kept_chainSend {s0 : State} (s : State) (a1 : Nat) (a2 : ChainPart)  (h0 : Kept s0 s) : Kept s0 (chainSend s a1 a2) := by
  unfold chainSend
  exact (by
      split
      · rename_i x6 e7
        exact h0
      · rename_i x8 x9 e10
        exact (kept_setCore _ _ _ h0))

theorem kept_ldwFinish {s0 : State} (s : State) (a1 : Nat) (a2 : Nat) (a3 : Sys2Proof.W128) (a4 : List Sys2Proof.Byte) (a5 : List Sys2Proof.Byte)  (h0 : Kept s0 s) : Kept s0 (ldwFinish s a1 a2 a3 a4 a5) := by
  unfold ldwFinish
  exact (kept_chargeArray _ _ _ _ _ (kept_setShadow _ _ _ _ h0))

theorem kept_chainTake {s0 : State} (s : State) (a1 : Nat) (a2 : Nat)  (h0 : Kept s0 s) : Kept s0 (chainTake s a1 a2) := by
  induction a2 generalizing s a1 with
  | zero =>
    unfold chainTake
    exact h0
  | succ k ih =>
    unfold chainTake
    exact (by
        split
        · rename_i x141 e142
          exact h0
        · rename_i x143 x144 e145
          exact (by
            split
            · rename_i x146 e147
              exact h0
            · rename_i x148 x149 e150
              exact (kept_ite (kept_unitAbort _ _ _ _ h0) (kept_ite h0 (by
                extract_lets v151 v152 v153 v154 v155 v156
                have h157 : Kept s0 v151 := (kept_updTask _ _ _ _ (kept_ite (kept_chainSend _ _ _ h0) h0))
                clear_value v151
                have h158 : Kept s0 v156 := (kept_setCore _ _ _ h157)
                clear_value v156
                exact (kept_ite (kept_ldwFinish _ _ _ _ _ _ (kept_aryState _ _ _ _ _ h158)) (ih _ _ (kept_setCore _ _ _ h157))))))))

theorem kept_chainOpen {s0 : State} (s : State) (a1 : Nat) (a2 : ChainLoad)  (h0 : Kept s0 s) : Kept s0 (chainOpen s a1 a2) := by
  unfold chainOpen
  exact (kept_chainTake _ _ _ (kept_aryState _ _ _ _ _ (kept_setCore _ _ _ h0)))

theorem kept_ldwRun {s0 : State} (a0 : Nat) (a1 : Nat) (a2 : Sys2Proof.W128) (s : State)  (h0 : Kept s0 s) : Kept s0 (ldwRun a0 a1 a2 s) := by
  unfold ldwRun
  exact (kept_ite (kept_chainOpen _ _ _ h0) (by
      split
      · rename_i x163 x164 e165
        exact (kept_agFault _ _ _ _ _ _ h0)
      · rename_i x166 x167 x168 e169
        exact (kept_ite (kept_chainOpen _ _ _ h0) (kept_ldwFinish _ _ _ _ _ _ h0))))

theorem kept_chainFeed {s0 : State} (s : State) (a1 : Nat)  (h0 : Kept s0 s) : Kept s0 (chainFeed s a1) := by
  unfold chainFeed
  exact (by
      split
      · rename_i x11 e12
        exact h0
      · rename_i x13 x14 e15
        exact (kept_chainTake _ _ _ h0))

theorem kept_execLdw {s0 : State} (a0 : Nat) (a1 : Nat) (a2 : Sys2Proof.W128) (s : State)  (h0 : Kept s0 s) : KeptOut s0 (execLdw a0 a1 a2 s) := by
  unfold execLdw
  exact (kept_out (kept_arrayIssue _ _ _ _ _ _ _ (fun t16 h17 => (kept_ldwRun _ _ _ _ h17)) h0))

theorem kept_execChainPartArrival {s0 : State} (a0 : Nat) (s : State)  (h0 : Kept s0 s) : KeptOut s0 (execChainPartArrival a0 s) := by
  unfold execChainPartArrival
  exact (kept_out (by
      extract_lets v18 v19
      exact (kept_ite h0 (by
        split
        · rename_i x25 e26
          exact (kept_chainFeed _ _ h0)
        · rename_i x159 x160 x161 e162
          exact (kept_ite h0 (kept_chainFeed _ _ (kept_chainTake _ _ _ (kept_setCore _ _ _ h0))))))))

theorem kept_setBankEntry {s0 : State} (s : State) (a1 : Nat) (a2 : Nat) (a3 : Nat) (a4 : Nat) (a5 : Nat) (a6 : Acc)  (h0 : Kept s0 s) : Kept s0 (setBankEntry s a1 a2 a3 a4 a5 a6) := by
  unfold setBankEntry
  exact (kept_setCore _ _ _ h0)

theorem kept_setNextG {s0 : State} (s : State) (a1 : Nat) (a2 : Nat) (a3 : Nat) (a4 : Nat)  (h0 : Kept s0 s) : Kept s0 (setNextG s a1 a2 a3 a4) := by
  unfold setNextG
  exact (kept_setCore _ _ _ h0)

theorem kept_useRegion {s0 : State} (s : State) (a1 : Nat) (a2 : Nat) (a3 : Nat) (a4 : Nat) (a5 : Nat) (a6 : Nat)  (h0 : Kept s0 s) : Kept s0 (useRegion s a1 a2 a3 a4 a5 a6) := by
  unfold useRegion
  exact (kept_setBankV _ _ _ _ _ (kept_setCtx _ _ _ _ h0))

theorem kept_writeRow {s0 : State} (s : State) (a1 : Nat) (a2 : Nat) (a3 : Nat) (a4 : Nat) (a5 : List Acc)  (h0 : Kept s0 s) : Kept s0 (writeRow s a1 a2 a3 a4 a5) := by
  unfold writeRow
  exact (by
      extract_lets v20 v21
      exact (kept_setCore _ _ _ h0))

theorem kept_streamRows {s0 : State} (s : State) (a1 : Nat) (a2 : Nat) (a3 : Pass) (a4 : Nat) (a5 : Nat) (a6 : Nat) (a7 : Nat) (a8 : Bool) (a9 : Nat)  (h0 : Kept s0 s) : KeptE Prod.fst s0 (streamRows s a1 a2 a3 a4 a5 a6 a7 a8 a9) := by
  unfold streamRows
  exact (keptE_foldlM (fun x22 x23 h24 => (by
      split
      · rename_i x27 t28 x29
        exact (keptE_bind (fun x30 x31 => (by
          extract_lets v32
          exact (keptE_pure (kept_fst (kept_writeRow _ _ _ _ _ _ h24)))))))) h0)

theorem kept_mmaSwapIn {s0 : State} (s : State) (a1 : Nat) (a2 : Sys2Proof.W128)  (h0 : Kept s0 s) : Kept s0 (mmaSwapIn s a1 a2) := by
  unfold mmaSwapIn
  exact (kept_ite h0 (by
      extract_lets v33 v34 v35
      exact (kept_aryState _ _ _ _ _ (kept_setCore _ _ _ h0))))

theorem kept_mmaAfter {s0 : State} (s : State) (a1 : Nat) (a2 : Nat) (a3 : Sys2Proof.W128) (a4 : Nat) (a5 : Nat)  (h0 : Kept s0 s) : Kept s0 (mmaAfter s a1 a2 a3 a4 a5) := by
  unfold mmaAfter
  exact (by
      extract_lets v36
      have h37 : Kept s0 v36 := (kept_ite (kept_advPos _ _ _ _ h0) h0)
      clear_value v36
      exact (kept_chargeArray _ _ _ _ _ h37))

theorem kept_mmaBankMode {s0 : State} (a0 : Nat) (a1 : Nat) (a2 : Sys2Proof.W128) (a3 : Bool) (s : State)  (h0 : Kept s0 s) : Kept s0 (mmaBankMode a0 a1 a2 a3 s) := by
  unfold mmaBankMode
  exact (by
      extract_lets v38 v39 v40
      have h41 : Kept s0 v39 := h0
      clear_value v39
      have h42 : Kept s0 v40 := (kept_mmaSwapIn _ _ _ h0)
      clear_value v40
      exact (kept_ite (kept_unitAbort _ _ _ _ (kept_raise _ _ _ h0)) (by
        split
        · rename_i x54 x55 e56
          exact (kept_agFault _ _ _ _ _ _ h41)
        · rename_i x61 x62 e63
          exact (by
            extract_lets v68
            exact (by
              split
              · rename_i x77 x78 e79
                exact (kept_agFault _ _ _ _ _ _ h41)
              · rename_i x80 t81 x82 e83
                exact (by
                  extract_lets v87
                  have h88 : Kept s0 v87 := (kept_noteFlags _ _ _ _ _ (kept_useRegion _ _ _ _ _ _ _ (keptE_get (f := Prod.fst) e83 (kept_streamRows _ _ _ _ _ _ _ _ _ _ (kept_writeBand _ _ _ _ _ h42)))))
                  clear_value v87
                  exact (kept_mmaAfter _ _ _ _ _ _ (kept_setNextG _ _ _ _ _ h88))))))))

theorem kept_mmaIssue {s0 : State} (a0 : Nat) (a1 : Nat) (a2 : Sys2Proof.W128) (a3 : Nat) (a4 : State → State) (s : State) (f4 : ∀ t, Kept s0 t → Kept s0 (a4 t)) (h0 : Kept s0 s) : KeptOut s0 (mmaIssue a0 a1 a2 a3 a4 s) := by
  unfold mmaIssue
  exact (kept_out (kept_ite h0 (kept_arrayIssue _ _ _ _ _ _ _ (fun t43 h44 => (f4 _ h44)) h0)))

theorem kept_execMmaStart {s0 : State} (a0 : Nat) (a1 : Nat) (a2 : Sys2Proof.W128) (s : State)  (h0 : Kept s0 s) : KeptOut s0 (execMmaStart a0 a1 a2 s) := by
  unfold execMmaStart
  exact (kept_mmaIssue _ _ _ _ _ _ (fun t47 h48 => (kept_mmaBankMode _ _ _ _ _ h48)) h0)

theorem kept_execMmaCont {s0 : State} (a0 : Nat) (a1 : Nat) (a2 : Sys2Proof.W128) (s : State)  (h0 : Kept s0 s) : KeptOut s0 (execMmaCont a0 a1 a2 s) := by
  unfold execMmaCont
  exact (kept_mmaIssue _ _ _ _ _ _ (fun t45 h46 => (kept_mmaBankMode _ _ _ _ _ h46)) h0)

theorem kept_drainRow {s0 : State} (s : State) (a1 : Nat) (a2 : Nat) (a3 : Nat) (a4 : ConvWord) (a5 : List (Nat × (Int ⊕ Fp)))  (h0 : Kept s0 s) : KeptE Prod.fst s0 (drainRow s a1 a2 a3 a4 a5) := by
  unfold drainRow
  exact (by
      split
      · rename_i x64 x65 x66 e67
        exact (keptE_ite (keptE_foldlM (fun x74 x75 h76 => (by
          split
          · rename_i x84 t85 x86
            exact (by
              split
              · rename_i x89 x90 x91 x92 e93
                exact (keptE_bind (fun t94 x95 => (keptE_bind (fun t97 x98 => (keptE_pure (kept_fst (keptE_get (f := fun x => x) x98 (keptE_foldlM (fun t99 x100 h101 => (by
                  split
                  · rename_i x102 x103 x104
                    exact (kept_writeAt _ _ _ _ _ _ _ _ h101))) (keptE_get (f := fun x => x) x95 (kept_writeScale _ _ _ _ _ _ _ h76))))))))))))) h0) (keptE_foldlM (fun x115 x116 h117 => (by
          split
          · rename_i x118 t119 x120
            exact (by
              split
              · rename_i x125 x126 e127
                exact (keptE_bind (fun t128 x129 => (keptE_pure (kept_fst (keptE_get (f := fun x => x) x129 (kept_writeAt _ _ _ _ _ _ _ _ h117))))))
              · rename_i x132 x133 e134
                exact (by
                  split
                  · rename_i x135 x136 x137 e138
                    exact (keptE_bind (fun t139 x140 => (keptE_pure (kept_fst (keptE_get (f := fun x => x) x140 (kept_writeAt _ _ _ _ _ _ _ _ h117)))))))))) h0)))

theorem kept_drainRows {s0 : State} (s : State) (a1 : Nat) (a2 : Sys2Proof.W128) (a3 : Nat) (a4 : List Sys2Proof.Byte)  (h0 : Kept s0 s) : KeptE Prod.fst s0 (drainRows s a1 a2 a3 a4) := by
  unfold drainRows
  exact (by
      extract_lets v49 v50
      exact (keptE_foldlM (fun x51 x52 h53 => (by
        split
        · rename_i x57 t58 x59
          exact (by
            extract_lets v60
            exact (keptE_bind (fun x69 x70 => (by
              split
              · rename_i x71 t72 x73
                exact (keptE_pure (kept_fst (keptE_get (f := Prod.fst) x70 (kept_drainRow _ _ _ _ _ _ h53)))))))))) h0))

theorem kept_drainRun {s0 : State} (a0 : Nat) (a1 : Nat) (a2 : Sys2Proof.W128) (s : State)  (h0 : Kept s0 s) : Kept s0 (drainRun a0 a1 a2 s) := by
  unfold drainRun
  exact (by
      extract_lets v96
      exact (by
        unfold v96
        split
        · rename_i x105 x106 x107 e108
          exact (kept_agFault _ _ _ _ _ _ h0)
        · rename_i x111 t112 x113 e114
          exact (kept_chargeArray _ _ _ _ _ (kept_noteFlags _ _ _ _ _ (kept_advPos _ _ _ _ (keptE_get (f := Prod.fst) e114 (keptE_bind (fun x121 x122 => (keptE_bind (fun x123 x124 => (keptE_bind (fun x130 x131 => (keptE_mapError (kept_drainRows _ _ _ _ _ h0))))))))))))))

theorem kept_execDrain {s0 : State} (a0 : Nat) (a1 : Nat) (a2 : Sys2Proof.W128) (s : State)  (h0 : Kept s0 s) : KeptOut s0 (execDrain a0 a1 a2 s) := by
  unfold execDrain
  exact (kept_out (kept_arrayIssue _ _ _ _ _ _ _ (fun t109 h110 => (kept_drainRun _ _ _ _ h110)) h0))

/-! ### Machine/Vector.lean -/

theorem kept_setVec {s0 : State} (s : State) (a1 : Nat) (a2 : Vec)  (h0 : Kept s0 s) : Kept s0 (setVec s a1 a2) := by
  unfold setVec
  exact (kept_setCore _ _ _ h0)

theorem kept_setMicroPc {s0 : State} (s : State) (a1 : Nat) (a2 : Nat)  (h0 : Kept s0 s) : Kept s0 (setMicroPc s a1 a2) := by
  unfold setMicroPc
  exact (kept_wrBits _ _ _ _ _ h0)

theorem kept_vecFault {s0 : State} (s : State) (a1 : Nat) (a2 : Nat) (a3 : Abort)  (h0 : Kept s0 s) : Kept s0 (vecFault s a1 a2 a3) := by
  unfold vecFault
  exact (by
      extract_lets v0 v1
      have h2 : Kept s0 v0 := (kept_wr32 _ _ _ h0)
      clear_value v0
      have h3 : Kept s0 v1 := (kept_arrive _ _ _ (kept_raise _ _ _ h2))
      clear_value v1
      exact (kept_unitAbort _ _ _ _ h3))

theorem kept_microNext {s0 : State} (s : State) (a1 : Nat) (a2 : VJob)  (h0 : Kept s0 s) : Kept s0 (microNext s a1 a2) := by
  unfold microNext
  exact (by
      extract_lets v4 v5
      exact (by
        split
        · rename_i x6 x7 x8 e9
          exact (by
            extract_lets v15
            have h16 : Kept s0 v15 := (kept_setVec _ _ _ h0)
            clear_value v15
            exact (kept_count64 _ _ _ (kept_setMicroPc _ _ _ h16)))))

theorem kept_micro {s0 : State} (a0 : Nat) (a1 : Sys2Proof.W64) (a2 : Nat) (a3 : VJob →
  State → Except Abort (State × VJob)) (s : State) (f3 : ∀ j t, Kept s0 t → KeptE Prod.fst s0 (a3 j t)) (h0 : Kept s0 s) : KeptOut s0 (micro a0 a1 a2 a3 s) := by
  unfold micro
  exact (kept_out (by
      split
      · rename_i x10 e11
        exact h0
      · rename_i x12 x13 e14
        exact (kept_ite h0 (by
          split
          · rename_i x18 x19 e20
            exact (kept_vecFault _ _ _ _ h0)
          · rename_i x21 t22 x23 e24
            exact (kept_microNext _ _ _ (keptE_get (f := Prod.fst) e24 (f3 _ _ h0)))))))

theorem kept_putLanes {s0 : State} (s : State) (a1 : Nat) (a2 : Nat) (a3 : Sys2Proof.W64) (a4 : Nat → Sys2Proof.W64 × NumFlags)  (h0 : Kept s0 s) : Kept s0 (putLanes s a1 a2 a3 a4) := by
  unfold putLanes
  exact (by
      extract_lets v17
      exact (by
        split
        · rename_i x25 x26 x27 e28
          exact (kept_noteFlags _ _ _ _ _ (kept_setVec _ _ _ h0))))

theorem kept_intStep {s0 : State} (a0 : Nat) (a1 : Sys2Proof.W64) (a2 : Nat) (a3 : Vec → Nat → Int × NumFlags) (s : State)  (h0 : Kept s0 s) : KeptOut s0 (intStep a0 a1 a2 a3 s) := by
  unfold intStep
  exact (kept_micro _ _ _ _ _ (fun x31 t32 h34 => (keptE_ok (kept_fst (kept_putLanes _ _ _ _ _ h34)))) h0)

theorem kept_fpStepFmt {s0 : State} (a0 : Nat) (a1 : Sys2Proof.W64) (a2 : Nat) (a3 : Nat) (a4 : Vec → Nat → Fp × NumFlags) (s : State)  (h0 : Kept s0 s) : KeptOut s0 (fpStepFmt a0 a1 a2 a3 a4 s) := by
  unfold fpStepFmt
  exact (kept_micro _ _ _ _ _ (fun x37 t38 h39 => (keptE_ok (kept_fst (kept_putLanes _ _ _ _ _ h39)))) h0)

theorem kept_cmpStep {s0 : State} (a0 : Nat) (a1 : Sys2Proof.W64) (a2 : Nat) (a3 : Vec → Nat → Bool × NumFlags) (s : State)  (h0 : Kept s0 s) : KeptOut s0 (cmpStep a0 a1 a2 a3 s) := by
  unfold cmpStep
  exact (kept_micro _ _ _ _ _ (fun x33 t35 h36 => (by
      extract_lets v40 v41
      exact (by
        split
        · rename_i x43 x44 x46 e47
          exact (keptE_ok (kept_fst (kept_noteFlags _ _ _ _ _ (kept_setVec _ _ _ h36))))))) h0)

theorem kept_vecIssue {s0 : State} (a0 : Nat) (a1 : Nat) (a2 : Sys2Proof.W128) (a3 : Nat) (a4 : State → State) (s : State) (f4 : ∀ t, Kept s0 t → Kept s0 (a4 t)) (h0 : Kept s0 s) : KeptOut s0 (vecIssue a0 a1 a2 a3 a4 s) := by
  unfold vecIssue
  exact (kept_out (kept_ite h0 (kept_issue _ _ _ _ _ _ _ _ _ _ (fun t29 h30 => (f4 _ h30)) h0)))

theorem kept_vecRun {s0 : State} (a0 : Nat) (a1 : Nat) (a2 : Sys2Proof.W128) (s : State)  (h0 : Kept s0 s) : Kept s0 (vecRun a0 a1 a2 s) := by
  unfold vecRun
  exact (kept_wr32 _ _ _ (kept_setVec _ _ _ h0))

theorem kept_execVecMicroprogram {s0 : State} (a0 : Nat) (a1 : Nat) (a2 : Sys2Proof.W128) (s : State)  (h0 : Kept s0 s) : KeptOut s0 (execVecMicroprogram a0 a1 a2 s) := by
  unfold execVecMicroprogram
  exact (kept_vecIssue _ _ _ _ _ _ (fun t42 h45 => (kept_vecRun _ _ _ _ h45)) h0)

theorem kept_execMicroNop {s0 : State} (a0 : Nat) (a1 : Sys2Proof.W64) (s : State)  (h0 : Kept s0 s) : KeptOut s0 (execMicroNop a0 a1 s) := by
  unfold execMicroNop
  exact (kept_micro _ _ _ _ _ (fun x48 t49 h50 => (keptE_ok h50)) h0)

theorem kept_vecEnd {s0 : State} (s : State) (a1 : Nat) (a2 : VJob)  (h0 : Kept s0 s) : Kept s0 (vecEnd s a1 a2) := by
  unfold vecEnd
  exact (by
      extract_lets v51 v52 v53 v54
      have h55 : Kept s0 v51 := (kept_ite h0 (kept_advElems _ _ _ _ h0))
      clear_value v51
      have h61 : Kept s0 v52 := (kept_ite h55 (kept_advElems _ _ _ _ h55))
      clear_value v52
      have h68 : Kept s0 v53 := (kept_ite h61 (kept_advElems _ _ _ _ h61))
      clear_value v53
      exact (kept_wrBits _ _ _ _ _ (kept_setVec _ _ _ h68)))

theorem kept_execMicroEnd {s0 : State} (a0 : Nat) (a1 : Sys2Proof.W64) (s : State)  (h0 : Kept s0 s) : KeptOut s0 (execMicroEnd a0 a1 s) := by
  unfold execMicroEnd
  exact (kept_out (by
      split
      · rename_i x56 e57
        exact h0
      · rename_i x58 x59 e60
        exact (kept_ite (kept_vecEnd _ _ _ (kept_setMicroPc _ _ _ (kept_microNext _ _ _ h0))) h0)))

theorem kept_execLoop {s0 : State} (a0 : Nat) (a1 : Sys2Proof.W64) (s : State)  (h0 : Kept s0 s) : KeptOut s0 (execLoop a0 a1 s) := by
  unfold execLoop
  exact (kept_micro _ _ _ _ _ (fun x62 t63 h64 => (by
      extract_lets v65 v66 v67
      exact (keptE_ok h64))) h0)

theorem kept_execLd {s0 : State} (a0 : Nat) (a1 : Sys2Proof.W64) (s : State)  (h0 : Kept s0 s) : KeptOut s0 (execLd a0 a1 s) := by
  unfold execLd
  exact (kept_micro _ _ _ _ _ (fun x69 t70 h71 => (by
      extract_lets v72 v73
      exact (keptE_bind (fun x74 x75 => (keptE_bind (fun x79 x80 => (by
        extract_lets v81
        have h82 : Kept s0 v81 := (kept_putLanes _ _ _ _ _ h71)
        clear_value v81
        exact (keptE_pure h82)))))))) h0)

theorem kept_storeFp4 {s0 : State} (s : State) (a1 : Nat) (a2 : Nat) (a3 : Nat) (a4 : Vec) (a5 : Sys2Proof.W64)  (h0 : Kept s0 s) : KeptE Prod.fst s0 (storeFp4 s a1 a2 a3 a4 a5) := by
  unfold storeFp4
  exact (keptE_foldlM (fun x76 x77 h78 => (by
      split
      · rename_i x95 t96 x97
        exact (by
          extract_lets v98
          exact (keptE_ite (keptE_pure h78) (by
            split
            · rename_i x110 x111 x112 x113 e114
              exact (by
                split
                · rename_i x115 x116 x117 x118 e119
                  exact (keptE_bind (fun t120 x121 => (keptE_bind (fun t122 x123 => (keptE_pure (kept_fst (keptE_get (f := fun x => x) x123 (keptE_foldlM (fun t126 x127 h128 => (by
                    split
                    · rename_i x129 x130 x131
                      exact (kept_writeElem _ _ _ _ _ _ h128))) (keptE_get (f := fun x => x) x121 (kept_writeScale _ _ _ _ _ _ _ h78)))))))))))))))) h0)

theorem kept_storeLane {s0 : State} (s : State) (a1 : NumFlags) (a2 : Nat) (a3 : Nat) (a4 : Nat) (a5 : Vec) (a6 : Sys2Proof.W64) (a7 : Nat)  (h0 : Kept s0 s) : KeptE Prod.fst s0 (storeLane s a1 a2 a3 a4 a5 a6 a7) := by
  unfold storeLane
  exact (keptE_ite (keptE_ok h0) (keptE_bind (fun t86 x87 => (keptE_pure (kept_fst (keptE_get (f := fun x => x) x87 (kept_writeElem _ _ _ _ _ _ h0)))))))

theorem kept_execSt {s0 : State} (a0 : Nat) (a1 : Sys2Proof.W64) (s : State)  (h0 : Kept s0 s) : KeptOut s0 (execSt a0 a1 s) := by
  unfold execSt
  exact (kept_micro _ _ _ _ _ (fun x83 t84 h85 => (keptE_bind (fun x91 x92 => (by
      extract_lets v101 v102
      exact (keptE_ite (keptE_bind (fun x124 x125 => (by
        unfold v102
        split
        · rename_i x143 t144 x145
          exact (keptE_pure (kept_fst (kept_noteFlags _ _ _ _ _ (keptE_get (f := Prod.fst) x125 (kept_storeFp4 _ _ _ _ _ _ h85)))))))) (keptE_bind (fun x146 x147 => (by
        unfold v102
        split
        · rename_i x148 t149 x150
          exact (keptE_pure (kept_fst (kept_noteFlags _ _ _ _ _ (keptE_get (f := Prod.fst) x147 (keptE_foldlM (fun x155 x156 h157 => (kept_storeLane _ _ _ _ _ _ _ _ h157)) h85))))))))))))) h0)

theorem kept_execLdp {s0 : State} (a0 : Nat) (a1 : Sys2Proof.W64) (s : State)  (h0 : Kept s0 s) : KeptOut s0 (execLdp a0 a1 s) := by
  unfold execLdp
  exact (kept_micro _ _ _ _ _ (fun x88 t89 h90 => (by
      extract_lets v93 v94
      exact (keptE_ite (keptE_bind (fun x99 x100 => (keptE_pure (kept_fst (kept_putLanes _ _ _ _ _ h90))))) (keptE_bind (fun x108 x109 => (keptE_pure (kept_fst (kept_putLanes _ _ _ _ _ h90)))))))) h0)

theorem kept_execMovi {s0 : State} (a0 : Nat) (a1 : Sys2Proof.W64) (s : State)  (h0 : Kept s0 s) : KeptOut s0 (execMovi a0 a1 s) := by
  unfold execMovi
  exact (kept_intStep _ _ _ _ _ h0)

theorem kept_execMov {s0 : State} (a0 : Nat) (a1 : Sys2Proof.W64) (s : State)  (h0 : Kept s0 s) : KeptOut s0 (execMov a0 a1 s) := by
  unfold execMov
  exact (kept_intStep _ _ _ _ _ h0)

theorem kept_execSel {s0 : State} (a0 : Nat) (a1 : Sys2Proof.W64) (s : State)  (h0 : Kept s0 s) : KeptOut s0 (execSel a0 a1 s) := by
  unfold execSel
  exact (kept_micro _ _ _ _ _ (fun x103 t104 h105 => (by
      extract_lets v106 v107
      exact (keptE_ok (kept_fst (kept_setVec _ _ _ h105))))) h0)

theorem kept_execIadd {s0 : State} (a0 : Nat) (a1 : Sys2Proof.W64) (s : State)  (h0 : Kept s0 s) : KeptOut s0 (execIadd a0 a1 s) := by
  unfold execIadd
  exact (kept_intStep _ _ _ _ _ h0)

theorem kept_execIsub {s0 : State} (a0 : Nat) (a1 : Sys2Proof.W64) (s : State)  (h0 : Kept s0 s) : KeptOut s0 (execIsub a0 a1 s) := by
  unfold execIsub
  exact (kept_intStep _ _ _ _ _ h0)

theorem kept_execImul {s0 : State} (a0 : Nat) (a1 : Sys2Proof.W64) (s : State)  (h0 : Kept s0 s) : KeptOut s0 (execImul a0 a1 s) := by
  unfold execImul
  exact (kept_intStep _ _ _ _ _ h0)

theorem kept_execIshr {s0 : State} (a0 : Nat) (a1 : Sys2Proof.W64) (s : State)  (h0 : Kept s0 s) : KeptOut s0 (execIshr a0 a1 s) := by
  unfold execIshr
  exact (kept_intStep _ _ _ _ _ h0)

theorem kept_execIshl {s0 : State} (a0 : Nat) (a1 : Sys2Proof.W64) (s : State)  (h0 : Kept s0 s) : KeptOut s0 (execIshl a0 a1 s) := by
  unfold execIshl
  exact (kept_intStep _ _ _ _ _ h0)

theorem kept_execImax {s0 : State} (a0 : Nat) (a1 : Sys2Proof.W64) (s : State)  (h0 : Kept s0 s) : KeptOut s0 (execImax a0 a1 s) := by
  unfold execImax
  exact (kept_intStep _ _ _ _ _ h0)

theorem kept_execImin {s0 : State} (a0 : Nat) (a1 : Sys2Proof.W64) (s : State)  (h0 : Kept s0 s) : KeptOut s0 (execImin a0 a1 s) := by
  unfold execImin
  exact (kept_intStep _ _ _ _ _ h0)

theorem kept_execIclip {s0 : State} (a0 : Nat) (a1 : Sys2Proof.W64) (s : State)  (h0 : Kept s0 s) : KeptOut s0 (execIclip a0 a1 s) := by
  unfold execIclip
  exact (kept_intStep _ _ _ _ _ h0)

theorem kept_execIcmp {s0 : State} (a0 : Nat) (a1 : Sys2Proof.W64) (s : State)  (h0 : Kept s0 s) : KeptOut s0 (execIcmp a0 a1 s) := by
  unfold execIcmp
  exact (kept_cmpStep _ _ _ _ _ h0)

theorem kept_execIdiv {s0 : State} (a0 : Nat) (a1 : Sys2Proof.W64) (s : State)  (h0 : Kept s0 s) : KeptOut s0 (execIdiv a0 a1 s) := by
  unfold execIdiv
  exact (kept_intStep _ _ _ _ _ h0)

theorem kept_execTbl {s0 : State} (a0 : Nat) (a1 : Sys2Proof.W64) (s : State)  (h0 : Kept s0 s) : KeptOut s0 (execTbl a0 a1 s) := by
  unfold execTbl
  exact (kept_micro _ _ _ _ _ (fun x132 t133 h134 => (by
      extract_lets v135
      exact (keptE_bind (fun x136 x137 => (keptE_bind (fun x138 x139 => (by
        extract_lets v140
        exact (keptE_bind (fun x141 x142 => (keptE_pure (kept_fst (kept_putLanes _ _ _ _ _ h134)))))))))))) h0)

theorem kept_execExp2q {s0 : State} (a0 : Nat) (a1 : Sys2Proof.W64) (s : State)  (h0 : Kept s0 s) : KeptOut s0 (execExp2q a0 a1 s) := by
  unfold execExp2q
  exact (kept_intStep _ _ _ _ _ h0)

theorem kept_execLog2q {s0 : State} (a0 : Nat) (a1 : Sys2Proof.W64) (s : State)  (h0 : Kept s0 s) : KeptOut s0 (execLog2q a0 a1 s) := by
  unfold execLog2q
  exact (kept_intStep _ _ _ _ _ h0)

theorem kept_execRsqrtq {s0 : State} (a0 : Nat) (a1 : Sys2Proof.W64) (s : State)  (h0 : Kept s0 s) : KeptOut s0 (execRsqrtq a0 a1 s) := by
  unfold execRsqrtq
  exact (kept_intStep _ _ _ _ _ h0)

theorem kept_execFadd {s0 : State} (a0 : Nat) (a1 : Sys2Proof.W64) (s : State)  (h0 : Kept s0 s) : KeptOut s0 (execFadd a0 a1 s) := by
  unfold execFadd
  exact (kept_fpStepFmt _ _ _ _ _ _ h0)

theorem kept_execFsub {s0 : State} (a0 : Nat) (a1 : Sys2Proof.W64) (s : State)  (h0 : Kept s0 s) : KeptOut s0 (execFsub a0 a1 s) := by
  unfold execFsub
  exact (kept_fpStepFmt _ _ _ _ _ _ h0)

theorem kept_execFmul {s0 : State} (a0 : Nat) (a1 : Sys2Proof.W64) (s : State)  (h0 : Kept s0 s) : KeptOut s0 (execFmul a0 a1 s) := by
  unfold execFmul
  exact (kept_fpStepFmt _ _ _ _ _ _ h0)

theorem kept_execFma {s0 : State} (a0 : Nat) (a1 : Sys2Proof.W64) (s : State)  (h0 : Kept s0 s) : KeptOut s0 (execFma a0 a1 s) := by
  unfold execFma
  exact (kept_fpStepFmt _ _ _ _ _ _ h0)

theorem kept_execFmax {s0 : State} (a0 : Nat) (a1 : Sys2Proof.W64) (s : State)  (h0 : Kept s0 s) : KeptOut s0 (execFmax a0 a1 s) := by
  unfold execFmax
  exact (kept_fpStepFmt _ _ _ _ _ _ h0)

theorem kept_execFmin {s0 : State} (a0 : Nat) (a1 : Sys2Proof.W64) (s : State)  (h0 : Kept s0 s) : KeptOut s0 (execFmin a0 a1 s) := by
  unfold execFmin
  exact (kept_fpStepFmt _ _ _ _ _ _ h0)

theorem kept_execFcmp {s0 : State} (a0 : Nat) (a1 : Sys2Proof.W64) (s : State)  (h0 : Kept s0 s) : KeptOut s0 (execFcmp a0 a1 s) := by
  unfold execFcmp
  exact (kept_cmpStep _ _ _ _ _ h0)

theorem kept_execFcvt {s0 : State} (a0 : Nat) (a1 : Sys2Proof.W64) (s : State)  (h0 : Kept s0 s) : KeptOut s0 (execFcvt a0 a1 s) := by
  unfold execFcvt
  exact (kept_fpStepFmt _ _ _ _ _ _ h0)

theorem kept_execFtoi {s0 : State} (a0 : Nat) (a1 : Sys2Proof.W64) (s : State)  (h0 : Kept s0 s) : KeptOut s0 (execFtoi a0 a1 s) := by
  unfold execFtoi
  exact (kept_intStep _ _ _ _ _ h0)

theorem kept_execItof {s0 : State} (a0 : Nat) (a1 : Sys2Proof.W64) (s : State)  (h0 : Kept s0 s) : KeptOut s0 (execItof a0 a1 s) := by
  unfold execItof
  exact (kept_fpStepFmt _ _ _ _ _ _ h0)

theorem kept_execFdiv {s0 : State} (a0 : Nat) (a1 : Sys2Proof.W64) (s : State)  (h0 : Kept s0 s) : KeptOut s0 (execFdiv a0 a1 s) := by
  unfold execFdiv
  exact (kept_fpStepFmt _ _ _ _ _ _ h0)

theorem kept_execExp2f {s0 : State} (a0 : Nat) (a1 : Sys2Proof.W64) (s : State)  (h0 : Kept s0 s) : KeptOut s0 (execExp2f a0 a1 s) := by
  unfold execExp2f
  exact (kept_fpStepFmt _ _ _ _ _ _ h0)

theorem kept_execLog2f {s0 : State} (a0 : Nat) (a1 : Sys2Proof.W64) (s : State)  (h0 : Kept s0 s) : KeptOut s0 (execLog2f a0 a1 s) := by
  unfold execLog2f
  exact (kept_fpStepFmt _ _ _ _ _ _ h0)

theorem kept_execRcpf {s0 : State} (a0 : Nat) (a1 : Sys2Proof.W64) (s : State)  (h0 : Kept s0 s) : KeptOut s0 (execRcpf a0 a1 s) := by
  unfold execRcpf
  exact (kept_fpStepFmt _ _ _ _ _ _ h0)

theorem kept_execRsqrtf {s0 : State} (a0 : Nat) (a1 : Sys2Proof.W64) (s : State)  (h0 : Kept s0 s) : KeptOut s0 (execRsqrtf a0 a1 s) := by
  unfold execRsqrtf
  exact (kept_fpStepFmt _ _ _ _ _ _ h0)

theorem kept_setAcc {s0 : State} (s : State) (a1 : Nat) (a2 : Nat) (a3 : VAcc)  (h0 : Kept s0 s) : Kept s0 (setAcc s a1 a2 a3) := by
  unfold setAcc
  exact (kept_setVec _ _ _ h0)

theorem kept_reduce {s0 : State} (a0 : Nat) (a1 : Sys2Proof.W64) (a2 : Nat) (a3 : Vec → Int → Int × NumFlags) (a4 : Vec → VAcc → VAcc × NumFlags) (s : State)  (h0 : Kept s0 s) : KeptOut s0 (reduce a0 a1 a2 a3 a4 s) := by
  unfold reduce
  exact (kept_micro _ _ _ _ _ (fun x151 t152 h153 => (by
      extract_lets v154
      exact (keptE_ite (by
        split
        · rename_i x158 x159 x160 e161
          exact (keptE_ok (kept_fst (kept_noteFlags _ _ _ _ _ (kept_setAcc _ _ _ _ h153))))) (by
        split
        · rename_i x166 x167 x168 e169
          exact (by
            split
            · rename_i x173 x174 x176 e178
              exact (keptE_ok (kept_fst (kept_noteFlags _ _ _ _ _ (kept_setAcc _ _ _ _ h153))))))))) h0)

theorem kept_execRsum {s0 : State} (a0 : Nat) (a1 : Sys2Proof.W64) (s : State)  (h0 : Kept s0 s) : KeptOut s0 (execRsum a0 a1 s) := by
  unfold execRsum
  exact (kept_reduce _ _ _ _ _ _ h0)

theorem kept_execRdot {s0 : State} (a0 : Nat) (a1 : Sys2Proof.W64) (s : State)  (h0 : Kept s0 s) : KeptOut s0 (execRdot a0 a1 s) := by
  unfold execRdot
  exact (kept_reduce _ _ _ _ _ _ h0)

theorem kept_execRmax {s0 : State} (a0 : Nat) (a1 : Sys2Proof.W64) (s : State)  (h0 : Kept s0 s) : KeptOut s0 (execRmax a0 a1 s) := by
  unfold execRmax
  exact (kept_reduce _ _ _ _ _ _ h0)

theorem kept_execRmin {s0 : State} (a0 : Nat) (a1 : Sys2Proof.W64) (s : State)  (h0 : Kept s0 s) : KeptOut s0 (execRmin a0 a1 s) := by
  unfold execRmin
  exact (kept_reduce _ _ _ _ _ _ h0)

theorem kept_execAclr {s0 : State} (a0 : Nat) (a1 : Sys2Proof.W64) (s : State)  (h0 : Kept s0 s) : KeptOut s0 (execAclr a0 a1 s) := by
  unfold execAclr
  exact (kept_micro _ _ _ _ _ (fun x179 t180 h181 => (keptE_ok (kept_fst (kept_setAcc _ _ _ _ h181)))) h0)

theorem kept_execAget {s0 : State} (a0 : Nat) (a1 : Sys2Proof.W64) (s : State)  (h0 : Kept s0 s) : KeptOut s0 (execAget a0 a1 s) := by
  unfold execAget
  exact (kept_micro _ _ _ _ _ (fun x162 t163 h164 => (by
      extract_lets v165
      exact (keptE_ok (kept_fst (kept_putLanes _ _ _ _ _ h164))))) h0)

theorem kept_execAgetd {s0 : State} (a0 : Nat) (a1 : Sys2Proof.W64) (s : State)  (h0 : Kept s0 s) : KeptOut s0 (execAgetd a0 a1 s) := by
  unfold execAgetd
  exact (kept_micro _ _ _ _ _ (fun x170 t171 h172 => (by
      extract_lets v175 v177
      exact (keptE_ok (kept_fst (kept_putLanes _ _ _ _ _ h172))))) h0)

/-! ### Machine/Boxes.lean -/

theorem kept_boxRun {s0 : State} (s : State) (a1 : Nat) (a2 : Nat) (a3 : Sys2Proof.W128)  (h0 : Kept s0 s) : KeptE (fun x => x) s0 (boxRun s a1 a2 a3) := by
  unfold boxRun
  exact (keptE_bind (fun x0 x1 => (keptE_bind (fun x2 x3 => (keptE_bind (fun x4 x5 => (by
      extract_lets v7 v8 v9 v10 v11
      have h15 : Kept s0 v10 := (kept_ite (kept_rawFree h0 (Nat.le_add_right _ _)) h0)
      clear_value v10
      exact (keptE_ite (keptE_bind (fun x22 x23 => (keptE_bind (fun x24 x25 => (by
        split
        · rename_i x26 x27 x28 x29 x30 e31
          exact (keptE_bind (fun x32 x33 => (keptE_bind (fun t34 x35 => (by
            extract_lets v36 v37 v38 v39 v40
            have h41 : Kept s0 v36 := (kept_advElems _ _ _ _ (keptE_get (f := fun x => x) x35 (keptE_foldlM (fun t42 x43 h44 => (by
              split
              · rename_i x45 x46 x47
                exact (kept_writeElem _ _ _ _ _ _ h44))) h15)))
            clear_value v36
            have h48 : Kept s0 v37 := (kept_ite (kept_advElems _ _ _ _ h41) h41)
            clear_value v37
            have h49 : Kept s0 v38 := (kept_advElems _ _ _ _ h48)
            clear_value v38
            have h50 : Kept s0 v39 := (kept_count64 _ _ _ h49)
            clear_value v39
            have h51 : Kept s0 v40 := (kept_count64 _ _ _ h50)
            clear_value v40
            exact (keptE_pure (kept_noteFlags _ _ _ _ _ h51)))))))))))) (keptE_bind (fun x52 x53 => (keptE_bind (fun x54 x55 => (by
        split
        · rename_i x56 x57 x58 x59 x60 e61
          exact (keptE_bind (fun x62 x63 => (keptE_bind (fun t64 x65 => (by
            extract_lets v66 v67 v68 v69 v70
            have h71 : Kept s0 v66 := (kept_advElems _ _ _ _ (keptE_get (f := fun x => x) x65 (keptE_foldlM (fun t72 x73 h74 => (by
              split
              · rename_i x75 x76 x77
                exact (kept_writeElem _ _ _ _ _ _ h74))) h15)))
            clear_value v66
            have h78 : Kept s0 v67 := (kept_ite (kept_advElems _ _ _ _ h71) h71)
            clear_value v67
            have h79 : Kept s0 v68 := (kept_advElems _ _ _ _ h78)
            clear_value v68
            have h80 : Kept s0 v69 := (kept_count64 _ _ _ h79)
            clear_value v69
            have h81 : Kept s0 v70 := (kept_count64 _ _ _ h80)
            clear_value v70
            exact (keptE_pure (kept_noteFlags _ _ _ _ _ h81))))))))))))))))))))

theorem kept_boxStart {s0 : State} (a0 : Nat) (a1 : Nat) (a2 : Sys2Proof.W128) (s : State)  (h0 : Kept s0 s) : Kept s0 (boxStart a0 a1 a2 s) := by
  unfold boxStart
  exact (by
      extract_lets v6
      have h14 : Kept s0 v6 := (kept_wr32 _ _ _ h0)
      clear_value v6
      exact (by
        split
        · rename_i x16 x17 e18
          exact (kept_vecFault _ _ _ _ (kept_setVec _ _ _ h14))
        · rename_i x19 t20 e21
          exact (keptE_get (f := fun x => x) e21 (kept_boxRun _ _ _ _ h14))))

theorem kept_execBoxDecoding {s0 : State} (a0 : Nat) (a1 : Nat) (a2 : Sys2Proof.W128) (s : State)  (h0 : Kept s0 s) : KeptOut s0 (execBoxDecoding a0 a1 a2 s) := by
  unfold execBoxDecoding
  exact (kept_vecIssue _ _ _ _ _ _ (fun t12 h13 => (kept_boxStart _ _ _ _ h13)) h0)

/-! ### Machine/Combine.lean -/

theorem kept_setSlots {s0 : State} (s : State) (a1 : Nat) (a2 : List CSlot)  (h0 : Kept s0 s) : Kept s0 (setSlots s a1 a2) := by
  unfold setSlots
  exact (kept_wrBits _ _ _ _ _ (kept_setCore _ _ _ h0))

theorem kept_execCslot {s0 : State} (a0 : Nat) (a1 : Nat) (a2 : Sys2Proof.W128) (s : State)  (h0 : Kept s0 s) : KeptOut s0 (execCslot a0 a1 a2 s) := by
  unfold execCslot
  exact (kept_out (by
      extract_lets v0 v1 v2 v3 v4 v5
      have h6 : Kept s0 v4 := (kept_setCore _ _ _ h0)
      clear_value v4
      have h14 : Kept s0 v5 := (kept_useRegion _ _ _ _ _ _ _ h6)
      clear_value v5
      exact (kept_ite (kept_notIssued _ _ _ h0) (kept_setSlots _ _ _ (kept_nextPc _ _ _ h14)))))

theorem kept_discardRecord {s0 : State} (s : State) (a1 : Nat)  (h0 : Kept s0 s) : Kept s0 (discardRecord s a1) := by
  unfold discardRecord
  exact (kept_count64 _ _ _ h0)

theorem kept_holdRecord {s0 : State} (s : State) (a1 : Nat) (a2 : CSlot) (a3 : Sys2Proof.W256)  (h0 : Kept s0 s) : Kept s0 (holdRecord s a1 a2 a3) := by
  unfold holdRecord
  exact (by
      split
      · rename_i x7 x8 e9
        exact h0
      · rename_i x10 x11 e12
        exact (by
          extract_lets v13
          exact (kept_ite (kept_storePoke _ _ _ _ _ h0) h0)))

theorem kept_execCombineRecord {s0 : State} (a0 : Nat) (a1 : Sys2Proof.W256) (s : State)  (h0 : Kept s0 s) : KeptOut s0 (execCombineRecord a0 a1 s) := by
  unfold execCombineRecord
  exact (kept_out (kept_ite h0 (by
      split
      · rename_i x15 e16
        exact h0
      · rename_i x17 x18 e19
        exact (by
          extract_lets v20 v21 v22
          have h23 : Kept s0 v22 := (kept_setCore _ _ _ h0)
          clear_value v22
          exact (by
            split
            · rename_i x40 e41
              exact (kept_discardRecord _ _ h23)
            · rename_i x45 x46 e47
              exact (kept_ite (kept_discardRecord _ _ h23) (by
                extract_lets v50
                have h51 : Kept s0 v50 := (kept_ite (kept_holdRecord _ _ _ _ h23) h23)
                clear_value v50
                exact (by
                  split
                  · rename_i x68 x69 x70 e71
                    exact (by
                      extract_lets v72 v73 v74
                      have h75 : Kept s0 v72 := (kept_setBankEntry _ _ _ _ _ _ _ h51)
                      clear_value v72
                      have h76 : Kept s0 v73 := (kept_ite (kept_noteFlags _ _ _ _ _ h75) h75)
                      clear_value v73
                      exact (kept_ite (kept_setSlots _ _ _ h76) (kept_setSlots _ _ _ h76)))))))))))

theorem kept_appendRecord {s0 : State} (a0 : Nat) (s : State) (a2 : Sys2Proof.W256)  (h0 : Kept s0 s) : Kept s0 (appendRecord a0 s a2) := by
  unfold appendRecord
  exact (by
      split
      · rename_i x26 e28
        exact h0
      · rename_i x29 x30 e31
        exact (by
          extract_lets v32
          have h33 : Kept s0 v32 := (kept_chanWrite _ _ _ _ h0)
          clear_value v32
          exact (kept_updChan _ _ _ h33)))

theorem kept_sendRecords {s0 : State} (s : State) (a1 : Nat) (a2 : Path) (a3 : Nat) (a4 : List Sys2Proof.W256)  (h0 : Kept s0 s) : Kept s0 (sendRecords s a1 a2 a3 a4) := by
  unfold sendRecords
  exact (kept_ite (kept_foldl (fun t24 x25 h27 => (kept_appendRecord _ _ _ h27)) h0) (by
      extract_lets v42 v43 v44
      exact (kept_setCore _ _ _ h0)))

theorem kept_mmaSend {s0 : State} (a0 : Nat) (a1 : Nat) (a2 : Sys2Proof.W128) (a3 : Bool) (s : State)  (h0 : Kept s0 s) : Kept s0 (mmaSend a0 a1 a2 a3 s) := by
  unfold mmaSend
  exact (by
      extract_lets v36 v37
      have h38 : Kept s0 v36 := h0
      clear_value v36
      have h39 : Kept s0 v37 := (kept_mmaSwapIn _ _ _ h0)
      clear_value v37
      exact (by
        split
        · rename_i x52 x53 e54
          exact (kept_agFault _ _ _ _ _ _ h38)
        · rename_i x55 x56 e57
          exact (by
            extract_lets v58 v59
            have h60 : Kept s0 v59 := (kept_writeBand _ _ _ _ _ h39)
            clear_value v59
            exact (by
              split
              · rename_i x61 x62 e63
                exact (kept_agFault _ _ _ _ _ _ h38)
              · rename_i x64 x65 x66 e67
                exact (kept_mmaAfter _ _ _ _ _ _ (kept_noteFlags _ _ _ _ _ (kept_sendRecords _ _ _ _ _ h60)))))))

theorem kept_execMmaEmit {s0 : State} (a0 : Nat) (a1 : Nat) (a2 : Sys2Proof.W128) (s : State)  (h0 : Kept s0 s) : KeptOut s0 (execMmaEmit a0 a1 a2 s) := by
  unfold execMmaEmit
  exact (kept_mmaIssue _ _ _ _ _ _ (fun t34 h35 => (kept_mmaSend _ _ _ _ _ h35)) h0)

theorem kept_execMmaHead {s0 : State} (a0 : Nat) (a1 : Nat) (a2 : Sys2Proof.W128) (s : State)  (h0 : Kept s0 s) : KeptOut s0 (execMmaHead a0 a1 a2 s) := by
  unfold execMmaHead
  exact (kept_mmaIssue _ _ _ _ _ _ (fun t48 h49 => (kept_mmaSend _ _ _ _ _ h49)) h0)

end Sys2Proof.Machine
end

