-- ==== Sys2Proof/Laws/KeptFabric.lean ====
section
/-! SUPPORT. `Kept` through the links, repairs, periods, the shutter, the fabric, streams and the Ethernet subsystem: one lemma per function. -/

namespace Sys2Proof.Machine

/-! ### Machine/Links.lean -/

theorem kept_updLink {s0 : State} (s : State) (a1 : Nat) (a2 : FLink → FLink)  (h0 : Kept s0 s) : Kept s0 (updLink s a1 a2) := by
  unfold updLink
  exact (kept_setFab _ h0)

theorem kept_showLink {s0 : State} (s : State) (a1 : Nat)  (h0 : Kept s0 s) : Kept s0 (showLink s a1) := by
  unfold showLink
  exact (by
      extract_lets v3
      exact (kept_ite h0 (kept_arrive _ _ _ (kept_wrBits _ _ _ _ _ h0))))

theorem kept_showLinks {s0 : State} (s : State)  (h0 : Kept s0 s) : Kept s0 (showLinks s) := by
  unfold showLinks
  exact (kept_foldl (fun t0 x1 h2 => (kept_showLink _ _ h2)) h0)

theorem kept_clearFails {s0 : State} (s : State)  (h0 : Kept s0 s) : Kept s0 (clearFails s) := by
  unfold clearFails
  exact (by
      extract_lets v4 v5
      have h6 : Kept s0 v5 := (kept_setFab _ h0)
      clear_value v5
      exact (kept_wr64 _ _ _ (kept_foldl (fun t7 x8 h9 => (kept_wr32 _ _ _ h9)) (kept_wr64 _ _ _ h6))))

/-! ### Machine/Repair.lean -/

theorem kept_refreshCore {s0 : State} (s : State) (a1 : Nat)  (h0 : Kept s0 s) : Kept s0 (refreshCore s a1) := by
  unfold refreshCore
  exact (by
      extract_lets v4 v5 v6 v7 v8
      have h9 : Kept s0 v8 := (kept_wrBits _ _ _ _ _ h0)
      clear_value v8
      exact (kept_wrBits _ _ _ _ _ h9))

theorem kept_clearArrays {s0 : State} (s : State) (a1 : Nat)  (h0 : Kept s0 s) : Kept s0 (clearArrays s a1) := by
  unfold clearArrays
  exact (by
      extract_lets v0 v1 v2
      have h3 : Kept s0 v2 := (kept_setCore _ _ _ h0)
      clear_value v2
      exact (kept_wrBits _ _ _ _ _ h3))

theorem kept_jAdd {s0 : State} (s : State) (a1 : JEntry) (h0 : Kept s0 s) : Kept s0 (jAdd s a1).1 :=
  ⟨h0.1, h0.2, h0.3.trans ⟨[a1.fixed], by simp [jAdd, State.setFlash]⟩, h0.4, h0.5, h0.6, h0.7, h0.8, h0.9⟩

theorem kept_jApply {s0 : State} (s : State) (a1 : Nat) (h0 : Kept s0 s) : Kept s0 (jApply s a1) := by
  refine ⟨h0.1, h0.2, ?_, h0.4, h0.5, h0.6, h0.7, h0.8, h0.9⟩
  have : (updNth s.flash.journal (a1 - 1) (fun e => { e with applied := true })).map JEntry.fixed = s.flash.journal.map JEntry.fixed :=
    map_modify_fixed _ _
  show _ <+: (updNth s.flash.journal (a1 - 1) (fun e => { e with applied := true })).map JEntry.fixed
  rw [this]; exact h0.3

theorem kept_countCE {s0 : State} (s : State) (a1 : Nat) (a2 : Nat)  (h0 : Kept s0 s) : Kept s0 (countCE s a1 a2) := by
  unfold countCE
  exact (by
      extract_lets v10 v11 v12 v13 v14 v15
      have h16 : Kept s0 v14 := (kept_setRep _ h0)
      clear_value v14
      have h17 : Kept s0 v15 := (kept_satCount64 _ _ _ h16)
      clear_value v15
      exact (kept_ite (kept_wr64 _ _ _ h17) h17))

theorem kept_setPend {s0 : State} (s : State) (a1 : List RPend)  (h0 : Kept s0 s) : Kept s0 (setPend s a1) := by
  unfold setPend
  exact (kept_wrBits _ _ _ _ _ (kept_setRep _ h0))

theorem kept_repairEvent {s0 : State} (s : State) (a1 : Nat)  (h0 : Kept s0 s) : Kept s0 (repairEvent s a1) := by
  unfold repairEvent
  exact (kept_arrive _ _ _ h0)

theorem kept_degradeCore {s0 : State} (s : State) (a1 : Nat)  (h0 : Kept s0 s) : Kept s0 (degradeCore s a1) := by
  unfold degradeCore
  exact (by
      extract_lets v18 v19 v20
      have h21 : Kept s0 v19 := (kept_abortWhere _ _ _ h0)
      clear_value v19
      exact (kept_ite h0 (kept_ite (kept_setRep _ h21) (kept_stopPartition _ _ _ h0))))

theorem kept_retireArray {s0 : State} (s : State) (a1 : Nat) (a2 : Nat)  (h0 : Kept s0 s) : Kept s0 (retireArray s a1 a2) := by
  unfold retireArray
  exact (kept_ite h0 (by
      extract_lets v22 v23 v24 v25 v26
      have h27 : Kept s0 v24 := (kept_setRep _ h0)
      clear_value v24
      have h31 : Kept s0 v25 := (kept_foldl (fun t32 x33 h34 => (kept_ite (kept_wrBits _ _ _ _ _ h34) h34)) h27)
      clear_value v25
      have h38 : Kept s0 v26 := (kept_ite (kept_wrBits _ _ _ _ _ h27) (kept_wrBits _ _ _ _ _ h31))
      clear_value v26
      exact (kept_degradeCore _ _ (kept_refreshCore _ _ (kept_clearArrays _ _ h38)))))

theorem kept_retireColumn {s0 : State} (s : State) (a1 : Nat) (a2 : Nat) (a3 : Nat)  (h0 : Kept s0 s) : Kept s0 (retireColumn s a1 a2 a3) := by
  unfold retireColumn
  exact (by
      extract_lets v28 v29 v30
      exact (kept_ite h0 (kept_ite (kept_retireArray _ _ _ h0) (kept_refreshCore _ _ (kept_clearArrays _ _ (kept_wr32 _ _ _ h0))))))

theorem kept_retireChan {s0 : State} (s : State) (a1 : Nat) (a2 : Nat)  (h0 : Kept s0 s) : Kept s0 (retireChan s a1 a2) := by
  unfold retireChan
  exact (by
      extract_lets v35 v36
      have h37 : Kept s0 v36 := (kept_arrive _ _ _ (kept_wrBits _ _ _ _ _ h0))
      clear_value v36
      exact (kept_ite h0 (kept_ite (kept_foldl (fun t39 x40 h41 => (kept_ite (kept_stopPartition _ _ _ h41) h41)) h37) (kept_wrBits _ _ _ _ _ (kept_wrBits _ _ _ _ _ (kept_wrBits _ _ _ _ _ h37))))))

theorem kept_applyRepair {s0 : State} (s : State) (a1 : Nat) (a2 : Nat)  (h0 : Kept s0 s) : Kept s0 (applyRepair s a1 a2) := by
  unfold applyRepair
  exact (by
      split
      · rename_i x73 e74
        exact (kept_retireColumn _ _ _ _ h0)
      · rename_i x75 e76
        exact (kept_retireArray _ _ _ h0)
      · rename_i x85 e86
        exact (kept_setRep _ h0)
      · rename_i x88 e89
        exact (kept_setRep _ h0)
      · rename_i x90 e91
        exact (kept_retireChan _ _ _ h0)
      · rename_i x92 e93
        exact (kept_setRep _ h0)
      · rename_i x94 e95
        exact (by
          extract_lets v96
          have h97 : Kept s0 v96 := (kept_wrBits _ _ _ _ _ h0)
          clear_value v96
          exact (kept_ite (kept_stopPartition _ _ _ h97) h97))
      · rename_i x98 e99 e100 e101 e102 e103 e104 e105
        exact h0)

theorem kept_unrepairable {s0 : State} (s : State) (a1 : Nat)  (h0 : Kept s0 s) : Kept s0 (unrepairable s a1) := by
  unfold unrepairable
  exact (kept_repairEvent _ _ (kept_satCount64 _ _ _ (kept_count64 _ _ _ h0)))

theorem kept_engage {s0 : State} (s : State) (a1 : Nat) (a2 : Nat) (a3 : Nat)  (h0 : Kept s0 s) : Kept s0 (engage s a1 a2 a3) := by
  unfold engage
  exact (kept_ite h0 (by
      split
      · rename_i x48 e49
        exact (kept_unrepairable _ _ h0)
      · rename_i x50 x51 x52 e53
        exact (kept_ite h0 (by
          extract_lets v54 v55 v56
          exact (by
            split
            · rename_i x59 t60 x61 e62
              exact (by
                extract_lets v63 v64 v65
                have h66 : Kept s0 v63 := (kept_ite (kept_wrBits _ _ _ _ _ (kept_fst_eq e62 (kept_jAdd _ _ h0))) (kept_fst_eq e62 (kept_jAdd _ _ h0)))
                clear_value v63
                have h72 : Kept s0 v65 := (kept_ite (kept_setRep _ h66) h66)
                clear_value v65
                exact (kept_setPend _ _ h72)))))))

theorem kept_finishRepair {s0 : State} (s : State) (a1 : RPend)  (h0 : Kept s0 s) : Kept s0 (finishRepair s a1) := by
  unfold finishRepair
  exact (by
      extract_lets v42 v43 v44 v45 v46
      have h47 : Kept s0 v42 := (kept_applyRepair _ _ _ h0)
      clear_value v42
      have h112 : Kept s0 v43 := (kept_setPend _ _ h47)
      clear_value v43
      have h113 : Kept s0 v45 := (kept_setRep _ h112)
      clear_value v45
      have h129 : Kept s0 v46 := (kept_count64 _ _ _ (kept_jApply _ _ h113))
      clear_value v46
      exact (kept_repairEvent _ _ (kept_satCount64 _ _ _ h129)))

theorem kept_replayJournal {s0 : State} (s : State) (h0 : Kept s0 s) : Kept s0 (replayJournal s) := by
  unfold replayJournal
  extract_lets t
  have h : Kept s0 t := kept_foldl (fun _ _ h => kept_applyRepair _ _ _ h) h0
  clear_value t
  refine ⟨h.1, h.2, ?_, h.4, h.5, h.6, h.7, h.8, h.9⟩
  have : (t.flash.journal.map (fun e => { e with applied := true })).map JEntry.fixed = t.flash.journal.map JEntry.fixed := by
    rw [List.map_map]; rfl
  show _ <+: (t.flash.journal.map (fun e => { e with applied := true })).map JEntry.fixed
  rw [this]; exact h.3

theorem kept_evict {s0 : State} (s : State)  (h0 : Kept s0 s) : Kept s0 (evict s) := by
  unfold evict
  exact (by
      extract_lets v57 v58
      exact (by
        split
        · rename_i x67 e68
          exact h0
        · rename_i x69 x70 e71
          exact (kept_count64 _ _ _ (kept_setRep _ h0))))

theorem kept_countOn {s0 : State} (s : State) (a1 : Nat) (a2 : Nat)  (h0 : Kept s0 s) : Kept s0 (countOn s a1 a2).1 := by
  unfold countOn
  exact (by
      extract_lets v77 v78 v79 v80 v81 v82 v83 v84
      have h87 : Kept s0 v81 := (kept_ite (kept_evict _ h0) h0)
      clear_value v81
      have h111 : Kept s0 v83 := (kept_ite h0 (kept_setRep _ h87))
      clear_value v83
      exact (by
        split
        · rename_i x116 e117
          exact h111
        · rename_i x123 x124 e125
          exact (by
            extract_lets v126 v127 v128
            exact (kept_fst (kept_setRep _ h111)))))

theorem kept_lasting {s0 : State} (s : State) (a1 : Nat) (a2 : Nat) (a3 : Nat)  (h0 : Kept s0 s) : Kept s0 (lasting s a1 a2 a3) := by
  unfold lasting
  exact (kept_ite (by
      split
      · rename_i x106 t107 x108 x109 e110
        exact (kept_ite (kept_engage _ _ _ _ (kept_fst_eq e110 (kept_countOn _ _ _ h0))) (kept_fst_eq e110 (kept_countOn _ _ _ h0)))) (kept_ite (kept_ite h0 (kept_setRep _ h0)) (kept_engage _ _ _ _ h0)))

theorem kept_faultEventAt {s0 : State} (s : State) (a1 : Nat) (a2 : Bool)  (h0 : Kept s0 s) : Kept s0 (faultEventAt s a1 a2) := by
  unfold faultEventAt
  exact (by
      extract_lets v114 v115
      exact (by
        split
        · rename_i x118 t119 x120 x121 e122
          exact (kept_ite (kept_lasting _ _ _ _ (kept_fst_eq e122 (kept_countOn _ _ _ h0))) (kept_fst_eq e122 (kept_countOn _ _ _ h0)))))

theorem kept_repStep {s0 : State} (s : State) (a1 : Nat) (a2 : Nat)  (h0 : Kept s0 s) : Kept s0 (repStep s a1 a2) := by
  unfold repStep
  exact (kept_ite (kept_setRep _ h0) (kept_setRep _ h0))

theorem kept_forceIdle {s0 : State} (s : State) (a1 : Nat)  (h0 : Kept s0 s) : Kept s0 (forceIdle s a1) := by
  unfold forceIdle
  exact (kept_abortWhere _ _ _ h0)

theorem kept_swapSpare {s0 : State} (s : State) (a1 : Nat) (a2 : Nat)  (h0 : Kept s0 s) : Kept s0 (swapSpare s a1 a2) := by
  unfold swapSpare
  exact (by
      extract_lets v130 v131
      have h132 : Kept s0 v131 := (kept_foldl (fun t133 x134 h135 => (kept_ite (kept_wrBits _ _ _ _ _ h135) h135)) h0)
      clear_value v131
      exact (kept_ite h0 (kept_refreshCore _ _ (kept_clearArrays _ _ (kept_wrBits _ _ _ _ _ h132)))))

theorem kept_execRetire {s0 : State} (a0 : Sys2Proof.W32) (s : State)  (h0 : Kept s0 s) : KeptOut s0 (execRetire a0 s) := by
  unfold execRetire
  exact (kept_out (kept_ite h0 (kept_ite (kept_lasting _ _ _ _ h0) (kept_ite h0 (kept_engage _ _ _ _ h0)))))

theorem kept_arrayFault {s0 : State} (s : State) (a1 : Nat) (a2 : Nat) (a3 : Nat)  (h0 : Kept s0 s) : Kept s0 (arrayFault s a1 a2 a3) := by
  unfold arrayFault
  exact (by
      extract_lets v136
      exact (kept_ite (kept_abortWhere _ _ _ (kept_raise _ _ _ h0)) h0))

theorem kept_coreFault {s0 : State} (s : State) (a1 : Nat)  (h0 : Kept s0 s) : Kept s0 (coreFault s a1) := by
  unfold coreFault
  exact (by
      split
      · rename_i x137 x138 t139 e140
        exact (by
          extract_lets v151 v152
          exact (by
            split
            · rename_i x166 x167 x168 e169 e170
              exact (kept_vecFault _ _ _ _ (kept_snd_eq e140 (kept_fresh h0)))
            · rename_i x176 x177 e178 e179
              exact (kept_snd_eq e140 (kept_fresh h0))
            · rename_i x183 x184 e185 e186
              exact (kept_setCore _ _ _ (kept_snd_eq e140 (kept_fresh h0))))))

theorem kept_coreCorrected {s0 : State} (s : State) (a1 : Nat)  (h0 : Kept s0 s) : Kept s0 (coreCorrected s a1) := by
  unfold coreCorrected
  exact (by
      split
      · rename_i x146 x147 t148 e149
        exact (kept_ite (kept_snd_eq e149 (kept_fresh h0)) (kept_arrive _ _ _ (kept_sticky _ _ _ (kept_countCE _ _ _ (kept_snd_eq e149 (kept_fresh h0)))))))

theorem kept_execFaultEvent {s0 : State} (a0 : Sys2Proof.W32) (a1 : Bool) (s : State)  (h0 : Kept s0 s) : KeptOut s0 (execFaultEvent a0 a1 s) := by
  unfold execFaultEvent
  exact (kept_out (by
      extract_lets v141 v142 v143 v144 v145
      have h150 : Kept s0 v143 := (kept_countCE _ _ _ h0)
      clear_value v143
      have h158 : Kept s0 v145 := (by
        unfold v145
        split
        · rename_i x195 e196
          exact (kept_ite (by
            split
            · rename_i x206 x207 t208 e209
              exact (kept_badWord _ _ (kept_snd_eq e209 (kept_fresh h0)))) (kept_ite (kept_arrive _ _ _ (kept_sticky _ _ _ h150)) h150))
        · rename_i x226 e227
          exact (kept_ite (by
            split
            · rename_i x228 x229 t230 e231
              exact (kept_badSector _ _ (kept_snd_eq e231 (kept_fresh h0)))) (kept_arrive _ _ _ (kept_count64 _ _ _ (kept_sticky _ _ _ (kept_countCE _ _ _ h0)))))
        · rename_i x233 e234
          exact (kept_ite (by
            split
            · rename_i x235 x236 t237 e238
              exact (kept_badSector _ _ (kept_snd_eq e238 (kept_fresh h0)))) (kept_arrive _ _ _ (kept_count64 _ _ _ (kept_sticky _ _ _ (kept_countCE _ _ _ h0)))))
        · rename_i x242 e243
          exact (kept_arrayFault _ _ _ _ h0)
        · rename_i x244 e245
          exact (kept_ite (kept_coreFault _ _ h0) (kept_coreCorrected _ _ h0))
        · rename_i x246 e247 e248 e249 e250 e251
          exact h0)
      clear_value v145
      exact (kept_ite h0 (kept_faultEventAt _ _ _ h158))))

theorem kept_execRepairCopyEnd {s0 : State} (a0 : Sys2Proof.W32) (s : State)  (h0 : Kept s0 s) : KeptOut s0 (execRepairCopyEnd a0 s) := by
  unfold execRepairCopyEnd
  exact (kept_out (by
      split
      · rename_i x153 e154
        exact h0
      · rename_i x155 x156 e157
        exact (kept_ite h0 (by
          extract_lets v159
          have h160 : Kept s0 v159 := (kept_ite (kept_arrive _ _ _ (kept_wrBits _ _ _ _ _ h0)) h0)
          clear_value v159
          exact (kept_setPend _ _ h160)))))

theorem kept_execRepairSwitch {s0 : State} (a0 : Sys2Proof.W32) (s : State)  (h0 : Kept s0 s) : KeptOut s0 (execRepairSwitch a0 s) := by
  unfold execRepairSwitch
  exact (kept_out (by
      split
      · rename_i x161 e162
        exact h0
      · rename_i x163 x164 e165
        exact (kept_ite h0 (kept_finishRepair _ _ (kept_forceIdle _ _ h0)))))

theorem kept_execPeriodicTest {s0 : State} (a0 : List Nat) (s : State)  (h0 : Kept s0 s) : KeptOut s0 (execPeriodicTest a0 s) := by
  unfold execPeriodicTest
  exact (kept_out (by
      extract_lets v171 v172 v173
      exact (kept_ite h0 (kept_foldl (fun t180 x181 h182 => (kept_lasting _ _ _ _ h182)) (kept_setRep _ h0)))))

theorem kept_execRotation {s0 : State} (a0 : Nat) (s : State)  (h0 : Kept s0 s) : KeptOut s0 (execRotation a0 s) := by
  unfold execRotation
  exact (kept_out (by
      extract_lets v174 v175
      exact (kept_ite h0 (by
        split
        · rename_i x187 e188
          exact h0
        · rename_i x189 x190 e191
          exact (by
            extract_lets v192 v193
            have h194 : Kept s0 v192 := (kept_swapSpare _ _ _ h0)
            clear_value v192
            exact (kept_setRep _ h194))))))

theorem kept_execTargetedTestEnd {s0 : State} (a0 : Sys2Proof.W32) (a1 : List Nat) (s : State)  (h0 : Kept s0 s) : KeptOut s0 (execTargetedTestEnd a0 a1 s) := by
  unfold execTargetedTestEnd
  exact (kept_out (by
      split
      · rename_i x210 e211
        exact h0
      · rename_i x212 x213 e214
        exact (kept_ite h0 (by
          extract_lets v216 v217 v218 v219 v220
          have h221 : Kept s0 v216 := (kept_ite (kept_forceIdle _ _ h0) h0)
          clear_value v216
          have h225 : Kept s0 v217 := (kept_ite (kept_swapSpare _ _ _ h221) h221)
          clear_value v217
          have h232 : Kept s0 v219 := (kept_setRep _ h225)
          clear_value v219
          exact (kept_ite (kept_ite (kept_count64 _ _ _ (kept_setRep _ h232)) h232) (kept_foldl (fun t239 x240 h241 => (kept_engage _ _ _ _ h241)) h232))))))

theorem kept_execBistEnd {s0 : State} (a0 : List Nat) (s : State)  (h0 : Kept s0 s) : KeptOut s0 (execBistEnd a0 s) := by
  unfold execBistEnd
  exact (kept_out (kept_ite h0 (by
      extract_lets v200 v201
      have h202 : Kept s0 v200 := (kept_foldl (fun t203 x204 h205 => (kept_engage _ _ _ _ h205)) h0)
      clear_value v200
      have h215 : Kept s0 v201 := (kept_foldl (fun t222 x223 h224 => (kept_finishRepair _ _ h224)) h202)
      clear_value v201
      exact (kept_wrBits _ _ _ _ _ h215))))

theorem kept_writeClass {s0 : State} (s : State) (a1 : Nat) (a2 : Nat)  (h0 : Kept s0 s) : Kept s0 (writeClass s a1 a2) := by
  unfold writeClass
  exact (by
      extract_lets v197 v198
      have h199 : Kept s0 v197 := (kept_wr32 _ _ _ h0)
      clear_value v197
      exact (kept_setRep _ h199))

theorem kept_execRepClassWrite {s0 : State} (a0 : Nat) (a1 : Sys2Proof.W32) (s : State)  (h0 : Kept s0 s) : KeptOut s0 (execRepClassWrite a0 a1 s) := by
  unfold execRepClassWrite
  exact (kept_out (kept_ite h0 (kept_writeClass _ _ _ h0)))

/-! ### Machine/Period.lean -/

theorem kept_boundary {s0 : State} (s : State)  (h0 : Kept s0 s) : Kept s0 (boundary s) := by
  unfold boundary
  exact (by
      extract_lets v0 v1 v2 v3
      have h4 : Kept s0 v1 := (kept_wr32 _ _ _ h0)
      clear_value v1
      have h5 : Kept s0 v2 := (kept_wr64 _ _ _ h4)
      clear_value v2
      exact (kept_ite h5 (kept_setLd _ h5)))

theorem kept_execPeriodBoundary {s0 : State} (s : State)  (h0 : Kept s0 s) : KeptOut s0 (execPeriodBoundary s) := by
  unfold execPeriodBoundary
  exact (kept_out (kept_ite (kept_boundary _ h0) h0))

theorem kept_startBudgets {s0 : State} (s : State) (a1 : List Nat)  (h0 : Kept s0 s) : Kept s0 (startBudgets s a1) := by
  unfold startBudgets
  exact (kept_foldl (fun t6 x7 h8 => (kept_foldl (fun t12 x14 h15 => (by
      extract_lets v18
      exact (kept_wr64 _ _ _ (kept_wr64 _ _ _ h15)))) h8)) h0)

theorem kept_refill {s0 : State} (s : State) (a1 : List Nat)  (h0 : Kept s0 s) : Kept s0 (refill s a1) := by
  unfold refill
  exact (kept_foldl (fun t9 x10 h11 => (kept_foldl (fun t13 x16 h17 => (kept_setRem _ _ _ _ h17)) h11)) h0)

theorem kept_takeBudgets {s0 : State} (s : State) (a1 : List Nat)  (h0 : Kept s0 s) : Kept s0 (takeBudgets s a1) := by
  unfold takeBudgets
  exact (kept_startBudgets _ _ (kept_refill _ _ h0))

theorem kept_releasePeriods {s0 : State} (s : State)  (h0 : Kept s0 s) : Kept s0 (releasePeriods s) := by
  unfold releasePeriods
  exact (kept_foldl (fun t19 x20 h21 => (kept_foldl (fun t22 x23 h24 => (kept_ite (kept_resume _ _ _ h24) h24)) h21)) h0)

theorem kept_scheduleStart {s0 : State} (s : State)  (h0 : Kept s0 s) : Kept s0 (scheduleStart s) := by
  unfold scheduleStart
  exact (kept_ite h0 (by
      extract_lets v25 v26 v27 v28
      exact (kept_admitWaiting _ (kept_setStr _ h0))))

theorem kept_degradedSwitch {s0 : State} (s : State)  (h0 : Kept s0 s) : Kept s0 (degradedSwitch s) := by
  unfold degradedSwitch
  exact (by
      extract_lets v29 v30
      have h31 : Kept s0 v29 := (kept_foldl (fun t52 x53 h54 => (by
        split
        · rename_i x56 x57 x58
          exact (by
            extract_lets v59 v60 v61 v62 v63 v64
            have h65 : Kept s0 v61 := (kept_setImg _ h54)
            clear_value v61
            have h66 : Kept s0 v63 := (kept_foldl (fun t67 x68 h69 => (by
              split
              · rename_i x74 x75 x76
                exact (kept_storePoke _ _ _ _ _ h69))) h65)
            clear_value v63
            have h77 : Kept s0 v64 := (kept_foldl (fun t78 x79 h80 => (by
              split
              · rename_i x81 x82 x83
                exact (kept_setCtx _ _ _ _ h80))) h66)
            clear_value v64
            exact (kept_wrBits _ _ _ _ _ h77)))) h0)
      clear_value v29
      exact (kept_setRep _ h31))

theorem kept_freezeSwitch {s0 : State} (s : State)  (h0 : Kept s0 s) : Kept s0 (freezeSwitch s) := by
  unfold freezeSwitch
  exact (kept_ite h0 (by
      extract_lets v35 v36 v37 v38 v39
      have h40 : Kept s0 v37 := (kept_wrBits _ _ _ _ _ (kept_wrBits _ _ _ _ _ h0))
      clear_value v37
      have h55 : Kept s0 v38 := (kept_ite (kept_setCores _ h40) h40)
      clear_value v38
      exact (kept_setSht _ h55)))

theorem kept_agePeriod {s0 : State} (s : State)  (h0 : Kept s0 s) : Kept s0 (agePeriod s) := by
  unfold agePeriod
  exact (by
      extract_lets v32 v33
      have h34 : Kept s0 v33 := (kept_setStr _ h0)
      clear_value v33
      exact (kept_foldl (fun t41 x42 h43 => (by
        split
        · rename_i x44 x45 x46 x47
          exact (kept_updTask _ _ _ _ h43))) h34))

theorem kept_refillDeliveries {s0 : State} (s : State)  (h0 : Kept s0 s) : Kept s0 (refillDeliveries s) := by
  unfold refillDeliveries
  exact (kept_foldl (fun t48 x49 h50 => (by
      extract_lets v51
      exact (kept_wrBits _ _ _ _ _ h50))) h0)

theorem kept_takeFabricBoundary {s0 : State} (s : State)  (h0 : Kept s0 s) : Kept s0 (takeFabricBoundary s) := by
  unfold takeFabricBoundary
  exact (kept_ite h0 (kept_takeBudgets _ _ (kept_setFab _ (kept_setDom _ h0))))

theorem kept_execBoundaryTaken {s0 : State} (a0 : Nat) (s : State)  (h0 : Kept s0 s) : KeptOut s0 (execBoundaryTaken a0 s) := by
  unfold execBoundaryTaken
  exact (kept_out (kept_ite h0 (kept_ite (kept_takeFabricBoundary _ h0) (by
      extract_lets v70 v71
      have h72 : Kept s0 v70 := (kept_setDom _ h0)
      clear_value v70
      have h73 : Kept s0 v71 := (kept_agePeriod _ (kept_takeBudgets _ _ h72))
      clear_value v71
      exact (by
        split
        · rename_i x84
          exact (kept_releasePeriods _ (kept_freezeSwitch _ (kept_degradedSwitch _ (kept_scheduleStart _ h73))))
        · rename_i x85
          exact (kept_takeBudgets _ _ h72)
        · rename_i x86 e87 e88
          exact (kept_refillDeliveries _ h72))))))

/-! ### Machine/Shutter.lean -/

theorem kept_latchBlock {s0 : State} (s : State) (a1 : Nat)  (h0 : Kept s0 s) : Kept s0 (latchBlock s a1) := by
  unfold latchBlock
  exact (by
      extract_lets v0 v1 v2 v3 v4 v5 v6 v7
      have h8 : Kept s0 v5 := (kept_setCtl _ h0)
      clear_value v5
      have h9 : Kept s0 v6 := (kept_wr64 _ _ _ (kept_wr64 _ _ _ h8))
      clear_value v6
      have h10 : Kept s0 v7 := (kept_foldl (fun t11 x12 h13 => (kept_wr64 _ _ _ h13)) h9)
      clear_value v7
      exact (kept_foldl (fun t23 x24 h25 => (kept_wr64 _ _ _ h25)) h10))

theorem kept_execFire {s0 : State} (s : State)  (h0 : Kept s0 s) : KeptOut s0 (execFire s) := by
  unfold execFire
  exact (kept_out (kept_ite (kept_fire _ _ h0) h0))

theorem kept_releaseSheet {s0 : State} (s : State)  (h0 : Kept s0 s) : Kept s0 (releaseSheet s) := by
  unfold releaseSheet
  exact (kept_wrBits _ _ _ _ _ h0)

theorem kept_execRelease {s0 : State} (s : State)  (h0 : Kept s0 s) : KeptOut s0 (execRelease s) := by
  unfold execRelease
  exact (kept_out (kept_ite (kept_releaseSheet _ h0) h0))

theorem kept_unfreeze {s0 : State} (s : State)  (h0 : Kept s0 s) : Kept s0 (unfreeze s) := by
  unfold unfreeze
  exact (kept_ite (kept_setSht _ h0) h0)

theorem kept_execUnfreeze {s0 : State} (s : State)  (h0 : Kept s0 s) : KeptOut s0 (execUnfreeze s) := by
  unfold execUnfreeze
  exact (kept_out (kept_ite (kept_unfreeze _ h0) h0))

theorem kept_armInstant {s0 : State} (s : State) (a1 : Nat) (a2 : Bool)  (h0 : Kept s0 s) : Kept s0 (armInstant s a1 a2) := by
  unfold armInstant
  exact (by
      extract_lets v14 v15 v16 v17
      have h18 : Kept s0 v14 := (kept_wr64 _ _ _ (kept_wrBits _ _ _ _ _ h0))
      clear_value v14
      have h26 : Kept s0 v16 := (kept_setSht _ h18)
      clear_value v16
      exact (kept_setFab _ h26))

theorem kept_armAt {s0 : State} (s : State)  (h0 : Kept s0 s) : Kept s0 (armAt s) := by
  unfold armAt
  exact (by
      extract_lets v19 v20 v21
      have h22 : Kept s0 v21 := (kept_ite (kept_count64 _ _ _ h0) h0)
      clear_value v21
      exact (kept_ite h22 (kept_armInstant _ _ _ h22)))

theorem kept_execArmAt {s0 : State} (s : State)  (h0 : Kept s0 s) : KeptOut s0 (execArmAt s) := by
  unfold execArmAt
  exact (kept_out (kept_ite (kept_armAt _ h0) h0))

theorem kept_disarm {s0 : State} (s : State)  (h0 : Kept s0 s) : Kept s0 (disarm s) := by
  unfold disarm
  exact (kept_wr64 _ _ _ (kept_wrBits _ _ _ _ _ h0))

theorem kept_execDisarm {s0 : State} (s : State)  (h0 : Kept s0 s) : KeptOut s0 (execDisarm s) := by
  unfold execDisarm
  exact (kept_out (kept_ite (kept_disarm _ h0) h0))

theorem kept_execInstantReached {s0 : State} (s : State)  (h0 : Kept s0 s) : KeptOut s0 (execInstantReached s) := by
  unfold execInstantReached
  exact (kept_out (kept_ite (kept_fire _ _ (kept_disarm _ h0)) h0))

theorem kept_execShutterLatch {s0 : State} (a0 : Nat) (s : State)  (h0 : Kept s0 s) : KeptOut s0 (execShutterLatch a0 s) := by
  unfold execShutterLatch
  exact (kept_out (kept_ite (kept_latchBlock _ _ (kept_setSht _ h0)) h0))

theorem kept_execFiringComplete {s0 : State} (s : State)  (h0 : Kept s0 s) : KeptOut s0 (execFiringComplete s) := by
  unfold execFiringComplete
  exact (kept_out (kept_ite (kept_arrive _ _ _ (kept_wrBits _ _ _ _ _ (kept_wrBits _ _ _ _ _ h0))) h0))

/-! ### Machine/Fabric.lean -/

theorem kept_failChannels {s0 : State} (s : State) (a1 : Nat)  (h0 : Kept s0 s) : Kept s0 (failChannels s a1) := by
  unfold failChannels
  exact (by
      extract_lets v0 v1 v2
      have h3 : Kept s0 v1 := (kept_abortWhere _ _ _ h0)
      clear_value v1
      exact (kept_setStr _ h3))

theorem kept_showSwitch {s0 : State} (s : State)  (h0 : Kept s0 s) : Kept s0 (showSwitch s) := by
  unfold showSwitch
  exact (by
      split
      · rename_i x6 e7
        exact (kept_wr64 _ _ _ (kept_wrBits _ _ _ _ _ h0))
      · rename_i x8 x9 e10
        exact (kept_wr64 _ _ _ (kept_wrBits _ _ _ _ _ (kept_wrBits _ _ _ _ _ h0))))

theorem kept_takeTarget {s0 : State} (s : State) (a1 : Nat × Nat) (a2 : Nat)  (h0 : Kept s0 s) : Kept s0 (takeTarget s a1 a2) := by
  unfold takeTarget
  exact (by
      extract_lets v4 v5
      exact (kept_showSwitch _ (kept_setFab _ h0)))

theorem kept_addFailure {s0 : State} (s : State) (a1 : Nat × Nat) (a2 : Nat)  (h0 : Kept s0 s) : Kept s0 (addFailure s a1 a2) := by
  unfold addFailure
  exact (kept_ite h0 (kept_ite (kept_ite (kept_takeTarget _ _ _ h0) h0) (kept_ite h0 (by
      extract_lets v20 v21 v22 v23 v24 v25 v26
      have h27 : Kept s0 v23 := (kept_setFab _ h0)
      clear_value v23
      have h33 : Kept s0 v24 := (kept_wr32 _ _ _ h27)
      clear_value v24
      have h38 : Kept s0 v25 := (kept_wrBits _ _ _ _ _ h33)
      clear_value v25
      have h39 : Kept s0 v26 := (kept_showLinks _ (kept_arrive _ _ _ (kept_takeTarget _ _ _ h38)))
      clear_value v26
      exact (kept_failChannels _ _ h39)))))

theorem kept_declareLink {s0 : State} (s : State) (a1 : Nat)  (h0 : Kept s0 s) : Kept s0 (declareLink s a1) := by
  unfold declareLink
  exact (kept_addFailure _ _ _ h0)

theorem kept_takeNotice {s0 : State} (s : State) (a1 : Nat) (a2 : Nat) (a3 : Nat)  (h0 : Kept s0 s) : Kept s0 (takeNotice s a1 a2 a3) := by
  unfold takeNotice
  exact (kept_ite h0 (by
      extract_lets v11 v12 v13 v14 v15
      have h16 : Kept s0 v15 := (kept_ite (kept_count64 _ _ _ h0) h0)
      clear_value v15
      exact (kept_addFailure _ _ _ h16)))

theorem kept_noRoute {s0 : State} (s : State)  (h0 : Kept s0 s) : Kept s0 (noRoute s) := by
  unfold noRoute
  exact (kept_foldl (fun t17 x18 h19 => (kept_stopPartition _ _ _ h19)) (kept_wrBits _ _ _ _ _ h0))

theorem kept_execRouteSwitch {s0 : State} (s : State)  (h0 : Kept s0 s) : KeptOut s0 (execRouteSwitch s) := by
  unfold execRouteSwitch
  exact (kept_out (by
      split
      · rename_i x28 e29
        exact h0
      · rename_i x30 x31 e32
        exact (kept_ite h0 (by
          extract_lets v34 v35 v36
          have h37 : Kept s0 v36 := (kept_showSwitch _ (kept_setFab _ h0))
          clear_value v36
          exact (by
            clear_value v34
            split
            · rename_i x40
              exact (kept_noRoute _ h37)
            · rename_i x41 x42
              exact (kept_arrive _ _ _ (kept_wrBits _ _ _ _ _ h37)))))))

theorem kept_declareCommand {s0 : State} (s : State) (a1 : Nat)  (h0 : Kept s0 s) : Kept s0 (declareCommand s a1) := by
  unfold declareCommand
  exact (kept_ite (kept_declareLink _ _ h0) h0)

theorem kept_execDeclare {s0 : State} (a0 : Nat) (s : State)  (h0 : Kept s0 s) : KeptOut s0 (execDeclare a0 s) := by
  unfold execDeclare
  exact (kept_out (kept_declareCommand _ _ h0))

theorem kept_abortOnChannel {s0 : State} (s : State) (a1 : Nat)  (h0 : Kept s0 s) : Kept s0 (abortOnChannel s a1) := by
  unfold abortOnChannel
  exact (by
      split
      · rename_i x43 e44
        exact h0
      · rename_i x45 x46 e47
        exact (by
          extract_lets v48 v49
          have h50 : Kept s0 v48 := (kept_updChan _ _ _ h0)
          clear_value v48
          have h51 : Kept s0 v49 := (kept_abortWhere _ _ _ h50)
          clear_value v49
          exact (kept_updChan _ _ _ (kept_resetChan _ _ h51))))

theorem kept_fabricStep {s0 : State} (s : State)  (h0 : Kept s0 s) : Kept s0 (fabricStep s) := by
  unfold fabricStep
  exact (kept_ite h0 (by
      extract_lets v55 v56 v57 v58
      have h59 : Kept s0 v56 := (kept_failChannels _ _ h0)
      clear_value v56
      have h60 : Kept s0 v57 := (kept_foldl (fun t61 x62 h63 => (kept_endChannels _ _ h63)) h59)
      clear_value v57
      exact (kept_setFab _ h60)))

theorem kept_peekCommand {s0 : State} (s : State) (a1 : Nat) (a2 : Nat)  (h0 : Kept s0 s) : Kept s0 (peekCommand s a1 a2) := by
  unfold peekCommand
  exact (by
      extract_lets v52 v53
      have h54 : Kept s0 v53 := (kept_setFab _ h0)
      clear_value v53
      exact (kept_updLink _ _ _ (kept_wr32 _ _ _ h54)))

theorem kept_execPeek {s0 : State} (a0 : Nat) (a1 : Nat) (s : State)  (h0 : Kept s0 s) : KeptOut s0 (execPeek a0 a1 s) := by
  unfold execPeek
  exact (kept_out (kept_ite (kept_peekCommand _ _ _ h0) h0))

theorem kept_sendFrame {s0 : State} (s : State) (a1 : Nat) (a2 : List Sys2Proof.Byte) (a3 : Bool) (a4 : Bool)  (h0 : Kept s0 s) : Kept s0 (sendFrame s a1 a2 a3 a4).1 := by
  unfold sendFrame
  exact (by
      extract_lets v64 v65 v66 v67 v68 v69 v70 v71 v72 v73 v74 v75 v76 v77 v78
      have h79 : Kept s0 v78 := (kept_updLink _ _ _ h0)
      clear_value v78
      exact (kept_fst (kept_emit _ h79)))

theorem kept_sendData {s0 : State} (s : State) (a1 : Nat) (a2 : List Sys2Proof.Byte) (a3 : Option (Nat × Nat × Nat)) (a4 : Bool)  (h0 : Kept s0 s) : Kept s0 (sendData s a1 a2 a3 a4) := by
  unfold sendData
  exact (by
      extract_lets v80
      exact (by
        split
        · rename_i x81 t82 x83 x84 e85
          exact (kept_updLink _ _ _ (kept_fst_eq e85 (kept_sendFrame _ _ _ _ _ h0)))))

theorem kept_sendIdle {s0 : State} (s : State) (a1 : Nat)  (h0 : Kept s0 s) : Kept s0 (sendIdle s a1) := by
  unfold sendIdle
  exact (kept_sendFrame _ _ _ _ _ h0)

theorem kept_sendTrain {s0 : State} (s : State) (a1 : Nat) (a2 : Nat) (a3 : Nat) (a4 : Nat)  (h0 : Kept s0 s) : Kept s0 (sendTrain s a1 a2 a3 a4) := by
  unfold sendTrain
  exact (kept_sendFrame _ _ _ _ _ h0)

theorem kept_sendFiller {s0 : State} (s : State) (a1 : Nat)  (h0 : Kept s0 s) : Kept s0 (sendFiller s a1) := by
  unfold sendFiller
  exact (kept_ite (kept_sendIdle _ _ h0) (kept_sendTrain _ _ _ _ _ h0))

theorem kept_sendChannel {s0 : State} (s : State) (a1 : Nat) (a2 : Nat) (a3 : Nat) (a4 : FChan)  (h0 : Kept s0 s) : Kept s0 (sendChannel s a1 a2 a3 a4) := by
  unfold sendChannel
  exact (by
      extract_lets v86 v87 v88 v89 v90
      have h91 : Kept s0 v90 := (kept_sendData _ _ _ _ _ (kept_charge _ _ _ _ h0))
      clear_value v90
      exact (by
        split
        · rename_i x141 x142 e143
          exact (kept_ite (kept_sendIdle _ _ (kept_count64 _ _ _ (kept_refused _ _ _ h0))) (kept_sendData _ _ _ _ _ (kept_updChan _ _ _ (kept_charge _ _ _ _ h0))))
        · rename_i x150 e151
          exact (kept_ite (kept_ite (kept_sendData _ _ _ _ _ (kept_charge _ _ _ _ h0)) (kept_sendIdle _ _ (kept_count64 _ _ _ h0))) (kept_ite (kept_sendIdle _ _ (kept_count64 _ _ _ h0)) (kept_ite (kept_sendIdle _ _ (kept_count64 _ _ _ (kept_refused _ _ _ h0))) (kept_updChan _ _ _ h91))))))

theorem kept_execSendSlot {s0 : State} (a0 : Nat) (s : State)  (h0 : Kept s0 s) : KeptOut s0 (execSendSlot a0 s) := by
  unfold execSendSlot
  exact (kept_out (kept_ite h0 (by
      split
      · rename_i x92 e93
        exact h0
      · rename_i x96 x97 e98
        exact (kept_ite h0 (by
          extract_lets v107
          have h108 : Kept s0 v107 := (kept_takeFabricBoundary _ h0)
          clear_value v107
          exact (kept_ite (kept_sendFiller _ _ h108) (by
            split
            · rename_i x119 e120
              exact (kept_sendFiller _ _ h108)
            · rename_i x121 x122 e123
              exact (by
                split
                · rename_i x131 e132
                  exact (kept_sendFiller _ _ h108)
                · rename_i x136 x137 e138
                  exact (kept_sendChannel _ _ _ _ _ h108)))))))))

theorem kept_execForwardSlot {s0 : State} (a0 : Nat) (s : State)  (h0 : Kept s0 s) : KeptOut s0 (execForwardSlot a0 s) := by
  unfold execForwardSlot
  exact (kept_out (kept_ite h0 (by
      split
      · rename_i x102 e103
        exact h0
      · rename_i x104 x105 e106
        exact (kept_ite h0 (by
          extract_lets v109 v110
          have h111 : Kept s0 v109 := (kept_takeFabricBoundary _ h0)
          clear_value v109
          exact (kept_ite (kept_sendFiller _ _ h111) (by
            split
            · rename_i x129 e130
              exact (kept_sendIdle _ _ h111)
            · rename_i x133 x134 e135
              exact (kept_sendData _ _ _ _ _ h111))))))))

theorem kept_execBeaconSlot {s0 : State} (a0 : Nat) (s : State)  (h0 : Kept s0 s) : KeptOut s0 (execBeaconSlot a0 s) := by
  unfold execBeaconSlot
  exact (kept_out (kept_ite h0 (by
      split
      · rename_i x94 e95
        exact h0
      · rename_i x99 x100 e101
        exact (kept_ite h0 (kept_ite (kept_sendFiller _ _ h0) (kept_sendFrame _ _ _ _ _ h0))))))

theorem kept_execUnscheduledFrame {s0 : State} (a0 : Nat) (s : State)  (h0 : Kept s0 s) : KeptOut s0 (execUnscheduledFrame a0 s) := by
  unfold execUnscheduledFrame
  exact (kept_out (kept_ite h0 (kept_ite (kept_sendFiller _ _ h0) (by
      split
      · rename_i x112 x113 x114 e115
        exact (by
          extract_lets v116 v117
          have h118 : Kept s0 v117 := (kept_count64 _ _ _ h0)
          clear_value v117
          exact (by
            split
            · rename_i x124 t125 x126 x127 e128
              exact (kept_updLink _ _ _ (kept_fst_eq e128 (kept_sendFrame _ _ _ _ _ h118)))))
      · rename_i x139 e140
        exact (by
          split
          · rename_i x144 x145 x146 e147
            exact (kept_sendData _ _ _ _ _ (kept_updLink _ _ _ h0))
          · rename_i x148 e149
            exact (kept_sendIdle _ _ h0))))))

theorem kept_advanceSource {s0 : State} (s : State) (a1 : Nat) (a2 : Nat)  (h0 : Kept s0 s) : Kept s0 (advanceSource s a1 a2) := by
  induction a2 generalizing s a1 with
  | zero =>
    unfold advanceSource
    exact h0
  | succ k ih =>
    unfold advanceSource
    exact (by
        split
        · rename_i x222 e223
          exact h0
        · rename_i x224 x225 e226
          exact (by
            extract_lets v227
            exact (kept_ite (ih _ _ (kept_updChan _ _ _ (kept_sharedPoke _ _ _ h0))) h0)))

theorem kept_ackFrame {s0 : State} (s : State) (a1 : FSent)  (h0 : Kept s0 s) : Kept s0 (ackFrame s a1) := by
  unfold ackFrame
  exact (by
      split
      · rename_i x154 e155
        exact h0
      · rename_i x156 x157 x158 x159 e160
        exact (by
          split
          · rename_i x161 e162
            exact h0
          · rename_i x163 x164 e165
            exact (kept_ite h0 (kept_advanceSource _ _ _ (kept_updChan _ _ _ h0)))))

theorem kept_resend {s0 : State} (s : State) (a1 : Nat) (a2 : FSent)  (h0 : Kept s0 s) : Kept s0 (resend s a1 a2) := by
  unfold resend
  exact (by
      extract_lets v152
      have h153 : Kept s0 v152 := (kept_updLink _ _ _ h0)
      clear_value v152
      exact (kept_ite (kept_declareLink _ _ h153) (kept_updLink _ _ _ h153)))

theorem kept_takeAck {s0 : State} (s : State) (a1 : Nat) (a2 : Nat) (a3 : Nat)  (h0 : Kept s0 s) : Kept s0 (takeAck s a1 a2 a3) := by
  unfold takeAck
  exact (kept_foldl (fun t168 x169 h170 => (by
      split
      · rename_i x174 e175
        exact h170
      · rename_i x176 x177 e178
        exact (kept_ite (kept_ackFrame _ _ (kept_updLink _ _ _ h170)) (kept_resend _ _ _ h170)))) h0)

theorem kept_execFrameRto {s0 : State} (a0 : Nat) (s : State)  (h0 : Kept s0 s) : KeptOut s0 (execFrameRto a0 s) := by
  unfold execFrameRto
  exact (kept_out (kept_ite h0 (by
      extract_lets v166 v167
      exact (kept_foldl (fun t171 x172 h173 => (kept_resend _ _ _ h173)) h0))))

theorem kept_learnRelease {s0 : State} (s : State) (a1 : Nat) (a2 : Nat) (a3 : Nat)  (h0 : Kept s0 s) : Kept s0 (learnRelease s a1 a2 a3) := by
  unfold learnRelease
  exact (by
      split
      · rename_i x179 e181
        exact h0
      · rename_i x184 x185 e186
        exact (by
          extract_lets v187
          have h188 : Kept s0 v187 := (kept_updChan _ _ _ h0)
          clear_value v187
          exact (kept_ite h188 (kept_abortOnChannel _ _ h188))))

theorem kept_advanceSink {s0 : State} (s : State) (a1 : Nat) (a2 : Nat)  (h0 : Kept s0 s) : Kept s0 (advanceSink s a1 a2) := by
  induction a2 generalizing s a1 with
  | zero =>
    unfold advanceSink
    exact h0
  | succ k ih =>
    unfold advanceSink
    exact (by
        split
        · rename_i x269 e270
          exact h0
        · rename_i x271 x272 e273
          exact (by
            extract_lets v275
            exact (kept_ite (ih _ _ (kept_updChan _ _ _ (kept_sharedPoke _ _ _ h0))) h0)))

theorem kept_passRecords {s0 : State} (s : State) (a1 : FChan) (a2 : List Sys2Proof.Byte)  (h0 : Kept s0 s) : Kept s0 (passRecords s a1 a2) := by
  unfold passRecords
  exact (by
      extract_lets v180 v182 v183
      exact (kept_setCore _ _ _ h0))

theorem kept_placePayload {s0 : State} (s : State) (a1 : Nat) (a2 : Nat) (a3 : Nat) (a4 : List Sys2Proof.Byte)  (h0 : Kept s0 s) : Kept s0 (placePayload s a1 a2 a3 a4) := by
  unfold placePayload
  exact (by
      split
      · rename_i x189 e190
        exact h0
      · rename_i x191 x192 e193
        exact (kept_ite h0 (by
          extract_lets v194
          have h195 : Kept s0 v194 := (kept_ite (kept_passRecords _ _ _ h0) (kept_chanWrite _ _ _ _ h0))
          clear_value v194
          exact (kept_advanceSink _ _ _ (kept_updChan _ _ _ h195)))))

theorem kept_takeCabort {s0 : State} (s : State) (a1 : Nat) (a2 : Nat) (a3 : Nat)  (h0 : Kept s0 s) : Kept s0 (takeCabort s a1 a2 a3) := by
  unfold takeCabort
  exact (by
      split
      · rename_i x196 e197
        exact h0
      · rename_i x200 x201 e202
        exact (kept_ite h0 (by
          extract_lets v208 v209 v210 v211 v212 v213 v214
          have h215 : Kept s0 v210 := (kept_abortOnChannel _ _ h0)
          clear_value v210
          have h219 : Kept s0 v214 := (kept_updChan _ _ _ h215)
          clear_value v214
          exact (kept_ite (kept_sharedPoke _ _ _ h219) (kept_advanceSink _ _ _ h219)))))

theorem kept_takeData {s0 : State} (s : State) (a1 : Nat) (a2 : List Sys2Proof.Byte)  (h0 : Kept s0 s) : Kept s0 (takeData s a1 a2) := by
  unfold takeData
  exact (by
      split
      · rename_i x198 e199
        exact h0
      · rename_i x203 x204 e205
        exact (by
          extract_lets v206
          have h207 : Kept s0 v206 := (by
            unfold v206
            split
            · rename_i x216 x217 e218
              exact (kept_ite (kept_learnRelease _ _ _ _ h0) h0)
            · rename_i x220 e221
              exact h0)
          clear_value v206
          exact (kept_ite (kept_takeCabort _ _ _ _ h207) (kept_ite h207 (kept_placePayload _ _ _ _ _ h207)))))

theorem kept_noteReceipt {s0 : State} (s : State) (a1 : Nat) (a2 : Nat) (a3 : Bool)  (h0 : Kept s0 s) : Kept s0 (noteReceipt s a1 a2 a3) := by
  unfold noteReceipt
  exact (kept_updLink _ _ _ h0)

theorem kept_noteGap {s0 : State} (s : State) (a1 : Nat)  (h0 : Kept s0 s) : Kept s0 (noteGap s a1) := by
  unfold noteGap
  exact (by
      extract_lets v228
      exact (kept_ite h0 (kept_updLink _ _ _ h0)))

theorem kept_forwardAgain {s0 : State} (s : State) (a1 : Nat) (a2 : Nat) (a3 : List Sys2Proof.Byte)  (h0 : Kept s0 s) : Kept s0 (forwardAgain s a1 a2 a3) := by
  unfold forwardAgain
  exact (by
      extract_lets v229 v230
      have h231 : Kept s0 v230 := (kept_updLink _ _ _ h0)
      clear_value v230
      exact (kept_foldl (fun t232 x233 h234 => (kept_updLink _ _ _ h234)) h231))

theorem kept_routeData {s0 : State} (s : State) (a1 : Nat) (a2 : List Sys2Proof.Byte)  (h0 : Kept s0 s) : KeptOpt (fun x => x) s0 (routeData s a1 a2) := by
  unfold routeData
  exact (by
      extract_lets v235 v236
      exact (by
        split
        · rename_i x237 x238 e239
          exact (keptOpt_ite (keptOpt_some (kept_takeData _ _ _ h0)) (keptOpt_none))
        · rename_i x293 e294
          exact (keptOpt_ite (keptOpt_ite (keptOpt_none) (keptOpt_some (kept_updLink _ _ _ h0))) (by
            split
            · rename_i x299 e300
              exact (keptOpt_some h0)
            · rename_i x301 x302 e303
              exact (keptOpt_some (kept_forwardAgain _ _ _ _ h0))))))

theorem kept_takeBeacon {s0 : State} (s : State) (a1 : Nat) (a2 : List Sys2Proof.Byte)  (h0 : Kept s0 s) : Kept s0 (takeBeacon s a1 a2) := by
  unfold takeBeacon
  exact (by
      extract_lets v240 v241 v242 v243 v244 v245 v246 v247 v248 v249 v250
      have h251 : Kept s0 v240 := (kept_showLink _ _ (kept_updLink _ _ _ h0))
      clear_value v240
      have h266 : Kept s0 v243 := (kept_wr64 _ _ _ h251)
      clear_value v243
      have h268 : Kept s0 v246 := (kept_updLink _ _ _ h266)
      clear_value v246
      have h274 : Kept s0 v248 := (kept_ite (kept_arrive _ _ _ (kept_count64 _ _ _ h268)) h268)
      clear_value v248
      have h278 : Kept s0 v250 := (kept_updLink _ _ _ h274)
      clear_value v250
      exact (kept_ite (kept_updLink _ _ _ h268) (kept_ite (kept_declareLink _ _ h278) h278)))

theorem kept_takeShutter {s0 : State} (s : State) (a1 : Nat) (a2 : Nat)  (h0 : Kept s0 s) : Kept s0 (takeShutter s a1 a2) := by
  unfold takeShutter
  exact (by
      extract_lets v252 v253 v254
      have h255 : Kept s0 v254 := (kept_arrive _ _ _ (kept_count64 _ _ _ h0))
      clear_value v254
      exact (kept_ite h0 (kept_ite (kept_arrive _ _ _ (kept_count64 _ _ _ h0)) (kept_ite (kept_ite (kept_armInstant _ _ _ h255) h255) (kept_armInstant _ _ _ h0)))))

theorem kept_takeHeader {s0 : State} (s : State) (a1 : Nat) (a2 : List Sys2Proof.Byte)  (h0 : Kept s0 s) : Kept s0 (takeHeader s a1 a2) := by
  unfold takeHeader
  exact (by
      extract_lets v256 v257 v258 v259 v260 v261 v262 v263 v264
      have h265 : Kept s0 v257 := (kept_takeAck _ _ _ _ h0)
      clear_value v257
      have h267 : Kept s0 v258 := (kept_ite (kept_updLink _ _ _ h265) h265)
      clear_value v258
      have h276 : Kept s0 v260 := (kept_updLink _ _ _ h267)
      clear_value v260
      have h277 : Kept s0 v262 := (kept_ite (kept_updLink _ _ _ (kept_wr32 _ _ _ (kept_wr64 _ _ _ h276))) h276)
      clear_value v262
      have h283 : Kept s0 v263 := (kept_ite (kept_foldl (fun t287 x288 h289 => (kept_learnRelease _ _ _ _ h289)) h277) h267)
      clear_value v263
      have h296 : Kept s0 v264 := (kept_ite (kept_takeNotice _ _ _ _ h283) h283)
      clear_value v264
      exact (kept_ite (kept_takeShutter _ _ _ h296) h296))

theorem kept_takeLanes {s0 : State} (s : State) (a1 : Nat)  (h0 : Kept s0 s) : Kept s0 (takeLanes s a1) := by
  unfold takeLanes
  exact (by
      extract_lets v279
      exact (kept_foldl (fun t280 x281 h282 => (kept_finishRepair _ _ h282)) h0))

theorem kept_replaceLanes {s0 : State} (s : State) (a1 : Nat) (a2 : Nat) (a3 : Nat)  (h0 : Kept s0 s) : Kept s0 (replaceLanes s a1 a2 a3) := by
  unfold replaceLanes
  exact (kept_takeLanes _ _ (kept_foldl (fun t284 x285 h286 => (kept_engage _ _ _ _ h286)) h0))

theorem kept_startCheck {s0 : State} (s : State) (a1 : Nat) (a2 : Nat)  (h0 : Kept s0 s) : Kept s0 (startCheck s a1 a2) := by
  unfold startCheck
  exact (kept_updLink _ _ _ h0)

theorem kept_startTraining {s0 : State} (s : State) (a1 : Nat)  (h0 : Kept s0 s) : Kept s0 (startTraining s a1) := by
  unfold startTraining
  exact (by
      extract_lets v290 v291
      have h292 : Kept s0 v290 := (kept_takeLanes _ _ h0)
      clear_value v290
      have h295 : Kept s0 v291 := (kept_updLink _ _ _ h292)
      clear_value v291
      exact (kept_showLink _ _ (kept_startCheck _ _ _ h295)))

theorem kept_trainingFails {s0 : State} (s : State) (a1 : Nat)  (h0 : Kept s0 s) : Kept s0 (trainingFails s a1) := by
  unfold trainingFails
  exact (kept_showLink _ _ (kept_updLink _ _ _ h0))

theorem kept_execFibreLightGained {s0 : State} (a0 : Nat) (s : State)  (h0 : Kept s0 s) : KeptOut s0 (execFibreLightGained a0 s) := by
  unfold execFibreLightGained
  exact (kept_out (kept_ite h0 (by
      extract_lets v297
      have h298 : Kept s0 v297 := (kept_updLink _ _ _ h0)
      clear_value v297
      exact (kept_ite (kept_startTraining _ _ h298) h298))))

theorem kept_countRetrain {s0 : State} (s : State) (a1 : Nat)  (h0 : Kept s0 s) : Kept s0 (countRetrain s a1) := by
  unfold countRetrain
  exact (kept_satCount64 _ _ _ (kept_count64 _ _ _ h0))

theorem kept_execTrainRetry {s0 : State} (a0 : Nat) (s : State)  (h0 : Kept s0 s) : KeptOut s0 (execTrainRetry a0 s) := by
  unfold execTrainRetry
  exact (kept_out (kept_ite (kept_startTraining _ _ (kept_countRetrain _ _ h0)) h0))

theorem kept_execLaneCheckEnd {s0 : State} (a0 : Nat) (a1 : List Nat) (s : State)  (h0 : Kept s0 s) : KeptOut s0 (execLaneCheckEnd a0 a1 s) := by
  unfold execLaneCheckEnd
  exact (kept_out (kept_ite h0 (by
      extract_lets v308
      exact (kept_sendTrain _ _ _ _ _ (kept_updLink _ _ _ h0)))))

theorem kept_lanesReported {s0 : State} (s : State) (a1 : Nat) (a2 : Nat)  (h0 : Kept s0 s) : Kept s0 (lanesReported s a1 a2) := by
  unfold lanesReported
  exact (by
      extract_lets v304 v305 v306 v307
      have h309 : Kept s0 v306 := (kept_replaceLanes _ _ _ _ h0)
      clear_value v306
      have h310 : Kept s0 v307 := (kept_replaceLanes _ _ _ _ h309)
      clear_value v307
      exact (kept_ite (kept_sendTrain _ _ _ _ _ (kept_updLink _ _ _ h0)) (kept_ite (kept_trainingFails _ _ h0) (kept_startCheck _ _ _ (kept_updLink _ _ _ h310)))))

theorem kept_trainAfterLoad {s0 : State} (s : State) (a1 : Nat)  (h0 : Kept s0 s) : Kept s0 (trainAfterLoad s a1) := by
  unfold trainAfterLoad
  exact (by
      split
      · rename_i x322 x323 x324 e325
        exact (by
          extract_lets v326 v327
          exact (kept_ite (kept_startTraining _ _ h0) h0)))

theorem kept_decideUp {s0 : State} (s : State) (a1 : Nat)  (h0 : Kept s0 s) : Kept s0 (decideUp s a1) := by
  unfold decideUp
  exact (by
      extract_lets v311 v312 v313 v314 v315 v316 v317
      have h318 : Kept s0 v315 := (kept_wrBits _ _ _ _ _ h0)
      clear_value v315
      have h330 : Kept s0 v317 := (kept_wr64 _ _ _ h318)
      clear_value v317
      exact (kept_ite h0 (kept_ite (kept_trainingFails _ _ h0) (kept_showLink _ _ (kept_updLink _ _ _ h330)))))

theorem kept_takeVersion {s0 : State} (s : State) (a1 : Nat) (a2 : List Sys2Proof.Byte)  (h0 : Kept s0 s) : Kept s0 (takeVersion s a1 a2) := by
  unfold takeVersion
  exact (kept_ite h0 (by
      extract_lets v319 v320 v321
      exact (by
        split
        · rename_i x328 e329
          exact (kept_trainingFails _ _ h0)
        · rename_i x331 x332 e333
          exact (kept_sendTrain _ _ _ _ _ (kept_updLink _ _ _ (kept_wrBits _ _ _ _ _ (kept_wrBits _ _ _ _ _ h0)))))))

theorem kept_takeIdentity {s0 : State} (s : State) (a1 : Nat) (a2 : List Sys2Proof.Byte)  (h0 : Kept s0 s) : Kept s0 (takeIdentity s a1 a2) := by
  unfold takeIdentity
  exact (kept_ite h0 (by
      extract_lets v334 v335 v336
      have h337 : Kept s0 v335 := (kept_updLink _ _ _ h0)
      clear_value v335
      have h341 : Kept s0 v336 := (kept_ite (kept_declareLink _ _ h337) h337)
      clear_value v336
      exact (kept_sendTrain _ _ _ _ _ (kept_updLink _ _ _ h341))))

theorem kept_checkPeers {s0 : State} (s : State)  (h0 : Kept s0 s) : Kept s0 (checkPeers s) := by
  unfold checkPeers
  exact (kept_foldl (fun t338 x339 h340 => (kept_ite (kept_declareLink _ _ h340) h340)) h0)

theorem kept_takeTrain {s0 : State} (s : State) (a1 : Nat) (a2 : List Sys2Proof.Byte)  (h0 : Kept s0 s) : Kept s0 (takeTrain s a1 a2) := by
  unfold takeTrain
  exact (by
      extract_lets v342 v343 v344 v345
      have h346 : Kept s0 v345 := (kept_updLink _ _ _ h0)
      clear_value v345
      exact (kept_ite h0 (kept_ite (kept_sendTrain _ _ _ _ _ (kept_takeIdentity _ _ _ (kept_takeVersion _ _ _ h0))) (kept_ite (kept_ite (kept_showLink _ _ (kept_updLink _ _ _ h0)) h0) (by
        clear_value v342
        split
        · rename_i x360
          exact (kept_ite (kept_lanesReported _ _ _ h0) h0)
        · rename_i x361
          exact (kept_takeVersion _ _ _ h0)
        · rename_i x362
          exact (kept_takeIdentity _ _ _ (kept_takeVersion _ _ _ h0))
        · rename_i x363
          exact (kept_ite h0 (kept_ite (kept_sendTrain _ _ _ _ _ h346) (kept_decideUp _ _ (kept_sendTrain _ _ _ _ _ (kept_updLink _ _ _ h346)))))
        · rename_i x371
          exact (kept_decideUp _ _ (kept_updLink _ _ _ h0))
        · rename_i x372 e373 e374 e375 e376 e377
          exact h0)))))

theorem kept_execFabricFrameRx {s0 : State} (a0 : Nat) (a1 : List Sys2Proof.Byte) (s : State)  (h0 : Kept s0 s) : KeptOut s0 (execFabricFrameRx a0 a1 s) := by
  unfold execFabricFrameRx
  exact (kept_out (by
      extract_lets v347 v348 v349 v350 v351 v352 v353
      have h354 : Kept s0 v348 := (kept_sticky _ _ _ (kept_countCE _ _ _ (kept_count64 _ _ _ h0)))
      clear_value v348
      have h356 : Kept s0 v349 := (kept_updLink _ _ _ h354)
      clear_value v349
      have h357 : Kept s0 v351 := (kept_noteGap _ _ (kept_noteReceipt _ _ _ _ (kept_count64 _ _ _ h0)))
      clear_value v351
      have h358 : Kept s0 v352 := (kept_noteReceipt _ _ _ _ h0)
      clear_value v352
      have h359 : Kept s0 v353 := (kept_takeHeader _ _ _ h358)
      clear_value v353
      exact (kept_ite h0 (kept_ite (kept_noteGap _ _ (kept_noteReceipt _ _ _ _ h356)) (kept_ite h357 (by
        split
        · rename_i x364 e365
          exact (kept_ite (kept_takeHeader _ _ _ h358) (by
            split
            · rename_i x366 e367
              exact h357
            · rename_i x368 t369 e370
              exact (kept_takeHeader _ _ _ (keptOpt_get (f := fun x => x) e370 (kept_routeData _ _ _ h358)))))
        · rename_i x378 e379
          exact (kept_ite (kept_takeBeacon _ _ _ h359) h359)
        · rename_i x380 e381
          exact (kept_takeTrain _ _ _ (kept_takeHeader _ _ _ h358))
        · rename_i x382 e383 e384 e385
          exact (kept_takeHeader _ _ _ h358)))))))

theorem kept_execLaneLockLoss {s0 : State} (a0 : Nat) (s : State)  (h0 : Kept s0 s) : KeptOut s0 (execLaneLockLoss a0 s) := by
  unfold execLaneLockLoss
  exact (kept_out (kept_ite h0 (kept_startTraining _ _ (kept_countRetrain _ _ (kept_updLink _ _ _ h0)))))

theorem kept_execLockLossTimeout {s0 : State} (a0 : Nat) (s : State)  (h0 : Kept s0 s) : KeptOut s0 (execLockLossTimeout a0 s) := by
  unfold execLockLossTimeout
  exact (kept_out (by
      extract_lets v355
      exact (kept_ite (kept_declareLink _ _ (kept_updLink _ _ _ h0)) h0)))

theorem kept_execPostLoadLinkCheck {s0 : State} (a0 : Nat) (s : State)  (h0 : Kept s0 s) : KeptOut s0 (execPostLoadLinkCheck a0 s) := by
  unfold execPostLoadLinkCheck
  exact (kept_out (kept_ite (kept_declareLink _ _ h0) h0))

/-! ### Machine/Pulys.lean -/

theorem kept_setReader {s0 : State} (s : State) (a1 : Nat) (a2 : Reader)  (h0 : Kept s0 s) : Kept s0 (setReader s a1 a2) := by
  unfold setReader
  exact (kept_setStr _ h0)

theorem kept_countDup {s0 : State} (s : State) (a1 : Nat)  (h0 : Kept s0 s) : Kept s0 (countDup s a1) := by
  unfold countDup
  exact (kept_setEntry _ _ _ h0)

theorem kept_placeFrame {s0 : State} (s : State) (a1 : Nat) (a2 : Sys2Proof.W512) (a3 : RdFrame)  (h0 : Kept s0 s) : Kept s0 (placeFrame s a1 a2 a3).1 := by
  unfold placeFrame
  exact (by
      extract_lets v0 v1 v2
      exact (kept_pr_ite (f := Prod.fst) (kept_fst (kept_countDup _ _ h0)) (kept_pr_ite (f := Prod.fst) h0 (kept_pr_ite (f := Prod.fst) h0 (kept_pr_ite (f := Prod.fst) h0 h0)))))

theorem kept_readUnits {s0 : State} (a0 : Bool) (s : State) (a2 : Nat) (a3 : Sys2Proof.W512) (a4 : Nat) (a5 : List Sys2Proof.Byte) (a6 : Nat)  (h0 : Kept s0 s) : Kept s0 (readUnits a0 s a2 a3 a4 a5 a6).1 := by
  induction a6 generalizing a0 s a2 a3 a4 a5 with
  | zero =>
    unfold readUnits
    exact h0
  | succ k ih =>
    unfold readUnits
    exact (kept_pr_ite (f := Prod.fst) h0 (by
        split
        · rename_i x28 x29 e30
          exact h0
        · rename_i x31 x32 x33 e34
          exact (by
            extract_lets v35 v36 v37 v38 v39
            exact (kept_pr_ite (f := Prod.fst) (ih _ _ _ _ _ _ h0) (kept_pr_ite (f := Prod.fst) (kept_pr_ite (f := Prod.fst) h0 (ih _ _ _ _ _ _ (kept_setReader _ _ _ h0))) (kept_pr_ite (f := Prod.fst) h0 (kept_pr_ite (f := Prod.fst) (kept_pr_ite (f := Prod.fst) h0 (kept_pr_ite (f := Prod.fst) h0 (ih _ _ _ _ _ _ (kept_setReader _ _ _ h0)))) (kept_pr_ite (f := Prod.fst) (kept_pr_ite (f := Prod.fst) h0 (kept_pr_ite (f := Prod.fst) h0 (kept_pr_ite (f := Prod.fst) h0 (ih _ _ _ _ _ _ (kept_setReader _ _ _ h0))))) (kept_pr_ite (f := Prod.fst) (kept_pr_ite (f := Prod.fst) h0 (kept_pr_ite (f := Prod.fst) h0 (ih _ _ _ _ _ _ (kept_setReader _ _ _ h0)))) h0)))))))))

theorem kept_substitute {s0 : State} (s : State) (a1 : Nat) (a2 : Nat) (a3 : List (Nat × List Sys2Proof.Byte))  (h0 : Kept s0 s) : Kept s0 (substitute s a1 a2 a3) := by
  unfold substitute
  exact (by
      extract_lets v3 v4
      exact (kept_updTask _ _ _ _ (kept_foldl (fun t5 x6 h7 => (kept_hbmPoke _ _ _ _ h7)) h0)))

theorem kept_takeFrame {s0 : State} (s : State) (a1 : Nat) (a2 : Nat) (a3 : Task) (a4 : RdFrame)  (h0 : Kept s0 s) : Kept s0 (takeFrame s a1 a2 a3 a4) := by
  unfold takeFrame
  exact (kept_substitute _ _ _ _ (kept_updTask _ _ _ _ h0))

theorem kept_readOwn {s0 : State} (s : State) (a1 : Nat) (a2 : Nat)  (h0 : Kept s0 s) : Kept s0 (readOwn s a1 a2).1 := by
  unfold readOwn
  exact (by
      split
      · rename_i x8 e9
        exact h0
      · rename_i x10 x11 e12
        exact (kept_pr_ite (f := Prod.fst) h0 (by
          split
          · rename_i x18 x19 e20
            exact (kept_fst (kept_unitAbort _ _ _ _ h0))
          · rename_i x21 x22 e23
            exact (by
              split
              · rename_i x24 t25 x26 e27
                exact (kept_fst (kept_abortTask _ _ _ _ (kept_fst_eq e27 (kept_readUnits _ _ _ _ _ _ _ h0))))
              · rename_i x40 t41 x42 e43
                exact (by
                  extract_lets v44 v45
                  exact (kept_pr_ite (f := Prod.fst) (kept_fst (kept_takeFrame _ _ _ _ _ (kept_fst_eq e43 (kept_readUnits _ _ _ _ _ _ _ h0)))) (kept_fst (kept_takeFrame _ _ _ _ _ (kept_placeFrame _ _ _ _ (kept_fst_eq e43 (kept_readUnits _ _ _ _ _ _ _ h0)))))))))))

theorem kept_readInput {s0 : State} (s : State) (a1 : Nat) (a2 : Nat)  (h0 : Kept s0 s) : Kept s0 (readInput s a1 a2).1 := by
  unfold readInput
  exact (by
      split
      · rename_i x13 e14
        exact h0
      · rename_i x15 x16 e17
        exact (kept_pr_ite (f := Prod.fst) (kept_readOwn _ _ _ h0) (by
          split
          · rename_i x46 t47 e48
            exact (kept_fst (kept_fst_eq e48 (kept_readOwn _ _ _ h0)))
          · rename_i x49 t50 e51
            exact (by
              split
              · rename_i x52 e53
                exact (kept_fst (kept_fst_eq e51 (kept_readOwn _ _ _ h0)))
              · rename_i x54 x55 e56
                exact (kept_fst (kept_updTask _ _ _ _ (kept_fst_eq e51 (kept_readOwn _ _ _ h0))))))))

/-! ### Machine/Streams.lean -/

theorem kept_estat {s0 : State} (s : State) (a1 : Nat)  (h0 : Kept s0 s) : Kept s0 (estat s a1) := by
  unfold estat
  exact (by
      extract_lets v0
      have h1 : Kept s0 v0 := (kept_wrBits _ _ _ _ _ h0)
      clear_value v0
      exact (kept_ite h1 (kept_raiseBy _ _ (kept_raise _ _ _ h1))))

theorem kept_execEntryRead {s0 : State} (a0 : Nat) (s : State)  (h0 : Kept s0 s) : KeptOut s0 (execEntryRead a0 s) := by
  unfold execEntryRead
  exact (kept_out (kept_ite h0 (by
      extract_lets v2
      exact (kept_estat _ _ (kept_foldl (fun t13 x14 h15 => (kept_wr32 _ _ _ h15)) h0)))))

theorem kept_execEntryWrite {s0 : State} (a0 : Nat) (s : State)  (h0 : Kept s0 s) : KeptOut s0 (execEntryWrite a0 s) := by
  unfold execEntryWrite
  exact (kept_out (kept_ite h0 (by
      extract_lets v3 v4 v5 v6
      exact (kept_ite (kept_estat _ _ h0) (kept_ite (kept_estat _ _ h0) (kept_ite (kept_estat _ _ h0) (kept_admitRing _ _ (kept_setEntry _ _ _ (kept_estat _ _ h0)))))))))

theorem kept_takePrefix {s0 : State} (s : State) (h0 : Kept s0 s) : Kept s0 (takePrefix s).2 := by
  refine ⟨?_, ?_, ?_, ?_, ?_, ?_, ?_, ?_, ?_⟩
  · unfold takePrefix; dsimp only; split <;> exact h0.1
  · unfold takePrefix; dsimp only; split <;> exact h0.2
  · unfold takePrefix; dsimp only; split <;> exact h0.3
  · unfold takePrefix; dsimp only; split <;> exact h0.4
  · unfold takePrefix; dsimp only; split <;> exact h0.5
  · unfold takePrefix; dsimp only; split
    · exact Nat.le_trans h0.6 (Nat.le_add_right _ _)
    · exact h0.6
  · intro hn
    have := h0.7 hn
    unfold takePrefix; dsimp only; split <;> simp only [State.setDrk, State.setFlash] at * <;> omega
  · unfold takePrefix; dsimp only; split <;> exact h0.8
  · unfold takePrefix; dsimp only; split <;> exact h0.9

theorem kept_execEntryCreate {s0 : State} (a0 : Nat) (s : State)  (h0 : Kept s0 s) : KeptOut s0 (execEntryCreate a0 s) := by
  unfold execEntryCreate
  exact (kept_out (kept_ite h0 (by
      extract_lets v7 v8 v9 v10 v11
      have h12 : Kept s0 v10 := (kept_ite (kept_takePrefix _ h0) h0)
      clear_value v10
      exact (kept_ite (kept_estat _ _ h0) (kept_ite (kept_setEntry _ _ _ (kept_estat _ _ h0)) (kept_ite (kept_estat _ _ h0) (kept_ite (kept_estat _ _ h0) (kept_setEntry _ _ _ (kept_estat _ _ (kept_setStr _ h12))))))))))

theorem kept_releaseStream {s0 : State} (s : State) (a1 : Nat)  (h0 : Kept s0 s) : Kept s0 (releaseStream s a1) := by
  unfold releaseStream
  exact (by
      extract_lets v27 v28 v29
      have h30 : Kept s0 v29 := (kept_setStr _ h0)
      clear_value v29
      exact (kept_foldl (fun t34 x35 h36 => (by
        extract_lets v38
        exact (by
          split
          · rename_i x48 e49
            exact h36
          · rename_i x50 x51 e52
            exact (kept_ite (kept_setIslot _ _ _ _ h36) h36)))) h30))

theorem kept_invalidate {s0 : State} (s : State) (a1 : Nat) (a2 : Nat)  (h0 : Kept s0 s) : Kept s0 (invalidate s a1 a2) := by
  unfold invalidate
  exact (by
      extract_lets v16 v17 v18 v19 v20 v21 v22 v23 v24
      have h25 : Kept s0 v17 := (kept_setEntry _ _ _ h0)
      clear_value v17
      have h26 : Kept s0 v19 := (kept_setStr _ h25)
      clear_value v19
      have h31 : Kept s0 v20 := (kept_wrBits _ _ _ _ _ h26)
      clear_value v20
      have h32 : Kept s0 v21 := (kept_abortWhere _ _ _ h31)
      clear_value v21
      have h33 : Kept s0 v22 := (kept_dropReady _ _ _ h32)
      clear_value v22
      have h37 : Kept s0 v24 := (kept_advanceIngress _ _ _ (kept_releaseStream _ _ h33))
      clear_value v24
      exact (kept_checkInvalidation _ h37))

theorem kept_execEntryInvalidate {s0 : State} (a0 : Nat) (s : State)  (h0 : Kept s0 s) : KeptOut s0 (execEntryInvalidate a0 s) := by
  unfold execEntryInvalidate
  exact (kept_out (kept_ite h0 (kept_ite (kept_estat _ _ h0) (kept_invalidate _ _ _ (kept_estat _ _ h0)))))

theorem kept_badDoorbell {s0 : State} (s : State) (a1 : Nat)  (h0 : Kept s0 s) : Kept s0 (badDoorbell s a1) := by
  unfold badDoorbell
  exact (kept_arrive _ _ _ (kept_count64 _ _ _ h0))

theorem kept_moveCons {s0 : State} (s : State) (a1 : Nat) (a2 : Nat)  (h0 : Kept s0 s) : Kept s0 (moveCons s a1 a2) := by
  unfold moveCons
  exact (by
      extract_lets v39 v40 v41
      have h42 : Kept s0 v40 := (kept_foldl (fun t43 x44 h45 => (kept_setOslot _ _ _ _ h45)) h0)
      clear_value v40
      have h46 : Kept s0 v41 := (kept_setCons _ _ _ h42)
      clear_value v41
      exact (kept_pushRing _ _ (kept_payOwed _ _ _ h46)))

theorem kept_doorbell {s0 : State} (s : State) (a1 : Nat) (a2 : Nat)  (h0 : Kept s0 s) : Kept s0 (doorbell s a1 a2) := by
  unfold doorbell
  exact (by
      extract_lets v47
      exact (kept_ite (kept_badDoorbell _ _ h0) (kept_ite (kept_ite (kept_badDoorbell _ _ h0) (kept_setProd _ _ _ h0)) (kept_ite (kept_badDoorbell _ _ h0) (kept_moveCons _ _ _ h0)))))

theorem kept_execDoorbell {s0 : State} (a0 : Nat) (a1 : Nat) (s : State)  (h0 : Kept s0 s) : KeptOut s0 (execDoorbell a0 a1 s) := by
  unfold execDoorbell
  exact (kept_out (kept_ite (kept_doorbell _ _ _ h0) h0))

theorem kept_bindRing {s0 : State} (s : State) (a1 : Nat) (a2 : Nat)  (h0 : Kept s0 s) : Kept s0 (bindRing s a1 a2) := by
  unfold bindRing
  exact (kept_ite h0 (by
      extract_lets v53 v54 v55
      have h56 : Kept s0 v54 := (kept_setStr _ h0)
      clear_value v54
      have h57 : Kept s0 v55 := (kept_foldl (fun t58 x59 h60 => (by
        extract_lets v61
        exact (by
          split
          · rename_i x62 e63
            exact h60
          · rename_i x64 x65 e66
            exact (kept_setOslot _ _ _ _ h60)))) h56)
      clear_value v55
      exact (kept_pushRing _ _ h57)))

theorem kept_enableRing {s0 : State} (s : State) (a1 : Nat) (a2 : Nat)  (h0 : Kept s0 s) : Kept s0 (enableRing s a1 a2) := by
  unfold enableRing
  exact (kept_ite (kept_bindRing _ _ _ h0) (kept_ite (kept_bindRing _ _ _ (kept_wrBits _ _ _ _ _ h0)) (kept_raise _ _ _ (kept_wr32 _ _ _ h0))))

theorem kept_execRingEnable {s0 : State} (a0 : Nat) (a1 : Nat) (s : State)  (h0 : Kept s0 s) : KeptOut s0 (execRingEnable a0 a1 s) := by
  unfold execRingEnable
  exact (kept_out (kept_ite h0 (kept_enableRing _ _ _ h0)))

theorem kept_execRingStall {s0 : State} (a0 : Nat) (s : State)  (h0 : Kept s0 s) : KeptOut s0 (execRingStall a0 s) := by
  unfold execRingStall
  exact (kept_out (kept_ite h0 (by
      split
      · rename_i x67 e68
        exact h0
      · rename_i x69 x70 e71
        exact (kept_ite h0 (by
          extract_lets v75
          have h76 : Kept s0 v75 := (kept_arrive _ _ _ (kept_sticky _ _ _ h0))
          clear_value v75
          exact (kept_hcpSend _ _ _ _ _ _ h76))))))

theorem kept_subTake {s0 : State} (s : State) (a1 : Nat)  (h0 : Kept s0 s) : Kept s0 (subTake s a1) := by
  unfold subTake
  exact (kept_setCons _ _ _ (kept_noteLost _ _ _ _ h0))

theorem kept_subDone {s0 : State} (s : State) (a1 : Nat) (a2 : Nat) (a3 : Nat) (a4 : Nat)  (h0 : Kept s0 s) : Kept s0 (subDone s a1 a2 a3 a4) := by
  unfold subDone
  exact (by
      extract_lets v72 v73
      have h74 : Kept s0 v72 := (kept_subTake _ _ h0)
      clear_value v72
      exact (kept_ite (kept_refuseRecord _ _ _ _ _ _ h74) (kept_postRecord _ _ _ _ h74)))

theorem kept_execRunTask {s0 : State} (a0 : Nat) (s : State)  (h0 : Kept s0 s) : KeptOut s0 (execRunTask a0 s) := by
  unfold execRunTask
  exact (kept_out (by
      split
      · rename_i x77 e78
        exact h0
      · rename_i x79 x80 e81
        exact (by
          extract_lets v82 v83 v84
          exact (kept_ite (kept_subDone _ _ _ _ _ h0) (kept_ite h0 (kept_ite (kept_subDone _ _ _ _ _ h0) (kept_admitTask _ _ _ _ _ _ _ _ _ _ (kept_subTake _ _ h0))))))))

theorem kept_execForceKey {s0 : State} (a0 : Nat) (s : State)  (h0 : Kept s0 s) : KeptOut s0 (execForceKey a0 s) := by
  unfold execForceKey
  exact (kept_out (by
      split
      · rename_i x100 e101
        exact h0
      · rename_i x102 x103 e104
        exact (by
          extract_lets v105 v106 v107
          exact (kept_ite (kept_subDone _ _ _ _ _ h0) (kept_ite (kept_subDone _ _ _ _ _ h0) (kept_subDone _ _ _ _ _ (kept_setEntry _ _ _ h0)))))))

theorem kept_execWriteEndUnit {s0 : State} (a0 : Nat) (s : State)  (h0 : Kept s0 s) : KeptOut s0 (execWriteEndUnit a0 s) := by
  unfold execWriteEndUnit
  exact (kept_out (by
      split
      · rename_i x85 e86
        exact h0
      · rename_i x87 x88 e89
        exact (by
          extract_lets v90 v91 v92 v93 v94 v95 v96 v97
          have h98 : Kept s0 v96 := (kept_hbmPoke _ _ _ _ h0)
          clear_value v96
          have h99 : Kept s0 v97 := (kept_setOslot _ _ _ _ h98)
          clear_value v97
          exact (kept_ite (kept_subDone _ _ _ _ _ h0) (kept_ite (kept_subDone _ _ _ _ _ h0) (kept_ite h0 (kept_subDone _ _ _ _ _ (kept_setProd _ _ _ h99))))))))

theorem kept_execRetry {s0 : State} (a0 : Nat) (s : State)  (h0 : Kept s0 s) : KeptOut s0 (execRetry a0 s) := by
  unfold execRetry
  exact (kept_out (by
      split
      · rename_i x108 e109
        exact h0
      · rename_i x110 x111 e112
        exact (by
          extract_lets v113 v114 v115 v116
          exact (kept_ite (kept_subDone _ _ _ _ _ h0) (by
            split
            · rename_i x125 e126
              exact (kept_subDone _ _ _ _ _ h0)
            · rename_i x127 x128 e129
              exact (kept_ite h0 (by
                split
                · rename_i x135 e136
                  exact h0
                · rename_i x137 x138 e139
                  exact (by
                    extract_lets v140
                    have h141 : Kept s0 v140 := (kept_setIslot _ _ _ _ (kept_subTake _ _ h0))
                    clear_value v140
                    exact (kept_admitTask _ _ _ _ _ _ _ _ _ _ h141)))))))))

theorem kept_execSkip {s0 : State} (a0 : Nat) (s : State)  (h0 : Kept s0 s) : KeptOut s0 (execSkip a0 s) := by
  unfold execSkip
  exact (kept_out (by
      split
      · rename_i x117 e118
        exact h0
      · rename_i x119 x120 e121
        exact (by
          extract_lets v122 v123 v124
          exact (kept_ite (kept_subDone _ _ _ _ _ h0) (by
            split
            · rename_i x130 e131
              exact (kept_subDone _ _ _ _ _ h0)
            · rename_i x132 x133 e134
              exact (kept_subDone _ _ _ _ _ (kept_releaseSlot _ _ _ h0)))))))

/-! ### Machine/EthIngress.lean -/

theorem kept_portEvent {s0 : State} (s : State) (a1 : Nat) (a2 : Nat)  (h0 : Kept s0 s) : Kept s0 (portEvent s a1 a2) := by
  unfold portEvent
  exact (kept_arrive _ _ _ h0)

theorem kept_rxDrop {s0 : State} (s : State) (a1 : Nat)  (h0 : Kept s0 s) : Kept s0 (rxDrop s a1) := by
  unfold rxDrop
  exact (kept_portEvent _ _ _ (kept_count64 _ _ _ h0))

theorem kept_setTable {s0 : State} (s : State) (a1 : Nat) (a2 : Nat) (a3 : Nat) (a4 : Sys2Proof.W256)  (h0 : Kept s0 s) : Kept s0 (setTable s a1 a2 a3 a4) := by
  unfold setTable
  exact (kept_setEth _ h0)

theorem kept_tableCount {s0 : State} (s : State) (a1 : Nat) (a2 : Nat) (a3 : Nat) (a4 : Nat)  (h0 : Kept s0 s) : Kept s0 (tableCount s a1 a2 a3 a4) := by
  unfold tableCount
  exact (by
      extract_lets v0
      exact (kept_setTable _ _ _ _ _ h0))

theorem kept_execStreamGateConfigApply {s0 : State} (a0 : Nat) (a1 : Nat) (s : State)  (h0 : Kept s0 s) : KeptOut s0 (execStreamGateConfigApply a0 a1 s) := by
  unfold execStreamGateConfigApply
  exact (kept_out (by
      extract_lets v1 v2 v3 v4
      exact (kept_ite h0 (kept_setEth _ h0))))

theorem kept_execStreamGateIntervalEnd {s0 : State} (a0 : Nat) (a1 : Nat) (s : State)  (h0 : Kept s0 s) : KeptOut s0 (execStreamGateIntervalEnd a0 a1 s) := by
  unfold execStreamGateIntervalEnd
  exact (kept_out (kept_ite h0 (kept_setEth _ h0)))

theorem kept_meterFrame {s0 : State} (s : State) (a1 : Nat) (a2 : Nat) (a3 : Nat)  (h0 : Kept s0 s) : Kept s0 (meterFrame s a1 a2 a3).2 := by
  unfold meterFrame
  exact (by
      extract_lets v5 v6 v7 v8 v9 v10 v11
      exact (kept_pr_ite (f := Prod.snd) h0 (kept_pr_ite (f := Prod.snd) (by
        unfold v7
        extract_lets 
        exact (kept_snd (kept_tableCount _ _ _ _ _ (kept_setTable _ _ _ _ _ h0)))) (by
        split
        · rename_i x17 x18 x19 e20
          exact (kept_pr_ite (f := Prod.snd) (kept_snd (kept_setEth _ h0)) (kept_pr_ite (f := Prod.snd) (kept_pr_ite (f := Prod.snd) (kept_snd (kept_setEth _ h0)) (kept_snd (kept_setEth _ h0))) (by
            unfold v7
            extract_lets v36
            exact (kept_snd (kept_tableCount _ _ _ _ _ (kept_setTable _ _ _ _ _ (kept_setEth _ h0)))))))))))

theorem kept_filterFrame {s0 : State} (s : State) (a1 : Nat) (a2 : Nat) (a3 : EFrame)  (h0 : Kept s0 s) : Kept s0 (filterFrame s a1 a2 a3).2 := by
  unfold filterFrame
  exact (by
      extract_lets v12 v13 v14
      exact (kept_pr_ite (f := Prod.snd) h0 (kept_pr_ite (f := Prod.snd) (kept_snd (kept_portEvent _ _ _ (kept_tableCount _ _ _ _ _ h0))) (kept_pr_ite (f := Prod.snd) (kept_snd (kept_portEvent _ _ _ (kept_tableCount _ _ _ _ _ (kept_ite (kept_setTable _ _ _ _ _ h0) h0)))) (kept_pr_ite (f := Prod.snd) (kept_snd (kept_portEvent _ _ _ (kept_tableCount _ _ _ _ _ (kept_tableCount _ _ _ _ _ h0)))) (kept_pr_ite (f := Prod.snd) (by
        split
        · rename_i x51 t52 e53
          exact (kept_snd (kept_tableCount _ _ _ _ _ (kept_snd_eq e53 (kept_meterFrame _ _ _ _ h0))))
        · rename_i x67 t68 e69
          exact (kept_snd (kept_portEvent _ _ _ (kept_tableCount _ _ _ _ _ (kept_snd_eq e69 (kept_meterFrame _ _ _ _ h0)))))) (kept_snd (kept_tableCount _ _ _ _ _ h0))))))))

theorem kept_recoverFrame {s0 : State} (s : State) (a1 : Nat) (a2 : Nat)  (h0 : Kept s0 s) : Kept s0 (recoverFrame s a1 a2).2 := by
  unfold recoverFrame
  exact (by
      extract_lets v15 v16
      exact (by
        split
        · rename_i x21 x22 x23 e24
          exact (by
            extract_lets v25
            have h26 : Kept s0 v25 := (kept_setEth _ h0)
            clear_value v25
            exact (kept_snd (kept_tableCount _ _ _ _ _ h26)))))

theorem kept_execRecoveryReset {s0 : State} (a0 : Nat) (a1 : Nat) (s : State)  (h0 : Kept s0 s) : KeptOut s0 (execRecoveryReset a0 a1 s) := by
  unfold execRecoveryReset
  exact (kept_out (by
      extract_lets v27 v28
      exact (kept_ite (kept_setEth _ h0) h0)))

theorem kept_admitFrame {s0 : State} (s : State) (a1 : Nat) (a2 : EFrame)  (h0 : Kept s0 s) : Kept s0 (admitFrame s a1 a2).2 := by
  unfold admitFrame
  exact (by
      split
      · rename_i x31 e32
        exact h0
      · rename_i x33 x34 e35
        exact (by
          split
          · rename_i x37 t38 e39
            exact (kept_snd (kept_snd_eq e39 (kept_filterFrame _ _ _ _ h0)))
          · rename_i x76 t77 e78
            exact (by
              split
              · rename_i x95 x96 x97 x98 e99 e100
                exact (kept_recoverFrame _ _ _ (kept_snd_eq e78 (kept_filterFrame _ _ _ _ h0)))
              · rename_i x112 x113 e114
                exact (kept_snd (kept_snd_eq e78 (kept_filterFrame _ _ _ _ h0))))))

theorem kept_tstat {s0 : State} (s : State) (a1 : Nat) (a2 : Nat)  (h0 : Kept s0 s) : Kept s0 (tstat s a1 a2) := by
  unfold tstat
  exact (by
      extract_lets v29
      have h30 : Kept s0 v29 := (kept_wr32 _ _ _ h0)
      clear_value v29
      exact (kept_ite h30 (kept_raise _ _ _ h30)))

theorem kept_tableRead {s0 : State} (s : State) (a1 : Nat) (a2 : Nat) (a3 : Nat)  (h0 : Kept s0 s) : Kept s0 (tableRead s a1 a2 a3) := by
  unfold tableRead
  exact (kept_ite (kept_tstat _ _ _ h0) (by
      extract_lets v40
      exact (kept_tstat _ _ _ (kept_foldl (fun t41 x42 h43 => (kept_wr64 _ _ _ h43)) h0))))

theorem kept_tableWrite {s0 : State} (s : State) (a1 : Nat) (a2 : Nat) (a3 : Nat)  (h0 : Kept s0 s) : Kept s0 (tableWrite s a1 a2 a3) := by
  unfold tableWrite
  exact (kept_ite (kept_tstat _ _ _ h0) (by
      extract_lets v44 v45 v46 v47 v48 v49
      have h50 : Kept s0 v45 := (kept_tstat _ _ _ (kept_setTable _ _ _ _ _ h0))
      clear_value v45
      exact (kept_ite (kept_ite (kept_setEth _ h50) (kept_setEth _ h50)) (kept_ite (kept_setEth _ h50) (kept_ite (kept_setEth _ h50) h50)))))

theorem kept_execEthTableRead {s0 : State} (a0 : Nat) (a1 : Nat) (a2 : Nat) (s : State)  (h0 : Kept s0 s) : KeptOut s0 (execEthTableRead a0 a1 a2 s) := by
  unfold execEthTableRead
  exact (kept_out (kept_ite (kept_tableRead _ _ _ _ h0) h0))

theorem kept_execEthTableWrite {s0 : State} (a0 : Nat) (a1 : Nat) (a2 : Nat) (s : State)  (h0 : Kept s0 s) : KeptOut s0 (execEthTableWrite a0 a1 a2 s) := by
  unfold execEthTableWrite
  exact (kept_out (kept_ite (kept_tableWrite _ _ _ _ h0) h0))

theorem kept_dropWhole {s0 : State} (s : State) (a1 : Nat) (a2 : Nat) (a3 : Nat)  (h0 : Kept s0 s) : Kept s0 (dropWhole s a1 a2 a3) := by
  unfold dropWhole
  exact (kept_setStr _ h0)

theorem kept_dropEvent {s0 : State} (s : State) (a1 : Nat)  (h0 : Kept s0 s) : Kept s0 (dropEvent s a1) := by
  unfold dropEvent
  exact (kept_arrive _ _ _ h0)

theorem kept_placeData {s0 : State} (s : State) (a1 : Assembly) (a2 : Nat) (a3 : List Sys2Proof.Byte)  (h0 : Kept s0 s) : Kept s0 (placeData s a1 a2 a3) := by
  unfold placeData
  exact (by
      extract_lets v54 v55 v56 v57
      have h58 : Kept s0 v54 := (kept_hbmPoke _ _ _ _ h0)
      clear_value v54
      have h66 : Kept s0 v57 := (kept_setStr _ h58)
      clear_value v57
      exact (kept_ite (kept_admitRing _ _ (kept_setIslot _ _ _ _ h66)) (kept_setStr _ h58)))

theorem kept_newItem {s0 : State} (s : State) (a1 : Nat) (a2 : Nat) (a3 : Nat) (a4 : Nat) (a5 : Nat) (a6 : List Sys2Proof.Byte)  (h0 : Kept s0 s) : Kept s0 (newItem s a1 a2 a3 a4 a5 a6) := by
  unfold newItem
  exact (by
      extract_lets v59 v60 v61 v62 v63 v64
      have h65 : Kept s0 v63 := (kept_setIslot _ _ _ _ h0)
      clear_value v63
      exact (kept_ite (kept_refuseRecord _ _ _ _ _ _ (kept_dropWhole _ _ _ _ h0)) (kept_ite (kept_portEvent _ _ _ (kept_count64 _ _ _ (kept_dropWhole _ _ _ _ h0))) (kept_ite (kept_dropEvent _ _ (kept_count64 _ _ _ (kept_dropWhole _ _ _ _ h0))) (kept_placeData _ _ _ _ (kept_setProd _ _ _ (kept_setStr _ h65)))))))

theorem kept_mediaData {s0 : State} (s : State) (a1 : Nat) (a2 : List Sys2Proof.Byte)  (h0 : Kept s0 s) : Kept s0 (mediaData s a1 a2) := by
  unfold mediaData
  exact (by
      extract_lets v70 v71 v72 v73 v74 v75
      exact (kept_ite (kept_rxDrop _ _ h0) (kept_ite h0 (kept_ite (kept_dropEvent _ _ (kept_count64 _ _ _ (kept_dropWhole _ _ _ _ h0))) (by
        split
        · rename_i x80 x81 e82
          exact (kept_ite (kept_rxDrop _ _ h0) (kept_placeData _ _ _ _ h0))
        · rename_i x83 e84
          exact (kept_newItem _ _ _ _ _ _ _ h0))))))

theorem kept_execMediaDatagram {s0 : State} (a0 : Nat) (a1 : List Sys2Proof.Byte) (s : State)  (h0 : Kept s0 s) : KeptOut s0 (execMediaDatagram a0 a1 s) := by
  unfold execMediaDatagram
  exact (kept_out (by
      extract_lets v79
      exact (kept_ite h0 (kept_ite (kept_rxDrop _ _ h0) (by
        split
        · rename_i x85 e86
          exact (kept_rxDrop _ _ h0)
        · rename_i x89 x90 e91
          exact (by
            split
            · rename_i x101 t102 e103
              exact (kept_snd_eq e103 (kept_admitFrame _ _ _ h0))
            · rename_i x120 t121 e122
              exact (kept_mediaData _ _ _ (kept_snd_eq e122 (kept_admitFrame _ _ _ h0)))))))))

theorem kept_execAssemblyTimeout {s0 : State} (a0 : Nat) (a1 : Nat) (s : State)  (h0 : Kept s0 s) : KeptOut s0 (execAssemblyTimeout a0 a1 s) := by
  unfold execAssemblyTimeout
  exact (kept_out (by
      split
      · rename_i x87 e88
        exact h0
      · rename_i x92 x93 e94
        exact (kept_ite h0 (by
          extract_lets v108 v109 v110
          have h111 : Kept s0 v109 := (kept_setStr _ h0)
          clear_value v109
          have h115 : Kept s0 v110 := (kept_setIslot _ _ _ _ h111)
          clear_value v110
          exact (kept_portEvent _ _ _ (kept_count64 _ _ _ (kept_advanceIngress _ _ _ h115)))))))

theorem kept_execOtherFrame {s0 : State} (a0 : Nat) (a1 : List Sys2Proof.Byte) (s : State)  (h0 : Kept s0 s) : KeptOut s0 (execOtherFrame a0 a1 s) := by
  unfold execOtherFrame
  exact (kept_out (kept_ite (kept_rxDrop _ _ h0) h0))

theorem kept_execArpRequest {s0 : State} (a0 : Nat) (a1 : List Sys2Proof.Byte) (s : State)  (h0 : Kept s0 s) : KeptOut s0 (execArpRequest a0 a1 s) := by
  unfold execArpRequest
  exact (kept_out (by
      extract_lets v104 v105 v106 v107
      exact (kept_ite h0 (kept_ite (kept_rxDrop _ _ h0) (by
        split
        · rename_i x117 t118 e119
          exact (kept_snd_eq e119 (kept_admitFrame _ _ _ h0))
        · rename_i x123 t124 e125
          exact (kept_ite (kept_snd_eq e125 (kept_admitFrame _ _ _ h0)) (kept_enqueue _ _ _ _ (kept_snd_eq e125 (kept_admitFrame _ _ _ h0)))))))))

theorem kept_execNeighborSolicitation {s0 : State} (a0 : Nat) (a1 : List Sys2Proof.Byte) (s : State)  (h0 : Kept s0 s) : KeptOut s0 (execNeighborSolicitation a0 a1 s) := by
  unfold execNeighborSolicitation
  exact (kept_out (by
      extract_lets v116
      exact (kept_ite h0 (by
        split
        · rename_i x126 e127
          exact (kept_rxDrop _ _ h0)
        · rename_i x128 x129 e130
          exact (by
            extract_lets v132 v133 v134 v135 v136
            exact (kept_ite (kept_rxDrop _ _ h0) (by
              split
              · rename_i x142 t143 e144
                exact (kept_snd_eq e144 (kept_admitFrame _ _ _ h0))
              · rename_i x147 t148 e149
                exact (kept_ite (kept_snd_eq e149 (kept_admitFrame _ _ _ h0)) (kept_enqueue _ _ _ _ (kept_snd_eq e149 (kept_admitFrame _ _ _ h0)))))))))))

theorem kept_execIcmpEchoRequest {s0 : State} (a0 : Nat) (a1 : List Sys2Proof.Byte) (s : State)  (h0 : Kept s0 s) : KeptOut s0 (execIcmpEchoRequest a0 a1 s) := by
  unfold execIcmpEchoRequest
  exact (kept_out (by
      extract_lets v131
      exact (kept_ite h0 (kept_ite (kept_rxDrop _ _ h0) (by
        split
        · rename_i x145 e146
          exact (kept_rxDrop _ _ h0)
        · rename_i x150 x151 e152
          exact (by
            extract_lets v153 v154
            exact (kept_ite (kept_rxDrop _ _ h0) (kept_ite (kept_enqueue _ _ _ _ h0) (kept_ite (kept_enqueue _ _ _ _ h0) (kept_rxDrop _ _ h0))))))))))

theorem kept_execPortLinkStateChange {s0 : State} (a0 : Nat) (a1 : Bool) (s : State)  (h0 : Kept s0 s) : KeptOut s0 (execPortLinkStateChange a0 a1 s) := by
  unfold execPortLinkStateChange
  exact (kept_out (kept_ite h0 (by
      extract_lets v137 v138 v139
      have h140 : Kept s0 v138 := (kept_setEth _ h0)
      clear_value v138
      have h141 : Kept s0 v139 := (kept_ite (kept_takeLanes _ _ h140) (kept_satCount64 _ _ _ h140))
      clear_value v139
      exact (kept_portEvent _ _ _ h141))))

/-! ### Machine/EthEgress.lean -/

theorem kept_sendDatagram {s0 : State} (s : State) (a1 : Nat) (a2 : Nat) (a3 : Nat) (a4 : Nat) (a5 : Nat) (a6 : Nat) (a7 : List Sys2Proof.Byte)  (h0 : Kept s0 s) : Kept s0 (sendDatagram s a1 a2 a3 a4 a5 a6 a7) := by
  unfold sendDatagram
  exact (by
      extract_lets v5 v6 v7 v8 v9 v10 v11 v12 v13
      exact (by
        split
        · rename_i x16 e17
          exact (kept_enqueue _ _ _ _ h0)
        · rename_i x21 x22 e23
          exact (by
            extract_lets v24 v25 v26 v27
            have h28 : Kept s0 v26 := (kept_setTable _ _ _ _ _ h0)
            clear_value v26
            have h29 : Kept s0 v27 := (kept_enqueue _ _ _ _ h28)
            clear_value v27
            exact (kept_ite h29 (kept_enqueue _ _ _ _ h29)))))

theorem kept_execEgressItem {s0 : State} (a0 : Nat) (s : State)  (h0 : Kept s0 s) : KeptOut s0 (execEgressItem a0 s) := by
  unfold execEgressItem
  exact (kept_out (by
      extract_lets v0 v1 v2 v3 v4
      exact (kept_ite h0 (by
        split
        · rename_i x14 e15
          exact h0
        · rename_i x18 x19 e20
          exact (by
            split
            · rename_i x42 e43
              exact h0
            · rename_i x44 x45 e46
              exact (kept_ite (kept_setCons _ _ _ (kept_setOslot _ _ _ _ h0)) (by
                extract_lets v54 v55 v56 v57
                have h58 : Kept s0 v55 := (kept_noteLost _ _ _ _ h0)
                clear_value v55
                have h59 : Kept s0 v56 := (kept_foldl (fun t60 x61 h62 => (kept_sendDatagram _ _ _ _ _ _ _ _ h62)) h58)
                clear_value v56
                exact (kept_setCons _ _ _ (kept_setOslot _ _ _ _ (kept_setEth _ h59))))))))))

theorem kept_setStart {s0 : State} (s : State) (a1 : Nat)  (h0 : Kept s0 s) : Kept s0 (setStart s a1) := by
  unfold setStart
  exact (kept_setEth _ h0)

theorem kept_gclChange {s0 : State} (s : State) (a1 : Nat)  (h0 : Kept s0 s) : Kept s0 (gclChange s a1) := by
  unfold gclChange
  exact (kept_ite h0 (kept_wrBits _ _ _ _ _ (kept_wrBits _ _ _ _ _ (kept_setStart _ _ h0))))

theorem kept_execGclChange {s0 : State} (a0 : Nat) (s : State)  (h0 : Kept s0 s) : KeptOut s0 (execGclChange a0 s) := by
  unfold execGclChange
  exact (kept_out (kept_ite (kept_gclChange _ _ h0) h0))

theorem kept_execGclConfigApply {s0 : State} (a0 : Nat) (s : State)  (h0 : Kept s0 s) : KeptOut s0 (execGclConfigApply a0 s) := by
  unfold execGclConfigApply
  exact (kept_out (by
      extract_lets v30 v31 v32 v33
      have h34 : Kept s0 v33 := (kept_setEth _ h0)
      clear_value v33
      exact (kept_ite h0 (kept_wrBits _ _ _ _ _ (kept_wrBits _ _ _ _ _ (kept_wrBits _ _ _ _ _ h34))))))

theorem kept_execGateIntervalEnd {s0 : State} (a0 : Nat) (s : State)  (h0 : Kept s0 s) : KeptOut s0 (execGateIntervalEnd a0 s) := by
  unfold execGateIntervalEnd
  exact (kept_out (kept_ite h0 (kept_setEth _ h0)))

theorem kept_setQueue {s0 : State} (s : State) (a1 : Nat) (a2 : Nat) (a3 : List QFrame)  (h0 : Kept s0 s) : Kept s0 (setQueue s a1 a2 a3) := by
  unfold setQueue
  exact (kept_setEth _ h0)

theorem kept_transmit {s0 : State} (s : State) (a1 : Nat) (a2 : Nat) (a3 : QFrame) (a4 : List QFrame)  (h0 : Kept s0 s) : Kept s0 (transmit s a1 a2 a3 a4) := by
  unfold transmit
  exact (by
      extract_lets v35 v36 v37 v38 v39 v40
      have h41 : Kept s0 v40 := (kept_ite h0 (kept_setEth _ h0))
      clear_value v40
      exact (kept_emit _ (kept_setQueue _ _ _ _ h41)))

theorem kept_execEgressFrame {s0 : State} (a0 : Nat) (a1 : Nat) (s : State)  (h0 : Kept s0 s) : KeptOut s0 (execEgressFrame a0 a1 s) := by
  unfold execEgressFrame
  exact (kept_out (kept_ite h0 (by
      split
      · rename_i x63 e64
        exact h0
      · rename_i x65 x66 x67 e68
        exact (by
          extract_lets v69
          exact (kept_ite (kept_portEvent _ _ _ (kept_count64 _ _ _ (kept_setQueue _ _ _ _ (kept_noteWaiting _ _ _ _ h0)))) (kept_ite (kept_ite h0 (kept_count64 _ _ _ (kept_setQueue _ _ _ _ h0))) (kept_ite h0 (kept_transmit _ _ _ _ _ h0))))))))

theorem kept_portsStep {s0 : State} (s : State)  (h0 : Kept s0 s) : Kept s0 (portsStep s) := by
  unfold portsStep
  exact (by
      extract_lets v47 v48 v49
      have h50 : Kept s0 v47 := (kept_foldl (fun t51 x52 h53 => (kept_ite (kept_setStart _ _ h53) h53)) h0)
      clear_value v47
      have h70 : Kept s0 v48 := (kept_foldl (fun t71 x72 h73 => (kept_foldl (fun t74 x75 h76 => (by
        extract_lets v77 v78
        exact (kept_ite h76 (kept_setEth _ h76)))) h73)) h50)
      clear_value v48
      exact (kept_setEth _ h70))

/-! ### Machine/Gptp.lean -/

theorem kept_setTState {s0 : State} (s : State) (a1 : Nat)  (h0 : Kept s0 s) : Kept s0 (setTState s a1) := by
  unfold setTState
  exact (kept_ite h0 (kept_arrive _ _ _ (kept_wr32 _ _ _ h0)))

theorem kept_stepTime {s0 : State} (s : State) (a1 : Nat)  (h0 : Kept s0 s) : Kept s0 (stepTime s a1) := by
  unfold stepTime
  exact (by
      extract_lets v0 v1 v2 v3 v4
      have h5 : Kept s0 v2 := (kept_setPow _ h0)
      clear_value v2
      have h6 : Kept s0 v3 := (kept_count64 _ _ _ (kept_count64 _ _ _ h5))
      clear_value v3
      have h21 : Kept s0 v4 := (kept_portsStep _ (kept_fabricStep _ (kept_boundary _ (kept_repStep _ _ _ h6))))
      clear_value v4
      exact (kept_arrive _ _ _ (kept_arrive _ _ _ h21)))

theorem kept_slew {s0 : State} (s : State)  (h0 : Kept s0 s) : Kept s0 (slew s) := by
  unfold slew
  exact (by
      split
      · rename_i x7 x8 t9 e10
        exact (by
          extract_lets v11 v12 v13 v14 v15 v16
          have h17 : Kept s0 v13 := (kept_setPow _ (kept_snd_eq e10 (kept_fresh h0)))
          clear_value v13
          have h28 : Kept s0 v16 := (kept_setEth _ h17)
          clear_value v16
          exact (kept_ite (kept_arrive _ _ _ (kept_count64 _ _ _ h28)) h28)))

theorem kept_execSync {s0 : State} (a0 : Nat) (a1 : Nat) (a2 : Int) (s : State)  (h0 : Kept s0 s) : KeptOut s0 (execSync a0 a1 a2 s) := by
  unfold execSync
  exact (kept_out (kept_ite h0 (kept_ite (kept_rxDrop _ _ h0) (by
      extract_lets v18 v19 v20
      have h22 : Kept s0 v19 := (kept_wr64 _ _ _ h0)
      clear_value v19
      have h27 : Kept s0 v20 := (kept_setTState _ _ h22)
      clear_value v20
      exact (kept_ite (kept_stepTime _ _ h27) (kept_slew _ h27))))))

theorem kept_execPdelayRequest {s0 : State} (a0 : Nat) (a1 : List Sys2Proof.Byte) (s : State)  (h0 : Kept s0 s) : KeptOut s0 (execPdelayRequest a0 a1 s) := by
  unfold execPdelayRequest
  exact (kept_out (by
      extract_lets v23 v24 v25 v26
      exact (kept_ite h0 (kept_ite (kept_rxDrop _ _ h0) (kept_enqueue _ _ _ _ (kept_enqueue _ _ _ _ h0))))))

theorem kept_execSyncReceiptTimeout {s0 : State} (s : State)  (h0 : Kept s0 s) : KeptOut s0 (execSyncReceiptTimeout s) := by
  unfold execSyncReceiptTimeout
  exact (kept_out (kept_ite (kept_setTState _ _ h0) h0))

end Sys2Proof.Machine
end

