-- ==== Sys2Proof/Laws/KeptDevice.lean ====
section
/-! SUPPORT. `Kept` through the Darkroom, the loader, events, the device's life, power and the processors: one lemma per function. -/

namespace Sys2Proof.Machine

/-! ### Machine/Darkroom.lean -/

theorem ownerStatus_minima (s : State) (b : List Byte) (h : ownerStatus s b = 0) : imgMinSvn s ≤ leAt b 16 4 ∧ fwMinSvn s ≤ leAt b 20 4 := by
  unfold ownerStatus at h
  extract_lets fp keys at h
  split at h
  · exact absurd h (by decide)
  · split at h
    · exact absurd h (by decide)
    · split at h
      · exact absurd h (by decide)
      · split at h
        · exact absurd h (by decide)
        · rename_i hc
          simp only [Bool.or_eq_true, decide_eq_true_eq, not_or] at hc
          omega


theorem kept_mboxPut {s0 : State} (s : State) (a1 : List Sys2Proof.Byte)  (h0 : Kept s0 s) : Kept s0 (mboxPut s a1) := by
  unfold mboxPut
  exact (by
      extract_lets v1
      have h3 : Kept s0 v1 := (kept_setCtl _ h0)
      clear_value v1
      exact (kept_foldl (fun t4 x5 h6 => (kept_wr32 _ _ _ h6)) h3))

theorem kept_drkDone {s0 : State} (s : State) (a1 : Nat) (a2 : List Sys2Proof.Byte)  (h0 : Kept s0 s) : Kept s0 (drkDone s a1 a2) := by
  unfold drkDone
  exact (by
      extract_lets v0
      have h2 : Kept s0 v0 := (kept_mboxPut _ _ (kept_wrBits _ _ _ _ _ h0))
      clear_value v0
      exact (kept_ite h2 (kept_raise _ _ _ h2)))

theorem kept_random {s0 : State} (s : State) (a1 : Nat)  (h0 : Kept s0 s) : Kept s0 (random s a1).2 := by
  unfold random
  exact (by
      split
      · rename_i x11 x12 t13 e14
        exact (kept_snd (kept_setDrk (kept_snd_eq e14 (kept_fresh h0)) rfl)))

theorem kept_showSlots {s0 : State} (s : State)  (h0 : Kept s0 s) : Kept s0 (showSlots s) := by
  unfold showSlots
  exact (kept_wr32 _ _ _ h0)

theorem kept_putKey {s0 : State} (s : State) (a1 : Nat) (a2 : DKey)  (h0 : Kept s0 s) : Kept s0 (putKey s a1 a2) := by
  unfold putKey
  exact (by
      extract_lets v7 v8 v9
      have h10 : Kept s0 v9 := (kept_setDrk h0 rfl)
      clear_value v9
      exact (kept_showSlots _ (kept_wr32 _ _ _ h10)))

theorem kept_drkInstall {s0 : State} (s : State)  (h0 : Kept s0 s) : Kept s0 (drkInstall s) := by
  unfold drkInstall
  exact (by
      extract_lets v15
      exact (kept_ite (kept_drkDone _ _ _ h0) (kept_ite (kept_drkDone _ _ _ h0) (by
        split
        · rename_i x17 e18
          exact (kept_drkDone _ _ _ h0)
        · rename_i x19 x20 e21
          exact (by
            split
            · rename_i x22 e23
              exact (kept_drkDone _ _ _ h0)
            · rename_i x24 x25 e26
              exact (kept_drkDone _ _ _ (kept_putKey _ _ _ h0)))))))

theorem kept_drkSeal {s0 : State} (s : State) (a1 : Nat)  (h0 : Kept s0 s) : Kept s0 (drkSeal s a1) := by
  unfold drkSeal
  exact (kept_ite (kept_drkDone _ _ _ h0) (by
      split
      · rename_i x28 e30
        exact (kept_drkDone _ _ _ h0)
      · rename_i x31 x34 e36
        exact (by
          split
          · rename_i x42 x43 t44 e45
            exact (kept_drkDone _ _ _ (kept_snd_eq e45 (kept_random _ _ h0))))))

theorem kept_drkUnseal {s0 : State} (s : State)  (h0 : Kept s0 s) : Kept s0 (drkUnseal s) := by
  unfold drkUnseal
  exact (by
      extract_lets v16
      exact (kept_ite (kept_drkDone _ _ _ h0) (kept_ite (kept_drkDone _ _ _ h0) (by
        split
        · rename_i x27 e29
          exact (kept_drkDone _ _ _ h0)
        · rename_i x32 x33 e35
          exact (by
            split
            · rename_i x37 e38
              exact (kept_drkDone _ _ _ h0)
            · rename_i x39 x40 e41
              exact (kept_drkDone _ _ _ (kept_putKey _ _ _ h0)))))))

theorem kept_drkErase {s0 : State} (s : State) (a1 : Nat)  (h0 : Kept s0 s) : Kept s0 (drkErase s a1) := by
  unfold drkErase
  exact (kept_ite (kept_drkDone _ _ _ h0) (kept_ite (kept_drkDone _ _ _ h0) (kept_ite (kept_drkDone _ _ _ h0) (kept_drkDone _ _ _ (kept_showSlots _ (kept_setDrk h0 rfl))))))

theorem kept_ownerUpdate {s0 : State} (s : State) (h0 : Kept s0 s) : Kept s0 (ownerUpdate s) := by
  unfold ownerUpdate
  generalize mbox s 11213 = b
  refine kept_ite (kept_drkDone _ _ _ h0) ?_
  by_cases hst : ownerStatus s b = 0
  · rw [if_neg (by simpa using hst)]
    obtain ⟨hi, hf⟩ := ownerStatus_minima s b hst
    refine kept_drkDone _ _ _ (kept_wrBits _ _ _ _ _ (kept_owner h0 rfl rfl ?_ ?_))
    · by_cases hk : leAt b 15 1 = 0
      · simp [hk]
      · have hb : b ≠ [] := fun e => hk (by rw [e]; rfl)
        simpa [hk, hb] using hi
    · by_cases hk : leAt b 15 1 = 0
      · simp [hk]
      · have hb : b ≠ [] := fun e => hk (by rw [e]; rfl)
        simpa [hk, hb] using hf
  · rw [if_pos (by simpa using hst)]
    exact kept_drkDone _ _ _ h0

theorem kept_drkCommand {s0 : State} (s : State) (a1 : Nat)  (h0 : Kept s0 s) : Kept s0 (drkCommand s a1) := by
  unfold drkCommand
  exact (kept_ite h0 (by
      split
      · rename_i x46 e47
        exact (kept_drkInstall _ h0)
      · rename_i x48 e49
        exact (kept_drkSeal _ _ h0)
      · rename_i x50 e51
        exact (kept_drkUnseal _ h0)
      · rename_i x52 e53
        exact (kept_drkErase _ _ h0)
      · rename_i x54 e55
        exact (kept_ownerUpdate _ h0)
      · rename_i x76 e77 e78 e79 e80 e81
        exact h0))

theorem kept_execInstall {s0 : State} (s : State)  (h0 : Kept s0 s) : KeptOut s0 (execInstall s) := by
  unfold execInstall
  exact (kept_out (kept_ite (kept_drkInstall _ h0) h0))

theorem kept_execSeal {s0 : State} (a0 : Nat) (s : State)  (h0 : Kept s0 s) : KeptOut s0 (execSeal a0 s) := by
  unfold execSeal
  exact (kept_out (kept_ite (kept_drkSeal _ _ h0) h0))

theorem kept_execUnseal {s0 : State} (s : State)  (h0 : Kept s0 s) : KeptOut s0 (execUnseal s) := by
  unfold execUnseal
  exact (kept_out (kept_ite (kept_drkUnseal _ h0) h0))

theorem kept_execErase {s0 : State} (a0 : Nat) (s : State)  (h0 : Kept s0 s) : KeptOut s0 (execErase a0 s) := by
  unfold execErase
  exact (kept_out (kept_ite (kept_drkErase _ _ h0) h0))

theorem kept_execOwnerUpdate {s0 : State} (s : State)  (h0 : Kept s0 s) : KeptOut s0 (execOwnerUpdate s) := by
  unfold execOwnerUpdate
  exact (kept_out (kept_ite (kept_ownerUpdate _ h0) h0))

theorem kept_eraseKeys {s0 : State} (s : State)  (h0 : Kept s0 s) : Kept s0 (eraseKeys s) := by
  unfold eraseKeys
  exact (kept_showSlots _ (kept_setDrk h0 rfl))

theorem kept_tamper {s0 : State} (s : State) (a1 : Nat)  (h0 : Kept s0 s) : Kept s0 (tamper s a1) := by
  unfold tamper
  exact (by
      extract_lets v56 v57 v58 v59 v60 v61
      have h62 : Kept s0 v56 := (kept_eraseKeys _ h0)
      clear_value v56
      have h63 : Kept s0 v57 := (kept_foldl (fun t64 x65 h66 => (by
        split
        · rename_i x67 e68
          exact h66
        · rename_i x69 x70 e71
          exact (kept_setSession _ _ _ h66))) h62)
      clear_value v57
      have h72 : Kept s0 v58 := (kept_orWord _ _ _ h63)
      clear_value v58
      have h73 : Kept s0 v59 := (kept_arrive _ _ _ h72)
      clear_value v59
      have h74 : Kept s0 v60 := (kept_satCount64 _ _ _ h73)
      clear_value v60
      have h75 : Kept s0 v61 := (kept_abortWhere _ _ _ h74)
      clear_value v61
      exact (kept_dropReady _ _ _ h75))

theorem kept_execTamperFire {s0 : State} (a0 : Nat) (s : State)  (h0 : Kept s0 s) : KeptOut s0 (execTamperFire a0 s) := by
  unfold execTamperFire
  exact (kept_out (kept_ite (kept_tamper _ _ h0) h0))

theorem kept_execDrbgReseed {s0 : State} (s : State)  (h0 : Kept s0 s) : KeptOut s0 (execDrbgReseed s) := by
  unfold execDrbgReseed
  exact (kept_out (kept_ite (kept_setDrk h0 rfl) h0))

theorem kept_execSeedBankClose {s0 : State} (s : State)  (h0 : Kept s0 s) : KeptOut s0 (execSeedBankClose s) := by
  unfold execSeedBankClose
  exact (kept_out (kept_ite (kept_setDrk h0 rfl) h0))

/-! ### Machine/Loader.lean -/

theorem kept_setLdState {s0 : State} (s : State) (a1 : Nat)  (h0 : Kept s0 s) : Kept s0 (setLdState s a1) := by
  unfold setLdState
  exact (kept_arrive _ _ _ (kept_wrBits _ _ _ _ _ h0))

theorem kept_setLdCode {s0 : State} (s : State) (a1 : Nat)  (h0 : Kept s0 s) : Kept s0 (setLdCode s a1) := by
  unfold setLdCode
  exact (kept_wrBits _ _ _ _ _ h0)

theorem kept_ldBusy {s0 : State} (s : State)  (h0 : Kept s0 s) : Kept s0 (ldBusy s) := by
  unfold ldBusy
  exact (kept_raise _ _ _ (kept_setLdCode _ _ h0))

theorem kept_failLoad {s0 : State} (s : State) (a1 : LdErr)  (h0 : Kept s0 s) : Kept s0 (failLoad s a1) := by
  unfold failLoad
  exact (by
      extract_lets v0 v1
      have h2 : Kept s0 v0 := (kept_wr64 _ _ _ (kept_raise _ _ _ (kept_setLdCode _ _ h0)))
      clear_value v0
      exact (kept_setLdState _ _ (kept_setLd _ h2)))

theorem kept_setStaged {s0 : State} (s : State) (a1 : List Sys2Proof.Byte)  (h0 : Kept s0 s) : Kept s0 (setStaged s a1) := by
  unfold setStaged
  exact (kept_wr64 _ _ _ (kept_setLd _ h0))

theorem kept_wrDigest {s0 : State} (s : State) (a1 : Nat) (a2 : List Sys2Proof.Byte)  (h0 : Kept s0 s) : Kept s0 (wrDigest s a1 a2) := by
  unfold wrDigest
  exact (kept_foldl (fun t3 x4 h5 => (kept_wr64 _ _ _ h5)) h0)

theorem kept_startLoad {s0 : State} (s : State) (a1 : Nat) (a2 : Nat)  (h0 : Kept s0 s) : Kept s0 (startLoad s a1 a2) := by
  unfold startLoad
  exact (kept_ite (kept_ldBusy _ h0) (by
      extract_lets v6 v7
      have h8 : Kept s0 v6 := (kept_wrBits _ _ _ _ _ (kept_wr64 _ _ _ h0))
      clear_value v6
      exact (kept_setLdState _ _ (kept_setLd _ h8))))

theorem kept_execValidate {s0 : State} (s : State)  (h0 : Kept s0 s) : KeptOut s0 (execValidate s) := by
  unfold execValidate
  exact (kept_out (kept_ite (kept_startLoad _ _ _ h0) h0))

theorem kept_execLoad {s0 : State} (a0 : Nat) (s : State)  (h0 : Kept s0 s) : KeptOut s0 (execLoad a0 s) := by
  unfold execLoad
  exact (kept_out (kept_ite (kept_startLoad _ _ _ h0) h0))

theorem kept_resumeParts {s0 : State} (s : State)  (h0 : Kept s0 s) : Kept s0 (resumeParts s) := by
  unfold resumeParts
  exact (by
      extract_lets v9 v10 v11
      exact (kept_admitWaiting _ (kept_setStr _ h0)))

theorem kept_cancelLoad {s0 : State} (s : State)  (h0 : Kept s0 s) : Kept s0 (cancelLoad s) := by
  unfold cancelLoad
  exact (kept_ite (kept_failLoad _ _ h0) (kept_ite (kept_resumeParts _ (kept_failLoad _ _ h0)) h0))

theorem kept_execCancel {s0 : State} (s : State)  (h0 : Kept s0 s) : KeptOut s0 (execCancel s) := by
  unfold execCancel
  exact (kept_out (kept_ite (kept_cancelLoad _ h0) h0))

theorem kept_ldCommand {s0 : State} (s : State) (a1 : Nat)  (h0 : Kept s0 s) : Kept s0 (ldCommand s a1) := by
  unfold ldCommand
  exact (kept_ite h0 (by
      split
      · rename_i x43 e44
        exact (kept_startLoad _ _ _ h0)
      · rename_i x45 e46
        exact (kept_startLoad _ _ _ h0)
      · rename_i x47 e48
        exact (kept_cancelLoad _ h0)
      · rename_i x49 e50 e51 e52
        exact h0))

theorem kept_emptyRing {s0 : State} (s : State) (a1 : Nat)  (h0 : Kept s0 s) : Kept s0 (emptyRing s a1) := by
  unfold emptyRing
  exact (by
      extract_lets v12 v13 v14
      have h15 : Kept s0 v14 := (kept_setStr _ h0)
      clear_value v14
      exact (kept_setCons _ _ _ h15))

theorem kept_dropStreams {s0 : State} (s : State)  (h0 : Kept s0 s) : Kept s0 (dropStreams s) := by
  unfold dropStreams
  with_reducible exact (by
      extract_lets v16 v17 v18 v19 v20 v21 v22 v23 v24 v25 v26 v27 v28 v29
      have h30 : Kept s0 v21 := (kept_foldl (fun t31 x32 h33 => (kept_emptyRing _ _ h33)) h0)
      clear_value v21
      have h34 : Kept s0 v23 := (kept_setStr _ h30)
      clear_value v23
      have h42 : Kept s0 v24 := (kept_abortWhere _ _ _ h34)
      clear_value v24
      have h56 : Kept s0 v25 := (kept_dropReady _ _ _ h42)
      clear_value v25
      have h99 : Kept s0 v26 := (kept_foldl (fun t100 x101 h102 => (kept_refuseRecord _ _ _ _ _ _ h102)) h56)
      clear_value v26
      have h111 : Kept s0 v27 := (kept_wrBits _ _ _ _ _ h99)
      clear_value v27
      exact (kept_setStr _ h111))

theorem kept_beginApply {s0 : State} (s : State)  (h0 : Kept s0 s) : Kept s0 (beginApply s) := by
  unfold beginApply
  exact (by
      split
      · rename_i x35 x36 x37 x38 e39
        exact (kept_resumeParts _ (kept_failLoad _ _ h0))
      · rename_i x40 e41
        exact (kept_setLdState _ _ (kept_dropStreams _ h0)))

theorem kept_execValidationEnd {s0 : State} (s : State)  (h0 : Kept s0 s) : KeptOut s0 (execValidationEnd s) := by
  unfold execValidationEnd
  exact (kept_out (kept_ite h0 (by
      split
      · rename_i x57 x58 e59
        exact (kept_failLoad _ _ h0)
      · rename_i x60 x61 e62
        exact (by
          extract_lets v63 v64 v65 v66 v67 v68 v69 v70
          have h82 : Kept s0 v64 := (kept_wrDigest _ _ _ (kept_setLdCode _ _ h0))
          clear_value v64
          have h104 : Kept s0 v66 := (kept_setLd _ h82)
          clear_value v66
          have h105 : Kept s0 v68 := (kept_setStr _ h104)
          clear_value v68
          have h107 : Kept s0 v70 := (kept_setLdState _ _ (kept_setLd _ h105))
          clear_value v70
          exact (kept_ite (kept_setLdState _ _ (kept_setLd _ h82)) (kept_ite (kept_beginApply _ h105) (kept_ite (kept_foldl (fun t140 x141 h142 => (kept_abortPartition _ _ _ h142)) h107) h107)))))))

theorem kept_execDrainLimit {s0 : State} (s : State)  (h0 : Kept s0 s) : KeptOut s0 (execDrainLimit s) := by
  unfold execDrainLimit
  exact (kept_out (kept_ite (kept_foldl (fun t53 x54 h55 => (kept_abortPartition _ _ _ h55)) h0) h0))

theorem kept_execDrainEnd {s0 : State} (s : State)  (h0 : Kept s0 s) : KeptOut s0 (execDrainEnd s) := by
  unfold execDrainEnd
  exact (kept_out (kept_ite (kept_beginApply _ h0) h0))

theorem kept_fillBank {s0 : State} (s : State) (a1 : Nat) (a2 : Nat) (a3 : Nat) (a4 : Nat)  (h0 : Kept s0 s) : Kept s0 (fillBank s a1 a2 a3 a4) := by
  unfold fillBank
  exact (kept_ite (kept_wr64 _ _ _ h0) (by
      extract_lets v71 v72 v73 v74 v75 v76 v77 v78 v79 v80 v81
      have h97 : Kept s0 v79 := (kept_setCore _ _ _ h0)
      clear_value v79
      have h103 : Kept s0 v80 := (kept_wr64 _ _ _ h97)
      clear_value v80
      exact (kept_ite h103 (kept_hbmPoke _ _ _ _ h103))))

theorem kept_applyCore {s0 : State} (s : State) (a1 : Pimg) (a2 : Nat)  (h0 : Kept s0 s) : Kept s0 (applyCore s a1 a2) := by
  unfold applyCore
  exact (by
      extract_lets v83 v84 v85 v86 v87 v88 v89 v90 v91 v92 v93 v94 v95 v96
      have h98 : Kept s0 v88 := (kept_setMem h0 (fun x106 => (Memory.wf_layStore _ _ (Memory.wf_layStore _ _ (Memory.wf_clearStore _ _ x106)))))
      clear_value v88
      have h127 : Kept s0 v91 := (kept_setCore _ _ _ h98)
      clear_value v91
      have h135 : Kept s0 v92 := (kept_wrBits _ _ _ _ _ (kept_wrBits _ _ _ _ _ h127))
      clear_value v92
      have h139 : Kept s0 v94 := (kept_foldl (fun t143 x144 h145 => (by
        extract_lets v146
        exact (kept_ite h145 (kept_wr64 _ _ _ h145)))) h135)
      clear_value v94
      have h166 : Kept s0 v95 := (kept_wr32 _ _ _ h139)
      clear_value v95
      have h186 : Kept s0 v96 := (kept_fillBank _ _ _ _ _ (kept_fillBank _ _ _ _ _ h166))
      clear_value v96
      exact (kept_ite (kept_markNewest _ _ _ h186) (kept_ite (kept_markNewest _ _ _ h186) h186)))

theorem kept_chargeBytes {s0 : State} (s : State) (a1 : Nat) (a2 : Nat) (a3 : Nat)  (h0 : Kept s0 s) : Kept s0 (chargeBytes s a1 a2 a3) := by
  unfold chargeBytes
  exact (kept_foldl (fun t108 x109 h110 => (by
      split
      · rename_i x112 x113 e114
        exact h110
      · rename_i x115 x116 x117 x118 e119
        exact (kept_charge _ _ _ _ h110))) h0)

theorem kept_loadModels {s0 : State} (s : State) (a1 : Pimg) (a2 : Nat)  (h0 : Kept s0 s) : Kept s0 (loadModels s a1 a2) := by
  unfold loadModels
  exact (kept_foldl (fun t121 x122 h123 => (by
      extract_lets v124 v125
      have h126 : Kept s0 v125 := (kept_hbmPoke _ _ _ _ h123)
      clear_value v125
      exact (kept_ite (kept_chargeBytes _ _ _ _ h126) h126))) h0)

theorem kept_chargeLoad {s0 : State} (s : State) (a1 : Pimg) (a2 : Nat)  (h0 : Kept s0 s) : Kept s0 (chargeLoad s a1 a2) := by
  unfold chargeLoad
  exact (by
      extract_lets v120
      exact (kept_foldl (fun t128 x129 h130 => (by
        split
        · rename_i x131 x132 x133 x134
          exact (kept_chargeBytes _ _ _ _ h130))) h0))

theorem kept_showCPages {s0 : State} (s : State)  (h0 : Kept s0 s) : Kept s0 (showCPages s) := by
  unfold showCPages
  exact (kept_foldl (fun t136 x137 h138 => (kept_wrBits _ _ _ _ _ h138)) h0)

theorem kept_applyFabric {s0 : State} (s : State) (a1 : Pimg)  (h0 : Kept s0 s) : Kept s0 (applyFabric s a1) := by
  unfold applyFabric
  exact (by
      extract_lets v147 v148 v149 v150 v151
      have h152 : Kept s0 v150 := (kept_wr32 _ _ _ (kept_setFab _ h0))
      clear_value v150
      have h153 : Kept s0 v151 := (kept_showLinks _ (kept_clearFails _ h152))
      clear_value v151
      exact (kept_foldl (fun t182 x183 h184 => (kept_trainAfterLoad _ _ h184)) (kept_ite (kept_checkPeers _ h153) h153)))

theorem kept_applyImgState {s0 : State} (s : State) (a1 : Pimg)  (h0 : Kept s0 s) : Kept s0 (applyImgState s a1) := by
  unfold applyImgState
  exact (by
      extract_lets v154 v155 v156 v157 v158 v159 v160 v161 v162 v163 v164
      have h165 : Kept s0 v156 := (kept_wr32 _ _ _ h0)
      clear_value v156
      have h187 : Kept s0 v158 := (kept_wrDigest _ _ _ (kept_wr32 _ _ _ h165))
      clear_value v158
      have h189 : Kept s0 v162 := (kept_wrBits _ _ _ _ _ (kept_wrBits _ _ _ _ _ h165))
      clear_value v162
      exact (kept_ite (kept_setStr _ (kept_setLd _ h187)) (kept_setStr _ (kept_setLd _ h189))))

theorem kept_applyImage {s0 : State} (s : State) (a1 : Pimg)  (h0 : Kept s0 s) : Kept s0 (applyImage s a1) := by
  unfold applyImage
  exact (by
      extract_lets v167 v168 v169 v170 v171 v172 v173 v174 v175 v176 v177 v178 v179 v180 v181
      have h185 : Kept s0 v172 := (kept_setImg _ h0)
      clear_value v172
      have h188 : Kept s0 v174 := (kept_setRep _ h185)
      clear_value v174
      have h190 : Kept s0 v177 := (kept_setMem h188 (fun x198 => (Memory.wf_fold (fun x199 x200 x201 => (Memory.wf_clearPages _ x201)) _ (Memory.wf_fold (fun x204 x211 x212 => (Memory.wf_clearStore _ _ x212)) _ x198))))
      clear_value v177
      have h218 : Kept s0 v178 := (kept_foldl (fun t219 x220 h221 => (kept_loadModels _ _ _ h221)) h190)
      clear_value v178
      have h222 : Kept s0 v179 := (kept_foldl (fun t223 x224 h225 => (kept_applyCore _ _ _ h225)) h218)
      clear_value v179
      have h226 : Kept s0 v180 := (kept_ite (kept_foldl (fun t227 x228 h229 => (kept_chargeLoad _ _ _ h229)) h222) (kept_applyFabric _ _ h222))
      clear_value v180
      have h230 : Kept s0 v181 := (kept_applyImgState _ _ (kept_showCPages _ h226))
      clear_value v181
      exact (kept_ite (kept_wr64 _ _ _ h230) h230))

theorem kept_clearBudgets {s0 : State} (s : State)  (h0 : Kept s0 s) : Kept s0 (clearBudgets s) := by
  unfold clearBudgets
  exact (kept_setCtl _ h0)

theorem kept_unconfigure {s0 : State} (s : State)  (h0 : Kept s0 s) : Kept s0 (unconfigure s) := by
  unfold unconfigure
  exact (by
      extract_lets v191 v192 v193 v194 v195 v196
      have h197 : Kept s0 v191 := (kept_showLinks _ (kept_clearFails _ (kept_wr32 _ _ _ (kept_setFab _ (kept_setImg _ h0)))))
      clear_value v191
      have h202 : Kept s0 v192 := (kept_wrDigest _ _ _ (kept_wr64 _ _ _ h197))
      clear_value v192
      have h203 : Kept s0 v193 := (kept_foldl (fun t214 x215 h216 => (kept_setCore _ _ _ h216)) h202)
      clear_value v193
      have h217 : Kept s0 v194 := (kept_showCPages _ (kept_clearBudgets _ h203))
      clear_value v194
      exact (kept_setStr _ (kept_setLd _ h217)))

theorem kept_execApplyEnd {s0 : State} (a0 : Bool) (s : State)  (h0 : Kept s0 s) : KeptOut s0 (execApplyEnd a0 s) := by
  unfold execApplyEnd
  exact (kept_out (kept_ite h0 (by
      extract_lets v205 v206 v207 v208 v209 v210
      have h213 : Kept s0 v207 := (kept_applyImage _ _ h0)
      clear_value v207
      have h231 : Kept s0 v208 := (kept_ite (kept_wrBits _ _ _ _ _ h213) h213)
      clear_value v208
      have h232 : Kept s0 v210 := (kept_setLd _ h231)
      clear_value v210
      exact (kept_ite (kept_ite (kept_unconfigure _ (kept_failLoad _ _ h0)) (kept_stopPartition _ _ _ (kept_resumeParts _ (kept_failLoad _ _ h0)))) (kept_setLdState _ _ (kept_setLdCode _ _ h232))))))

/-! ### Machine/Events.lean -/

theorem kept_setActive {s0 : State} (s : State) (a1 : Nat) (a2 : Bool)  (h0 : Kept s0 s) : Kept s0 (setActive s a1 a2) := by
  unfold setActive
  exact (kept_wrBits _ _ _ _ _ h0)

theorem kept_setPendBit {s0 : State} (s : State) (a1 : Nat) (a2 : Bool)  (h0 : Kept s0 s) : Kept s0 (setPendBit s a1 a2) := by
  unfold setPendBit
  exact (kept_wrBits _ _ _ _ _ h0)

theorem kept_setSlot {s0 : State} (s : State) (a1 : Nat) (a2 : Bool) (a3 : Option Nat)  (h0 : Kept s0 s) : Kept s0 (setSlot s a1 a2 a3) := by
  unfold setSlot
  exact (kept_wr32 _ _ _ h0)

theorem kept_setCpu {s0 : State} (s : State) (a1 : Nat) (a2 : Cpu)  (h0 : Kept s0 s) : Kept s0 (setCpu s a1 a2) := by
  unfold setCpu
  exact (kept_setMgt _ h0)

theorem kept_setWfi {s0 : State} (s : State) (a1 : Nat) (a2 : Bool)  (h0 : Kept s0 s) : Kept s0 (setWfi s a1 a2) := by
  unfold setWfi
  exact (kept_wrBits _ _ _ _ _ (kept_wrBits _ _ _ _ _ h0))

theorem kept_fastTrap {s0 : State} (s : State) (a1 : Nat)  (h0 : Kept s0 s) : Kept s0 (fastTrap s a1) := by
  unfold fastTrap
  exact (kept_ite h0 (by
      extract_lets v0 v1
      have h2 : Kept s0 v1 := (kept_setCpu _ _ _ h0)
      clear_value v1
      exact (kept_setWfi _ _ _ (kept_wrBits _ _ _ _ _ h2))))

theorem kept_withhold {s0 : State} (s : State) (a1 : Nat)  (h0 : Kept s0 s) : Kept s0 (withhold s a1) := by
  unfold withhold
  exact (kept_ite h0 (by
      extract_lets v3 v4
      have h7 : Kept s0 v4 := (kept_setMgt _ h0)
      clear_value v4
      exact (kept_satCount64 _ _ _ (kept_count64 _ _ _ (kept_sticky _ _ _ h7)))))

theorem kept_moderate {s0 : State} (s : State) (a1 : Nat) (a2 : Bool)  (h0 : Kept s0 s) : Kept s0 (moderate s a1 a2) := by
  unfold moderate
  exact (by
      extract_lets v5 v6
      exact (kept_ite h0 (kept_ite (kept_wrBits _ _ _ _ _ (kept_setMgt _ h0)) (kept_ite (kept_setMgt _ h0) h0))))

theorem kept_fillClaim {s0 : State} (s : State) (a1 : Nat) (a2 : Bool)  (h0 : Kept s0 s) : Kept s0 (fillClaim s a1 a2) := by
  unfold fillClaim
  with_reducible exact (by
      extract_lets v8 v9 v10 v11
      have h12 : Kept s0 v10 := (kept_ite h0 (kept_withhold _ _ h0))
      clear_value v10
      exact (by
        split
        · rename_i x17 e18
          exact h12
        · rename_i x19 x20 e21
          exact (by
            extract_lets v22 v23
            have h24 : Kept s0 v23 := (kept_setSlot _ _ _ _ h12)
            clear_value v23
            exact (kept_ite h12 (kept_ite (kept_wrBits _ _ _ _ _ h24) (kept_moderate _ _ _ h24))))))

theorem kept_execClaimSlotFill {s0 : State} (s : State)  (h0 : Kept s0 s) : KeptOut s0 (execClaimSlotFill s) := by
  unfold execClaimSlotFill
  exact (kept_out (kept_ite h0 (kept_foldl (fun t13 x14 h15 => (kept_fastTrap _ _ (kept_moderate _ _ _ (kept_fillClaim _ _ _ (kept_fillClaim _ _ _ h15))))) h0)))

theorem kept_execEventArrival {s0 : State} (a0 : Nat) (a1 : Sys2Proof.W32) (s : State)  (h0 : Kept s0 s) : KeptOut s0 (execEventArrival a0 a1 s) := by
  unfold execEventArrival
  exact (kept_out (kept_ite (kept_arrive _ _ _ h0) h0))

theorem kept_execFastMret {s0 : State} (a0 : Nat) (s : State)  (h0 : Kept s0 s) : KeptOut s0 (execFastMret a0 s) := by
  unfold execFastMret
  exact (kept_out (kept_ite h0 (by
      extract_lets v16
      exact (kept_fastTrap _ _ (kept_wrBits _ _ _ _ _ (kept_setCpu _ _ _ h0))))))

theorem kept_execWfi {s0 : State} (a0 : Nat) (s : State)  (h0 : Kept s0 s) : KeptOut s0 (execWfi a0 s) := by
  unfold execWfi
  exact (kept_out (kept_ite h0 (kept_moderate _ _ _ (kept_setWfi _ _ _ h0))))

theorem kept_execCoalTimer {s0 : State} (a0 : Nat) (s : State)  (h0 : Kept s0 s) : KeptOut s0 (execCoalTimer a0 s) := by
  unfold execCoalTimer
  exact (kept_out (kept_ite h0 (kept_wrBits _ _ _ _ _ (kept_setMgt _ h0))))

theorem kept_claim {s0 : State} (s : State) (a1 : Nat) (a2 : Bool)  (h0 : Kept s0 s) : Kept s0 (claim s a1 a2).2 := by
  unfold claim
  exact (by
      split
      · rename_i x25 e26
        exact h0
      · rename_i x27 x28 e29
        exact (by
          extract_lets v31 v32 v33 v34 v35 v36 v37 v38
          have h40 : Kept s0 v32 := (kept_setPendBit _ _ _ (kept_setActive _ _ _ (kept_setSlot _ _ _ _ h0)))
          clear_value v32
          have h41 : Kept s0 v33 := (kept_wrBits _ _ _ _ _ h40)
          clear_value v33
          have h44 : Kept s0 v34 := (kept_wrBits _ _ _ _ _ h41)
          clear_value v34
          have h45 : Kept s0 v36 := (kept_ite h44 (kept_setMgt _ h44))
          clear_value v36
          have h51 : Kept s0 v37 := (kept_ite h45 (kept_wr32 _ _ _ h45))
          clear_value v37
          exact (kept_snd (kept_setCpu _ _ _ h51))))

theorem kept_claimBy {s0 : State} (s : State) (a1 : Nat) (a2 : Bool)  (h0 : Kept s0 s) : Kept s0 (claimBy s a1 a2) := by
  unfold claimBy
  exact (kept_ite h0 (by
      extract_lets v30
      have h39 : Kept s0 v30 := (kept_setWfi _ _ _ h0)
      clear_value v30
      exact (by
        split
        · rename_i x46 x47 t48 e49
          exact (by
            extract_lets v50
            exact (kept_ite (kept_snd_eq e49 (kept_claim _ _ _ h39)) (kept_deviceEvent _ _ _ _ _ (kept_snd_eq e49 (kept_claim _ _ _ h39))))))))

theorem kept_execEvcClaim {s0 : State} (a0 : Nat) (s : State)  (h0 : Kept s0 s) : KeptOut s0 (execEvcClaim a0 s) := by
  unfold execEvcClaim
  exact (kept_out (kept_claimBy _ _ _ h0))

theorem kept_execEvcFclaim {s0 : State} (a0 : Nat) (s : State)  (h0 : Kept s0 s) : KeptOut s0 (execEvcFclaim a0 s) := by
  unfold execEvcFclaim
  exact (kept_out (kept_claimBy _ _ _ h0))

theorem kept_complete {s0 : State} (s : State) (a1 : Nat) (a2 : Nat)  (h0 : Kept s0 s) : Kept s0 (complete s a1 a2) := by
  unfold complete
  exact (by
      extract_lets v42 v43
      exact (kept_ite (kept_setCpu _ _ _ (kept_setActive _ _ _ h0)) (kept_count64 _ _ _ h0)))

theorem kept_execEvcComplete {s0 : State} (a0 : Nat) (a1 : Sys2Proof.W32) (s : State)  (h0 : Kept s0 s) : KeptOut s0 (execEvcComplete a0 a1 s) := by
  unfold execEvcComplete
  exact (kept_out (kept_ite h0 (kept_complete _ _ _ h0)))

theorem kept_pendSet {s0 : State} (s : State) (a1 : Nat) (a2 : Nat)  (h0 : Kept s0 s) : Kept s0 (pendSet s a1 a2) := by
  unfold pendSet
  exact (kept_orWord _ _ _ h0)

theorem kept_pendClr {s0 : State} (s : State) (a1 : Nat) (a2 : Nat)  (h0 : Kept s0 s) : Kept s0 (pendClr s a1 a2) := by
  unfold pendClr
  exact (kept_wr32 _ _ _ h0)

theorem kept_maskSet {s0 : State} (s : State) (a1 : Nat) (a2 : Nat)  (h0 : Kept s0 s) : Kept s0 (maskSet s a1 a2) := by
  unfold maskSet
  exact (kept_orWord _ _ _ h0)

theorem kept_maskClr {s0 : State} (s : State) (a1 : Nat) (a2 : Nat)  (h0 : Kept s0 s) : Kept s0 (maskClr s a1 a2) := by
  unfold maskClr
  exact (kept_wr32 _ _ _ h0)

theorem kept_execEvcPendset {s0 : State} (a0 : Nat) (a1 : Sys2Proof.W32) (s : State)  (h0 : Kept s0 s) : KeptOut s0 (execEvcPendset a0 a1 s) := by
  unfold execEvcPendset
  exact (kept_out (kept_ite h0 (kept_pendSet _ _ _ h0)))

theorem kept_execEvcPendclr {s0 : State} (a0 : Nat) (a1 : Sys2Proof.W32) (s : State)  (h0 : Kept s0 s) : KeptOut s0 (execEvcPendclr a0 a1 s) := by
  unfold execEvcPendclr
  exact (kept_out (kept_ite h0 (kept_pendClr _ _ _ h0)))

theorem kept_execEvcMaskset {s0 : State} (a0 : Nat) (a1 : Sys2Proof.W32) (s : State)  (h0 : Kept s0 s) : KeptOut s0 (execEvcMaskset a0 a1 s) := by
  unfold execEvcMaskset
  exact (kept_out (kept_ite h0 (kept_maskSet _ _ _ h0)))

theorem kept_execEvcMaskclr {s0 : State} (a0 : Nat) (a1 : Sys2Proof.W32) (s : State)  (h0 : Kept s0 s) : KeptOut s0 (execEvcMaskclr a0 a1 s) := by
  unfold execEvcMaskclr
  exact (kept_out (kept_ite h0 (kept_maskClr _ _ _ h0)))

theorem kept_cfgWrite {s0 : State} (s : State) (a1 : Nat) (a2 : Nat)  (h0 : Kept s0 s) : Kept s0 (cfgWrite s a1 a2) := by
  unfold cfgWrite
  exact (by
      extract_lets v52 v53
      exact (kept_ite h0 (kept_ite (kept_wrBits _ _ _ _ _ h0) (kept_wrBits _ _ _ _ _ h0))))

theorem kept_execEvcCfgWrite {s0 : State} (a0 : Nat) (a1 : Sys2Proof.W32) (s : State)  (h0 : Kept s0 s) : KeptOut s0 (execEvcCfgWrite a0 a1 s) := by
  unfold execEvcCfgWrite
  exact (kept_out (kept_ite h0 (kept_cfgWrite _ _ _ h0)))

theorem kept_swSet {s0 : State} (s : State) (a1 : Nat)  (h0 : Kept s0 s) : Kept s0 (swSet s a1) := by
  unfold swSet
  exact (kept_ite h0 (kept_arrive _ _ _ h0))

theorem kept_execEvcSwset {s0 : State} (a0 : Sys2Proof.W32) (s : State)  (h0 : Kept s0 s) : KeptOut s0 (execEvcSwset a0 s) := by
  unfold execEvcSwset
  exact (kept_out (kept_ite (kept_swSet _ _ h0) h0))

theorem kept_budWrite {s0 : State} (s : State) (a1 : Nat) (a2 : Nat)  (h0 : Kept s0 s) : Kept s0 (budWrite s a1 a2) := by
  unfold budWrite
  exact (kept_ite h0 (kept_wr32 _ _ _ h0))

theorem kept_execEvcBudWrite {s0 : State} (a0 : Nat) (a1 : Sys2Proof.W32) (s : State)  (h0 : Kept s0 s) : KeptOut s0 (execEvcBudWrite a0 a1 s) := by
  unfold execEvcBudWrite
  exact (kept_out (kept_ite h0 (kept_budWrite _ _ _ h0)))

/-! ### Machine/Lifetime.lean -/

theorem kept_startFlush {s0 : State} (s : State)  (h0 : Kept s0 s) : Kept s0 (startFlush s) := by
  unfold startFlush
  exact (kept_wrBits _ _ _ _ _ h0)

theorem kept_writeCopy {s0 : State} (s : State)  (h0 : Kept s0 s) : Kept s0 (writeCopy s) := by
  unfold writeCopy
  exact (by
      extract_lets v0 v2 v3 v4
      have h5 : Kept s0 v4 := (kept_setFlash h0 rfl rfl rfl)
      clear_value v4
      exact (kept_wr64 _ _ _ (kept_wrBits _ _ _ _ _ (kept_wrBits _ _ _ _ _ h5))))

theorem kept_restoreLife {s0 : State} (s : State)  (h0 : Kept s0 s) : Kept s0 (restoreLife s) := by
  unfold restoreLife
  exact (by
      extract_lets v1
      have h6 : Kept s0 v1 := (kept_setCtl _ h0)
      clear_value v1
      exact (by
        split
        · rename_i x7 e8
          exact h6
        · rename_i x9 x10 x11 x12 e13
          exact (kept_wrBits _ _ _ _ _ (kept_foldl (fun t14 x15 h16 => (kept_wr32 _ _ _ h16)) h6))))

theorem kept_execFlushTimer {s0 : State} (s : State)  (h0 : Kept s0 s) : KeptOut s0 (execFlushTimer s) := by
  unfold execFlushTimer
  exact (kept_out (kept_ite (kept_startFlush _ h0) h0))

theorem kept_execFlush {s0 : State} (s : State)  (h0 : Kept s0 s) : KeptOut s0 (execFlush s) := by
  unfold execFlush
  exact (kept_out (kept_ite (kept_startFlush _ h0) h0))

theorem kept_execFlushDone {s0 : State} (s : State)  (h0 : Kept s0 s) : KeptOut s0 (execFlushDone s) := by
  unfold execFlushDone
  exact (kept_out (kept_ite (kept_arrive _ _ _ (kept_writeCopy _ h0)) h0))

theorem kept_execRecordSample {s0 : State} (a0 : Int) (a1 : List Nat) (s : State)  (h0 : Kept s0 s) : KeptOut s0 (execRecordSample a0 a1 s) := by
  unfold execRecordSample
  exact (kept_out (kept_ite h0 (by
      extract_lets v17 v18
      have h19 : Kept s0 v17 := (kept_satCount64 _ _ _ h0)
      clear_value v17
      have h20 : Kept s0 v18 := (kept_satCount64 _ _ _ h19)
      clear_value v18
      exact (kept_foldl (fun t21 x22 h23 => (kept_satCount64 _ _ _ h23)) h20))))

/-! ### Machine/Firmware.lean -/

theorem kept_startCpu {s0 : State} (s : State) (a1 : Nat) (a2 : Nat) (a3 : Nat)  (h0 : Kept s0 s) : Kept s0 (startCpu s a1 a2 a3) := by
  unfold startCpu
  exact (by
      extract_lets v8
      have h9 : Kept s0 v8 := (kept_setCpu _ _ _ h0)
      clear_value v8
      exact (kept_setWfi _ _ _ (kept_wrBits _ _ _ _ _ h9)))

theorem kept_holdCpu {s0 : State} (s : State) (a1 : Nat)  (h0 : Kept s0 s) : Kept s0 (holdCpu s a1) := by
  unfold holdCpu
  exact (kept_wrBits _ _ _ _ _ (kept_setCpu _ _ _ h0))

theorem kept_enterRecovery {s0 : State} (s : State) (a1 : Nat)  (h0 : Kept s0 s) : Kept s0 (enterRecovery s a1) := by
  unfold enterRecovery
  exact (by
      extract_lets v4 v5 v6
      have h7 : Kept s0 v5 := (kept_wrDigest _ _ _ (kept_setMgt _ h0))
      clear_value v5
      have h11 : Kept s0 v6 := (kept_foldl (fun t15 x16 h17 => (kept_holdCpu _ _ h17)) (kept_startCpu _ _ _ _ h7))
      clear_value v6
      exact (kept_wr32 _ _ _ h11))

theorem kept_enterFirmware {s0 : State} (s : State) (a1 : List Sys2Proof.Byte)  (h0 : Kept s0 s) : Kept s0 (enterFirmware s a1) := by
  unfold enterFirmware
  exact (by
      extract_lets v0 v1 v2
      have h3 : Kept s0 v1 := (kept_setMgt _ h0)
      clear_value v1
      have h10 : Kept s0 v2 := (kept_foldl (fun t12 x13 h14 => (kept_wr32 _ _ _ (kept_startCpu _ _ _ _ h14))) h3)
      clear_value v2
      exact (kept_wrDigest _ _ _ (kept_wr32 _ _ _ h10)))

theorem kept_bootRom {s0 : State} (s : State) (a1 : Bool)  (h0 : Kept s0 s) : Kept s0 (bootRom s a1) := by
  unfold bootRom
  exact (by
      extract_lets v18 v19 v20 v21
      have h22 : Kept s0 v19 := (kept_wr64 _ _ _ (kept_setMgt _ h0))
      clear_value v19
      exact (kept_ite (kept_enterRecovery _ _ h22) (kept_ite (kept_enterRecovery _ _ h22) (kept_ite (kept_enterFirmware _ _ h22) (kept_enterRecovery _ _ h22)))))

theorem kept_setFwState {s0 : State} (s : State) (a1 : Nat) (a2 : Nat)  (h0 : Kept s0 s) : Kept s0 (setFwState s a1 a2) := by
  unfold setFwState
  exact (by
      extract_lets v23
      have h24 : Kept s0 v23 := (kept_wr32 _ _ _ h0)
      clear_value v23
      exact (kept_ite h24 (kept_raise _ _ _ h24)))

theorem kept_fwRefuse {s0 : State} (s : State) (a1 : Nat)  (h0 : Kept s0 s) : Kept s0 (fwRefuse s a1) := by
  unfold fwRefuse
  exact (kept_raise _ _ _ (kept_wrBits _ _ _ _ _ h0))

theorem kept_endUpdate {s0 : State} (s : State)  (h0 : Kept s0 s) : Kept s0 (endUpdate s) := by
  unfold endUpdate
  exact (by
      extract_lets v25 v26 v27
      have h28 : Kept s0 v26 := (kept_wrBits _ _ _ _ _ h0)
      clear_value v26
      exact (kept_ite h0 (kept_ite (kept_setFlash h28 rfl rfl rfl) h28)))

theorem kept_endLoad {s0 : State} (s : State)  (h0 : Kept s0 s) : Kept s0 (endLoad s) := by
  unfold endLoad
  exact (by
      extract_lets v29
      exact (kept_ite h0 (by
        split
        · rename_i x68 x69 t70 e71
          exact (by
            extract_lets v72 v73
            exact (kept_ite (kept_unconfigure _ (kept_failLoad _ _ (kept_snd_eq e71 (kept_fresh h0)))) (kept_ite (kept_stopPartition _ _ _ (kept_resumeParts _ (kept_failLoad _ _ (kept_snd_eq e71 (kept_fresh h0))))) (kept_ite (kept_resumeParts _ (kept_failLoad _ _ (kept_snd_eq e71 (kept_fresh h0)))) (kept_failLoad _ _ (kept_snd_eq e71 (kept_fresh h0))))))))))

theorem kept_restartEvents {s0 : State} (s : State)  (h0 : Kept s0 s) : Kept s0 (restartEvents s) := by
  unfold restartEvents
  exact (by
      extract_lets v30 v31 v32
      have h33 : Kept s0 v30 := (kept_foldl (fun t34 x35 h36 => (kept_wr32 _ _ _ h36)) h0)
      clear_value v30
      have h51 : Kept s0 v31 := (kept_foldl (fun t52 x53 h54 => (kept_wr32 _ _ _ (kept_setSlot _ _ _ _ (kept_setSlot _ _ _ _ h54)))) h33)
      clear_value v31
      exact (kept_setMgt _ h51))

theorem kept_managementRestart {s0 : State} (s : State) (a1 : Nat)  (h0 : Kept s0 s) : Kept s0 (managementRestart s a1) := by
  unfold managementRestart
  exact (by
      extract_lets v37 v38 v39 v40 v41 v42 v43 v44 v45 v46 v47 v48 v49
      have h50 : Kept s0 v37 := (kept_ite (kept_arrive _ _ _ (kept_writeCopy _ h0)) h0)
      clear_value v37
      have h55 : Kept s0 v38 := (kept_foldl (fun t56 x57 h58 => (kept_closeSession _ _ h58)) h50)
      clear_value v38
      have h65 : Kept s0 v39 := (kept_endLoad _ (kept_endUpdate _ h55))
      clear_value v39
      have h75 : Kept s0 v40 := (kept_restartEvents _ h65)
      clear_value v40
      have h76 : Kept s0 v45 := (kept_ite (kept_setMgt _ h75) h75)
      clear_value v45
      have h77 : Kept s0 v46 := (kept_satCount64 _ _ _ h76)
      clear_value v46
      have h78 : Kept s0 v47 := (kept_wr32 _ _ _ h77)
      clear_value v47
      have h79 : Kept s0 v48 := (kept_foldl (fun t80 x81 h82 => (kept_wr32 _ _ _ h82)) h78)
      clear_value v48
      have h83 : Kept s0 v49 := (kept_bootRom _ _ h79)
      clear_value v49
      exact (kept_arrive _ _ _ h83))

theorem kept_execMgtRestart {s0 : State} (s : State)  (h0 : Kept s0 s) : KeptOut s0 (execMgtRestart s) := by
  unfold execMgtRestart
  exact (kept_out (kept_ite (kept_managementRestart _ _ h0) h0))

theorem kept_execControlMemoryUe {s0 : State} (s : State)  (h0 : Kept s0 s) : KeptOut s0 (execControlMemoryUe s) := by
  unfold execControlMemoryUe
  exact (kept_out (kept_ite (kept_managementRestart _ _ (kept_sticky _ _ _ h0)) h0))

theorem kept_stageFw {s0 : State} (s : State) (a1 : Nat) (a2 : List Sys2Proof.Byte)  (h0 : Kept s0 s) : Kept s0 (stageFw s a1 a2).2 := by
  unfold stageFw
  exact (by
      extract_lets v60 v61 v62 v63
      have h64 : Kept s0 v63 := (kept_wr64 _ _ _ (kept_setMgt _ h0))
      clear_value v63
      exact (kept_pr_ite (f := Prod.snd) h0 (kept_pr_ite (f := Prod.snd) h0 (kept_pr_ite (f := Prod.snd) h0 (kept_snd (kept_ite (kept_setFwState _ _ _ h64) h64))))))

theorem kept_fwVerify {s0 : State} (s : State)  (h0 : Kept s0 s) : Kept s0 (fwVerify s) := by
  unfold fwVerify
  exact (by
      extract_lets v59
      exact (kept_ite (kept_fwRefuse _ _ h0) (kept_setFwState _ _ _ h0)))

theorem kept_fwCommit {s0 : State} (s : State)  (h0 : Kept s0 s) : Kept s0 (fwCommit s) := by
  unfold fwCommit
  exact (by
      extract_lets v66 v67
      exact (kept_ite (kept_fwRefuse _ _ h0) (kept_ite (kept_fwRefuse _ _ h0) (kept_setFlash (kept_setFwState _ _ _ h0) rfl rfl rfl))))

theorem kept_execFwVerify {s0 : State} (s : State)  (h0 : Kept s0 s) : KeptOut s0 (execFwVerify s) := by
  unfold execFwVerify
  exact (kept_out (kept_ite (kept_fwVerify _ h0) h0))

theorem kept_execFwVerifyEnd {s0 : State} (s : State)  (h0 : Kept s0 s) : KeptOut s0 (execFwVerifyEnd s) := by
  unfold execFwVerifyEnd
  exact (kept_out (kept_ite h0 (by
      extract_lets v74
      exact (kept_ite (kept_setFwState _ _ _ h0) (kept_wrDigest _ _ _ (kept_setFwState _ _ _ h0))))))

theorem kept_execFwCommit {s0 : State} (s : State)  (h0 : Kept s0 s) : KeptOut s0 (execFwCommit s) := by
  unfold execFwCommit
  exact (kept_out (kept_ite (kept_fwCommit _ h0) h0))

theorem kept_execFwProgramEnd {s0 : State} (a0 : Bool) (s : State)  (h0 : Kept s0 s) : KeptOut s0 (execFwProgramEnd a0 s) := by
  unfold execFwProgramEnd
  exact (kept_out (kept_ite h0 (kept_ite (kept_setFlash (kept_setFwState _ _ _ h0) rfl rfl rfl) (kept_setFwState _ _ _ h0))))

/-! ### Machine/Power.lean -/

theorem kept_resetAll {s0 : State} (s : State) (h0 : Kept s0 s) : Kept s0 (resetAll s) :=
  ⟨h0.1, fun _ => rfl, h0.3, h0.4, h0.5, h0.6, fun _ => Nat.zero_le _, h0.8, h0.9⟩

theorem kept_enterReset {s0 : State} (s : State) (a1 : Nat)  (h0 : Kept s0 s) : Kept s0 (enterReset s a1) := by
  unfold enterReset
  exact (kept_wr32 _ _ _ (kept_resetAll _ h0))

theorem kept_resetTime {s0 : State} (s : State) (a1 : Nat)  (h0 : Kept s0 s) : Kept s0 (resetTime s a1) := by
  unfold resetTime
  exact (kept_ite h0 (by
      extract_lets v0 v1
      exact (kept_count64 _ _ _ (kept_setPow _ h0))))

theorem kept_trainLinks {s0 : State} (s : State)  (h0 : Kept s0 s) : Kept s0 (trainLinks s) := by
  unfold trainLinks
  exact (kept_ite (kept_foldl (fun t2 x3 h4 => (kept_ite (kept_startTraining _ _ h4) h4)) h0) h0)

theorem kept_bootRecords {s0 : State} (s : State) (a1 : Bool)  (h0 : Kept s0 s) : Kept s0 (bootRecords s a1) := by
  unfold bootRecords
  exact (by
      extract_lets v5 v6 v7 v8 v9
      have h10 : Kept s0 v5 := (kept_restoreLife _ h0)
      clear_value v5
      have h11 : Kept s0 v7 := (kept_satCount64 _ _ _ h10)
      clear_value v7
      have h27 : Kept s0 v8 := (kept_wr64 _ _ _ h11)
      clear_value v8
      have h29 : Kept s0 v9 := (kept_ite (kept_satCount64 _ _ _ h27) h27)
      clear_value v9
      exact (kept_ite h27 (kept_satCount64 _ _ _ h29)))

theorem kept_startDevice {s0 : State} (s : State) (a1 : Bool)  (h0 : Kept s0 s) : Kept s0 (startDevice s a1) := by
  unfold startDevice
  exact (by
      extract_lets v12 v13 v14 v15 v16 v17 v18 v19
      have h20 : Kept s0 v13 := (kept_setPow _ h0)
      clear_value v13
      have h21 : Kept s0 v14 := (kept_wr32 _ _ _ h20)
      clear_value v14
      have h26 : Kept s0 v15 := (kept_wr64 _ _ _ h21)
      clear_value v15
      have h28 : Kept s0 v16 := (kept_replayJournal _ (kept_bootRecords _ _ h26))
      clear_value v16
      have h40 : Kept s0 v18 := (kept_openPrefix h28 rfl)
      clear_value v18
      have h62 : Kept s0 v19 := (kept_wr32 _ _ _ h40)
      clear_value v19
      exact (kept_trainLinks _ (kept_bootRom _ _ h62)))

theorem kept_execRstNAssert {s0 : State} (a0 : Nat) (s : State)  (h0 : Kept s0 s) : KeptOut s0 (execRstNAssert a0 s) := by
  unfold execRstNAssert
  exact (kept_out (kept_ite h0 (by
      extract_lets v22 v23 v24
      have h25 : Kept s0 v24 := (kept_setPow _ h0)
      clear_value v24
      exact (kept_ite (kept_resetTime _ _ h25) (kept_ite (kept_resetTime _ _ (kept_enterReset _ _ h25)) h25)))))

theorem kept_execRstNRelease {s0 : State} (a0 : Nat) (s : State)  (h0 : Kept s0 s) : KeptOut s0 (execRstNRelease a0 s) := by
  unfold execRstNRelease
  exact (kept_out (kept_ite h0 (by
      extract_lets v30 v31 v32
      have h33 : Kept s0 v32 := (kept_setPow _ h0)
      clear_value v32
      exact (kept_ite h33 (kept_ite (kept_resetTime _ _ h33) (kept_startDevice _ _ (kept_resetTime _ _ h33)))))))

theorem kept_execPowerOn {s0 : State} (s : State)  (h0 : Kept s0 s) : KeptOut s0 (execPowerOn s) := by
  unfold execPowerOn
  exact (kept_out (kept_ite h0 (by
      extract_lets v34
      have h35 : Kept s0 v34 := (kept_resetAll _ h0)
      clear_value v34
      exact (kept_rawPow _ _ h35))))

theorem kept_execPowerLoss {s0 : State} (s : State)  (h0 : Kept s0 s) : KeptOut s0 (execPowerLoss s) := by
  unfold execPowerLoss
  exact (kept_out (kept_ite h0 (by
      extract_lets v36
      have h37 : Kept s0 v36 := (kept_resetAll _ h0)
      clear_value v36
      exact (kept_rawPow _ _ h37))))

theorem kept_setPstate {s0 : State} (s : State) (a1 : PState) (a2 : Nat)  (h0 : Kept s0 s) : Kept s0 (setPstate s a1 a2) := by
  unfold setPstate
  exact (kept_wrBits _ _ _ _ _ (kept_setPow _ h0))

theorem kept_pwrCode {s0 : State} (s : State) (a1 : Nat)  (h0 : Kept s0 s) : Kept s0 (pwrCode s a1) := by
  unfold pwrCode
  exact (by
      extract_lets v38
      have h39 : Kept s0 v38 := (kept_wrBits _ _ _ _ _ h0)
      clear_value v38
      exact (kept_ite h39 (kept_raise _ _ _ h39)))

theorem kept_standby {s0 : State} (s : State) (a1 : Nat)  (h0 : Kept s0 s) : Kept s0 (standby s a1) := by
  unfold standby
  exact (kept_ite h0 (kept_ite (kept_pwrCode _ _ h0) (by
      extract_lets v41 v42 v43
      have h50 : Kept s0 v41 := (kept_setPstate _ _ _ (kept_pwrCode _ _ h0))
      clear_value v41
      exact (kept_setStr _ (kept_setPow _ h50)))))

theorem kept_execStandby {s0 : State} (a0 : Nat) (s : State)  (h0 : Kept s0 s) : KeptOut s0 (execStandby a0 s) := by
  unfold execStandby
  exact (kept_out (kept_standby _ _ h0))

theorem kept_gateBlocks {s0 : State} (s : State)  (h0 : Kept s0 s) : Kept s0 (gateBlocks s) := by
  unfold gateBlocks
  exact (by
      extract_lets v44 v45 v46 v47 v48 v49
      have h51 : Kept s0 v45 := (kept_noStore h0)
      clear_value v45
      have h52 : Kept s0 v47 := (kept_setFab _ h51)
      clear_value v47
      have h63 : Kept s0 v49 := (kept_setEth _ h52)
      clear_value v49
      exact (kept_showLinks _ h63))

theorem kept_execStandbyDrainEnd {s0 : State} (s : State)  (h0 : Kept s0 s) : KeptOut s0 (execStandbyDrainEnd s) := by
  unfold execStandbyDrainEnd
  exact (kept_out (kept_ite h0 (by
      extract_lets v53 v54 v55 v56 v57 v58 v59 v60
      have h61 : Kept s0 v53 := (kept_abortWhere _ _ _ h0)
      clear_value v53
      have h64 : Kept s0 v54 := (kept_dropReady _ _ _ h61)
      clear_value v54
      have h65 : Kept s0 v56 := (kept_foldl (fun t66 x67 h68 => (kept_refuseRecord _ _ _ _ _ _ h68)) h64)
      clear_value v56
      have h70 : Kept s0 v57 := (kept_unconfigure _ h65)
      clear_value v57
      have h71 : Kept s0 v58 := (kept_setCtl _ h70)
      clear_value v58
      have h72 : Kept s0 v60 := (kept_setStr _ h71)
      clear_value v60
      exact (kept_setPstate _ _ _ (kept_gateBlocks _ (kept_arrive _ _ _ (kept_writeCopy _ h72)))))))

theorem kept_activate {s0 : State} (s : State)  (h0 : Kept s0 s) : Kept s0 (activate s) := by
  unfold activate
  exact (kept_ite h0 (kept_wrBits _ _ _ _ _ (kept_setPstate _ _ _ (kept_pwrCode _ _ h0))))

theorem kept_execActive {s0 : State} (s : State)  (h0 : Kept s0 s) : KeptOut s0 (execActive s) := by
  unfold execActive
  exact (kept_out (kept_activate _ h0))

theorem kept_execActiveComplete {s0 : State} (s : State)  (h0 : Kept s0 s) : KeptOut s0 (execActiveComplete s) := by
  unfold execActiveComplete
  exact (kept_out (kept_ite (kept_trainLinks _ (kept_setPstate _ _ _ h0)) h0))

theorem kept_clkPwr {s0 : State} (s : State) (a1 : Nat)  (h0 : Kept s0 s) : Kept s0 (clkPwr s a1) := by
  unfold clkPwr
  exact (by
      split
      · rename_i x75 e76
        exact (kept_standby _ _ h0)
      · rename_i x77 e78
        exact (kept_activate _ h0)
      · rename_i x79 e80 e81
        exact h0)

theorem kept_fwActivate {s0 : State} (s : State)  (h0 : Kept s0 s) : Kept s0 (fwActivate s) := by
  unfold fwActivate
  exact (by
      extract_lets v69
      exact (kept_ite h0 (kept_ite (kept_fwRefuse _ _ h0) (kept_ite (kept_fwRefuse _ _ h0) (kept_ite (kept_startDevice _ _ (kept_resetAll _ (kept_writeCopy _ h0))) (kept_managementRestart _ _ h0))))))

theorem kept_execFwActivate {s0 : State} (s : State)  (h0 : Kept s0 s) : KeptOut s0 (execFwActivate s) := by
  unfold execFwActivate
  exact (kept_out (kept_fwActivate _ h0))

theorem kept_fwCommand {s0 : State} (s : State) (a1 : Nat)  (h0 : Kept s0 s) : Kept s0 (fwCommand s a1) := by
  unfold fwCommand
  exact (by
      split
      · rename_i x102 e103
        exact (kept_fwVerify _ h0)
      · rename_i x108 e109
        exact (kept_fwCommit _ h0)
      · rename_i x113 e114
        exact (kept_fwActivate _ h0)
      · rename_i x115 e116 e117 e119
        exact h0)

theorem kept_thermalLimit {s0 : State} (s : State) (a1 : List Int) (a2 : Nat)  (h0 : Kept s0 s) : Kept s0 (thermalLimit s a1 a2) := by
  unfold thermalLimit
  exact (by
      extract_lets v73 v74
      exact (kept_ite (kept_ite (kept_setPow _ h0) h0) (kept_ite (kept_arrive _ _ _ (kept_setPow _ h0)) h0)))

theorem kept_execThermalSample {s0 : State} (a0 : List Int) (s : State)  (h0 : Kept s0 s) : KeptOut s0 (execThermalSample a0 s) := by
  unfold execThermalSample
  exact (kept_out (by
      extract_lets v82 v83 v84 v85 v86 v87 v88 v89 v90
      have h91 : Kept s0 v83 := (kept_setPow _ h0)
      clear_value v83
      have h92 : Kept s0 v84 := (kept_foldl (fun t99 x100 h101 => (kept_wr32 _ _ _ h101)) h91)
      clear_value v84
      have h110 : Kept s0 v85 := (kept_foldl (fun t118 x120 h121 => (kept_wrBits _ _ _ _ _ h121)) h92)
      clear_value v85
      have h122 : Kept s0 v88 := (kept_setPow _ h110)
      clear_value v88
      have h123 : Kept s0 v89 := (kept_foldl (fun t124 x125 h126 => (kept_thermalLimit _ _ _ h126)) h122)
      clear_value v89
      exact (kept_ite h91 (kept_ite (kept_enterReset _ _ (kept_setPow _ h123)) h123))))

theorem kept_execThrottleInterval {s0 : State} (a0 : Nat) (s : State)  (h0 : Kept s0 s) : KeptOut s0 (execThrottleInterval a0 s) := by
  unfold execThrottleInterval
  exact (kept_out (kept_ite h0 (by
      extract_lets v93 v94 v95 v96 v97
      have h98 : Kept s0 v95 := (kept_wr32 _ _ _ h0)
      clear_value v95
      have h104 : Kept s0 v96 := (kept_foldl (fun t105 x106 h107 => (by
        extract_lets v111 v112
        exact (kept_wrBits _ _ _ _ _ h107))) h98)
      clear_value v96
      exact (kept_setPow _ h104))))

theorem kept_execPllLockLoss {s0 : State} (s : State)  (h0 : Kept s0 s) : KeptOut s0 (execPllLockLoss s) := by
  unfold execPllLockLoss
  exact (kept_out (kept_ite h0 (kept_enterReset _ _ (kept_setPow _ h0))))

/-! ### Machine/Processors.lean -/

theorem kept_resetCpu {s0 : State} (s : State) (a1 : Nat) (a2 : Nat)  (h0 : Kept s0 s) : Kept s0 (resetCpu s a1 a2) := by
  unfold resetCpu
  exact (by
      extract_lets v0 v1 v2 v3 v4
      have h5 : Kept s0 v0 := (kept_foldl (fun t12 x13 h14 => (kept_setActive _ _ _ h14)) h0)
      clear_value v0
      have h15 : Kept s0 v1 := (kept_wr32 _ _ _ (kept_setSlot _ _ _ _ (kept_setSlot _ _ _ _ h5)))
      clear_value v1
      have h16 : Kept s0 v3 := (kept_setMgt _ h15)
      clear_value v3
      have h17 : Kept s0 v4 := (kept_wr32 _ _ _ h16)
      clear_value v4
      exact (kept_startCpu _ _ _ _ h17))

theorem kept_stageTwo {s0 : State} (s : State) (a1 : Nat)  (h0 : Kept s0 s) : Kept s0 (stageTwo s a1) := by
  unfold stageTwo
  exact (by
      extract_lets v6 v7 v8 v9 v10
      have h11 : Kept s0 v9 := (kept_resetCpu _ _ _ (kept_setMgt _ h0))
      clear_value v9
      exact (kept_ite (kept_managementRestart _ _ (kept_setMgt _ h11)) h11))

theorem kept_kick {s0 : State} (s : State) (a1 : Nat)  (h0 : Kept s0 s) : Kept s0 (kick s a1) := by
  unfold kick
  exact (kept_setCpu _ _ _ h0)

theorem kept_execKick {s0 : State} (a0 : Nat) (s : State)  (h0 : Kept s0 s) : KeptOut s0 (execKick a0 s) := by
  unfold execKick
  exact (kept_out (kept_ite (kept_kick _ _ h0) h0))

theorem kept_execWatchdogStage1 {s0 : State} (a0 : Nat) (s : State)  (h0 : Kept s0 s) : KeptOut s0 (execWatchdogStage1 a0 s) := by
  unfold execWatchdogStage1
  exact (kept_out (kept_ite (kept_arrive _ _ _ (kept_setCpu _ _ _ h0)) h0))

theorem kept_execWatchdogStage2 {s0 : State} (a0 : Nat) (s : State)  (h0 : Kept s0 s) : KeptOut s0 (execWatchdogStage2 a0 s) := by
  unfold execWatchdogStage2
  exact (kept_out (kept_ite (kept_stageTwo _ _ h0) h0))

theorem kept_execControlSpaceTimeout {s0 : State} (a0 : Nat) (s : State)  (h0 : Kept s0 s) : KeptOut s0 (execControlSpaceTimeout a0 s) := by
  unfold execControlSpaceTimeout
  exact (kept_out (kept_ite (kept_count64 _ _ _ h0) h0))

theorem kept_execRegisterFileParity {s0 : State} (a0 : Nat) (s : State)  (h0 : Kept s0 s) : KeptOut s0 (execRegisterFileParity a0 s) := by
  unfold execRegisterFileParity
  exact (kept_out (kept_ite (kept_resetCpu _ _ _ h0) h0))

theorem kept_execFastContextException {s0 : State} (a0 : Nat) (s : State)  (h0 : Kept s0 s) : KeptOut s0 (execFastContextException a0 s) := by
  unfold execFastContextException
  exact (kept_out (kept_ite (kept_resetCpu _ _ _ h0) h0))

end Sys2Proof.Machine
end

