-- ==== Sys2Proof/Laws/KeptRest.lean ====
section
/-! SUPPORT. `Kept` through copies, the control space, the tick, entropy coding, the HCP, motion, rate control and the end of a task: one lemma per function. -/

namespace Sys2Proof.Machine

/-! ### Machine/Dma.lean -/

theorem kept_moved {s0 s : State} {m : Mover} {e : Option Abort} {r : Option Nat} (h : Kept s0 s) : Kept s0 (Moved.mk s m e r).s := h

theorem kept_cbFault {s0 : State} (s : State) (a1 : Nat) (a2 : Abort)  (h0 : Kept s0 s) : Kept s0 (cbFault s a1 a2).1 := by
  unfold cbFault
  exact (by
      split
      · rename_i x4 x5 e6
        exact (kept_fst (kept_emptyBank _ _ _ h0))
      · rename_i x16 e17
        exact h0)

theorem kept_dmaFault {s0 : State} (s : State) (a1 : Nat) (a2 : Nat) (a3 : Nat) (a4 : Abort)  (h0 : Kept s0 s) : Kept s0 (dmaFault s a1 a2 a3 a4) := by
  unfold dmaFault
  exact (by
      extract_lets v0 v1 v2 v3
      exact (by
        split
        · rename_i x7 t8 x9 e10
          exact (by
            extract_lets v11 v12 v13 v14
            have h15 : Kept s0 v11 := (kept_wr64 _ _ _ (kept_fst_eq e10 (kept_cbFault _ _ _ h0)))
            clear_value v11
            have h20 : Kept s0 v12 := (kept_wr64 _ _ _ h15)
            clear_value v12
            have h22 : Kept s0 v13 := (kept_ite (kept_hbmError _ _ h20) (kept_ite (kept_arrive _ _ _ (kept_raise _ _ _ (kept_count64 _ _ _ h20))) (kept_raise _ _ _ (kept_ite (kept_count64 _ _ _ h20) h20))))
            clear_value v13
            have h73 : Kept s0 v14 := (kept_arrive _ _ _ h22)
            clear_value v14
            exact (kept_unitAbort _ _ _ _ h73))))

theorem kept_writePlaces {s0 : State} (s : State) (a1 : Nat) (a2 : Bool) (a3 : List Place) (a4 : List Sys2Proof.Byte)  (h0 : Kept s0 s) : KeptE (fun x => x) s0 (writePlaces s a1 a2 a3 a4) := by
  unfold writePlaces
  exact (by
      split
      · rename_i x29 x30 x31
        exact (kept_storeWrite _ _ _ _ h0)
      · rename_i x32 x33 x34 x35
        exact (kept_hbmWrite _ _ _ _ _ h0)
      · rename_i x36 e37 e38
        exact (keptE_ok h0))

theorem kept_raiseExtent {s0 : State} (s : State) (a1 : Nat) (a2 : Nat) (a3 : Run) (a4 : List Place)  (h0 : Kept s0 s) : Kept s0 (raiseExtent s a1 a2 a3 a4) := by
  unfold raiseExtent
  exact (kept_ite (by
      extract_lets v18 v19
      exact (kept_updTask _ _ _ _ h0)) h0)

theorem kept_readReq {s0 : State} (a0 : Run) (a1 : Nat) (a2 : Mover → List Sys2Proof.Byte → Mover) (a3 : Moved)  (h0 : Kept s0 a3.s) : Kept s0 (readReq a0 a1 a2 a3).s := by
  unfold readReq
  exact (by
      extract_lets v21
      exact (by
        split
        · rename_i x23 x24 e25
          exact h0
        · rename_i x26 x27 e28
          exact (by
            split
            · rename_i x39 x40 x41 e42
              exact h0
            · rename_i x43 x44 x45 e46 e47
              exact h0
            · rename_i x48 x49 x50 e51 e52
              exact (by
                extract_lets v54
                have h55 : Kept s0 v54 := (by
                  unfold v54
                  split
                  · rename_i x56 x57 e58
                    exact (kept_touchTlb _ _ _ h0)
                  · rename_i x59 e60
                    exact h0)
                clear_value v54
                exact (by
                  split
                  · rename_i x69 t70 x71 e72
                    exact (kept_moved (kept_count64 _ _ _ (kept_fst_eq e72 (kept_chargeRead _ _ _ _ _ h55)))))))))

theorem kept_writeReq {s0 : State} (a0 : Nat) (a1 : Run) (a2 : Nat) (a3 : Moved)  (h0 : Kept s0 a3.s) : Kept s0 (writeReq a0 a1 a2 a3).s := by
  unfold writeReq
  exact (by
      extract_lets v53
      exact (by
        split
        · rename_i x61 x62 e63
          exact h0
        · rename_i x64 x65 e66
          exact (by
            extract_lets v67 v68
            exact (by
              split
              · rename_i x81 x82 x83 e84
                exact h0
              · rename_i x87 x88 x89 e90 e91
                exact h0
              · rename_i x96 x97 t98 e99 e100
                exact (by
                  extract_lets v101
                  have h102 : Kept s0 v101 := (by
                    unfold v101
                    split
                    · rename_i x104 x105 e106
                      exact (kept_touchTlb _ _ _ (keptE_get (f := fun x => x) e100 (kept_writePlaces _ _ _ _ _ h0)))
                    · rename_i x116 e117
                      exact (keptE_get (f := fun x => x) e100 (kept_writePlaces _ _ _ _ _ h0)))
                  clear_value v101
                  exact (by
                    split
                    · rename_i x139 t140 x141 e142
                      exact (kept_moved (kept_count64 _ _ _ (kept_fst_eq e142 (kept_chargeWrite _ _ _ _ _ _ (kept_raiseExtent _ _ _ _ _ h102)))))))))))

theorem kept_packNext {s0 : State} (a0 : Run) (a1 : Moved)  (h0 : Kept s0 a1.s) : Kept s0 (packNext a0 a1).s := by
  unfold packNext
  exact (by
      extract_lets v74 v75 v76
      exact (by
        split
        · rename_i x77 x78 x79 e80
          exact (by
            extract_lets v85 v86
            have h92 : Kept s0 v85 := (kept_count64 _ _ _ (kept_count64 _ _ _ (kept_count64 _ _ _ h0)))
            clear_value v85
            have h103 : Kept s0 v86 := (kept_ite (kept_count64 _ _ _ h92) (kept_ite (kept_count64 _ _ _ h92) h92))
            clear_value v86
            exact h103)))

theorem kept_unpackNext {s0 : State} (a0 : Run) (a1 : Moved)  (h0 : Kept s0 a1.s) : Kept s0 (unpackNext a0 a1).s := by
  unfold unpackNext
  exact (by
      extract_lets v93 v94 v95
      exact (by
        split
        · rename_i x111 x112 e113
          exact h0
        · rename_i x114 e115
          exact (by
            split
            · rename_i x118 e119
              exact h0
            · rename_i x120 x121 e122
              exact (kept_moved (kept_count64 _ _ _ (kept_count64 _ _ _ h0))))
        · rename_i x132 x133 e134 e135
          exact (kept_readReq _ _ _ _ h0)))

theorem kept_closeRun {s0 : State} (a0 : Run) (a1 : Moved)  (h0 : Kept s0 a1.s) : Kept s0 (closeRun a0 a1).s := by
  unfold closeRun
  exact (kept_pr_ite (f := Moved.s) h0 (by
      extract_lets v107 v108 v109
      have h110 : Kept s0 v107 := (kept_endColls _ _ _ h0)
      clear_value v107
      exact (kept_pr_ite (f := Moved.s) h110 (by
        split
        · rename_i x123 x124 e125
          exact h110
        · rename_i x126 t127 e128
          exact (kept_moved (keptE_get (f := fun x => x) e128 (kept_storeWrite _ _ _ _ h110)))))))

theorem kept_moveNext {s0 : State} (a0 : Nat) (a1 : Run) (a2 : Nat) (a3 : Moved)  (h0 : Kept s0 a3.s) : Kept s0 (moveNext a0 a1 a2 a3).s := by
  unfold moveNext
  exact (by
      extract_lets v129 v130 v131
      exact (kept_pr_ite (f := Moved.s) (kept_writeReq _ _ _ _ h0) (kept_pr_ite (f := Moved.s) (kept_unpackNext _ _ h0) (kept_pr_ite (f := Moved.s) (kept_packNext _ _ h0) (kept_pr_ite (f := Moved.s) h0 (kept_readReq _ _ _ _ h0))))))

theorem kept_moveTo {s0 : State} (a0 : Nat) (a1 : Run) (a2 : Nat) (a3 : Nat) (a4 : Moved)  (h0 : Kept s0 a4.s) : Kept s0 (moveTo a0 a1 a2 a3 a4).s := by
  induction a3 generalizing a0 a1 a2 a4 with
  | zero =>
    unfold moveTo
    exact h0
  | succ k ih =>
    unfold moveTo
    exact (kept_pr_ite (f := Moved.s) h0 (kept_pr_ite (f := Moved.s) (kept_pr_ite (f := Moved.s) (kept_closeRun _ _ h0) h0) (ih _ _ _ _ (kept_moveNext _ _ _ _ h0))))

theorem kept_move {s0 : State} (s : State) (a1 : Nat) (a2 : Run) (a3 : Nat) (a4 : Mover)  (h0 : Kept s0 s) : Kept s0 (move s a1 a2 a3 a4).s := by
  unfold move
  exact (kept_moveTo _ _ _ _ _ h0)

theorem kept_creditStep {s0 : State} (s : State) (a1 : Nat) (a2 : Run) (a3 : Nat) (a4 : Nat) (a5 : Mover)  (h0 : Kept s0 s) : KeptOpt Moved.s s0 (creditStep s a1 a2 a3 a4 a5) := by
  unfold creditStep
  exact (by
      extract_lets v136 v137
      have h138 : Kept s0 v137 := (kept_ite h0 (kept_setSem _ _ _ _ h0))
      clear_value v137
      exact (keptOpt_ite (keptOpt_none) (keptOpt_some (kept_move _ _ _ _ _ h138))))

theorem kept_setDmaActive {s0 : State} (s : State) (a1 : Nat) (a2 : Nat) (a3 : Bool)  (h0 : Kept s0 s) : Kept s0 (setDmaActive s a1 a2 a3) := by
  unfold setDmaActive
  exact (kept_wrBits _ _ _ _ _ h0)

theorem kept_dmaIssue {s0 : State} (a0 : Nat) (a1 : Nat) (a2 : Sys2Proof.W128) (a3 : Nat) (a4 : State → State) (s : State) (f4 : ∀ t, Kept s0 t → Kept s0 (a4 t)) (h0 : Kept s0 s) : KeptOut s0 (dmaIssue a0 a1 a2 a3 a4 s) := by
  unfold dmaIssue
  exact (kept_out (kept_ite h0 (kept_issue _ _ _ _ _ _ _ _ _ _ (fun t143 h144 => (f4 _ h144)) h0)))

theorem kept_setTransfer {s0 : State} (s : State) (a1 : Nat) (a2 : Nat) (a3 : Transfer)  (h0 : Kept s0 s) : Kept s0 (setTransfer s a1 a2 a3) := by
  unfold setTransfer
  exact (kept_setCtx _ _ _ _ h0)

theorem kept_afterMove {s0 : State} (a0 : Nat) (a1 : Nat) (a2 : Nat) (a3 : Task) (a4 : Moved) (a5 : State → Mover → State) (a6 : State → Mover → State) (f5 : ∀ t m, Kept s0 t → Kept s0 (a5 t m)) (f6 : ∀ t m, Kept s0 t → Kept s0 (a6 t m)) (h0 : Kept s0 a4.s) : Kept s0 (afterMove a0 a1 a2 a3 a4 a5 a6) := by
  unfold afterMove
  exact (by
      split
      · rename_i x145 x146 x147 e148
        exact (kept_refused _ _ _ (f5 _ _ h0))
      · rename_i x152 x153 x154 e155 e156
        exact (kept_dmaFault _ _ _ _ _ (f5 _ _ h0))
      · rename_i x157 x158 e159 e160
        exact (f6 _ _ h0))

theorem kept_pumpTransfer {s0 : State} (s : State) (a1 : Nat) (a2 : Nat) (a3 : Transfer) (a4 : Task) (a5 : State → Mover → State) (f5 : ∀ t m, Kept s0 t → Kept s0 (a5 t m)) (h0 : Kept s0 s) : Kept s0 (pumpTransfer s a1 a2 a3 a4 a5) := by
  unfold pumpTransfer
  exact (kept_afterMove _ _ _ _ _ _ _ (fun t161 x162 h163 => (kept_setTransfer _ _ _ _ h163)) (fun t164 x165 h166 => (f5 _ _ h166)) (kept_move _ _ _ _ _ h0))

theorem kept_openDesc {s0 : State} (s : State) (a1 : Nat) (a2 : Nat) (a3 : Sys2Proof.W128)  (h0 : Kept s0 s) : Kept s0 (openDesc s a1 a2 a3).1 := by
  unfold openDesc
  exact (by
      split
      · rename_i x149 x150 e151
        exact (kept_fst (kept_dmaFault _ _ _ _ _ h0))
      · rename_i x169 x170 e171
        exact (by
          split
          · rename_i x175 t176 e177
            exact (kept_fst (kept_fst_eq e177 (kept_pr_ite (f := Prod.fst) (kept_readInput _ _ _ h0) h0)))
          · rename_i x181 t182 e183
            exact (kept_fst (kept_fst_eq e183 (kept_pr_ite (f := Prod.fst) (kept_readInput _ _ _ h0) h0)))))

theorem kept_setPstream {s0 : State} (s : State) (a1 : Nat) (a2 : Nat) (a3 : PStream)  (h0 : Kept s0 s) : Kept s0 (setPstream s a1 a2 a3) := by
  unfold setPstream
  exact (kept_setCore _ _ _ h0)

theorem kept_transferRun {s0 : State} (a0 : Nat) (a1 : Nat) (a2 : Sys2Proof.W128) (s : State)  (h0 : Kept s0 s) : Kept s0 (transferRun a0 a1 a2 s) := by
  unfold transferRun
  exact (by
      split
      · rename_i x172 t173 e174
        exact (kept_fst_eq e174 (kept_openDesc _ _ _ _ h0))
      · rename_i x195 t198 x200 x201 e202
        exact (by
          extract_lets v203 v205
          have h208 : Kept s0 v205 := (kept_setDmaActive _ _ _ _ (kept_setTransfer _ _ _ _ (kept_fst_eq e202 (kept_openDesc _ _ _ _ h0))))
          clear_value v205
          exact (kept_ite h208 (kept_pumpTransfer _ _ _ _ _ _ (fun t229 x230 h231 => (kept_setTransfer _ _ _ _ h231)) h208))))

theorem kept_execDmaTransfer {s0 : State} (a0 : Nat) (a1 : Nat) (a2 : Sys2Proof.W128) (s : State)  (h0 : Kept s0 s) : KeptOut s0 (execDmaTransfer a0 a1 a2 s) := by
  unfold execDmaTransfer
  exact (kept_dmaIssue _ _ _ _ _ _ (fun t167 h168 => (kept_transferRun _ _ _ _ h168)) h0)

theorem kept_execTransferComplete {s0 : State} (a0 : Nat) (a1 : Nat) (s : State)  (h0 : Kept s0 s) : KeptOut s0 (execTransferComplete a0 a1 s) := by
  unfold execTransferComplete
  exact (kept_out (by
      split
      · rename_i x184 x185 x186 x187 e188 e189
        exact (kept_ite h0 (by
          extract_lets v192
          exact (kept_ite (kept_semSignal _ _ _ _ _ (kept_setDmaActive _ _ _ _ (kept_setCtx _ _ _ _ h0))) (kept_ite h0 (kept_pumpTransfer _ _ _ _ _ _ (fun t222 x223 h224 => (kept_semSignal _ _ _ _ _ (kept_setDmaActive _ _ _ _ (kept_setCtx _ _ _ _ h224)))) h0)))))
      · rename_i x226 x227 e228
        exact h0))

theorem kept_rearmDiscard {s0 : State} (s : State) (a1 : Nat)  (h0 : Kept s0 s) : Kept s0 (rearmDiscard s a1) := by
  unfold rearmDiscard
  exact (kept_count64 _ _ _ h0)

theorem kept_persistRun {s0 : State} (a0 : Nat) (a1 : Nat) (a2 : Sys2Proof.W128) (s : State)  (h0 : Kept s0 s) : Kept s0 (persistRun a0 a1 a2 s) := by
  unfold persistRun
  exact (kept_ite (kept_dmaFault _ _ _ _ _ h0) (by
      split
      · rename_i x178 t179 e180
        exact (kept_fst_eq e180 (kept_openDesc _ _ _ _ h0))
      · rename_i x193 t194 x196 x197 e199
        exact (by
          extract_lets v204 v206
          have h207 : Kept s0 v204 := (kept_setPstream _ _ _ _ (kept_fst_eq e199 (kept_openDesc _ _ _ _ h0)))
          clear_value v204
          have h225 : Kept s0 v206 := (kept_wrBits _ _ _ _ _ h207)
          clear_value v206
          exact (kept_wr64 _ _ _ h225))))

theorem kept_execPersist {s0 : State} (a0 : Nat) (a1 : Nat) (a2 : Sys2Proof.W128) (s : State)  (h0 : Kept s0 s) : KeptOut s0 (execPersist a0 a1 a2 s) := by
  unfold execPersist
  exact (kept_dmaIssue _ _ _ _ _ _ (fun t190 h191 => (kept_persistRun _ _ _ _ h191)) h0)

theorem kept_rearmSlot {s0 : State} (s : State) (a1 : Nat) (a2 : Nat) (a3 : Nat) (a4 : Nat)  (h0 : Kept s0 s) : Kept s0 (rearmSlot s a1 a2 a3 a4) := by
  unfold rearmSlot
  exact (by
      split
      · rename_i x209 e210
        exact (kept_rearmDiscard _ _ h0)
      · rename_i x212 x214 e216
        exact (by
          extract_lets v217
          have h218 : Kept s0 v217 := (kept_ite (kept_wrBits _ _ _ _ _ h0) h0)
          clear_value v217
          exact (kept_wrBits _ _ _ _ _ (kept_setPstream _ _ _ _ h218))))

theorem kept_rearmRun {s0 : State} (a0 : Nat) (a1 : Nat) (a2 : Sys2Proof.W128) (s : State)  (h0 : Kept s0 s) : Kept s0 (rearmRun a0 a1 a2 s) := by
  unfold rearmRun
  exact (by
      split
      · rename_i x211 x213 e215
        exact (kept_dmaFault _ _ _ _ _ h0)
      · rename_i x219 x220 e221
        exact (kept_rearmSlot _ _ _ _ _ h0))

theorem kept_execRearm {s0 : State} (a0 : Nat) (a1 : Nat) (a2 : Sys2Proof.W128) (s : State)  (h0 : Kept s0 s) : KeptOut s0 (execRearm a0 a1 a2 s) := by
  unfold execRearm
  exact (kept_dmaIssue _ _ _ _ _ _ (fun t232 h233 => (kept_rearmRun _ _ _ _ h233)) h0)

theorem kept_execDmaRearm {s0 : State} (a0 : Nat) (a1 : Sys2Proof.W32) (s : State)  (h0 : Kept s0 s) : KeptOut s0 (execDmaRearm a0 a1 s) := by
  unfold execDmaRearm
  exact (kept_out (kept_ite h0 (by
      split
      · rename_i x245 x246 e247
        exact (kept_rearmDiscard _ _ h0)
      · rename_i x248 x249 e250
        exact (kept_rearmSlot _ _ _ _ _ h0))))

theorem kept_stopRun {s0 : State} (a0 : Nat) (a1 : Sys2Proof.W128) (s : State)  (h0 : Kept s0 s) : Kept s0 (stopRun a0 a1 s) := by
  unfold stopRun
  exact (by
      split
      · rename_i x251 e252
        exact (kept_rearmDiscard _ _ h0)
      · rename_i x253 x254 e255
        exact (kept_setPstream _ _ _ _ h0))

theorem kept_execStop {s0 : State} (a0 : Nat) (a1 : Nat) (a2 : Sys2Proof.W128) (s : State)  (h0 : Kept s0 s) : KeptOut s0 (execStop a0 a1 a2 s) := by
  unfold execStop
  exact (kept_dmaIssue _ _ _ _ _ _ (fun t237 h238 => (kept_stopRun _ _ _ h238)) h0)

theorem kept_endPstream {s0 : State} (s : State) (a1 : Nat) (a2 : Nat)  (h0 : Kept s0 s) : Kept s0 (endPstream s a1 a2) := by
  unfold endPstream
  exact (by
      extract_lets v234 v235
      have h236 : Kept s0 v235 := (kept_setCore _ _ _ h0)
      clear_value v235
      exact (kept_wrBits _ _ _ _ _ (kept_wrBits _ _ _ _ _ h236)))

theorem kept_passEnd {s0 : State} (s : State) (a1 : Nat) (a2 : Nat) (a3 : PStream)  (h0 : Kept s0 s) : Kept s0 (passEnd s a1 a2 a3) := by
  unfold passEnd
  exact (by
      extract_lets v239 v240 v241 v242
      have h243 : Kept s0 v239 := (kept_wrBits _ _ _ _ _ h0)
      clear_value v239
      have h244 : Kept s0 v242 := (kept_ite (kept_endPstream _ _ _ h243) (kept_wrBits _ _ _ _ _ (kept_setPstream _ _ _ _ h243)))
      clear_value v242
      exact (kept_semSignal _ _ _ _ _ h244))

theorem kept_execPassBoundary {s0 : State} (a0 : Nat) (a1 : Nat) (s : State)  (h0 : Kept s0 s) : KeptOut s0 (execPassBoundary a0 a1 s) := by
  unfold execPassBoundary
  exact (kept_out (by
      split
      · rename_i x256 e257
        exact h0
      · rename_i x258 x259 e260
        exact (kept_ite h0 (by
          split
          · rename_i x278 e279
            exact h0
          · rename_i x280 x281 e282
            exact (by
              extract_lets v283
              exact (kept_ite (kept_ite h0 (kept_passEnd _ _ _ _ h0)) (kept_ite h0 (kept_afterMove _ _ _ _ _ _ _ (fun t300 x302 h304 => (kept_setPstream _ _ _ _ h304)) (fun t306 x307 h308 => (kept_passEnd _ _ _ _ h308)) (kept_move _ _ _ _ _ h0)))))))))

theorem kept_creditSlot {s0 : State} (s : State) (a1 : Nat) (a2 : Nat) (a3 : Nat) (a4 : Nat) (a5 : Nat) (a6 : Nat) (a7 : Mover) (a8 : Task) (a9 : State → Mover → State) (f9 : ∀ t m, Kept s0 t → Kept s0 (a9 t m)) (h0 : Kept s0 s) : Kept s0 (creditSlot s a1 a2 a3 a4 a5 a6 a7 a8 a9) := by
  unfold creditSlot
  exact (kept_ite h0 (by
      split
      · rename_i x261 e262
        exact h0
      · rename_i x263 x264 e265
        exact (kept_afterMove _ _ _ _ _ _ _ (fun t266 x267 h268 => (f9 _ _ h268)) (fun t269 x270 h271 => (kept_semSignal _ _ _ _ _ (f9 _ _ h271))) (keptOpt_get (f := Moved.s) e265 (kept_creditStep _ _ _ _ _ _ h0)))))

theorem kept_execCreditSlotDone {s0 : State} (a0 : Nat) (a1 : Nat) (s : State)  (h0 : Kept s0 s) : KeptOut s0 (execCreditSlotDone a0 a1 s) := by
  unfold execCreditSlotDone
  exact (kept_out (kept_ite h0 (kept_ite (by
      split
      · rename_i x272 x273 x274 x275 e276 e277
        exact (kept_creditSlot _ _ _ _ _ _ _ _ _ _ (fun t284 x285 h286 => (kept_setTransfer _ _ _ _ h286)) h0)
      · rename_i x287 x288 e289
        exact h0) (by
      split
      · rename_i x290 e291
        exact h0
      · rename_i x292 x293 e294
        exact (kept_ite h0 (by
          split
          · rename_i x295 e296
            exact h0
          · rename_i x297 x298 e299
            exact (kept_creditSlot _ _ _ _ _ _ _ _ _ _ (fun t301 x303 h305 => (kept_setPstream _ _ _ _ h305)) h0)))))))

/-! ### Machine/ControlSpace.lean -/

theorem kept_after {s0 : State} (o : Out) (s : State) (ho : KeptOut s0 o) (h0 : Kept s0 s) : Kept s0 (after o s) := by
  cases o with
  | next t => exact ho t rfl
  | fault f => exact h0
  | refused f => exact h0

theorem kept_clearRC {s0 : State} (s : State) (a1 : Nat)  (h0 : Kept s0 s) : Kept s0 (clearRC s a1) := by
  unfold clearRC
  exact (by
      split
      · rename_i x0 e1
        exact h0
      · rename_i x2 x3 x4 e5
        exact (kept_ite h0 (by
          extract_lets v12
          exact (kept_ite h0 (kept_wr32 _ _ _ h0)))))

theorem kept_readPlain {s0 : State} (s : State) (a1 : Nat)  (h0 : Kept s0 s) : Kept s0 (readPlain s a1).2 := by
  unfold readPlain
  exact (by
      split
      · rename_i x6 x7 x8 e9
        exact (kept_claim _ _ _ h0)
      · rename_i x10 e11
        exact (by
          extract_lets v13
          exact (by
            split
            · rename_i x18 x19 x20 e21
              exact (kept_pr_ite (f := Prod.snd) (kept_snd (kept_clearRC _ _ (kept_clearRC _ _ h0))) (kept_snd (kept_clearRC _ _ h0)))
            · rename_i x29 e30
              exact h0)))

theorem kept_setLatch {s0 : State} (s : State) (a1 : Nat) (a2 : Nat) (a3 : Nat × Nat × Nat)  (h0 : Kept s0 s) : Kept s0 (setLatch s a1 a2 a3) := by
  unfold setLatch
  exact (kept_rawLatch _ h0)

theorem kept_read32 {s0 : State} (s : State) (a1 : Nat) (a2 : Nat)  (h0 : Kept s0 s) : Kept s0 (read32 s a1 a2).2 := by
  unfold read32
  exact (by
      extract_lets v14 v15 v16
      have h17 : Kept s0 v15 := (kept_setLatch _ _ _ _ h0)
      clear_value v15
      exact (by
        split
        · rename_i x25 x26 x27 e28
          exact (kept_pr_ite (f := Prod.snd) h17 (by
            split
            · rename_i x41 x42 t43 e44
              exact (kept_pr_ite (f := Prod.snd) (kept_snd (kept_setLatch _ _ _ _ (kept_snd_eq e44 (kept_readPlain _ _ h17)))) (kept_snd (kept_snd_eq e44 (kept_readPlain _ _ h17))))))
        · rename_i x57 e58
          exact (kept_readPlain _ _ h17)))

theorem kept_read64 {s0 : State} (s : State) (a1 : Nat) (a2 : Nat)  (h0 : Kept s0 s) : Kept s0 (read64 s a1 a2).2 := by
  unfold read64
  exact (by
      extract_lets v22 v23
      have h24 : Kept s0 v22 := (kept_setLatch _ _ _ _ h0)
      clear_value v22
      exact (kept_pr_ite (f := Prod.snd) (kept_snd (kept_clearRC _ _ (kept_clearRC _ _ h24))) (by
        split
        · rename_i x33 x34 t35 e36
          exact (by
            split
            · rename_i x37 x38 t39 e40
              exact (kept_snd (kept_snd_eq e40 (kept_readPlain _ _ (kept_snd_eq e36 (kept_readPlain _ _ h24)))))))))

theorem kept_execLowHalfRead {s0 : State} (a0 : Nat) (a1 : Nat) (s : State)  (h0 : Kept s0 s) : KeptOut s0 (execLowHalfRead a0 a1 s) := by
  unfold execLowHalfRead
  exact (kept_out (kept_ite (kept_read32 _ _ _ h0) h0))

theorem kept_writeCodes {s0 : State} (s : State) (a1 : Nat) (a2 : Nat)  (h0 : Kept s0 s) : Kept s0 (writeCodes s a1 a2) := by
  unfold writeCodes
  exact (by
      extract_lets v31 v32
      exact (kept_ite (kept_ite (kept_wr32 _ _ _ h0) h0) (by
        split
        · rename_i x45 e46
          exact h0
        · rename_i x47 x48 x49 e50
          exact (by
            extract_lets v51 v52 v53
            exact (kept_wr32 _ _ _ h0)))))

theorem kept_writeMgt {s0 : State} (s : State) (a1 : Nat) (a2 : Nat)  (h0 : Kept s0 s) : Kept s0 (writeMgt s a1 a2) := by
  unfold writeMgt
  exact (kept_ite (kept_ldCommand _ _ h0) (kept_ite (kept_fwCommand _ _ h0) (kept_ite (kept_ite (kept_after _ _ (kept_execMgtRestart _ h0) h0) h0) (kept_ite (by
      extract_lets v54
      have h56 : Kept s0 v54 := (kept_writeCodes _ _ _ h0)
      clear_value v54
      exact (kept_ite (kept_kick _ _ h56) h56)) (kept_writeCodes _ _ _ h0)))))

theorem kept_writeEvc {s0 : State} (s : State) (a1 : Nat) (a2 : Nat)  (h0 : Kept s0 s) : Kept s0 (writeEvc s a1 a2) := by
  unfold writeEvc
  exact (by
      extract_lets v55
      exact (kept_ite (kept_pendSet _ _ _ h0) (kept_ite (kept_pendClr _ _ _ h0) (kept_ite (kept_maskSet _ _ _ h0) (kept_ite (kept_maskClr _ _ _ h0) (kept_ite (kept_complete _ _ _ h0) (kept_ite (kept_budWrite _ _ _ h0) (kept_ite (kept_swSet _ _ h0) (kept_ite (kept_cfgWrite _ _ _ h0) (kept_writeCodes _ _ _ h0))))))))))

theorem kept_writeSht {s0 : State} (s : State) (a1 : Nat) (a2 : Nat) (a3 : Nat)  (h0 : Kept s0 s) : Kept s0 (writeSht s a1 a2 a3) := by
  unfold writeSht
  exact (kept_ite (kept_writeCodes _ _ _ h0) (by
      split
      · rename_i x72 e73
        exact (kept_fire _ _ h0)
      · rename_i x74 e75
        exact (kept_releaseSheet _ h0)
      · rename_i x76 e77
        exact (kept_unfreeze _ h0)
      · rename_i x78 e79
        exact (kept_armAt _ h0)
      · rename_i x82 e83
        exact (kept_disarm _ h0)
      · rename_i x84 e85 e86 e87 e88 e89
        exact h0))

theorem kept_entryCommand {s0 : State} (s : State) (a1 : Nat)  (h0 : Kept s0 s) : Kept s0 (entryCommand s a1) := by
  unfold entryCommand
  exact (by
      extract_lets v59
      exact (by
        split
        · rename_i x70 e71
          exact (kept_after _ _ (kept_execEntryRead _ _ h0) h0)
        · rename_i x80 e81
          exact (kept_ite (kept_after _ _ (kept_execEntryCreate _ _ h0) h0) (kept_after _ _ (kept_execEntryWrite _ _ h0) h0))
        · rename_i x90 e91
          exact (kept_after _ _ (kept_execEntryInvalidate _ _ h0) h0)
        · rename_i x92 e93 e94 e95
          exact h0))

theorem kept_writeRing {s0 : State} (s : State) (a1 : Nat) (a2 : Nat) (a3 : Nat) (a4 : Nat)  (h0 : Kept s0 s) : Kept s0 (writeRing s a1 a2 a3 a4) := by
  unfold writeRing
  exact (by
      extract_lets v60 v61 v62
      have h63 : Kept s0 v62 := (kept_writeCodes _ _ _ h0)
      clear_value v62
      exact (kept_ite (kept_ite h0 (kept_writeCodes _ _ _ h0)) (kept_ite (kept_ite (kept_enableRing _ _ _ h0) (kept_wrBits _ _ _ _ _ h0)) (kept_ite (kept_enableRing _ _ _ h63) h63))))

theorem kept_writeStr {s0 : State} (s : State) (a1 : Nat) (a2 : Nat) (a3 : Nat)  (h0 : Kept s0 s) : Kept s0 (writeStr s a1 a2 a3) := by
  unfold writeStr
  exact (kept_ite (kept_entryCommand _ _ h0) (kept_ite (kept_ite (kept_doorbell _ _ _ h0) h0) (kept_ite (kept_writeRing _ _ _ _ _ h0) (kept_writeCodes _ _ _ h0))))

theorem kept_writeEth {s0 : State} (s : State) (a1 : Nat) (a2 : Nat) (a3 : Nat)  (h0 : Kept s0 s) : Kept s0 (writeEth s a1 a2 a3) := by
  unfold writeEth
  exact (by
      extract_lets v64 v65 v66 v67 v68
      have h69 : Kept s0 v66 := (kept_wrBits _ _ _ _ _ h0)
      clear_value v66
      exact (kept_ite (kept_ite (kept_gclChange _ _ h69) h69) (kept_ite (kept_wrBits _ _ _ _ _ h0) (kept_ite h0 (kept_ite (by
        split
        · rename_i x98 e99
          exact (kept_after _ _ (kept_execEthTableRead _ _ _ _ h0) h0)
        · rename_i x100 e101
          exact (kept_after _ _ (kept_execEthTableWrite _ _ _ _ h0) h0)
        · rename_i x102 e103 e104
          exact h0) (kept_writeCodes _ _ _ h0))))))

theorem kept_writeFab {s0 : State} (s : State) (a1 : Nat) (a2 : Nat)  (h0 : Kept s0 s) : Kept s0 (writeFab s a1 a2) := by
  unfold writeFab
  exact (kept_ite (kept_ite (kept_declareCommand _ _ h0) h0) (kept_ite (kept_after _ _ (kept_execPeek _ _ _ h0) h0) (kept_writeCodes _ _ _ h0)))

theorem kept_write32 {s0 : State} (s : State) (a1 : Nat) (a2 : Nat) (a3 : Nat)  (h0 : Kept s0 s) : Kept s0 (write32 s a1 a2 a3) := by
  unfold write32
  exact (by
      extract_lets v96 v97
      exact (by
        split
        · rename_i x107 e108
          exact (kept_writeMgt _ _ _ h0)
        · rename_i x109 e110
          exact (kept_writeEvc _ _ _ h0)
        · rename_i x111 e112
          exact (kept_ite (kept_ite (kept_drkCommand _ _ h0) h0) (kept_writeCodes _ _ _ h0))
        · rename_i x113 e114
          exact (kept_ite (kept_writeClass _ _ _ h0) (kept_writeCodes _ _ _ h0))
        · rename_i x115 e116
          exact (kept_writeSht _ _ _ _ h0)
        · rename_i x117 e118
          exact (kept_ite (kept_ite (kept_startFlush _ h0) h0) (kept_writeCodes _ _ _ h0))
        · rename_i x119 e120
          exact (kept_ite (kept_clkPwr _ _ h0) (kept_ite h0 (kept_writeCodes _ _ _ h0)))
        · rename_i x121 e122
          exact (kept_writeStr _ _ _ _ h0)
        · rename_i x123 e124
          exact (kept_writeEth _ _ _ _ h0)
        · rename_i x125 e126
          exact (kept_writeFab _ _ _ h0)
        · rename_i x127 e128 e129 e130 e131 e132 e133 e134 e135 e136 e137
          exact (kept_ite h0 (kept_ite (kept_after _ _ (kept_execDmaRearm _ _ _ h0) h0) (kept_writeCodes _ _ _ h0)))))

theorem kept_write64 {s0 : State} (s : State) (a1 : Nat) (a2 : Nat) (a3 : Nat)  (h0 : Kept s0 s) : Kept s0 (write64 s a1 a2 a3) := by
  unfold write64
  exact (kept_ite (kept_ite (kept_after _ _ (kept_execRetire _ _ h0) h0) h0) (kept_write32 _ _ _ _ (kept_write32 _ _ _ _ h0)))

theorem kept_writeReg {s0 : State} (s : State) (a1 : Nat) (a2 : Nat) (a3 : Nat) (a4 : Nat) (a5 : Nat)  (h0 : Kept s0 s) : Kept s0 (writeReg s a1 a2 a3 a4 a5) := by
  unfold writeReg
  exact (by
      extract_lets v105
      have h106 : Kept s0 v105 := (kept_setLatch _ _ _ _ h0)
      clear_value v105
      exact (kept_ite (kept_write64 _ _ _ _ h106) (kept_write32 _ _ _ _ h106)))

theorem kept_execRegisterWrite {s0 : State} (a0 : Nat) (a1 : Sys2Proof.W64) (a2 : Nat) (s : State)  (h0 : Kept s0 s) : KeptOut s0 (execRegisterWrite a0 a1 a2 s) := by
  unfold execRegisterWrite
  exact (kept_out (kept_ite (kept_writeReg _ _ _ _ _ _ h0) h0))

/-! ### Machine/Tick.lean -/

theorem kept_tick {s0 : State} (s : State)  (h0 : Kept s0 s) : Kept s0 (tick s) := by
  unfold tick
  exact (kept_ite (kept_setPow _ h0) h0)

/-! ### Machine/Entropy.lean -/

theorem kept_entFault {s0 : State} (s : State) (a1 : Nat) (a2 : Nat) (a3 : EntAbort)  (h0 : Kept s0 s) : Kept s0 (entFault s a1 a2 a3) := by
  unfold entFault
  exact (by
      extract_lets v0 v1
      have h2 : Kept s0 v0 := (kept_wr32 _ _ _ h0)
      clear_value v0
      have h4 : Kept s0 v1 := (kept_arrive _ _ _ (kept_raise _ _ _ h2))
      clear_value v1
      exact (kept_unitAbort _ _ _ _ h4))

theorem kept_putEpoch {s0 : State} (s : State) (a1 : Nat) (a2 : Nat) (a3 : Nat)  (h0 : Kept s0 s) : KeptE (fun x => x) s0 (putEpoch s a1 a2 a3) := by
  unfold putEpoch
  exact (by
      extract_lets v3
      exact (keptE_ite (keptE_bind (fun t5 x6 => (kept_storeWrite _ _ _ _ (keptE_get (f := fun x => x) x6 (kept_storeWrite _ _ _ _ h0))))) (keptE_bind (fun t13 x14 => (kept_storeWrite _ _ _ _ (keptE_get (f := fun x => x) x14 (keptE_ok h0)))))))

theorem kept_fixEpoch {s0 : State} (s : State) (a1 : Nat) (a2 : Nat) (a3 : Task)  (h0 : Kept s0 s) : KeptE (fun x => x) s0 (fixEpoch s a1 a2 a3) := by
  unfold fixEpoch
  exact (keptE_ite (keptE_ok h0) (keptE_bind (fun x7 x8 => (by
      extract_lets v9 v10 v11 v12
      exact (keptE_ite (keptE_pure h0) (keptE_bind (fun t15 x16 => (keptE_pure (kept_updTask _ _ _ _ (keptE_get (f := fun x => x) x16 (kept_putEpoch _ _ _ _ h0)))))))))))

theorem kept_jobBank {s0 : State} (s : State) (a1 : Nat) (a2 : Nat)  (h0 : Kept s0 s) : KeptE Prod.fst s0 (jobBank s a1 a2) := by
  unfold jobBank
  exact (by
      split
      · rename_i x17 e18
        exact (keptE_error)
      · rename_i x19 x20 e21
        exact (by
          split
          · rename_i x24 e25
            exact (keptE_error)
          · rename_i x26 x27 e28
            exact (keptE_ite (keptE_ok h0) (keptE_ok (kept_fst (kept_updTask _ _ _ _ (kept_wrBits _ _ _ _ _ h0)))))))

theorem kept_bankFault {s0 : State} (s : State) (a1 : Nat) (a2 : Nat) (a3 : EntAbort)  (h0 : Kept s0 s) : Kept s0 (bankFault s a1 a2 a3) := by
  unfold bankFault
  exact (kept_ite (kept_emptyBank _ _ _ h0) h0)

theorem kept_entSteps {s0 : State} (s : State) (a1 : Nat) (a2 : Nat) (a3 : Nat) (a4 : Nat)  (h0 : Kept s0 s) : Kept s0 (entSteps s a1 a2 a3 a4) := by
  unfold entSteps
  exact (kept_count64 _ _ _ (kept_count64 _ _ _ (kept_charge _ _ _ _ h0)))

theorem kept_entDone {s0 : State} (s : State) (a1 : Nat) (a2 : Nat) (a3 : Sys2Proof.W128)  (h0 : Kept s0 s) : Kept s0 (entDone s a1 a2 a3) := by
  unfold entDone
  exact (by
      extract_lets v22
      have h23 : Kept s0 v22 := (kept_count64 _ _ _ h0)
      clear_value v22
      exact (kept_advElems _ _ _ _ (kept_advElems _ _ _ _ h23)))

theorem kept_setEntStatus {s0 : State} (s : State) (a1 : Nat) (a2 : Nat) (a3 : Sys2Proof.W128) (a4 : Bool)  (h0 : Kept s0 s) : Kept s0 (setEntStatus s a1 a2 a3 a4) := by
  unfold setEntStatus
  exact (kept_wr32 _ _ _ h0)

theorem kept_writeLanes {s0 : State} (s : State) (a1 : Nat) (a2 : Nat) (a3 : List (List Nat))  (h0 : Kept s0 s) : KeptE (fun x => x) s0 (writeLanes s a1 a2 a3) := by
  unfold writeLanes
  exact (keptE_foldlM (fun t29 x30 h31 => (by
      split
      · rename_i x36 x37 x38
        exact (keptE_bind (fun t39 x40 => (kept_storeWrite _ _ _ _ (keptE_get (f := fun x => x) x40 (kept_storeWrite _ _ _ _ h31))))))) h0)

theorem kept_encodeEnd {s0 : State} (s : State) (a1 : Nat) (a2 : Sys2Proof.W128) (a3 : List (List Nat))  (h0 : Kept s0 s) : KeptE (fun x => x) s0 (encodeEnd s a1 a2 a3) := by
  unfold encodeEnd
  exact (keptE_bind (fun x32 x33 => (keptE_bind (fun t34 x35 => (keptE_pure (kept_entDone _ _ _ _ (keptE_get (f := fun x => x) x35 (keptE_mapError (kept_writeLanes _ _ _ _ h0)))))))))

theorem kept_encodeOpen {s0 : State} (s : State) (a1 : Nat) (a2 : Nat)  (h0 : Kept s0 s) : KeptE Prod.fst s0 (encodeOpen s a1 a2) := by
  unfold encodeOpen
  exact (by
      extract_lets v41
      exact (by
        split
        · rename_i x46 x47 e48
          exact (keptE_bind (fun t49 x50 => (keptE_bind (fun x51 x52 => (by
            split
            · rename_i x55 t56 x57
              exact (keptE_bind (fun x58 x59 => (keptE_pure (kept_fst (keptE_get (f := Prod.fst) x52 (kept_jobBank _ _ _ (keptE_get (f := fun x => x) x50 (keptE_mapError (kept_fixEpoch _ _ _ _ h0))))))))))))))
        · rename_i x94 e95
          exact (keptE_bind (fun t99 x100 => (keptE_bind (fun x103 x104 => (by
            split
            · rename_i x105 t106 x107
              exact (keptE_bind (fun x108 x109 => (keptE_pure (kept_fst (keptE_get (f := Prod.fst) x104 (kept_jobBank _ _ _ (keptE_get (f := fun x => x) x100 (keptE_ok h0)))))))))))))))

theorem kept_entIssue {s0 : State} (a0 : Nat) (a1 : Nat) (a2 : Sys2Proof.W128) (a3 : Nat) (a4 : State → State) (s : State) (f4 : ∀ t, Kept s0 t → Kept s0 (a4 t)) (h0 : Kept s0 s) : KeptOut s0 (entIssue a0 a1 a2 a3 a4 s) := by
  unfold entIssue
  exact (kept_out (kept_ite h0 (kept_issue _ _ _ _ _ _ _ _ _ _ (fun t43 h44 => (f4 _ h44)) h0)))

theorem kept_encodeStart {s0 : State} (a0 : Nat) (a1 : Nat) (a2 : Sys2Proof.W128) (s : State)  (h0 : Kept s0 s) : Kept s0 (encodeStart a0 a1 a2 s) := by
  unfold encodeStart
  exact (by
      extract_lets v42
      have h45 : Kept s0 v42 := (kept_setEntStatus _ _ _ _ _ h0)
      clear_value v42
      exact (by
        split
        · rename_i x60 x61 e62
          exact (kept_entFault _ _ _ _ h45)
        · rename_i x66 t67 x68 x69 e70
          exact (by
            split
            · rename_i x79 x80 x81 e82
              exact (by
                extract_lets v86 v87 v88
                have h92 : Kept s0 v86 := (kept_entSteps _ _ _ _ _ (keptE_get (f := Prod.fst) e70 (kept_encodeOpen _ _ _ h45)))
                clear_value v86
                exact (by
                  split
                  · rename_i x169 x170
                    exact (kept_entFault _ _ _ _ (kept_bankFault _ _ _ _ h92))
                  · rename_i x173
                    exact (kept_ite (kept_setEntStatus _ _ _ _ _ (kept_setCore _ _ _ h92)) (kept_ite (kept_entDone _ _ _ _ h92) (by
                      split
                      · rename_i x203 x204 e205
                        exact (kept_entFault _ _ _ _ h92)
                      · rename_i x210 t211 e212
                        exact (keptE_get (f := fun x => x) e212 (kept_encodeEnd _ _ _ _ h92))))))))))

theorem kept_execEntEncode {s0 : State} (a0 : Nat) (a1 : Nat) (a2 : Sys2Proof.W128) (s : State)  (h0 : Kept s0 s) : KeptOut s0 (execEntEncode a0 a1 a2 s) := by
  unfold execEntEncode
  exact (kept_entIssue _ _ _ _ _ _ (fun t53 h54 => (kept_encodeStart _ _ _ _ h54)) h0)

theorem kept_execEncodeJobEnd {s0 : State} (a0 : Nat) (s : State)  (h0 : Kept s0 s) : KeptOut s0 (execEncodeJobEnd a0 s) := by
  unfold execEncodeJobEnd
  exact (kept_out (by
      split
      · rename_i x74 e75
        exact h0
      · rename_i x76 x77 e78
        exact (kept_ite h0 (by
          extract_lets v83 v84 v85
          have h90 : Kept s0 v84 := (kept_setEntStatus _ _ _ _ _ (kept_setCore _ _ _ h0))
          clear_value v84
          exact (by
            split
            · rename_i x110 x111 e112
              exact (kept_entFault _ _ _ _ h90)
            · rename_i x113 t114 e115
              exact (by
                extract_lets v118 v119
                have h120 : Kept s0 v118 := (kept_wr64 _ _ _ (keptE_get (f := fun x => x) e115 (keptE_ite (keptE_ok (kept_entDone _ _ _ _ h90)) (kept_encodeEnd _ _ _ _ h90))))
                clear_value v118
                exact (kept_ite (kept_count64 _ _ _ h120) (kept_setCore _ _ _ h120))))))))

theorem kept_writeValues {s0 : State} (s : State) (a1 : Nat) (a2 : Nat) (a3 : Sys2Proof.W128) (a4 : List Int)  (h0 : Kept s0 s) : KeptE (fun x => x) s0 (writeValues s a1 a2 a3 a4) := by
  unfold writeValues
  exact (keptE_foldlM (fun t63 x64 h65 => (by
      split
      · rename_i x71 x72 x73
        exact (keptE_mapError (kept_writeElem _ _ _ _ _ _ h65)))) h0)

theorem kept_decodeEnd {s0 : State} (s : State) (a1 : Nat) (a2 : Nat) (a3 : Sys2Proof.W128) (a4 : List (List Int))  (h0 : Kept s0 s) : KeptE (fun x => x) s0 (decodeEnd s a1 a2 a3 a4) := by
  unfold decodeEnd
  exact (keptE_bind (fun x89 x91 => (by
      extract_lets v93
      exact (by
        split
        · rename_i x96 x97 e98
          exact (keptE_error)
        · rename_i x101 e102
          exact (keptE_bind (fun t116 x117 => (keptE_pure (kept_entDone _ _ _ _ (keptE_get (f := fun x => x) x117 (kept_writeValues _ _ _ _ _ h0))))))))))

theorem kept_decodeRun {s0 : State} (s : State) (a1 : Nat) (a2 : Nat) (a3 : Nat) (a4 : Sys2Proof.W128)  (h0 : Kept s0 s) : Kept s0 (decodeRun s a1 a2 a3 a4).1 := by
  unfold decodeRun
  exact (by
      split
      · rename_i x135 x136 x137 x138 e139 e140
        exact (by
          extract_lets v141 v142
          have h145 : Kept s0 v142 := (kept_count64 _ _ _ (kept_entSteps _ _ _ _ _ h0))
          clear_value v142
          exact (by
            split
            · rename_i x163 x164 e165
              exact h145
            · rename_i x171 e172
              exact (by
                split
                · rename_i x174 x175 e176
                  exact h145
                · rename_i x177 t178 e179
                  exact (kept_fst (keptE_get (f := fun x => x) e179 (kept_decodeEnd _ _ _ _ _ h145))))))
      · rename_i x193 x194 x195 e196
        exact h0
      · rename_i x197 x198 x199 e200 e201
        exact h0)

theorem kept_heldRun {s0 : State} (s : State) (a1 : Nat) (a2 : Sys2Proof.W128)  (h0 : Kept s0 s) : KeptE (fun x => x) s0 (heldRun s a1 a2) := by
  unfold heldRun
  exact (keptE_bind (fun x121 x122 => (keptE_bind (fun x123 x124 => (keptE_bind (fun t125 x126 => (keptE_pure (kept_advElems _ _ _ _ (kept_advElems _ _ _ _ (keptE_get (f := fun x => x) x126 (kept_writeValues _ _ _ _ _ h0)))))))))))

theorem kept_countJob {s0 : State} (s : State) (a1 : Nat) (a2 : Nat) (a3 : Task)  (h0 : Kept s0 s) : Kept s0 (countJob s a1 a2 a3).1 := by
  unfold countJob
  exact (by
      split
      · rename_i x127 x128 x129 e130
        exact (by
          split
          · rename_i x143 e144
            exact h0
          · rename_i x146 x147 e148
            exact (kept_fst (kept_updTask _ _ _ _ h0))))

theorem kept_decodeStart {s0 : State} (a0 : Nat) (a1 : Nat) (a2 : Sys2Proof.W128) (s : State)  (h0 : Kept s0 s) : Kept s0 (decodeStart a0 a1 a2 s) := by
  unfold decodeStart
  exact (by
      split
      · rename_i x131 t132 x133 e134
        exact (kept_ite (kept_fst_eq e134 (kept_readInput _ _ _ h0)) (by
          split
          · rename_i x151 e152
            exact (kept_fst_eq e134 (kept_readInput _ _ _ h0))
          · rename_i x153 x154 e155
            exact (by
              split
              · rename_i x156 t157 x158 e159
                exact (kept_ite (kept_fst_eq e159 (kept_countJob _ _ _ _ (kept_setEntStatus _ _ _ _ _ (kept_fst_eq e134 (kept_readInput _ _ _ h0))))) (by
                  split
                  · rename_i x183 x184 e185
                    exact (kept_entFault _ _ _ _ (kept_fst_eq e159 (kept_countJob _ _ _ _ (kept_setEntStatus _ _ _ _ _ (kept_fst_eq e134 (kept_readInput _ _ _ h0))))))
                  · rename_i x206 t207 x208 e209
                    exact (kept_ite (by
                      split
                      · rename_i x213 x214 e215
                        exact (kept_entFault _ _ _ _ (keptE_get (f := Prod.fst) e209 (kept_jobBank _ _ _ (kept_fst_eq e159 (kept_countJob _ _ _ _ (kept_setEntStatus _ _ _ _ _ (kept_fst_eq e134 (kept_readInput _ _ _ h0))))))))
                      · rename_i x224 t225 e226
                        exact (keptE_get (f := fun x => x) e226 (kept_heldRun _ _ _ (keptE_get (f := Prod.fst) e209 (kept_jobBank _ _ _ (kept_fst_eq e159 (kept_countJob _ _ _ _ (kept_setEntStatus _ _ _ _ _ (kept_fst_eq e134 (kept_readInput _ _ _ h0)))))))))) (by
                      split
                      · rename_i x234 t235 x236 e237
                        exact (kept_entFault _ _ _ _ (kept_bankFault _ _ _ _ (kept_fst_eq e237 (kept_decodeRun _ _ _ _ _ (keptE_get (f := Prod.fst) e209 (kept_jobBank _ _ _ (kept_fst_eq e159 (kept_countJob _ _ _ _ (kept_setEntStatus _ _ _ _ _ (kept_fst_eq e134 (kept_readInput _ _ _ h0)))))))))))
                      · rename_i x250 t251 e252
                        exact (kept_fst_eq e252 (kept_decodeRun _ _ _ _ _ (keptE_get (f := Prod.fst) e209 (kept_jobBank _ _ _ (kept_fst_eq e159 (kept_countJob _ _ _ _ (kept_setEntStatus _ _ _ _ _ (kept_fst_eq e134 (kept_readInput _ _ _ h0)))))))))))))))))

theorem kept_execEntDecode {s0 : State} (a0 : Nat) (a1 : Nat) (a2 : Sys2Proof.W128) (s : State)  (h0 : Kept s0 s) : KeptOut s0 (execEntDecode a0 a1 a2 s) := by
  unfold execEntDecode
  exact (kept_entIssue _ _ _ _ _ _ (fun t149 h150 => (kept_decodeStart _ _ _ _ h150)) h0)

theorem kept_loadStart {s0 : State} (a0 : Nat) (a1 : Nat) (a2 : Sys2Proof.W128) (s : State)  (h0 : Kept s0 s) : Kept s0 (loadStart a0 a1 a2 s) := by
  unfold loadStart
  exact (by
      split
      · rename_i x162 t166 x167 e168
        exact (kept_ite (kept_fst_eq e168 (kept_readInput _ _ _ h0)) (by
          split
          · rename_i x180 x181 e182
            exact (kept_markNewest _ _ _ (kept_fst_eq e168 (kept_readInput _ _ _ h0)))
          · rename_i x186 e187
            exact (by
              extract_lets v188 v189 v190 v191
              have h192 : Kept s0 v189 := (kept_wr32 _ _ _ (kept_fst_eq e168 (kept_readInput _ _ _ h0)))
              clear_value v189
              have h202 : Kept s0 v190 := (kept_wrBits _ _ _ _ _ (kept_markNewest _ _ _ h192))
              clear_value v190
              exact (kept_ite (kept_entFault _ _ _ _ (kept_count64 _ _ _ (kept_fst_eq e168 (kept_readInput _ _ _ h0)))) (kept_setEntStatus _ _ _ _ _ (kept_setCore _ _ _ h202)))))))

theorem kept_execTableLoad {s0 : State} (a0 : Nat) (a1 : Nat) (a2 : Sys2Proof.W128) (s : State)  (h0 : Kept s0 s) : KeptOut s0 (execTableLoad a0 a1 a2 s) := by
  unfold execTableLoad
  exact (kept_entIssue _ _ _ _ _ _ (fun t160 h161 => (kept_loadStart _ _ _ _ h161)) h0)

theorem kept_copyTables {s0 : State} (s : State) (a1 : Nat) (a2 : Nat) (a3 : Sys2Proof.W128) (a4 : SMap (Option (List Nat)))  (h0 : Kept s0 s) : KeptE Prod.fst s0 (copyTables s a1 a2 a3 a4) := by
  unfold copyTables
  exact (keptE_bind (fun x216 x217 => (keptE_bind (fun x218 x219 => (by
      extract_lets v220 v221
      exact (keptE_bind (fun x222 x223 => (keptE_pure (kept_fst (kept_setCore _ _ _ h0))))))))))

theorem kept_copyCodebook {s0 : State} (a0 : Nat) (a1 : Nat) (a2 : Nat) (a3 : List Sys2Proof.Byte) (a4 : Nat) (s : State) (a6 : Mover)  (h0 : Kept s0 s) : Kept s0 (copyCodebook a0 a1 a2 a3 a4 s a6).1 := by
  induction a4 generalizing a0 a1 a2 a3 s a6 with
  | zero =>
    unfold copyCodebook
    exact (kept_fst (kept_endWrites _ _ _ h0))
  | succ k ih =>
    unfold copyCodebook
    exact (kept_pr_ite (f := Prod.fst) (kept_fst (kept_endWrites _ _ _ h0)) (by
        extract_lets v253 v254 v255 v256
        exact (kept_pr_ite (f := Prod.fst) h0 (by
          split
          · rename_i x257 x258 e259
            exact h0
          · rename_i x260 t261 e262
            exact (by
              split
              · rename_i x263 t264 x265 e266
                exact (ih _ _ _ _ _ _ (kept_fst_eq e266 (kept_chargeWrite _ _ _ _ _ _ (keptE_get (f := fun x => x) e262 (kept_hbmWrite _ _ _ _ _ h0))))))))))

theorem kept_tableIdle {s0 : State} (s : State) (a1 : Nat) (a2 : EntJob)  (h0 : Kept s0 s) : Kept s0 (tableIdle s a1 a2) := by
  unfold tableIdle
  exact (kept_setEntStatus _ _ _ _ _ (kept_setCore _ _ _ h0))

theorem kept_tableFail {s0 : State} (s : State) (a1 : Nat) (a2 : Nat) (a3 : EntJob) (a4 : Abort) (a5 : Nat)  (h0 : Kept s0 s) : Kept s0 (tableFail s a1 a2 a3 a4 a5) := by
  unfold tableFail
  exact (kept_entFault _ _ _ _ (kept_emptyBank _ _ _ (kept_tableIdle _ _ _ h0)))

theorem kept_execTableLoadEnd {s0 : State} (a0 : Nat) (s : State)  (h0 : Kept s0 s) : KeptOut s0 (execTableLoadEnd a0 s) := by
  unfold execTableLoadEnd
  exact (kept_out (by
      split
      · rename_i x227 e228
        exact h0
      · rename_i x229 x230 e231
        exact (kept_ite h0 (by
          extract_lets v232 v233
          exact (by
            split
            · rename_i x238 x239 e240
              exact (kept_tableFail _ _ _ _ _ _ h0)
            · rename_i x241 t242 x243 e244
              exact (by
                split
                · rename_i x245 t246 x247 x248 e249
                  exact (kept_tableFail _ _ _ _ _ _ (kept_fst_eq e249 (kept_pr_ite (f := Prod.fst) (kept_fst (keptE_get (f := Prod.fst) e244 (kept_copyTables _ _ _ _ _ h0))) (kept_copyCodebook _ _ _ _ _ _ _ (keptE_get (f := Prod.fst) e244 (kept_copyTables _ _ _ _ _ h0))))))
                · rename_i x267 t268 x269 x270 e271
                  exact (kept_refused _ _ _ (kept_setCore _ _ _ (kept_fst_eq e271 (kept_pr_ite (f := Prod.fst) (kept_fst (keptE_get (f := Prod.fst) e244 (kept_copyTables _ _ _ _ _ h0))) (kept_copyCodebook _ _ _ _ _ _ _ (keptE_get (f := Prod.fst) e244 (kept_copyTables _ _ _ _ _ h0)))))))
                · rename_i x272 t273 x274 e275
                  exact (by
                    split
                    · rename_i x276 x277 e278
                      exact (kept_tableFail _ _ _ _ _ _ (kept_fst_eq e275 (kept_pr_ite (f := Prod.fst) (kept_fst (keptE_get (f := Prod.fst) e244 (kept_copyTables _ _ _ _ _ h0))) (kept_copyCodebook _ _ _ _ _ _ _ (keptE_get (f := Prod.fst) e244 (kept_copyTables _ _ _ _ _ h0))))))
                    · rename_i x279 e280
                      exact (kept_tableIdle _ _ _ (kept_wrBits _ _ _ _ _ (kept_wrBits _ _ _ _ _ (kept_fst_eq e275 (kept_pr_ite (f := Prod.fst) (kept_fst (keptE_get (f := Prod.fst) e244 (kept_copyTables _ _ _ _ _ h0))) (kept_copyCodebook _ _ _ _ _ _ _ (keptE_get (f := Prod.fst) e244 (kept_copyTables _ _ _ _ _ h0)))))))))))))))

/-! ### Machine/Hcp.lean -/

theorem kept_portCode {s0 : State} (s : State) (a1 : Nat) (a2 : Nat)  (h0 : Kept s0 s) : Kept s0 (portCode s a1 a2) := by
  unfold portCode
  exact (kept_ite (kept_raise _ _ _ h0) (kept_raiseBy _ _ h0))

theorem kept_refuseHello {s0 : State} (s : State) (a1 : Nat) (a2 : List Sys2Proof.Byte) (a3 : List Sys2Proof.Byte) (a4 : List Sys2Proof.Byte) (a5 : Nat)  (h0 : Kept s0 s) : Kept s0 (refuseHello s a1 a2 a3 a4 a5) := by
  unfold refuseHello
  exact (by
      extract_lets v0 v1
      exact (kept_hcpWire _ _ _ (kept_portCode _ _ _ h0)))

theorem kept_helloNew {s0 : State} (s : State) (a1 : Nat) (a2 : List Sys2Proof.Byte) (a3 : List Sys2Proof.Byte) (a4 : List Sys2Proof.Byte)  (h0 : Kept s0 s) : Kept s0 (helloNew s a1 a2 a3 a4) := by
  unfold helloNew
  exact (by
      extract_lets v2
      exact (by
        split
        · rename_i x3 x4 e5
          exact (by
            split
            · rename_i x6 x7 e8
              exact (kept_hcpWire _ _ _ h0)
            · rename_i x9 e10
              exact h0)
        · rename_i x11 e12
          exact (kept_ite (kept_refuseHello _ _ _ _ _ _ h0) (by
            split
            · rename_i x13 e14
              exact (kept_refuseHello _ _ _ _ _ _ h0)
            · rename_i x15 x16 e17
              exact (by
                split
                · rename_i x18 e19
                  exact (kept_refuseHello _ _ _ _ _ _ h0)
                · rename_i x20 x21 e22
                  exact (kept_hcpAnswer _ _ _ _ _ _ _ (kept_setSession _ _ _ h0)))))))

theorem kept_helloAgain {s0 : State} (s : State) (a1 : Nat) (a2 : List Sys2Proof.Byte)  (h0 : Kept s0 s) : Kept s0 (helloAgain s a1 a2).2.2 := by
  unfold helloAgain
  exact (kept_pr_ite (f := fun x : _ × _ × State => x.2.2) h0 (by
      split
      · rename_i x23 x24 x25 x26 e27 e28
        exact (kept_snd_snd (kept_setSession _ _ _ h0))
      · rename_i x29 x30 e31
        exact h0))

theorem kept_readWords {s0 : State} (s : State) (a1 : Nat) (a2 : Nat) (a3 : Nat) (a4 : Nat)  (h0 : Kept s0 s) : Kept s0 (readWords s a1 a2 a3 a4).2 := by
  induction a4 generalizing s a1 a2 a3 with
  | zero =>
    unfold readWords
    exact h0
  | succ k ih =>
    unfold readWords
    exact (by
        split
        · rename_i x43 x44 t45 e46
          exact (by
            split
            · rename_i x47 x48 t49 e50
              exact (kept_snd (kept_snd_eq e50 (ih _ _ _ _ (kept_snd_eq e46 (kept_pr_ite (f := Prod.snd) (kept_read64 _ _ _ h0) (kept_read32 _ _ _ h0))))))))

theorem kept_writeWords {s0 : State} (s : State) (a1 : Nat) (a2 : Nat) (a3 : Nat) (a4 : Nat) (a5 : List Sys2Proof.Byte) (a6 : Nat)  (h0 : Kept s0 s) : Kept s0 (writeWords s a1 a2 a3 a4 a5 a6) := by
  induction a6 generalizing s a1 a2 a3 a4 a5 with
  | zero =>
    unfold writeWords
    exact h0
  | succ k ih =>
    unfold writeWords
    exact (ih _ _ _ _ _ _ (kept_writeReg _ _ _ _ _ _ h0))

theorem kept_hcpRead {s0 : State} (s : State) (a1 : Nat) (a2 : List Sys2Proof.Byte)  (h0 : Kept s0 s) : Kept s0 (hcpRead s a1 a2).2.2 := by
  unfold hcpRead
  exact (by
      extract_lets v32 v33
      exact (kept_pr_ite (f := fun x : _ × _ × State => x.2.2) h0 (kept_pr_ite (f := fun x : _ × _ × State => x.2.2) h0 (by
        split
        · rename_i x34 x35 t36 e37
          exact (kept_snd_snd (kept_snd_eq e37 (kept_readWords _ _ _ _ _ h0)))))))

theorem kept_hcpWrite {s0 : State} (s : State) (a1 : Nat) (a2 : Session) (a3 : List Sys2Proof.Byte)  (h0 : Kept s0 s) : Kept s0 (hcpWrite s a1 a2 a3).2.2 := by
  unfold hcpWrite
  exact (by
      extract_lets v38 v39
      exact (kept_pr_ite (f := fun x : _ × _ × State => x.2.2) h0 (kept_pr_ite (f := fun x : _ × _ × State => x.2.2) h0 (kept_snd_snd (kept_writeWords _ _ _ _ _ _ _ h0)))))

theorem kept_putSubs {s0 : State} (s : State) (a1 : Nat) (a2 : Nat) (a3 : List Sys2Proof.Byte) (a4 : Nat)  (h0 : Kept s0 s) : Kept s0 (putSubs s a1 a2 a3 a4) := by
  induction a4 generalizing s a1 a2 a3 with
  | zero =>
    unfold putSubs
    exact h0
  | succ k ih =>
    unfold putSubs
    exact (ih _ _ _ _ (kept_hbmPoke _ _ _ _ h0))

theorem kept_hcpSubmit {s0 : State} (s : State) (a1 : List Sys2Proof.Byte)  (h0 : Kept s0 s) : Kept s0 (hcpSubmit s a1).2.2 := by
  unfold hcpSubmit
  exact (by
      extract_lets v40 v41 v42
      exact (kept_pr_ite (f := fun x : _ × _ × State => x.2.2) h0 (kept_pr_ite (f := fun x : _ × _ × State => x.2.2) h0 (kept_pr_ite (f := fun x : _ × _ × State => x.2.2) (kept_snd_snd (kept_raise _ _ _ (kept_badDoorbell _ _ h0))) (kept_pr_ite (f := fun x : _ × _ × State => x.2.2) h0 (kept_pr_ite (f := fun x : _ × _ × State => x.2.2) (kept_snd_snd (kept_raise _ _ _ h0)) (kept_snd_snd (kept_setProd _ _ _ (kept_putSubs _ _ _ _ _ h0)))))))))

theorem kept_hcpCons {s0 : State} (s : State) (a1 : List Sys2Proof.Byte)  (h0 : Kept s0 s) : Kept s0 (hcpCons s a1).2.2 := by
  unfold hcpCons
  exact (by
      extract_lets v51 v52
      exact (kept_pr_ite (f := fun x : _ × _ × State => x.2.2) h0 (kept_pr_ite (f := fun x : _ × _ × State => x.2.2) (kept_snd_snd (kept_raise _ _ _ (kept_badDoorbell _ _ h0))) (kept_snd_snd (kept_moveCons _ _ _ h0)))))

theorem kept_xferImage {s0 : State} (s : State) (a1 : Nat) (a2 : List Sys2Proof.Byte)  (h0 : Kept s0 s) : Kept s0 (xferImage s a1 a2).2.2 := by
  unfold xferImage
  exact (by
      extract_lets v53 v54
      have h56 : Kept s0 v54 := (kept_ite (kept_wrDigest _ _ _ h0) h0)
      clear_value v54
      exact (kept_pr_ite (f := fun x : _ × _ × State => x.2.2) h0 (kept_pr_ite (f := fun x : _ × _ × State => x.2.2) h0 (kept_pr_ite (f := fun x : _ × _ × State => x.2.2) h0 (kept_snd_snd (kept_setStaged _ _ h56))))))

theorem kept_hcpXfer {s0 : State} (s : State) (a1 : Session) (a2 : List Sys2Proof.Byte)  (h0 : Kept s0 s) : Kept s0 (hcpXfer s a1 a2).2.2 := by
  unfold hcpXfer
  exact (by
      extract_lets v55
      exact (kept_pr_ite (f := fun x : _ × _ × State => x.2.2) h0 (kept_pr_ite (f := fun x : _ × _ × State => x.2.2) h0 (kept_pr_ite (f := fun x : _ × _ × State => x.2.2) (kept_pr_ite (f := fun x : _ × _ × State => x.2.2) (kept_xferImage _ _ _ h0) h0) (by
        split
        · rename_i x91 x92 t93 e94
          exact (kept_snd_snd (kept_snd_eq e94 (kept_stageFw _ _ _ h0))))))))

theorem kept_hcpChallenge {s0 : State} (s : State) (a1 : Nat) (a2 : List Sys2Proof.Byte)  (h0 : Kept s0 s) : Kept s0 (hcpChallenge s a1 a2).2.2 := by
  unfold hcpChallenge
  exact (kept_pr_ite (f := fun x : _ × _ × State => x.2.2) h0 (by
      split
      · rename_i x57 x58 t59 e60
        exact (by
          split
          · rename_i x61 e62
            exact (kept_snd_snd (kept_snd_eq e60 (kept_random _ _ h0)))
          · rename_i x63 x64 e65
            exact (kept_snd_snd (kept_setSession _ _ _ (kept_snd_eq e60 (kept_random _ _ h0)))))))

theorem kept_useChallenge {s0 : State} (s : State) (a1 : Nat)  (h0 : Kept s0 s) : Kept s0 (useChallenge s a1).2 := by
  unfold useChallenge
  exact (by
      split
      · rename_i x71 e72
        exact h0
      · rename_i x73 x74 e75
        exact (kept_snd (kept_setSession _ _ _ h0)))

theorem kept_grant {s0 : State} (s : State) (a1 : Nat) (a2 : Session → Session)  (h0 : Kept s0 s) : Kept s0 (grant s a1 a2) := by
  unfold grant
  exact (by
      split
      · rename_i x66 e67
        exact h0
      · rename_i x68 x69 e70
        exact (kept_setSession _ _ _ h0))

theorem kept_hcpAuth {s0 : State} (s : State) (a1 : Nat) (a2 : List Sys2Proof.Byte)  (h0 : Kept s0 s) : Kept s0 (hcpAuth s a1 a2).2.2 := by
  unfold hcpAuth
  exact (kept_pr_ite (f := fun x : _ × _ × State => x.2.2) h0 (kept_pr_ite (f := fun x : _ × _ × State => x.2.2) (kept_snd_snd (kept_raise _ _ _ h0)) (by
      split
      · rename_i x78 x79 t80 e81
        exact (by
          split
          · rename_i x82
            exact (kept_snd_snd (kept_raise _ _ _ (kept_snd_eq e81 (kept_useChallenge _ _ h0))))
          · rename_i x84 x85
            exact (by
              split
              · rename_i x86 e87
                exact (kept_snd_snd (kept_snd_eq e81 (kept_useChallenge _ _ h0)))
              · rename_i x88 x89 e90
                exact (kept_pr_ite (f := fun x : _ × _ × State => x.2.2) (kept_snd_snd (kept_grant _ _ _ (kept_snd_eq e81 (kept_useChallenge _ _ h0)))) (kept_snd_snd (kept_snd_eq e81 (kept_useChallenge _ _ h0)))))))))

theorem kept_hcpReport {s0 : State} (s : State) (a1 : Nat) (a2 : List Sys2Proof.Byte)  (h0 : Kept s0 s) : Kept s0 (hcpReport s a1 a2).2.2 := by
  unfold hcpReport
  exact (kept_pr_ite (f := fun x : _ × _ × State => x.2.2) h0 (kept_pr_ite (f := fun x : _ × _ × State => x.2.2) (kept_snd_snd (kept_raise _ _ _ h0)) (kept_snd_snd (kept_grant _ _ _ h0))))

theorem kept_hcpGet {s0 : State} (s : State) (a1 : Session) (a2 : List Sys2Proof.Byte)  (h0 : Kept s0 s) : Kept s0 (hcpGet s a1 a2).2.2 := by
  unfold hcpGet
  exact (by
      extract_lets v76 v77
      exact (kept_pr_ite (f := fun x : _ × _ × State => x.2.2) h0 (kept_pr_ite (f := fun x : _ × _ × State => x.2.2) (kept_pr_ite (f := fun x : _ × _ × State => x.2.2) (kept_snd_snd (kept_raise _ _ _ h0)) h0) (kept_pr_ite (f := fun x : _ × _ × State => x.2.2) h0 (kept_pr_ite (f := fun x : _ × _ × State => x.2.2) (kept_snd_snd (kept_raise _ _ _ h0)) h0)))))

theorem kept_resetOwner {s0 : State} (s : State) (h0 : Kept s0 s) : Kept s0 (resetOwner s) := by
  unfold resetOwner
  refine kept_eraseKeys _ (kept_wrBits _ _ _ _ _ (kept_owner h0 rfl rfl ?_ ?_))
  · simp
  · simp

theorem kept_hcpUnlock {s0 : State} (s : State) (a1 : Nat) (a2 : Session) (a3 : List Sys2Proof.Byte)  (h0 : Kept s0 s) : Kept s0 (hcpUnlock s a1 a2 a3).2.2 := by
  unfold hcpUnlock
  exact (by
      extract_lets v83
      exact (kept_pr_ite (f := fun x : _ × _ × State => x.2.2) h0 (kept_pr_ite (f := fun x : _ × _ × State => x.2.2) (kept_snd_snd (kept_raise _ _ _ h0)) (by
        split
        · rename_i x96 x97 t98 e99
          exact (by
            split
            · rename_i x100
              exact (kept_snd_snd (kept_raise _ _ _ (kept_snd_eq e99 (kept_useChallenge _ _ h0))))
            · rename_i x101 x102
              exact (by
                split
                · rename_i x108 e109
                  exact (kept_snd_snd (kept_snd_eq e99 (kept_useChallenge _ _ h0)))
                · rename_i x117 x118 x119 e120
                  exact (kept_pr_ite (f := fun x : _ × _ × State => x.2.2) (kept_snd_snd (kept_snd_eq e99 (kept_useChallenge _ _ h0))) (by
                    extract_lets v121 v122 v123 v124
                    have h125 : Kept s0 v121 := (kept_ite (kept_eraseKeys _ (kept_snd_eq e99 (kept_useChallenge _ _ h0))) (kept_snd_eq e99 (kept_useChallenge _ _ h0)))
                    clear_value v121
                    have h144 : Kept s0 v123 := (kept_setDrk h125 rfl)
                    clear_value v123
                    have h145 : Kept s0 v124 := (kept_ite (kept_resetOwner _ h144) h144)
                    clear_value v124
                    exact (kept_snd_snd (kept_grant _ _ _ h145))))))))))

theorem kept_hcpLock {s0 : State} (s : State) (a1 : Nat) (a2 : List Sys2Proof.Byte)  (h0 : Kept s0 s) : Kept s0 (hcpLock s a1 a2).2.2 := by
  unfold hcpLock
  exact (kept_pr_ite (f := fun x : _ × _ × State => x.2.2) h0 (kept_snd_snd (kept_grant _ _ _ h0)))

theorem kept_debugGet {s0 : State} (s : State) (a1 : Nat) (a2 : Nat)  (h0 : Kept s0 s) : Kept s0 (debugGet s a1 a2).2 := by
  unfold debugGet
  exact (by
      extract_lets v95
      exact (kept_pr_ite (f := Prod.snd) h0 (kept_pr_ite (f := Prod.snd) h0 (by
        split
        · rename_i x126
          exact h0
        · rename_i x127
          exact h0
        · rename_i x128
          exact h0
        · rename_i x129
          exact h0
        · rename_i x130
          exact h0
        · rename_i x131 e132 e133 e134 e135 e136
          exact (by
            split
            · rename_i x140 x141 t142 e143
              exact (kept_snd (kept_snd_eq e143 (kept_fresh h0))))))))

theorem kept_debugPut {s0 : State} (s : State) (a1 : Nat) (a2 : Nat) (a3 : Nat)  (h0 : Kept s0 s) : Kept s0 (debugPut s a1 a2 a3) := by
  unfold debugPut
  exact (by
      extract_lets v103
      exact (kept_ite (kept_setCpu _ _ _ h0) (by
        split
        · rename_i x170
          exact (kept_setCpu _ _ _ h0)
        · rename_i x171
          exact (kept_setCpu _ _ _ h0)
        · rename_i x172
          exact (kept_setCpu _ _ _ h0)
        · rename_i x173
          exact (kept_setCpu _ _ _ h0)
        · rename_i x179 e180 e181 e182 e183
          exact h0)))

theorem kept_debugStep {s0 : State} (s : State) (a1 : Nat)  (h0 : Kept s0 s) : Kept s0 (debugStep s a1) := by
  unfold debugStep
  exact (by
      split
      · rename_i x104 x105 t106 e107
        exact (by
          split
          · rename_i x110 x111 t112 e113
            exact (by
              extract_lets v114 v115 v116
              exact (kept_setCpu _ _ _ (kept_rawFree (kept_snd_eq e113 (kept_fresh (kept_snd_eq e107 (kept_fresh h0)))) (Nat.le_add_right _ _))))))

theorem kept_debugCpu {s0 : State} (s : State) (a1 : Nat) (a2 : List Sys2Proof.Byte)  (h0 : Kept s0 s) : Kept s0 (debugCpu s a1 a2).2.2 := by
  unfold debugCpu
  exact (by
      extract_lets v137 v138 v139
      exact (kept_pr_ite (f := fun x : _ × _ × State => x.2.2) h0 (kept_pr_ite (f := fun x : _ × _ × State => x.2.2) h0 (by
        split
        · rename_i x157
          exact (kept_snd_snd (kept_setCpu _ _ _ h0))
        · rename_i x158
          exact (kept_snd_snd (kept_fastTrap _ _ (kept_setCpu _ _ _ h0)))
        · rename_i x159
          exact (kept_snd_snd (kept_debugStep _ _ h0))
        · rename_i x160
          exact (by
            split
            · rename_i x161 x162 t163 e164
              exact (kept_snd_snd (kept_snd_eq e164 (kept_debugGet _ _ _ h0))))
        · rename_i x165 e166 e167 e168 e169
          exact (kept_snd_snd (kept_debugPut _ _ _ _ h0))))))

theorem kept_debugMem {s0 : State} (s : State) (a1 : List Sys2Proof.Byte)  (h0 : Kept s0 s) : Kept s0 (debugMem s a1).2.2 := by
  unfold debugMem
  exact (by
      extract_lets v146 v147
      exact (kept_pr_ite (f := fun x : _ × _ × State => x.2.2) h0 (by
        split
        · rename_i x148 x149 e150
          exact h0
        · rename_i x151 x152 e153
          exact h0)))

theorem kept_hcpDebug {s0 : State} (s : State) (a1 : Session) (a2 : List Sys2Proof.Byte)  (h0 : Kept s0 s) : Kept s0 (hcpDebug s a1 a2).2.2 := by
  unfold hcpDebug
  exact (by
      extract_lets v154
      exact (kept_pr_ite (f := fun x : _ × _ × State => x.2.2) h0 (kept_pr_ite (f := fun x : _ × _ × State => x.2.2) (kept_pr_ite (f := fun x : _ × _ × State => x.2.2) (kept_debugMem _ _ h0) h0) (kept_pr_ite (f := fun x : _ × _ × State => x.2.2) (kept_debugCpu _ _ _ h0) h0))))

theorem kept_hcpExec {s0 : State} (s : State) (a1 : Nat) (a2 : Session) (a3 : List Sys2Proof.Byte)  (h0 : Kept s0 s) : Kept s0 (hcpExec s a1 a2 a3).2.2 := by
  unfold hcpExec
  exact (by
      extract_lets v155 v156
      exact (kept_pr_ite (f := fun x : _ × _ × State => x.2.2) h0 (kept_pr_ite (f := fun x : _ × _ × State => x.2.2) h0 (by
        split
        · rename_i x235 e236
          exact (kept_helloAgain _ _ _ h0)
        · rename_i x237 e238
          exact (kept_pr_ite (f := fun x : _ × _ × State => x.2.2) h0 h0)
        · rename_i x239 e240
          exact (kept_hcpRead _ _ _ h0)
        · rename_i x241 e242
          exact (kept_hcpWrite _ _ _ _ h0)
        · rename_i x243 e244
          exact (kept_hcpSubmit _ _ h0)
        · rename_i x245 e246
          exact (kept_hcpCons _ _ h0)
        · rename_i x247 e248
          exact (kept_hcpChallenge _ _ _ h0)
        · rename_i x249 e250
          exact (kept_hcpAuth _ _ _ h0)
        · rename_i x251 e252
          exact (kept_hcpReport _ _ _ h0)
        · rename_i x253 e254
          exact (kept_hcpGet _ _ _ h0)
        · rename_i x255 e256
          exact (kept_hcpUnlock _ _ _ _ h0)
        · rename_i x257 e258
          exact (kept_hcpLock _ _ _ h0)
        · rename_i x264 e265
          exact (kept_hcpDebug _ _ _ h0)
        · rename_i x266 e267 e268 e269 e270 e271 e272 e273 e274 e275 e276 e277 e278 e279
          exact (kept_hcpXfer _ _ _ h0)))))

theorem kept_drainQueue {s0 : State} (s : State) (a1 : Nat) (a2 : Nat)  (h0 : Kept s0 s) : Kept s0 (drainQueue s a1 a2) := by
  induction a2 generalizing s a1 with
  | zero =>
    unfold drainQueue
    exact h0
  | succ k ih =>
    unfold drainQueue
    exact (by
        split
        · rename_i x203 e206
          exact h0
        · rename_i x209 x210 e211
          exact (by
            split
            · rename_i x218 e219
              exact h0
            · rename_i x220 x221 x222 x223 x224 x225 x226 e227
              exact (kept_ite (ih _ _ (kept_hcpAnswer _ _ _ _ _ _ _ (kept_setSession _ _ _ h0))) h0)))

theorem kept_ackMessages {s0 : State} (s : State) (a1 : Nat) (a2 : Nat)  (h0 : Kept s0 s) : Kept s0 (ackMessages s a1 a2) := by
  unfold ackMessages
  exact (by
      split
      · rename_i x174 e175
        exact h0
      · rename_i x176 x177 e178
        exact (kept_drainQueue _ _ _ (kept_setSession _ _ _ h0)))

theorem kept_hcpNext {s0 : State} (s : State) (a1 : Nat) (a2 : Session) (a3 : List Sys2Proof.Byte)  (h0 : Kept s0 s) : Kept s0 (hcpNext s a1 a2 a3) := by
  unfold hcpNext
  exact (by
      extract_lets v184
      have h185 : Kept s0 v184 := (kept_setSession _ _ _ h0)
      clear_value v184
      exact (kept_ite h185 (by
        split
        · rename_i x186 x187 x188 t189 e190
          exact (by
            extract_lets v191
            have h192 : Kept s0 v191 := (kept_hcpAnswer _ _ _ _ _ _ _ (kept_portCode _ _ _ (kept_snd_snd_eq e190 (kept_hcpExec _ _ _ _ h185))))
            clear_value v191
            exact (kept_ite (kept_closeSession _ _ h192) h192)))))

theorem kept_drainEarly {s0 : State} (s : State) (a1 : Nat) (a2 : Nat)  (h0 : Kept s0 s) : Kept s0 (drainEarly s a1 a2) := by
  induction a2 generalizing s a1 with
  | zero =>
    unfold drainEarly
    exact h0
  | succ k ih =>
    unfold drainEarly
    exact (by
        split
        · rename_i x207 e208
          exact h0
        · rename_i x212 x213 e214
          exact (by
            split
            · rename_i x228 e229
              exact h0
            · rename_i x230 e231
              exact (ih _ _ (kept_hcpNext _ _ _ _ h0))))

theorem kept_hcpMessage {s0 : State} (s : State) (a1 : Nat) (a2 : Session) (a3 : List Sys2Proof.Byte)  (h0 : Kept s0 s) : Kept s0 (hcpMessage s a1 a2 a3) := by
  unfold hcpMessage
  exact (by
      extract_lets v193 v194
      have h195 : Kept s0 v193 := (kept_setSession _ _ _ h0)
      clear_value v193
      have h196 : Kept s0 v194 := (kept_ite (kept_ackMessages _ _ _ h195) h195)
      clear_value v194
      exact (by
        split
        · rename_i x259 e260
          exact h196
        · rename_i x261 x262 e263
          exact (kept_ite h196 (kept_ite (by
            split
            · rename_i x280 e281
              exact (kept_setSession _ _ _ h196)
            · rename_i x282 e283
              exact (kept_hcpWire _ _ _ h196)) (kept_ite (kept_drainEarly _ _ _ (kept_hcpNext _ _ _ _ h196)) (kept_ite (kept_setSession _ _ _ h196) h196))))))

theorem kept_hcpFrame {s0 : State} (s : State) (a1 : Nat) (a2 : Nat) (a3 : List Sys2Proof.Byte)  (h0 : Kept s0 s) : Kept s0 (hcpFrame s a1 a2 a3) := by
  unfold hcpFrame
  exact (by
      extract_lets v197
      exact (kept_ite h0 (kept_ite (kept_rxDrop _ _ h0) (by
        split
        · rename_i x198 e199
          exact (kept_rxDrop _ _ h0)
        · rename_i x200 x201 e202
          exact (by
            split
            · rename_i x204 e205
              exact (kept_rxDrop _ _ h0)
            · rename_i x215 x216 e217
              exact (kept_ite h0 (by
                split
                · rename_i x232 x233 e234
                  exact (kept_hcpMessage _ _ _ _ h0)
                · rename_i x304 e305
                  exact (kept_ite (kept_helloNew _ _ _ _ _ h0) (kept_ite (kept_refuseHello _ _ _ _ _ _ h0) (kept_rxDrop _ _ h0))))))))))

theorem kept_execHello {s0 : State} (a0 : Nat) (a1 : List Sys2Proof.Byte) (s : State)  (h0 : Kept s0 s) : KeptOut s0 (execHello a0 a1 s) := by
  unfold execHello
  exact (kept_out (kept_hcpFrame _ _ _ _ h0))

theorem kept_execClose {s0 : State} (a0 : Nat) (a1 : List Sys2Proof.Byte) (s : State)  (h0 : Kept s0 s) : KeptOut s0 (execClose a0 a1 s) := by
  unfold execClose
  exact (kept_out (kept_hcpFrame _ _ _ _ h0))

theorem kept_execAck {s0 : State} (a0 : Nat) (a1 : List Sys2Proof.Byte) (s : State)  (h0 : Kept s0 s) : KeptOut s0 (execAck a0 a1 s) := by
  unfold execAck
  exact (kept_out (kept_hcpFrame _ _ _ _ h0))

theorem kept_execRead {s0 : State} (a0 : Nat) (a1 : List Sys2Proof.Byte) (s : State)  (h0 : Kept s0 s) : KeptOut s0 (execRead a0 a1 s) := by
  unfold execRead
  exact (kept_out (kept_hcpFrame _ _ _ _ h0))

theorem kept_execWrite {s0 : State} (a0 : Nat) (a1 : List Sys2Proof.Byte) (s : State)  (h0 : Kept s0 s) : KeptOut s0 (execWrite a0 a1 s) := by
  unfold execWrite
  exact (kept_out (kept_hcpFrame _ _ _ _ h0))

theorem kept_execSubmit {s0 : State} (a0 : Nat) (a1 : List Sys2Proof.Byte) (s : State)  (h0 : Kept s0 s) : KeptOut s0 (execSubmit a0 a1 s) := by
  unfold execSubmit
  exact (kept_out (kept_hcpFrame _ _ _ _ h0))

theorem kept_execCons {s0 : State} (a0 : Nat) (a1 : List Sys2Proof.Byte) (s : State)  (h0 : Kept s0 s) : KeptOut s0 (execCons a0 a1 s) := by
  unfold execCons
  exact (kept_out (kept_hcpFrame _ _ _ _ h0))

theorem kept_execXferImage {s0 : State} (a0 : Nat) (a1 : List Sys2Proof.Byte) (s : State)  (h0 : Kept s0 s) : KeptOut s0 (execXferImage a0 a1 s) := by
  unfold execXferImage
  exact (kept_out (kept_hcpFrame _ _ _ _ h0))

theorem kept_execXferFirmware {s0 : State} (a0 : Nat) (a1 : List Sys2Proof.Byte) (s : State)  (h0 : Kept s0 s) : KeptOut s0 (execXferFirmware a0 a1 s) := by
  unfold execXferFirmware
  exact (kept_out (kept_hcpFrame _ _ _ _ h0))

theorem kept_execChallenge {s0 : State} (a0 : Nat) (a1 : List Sys2Proof.Byte) (s : State)  (h0 : Kept s0 s) : KeptOut s0 (execChallenge a0 a1 s) := by
  unfold execChallenge
  exact (kept_out (kept_hcpFrame _ _ _ _ h0))

theorem kept_execAuth {s0 : State} (a0 : Nat) (a1 : List Sys2Proof.Byte) (s : State)  (h0 : Kept s0 s) : KeptOut s0 (execAuth a0 a1 s) := by
  unfold execAuth
  exact (kept_out (kept_hcpFrame _ _ _ _ h0))

theorem kept_execReport {s0 : State} (a0 : Nat) (a1 : List Sys2Proof.Byte) (s : State)  (h0 : Kept s0 s) : KeptOut s0 (execReport a0 a1 s) := by
  unfold execReport
  exact (kept_out (kept_hcpFrame _ _ _ _ h0))

theorem kept_execGetPart {s0 : State} (a0 : Nat) (a1 : List Sys2Proof.Byte) (s : State)  (h0 : Kept s0 s) : KeptOut s0 (execGetPart a0 a1 s) := by
  unfold execGetPart
  exact (kept_out (kept_hcpFrame _ _ _ _ h0))

theorem kept_execUnlock {s0 : State} (a0 : Nat) (a1 : List Sys2Proof.Byte) (s : State)  (h0 : Kept s0 s) : KeptOut s0 (execUnlock a0 a1 s) := by
  unfold execUnlock
  exact (kept_out (kept_hcpFrame _ _ _ _ h0))

theorem kept_execLockDebug {s0 : State} (a0 : Nat) (a1 : List Sys2Proof.Byte) (s : State)  (h0 : Kept s0 s) : KeptOut s0 (execLockDebug a0 a1 s) := by
  unfold execLockDebug
  exact (kept_out (kept_hcpFrame _ _ _ _ h0))

theorem kept_execDebugAccess {s0 : State} (a0 : Nat) (a1 : List Sys2Proof.Byte) (s : State)  (h0 : Kept s0 s) : KeptOut s0 (execDebugAccess a0 a1 s) := by
  unfold execDebugAccess
  exact (kept_out (kept_hcpFrame _ _ _ _ h0))

theorem kept_execHcpRetransmit {s0 : State} (a0 : Nat) (s : State)  (h0 : Kept s0 s) : KeptOut s0 (execHcpRetransmit a0 s) := by
  unfold execHcpRetransmit
  exact (kept_out (by
      split
      · rename_i x284 e285
        exact h0
      · rename_i x286 x287 e288
        exact (by
          extract_lets v289 v290
          exact (kept_ite h0 (kept_ite (kept_closeSession _ _ h0) (kept_foldl (fun t301 x302 h303 => (kept_hcpWire _ _ _ h303)) (kept_setSession _ _ _ h0)))))))

theorem kept_execHcpAckTimer {s0 : State} (a0 : Nat) (s : State)  (h0 : Kept s0 s) : KeptOut s0 (execHcpAckTimer a0 s) := by
  unfold execHcpAckTimer
  exact (kept_out (by
      split
      · rename_i x291 e292
        exact h0
      · rename_i x293 x294 e295
        exact (kept_ite h0 (kept_hcpWire _ _ _ (kept_setSession _ _ _ h0)))))

theorem kept_execSessionIdle {s0 : State} (a0 : Nat) (s : State)  (h0 : Kept s0 s) : KeptOut s0 (execSessionIdle a0 s) := by
  unfold execSessionIdle
  exact (kept_out (by
      split
      · rename_i x296 e297
        exact h0
      · rename_i x298 x299 e300
        exact (kept_ite (kept_closeSession _ _ h0) h0)))

/-! ### Machine/Motion.lean -/

theorem kept_motFault {s0 : State} (s : State) (a1 : Nat) (a2 : Nat) (a3 : Nat) (a4 : Abort)  (h0 : Kept s0 s) : Kept s0 (motFault s a1 a2 a3 a4) := by
  unfold motFault
  exact (by
      extract_lets v0 v1
      have h2 : Kept s0 v0 := (kept_wr32 _ _ _ h0)
      clear_value v0
      have h5 : Kept s0 v1 := (kept_arrive _ _ _ (kept_raise _ _ _ h2))
      clear_value v1
      exact (kept_unitAbort _ _ _ _ h5))

theorem kept_fetchRows {s0 : State} (s : State) (a1 : Nat) (a2 : Fetch) (a3 : Nat) (a4 : Nat)  (h0 : Kept s0 s) : KeptE (fun x => x) s0 (fetchRows s a1 a2 a3 a4) := by
  unfold fetchRows
  exact (by
      extract_lets v3 v4
      exact (keptE_bind (fun t8 x9 => (keptE_pure (kept_wr32 _ _ _ (keptE_get (f := fun x => x) x9 (keptE_foldlM (fun t16 x17 h18 => (keptE_foldlM (fun t19 x20 h21 => (keptE_bind (fun x26 x27 => (keptE_mapError (kept_storeWrite _ _ _ _ h21))))) h18)) h0)))))))

theorem kept_searchRow {s0 : State} (s : State) (a1 : Nat) (a2 : Nat) (a3 : Nat) (a4 : Nat) (a5 : Sys2Proof.W128) (a6 : Nat)  (h0 : Kept s0 s) : KeptE (fun x => x) s0 (searchRow s a1 a2 a3 a4 a5 a6) := by
  unfold searchRow
  exact (keptE_bind (fun x6 x7 => (keptE_bind (fun x10 x11 => (keptE_bind (fun x12 x13 => (keptE_bind (fun x14 x15 => (by
      split
      · rename_i x29 x30 x31 e32
        exact (by
          extract_lets v33 v34 v35 v36
          exact (keptE_bind (fun t39 x41 => (by
            split
            · rename_i x57 x58 x59 e60
              exact (keptE_bind (fun t63 x64 => (keptE_bind (fun x71 x72 => (keptE_ite (kept_fetchRows _ _ _ _ _ (keptE_get (f := fun x => x) x64 (keptE_foldlM (fun t113 x114 h115 => (by
                extract_lets v126
                exact (keptE_bind (fun x132 x134 => (by
                  split
                  · rename_i x140 x141 x142 x143
                    exact (keptE_bind (fun x144 x145 => (kept_storeWrite _ _ _ _ h115)))))))) (keptE_get (f := fun x => x) x41 (kept_fetchRows _ _ _ _ _ h0))))) (keptE_pure (keptE_get (f := fun x => x) x64 (keptE_foldlM (fun t146 x147 h148 => (by
                extract_lets v149
                exact (keptE_bind (fun x150 x151 => (by
                  split
                  · rename_i x152 x153 x154 x155
                    exact (keptE_bind (fun x156 x157 => (kept_storeWrite _ _ _ _ h148)))))))) (keptE_get (f := fun x => x) x41 (kept_fetchRows _ _ _ _ _ h0)))))))))))))))))))))))

theorem kept_noteVecs {s0 : State} (s : State) (a1 : Nat) (a2 : Nat) (a3 : Nat) (a4 : Nat) (a5 : Nat) (a6 : Bool)  (h0 : Kept s0 s) : KeptE (fun x => x) s0 (noteVecs s a1 a2 a3 a4 a5 a6) := by
  unfold noteVecs
  exact (keptE_ite (keptE_ok h0) (keptE_bind (fun x22 x23 => (keptE_bind (fun x24 x25 => (by
      extract_lets v28
      exact (keptE_pure (kept_updTask _ _ _ _ h0))))))))

theorem kept_setMotStatus {s0 : State} (s : State) (a1 : Nat) (a2 : Nat) (a3 : Nat) (a4 : Nat) (a5 : Bool)  (h0 : Kept s0 s) : Kept s0 (setMotStatus s a1 a2 a3 a4 a5) := by
  unfold setMotStatus
  exact (kept_wr32 _ _ _ h0)

theorem kept_motIssue {s0 : State} (a0 : Nat) (a1 : Nat) (a2 : Sys2Proof.W128) (a3 : Nat) (a4 : State → State) (s : State) (f4 : ∀ t, Kept s0 t → Kept s0 (a4 t)) (h0 : Kept s0 s) : KeptOut s0 (motIssue a0 a1 a2 a3 a4 s) := by
  unfold motIssue
  exact (kept_out (kept_ite h0 (kept_issue _ _ _ _ _ _ _ _ _ _ (fun t43 h44 => (f4 _ h44)) h0)))

theorem kept_execMotSearch {s0 : State} (a0 : Nat) (a1 : Nat) (a2 : Sys2Proof.W128) (s : State)  (h0 : Kept s0 s) : KeptOut s0 (execMotSearch a0 a1 a2 s) := by
  unfold execMotSearch
  exact (kept_motIssue _ _ _ _ _ _ (fun t47 h48 => (by
      extract_lets v49 v50
      have h51 : Kept s0 v49 := (kept_wr32 _ _ _ h48)
      clear_value v49
      exact (kept_setMotStatus _ _ _ _ _ _ (kept_setCore _ _ _ h51)))) h0)

theorem kept_blockRow {s0 : State} (s : State) (a1 : Nat) (a2 : Nat) (a3 : Nat) (a4 : Nat) (a5 : Sys2Proof.W128) (a6 : Nat)  (h0 : Kept s0 s) : KeptE Prod.fst s0 (blockRow s a1 a2 a3 a4 a5 a6) := by
  unfold blockRow
  exact (keptE_bind (fun x37 x38 => (keptE_bind (fun t40 x42 => (keptE_bind (fun t45 x46 => (keptE_pure (kept_fst (keptE_get (f := fun x => x) x46 (kept_noteVecs _ _ _ _ _ _ _ (keptE_get (f := fun x => x) x42 (kept_searchRow _ _ _ _ _ _ _ h0))))))))))))

theorem kept_execBlockRowStart {s0 : State} (a0 : Nat) (s : State)  (h0 : Kept s0 s) : KeptOut s0 (execBlockRowStart a0 s) := by
  unfold execBlockRowStart
  exact (kept_out (by
      split
      · rename_i x52 e53
        exact h0
      · rename_i x54 x55 e56
        exact (kept_ite h0 (by
          extract_lets v61 v62
          exact (by
            split
            · rename_i x83 x84 e85
              exact (kept_motFault _ _ _ _ _ h0)
            · rename_i x88 e89
              exact h0
            · rename_i x90 e91
              exact (by
                split
                · rename_i x104 x105 e106
                  exact (kept_motFault _ _ _ _ _ h0)
                · rename_i x116 t117 x118 e119
                  exact (by
                    extract_lets v123 v124
                    have h125 : Kept s0 v123 := (kept_count64 _ _ _ (keptE_get (f := Prod.fst) e119 (kept_blockRow _ _ _ _ _ _ _ h0)))
                    clear_value v123
                    exact (kept_ite (kept_setMotStatus _ _ _ _ _ _ (kept_setCore _ _ _ h125)) (kept_setMotStatus _ _ _ _ _ _ (kept_setCore _ _ _ h125))))))))))

theorem kept_compRow {s0 : State} (s : State) (a1 : Nat) (a2 : Nat) (a3 : Sys2Proof.W128) (a4 : Nat)  (h0 : Kept s0 s) : KeptE (fun x => x) s0 (compRow s a1 a2 a3 a4) := by
  unfold compRow
  exact (keptE_bind (fun x65 x66 => (keptE_bind (fun x67 x68 => (keptE_bind (fun x69 x70 => (by
      extract_lets v79 v80 v81
      exact (keptE_bind (fun x86 x87 => (keptE_foldlM (fun t92 x93 h94 => (by
        split
        · rename_i x95 x96 x97 x98 x99
          exact (keptE_foldlM (fun t107 x108 h109 => (keptE_foldlM (fun t120 x121 h122 => (by
            extract_lets v127 v128
            exact (keptE_bind (fun x133 x135 => (keptE_ite (kept_storeWrite _ _ _ _ h122) (keptE_pure h122)))))) h109)) h94))) h0))))))))))

theorem kept_compRun {s0 : State} (a0 : Nat) (a1 : Nat) (a2 : Sys2Proof.W128) (s : State)  (h0 : Kept s0 s) : Kept s0 (compRun a0 a1 a2 s) := by
  unfold compRun
  exact (by
      extract_lets v73 v74 v75 v76 v77 v78
      have h82 : Kept s0 v73 := (kept_setMotStatus _ _ _ _ _ _ h0)
      clear_value v73
      exact (by
        unfold v78
        split
        · rename_i x100 x101 x102 e103
          exact (kept_motFault _ _ _ _ _ h82)
        · rename_i x110 t111 e112
          exact (kept_count64 _ _ _ (keptE_get (f := fun x => x) e112 (keptE_foldlM (fun t129 x130 h131 => (keptE_mapError (keptE_bind (fun t136 x137 => (keptE_ite (kept_noteVecs _ _ _ _ _ _ _ (keptE_get (f := fun x => x) x137 (kept_compRow _ _ _ _ _ h131))) (keptE_pure (keptE_get (f := fun x => x) x137 (kept_compRow _ _ _ _ _ h131)))))))) h82)))))

theorem kept_execMotCompensate {s0 : State} (a0 : Nat) (a1 : Nat) (a2 : Sys2Proof.W128) (s : State)  (h0 : Kept s0 s) : KeptOut s0 (execMotCompensate a0 a1 a2 s) := by
  unfold execMotCompensate
  exact (kept_motIssue _ _ _ _ _ _ (fun t138 h139 => (kept_compRun _ _ _ _ h139)) h0)

/-! ### Machine/Rate.lean -/

theorem kept_writeSlot {s0 : State} (s : State) (a1 : Nat) (a2 : Nat) (a3 : RSlot)  (h0 : Kept s0 s) : Kept s0 (writeSlot s a1 a2 a3) := by
  unfold writeSlot
  exact (by
      extract_lets v0 v1 v2 v3 v4 v5 v6
      have h7 : Kept s0 v0 := (kept_storePoke _ _ _ _ _ h0)
      clear_value v0
      have h19 : Kept s0 v1 := (kept_storePoke _ _ _ _ _ h7)
      clear_value v1
      have h23 : Kept s0 v2 := (kept_storePoke _ _ _ _ _ h19)
      clear_value v2
      have h25 : Kept s0 v3 := (kept_storePoke _ _ _ _ _ h23)
      clear_value v3
      have h26 : Kept s0 v4 := (kept_storePoke _ _ _ _ _ h25)
      clear_value v4
      have h27 : Kept s0 v5 := (kept_storePoke _ _ _ _ _ h26)
      clear_value v5
      have h28 : Kept s0 v6 := (kept_storePoke _ _ _ _ _ h27)
      clear_value v6
      exact (kept_storePoke _ _ _ _ _ h28))

theorem kept_showSlot {s0 : State} (s : State) (a1 : Nat) (a2 : Nat) (a3 : RSlot)  (h0 : Kept s0 s) : Kept s0 (showSlot s a1 a2 a3) := by
  unfold showSlot
  exact (by
      extract_lets v8
      exact (kept_wr64 _ _ _ (kept_wr64 _ _ _ h0)))

theorem kept_execRateUpdate {s0 : State} (a0 : Nat) (a1 : Nat) (s : State)  (h0 : Kept s0 s) : KeptOut s0 (execRateUpdate a0 a1 s) := by
  unfold execRateUpdate
  exact (kept_out (by
      extract_lets v9 v10 v11 v12 v13 v14 v15 v16 v17 v18
      have h20 : Kept s0 v11 := (kept_setCore _ _ _ h0)
      clear_value v11
      have h24 : Kept s0 v14 := (kept_showSlot _ _ _ _ (kept_writeSlot _ _ _ _ h20))
      clear_value v14
      have h29 : Kept s0 v16 := (kept_ite (kept_count64 _ _ _ h24) h24)
      clear_value v16
      have h30 : Kept s0 v17 := (kept_ite (kept_count64 _ _ _ h29) h29)
      clear_value v17
      have h31 : Kept s0 v18 := (kept_ite (kept_count64 _ _ _ h30) h30)
      clear_value v18
      exact (kept_ite h0 (by
        split
        · rename_i x32 x33 e34
          exact (kept_ite (kept_unitAbort _ _ _ _ h20) h20)
        · rename_i x35 x36 e37
          exact (kept_ite (kept_semSignal _ _ _ _ _ (kept_updTask _ _ _ _ h31)) h31)))))

theorem kept_openSlot {s0 : State} (s : State) (a1 : Nat) (a2 : Nat)  (h0 : Kept s0 s) : Kept s0 (openSlot s a1 a2) := by
  unfold openSlot
  exact (kept_wrBits _ _ _ _ _ (kept_setCore _ _ _ h0))

theorem kept_fillSlot {s0 : State} (s : State) (a1 : Nat) (a2 : Nat) (a3 : Task)  (h0 : Kept s0 s) : Kept s0 (fillSlot s a1 a2 a3) := by
  unfold fillSlot
  exact (by
      extract_lets v21
      have h22 : Kept s0 v21 := (kept_openSlot _ _ _ (kept_storePoke _ _ _ _ _ h0))
      clear_value v21
      exact (kept_showSlot _ _ _ _ h22))

/-! ### Machine/TaskEnd.lean -/

theorem kept_occupy {s0 : State} (s : State) (a1 : Nat) (a2 : Nat) (a3 : Task) (a4 : SEntry)  (h0 : Kept s0 s) : Kept s0 (occupy s a1 a2 a3 a4) := by
  unfold occupy
  exact (by
      extract_lets v0 v1 v2
      have h3 : Kept s0 v1 := (kept_setCtx _ _ _ _ h0)
      clear_value v1
      have h7 : Kept s0 v2 := (kept_resetWalks _ _ _ (kept_setPc _ _ _ _ (kept_setSeqStatus _ _ _ _ _ h3)))
      clear_value v2
      exact (kept_storePoke _ _ _ _ _ h7))

theorem kept_startOn {s0 : State} (s : State) (a1 : Task) (a2 : Nat) (a3 : Nat) (a4 : SEntry)  (h0 : Kept s0 s) : Kept s0 (startOn s a1 a2 a3 a4).1 := by
  unfold startOn
  exact (by
      extract_lets v4 v5
      have h6 : Kept s0 v4 := h0
      clear_value v4
      exact (by
        split
        · rename_i x10 t11 x12 e13
          exact (by
            extract_lets v14 v15 v16 v17 v18
            have h19 : Kept s0 v17 := (kept_occupy _ _ _ _ _ (kept_fst_eq e13 (kept_takeTaskSlots _ _ _ (kept_setStr _ h0))))
            clear_value v17
            have h25 : Kept s0 v18 := (kept_ite (kept_substitute _ _ _ _ h19) h19)
            clear_value v18
            exact (kept_fst (kept_ite (kept_fillSlot _ _ _ _ h25) h25)))))

theorem kept_startStripe {s0 : State} (s : State) (a1 : Task) (a2 : Nat) (a3 : Nat) (a4 : SEntry)  (h0 : Kept s0 s) : Kept s0 (startStripe s a1 a2 a3 a4) := by
  unfold startStripe
  exact (by
      extract_lets v8
      have h9 : Kept s0 v8 := (kept_occupy _ _ _ _ _ h0)
      clear_value v8
      exact (kept_ite (kept_openSlot _ _ _ h9) h9))

theorem kept_execTaskStart {s0 : State} (a0 : Nat) (s : State)  (h0 : Kept s0 s) : KeptOut s0 (execTaskStart a0 s) := by
  unfold execTaskStart
  exact (kept_out (kept_ite h0 (by
      split
      · rename_i x33 e36
        exact h0
      · rename_i x38 x39 e40
        exact (by
          split
          · rename_i x47 e48
            exact h0
          · rename_i x49 x50 x51 x52 e53
            exact (kept_ite h0 (by
              split
              · rename_i x59 e60
                exact h0
              · rename_i x61 x62 e63
                exact (by
                  split
                  · rename_i x70 t71 x72 e73
                    exact (by
                      extract_lets v78
                      have h79 : Kept s0 v78 := (kept_foldl (fun t91 x92 h93 => (by
                        split
                        · rename_i x97 x98 x99 x100
                          exact (kept_startStripe _ _ _ _ _ h93))) (kept_fst_eq e73 (kept_startOn _ _ _ _ _ h0)))
                      clear_value v78
                      exact (kept_ite (kept_abortTask _ _ _ _ h79) h79)))))))))

theorem kept_execPeriodicStart {s0 : State} (a0 : Nat) (a1 : Nat) (s : State)  (h0 : Kept s0 s) : KeptOut s0 (execPeriodicStart a0 a1 s) := by
  unfold execPeriodicStart
  exact (kept_out (by
      split
      · rename_i x20 e21
        exact h0
      · rename_i x22 x23 e24
        exact (by
          split
          · rename_i x26 e27
            exact h0
          · rename_i x28 x29 e30
            exact (kept_ite h0 (by
              extract_lets v43 v44 v45
              have h46 : Kept s0 v44 := (kept_setCore _ _ _ h0)
              clear_value v44
              exact (kept_ite (kept_ite (kept_count64 _ _ _ h46) (kept_setCore _ _ _ h46)) (kept_startPeriodic _ _ _ _ (kept_setCore _ _ _ h46))))))))

theorem kept_execTaskOverrun {s0 : State} (a0 : Nat) (a1 : Nat) (s : State)  (h0 : Kept s0 s) : KeptOut s0 (execTaskOverrun a0 a1 s) := by
  unfold execTaskOverrun
  exact (kept_out (by
      split
      · rename_i x31 e32
        exact h0
      · rename_i x34 x35 e37
        exact (kept_ite h0 (by
          extract_lets v41
          have h42 : Kept s0 v41 := (kept_satCount64 _ _ _ h0)
          clear_value v41
          exact (kept_abortTask _ _ _ _ (kept_arrive _ _ _ h42))))))

theorem kept_sealSlot {s0 : State} (s : State) (a1 : Nat) (a2 : Nat) (a3 : Nat)  (h0 : Kept s0 s) : Kept s0 (sealSlot s a1 a2 a3).1 := by
  unfold sealSlot
  exact (by
      split
      · rename_i x54 e55
        exact h0
      · rename_i x56 x57 e58
        exact (by
          split
          · rename_i x80 e81
            exact (kept_fst (kept_abortTask _ _ _ _ h0))
          · rename_i x84 x85 e86
            exact (by
              extract_lets v87 v88 v89 v90
              exact (by
                split
                · rename_i x101 e102
                  exact (kept_fst (kept_abortTask _ _ _ _ h0))
                · rename_i x105 x106 x107 e108
                  exact (by
                    extract_lets v112 v113
                    have h114 : Kept s0 v112 := (kept_setStr _ h0)
                    clear_value v112
                    have h123 : Kept s0 v113 := (kept_hbmPoke _ _ _ _ h114)
                    clear_value v113
                    exact (kept_pr_ite (f := Prod.fst) (kept_fst (kept_abortTask _ _ _ _ h114)) (kept_fst (kept_updTask _ _ _ _ h123))))))))

theorem kept_sealTask {s0 : State} (s : State) (a1 : Nat) (a2 : Nat) (a3 : Task)  (h0 : Kept s0 s) : Kept s0 (sealTask s a1 a2 a3).1 := by
  unfold sealTask
  exact (kept_pr_ite (f := Prod.fst) h0 (kept_pr_foldl (f := Prod.fst) (fun x64 x65 h66 => (kept_pr_ite (f := Prod.fst) (kept_sealSlot _ _ _ _ h66) h66)) h0))

theorem kept_stampFrame {s0 : State} (s : State) (a1 : Nat) (a2 : Nat) (a3 : Task)  (h0 : Kept s0 s) : Kept s0 (stampFrame s a1 a2 a3) := by
  unfold stampFrame
  exact (kept_ite h0 (kept_foldl (fun t67 x68 h69 => (by
      extract_lets v74 v75 v76 v77
      exact (kept_updTask _ _ _ _ (kept_hbmPoke _ _ _ _ h69)))) h0))

theorem kept_openFrame {s0 : State} (s : State) (a1 : Nat) (a2 : Nat) (a3 : Task)  (h0 : Kept s0 s) : Kept s0 (openFrame s a1 a2 a3).1 := by
  unfold openFrame
  exact (by
      split
      · rename_i x103 e104
        exact h0
      · rename_i x109 x110 e111
        exact (by
          extract_lets v115 v116 v117 v118 v119 v120 v121
          have h122 : Kept s0 v120 := (kept_ite (kept_setReader _ _ _ h0) h0)
          clear_value v120
          have h127 : Kept s0 v121 := (kept_hbmPoke _ _ _ _ h122)
          clear_value v121
          exact (kept_pr_ite (f := Prod.fst) h0 (kept_pr_ite (f := Prod.fst) (kept_fst (kept_abortTask _ _ _ _ h0)) (kept_fst (kept_updTask _ _ _ _ h127))))))

theorem kept_finishUnits {s0 : State} (s : State) (a1 : Nat) (a2 : Nat) (a3 : Task)  (h0 : Kept s0 s) : Kept s0 (finishUnits s a1 a2 a3).1 := by
  unfold finishUnits
  exact (by
      extract_lets v82
      have h83 : Kept s0 v82 := (kept_stampFrame _ _ _ _ h0)
      clear_value v82
      exact (by
        split
        · rename_i x94 t95 e96
          exact (kept_fst (kept_fst_eq e96 (kept_openFrame _ _ _ _ h83)))
        · rename_i x146 t147 e148
          exact (kept_sealTask _ _ _ _ (kept_fst_eq e148 (kept_openFrame _ _ _ _ h83)))))

theorem kept_gatherStripes {s0 : State} (s : State) (a1 : Nat) (a2 : Nat) (a3 : Task)  (h0 : Kept s0 s) : Kept s0 (gatherStripes s a1 a2 a3) := by
  unfold gatherStripes
  exact (kept_foldl (fun t124 x125 h126 => (by
      split
      · rename_i x133 x134 x135 x136
        exact (kept_updTask _ _ _ _ h126))) h0)

theorem kept_commitReader {s0 : State} (s : State) (a1 : Task)  (h0 : Kept s0 s) : Kept s0 (commitReader s a1).1 := by
  unfold commitReader
  exact (by
      split
      · rename_i x128 e129
        exact h0
      · rename_i x130 x131 e132
        exact (kept_pr_ite (f := Prod.fst) h0 (by
          extract_lets v137 v138 v139 v140
          exact (kept_fst (kept_setReader _ _ _ h0)))))

theorem kept_addTokens {s0 : State} (s : State) (a1 : Task) (a2 : Nat) (a3 : Bool)  (h0 : Kept s0 s) : Kept s0 (addTokens s a1 a2 a3) := by
  unfold addTokens
  exact (kept_ite h0 (by
      extract_lets v141 v142
      have h143 : Kept s0 v142 := (by
        unfold v142
        unfold v141
        extract_lets v144 v145
        exact (kept_setStr _ h0))
      clear_value v142
      exact (kept_ite (by
        unfold v141
        extract_lets v161 v162
        exact (kept_setStr _ h143)) h143)))

theorem kept_commitFields {s0 : State} (s : State) (a1 : Nat) (a2 : Nat) (a3 : Task)  (h0 : Kept s0 s) : Kept s0 (commitFields s a1 a2 a3).1 := by
  unfold commitFields
  exact (by
      extract_lets v149 v150 v151 v152 v153 v154 v155 v156 v157 v158 v159
      have h160 : Kept s0 v153 := (kept_setEntry _ _ _ h0)
      clear_value v153
      have h163 : Kept s0 v159 := (kept_setStr _ h160)
      clear_value v159
      exact (kept_pr_ite (f := Prod.fst) (by
        split
        · rename_i x174 x175 e176
          exact (kept_pr_ite (f := Prod.fst) (kept_fst (kept_addTokens _ _ _ _ (kept_setEntry _ _ _ h0))) h0)
        · rename_i x191 e192
          exact h0) (kept_fst (kept_addTokens _ _ _ _ h163))))

theorem kept_writeStats {s0 : State} (s : State) (a1 : Nat) (a2 : Nat) (a3 : Task) (a4 : Nat) (a5 : Bool) (a6 : Bool)  (h0 : Kept s0 s) : Kept s0 (writeStats s a1 a2 a3 a4 a5 a6).1 := by
  unfold writeStats
  exact (kept_pr_ite (f := Prod.fst) h0 (by
      extract_lets v164 v165
      exact (kept_fst (kept_hbmPoke _ _ _ _ h0))))

theorem kept_stampFeatures {s0 : State} (s : State) (a1 : Task) (a2 : Nat)  (h0 : Kept s0 s) : Kept s0 (stampFeatures s a1 a2).1 := by
  unfold stampFeatures
  exact (kept_pr_ite (f := Prod.fst) h0 (by
      extract_lets v166 v167
      exact (kept_pr_foldl (f := Prod.fst) (fun x168 x169 h170 => (by
        split
        · rename_i x171 t172 x173
          exact (kept_pr_ite (f := Prod.fst) h170 (by
            extract_lets v184 v185 v186
            exact (kept_fst (kept_hbmPoke _ _ _ _ h170)))))) h0)))

theorem kept_commitTask {s0 : State} (s : State) (a1 : Nat) (a2 : Nat) (a3 : Task)  (h0 : Kept s0 s) : Kept s0 (commitTask s a1 a2 a3) := by
  unfold commitTask
  exact (by
      split
      · rename_i x180 t181 x182 e183
        exact (by
          split
          · rename_i x187 t188 x189 e190
            exact (by
              extract_lets v193 v194 v195 v196
              have h197 : Kept s0 v194 := (kept_ite (kept_arrive _ _ _ (kept_fst_eq e190 (kept_commitFields _ _ _ _ (kept_fst_eq e183 (kept_commitReader _ _ h0))))) (kept_fst_eq e190 (kept_commitFields _ _ _ _ (kept_fst_eq e183 (kept_commitReader _ _ h0)))))
              clear_value v194
              exact (by
                split
                · rename_i x224 t225 x226 e227
                  exact (by
                    split
                    · rename_i x230 t231 x232 e233
                      exact (by
                        extract_lets v234 v235 v236 v237 v238
                        have h239 : Kept s0 v234 := (kept_handTask _ _ _ (kept_fst_eq e233 (kept_pr_ite (f := Prod.fst) (kept_fst (kept_fst_eq e227 (kept_pr_ite (f := Prod.fst) h197 (kept_writeStats _ _ _ _ _ _ _ h197)))) (kept_stampFeatures _ _ _ (kept_fst_eq e227 (kept_pr_ite (f := Prod.fst) h197 (kept_writeStats _ _ _ _ _ _ _ h197)))))))
                        clear_value v234
                        have h255 : Kept s0 v235 := (kept_foldl (fun t256 x257 h258 => (by
                          split
                          · rename_i x263 x264 x265 x266
                            exact (kept_clearCtx _ _ _ _ h258))) h239)
                        clear_value v235
                        have h270 : Kept s0 v236 := (kept_clearCtx _ _ _ _ h255)
                        clear_value v236
                        have h271 : Kept s0 v237 := (kept_postRecord _ _ _ _ h270)
                        clear_value v237
                        have h272 : Kept s0 v238 := (by
                          unfold v238
                          split
                          · rename_i x273 e274
                            exact h271
                          · rename_i x275 x276 e277
                            exact (kept_releaseSlot _ _ _ h271))
                        clear_value v238
                        exact (kept_checkInvalidation _ h272)))))))

theorem kept_startVerify {s0 : State} (s : State) (a1 : Nat) (a2 : Task)  (h0 : Kept s0 s) : Kept s0 (startVerify s a1 a2) := by
  unfold startVerify
  exact (by
      extract_lets v177 v178 v179
      exact (kept_setStr _ h0))

theorem kept_verifyEnd {s0 : State} (s : State) (a1 : Nat) (a2 : Nat) (a3 : Task)  (h0 : Kept s0 s) : Kept s0 (verifyEnd s a1 a2 a3) := by
  unfold verifyEnd
  exact (by
      split
      · rename_i x198 t199 e200
        exact (kept_fst_eq e200 (kept_readInput _ _ _ h0))
      · rename_i x201 t202 e203
        exact (by
          split
          · rename_i x209 e210
            exact (kept_clearCtx _ _ _ _ (kept_fst_eq e203 (kept_readInput _ _ _ h0)))
          · rename_i x217 x218 x219 x220 e221
            exact (kept_ite (kept_updTask _ _ _ _ (kept_clearCtx _ _ _ _ (kept_fst_eq e203 (kept_readInput _ _ _ h0)))) (by
              extract_lets v245 v246
              have h247 : Kept s0 v245 := (kept_satCount64 _ _ _ (kept_fst_eq e203 (kept_readInput _ _ _ h0)))
              clear_value v245
              have h251 : Kept s0 v246 := (kept_abortTask _ _ _ _ h247)
              clear_value v246
              exact (kept_faultEventAt _ _ _ (kept_faultEventAt _ _ _ h251))))))

theorem kept_startFeature {s0 : State} (s : State) (a1 : Nat) (a2 : Nat) (a3 : Nat)  (h0 : Kept s0 s) : Kept s0 (startFeature s a1 a2 a3) := by
  unfold startFeature
  exact (kept_resetWalks _ _ _ (kept_setPc _ _ _ _ (kept_holdCtx _ _ _ _ _ (kept_updTask _ _ _ _ h0))))

theorem kept_finishFrame {s0 : State} (s : State) (a1 : Nat) (a2 : Nat) (a3 : Task)  (h0 : Kept s0 s) : Kept s0 (finishFrame s a1 a2 a3).1 := by
  unfold finishFrame
  exact (by
      extract_lets v204 v205 v206
      have h207 : Kept s0 v204 := (kept_gatherStripes _ _ _ _ h0)
      clear_value v204
      have h208 : Kept s0 v206 := (kept_updTask _ _ _ _ h207)
      clear_value v206
      exact (kept_finishUnits _ _ _ _ h208))

theorem kept_endFrame {s0 : State} (s : State) (a1 : Nat) (a2 : Nat)  (h0 : Kept s0 s) : Kept s0 (endFrame s a1 a2) := by
  unfold endFrame
  exact (by
      split
      · rename_i x211 t212 e213
        exact (kept_fst_eq e213 (kept_readInput _ _ _ h0))
      · rename_i x214 t215 e216
        exact (by
          split
          · rename_i x228 e229
            exact (kept_fst_eq e216 (kept_readInput _ _ _ h0))
          · rename_i x240 x241 e242
            exact (kept_ite (kept_abortTask _ _ _ _ (kept_fst_eq e216 (kept_readInput _ _ _ h0))) (by
              split
              · rename_i x252 t253 e254
                exact (kept_fst_eq e254 (kept_pr_ite (f := Prod.fst) (kept_fst (kept_fst_eq e216 (kept_readInput _ _ _ h0))) (kept_finishFrame _ _ _ _ (kept_fst_eq e216 (kept_readInput _ _ _ h0)))))
              · rename_i x259 t260 e261
                exact (by
                  extract_lets v262
                  exact (by
                    split
                    · rename_i x267 x268 e269
                      exact (kept_startFeature _ _ _ _ (kept_fst_eq e261 (kept_pr_ite (f := Prod.fst) (kept_fst (kept_fst_eq e216 (kept_readInput _ _ _ h0))) (kept_finishFrame _ _ _ _ (kept_fst_eq e216 (kept_readInput _ _ _ h0))))))
                    · rename_i x278 e279
                      exact (kept_ite (kept_ite (kept_fst_eq e261 (kept_pr_ite (f := Prod.fst) (kept_fst (kept_fst_eq e216 (kept_readInput _ _ _ h0))) (kept_finishFrame _ _ _ _ (kept_fst_eq e216 (kept_readInput _ _ _ h0))))) (kept_startVerify _ _ _ (kept_fst_eq e261 (kept_pr_ite (f := Prod.fst) (kept_fst (kept_fst_eq e216 (kept_readInput _ _ _ h0))) (kept_finishFrame _ _ _ _ (kept_fst_eq e216 (kept_readInput _ _ _ h0))))))) (kept_ite (kept_fst_eq e261 (kept_pr_ite (f := Prod.fst) (kept_fst (kept_fst_eq e216 (kept_readInput _ _ _ h0))) (kept_finishFrame _ _ _ _ (kept_fst_eq e216 (kept_readInput _ _ _ h0))))) (kept_commitTask _ _ _ _ (kept_fst_eq e261 (kept_pr_ite (f := Prod.fst) (kept_fst (kept_fst_eq e216 (kept_readInput _ _ _ h0))) (kept_finishFrame _ _ _ _ (kept_fst_eq e216 (kept_readInput _ _ _ h0))))))))))))))

theorem kept_execEndTask {s0 : State} (a0 : Nat) (a1 : Nat) (a2 : Sys2Proof.W128) (s : State)  (h0 : Kept s0 s) : KeptOut s0 (execEndTask a0 a1 a2 s) := by
  unfold execEndTask
  exact (kept_out (kept_ite (kept_notIssued _ _ _ h0) (by
      extract_lets v222
      have h223 : Kept s0 v222 := (kept_holdCtx _ _ _ _ _ h0)
      clear_value v222
      exact (kept_ite h223 (by
        split
        · rename_i x243 e244
          exact h223
        · rename_i x248 x249 e250
          exact (kept_ite (kept_startWaiting _ _ _ (kept_clearCtx _ _ _ _ h223)) (kept_ite (kept_verifyEnd _ _ _ _ h223) (kept_ite h223 (kept_endFrame _ _ _ h223)))))))))

end Sys2Proof.Machine
end

