-- ==== Sys2Proof/Laws/Mode.lean ====
section
/-! SUPPORT. What brings the device out of Off or Reset, said once: a relation between a state and one reached from it, with the rules
that carry it through lets, branches, folds and the setters. The files beside this one carry it through every function but those
that power and RST_N drive. -/

namespace Sys2Proof.Machine

/-- From `s0` to `s` the device has stayed in Off or in Reset, if it was there. -/
def Mode (s0 s : State) : Prop := s.pow.st = s0.pow.st ∨ mgmtOn s0 = true

theorem Mode.refl (s : State) : Mode s s := .inl rfl
theorem Mode.of_st {s0 s t : State} (h : Mode s0 s) (e : t.pow.st = s.pow.st) : Mode s0 t := by
  unfold Mode at *; rw [e]; exact h

/-- A command's outcome. -/
def ModeOut (s0 : State) (o : Out) : Prop := ∀ t, o = .next t → Mode s0 t

/-! ### Rules -/

theorem mode_letS {s0 e : State} {b : State → State} (h1 : Mode s0 e) (h2 : ∀ t, Mode s0 t → Mode s0 (b t)) : Mode s0 (have t := e; b t) := h2 e h1
theorem mode_let {s0 : State} {α : Sort _} {e : α} {b : α → State} (h : ∀ t, Mode s0 (b t)) : Mode s0 (have t := e; b t) := h e
theorem mode_zeta {s0 : State} {α : Sort _} {e : α} {b : α → State} (h : Mode s0 (b e)) : Mode s0 (have t := e; b t) := h
theorem modeOut_zeta {s0 : State} {α : Sort _} {e : α} {b : α → Out} (h : ModeOut s0 (b e)) : ModeOut s0 (have t := e; b t) := h
theorem mode_ite {s0 : State} {c : Prop} [Decidable c] {a b : State} (h1 : Mode s0 a) (h2 : Mode s0 b) : Mode s0 (if c then a else b) := by
  split <;> assumption
theorem mode_foldl {s0 : State} {α : Type _} {f : State → α → State} {l : List α} {s : State} (h : ∀ s x, Mode s0 s → Mode s0 (f s x)) (hs : Mode s0 s) :
    Mode s0 (l.foldl f s) := by
  induction l generalizing s with
  | nil => exact hs
  | cons x l ih => exact ih (h s x hs)
theorem mode_out {s0 s : State} (h : Mode s0 s) : ModeOut s0 (.next s) := fun _ e => by cases e; exact h
theorem modeOut_letS {s0 e : State} {b : State → Out} (h1 : Mode s0 e) (h2 : ∀ t, Mode s0 t → ModeOut s0 (b t)) : ModeOut s0 (have t := e; b t) := h2 e h1
theorem modeOut_let {s0 : State} {α : Sort _} {e : α} {b : α → Out} (h : ∀ t, ModeOut s0 (b t)) : ModeOut s0 (have t := e; b t) := h e
theorem modeOut_ite {s0 : State} {c : Prop} [Decidable c] {a b : Out} (h1 : ModeOut s0 a) (h2 : ModeOut s0 b) : ModeOut s0 (if c then a else b) := by
  split <;> assumption

/-- The state inside a result that may fail. -/
def ModeE {ε α : Type} (f : α → State) (s0 : State) (x : Except ε α) : Prop := ∀ t, x = .ok t → Mode s0 (f t)
def ModeOpt {α : Type} (f : α → State) (s0 : State) (x : Option α) : Prop := ∀ t, x = some t → Mode s0 (f t)

section
variable {ε α : Type} {f : α → State} {s0 : State}
theorem modeE_ok {a : α} (h : Mode s0 (f a)) : ModeE (ε := ε) f s0 (.ok a) := fun _ e => by cases e; exact h
theorem modeE_pure {a : α} (h : Mode s0 (f a)) : ModeE (ε := ε) f s0 (pure a) := fun _ e => by cases e; exact h
theorem modeE_error {e : ε} : ModeE f s0 (.error e) := fun _ e => by cases e
theorem modeE_throw {e : ε} : ModeE f s0 (throw e : Except ε α) := fun _ e => by cases e
theorem modeE_bind {β : Type} {x : Except ε β} {g : β → Except ε α} (h : ∀ b, x = .ok b → ModeE f s0 (g b)) : ModeE f s0 (x >>= g) := by
  intro t e
  cases x with
  | error => cases e
  | ok b => exact h b rfl t e
theorem modeE_foldlM {β : Type} {g : α → β → Except ε α} {l : List β} {a : α} (h : ∀ a x, Mode s0 (f a) → ModeE f s0 (g a x)) (ha : Mode s0 (f a)) :
    ModeE f s0 (l.foldlM g a) := by
  induction l generalizing a with
  | nil => exact modeE_pure ha
  | cons x l ih =>
    intro t e
    rw [List.foldlM_cons] at e
    cases hx : g a x with
    | error err => rw [hx] at e; cases e
    | ok b => rw [hx] at e; exact ih (h a x ha b hx) t e
theorem modeE_mapError {δ : Type} {g : ε → δ} {x : Except ε α} (h : ModeE f s0 x) : ModeE f s0 (x.mapError g) := by
  intro t e
  cases x with
  | error => cases e
  | ok b => cases e; exact h _ rfl
theorem mode_pr_foldl {β : Type} {g : α → β → α} {l : List β} {a : α} (h : ∀ a x, Mode s0 (f a) → Mode s0 (f (g a x))) (ha : Mode s0 (f a)) :
    Mode s0 (f (l.foldl g a)) := by
  induction l generalizing a with
  | nil => exact ha
  | cons x l ih => exact ih (h a x ha)
theorem modeE_letS {e : State} {b : State → Except ε α} (h1 : Mode s0 e) (h2 : ∀ t, Mode s0 t → ModeE f s0 (b t)) : ModeE f s0 (have t := e; b t) := h2 e h1
theorem modeE_let {γ : Sort _} {e : γ} {b : γ → Except ε α} (h : ∀ t, ModeE f s0 (b t)) : ModeE f s0 (have t := e; b t) := h e
theorem modeE_ite {c : Prop} [Decidable c] {a b : Except ε α} (h1 : ModeE f s0 a) (h2 : ModeE f s0 b) : ModeE f s0 (if c then a else b) := by
  split <;> assumption
theorem modeOpt_some {a : α} (h : Mode s0 (f a)) : ModeOpt f s0 (some a) := fun _ e => by cases e; exact h
theorem modeOpt_none : ModeOpt f s0 none := fun _ e => by cases e
theorem modeOpt_letS {e : State} {b : State → Option α} (h1 : Mode s0 e) (h2 : ∀ t, Mode s0 t → ModeOpt f s0 (b t)) : ModeOpt f s0 (have t := e; b t) := h2 e h1
theorem modeOpt_let {γ : Sort _} {e : γ} {b : γ → Option α} (h : ∀ t, ModeOpt f s0 (b t)) : ModeOpt f s0 (have t := e; b t) := h e
theorem modeOpt_ite {c : Prop} [Decidable c] {a b : Option α} (h1 : ModeOpt f s0 a) (h2 : ModeOpt f s0 b) : ModeOpt f s0 (if c then a else b) := by
  split <;> assumption
/-- The state inside a pair. -/
theorem mode_pr_letS {e : State} {b : State → α} (h1 : Mode s0 e) (h2 : ∀ t, Mode s0 t → Mode s0 (f (b t))) : Mode s0 (f (have t := e; b t)) := h2 e h1
theorem mode_pr_let {γ : Sort _} {e : γ} {b : γ → α} (h : ∀ t, Mode s0 (f (b t))) : Mode s0 (f (have t := e; b t)) := h e
theorem mode_pr_ite {c : Prop} [Decidable c] {a b : α} (h1 : Mode s0 (f a)) (h2 : Mode s0 (f b)) : Mode s0 (f (if c then a else b)) := by
  split <;> assumption
theorem mode_pr_eq {x y : α} (h : Mode s0 (f x)) (e : x = y) : Mode s0 (f y) := e ▸ h
theorem mode_fst {γ : Type} {s : State} {a : γ} (h : Mode s0 s) : Mode s0 (s, a).1 := h
theorem mode_snd {γ : Type} {s : State} {a : γ} (h : Mode s0 s) : Mode s0 (a, s).2 := h
theorem mode_snd_snd {γ δ : Type} {s : State} {a : γ} {b : δ} (h : Mode s0 s) : Mode s0 (a, b, s).2.2 := h
/-- From an equation that a match leaves. -/
theorem mode_fst_eq {γ : Type} {x : State × γ} {s : State} {a : γ} (e : x = (s, a)) (h : Mode s0 x.1) : Mode s0 s := by subst e; exact h
theorem mode_snd_eq {γ : Type} {x : γ × State} {s : State} {a : γ} (e : x = (a, s)) (h : Mode s0 x.2) : Mode s0 s := by subst e; exact h
theorem mode_snd_snd_eq {γ δ : Type} {x : γ × δ × State} {s : State} {a : γ} {b : δ} (e : x = (a, b, s)) (h : Mode s0 x.2.2) : Mode s0 s := by
  subst e; exact h
theorem modeE_zeta {γ : Sort _} {e : γ} {b : γ → Except ε α} (h : ModeE f s0 (b e)) : ModeE f s0 (have t := e; b t) := h
theorem modeOpt_zeta {γ : Sort _} {e : γ} {b : γ → Option α} (h : ModeOpt f s0 (b e)) : ModeOpt f s0 (have t := e; b t) := h
theorem mode_pr_zeta {γ : Sort _} {e : γ} {b : γ → α} (h : Mode s0 (f (b e))) : Mode s0 (f (have t := e; b t)) := h
theorem modeE_get {x : Except ε α} {a : α} (e : x = .ok a) (h : ModeE f s0 x) : Mode s0 (f a) := h a e
theorem modeOpt_get {x : Option α} {a : α} (e : x = some a) (h : ModeOpt f s0 x) : Mode s0 (f a) := h a e
end

/-! ### Setters -/

variable {s0 s : State}

theorem mode_setCtl (c : SMap W32) (h : Mode s0 s) : Mode s0 (s.setCtl c) := h.of_st rfl
theorem mode_setMem (c : Memory) (h : Mode s0 s) : Mode s0 (s.setMem c) := h.of_st rfl
theorem mode_setCores (c : SMap Core) (h : Mode s0 s) : Mode s0 (s.setCores c) := h.of_st rfl
theorem mode_setImg (c : Image) (h : Mode s0 s) : Mode s0 (s.setImg c) := h.of_st rfl
theorem mode_setLd (c : Loader) (h : Mode s0 s) : Mode s0 (s.setLd c) := h.of_st rfl
theorem mode_setEth (c : Eth) (h : Mode s0 s) : Mode s0 (s.setEth c) := h.of_st rfl
theorem mode_setFab (c : Fabric) (h : Mode s0 s) : Mode s0 (s.setFab c) := h.of_st rfl
theorem mode_setDrk (c : Darkroom) (h : Mode s0 s) : Mode s0 (s.setDrk c) := h.of_st rfl
theorem mode_setMgt (c : Mgt) (h : Mode s0 s) : Mode s0 (s.setMgt c) := h.of_st rfl
theorem mode_setSht (c : Shutter) (h : Mode s0 s) : Mode s0 (s.setSht c) := h.of_st rfl
theorem mode_setDom (c : SMap Nat) (h : Mode s0 s) : Mode s0 (s.setDom c) := h.of_st rfl
theorem mode_setRep (c : Repairs) (h : Mode s0 s) : Mode s0 (s.setRep c) := h.of_st rfl
theorem mode_setFlash (c : Flash) (h : Mode s0 s) : Mode s0 (s.setFlash c) := h.of_st rfl
theorem mode_setStr (c : Streams) (h : Mode s0 s) : Mode s0 (s.setStr c) := h.of_st rfl
theorem mode_setPow {c : Power} (h : Mode s0 s) (hc : c.st = s.pow.st) : Mode s0 (s.setPow c) := h.of_st hc
theorem mode_emit (m : OutMsg) (h : Mode s0 s) : Mode s0 (s.emit m) := h.of_st rfl
theorem mode_rawFree (k : Nat) (h : Mode s0 s) : Mode s0 { s with freeIdx := k } := h.of_st rfl
theorem mode_rawLatch (k : SMap (Nat × Nat × Nat)) (h : Mode s0 s) : Mode s0 { s with latch := k } := h.of_st rfl
theorem mode_rawOwner (o : List Byte) (h : Mode s0 s) : Mode s0 { s with owner := o } := h.of_st rfl
theorem mode_fresh (h : Mode s0 s) : Mode s0 s.fresh.2 := h.of_st rfl
theorem modeOut_get {o : Out} {t : State} (e : o = .next t) (h : ModeOut s0 o) : Mode s0 t := h t e

end Sys2Proof.Machine
end

