-- ==== Sys2Proof/Laws/ModeBase.lean ====
section
/-! SUPPORT. `Mode` through the shared operations, rings, tasks and channels: one lemma per function. -/

namespace Sys2Proof.Machine

/-! ### Machine/Ops.lean -/

theorem mode_wr32 {s0 : State} (s : State) (a1 : Nat) (a2 : Nat)  (h0 : Mode s0 s) : Mode s0 (wr32 s a1 a2) := by
  unfold wr32
  exact (mode_setCtl _ h0)

theorem mode_wr64 {s0 : State} (s : State) (a1 : Nat) (a2 : Nat)  (h0 : Mode s0 s) : Mode s0 (wr64 s a1 a2) := by
  unfold wr64
  exact (mode_wr32 _ _ _ (mode_wr32 _ _ _ h0))

theorem mode_wrBits {s0 : State} (s : State) (a1 : Nat) (a2 : Nat) (a3 : Nat) (a4 : Nat)  (h0 : Mode s0 s) : Mode s0 (wrBits s a1 a2 a3 a4) := by
  unfold wrBits
  exact (mode_wr32 _ _ _ h0)

theorem mode_count64 {s0 : State} (s : State) (a1 : Nat) (a2 : Nat)  (h0 : Mode s0 s) : Mode s0 (count64 s a1 a2) := by
  unfold count64
  exact (mode_wr64 _ _ _ h0)

theorem mode_satCount64 {s0 : State} (s : State) (a1 : Nat) (a2 : Nat)  (h0 : Mode s0 s) : Mode s0 (satCount64 s a1 a2) := by
  unfold satCount64
  exact (mode_wr64 _ _ _ h0)

theorem mode_orWord {s0 : State} (s : State) (a1 : Nat) (a2 : Nat)  (h0 : Mode s0 s) : Mode s0 (orWord s a1 a2) := by
  unfold orWord
  exact (mode_wr32 _ _ _ h0)

theorem mode_sticky {s0 : State} (s : State) (a1 : Nat) (a2 : Nat)  (h0 : Mode s0 s) : Mode s0 (sticky s a1 a2) := by
  unfold sticky
  exact (mode_orWord _ _ _ h0)

theorem mode_raise {s0 : State} (s : State) (a1 : Nat) (a2 : Nat)  (h0 : Mode s0 s) : Mode s0 (raise s a1 a2) := by
  unfold raise
  exact (mode_wr32 _ _ _ h0)

theorem mode_raiseBy {s0 : State} (s : State) (a1 : Nat)  (h0 : Mode s0 s) : Mode s0 (raiseBy s a1) := by
  unfold raiseBy
  exact (by
      split
      · rename_i x0 x1 e2
        exact (mode_raise _ _ _ h0)
      · rename_i x3 e4
        exact h0)

theorem mode_setCore {s0 : State} (s : State) (a1 : Nat) (a2 : Core)  (h0 : Mode s0 s) : Mode s0 (setCore s a1 a2) := by
  unfold setCore
  exact (mode_setCores _ h0)

theorem mode_setCtx {s0 : State} (s : State) (a1 : Nat) (a2 : Nat) (a3 : Ctx)  (h0 : Mode s0 s) : Mode s0 (setCtx s a1 a2 a3) := by
  unfold setCtx
  exact (mode_setCore _ _ _ h0)

theorem mode_updTask {s0 : State} (s : State) (a1 : Nat) (a2 : Nat) (a3 : Task → Task)  (h0 : Mode s0 s) : Mode s0 (updTask s a1 a2 a3) := by
  unfold updTask
  exact (mode_setCtx _ _ _ _ h0)

theorem mode_setPc {s0 : State} (s : State) (a1 : Nat) (a2 : Nat) (a3 : Nat)  (h0 : Mode s0 s) : Mode s0 (setPc s a1 a2 a3) := by
  unfold setPc
  exact (mode_wr32 _ _ _ h0)

theorem mode_setSem {s0 : State} (s : State) (a1 : Nat) (a2 : Nat) (a3 : Nat)  (h0 : Mode s0 s) : Mode s0 (setSem s a1 a2 a3) := by
  unfold setSem
  exact (mode_wr32 _ _ _ h0)

theorem mode_setSeqStatus {s0 : State} (s : State) (a1 : Nat) (a2 : Nat) (a3 : Bool) (a4 : Bool)  (h0 : Mode s0 s) : Mode s0 (setSeqStatus s a1 a2 a3 a4) := by
  unfold setSeqStatus
  exact (mode_wr32 _ _ _ h0)

theorem mode_fire {s0 : State} (s : State) (a1 : Nat)  (h0 : Mode s0 s) : Mode s0 (fire s a1) := by
  unfold fire
  exact (by
      extract_lets v5 v6 v7 v8 v9 v10
      have h11 : Mode s0 v8 := (mode_wr32 _ _ _ h0)
      clear_value v8
      have h12 : Mode s0 v9 := (mode_wr64 _ _ _ h11)
      clear_value v9
      exact (mode_ite (mode_count64 _ _ _ h0) (mode_setSht _ h12)))

theorem mode_arrive {s0 : State} (s : State) (a1 : Nat) (a2 : Nat)  (h0 : Mode s0 s) : Mode s0 (arrive s a1 a2) := by
  unfold arrive
  exact (mode_ite h0 (by
      extract_lets v13 v14 v15 v16
      have h17 : Mode s0 v13 := (mode_orWord _ _ _ h0)
      clear_value v13
      have h18 : Mode s0 v15 := (mode_wrBits _ _ _ _ _ h17)
      clear_value v15
      have h19 : Mode s0 v16 := (mode_wr32 _ _ _ h18)
      clear_value v16
      exact (mode_ite (mode_fire _ _ (mode_wrBits _ _ _ _ _ h19)) h19)))

theorem mode_storeWrite {s0 : State} (s : State) (a1 : Nat) (a2 : Nat) (a3 : List Sys2Proof.Byte)  (h0 : Mode s0 s) : ModeE (fun x => x) s0 (storeWrite s a1 a2 a3) := by
  induction a3 generalizing s a1 a2 with
  | nil =>
    unfold storeWrite
    exact (modeE_ok h0)
  | cons x xs ih =>
    unfold storeWrite
    exact (by
        split
        · rename_i x46 e47
          exact (modeE_error)
        · rename_i x48 x49 e50
          exact (modeE_ite (modeE_error) (modeE_ite (modeE_error) (ih _ _ _ (mode_setMem _ h0)))))

theorem mode_storePoke {s0 : State} (s : State) (a1 : Nat) (a2 : Nat) (a3 : Nat) (a4 : Nat)  (h0 : Mode s0 s) : Mode s0 (storePoke s a1 a2 a3 a4) := by
  unfold storePoke
  exact (by
      split
      · rename_i x20 t21 e22
        exact (modeE_get (f := fun x => x) e22 (mode_storeWrite _ _ _ _ h0))
      · rename_i x62 x63 e64
        exact h0)

theorem mode_hbmError {s0 : State} (s : State) (a1 : Nat)  (h0 : Mode s0 s) : Mode s0 (hbmError s a1) := by
  unfold hbmError
  exact (by
      extract_lets v23 v24
      exact (mode_arrive _ _ _ (mode_raise _ _ _ (mode_sticky _ _ _ (mode_count64 _ _ _ h0)))))

theorem mode_hbmWrite {s0 : State} (s : State) (a1 : Nat) (a2 : Bool) (a3 : Nat) (a4 : List Sys2Proof.Byte)  (h0 : Mode s0 s) : ModeE (fun x => x) s0 (hbmWrite s a1 a2 a3 a4) := by
  induction a4 generalizing s a1 a2 a3 with
  | nil =>
    unfold hbmWrite
    exact (modeE_ok h0)
  | cons x xs ih =>
    unfold hbmWrite
    exact (by
        split
        · rename_i x54 x55 e56
          exact (modeE_error)
        · rename_i x57 x58 x59 x60 e61
          exact (modeE_ite (modeE_error) (ih _ _ _ _ (mode_setMem _ h0))))

theorem mode_hbmPutByte {s0 : State} (s : State) (a1 : Nat) (a2 : Nat) (a3 : Nat) (a4 : Sys2Proof.Byte)  (h0 : Mode s0 s) : Mode s0 (hbmPutByte s a1 a2 a3 a4) := by
  unfold hbmPutByte
  exact (by
      split
      · rename_i x25 x26 e27
        exact h0
      · rename_i x28 x29 x30 x31 e32
        exact (mode_ite h0 (mode_setMem _ h0)))

theorem mode_hbmPut {s0 : State} (s : State) (a1 : Nat) (a2 : Nat) (a3 : List Sys2Proof.Byte)  (h0 : Mode s0 s) : Mode s0 (hbmPut s a1 a2 a3) := by
  induction a3 generalizing s a1 a2 with
  | nil =>
    unfold hbmPut
    exact h0
  | cons x xs ih =>
    unfold hbmPut
    exact (ih _ _ _ (mode_hbmPutByte _ _ _ _ _ h0))

theorem mode_noteState {s0 : State} (s : State) (a1 : Nat)  (h0 : Mode s0 s) : Mode s0 (noteState s a1) := by
  unfold noteState
  exact (mode_setMem _ h0)

theorem mode_countPacked {s0 : State} (s : State) (a1 : Nat) (a2 : Nat)  (h0 : Mode s0 s) : Mode s0 (countPacked s a1 a2) := by
  unfold countPacked
  exact (by
      extract_lets v33 v34 v35
      have h36 : Mode s0 v34 := (mode_count64 _ _ _ (mode_count64 _ _ _ h0))
      clear_value v34
      have h37 : Mode s0 v35 := (mode_ite (mode_count64 _ _ _ h36) (mode_ite (mode_count64 _ _ _ h36) h36))
      clear_value v35
      exact (mode_count64 _ _ _ h37))

theorem mode_hbmPoke {s0 : State} (s : State) (a1 : Nat) (a2 : Nat) (a3 : List Sys2Proof.Byte)  (h0 : Mode s0 s) : Mode s0 (hbmPoke s a1 a2 a3) := by
  unfold hbmPoke
  exact (by
      extract_lets v38
      exact (mode_foldl (fun t39 x40 h41 => (by
        extract_lets v42
        have h43 : Mode s0 v42 := (mode_noteState _ _ h41)
        clear_value v42
        exact (mode_countPacked _ _ _ h43))) (mode_hbmPut _ _ _ _ h0)))

theorem mode_noteLost {s0 : State} (s : State) (a1 : Nat) (a2 : Nat) (a3 : Nat)  (h0 : Mode s0 s) : Mode s0 (noteLost s a1 a2 a3) := by
  unfold noteLost
  exact (by
      extract_lets v44 v45
      exact (mode_ite h0 (mode_foldl (fun t51 x52 h53 => (mode_hbmError _ _ h53)) (mode_fresh h0))))

theorem mode_setRem {s0 : State} (s : State) (a1 : Nat) (a2 : Nat) (a3 : Int)  (h0 : Mode s0 s) : Mode s0 (setRem s a1 a2 a3) := by
  unfold setRem
  exact (mode_wr64 _ _ _ h0)

theorem mode_charge {s0 : State} (s : State) (a1 : Nat) (a2 : Nat) (a3 : Nat)  (h0 : Mode s0 s) : Mode s0 (charge s a1 a2 a3) := by
  unfold charge
  exact (mode_setRem _ _ _ _ h0)

theorem mode_refused {s0 : State} (s : State) (a1 : Nat) (a2 : Nat)  (h0 : Mode s0 s) : Mode s0 (refused s a1 a2) := by
  unfold refused
  exact (mode_ite h0 (by
      extract_lets v68 v69 v70 v71
      have h72 : Mode s0 v69 := (mode_setStr _ h0)
      clear_value v69
      have h73 : Mode s0 v70 := (mode_count64 _ _ _ h72)
      clear_value v70
      exact (mode_satCount64 _ _ _ (mode_sticky _ _ _ h73))))

theorem mode_chargeHbm {s0 : State} (s : State) (a1 : Nat) (a2 : Nat) (a3 : Nat)  (h0 : Mode s0 s) : Mode s0 (chargeHbm s a1 a2 a3) := by
  unfold chargeHbm
  exact (mode_count64 _ _ _ (mode_charge _ _ _ _ h0))

theorem mode_chargeFetch {s0 : State} (s : State) (a1 : Nat) (a2 : Nat) (a3 : Coll)  (h0 : Mode s0 s) : Mode s0 (chargeFetch s a1 a2 a3) := by
  unfold chargeFetch
  exact (by
      extract_lets v65 v66
      have h67 : Mode s0 v66 := (mode_count64 _ _ _ h0)
      clear_value v66
      exact (mode_chargeHbm _ _ _ _ (mode_count64 _ _ _ h67)))

theorem mode_endReads {s0 : State} (s : State) (a1 : Nat) (a2 : Option Coll)  (h0 : Mode s0 s) : Mode s0 (endReads s a1 a2) := by
  unfold endReads
  exact (by
      split
      · rename_i x80
        exact h0
      · rename_i x81 x82
        exact (mode_chargeFetch _ _ _ _ h0))

theorem mode_endWrites {s0 : State} (s : State) (a1 : Nat) (a2 : Option Coll)  (h0 : Mode s0 s) : Mode s0 (endWrites s a1 a2) := by
  unfold endWrites
  exact (by
      split
      · rename_i x74
        exact h0
      · rename_i x75 x76
        exact (by
          extract_lets v86 v87
          have h88 : Mode s0 v87 := (mode_countPacked _ _ _ h0)
          clear_value v87
          exact (mode_ite (mode_chargeHbm _ _ _ _ h88) (mode_chargeFetch _ _ _ _ h88))))

theorem mode_endColls {s0 : State} (s : State) (a1 : Nat) (a2 : Mover)  (h0 : Mode s0 s) : Mode s0 (endColls s a1 a2) := by
  unfold endColls
  exact (mode_endWrites _ _ _ (mode_endReads _ _ _ h0))

theorem mode_chargeSectors {s0 : State} (s : State) (a1 : Nat) (a2 : Bool) (a3 : Nat) (a4 : Nat)  (h0 : Mode s0 s) : Mode s0 (chargeSectors s a1 a2 a3 a4) := by
  unfold chargeSectors
  exact (mode_foldl (fun t77 x78 h79 => (by
      split
      · rename_i x83 x84 x85
        exact (mode_chargeHbm _ _ _ _ h79))) h0)

theorem mode_chargeRead {s0 : State} (s : State) (a1 : Nat) (a2 : Option (Nat × Bool)) (a3 : Nat) (a4 : Mover)  (h0 : Mode s0 s) : Mode s0 (chargeRead s a1 a2 a3 a4).1 := by
  unfold chargeRead
  exact (by
      split
      · rename_i x97
        exact h0
      · rename_i x98 x99
        exact (mode_fst (mode_chargeSectors _ _ _ _ _ (mode_endReads _ _ _ h0)))
      · rename_i x102 x103
        exact (mode_fst (mode_endReads _ _ _ h0)))

theorem mode_chargeWrite {s0 : State} (s : State) (a1 : Nat) (a2 : Option (Nat × Bool)) (a3 : Nat) (a4 : Nat) (a5 : Mover)  (h0 : Mode s0 s) : Mode s0 (chargeWrite s a1 a2 a3 a4 a5).1 := by
  unfold chargeWrite
  exact (by
      split
      · rename_i x94
        exact h0
      · rename_i x95 x96
        exact (mode_fst (mode_chargeSectors _ _ _ _ _ (mode_endWrites _ _ _ h0)))
      · rename_i x100 x101
        exact (mode_fst (mode_endWrites _ _ _ (mode_noteState _ _ h0))))

theorem mode_touchTlb {s0 : State} (s : State) (a1 : Nat) (a2 : Nat)  (h0 : Mode s0 s) : Mode s0 (touchTlb s a1 a2) := by
  unfold touchTlb
  exact (by
      extract_lets v89 v90 v91 v92
      have h93 : Mode s0 v91 := (mode_count64 _ _ _ h0)
      clear_value v91
      exact (mode_ite h0 (mode_ite (mode_setCore _ _ _ h93) (by
        split
        · rename_i x104 x105 t106 e107
          exact (mode_setCore _ _ _ (mode_snd_eq e107 (mode_fresh h93)))))))

/-! ### Machine/Net.lean -/

theorem mode_noteWaiting {s0 : State} (s : State) (a1 : Nat) (a2 : Nat) (a3 : Bool)  (h0 : Mode s0 s) : Mode s0 (noteWaiting s a1 a2 a3) := by
  unfold noteWaiting
  exact (by
      extract_lets v0 v1
      exact (mode_ite h0 (mode_setEth _ h0)))

theorem mode_enqueue {s0 : State} (s : State) (a1 : Nat) (a2 : Nat) (a3 : List Sys2Proof.Byte)  (h0 : Mode s0 s) : Mode s0 (enqueue s a1 a2 a3) := by
  unfold enqueue
  exact (by
      extract_lets v2 v3
      have h4 : Mode s0 v2 := (mode_noteWaiting _ _ _ _ h0)
      clear_value v2
      exact (mode_setEth _ h4))

theorem mode_sendUdp {s0 : State} (s : State) (a1 : Nat) (a2 : Nat) (a3 : Nat) (a4 : List Sys2Proof.Byte) (a5 : List Sys2Proof.Byte) (a6 : Nat) (a7 : List Sys2Proof.Byte)  (h0 : Mode s0 s) : Mode s0 (sendUdp s a1 a2 a3 a4 a5 a6 a7) := by
  unfold sendUdp
  exact (mode_enqueue _ _ _ _ h0)

theorem mode_setSession {s0 : State} (s : State) (a1 : Nat) (a2 : Option Session)  (h0 : Mode s0 s) : Mode s0 (setSession s a1 a2) := by
  unfold setSession
  exact (mode_setEth _ h0)

theorem mode_closeSession {s0 : State} (s : State) (a1 : Nat)  (h0 : Mode s0 s) : Mode s0 (closeSession s a1) := by
  unfold closeSession
  exact (by
      extract_lets v5 v6
      have h7 : Mode s0 v5 := (mode_setSession _ _ _ h0)
      clear_value v5
      exact (mode_setStr _ h7))

theorem mode_hcpWire {s0 : State} (s : State) (a1 : Session) (a2 : List Sys2Proof.Byte)  (h0 : Mode s0 s) : Mode s0 (hcpWire s a1 a2) := by
  unfold hcpWire
  exact (mode_sendUdp _ _ _ _ _ _ _ _ h0)

theorem mode_hcpAnswer {s0 : State} (s : State) (a1 : Nat) (a2 : Nat) (a3 : Nat) (a4 : Nat) (a5 : List Sys2Proof.Byte) (a6 : Nat)  (h0 : Mode s0 s) : Mode s0 (hcpAnswer s a1 a2 a3 a4 a5 a6) := by
  unfold hcpAnswer
  exact (by
      split
      · rename_i x12 e13
        exact h0
      · rename_i x14 x15 e16
        exact (mode_ite (by
          extract_lets v17 v18
          exact (mode_hcpWire _ _ _ (mode_setSession _ _ _ h0))) (mode_setSession _ _ _ h0)))

theorem mode_hcpSend {s0 : State} (s : State) (a1 : Nat) (a2 : Nat) (a3 : Nat) (a4 : Nat) (a5 : List Sys2Proof.Byte)  (h0 : Mode s0 s) : Mode s0 (hcpSend s a1 a2 a3 a4 a5) := by
  unfold hcpSend
  exact (mode_hcpAnswer _ _ _ _ _ _ _ h0)

theorem mode_deviceEvent {s0 : State} (s : State) (a1 : Nat) (a2 : Nat) (a3 : Nat) (a4 : Nat)  (h0 : Mode s0 s) : Mode s0 (deviceEvent s a1 a2 a3 a4) := by
  unfold deviceEvent
  exact (by
      extract_lets v8
      exact (mode_foldl (fun t9 x10 h11 => (mode_hcpSend _ _ _ _ _ _ h11)) h0))

/-! ### Machine/Channels.lean -/

theorem mode_sharedPoke {s0 : State} (s : State) (a1 : Nat) (a2 : List Sys2Proof.Byte)  (h0 : Mode s0 s) : Mode s0 (sharedPoke s a1 a2) := by
  unfold sharedPoke
  exact (mode_setMem _ h0)

theorem mode_updChan {s0 : State} (s : State) (a1 : Nat) (a2 : FChan → FChan)  (h0 : Mode s0 s) : Mode s0 (updChan s a1 a2) := by
  unfold updChan
  exact (mode_setFab _ h0)

theorem mode_chanWrite {s0 : State} (s : State) (a1 : FChan) (a2 : Nat) (a3 : List Sys2Proof.Byte)  (h0 : Mode s0 s) : Mode s0 (chanWrite s a1 a2 a3) := by
  unfold chanWrite
  exact (mode_ite (mode_hbmPoke _ _ _ _ h0) (mode_sharedPoke _ _ _ h0))

theorem mode_restoreStore {s0 : State} (s : State) (a1 : SMap Nat)  (h0 : Mode s0 s) : Mode s0 (restoreStore s a1) := by
  unfold restoreStore
  exact (mode_setMem _ h0)

theorem mode_resetChan {s0 : State} (s : State) (a1 : Nat)  (h0 : Mode s0 s) : Mode s0 (resetChan s a1) := by
  unfold resetChan
  exact (by
      split
      · rename_i x0 e1
        exact h0
      · rename_i x2 x3 e4
        exact (by
          extract_lets v5 v6
          exact (mode_ite (mode_updChan _ _ _ h0) (mode_updChan _ _ _ h0))))

theorem mode_endChannels {s0 : State} (s : State) (a1 : Nat)  (h0 : Mode s0 s) : Mode s0 (endChannels s a1) := by
  unfold endChannels
  exact (mode_foldl (fun t7 x8 h9 => (mode_updChan _ _ _ h9)) h0)

theorem mode_abortChannels {s0 : State} (s : State) (a1 : Nat) (a2 : SMap Nat) (a3 : Nat)  (h0 : Mode s0 s) : Mode s0 (abortChannels s a1 a2 a3) := by
  unfold abortChannels
  exact (mode_ite h0 (by
      extract_lets v10
      have h11 : Mode s0 v10 := (mode_foldl (fun t12 x13 h14 => (mode_resetChan _ _ h14)) (mode_restoreStore _ _ h0))
      clear_value v10
      exact (mode_ite h11 (mode_endChannels _ _ h11))))

/-! ### Machine/Rings.lean -/

theorem mode_setEntry {s0 : State} (s : State) (a1 : Nat) (a2 : Sys2Proof.W512)  (h0 : Mode s0 s) : Mode s0 (setEntry s a1 a2) := by
  unfold setEntry
  exact (mode_setStr _ h0)

theorem mode_setProd {s0 : State} (s : State) (a1 : Nat) (a2 : Nat)  (h0 : Mode s0 s) : Mode s0 (setProd s a1 a2) := by
  unfold setProd
  exact (mode_wrBits _ _ _ _ _ h0)

theorem mode_setCons {s0 : State} (s : State) (a1 : Nat) (a2 : Nat)  (h0 : Mode s0 s) : Mode s0 (setCons s a1 a2) := by
  unfold setCons
  exact (mode_wrBits _ _ _ _ _ h0)

theorem mode_countOvf {s0 : State} (s : State) (a1 : Nat)  (h0 : Mode s0 s) : Mode s0 (countOvf s a1) := by
  unfold countOvf
  exact (mode_wr32 _ _ _ h0)

theorem mode_setOslot {s0 : State} (s : State) (a1 : Nat) (a2 : Nat) (a3 : Option OSlot)  (h0 : Mode s0 s) : Mode s0 (setOslot s a1 a2 a3) := by
  unfold setOslot
  exact (mode_setStr _ h0)

theorem mode_setIslot {s0 : State} (s : State) (a1 : Nat) (a2 : Nat) (a3 : Option ISlot)  (h0 : Mode s0 s) : Mode s0 (setIslot s a1 a2 a3) := by
  unfold setIslot
  exact (mode_setStr _ h0)

theorem mode_pushFrom {s0 : State} (s : State) (a1 : Nat) (a2 : Nat) (a3 : Nat)  (h0 : Mode s0 s) : Mode s0 (pushFrom s a1 a2 a3) := by
  induction a3 generalizing s a1 a2 with
  | zero =>
    unfold pushFrom
    exact h0
  | succ k ih =>
    unfold pushFrom
    exact (by
        split
        · rename_i x24 e25
          exact (ih _ _ _ h0)
        · rename_i x26 x27 e28
          exact (by
            split
            · rename_i x29 e30
              exact h0
            · rename_i x31 x32 e33
              exact (mode_ite (ih _ _ _ h0) (by
                extract_lets v34 v35 v36
                have h37 : Mode s0 v34 := (mode_setOslot _ _ _ _ h0)
                clear_value v34
                exact (ih _ _ _ (mode_hcpSend _ _ _ _ _ _ (mode_noteLost _ _ _ _ h37)))))))

theorem mode_pushRing {s0 : State} (s : State) (a1 : Nat)  (h0 : Mode s0 s) : Mode s0 (pushRing s a1) := by
  unfold pushRing
  exact (mode_ite h0 (mode_pushFrom _ _ _ _ h0))

theorem mode_putRecord {s0 : State} (s : State) (a1 : Nat) (a2 : List Sys2Proof.Byte)  (h0 : Mode s0 s) : Mode s0 (putRecord s a1 a2) := by
  unfold putRecord
  exact (by
      extract_lets v0 v1 v2 v3
      have h4 : Mode s0 v2 := (mode_hbmPoke _ _ _ _ h0)
      clear_value v2
      have h5 : Mode s0 v3 := (mode_setOslot _ _ _ _ h4)
      clear_value v3
      exact (mode_pushRing _ _ (mode_setProd _ _ _ h5)))

theorem mode_postRecord {s0 : State} (s : State) (a1 : Nat) (a2 : Bool) (a3 : List Sys2Proof.Byte)  (h0 : Mode s0 s) : Mode s0 (postRecord s a1 a2 a3) := by
  unfold postRecord
  exact (mode_ite h0 (mode_ite (mode_ite (mode_countOvf _ _ h0) (mode_setStr _ h0)) (mode_putRecord _ _ _ h0)))

theorem mode_payOwed {s0 : State} (s : State) (a1 : Nat) (a2 : Nat)  (h0 : Mode s0 s) : Mode s0 (payOwed s a1 a2) := by
  induction a2 generalizing s a1 with
  | zero =>
    unfold payOwed
    exact h0
  | succ k ih =>
    unfold payOwed
    exact (by
        split
        · rename_i x19 e20
          exact h0
        · rename_i x21 x22 e23
          exact (mode_ite h0 (ih _ _ (mode_putRecord _ _ _ (mode_setStr _ h0)))))

theorem mode_refuseRecord {s0 : State} (s : State) (a1 : Nat) (a2 : Nat) (a3 : Nat) (a4 : Nat) (a5 : Bool)  (h0 : Mode s0 s) : Mode s0 (refuseRecord s a1 a2 a3 a4 a5) := by
  unfold refuseRecord
  exact (by
      extract_lets v6 v7
      have h8 : Mode s0 v7 := (mode_raiseBy _ _ (mode_raise _ _ _ h0))
      clear_value v7
      exact (mode_ite (mode_postRecord _ _ _ _ h8) h8))

theorem mode_advanceIngress {s0 : State} (s : State) (a1 : Nat) (a2 : Nat)  (h0 : Mode s0 s) : Mode s0 (advanceIngress s a1 a2) := by
  induction a2 generalizing s a1 with
  | zero =>
    unfold advanceIngress
    exact h0
  | succ k ih =>
    unfold advanceIngress
    exact (by
        split
        · rename_i x14 x15 e16
          exact (mode_ite (ih _ _ (mode_setCons _ _ _ (mode_setIslot _ _ _ _ h0))) h0)
        · rename_i x17 e18
          exact h0)

theorem mode_releaseSlot {s0 : State} (s : State) (a1 : Nat) (a2 : Nat)  (h0 : Mode s0 s) : Mode s0 (releaseSlot s a1 a2) := by
  unfold releaseSlot
  exact (by
      split
      · rename_i x9 e10
        exact h0
      · rename_i x11 x12 e13
        exact (mode_advanceIngress _ _ _ (mode_setIslot _ _ _ _ h0)))

/-! ### Machine/Operands.lean -/

theorem mode_setPosCur {s0 : State} (s : State) (a1 : Nat) (a2 : Nat) (a3 : Nat)  (h0 : Mode s0 s) : Mode s0 (setPosCur s a1 a2 a3) := by
  unfold setPosCur
  exact (mode_storePoke _ _ _ _ _ h0)

theorem mode_advPos {s0 : State} (s : State) (a1 : Nat) (a2 : Nat) (a3 : Nat)  (h0 : Mode s0 s) : Mode s0 (advPos s a1 a2 a3) := by
  unfold advPos
  exact (mode_setPosCur _ _ _ _ h0)

theorem mode_advElems {s0 : State} (s : State) (a1 : Nat) (a2 : Nat) (a3 : Nat)  (h0 : Mode s0 s) : Mode s0 (advElems s a1 a2 a3) := by
  unfold advElems
  exact (by
      split
      · rename_i x0 x1 e2
        exact (mode_advPos _ _ _ _ h0)
      · rename_i x6 x7 e8
        exact h0)

theorem mode_resetWalks {s0 : State} (s : State) (a1 : Nat) (a2 : Nat)  (h0 : Mode s0 s) : Mode s0 (resetWalks s a1 a2) := by
  unfold resetWalks
  exact (mode_foldl (fun t3 x4 h5 => (mode_setPosCur _ _ _ _ h5)) h0)

theorem mode_writeAt {s0 : State} (s : State) (a1 : Nat) (a2 : Nat) (a3 : Nat) (a4 : Nat) (a5 : Nat) (a6 : Nat) (a7 : Nat)  (h0 : Mode s0 s) : ModeE (fun x => x) s0 (writeAt s a1 a2 a3 a4 a5 a6 a7) := by
  unfold writeAt
  exact (by
      split
      · rename_i x27 x28 x29 x30 e31
        exact (by
          extract_lets v32 v33
          exact (modeE_ite (modeE_bind (fun x34 x35 => (mode_storeWrite _ _ _ _ h0))) (mode_storeWrite _ _ _ _ h0))))

theorem mode_writeScale {s0 : State} (s : State) (a1 : Nat) (a2 : Nat) (a3 : Nat) (a4 : Nat) (a5 : Nat) (a6 : Nat)  (h0 : Mode s0 s) : ModeE (fun x => x) s0 (writeScale s a1 a2 a3 a4 a5 a6) := by
  unfold writeScale
  exact (by
      split
      · rename_i x14 x15 x16 x17 e18
        exact (mode_storeWrite _ _ _ _ h0))

theorem mode_writeElem {s0 : State} (s : State) (a1 : Nat) (a2 : Nat) (a3 : Nat) (a4 : Nat) (a5 : Nat)  (h0 : Mode s0 s) : ModeE (fun x => x) s0 (writeElem s a1 a2 a3 a4 a5) := by
  unfold writeElem
  exact (by
      split
      · rename_i x9 x10 x11 x12 e13
        exact (mode_writeAt _ _ _ _ _ _ _ _ h0))

theorem mode_writeBand {s0 : State} (s : State) (a1 : Nat) (a2 : Nat) (a3 : Nat) (a4 : Nat)  (h0 : Mode s0 s) : Mode s0 (writeBand s a1 a2 a3 a4) := by
  unfold writeBand
  exact (mode_ite h0 (by
      split
      · rename_i x19 x20 x21 x22 x23 e24
        exact (by
          extract_lets v25 v26
          exact (mode_storePoke _ _ _ _ _ h0))))

/-! ### Machine/Tasks.lean -/

theorem mode_admitTask {s0 : State} (s : State) (a1 : Nat) (a2 : Nat) (a3 : Nat) (a4 : Nat) (a5 : Option Nat) (a6 : Nat) (a7 : Bool) (a8 : Nat) (a9 : Nat)  (h0 : Mode s0 s) : Mode s0 (admitTask s a1 a2 a3 a4 a5 a6 a7 a8 a9) := by
  unfold admitTask
  exact (by
      extract_lets v0 v1 v2 v3 v4 v5 v6 v7
      have h8 : Mode s0 v6 := (mode_setStr _ h0)
      clear_value v6
      have h9 : Mode s0 v7 := (mode_ite (mode_setEntry _ _ _ h8) h8)
      clear_value v7
      exact (mode_count64 _ _ _ h9))

theorem mode_admitSlot {s0 : State} (s : State) (a1 : Nat) (a2 : Nat)  (h0 : Mode s0 s) : Mode s0 (admitSlot s a1 a2) := by
  unfold admitSlot
  exact (by
      split
      · rename_i x13 e14
        exact h0
      · rename_i x15 x16 e17
        exact (mode_ite (by
          extract_lets v26
          have h27 : Mode s0 v26 := (mode_setIslot _ _ _ _ h0)
          clear_value v26
          exact (mode_admitTask _ _ _ _ _ _ _ _ _ _ h27)) h0))

theorem mode_admitRing {s0 : State} (s : State) (a1 : Nat)  (h0 : Mode s0 s) : Mode s0 (admitRing s a1) := by
  unfold admitRing
  exact (mode_foldl (fun t10 x11 h12 => (mode_admitSlot _ _ _ h12)) h0)

theorem mode_admitWaiting {s0 : State} (s : State)  (h0 : Mode s0 s) : Mode s0 (admitWaiting s) := by
  unfold admitWaiting
  exact (mode_foldl (fun t18 x19 h20 => (mode_admitRing _ _ h20)) h0)

theorem mode_takeSlots {s0 : State} (s : State) (a1 : Nat) (a2 : Nat) (a3 : Nat) (a4 : Nat)  (h0 : Mode s0 s) : Mode s0 (takeSlots s a1 a2 a3 a4) := by
  unfold takeSlots
  exact (by
      extract_lets v21
      have h22 : Mode s0 v21 := (mode_foldl (fun t23 x24 h25 => (mode_setOslot _ _ _ _ h25)) h0)
      clear_value v21
      exact (mode_setProd _ _ _ h22))

theorem mode_takeTaskSlots {s0 : State} (s : State) (a1 : Task) (a2 : SEntry)  (h0 : Mode s0 s) : Mode s0 (takeTaskSlots s a1 a2).1 := by
  unfold takeTaskSlots
  exact (mode_pr_ite (f := Prod.fst) h0 (by
      split
      · rename_i x40 t41 x42 e43
        exact (by
          extract_lets v44
          exact (by
            split
            · rename_i x48 t49 x50 e51
              exact (mode_fst (mode_fst_eq e51 (mode_pr_ite (f := Prod.fst) (mode_fst (mode_fst_eq e43 (mode_pr_ite (f := Prod.fst) h0 (mode_fst (mode_takeSlots _ _ _ _ _ h0))))) (mode_pr_ite (f := Prod.fst) (mode_fst (mode_takeSlots _ _ _ _ _ (mode_fst_eq e43 (mode_pr_ite (f := Prod.fst) h0 (mode_fst (mode_takeSlots _ _ _ _ _ h0)))))) (mode_fst (mode_foldl (fun t112 x113 h114 => (mode_countOvf _ _ h114)) (mode_fst_eq e43 (mode_pr_ite (f := Prod.fst) h0 (mode_fst (mode_takeSlots _ _ _ _ _ h0))))))))))))))

theorem mode_handOver {s0 : State} (s : State) (a1 : Nat) (a2 : Nat) (a3 : Nat) (a4 : Nat → Nat)  (h0 : Mode s0 s) : Mode s0 (handOver s a1 a2 a3 a4) := by
  unfold handOver
  exact (mode_foldl (fun t28 x29 h30 => (by
      split
      · rename_i x34 e35
        exact h30
      · rename_i x36 x37 e38
        exact (mode_setOslot _ _ _ _ h30))) h0)

theorem mode_handTask {s0 : State} (s : State) (a1 : Task) (a2 : Bool)  (h0 : Mode s0 s) : Mode s0 (handTask s a1 a2) := by
  unfold handTask
  exact (by
      extract_lets v31 v32
      have h33 : Mode s0 v31 := (mode_handOver _ _ _ _ _ h0)
      clear_value v31
      have h39 : Mode s0 v32 := (mode_handOver _ _ _ _ _ h33)
      clear_value v32
      exact (mode_ite h39 (mode_pushRing _ _ h39)))

theorem mode_aryState {s0 : State} (s : State) (a1 : Nat) (a2 : Nat) (a3 : Nat) (a4 : Bool)  (h0 : Mode s0 s) : Mode s0 (aryState s a1 a2 a3 a4) := by
  unfold aryState
  exact (mode_foldl (fun t45 x46 h47 => (mode_wrBits _ _ _ _ _ h47)) h0)

theorem mode_setBankV {s0 : State} (s : State) (a1 : Nat) (a2 : Nat) (a3 : Nat) (a4 : Bool)  (h0 : Mode s0 s) : Mode s0 (setBankV s a1 a2 a3 a4) := by
  unfold setBankV
  exact (mode_foldl (fun t52 x53 h54 => (mode_wrBits _ _ _ _ _ h54)) h0)

theorem mode_markNewest {s0 : State} (s : State) (a1 : Nat) (a2 : Nat)  (h0 : Mode s0 s) : Mode s0 (markNewest s a1 a2) := by
  unfold markNewest
  exact (mode_wrBits _ _ _ _ _ (mode_wrBits _ _ _ _ _ h0))

theorem mode_emptyBank {s0 : State} (s : State) (a1 : Nat) (a2 : Nat)  (h0 : Mode s0 s) : Mode s0 (emptyBank s a1 a2) := by
  unfold emptyBank
  exact (by
      extract_lets v55 v56 v57
      have h58 : Mode s0 v55 := (mode_wr32 _ _ _ h0)
      clear_value v55
      have h59 : Mode s0 v57 := (mode_setCore _ _ _ h58)
      clear_value v57
      exact (mode_ite (mode_markNewest _ _ _ h59) h59))

theorem mode_stopLoads {s0 : State} (s : State) (a1 : Nat)  (h0 : Mode s0 s) : Mode s0 (stopLoads s a1) := by
  unfold stopLoads
  exact (mode_ite (mode_emptyBank _ _ _ h0) (mode_ite (mode_emptyBank _ _ _ h0) h0))

theorem mode_clearCtx {s0 : State} (s : State) (a1 : Nat) (a2 : Nat) (a3 : Bool)  (h0 : Mode s0 s) : Mode s0 (clearCtx s a1 a2 a3) := by
  unfold clearCtx
  exact (by
      extract_lets v60 v61 v62 v63 v64 v65 v66 v67 v68 v69 v70 v71 v72 v73 v74 v75 v76 v77 v78 v79 v80 v81 v82 v83 v84 v85 v86 v87 v88 v89 v90 v91 v92
      have h93 : Mode s0 v78 := (mode_foldl (fun t100 x101 h102 => (mode_endColls _ _ _ h102)) h0)
      clear_value v78
      have h104 : Mode s0 v79 := (mode_setCore _ _ _ h93)
      clear_value v79
      have h111 : Mode s0 v80 := (mode_foldl (fun t115 x116 h117 => (mode_setSem _ _ _ _ h117)) h104)
      clear_value v80
      have h132 : Mode s0 v81 := (mode_setSem _ _ _ _ h111)
      clear_value v81
      have h145 : Mode s0 v82 := (mode_setSeqStatus _ _ _ _ _ h132)
      clear_value v82
      have h149 : Mode s0 v83 := (mode_wrBits _ _ _ _ _ h145)
      clear_value v83
      have h158 : Mode s0 v84 := (mode_foldl (fun t161 x162 h166 => (mode_wrBits _ _ _ _ _ (mode_wrBits _ _ _ _ _ h166))) h149)
      clear_value v84
      have h184 : Mode s0 v85 := (mode_wrBits _ _ _ _ _ h158)
      clear_value v85
      have h194 : Mode s0 v86 := (by
        unfold v86
        clear_value v72
        split
        · rename_i x212 x213
          exact (mode_aryState _ _ _ _ _ h184)
        · rename_i x221
          exact h184)
      clear_value v86
      have h230 : Mode s0 v87 := (mode_ite (mode_wrBits _ _ _ _ _ h194) h194)
      clear_value v87
      have h234 : Mode s0 v88 := (mode_ite (mode_wrBits _ _ _ _ _ h230) h230)
      clear_value v88
      have h237 : Mode s0 v89 := (mode_ite (mode_stopLoads _ _ h234) h234)
      clear_value v89
      have h240 : Mode s0 v90 := (mode_wrBits _ _ _ _ _ h237)
      clear_value v90
      have h241 : Mode s0 v91 := (mode_ite (mode_wrBits _ _ _ _ _ h240) h240)
      clear_value v91
      have h242 : Mode s0 v92 := (mode_foldl (fun t243 x244 h245 => (mode_ite h245 (mode_setBankV _ _ _ _ _ h245))) h241)
      clear_value v92
      exact (by
        clear_value v76
        split
        · rename_i x246
          exact h242
        · rename_i x247 x248
          exact (mode_wrBits _ _ _ _ _ h242)))

theorem mode_startPeriodic {s0 : State} (s : State) (a1 : Nat) (a2 : PRow) (a3 : SEntry)  (h0 : Mode s0 s) : Mode s0 (startPeriodic s a1 a2 a3) := by
  unfold startPeriodic
  exact (by
      extract_lets v94 v95 v96 v97 v98
      have h99 : Mode s0 v96 := (mode_count64 _ _ _ (mode_setStr _ h0))
      clear_value v96
      have h103 : Mode s0 v98 := (mode_setCtx _ _ _ _ h99)
      clear_value v98
      exact (mode_resetWalks _ _ _ (mode_setPc _ _ _ _ (mode_setSeqStatus _ _ _ _ _ h103))))

theorem mode_startWaiting {s0 : State} (s : State) (a1 : Nat) (a2 : Nat)  (h0 : Mode s0 s) : Mode s0 (startWaiting s a1 a2) := by
  unfold startWaiting
  exact (by
      split
      · rename_i x105 e106
        exact h0
      · rename_i x107 x108 x109 e110
        exact (mode_ite h0 (by
          split
          · rename_i x121 e122
            exact h0
          · rename_i x126 x127 e128
            exact (by
              extract_lets v129 v130
              have h131 : Mode s0 v130 := (mode_setCore _ _ _ h0)
              clear_value v130
              exact (by
                split
                · rename_i x140 e141
                  exact h131
                · rename_i x142 x143 e144
                  exact (mode_startPeriodic _ _ _ _ h131))))))

theorem mode_restoreCounters {s0 : State} (s : State) (a1 : Task)  (h0 : Mode s0 s) : Mode s0 (restoreCounters s a1) := by
  unfold restoreCounters
  exact (mode_setMem _ h0)

theorem mode_restoreSaved {s0 : State} (s : State) (a1 : Nat) (a2 : Task)  (h0 : Mode s0 s) : Mode s0 (restoreSaved s a1 a2) := by
  unfold restoreSaved
  exact (mode_foldl (fun t118 x119 h120 => (by
      split
      · rename_i x123 x124 x125
        exact (mode_hbmPoke _ _ _ _ h120))) h0)

theorem mode_checkInvalidation {s0 : State} (s : State)  (h0 : Mode s0 s) : Mode s0 (checkInvalidation s) := by
  unfold checkInvalidation
  exact (by
      extract_lets v133 v134 v135 v136 v137
      have h138 : Mode s0 v136 := (mode_setStr _ h0)
      clear_value v136
      have h139 : Mode s0 v137 := (mode_ite (mode_wrBits _ _ _ _ _ h138) h138)
      clear_value v137
      exact (mode_ite h0 (mode_foldl (fun t146 x147 h148 => (mode_arrive _ _ _ h148)) h139)))

theorem mode_finalAbort {s0 : State} (s : State) (a1 : Task) (a2 : Nat) (a3 : Nat) (a4 : Nat)  (h0 : Mode s0 s) : Mode s0 (finalAbort s a1 a2 a3 a4) := by
  unfold finalAbort
  exact (mode_ite h0 (by
      extract_lets v150 v151 v152 v153 v154 v155
      have h156 : Mode s0 v150 := (mode_ite (mode_handTask _ _ _ h0) h0)
      clear_value v150
      have h157 : Mode s0 v153 := (by
        unfold v153
        split
        · rename_i x159 e160
          exact h156
        · rename_i x163 x164 e165
          exact (mode_ite (by
            split
            · rename_i x178 x179 e180
              exact (mode_setIslot _ _ _ _ h156)
            · rename_i x181 e182
              exact h156) (mode_releaseSlot _ _ _ h156)))
      clear_value v153
      have h183 : Mode s0 v155 := (mode_postRecord _ _ _ _ h157)
      clear_value v155
      exact (mode_checkInvalidation _ h183)))

theorem mode_afterAbort {s0 : State} (s : State) (a1 : Task) (a2 : Nat) (a3 : Nat) (a4 : Nat)  (h0 : Mode s0 s) : Mode s0 (afterAbort s a1 a2 a3 a4) := by
  unfold afterAbort
  exact (by
      split
      · rename_i x191 e192
        exact (mode_ite (mode_setStr _ h0) (mode_finalAbort _ _ _ _ _ h0))
      · rename_i x199 e200
        exact (mode_ite h0 (mode_setStr _ h0))
      · rename_i x209 e210 e211
        exact (mode_finalAbort _ _ _ _ _ h0))

theorem mode_abortOne {s0 : State} (s : State) (a1 : Nat) (a2 : Nat) (a3 : Nat)  (h0 : Mode s0 s) : Mode s0 (abortOne s a1 a2 a3) := by
  unfold abortOne
  exact (by
      split
      · rename_i x167 e168
        exact h0
      · rename_i x169 x170 e171
        exact (by
          extract_lets v172 v173 v174 v175 v176
          have h177 : Mode s0 v172 := (mode_clearCtx _ _ _ _ h0)
          clear_value v172
          have h249 : Mode s0 v173 := (mode_wr32 _ _ _ h177)
          clear_value v173
          have h250 : Mode s0 v174 := (mode_raiseBy _ _ (mode_raise _ _ _ h249))
          clear_value v174
          have h251 : Mode s0 v175 := (mode_arrive _ _ _ h250)
          clear_value v175
          have h252 : Mode s0 v176 := (mode_abortChannels _ _ _ _ (mode_restoreCounters _ _ (mode_restoreSaved _ _ _ h251)))
          clear_value v176
          exact (mode_ite h252 (mode_startWaiting _ _ _ (mode_afterAbort _ _ _ _ _ h252)))))

theorem mode_dropVerify {s0 : State} (s : State) (a1 : Nat)  (h0 : Mode s0 s) : Mode s0 (dropVerify s a1) := by
  unfold dropVerify
  exact (mode_setStr _ h0)

theorem mode_afterVictim {s0 : State} (s : State) (a1 : Victim)  (h0 : Mode s0 s) : Mode s0 (afterVictim s a1) := by
  unfold afterVictim
  exact (by
      split
      · rename_i x185 x186 x187 x188 x189
        exact (by
          extract_lets v190
          have h193 : Mode s0 v190 := (mode_ite h0 (mode_dropVerify _ _ h0))
          clear_value v190
          exact (mode_ite h193 (mode_foldl (fun t206 x207 h208 => (mode_ite (mode_setCore _ _ _ h208) h208)) h193))))

theorem mode_abortAll {s0 : State} (s : State) (a1 : List Victim)  (h0 : Mode s0 s) : Mode s0 (abortAll s a1) := by
  unfold abortAll
  exact (by
      extract_lets v195
      exact (mode_foldl (fun t196 x197 h198 => (mode_afterVictim _ _ h198)) (mode_foldl (fun t214 x215 h216 => (mode_abortOne _ _ _ _ h216)) h0)))

theorem mode_abortWhere {s0 : State} (s : State) (a1 : Nat) (a2 : Nat → Nat → Task → Bool)  (h0 : Mode s0 s) : Mode s0 (abortWhere s a1 a2) := by
  unfold abortWhere
  exact (mode_abortAll _ _ h0)

theorem mode_abortTask {s0 : State} (s : State) (a1 : Nat) (a2 : Nat) (a3 : Nat)  (h0 : Mode s0 s) : Mode s0 (abortTask s a1 a2 a3) := by
  unfold abortTask
  exact (by
      split
      · rename_i x201 e202
        exact h0
      · rename_i x203 x204 e205
        exact (mode_abortAll _ _ h0))

theorem mode_abortPartition {s0 : State} (s : State) (a1 : Nat) (a2 : Nat)  (h0 : Mode s0 s) : Mode s0 (abortPartition s a1 a2) := by
  unfold abortPartition
  exact (mode_abortWhere _ _ _ h0)

theorem mode_dropReady {s0 : State} (s : State) (a1 : Nat) (a2 : Task → Bool)  (h0 : Mode s0 s) : Mode s0 (dropReady s a1 a2) := by
  unfold dropReady
  exact (by
      extract_lets v222 v223 v224
      have h225 : Mode s0 v224 := (mode_setStr _ h0)
      clear_value v224
      exact (mode_foldl (fun t227 x228 h229 => (mode_finalAbort _ _ _ _ _ (mode_raiseBy _ _ h229))) h225))

theorem mode_stopPartition {s0 : State} (s : State) (a1 : Nat) (a2 : Nat)  (h0 : Mode s0 s) : Mode s0 (stopPartition s a1 a2) := by
  unfold stopPartition
  exact (by
      extract_lets v217 v218 v219
      have h220 : Mode s0 v217 := (mode_wrBits _ _ _ _ _ h0)
      clear_value v217
      have h226 : Mode s0 v219 := (mode_setStr _ h220)
      clear_value v219
      exact (mode_dropReady _ _ _ (mode_abortPartition _ _ _ h226)))

theorem mode_unitAbort {s0 : State} (s : State) (a1 : Nat) (a2 : Nat) (a3 : Abort)  (h0 : Mode s0 s) : Mode s0 (unitAbort s a1 a2 a3) := by
  unfold unitAbort
  exact (mode_abortTask _ _ _ _ h0)

theorem mode_nextPc {s0 : State} (s : State) (a1 : Nat) (a2 : Nat)  (h0 : Mode s0 s) : Mode s0 (nextPc s a1 a2) := by
  unfold nextPc
  exact (mode_setPc _ _ _ _ h0)

theorem mode_setUnitQueue {s0 : State} (s : State) (a1 : Nat) (a2 : Nat) (a3 : List (Nat × Sys2Proof.W128))  (h0 : Mode s0 s) : Mode s0 (setUnitQueue s a1 a2 a3) := by
  unfold setUnitQueue
  exact (mode_setCore _ _ _ h0)

theorem mode_notIssued {s0 : State} (s : State) (a1 : Nat) (a2 : Nat)  (h0 : Mode s0 s) : Mode s0 (notIssued s a1 a2) := by
  unfold notIssued
  exact (by
      split
      · rename_i x231 x232 e233
        exact (mode_ite (mode_unitAbort _ _ _ _ h0) h0)
      · rename_i x253 x254 e255
        exact h0)

theorem mode_beginWork {s0 : State} (s : State) (a1 : Nat) (a2 : Nat) (a3 : Nat) (a4 : Sys2Proof.W128)  (h0 : Mode s0 s) : Mode s0 (beginWork s a1 a2 a3 a4) := by
  unfold beginWork
  exact (mode_ite (mode_setUnitQueue _ _ _ _ h0) (mode_nextPc _ _ _ h0))

theorem mode_joinQueue {s0 : State} (s : State) (a1 : Nat) (a2 : Nat) (a3 : Nat) (a4 : Sys2Proof.W128)  (h0 : Mode s0 s) : Mode s0 (joinQueue s a1 a2 a3 a4) := by
  unfold joinQueue
  exact (mode_nextPc _ _ _ (mode_setUnitQueue _ _ _ _ h0))

theorem mode_requeue {s0 : State} (s : State) (a1 : Nat) (a2 : Nat) (a3 : Nat) (a4 : Sys2Proof.W128)  (h0 : Mode s0 s) : Mode s0 (requeue s a1 a2 a3 a4) := by
  unfold requeue
  exact (mode_setUnitQueue _ _ _ _ h0)

theorem mode_issue {s0 : State} (s : State) (a1 : Nat) (a2 : Nat) (a3 : Sys2Proof.W128) (a4 : Nat) (a5 : Nat) (a6 : Nat) (a7 : Bool) (a8 : Bool) (a9 : State → State) (f9 : ∀ t, Mode s0 t → Mode s0 (a9 t)) (h0 : Mode s0 s) : Mode s0 (issue s a1 a2 a3 a4 a5 a6 a7 a8 a9) := by
  unfold issue
  exact (by
      split
      · rename_i x238 e239
        exact (mode_notIssued _ _ _ h0)
      · rename_i x256 e257
        exact (mode_refused _ _ _ h0)
      · rename_i x258 e259
        exact (mode_joinQueue _ _ _ _ _ h0)
      · rename_i x260 e261
        exact (f9 _ (mode_beginWork _ _ _ _ _ h0)))

theorem mode_noteFlags {s0 : State} (s : State) (a1 : Nat) (a2 : Nat) (a3 : Bool) (a4 : Nat)  (h0 : Mode s0 s) : Mode s0 (noteFlags s a1 a2 a3 a4) := by
  unfold noteFlags
  exact (mode_ite h0 (by
      extract_lets v235
      have h236 : Mode s0 v235 := (mode_orWord _ _ _ h0)
      clear_value v235
      exact (mode_updTask _ _ _ _ h236)))

/-! ### Machine/Sequencer.lean -/

theorem mode_semSignal {s0 : State} (s : State) (a1 : Nat) (a2 : Nat) (a3 : Nat) (a4 : Nat)  (h0 : Mode s0 s) : Mode s0 (semSignal s a1 a2 a3 a4) := by
  unfold semSignal
  exact (mode_ite (mode_abortTask _ _ _ _ (mode_setSem _ _ _ _ h0)) (mode_setSem _ _ _ _ h0))

theorem mode_holdCtx {s0 : State} (s : State) (a1 : Nat) (a2 : Nat) (a3 : Hold) (a4 : Bool)  (h0 : Mode s0 s) : Mode s0 (holdCtx s a1 a2 a3 a4) := by
  unfold holdCtx
  exact (mode_setSeqStatus _ _ _ _ _ (mode_setCtx _ _ _ _ h0))

theorem mode_resume {s0 : State} (s : State) (a1 : Nat) (a2 : Nat)  (h0 : Mode s0 s) : Mode s0 (resume s a1 a2) := by
  unfold resume
  exact (mode_nextPc _ _ _ (mode_holdCtx _ _ _ _ _ h0))

theorem mode_execNop {s0 : State} (a0 : Nat) (a1 : Nat) (a2 : Sys2Proof.W128) (s : State)  (h0 : Mode s0 s) : ModeOut s0 (execNop a0 a1 a2 s) := by
  unfold execNop
  exact (mode_out (mode_ite (mode_nextPc _ _ _ h0) (mode_notIssued _ _ _ h0)))

theorem mode_execWait {s0 : State} (a0 : Nat) (a1 : Nat) (a2 : Sys2Proof.W128) (s : State)  (h0 : Mode s0 s) : ModeOut s0 (execWait a0 a1 a2 s) := by
  unfold execWait
  exact (mode_out (mode_ite (mode_notIssued _ _ _ h0) (mode_ite (mode_nextPc _ _ _ h0) (mode_ite (mode_ite (mode_nextPc _ _ _ (mode_setSem _ _ _ _ h0)) (mode_holdCtx _ _ _ _ _ h0)) (by
      split
      · rename_i x0 x1 e2
        exact (mode_unitAbort _ _ _ _ h0)
      · rename_i x3 x4 e5
        exact (mode_ite (mode_nextPc _ _ _ h0) (mode_holdCtx _ _ _ _ _ h0)))))))

theorem mode_execWaitSatisfied {s0 : State} (a0 : Nat) (a1 : Nat) (s : State)  (h0 : Mode s0 s) : ModeOut s0 (execWaitSatisfied a0 a1 s) := by
  unfold execWaitSatisfied
  exact (mode_out (mode_ite h0 (by
      split
      · rename_i x10 x11 x12 e13
        exact (mode_ite (mode_resume _ _ _ (mode_setSem _ _ _ _ h0)) h0)
      · rename_i x14 x15 x16 e17
        exact (by
          split
          · rename_i x21 x22 e23
            exact (mode_unitAbort _ _ _ _ h0)
          · rename_i x27 x28 e29
            exact (mode_ite (mode_resume _ _ _ h0) h0))
      · rename_i x30 e31 e32
        exact h0)))

theorem mode_execSignal {s0 : State} (a0 : Nat) (a1 : Nat) (a2 : Sys2Proof.W128) (s : State)  (h0 : Mode s0 s) : ModeOut s0 (execSignal a0 a1 a2 s) := by
  unfold execSignal
  exact (mode_out (mode_ite (mode_notIssued _ _ _ h0) (mode_ite (mode_nextPc _ _ _ h0) (mode_ite (mode_semSignal _ _ _ _ _ (mode_nextPc _ _ _ h0)) (mode_holdCtx _ _ _ _ _ h0)))))

theorem mode_execReadyCounterAdvance {s0 : State} (a0 : Nat) (a1 : Nat) (s : State)  (h0 : Mode s0 s) : ModeOut s0 (execReadyCounterAdvance a0 a1 s) := by
  unfold execReadyCounterAdvance
  exact (mode_out (mode_ite h0 (by
      split
      · rename_i x6 x7 x8 e9
        exact (mode_ite h0 (by
          split
          · rename_i x18 x19 e20
            exact (mode_unitAbort _ _ _ _ h0)
          · rename_i x24 x25 e26
            exact (by
              split
              · rename_i x33 x34 e35
                exact (mode_unitAbort _ _ _ _ h0)
              · rename_i x36 t37 e38
                exact (by
                  extract_lets v39
                  exact (mode_resume _ _ _ (mode_updTask _ _ _ _ (modeE_get (f := fun x => x) e38 (mode_storeWrite _ _ _ _ h0))))))))
      · rename_i x40 e41
        exact h0)))

theorem mode_execPeriod {s0 : State} (a0 : Nat) (a1 : Nat) (a2 : Sys2Proof.W128) (s : State)  (h0 : Mode s0 s) : ModeOut s0 (execPeriod a0 a1 a2 s) := by
  unfold execPeriod
  exact (mode_out (mode_ite (mode_holdCtx _ _ _ _ _ h0) (mode_notIssued _ _ _ h0)))

end Sys2Proof.Machine
end

