-- ==== Sys2Proof/Laws/ModeCompute.lean ====
section
/-! SUPPORT. `Mode` through the arrays and the vector unit: one lemma per function. -/

namespace Sys2Proof.Machine

/-! ### Machine/Arrays.lean -/

theorem mode_chargeArray {s0 : State} (s : State) (a1 : Nat) (a2 : Nat) (a3 : Nat) (a4 : Nat)  (h0 : Mode s0 s) : Mode s0 (chargeArray s a1 a2 a3 a4) := by
  unfold chargeArray
  exact (mode_count64 _ _ _ (mode_charge _ _ _ _ h0))

theorem mode_arrayIssue {s0 : State} (s : State) (a1 : Nat) (a2 : Nat) (a3 : Sys2Proof.W128) (a4 : Nat) (a5 : Bool) (a6 : State → State) (f6 : ∀ t, Mode s0 t → Mode s0 (a6 t)) (h0 : Mode s0 s) : Mode s0 (arrayIssue s a1 a2 a3 a4 a5 a6) := by
  unfold arrayIssue
  exact (mode_issue _ _ _ _ _ _ _ _ _ _ (fun t4 h5 => (f6 _ h5)) h0)

theorem mode_agFault {s0 : State} (s : State) (a1 : Nat) (a2 : Nat) (a3 : Nat) (a4 : Nat) (a5 : Abort)  (h0 : Mode s0 s) : Mode s0 (agFault s a1 a2 a3 a4 a5) := by
  unfold agFault
  exact (by
      extract_lets v2
      have h3 : Mode s0 v2 := (mode_ite (mode_arrive _ _ _ (mode_wr32 _ _ _ h0)) h0)
      clear_value v2
      exact (mode_unitAbort _ _ _ _ (mode_raise _ _ _ h3)))

theorem mode_setShadow {s0 : State} (s : State) (a1 : Nat) (a2 : Nat) (a3 : Weights)  (h0 : Mode s0 s) : Mode s0 (setShadow s a1 a2 a3) := by
  unfold setShadow
  exact (by
      extract_lets v0 v1
      exact (mode_aryState _ _ _ _ _ (mode_setCore _ _ _ h0)))

theorem mode_chainSend {s0 : State} (s : State) (a1 : Nat) (a2 : ChainPart)  (h0 : Mode s0 s) : Mode s0 (chainSend s a1 a2) := by
  unfold chainSend
  exact (by
      split
      · rename_i x6 e7
        exact h0
      · rename_i x8 x9 e10
        exact (mode_setCore _ _ _ h0))

theorem mode_ldwFinish {s0 : State} (s : State) (a1 : Nat) (a2 : Nat) (a3 : Sys2Proof.W128) (a4 : List Sys2Proof.Byte) (a5 : List Sys2Proof.Byte)  (h0 : Mode s0 s) : Mode s0 (ldwFinish s a1 a2 a3 a4 a5) := by
  unfold ldwFinish
  exact (mode_chargeArray _ _ _ _ _ (mode_setShadow _ _ _ _ h0))

theorem mode_chainTake {s0 : State} (s : State) (a1 : Nat) (a2 : Nat)  (h0 : Mode s0 s) : Mode s0 (chainTake s a1 a2) := by
  induction a2 generalizing s a1 with
  | zero =>
    unfold chainTake
    exact h0
  | succ k ih =>
    unfold chainTake
    exact (by
        split
        · rename_i x141 e142
          exact h0
        · rename_i x143 x144 e145
          exact (by
            split
            · rename_i x146 e147
              exact h0
            · rename_i x148 x149 e150
              exact (mode_ite (mode_unitAbort _ _ _ _ h0) (mode_ite h0 (by
                extract_lets v151 v152 v153 v154 v155 v156
                have h157 : Mode s0 v151 := (mode_updTask _ _ _ _ (mode_ite (mode_chainSend _ _ _ h0) h0))
                clear_value v151
                have h158 : Mode s0 v156 := (mode_setCore _ _ _ h157)
                clear_value v156
                exact (mode_ite (mode_ldwFinish _ _ _ _ _ _ (mode_aryState _ _ _ _ _ h158)) (ih _ _ (mode_setCore _ _ _ h157))))))))

theorem mode_chainOpen {s0 : State} (s : State) (a1 : Nat) (a2 : ChainLoad)  (h0 : Mode s0 s) : Mode s0 (chainOpen s a1 a2) := by
  unfold chainOpen
  exact (mode_chainTake _ _ _ (mode_aryState _ _ _ _ _ (mode_setCore _ _ _ h0)))

theorem mode_ldwRun {s0 : State} (a0 : Nat) (a1 : Nat) (a2 : Sys2Proof.W128) (s : State)  (h0 : Mode s0 s) : Mode s0 (ldwRun a0 a1 a2 s) := by
  unfold ldwRun
  exact (mode_ite (mode_chainOpen _ _ _ h0) (by
      split
      · rename_i x163 x164 e165
        exact (mode_agFault _ _ _ _ _ _ h0)
      · rename_i x166 x167 x168 e169
        exact (mode_ite (mode_chainOpen _ _ _ h0) (mode_ldwFinish _ _ _ _ _ _ h0))))

theorem mode_chainFeed {s0 : State} (s : State) (a1 : Nat)  (h0 : Mode s0 s) : Mode s0 (chainFeed s a1) := by
  unfold chainFeed
  exact (by
      split
      · rename_i x13 e14
        exact h0
      · rename_i x15 x16 e17
        exact (mode_chainTake _ _ _ h0))

theorem mode_execLdw {s0 : State} (a0 : Nat) (a1 : Nat) (a2 : Sys2Proof.W128) (s : State)  (h0 : Mode s0 s) : ModeOut s0 (execLdw a0 a1 a2 s) := by
  unfold execLdw
  exact (mode_out (mode_arrayIssue _ _ _ _ _ _ _ (fun t11 h12 => (mode_ldwRun _ _ _ _ h12)) h0))

theorem mode_execChainPartArrival {s0 : State} (a0 : Nat) (s : State)  (h0 : Mode s0 s) : ModeOut s0 (execChainPartArrival a0 s) := by
  unfold execChainPartArrival
  exact (mode_out (by
      extract_lets v18 v19
      exact (mode_ite h0 (by
        split
        · rename_i x22 e23
          exact (mode_chainFeed _ _ h0)
        · rename_i x159 x160 x161 e162
          exact (mode_ite h0 (mode_chainFeed _ _ (mode_chainTake _ _ _ (mode_setCore _ _ _ h0))))))))

theorem mode_setBankEntry {s0 : State} (s : State) (a1 : Nat) (a2 : Nat) (a3 : Nat) (a4 : Nat) (a5 : Nat) (a6 : Acc)  (h0 : Mode s0 s) : Mode s0 (setBankEntry s a1 a2 a3 a4 a5 a6) := by
  unfold setBankEntry
  exact (mode_setCore _ _ _ h0)

theorem mode_setNextG {s0 : State} (s : State) (a1 : Nat) (a2 : Nat) (a3 : Nat) (a4 : Nat)  (h0 : Mode s0 s) : Mode s0 (setNextG s a1 a2 a3 a4) := by
  unfold setNextG
  exact (mode_setCore _ _ _ h0)

theorem mode_useRegion {s0 : State} (s : State) (a1 : Nat) (a2 : Nat) (a3 : Nat) (a4 : Nat) (a5 : Nat) (a6 : Nat)  (h0 : Mode s0 s) : Mode s0 (useRegion s a1 a2 a3 a4 a5 a6) := by
  unfold useRegion
  exact (mode_setBankV _ _ _ _ _ (mode_setCtx _ _ _ _ h0))

theorem mode_writeRow {s0 : State} (s : State) (a1 : Nat) (a2 : Nat) (a3 : Nat) (a4 : Nat) (a5 : List Acc)  (h0 : Mode s0 s) : Mode s0 (writeRow s a1 a2 a3 a4 a5) := by
  unfold writeRow
  exact (by
      extract_lets v20 v21
      exact (mode_setCore _ _ _ h0))

theorem mode_streamRows {s0 : State} (s : State) (a1 : Nat) (a2 : Nat) (a3 : Pass) (a4 : Nat) (a5 : Nat) (a6 : Nat) (a7 : Nat) (a8 : Bool) (a9 : Nat)  (h0 : Mode s0 s) : ModeE Prod.fst s0 (streamRows s a1 a2 a3 a4 a5 a6 a7 a8 a9) := by
  unfold streamRows
  exact (modeE_foldlM (fun x24 x25 h26 => (by
      split
      · rename_i x27 t28 x29
        exact (modeE_bind (fun x30 x31 => (by
          extract_lets v32
          exact (modeE_pure (mode_fst (mode_writeRow _ _ _ _ _ _ h26)))))))) h0)

theorem mode_mmaSwapIn {s0 : State} (s : State) (a1 : Nat) (a2 : Sys2Proof.W128)  (h0 : Mode s0 s) : Mode s0 (mmaSwapIn s a1 a2) := by
  unfold mmaSwapIn
  exact (mode_ite h0 (by
      extract_lets v33 v34 v35
      exact (mode_aryState _ _ _ _ _ (mode_setCore _ _ _ h0))))

theorem mode_mmaAfter {s0 : State} (s : State) (a1 : Nat) (a2 : Nat) (a3 : Sys2Proof.W128) (a4 : Nat) (a5 : Nat)  (h0 : Mode s0 s) : Mode s0 (mmaAfter s a1 a2 a3 a4 a5) := by
  unfold mmaAfter
  exact (by
      extract_lets v36
      have h37 : Mode s0 v36 := (mode_ite (mode_advPos _ _ _ _ h0) h0)
      clear_value v36
      exact (mode_chargeArray _ _ _ _ _ h37))

theorem mode_mmaBankMode {s0 : State} (a0 : Nat) (a1 : Nat) (a2 : Sys2Proof.W128) (a3 : Bool) (s : State)  (h0 : Mode s0 s) : Mode s0 (mmaBankMode a0 a1 a2 a3 s) := by
  unfold mmaBankMode
  exact (by
      extract_lets v38 v39 v40
      have h41 : Mode s0 v39 := h0
      clear_value v39
      have h42 : Mode s0 v40 := (mode_mmaSwapIn _ _ _ h0)
      clear_value v40
      exact (mode_ite (mode_unitAbort _ _ _ _ (mode_raise _ _ _ h0)) (by
        split
        · rename_i x56 x57 e58
          exact (mode_agFault _ _ _ _ _ _ h41)
        · rename_i x62 x63 e64
          exact (by
            extract_lets v65
            exact (by
              split
              · rename_i x68 x69 e70
                exact (mode_agFault _ _ _ _ _ _ h41)
              · rename_i x78 t79 x80 e81
                exact (by
                  extract_lets v82
                  have h83 : Mode s0 v82 := (mode_noteFlags _ _ _ _ _ (mode_useRegion _ _ _ _ _ _ _ (modeE_get (f := Prod.fst) e81 (mode_streamRows _ _ _ _ _ _ _ _ _ _ (mode_writeBand _ _ _ _ _ h42)))))
                  clear_value v82
                  exact (mode_mmaAfter _ _ _ _ _ _ (mode_setNextG _ _ _ _ _ h83))))))))

theorem mode_mmaIssue {s0 : State} (a0 : Nat) (a1 : Nat) (a2 : Sys2Proof.W128) (a3 : Nat) (a4 : State → State) (s : State) (f4 : ∀ t, Mode s0 t → Mode s0 (a4 t)) (h0 : Mode s0 s) : ModeOut s0 (mmaIssue a0 a1 a2 a3 a4 s) := by
  unfold mmaIssue
  exact (mode_out (mode_ite h0 (mode_arrayIssue _ _ _ _ _ _ _ (fun t43 h44 => (f4 _ h44)) h0)))

theorem mode_execMmaStart {s0 : State} (a0 : Nat) (a1 : Nat) (a2 : Sys2Proof.W128) (s : State)  (h0 : Mode s0 s) : ModeOut s0 (execMmaStart a0 a1 a2 s) := by
  unfold execMmaStart
  exact (mode_mmaIssue _ _ _ _ _ _ (fun t45 h50 => (mode_mmaBankMode _ _ _ _ _ h50)) h0)

theorem mode_execMmaCont {s0 : State} (a0 : Nat) (a1 : Nat) (a2 : Sys2Proof.W128) (s : State)  (h0 : Mode s0 s) : ModeOut s0 (execMmaCont a0 a1 a2 s) := by
  unfold execMmaCont
  exact (mode_mmaIssue _ _ _ _ _ _ (fun t51 h52 => (mode_mmaBankMode _ _ _ _ _ h52)) h0)

theorem mode_drainRow {s0 : State} (s : State) (a1 : Nat) (a2 : Nat) (a3 : Nat) (a4 : ConvWord) (a5 : List (Nat × (Int ⊕ Fp)))  (h0 : Mode s0 s) : ModeE Prod.fst s0 (drainRow s a1 a2 a3 a4 a5) := by
  unfold drainRow
  exact (by
      split
      · rename_i x46 x47 x48 e49
        exact (modeE_ite (modeE_foldlM (fun x53 x54 h55 => (by
          split
          · rename_i x59 t60 x61
            exact (by
              split
              · rename_i x71 x72 x73 x74 e75
                exact (modeE_bind (fun t76 x77 => (modeE_bind (fun t84 x85 => (modeE_pure (mode_fst (modeE_get (f := fun x => x) x85 (modeE_foldlM (fun t93 x94 h95 => (by
                  split
                  · rename_i x101 x102 x103
                    exact (mode_writeAt _ _ _ _ _ _ _ _ h95))) (modeE_get (f := fun x => x) x77 (mode_writeScale _ _ _ _ _ _ _ h55))))))))))))) h0) (modeE_foldlM (fun x115 x116 h117 => (by
          split
          · rename_i x120 t121 x122
            exact (by
              split
              · rename_i x127 x128 e129
                exact (modeE_bind (fun t130 x131 => (modeE_pure (mode_fst (modeE_get (f := fun x => x) x131 (mode_writeAt _ _ _ _ _ _ _ _ h117))))))
              · rename_i x132 x133 e134
                exact (by
                  split
                  · rename_i x135 x136 x137 e138
                    exact (modeE_bind (fun t139 x140 => (modeE_pure (mode_fst (modeE_get (f := fun x => x) x140 (mode_writeAt _ _ _ _ _ _ _ _ h117)))))))))) h0)))

theorem mode_drainRows {s0 : State} (s : State) (a1 : Nat) (a2 : Sys2Proof.W128) (a3 : Nat) (a4 : List Sys2Proof.Byte)  (h0 : Mode s0 s) : ModeE Prod.fst s0 (drainRows s a1 a2 a3 a4) := by
  unfold drainRows
  exact (by
      extract_lets v66 v67
      exact (modeE_foldlM (fun x86 x87 h88 => (by
        split
        · rename_i x89 t90 x91
          exact (by
            extract_lets v92
            exact (modeE_bind (fun x96 x97 => (by
              split
              · rename_i x98 t99 x100
                exact (modeE_pure (mode_fst (modeE_get (f := Prod.fst) x97 (mode_drainRow _ _ _ _ _ _ h88)))))))))) h0))

theorem mode_drainRun {s0 : State} (a0 : Nat) (a1 : Nat) (a2 : Sys2Proof.W128) (s : State)  (h0 : Mode s0 s) : Mode s0 (drainRun a0 a1 a2 s) := by
  unfold drainRun
  exact (by
      extract_lets v104
      exact (by
        unfold v104
        split
        · rename_i x105 x106 x107 e108
          exact (mode_agFault _ _ _ _ _ _ h0)
        · rename_i x111 t112 x113 e114
          exact (mode_chargeArray _ _ _ _ _ (mode_noteFlags _ _ _ _ _ (mode_advPos _ _ _ _ (modeE_get (f := Prod.fst) e114 (modeE_bind (fun x118 x119 => (modeE_bind (fun x123 x124 => (modeE_bind (fun x125 x126 => (modeE_mapError (mode_drainRows _ _ _ _ _ h0))))))))))))))

theorem mode_execDrain {s0 : State} (a0 : Nat) (a1 : Nat) (a2 : Sys2Proof.W128) (s : State)  (h0 : Mode s0 s) : ModeOut s0 (execDrain a0 a1 a2 s) := by
  unfold execDrain
  exact (mode_out (mode_arrayIssue _ _ _ _ _ _ _ (fun t109 h110 => (mode_drainRun _ _ _ _ h110)) h0))

/-! ### Machine/Vector.lean -/

theorem mode_setVec {s0 : State} (s : State) (a1 : Nat) (a2 : Vec)  (h0 : Mode s0 s) : Mode s0 (setVec s a1 a2) := by
  unfold setVec
  exact (mode_setCore _ _ _ h0)

theorem mode_setMicroPc {s0 : State} (s : State) (a1 : Nat) (a2 : Nat)  (h0 : Mode s0 s) : Mode s0 (setMicroPc s a1 a2) := by
  unfold setMicroPc
  exact (mode_wrBits _ _ _ _ _ h0)

theorem mode_vecFault {s0 : State} (s : State) (a1 : Nat) (a2 : Nat) (a3 : Abort)  (h0 : Mode s0 s) : Mode s0 (vecFault s a1 a2 a3) := by
  unfold vecFault
  exact (by
      extract_lets v0 v1
      have h2 : Mode s0 v0 := (mode_wr32 _ _ _ h0)
      clear_value v0
      have h5 : Mode s0 v1 := (mode_arrive _ _ _ (mode_raise _ _ _ h2))
      clear_value v1
      exact (mode_unitAbort _ _ _ _ h5))

theorem mode_microNext {s0 : State} (s : State) (a1 : Nat) (a2 : VJob)  (h0 : Mode s0 s) : Mode s0 (microNext s a1 a2) := by
  unfold microNext
  exact (by
      extract_lets v3 v4
      exact (by
        split
        · rename_i x6 x7 x8 e9
          exact (by
            extract_lets v12
            have h16 : Mode s0 v12 := (mode_setVec _ _ _ h0)
            clear_value v12
            exact (mode_count64 _ _ _ (mode_setMicroPc _ _ _ h16)))))

theorem mode_micro {s0 : State} (a0 : Nat) (a1 : Sys2Proof.W64) (a2 : Nat) (a3 : VJob →
  State → Except Abort (State × VJob)) (s : State) (f3 : ∀ j t, Mode s0 t → ModeE Prod.fst s0 (a3 j t)) (h0 : Mode s0 s) : ModeOut s0 (micro a0 a1 a2 a3 s) := by
  unfold micro
  exact (mode_out (by
      split
      · rename_i x10 e11
        exact h0
      · rename_i x13 x14 e15
        exact (mode_ite h0 (by
          split
          · rename_i x18 x19 e20
            exact (mode_vecFault _ _ _ _ h0)
          · rename_i x21 t22 x23 e24
            exact (mode_microNext _ _ _ (modeE_get (f := Prod.fst) e24 (f3 _ _ h0)))))))

theorem mode_putLanes {s0 : State} (s : State) (a1 : Nat) (a2 : Nat) (a3 : Sys2Proof.W64) (a4 : Nat → Sys2Proof.W64 × NumFlags)  (h0 : Mode s0 s) : Mode s0 (putLanes s a1 a2 a3 a4) := by
  unfold putLanes
  exact (by
      extract_lets v17
      exact (by
        split
        · rename_i x25 x26 x27 e28
          exact (mode_noteFlags _ _ _ _ _ (mode_setVec _ _ _ h0))))

theorem mode_intStep {s0 : State} (a0 : Nat) (a1 : Sys2Proof.W64) (a2 : Nat) (a3 : Vec → Nat → Int × NumFlags) (s : State)  (h0 : Mode s0 s) : ModeOut s0 (intStep a0 a1 a2 a3 s) := by
  unfold intStep
  exact (mode_micro _ _ _ _ _ (fun x29 t30 h31 => (modeE_ok (mode_fst (mode_putLanes _ _ _ _ _ h31)))) h0)

theorem mode_fpStepFmt {s0 : State} (a0 : Nat) (a1 : Sys2Proof.W64) (a2 : Nat) (a3 : Nat) (a4 : Vec → Nat → Fp × NumFlags) (s : State)  (h0 : Mode s0 s) : ModeOut s0 (fpStepFmt a0 a1 a2 a3 a4 s) := by
  unfold fpStepFmt
  exact (mode_micro _ _ _ _ _ (fun x32 t33 h34 => (modeE_ok (mode_fst (mode_putLanes _ _ _ _ _ h34)))) h0)

theorem mode_cmpStep {s0 : State} (a0 : Nat) (a1 : Sys2Proof.W64) (a2 : Nat) (a3 : Vec → Nat → Bool × NumFlags) (s : State)  (h0 : Mode s0 s) : ModeOut s0 (cmpStep a0 a1 a2 a3 s) := by
  unfold cmpStep
  exact (mode_micro _ _ _ _ _ (fun x35 t36 h37 => (by
      extract_lets v40 v41
      exact (by
        split
        · rename_i x52 x53 x54 e55
          exact (modeE_ok (mode_fst (mode_noteFlags _ _ _ _ _ (mode_setVec _ _ _ h37))))))) h0)

theorem mode_vecIssue {s0 : State} (a0 : Nat) (a1 : Nat) (a2 : Sys2Proof.W128) (a3 : Nat) (a4 : State → State) (s : State) (f4 : ∀ t, Mode s0 t → Mode s0 (a4 t)) (h0 : Mode s0 s) : ModeOut s0 (vecIssue a0 a1 a2 a3 a4 s) := by
  unfold vecIssue
  exact (mode_out (mode_ite h0 (mode_issue _ _ _ _ _ _ _ _ _ _ (fun t38 h39 => (f4 _ h39)) h0)))

theorem mode_vecRun {s0 : State} (a0 : Nat) (a1 : Nat) (a2 : Sys2Proof.W128) (s : State)  (h0 : Mode s0 s) : Mode s0 (vecRun a0 a1 a2 s) := by
  unfold vecRun
  exact (mode_wr32 _ _ _ (mode_setVec _ _ _ h0))

theorem mode_execVecMicroprogram {s0 : State} (a0 : Nat) (a1 : Nat) (a2 : Sys2Proof.W128) (s : State)  (h0 : Mode s0 s) : ModeOut s0 (execVecMicroprogram a0 a1 a2 s) := by
  unfold execVecMicroprogram
  exact (mode_vecIssue _ _ _ _ _ _ (fun t42 h43 => (mode_vecRun _ _ _ _ h43)) h0)

theorem mode_execMicroNop {s0 : State} (a0 : Nat) (a1 : Sys2Proof.W64) (s : State)  (h0 : Mode s0 s) : ModeOut s0 (execMicroNop a0 a1 s) := by
  unfold execMicroNop
  exact (mode_micro _ _ _ _ _ (fun x44 t45 h46 => (modeE_ok h46)) h0)

theorem mode_vecEnd {s0 : State} (s : State) (a1 : Nat) (a2 : VJob)  (h0 : Mode s0 s) : Mode s0 (vecEnd s a1 a2) := by
  unfold vecEnd
  exact (by
      extract_lets v47 v48 v49 v50
      have h51 : Mode s0 v47 := (mode_ite h0 (mode_advElems _ _ _ _ h0))
      clear_value v47
      have h61 : Mode s0 v48 := (mode_ite h51 (mode_advElems _ _ _ _ h51))
      clear_value v48
      have h68 : Mode s0 v49 := (mode_ite h61 (mode_advElems _ _ _ _ h61))
      clear_value v49
      exact (mode_wrBits _ _ _ _ _ (mode_setVec _ _ _ h68)))

theorem mode_execMicroEnd {s0 : State} (a0 : Nat) (a1 : Sys2Proof.W64) (s : State)  (h0 : Mode s0 s) : ModeOut s0 (execMicroEnd a0 a1 s) := by
  unfold execMicroEnd
  exact (mode_out (by
      split
      · rename_i x56 e57
        exact h0
      · rename_i x58 x59 e60
        exact (mode_ite (mode_vecEnd _ _ _ (mode_setMicroPc _ _ _ (mode_microNext _ _ _ h0))) h0)))

theorem mode_execLoop {s0 : State} (a0 : Nat) (a1 : Sys2Proof.W64) (s : State)  (h0 : Mode s0 s) : ModeOut s0 (execLoop a0 a1 s) := by
  unfold execLoop
  exact (mode_micro _ _ _ _ _ (fun x62 t63 h64 => (by
      extract_lets v65 v66 v67
      exact (modeE_ok h64))) h0)

theorem mode_execLd {s0 : State} (a0 : Nat) (a1 : Sys2Proof.W64) (s : State)  (h0 : Mode s0 s) : ModeOut s0 (execLd a0 a1 s) := by
  unfold execLd
  exact (mode_micro _ _ _ _ _ (fun x69 t70 h71 => (by
      extract_lets v72 v73
      exact (modeE_bind (fun x74 x75 => (modeE_bind (fun x79 x80 => (by
        extract_lets v81
        have h82 : Mode s0 v81 := (mode_putLanes _ _ _ _ _ h71)
        clear_value v81
        exact (modeE_pure h82)))))))) h0)

theorem mode_storeFp4 {s0 : State} (s : State) (a1 : Nat) (a2 : Nat) (a3 : Nat) (a4 : Vec) (a5 : Sys2Proof.W64)  (h0 : Mode s0 s) : ModeE Prod.fst s0 (storeFp4 s a1 a2 a3 a4 a5) := by
  unfold storeFp4
  exact (modeE_foldlM (fun x76 x77 h78 => (by
      split
      · rename_i x83 t84 x85
        exact (by
          extract_lets v86
          exact (modeE_ite (modeE_pure h78) (by
            split
            · rename_i x101 x102 x103 x104 e105
              exact (by
                split
                · rename_i x115 x116 x117 x118 e119
                  exact (modeE_bind (fun t120 x121 => (modeE_bind (fun t125 x126 => (modeE_pure (mode_fst (modeE_get (f := fun x => x) x126 (modeE_foldlM (fun t138 x140 h141 => (by
                    split
                    · rename_i x147 x148 x149
                      exact (mode_writeElem _ _ _ _ _ _ h141))) (modeE_get (f := fun x => x) x121 (mode_writeScale _ _ _ _ _ _ _ h78)))))))))))))))) h0)

theorem mode_storeLane {s0 : State} (s : State) (a1 : NumFlags) (a2 : Nat) (a3 : Nat) (a4 : Nat) (a5 : Vec) (a6 : Sys2Proof.W64) (a7 : Nat)  (h0 : Mode s0 s) : ModeE Prod.fst s0 (storeLane s a1 a2 a3 a4 a5 a6 a7) := by
  unfold storeLane
  exact (modeE_ite (modeE_ok h0) (modeE_bind (fun t87 x88 => (modeE_pure (mode_fst (modeE_get (f := fun x => x) x88 (mode_writeElem _ _ _ _ _ _ h0)))))))

theorem mode_execSt {s0 : State} (a0 : Nat) (a1 : Sys2Proof.W64) (s : State)  (h0 : Mode s0 s) : ModeOut s0 (execSt a0 a1 s) := by
  unfold execSt
  exact (mode_micro _ _ _ _ _ (fun x89 t90 h91 => (modeE_bind (fun x93 x96 => (by
      extract_lets v99 v100
      exact (modeE_ite (modeE_bind (fun x108 x109 => (by
        unfold v100
        split
        · rename_i x112 t113 x114
          exact (modeE_pure (mode_fst (mode_noteFlags _ _ _ _ _ (modeE_get (f := Prod.fst) x109 (mode_storeFp4 _ _ _ _ _ _ h91)))))))) (modeE_bind (fun x170 x171 => (by
        unfold v100
        split
        · rename_i x176 t177 x178
          exact (modeE_pure (mode_fst (mode_noteFlags _ _ _ _ _ (modeE_get (f := Prod.fst) x171 (modeE_foldlM (fun x179 x180 h181 => (mode_storeLane _ _ _ _ _ _ _ _ h181)) h91))))))))))))) h0)

theorem mode_execLdp {s0 : State} (a0 : Nat) (a1 : Sys2Proof.W64) (s : State)  (h0 : Mode s0 s) : ModeOut s0 (execLdp a0 a1 s) := by
  unfold execLdp
  exact (mode_micro _ _ _ _ _ (fun x92 t94 h95 => (by
      extract_lets v97 v98
      exact (modeE_ite (modeE_bind (fun x106 x107 => (modeE_pure (mode_fst (mode_putLanes _ _ _ _ _ h95))))) (modeE_bind (fun x110 x111 => (modeE_pure (mode_fst (mode_putLanes _ _ _ _ _ h95)))))))) h0)

theorem mode_execMovi {s0 : State} (a0 : Nat) (a1 : Sys2Proof.W64) (s : State)  (h0 : Mode s0 s) : ModeOut s0 (execMovi a0 a1 s) := by
  unfold execMovi
  exact (mode_intStep _ _ _ _ _ h0)

theorem mode_execMov {s0 : State} (a0 : Nat) (a1 : Sys2Proof.W64) (s : State)  (h0 : Mode s0 s) : ModeOut s0 (execMov a0 a1 s) := by
  unfold execMov
  exact (mode_intStep _ _ _ _ _ h0)

theorem mode_execSel {s0 : State} (a0 : Nat) (a1 : Sys2Proof.W64) (s : State)  (h0 : Mode s0 s) : ModeOut s0 (execSel a0 a1 s) := by
  unfold execSel
  exact (mode_micro _ _ _ _ _ (fun x122 t123 h124 => (by
      extract_lets v127 v128
      exact (modeE_ok (mode_fst (mode_setVec _ _ _ h124))))) h0)

theorem mode_execIadd {s0 : State} (a0 : Nat) (a1 : Sys2Proof.W64) (s : State)  (h0 : Mode s0 s) : ModeOut s0 (execIadd a0 a1 s) := by
  unfold execIadd
  exact (mode_intStep _ _ _ _ _ h0)

theorem mode_execIsub {s0 : State} (a0 : Nat) (a1 : Sys2Proof.W64) (s : State)  (h0 : Mode s0 s) : ModeOut s0 (execIsub a0 a1 s) := by
  unfold execIsub
  exact (mode_intStep _ _ _ _ _ h0)

theorem mode_execImul {s0 : State} (a0 : Nat) (a1 : Sys2Proof.W64) (s : State)  (h0 : Mode s0 s) : ModeOut s0 (execImul a0 a1 s) := by
  unfold execImul
  exact (mode_intStep _ _ _ _ _ h0)

theorem mode_execIshr {s0 : State} (a0 : Nat) (a1 : Sys2Proof.W64) (s : State)  (h0 : Mode s0 s) : ModeOut s0 (execIshr a0 a1 s) := by
  unfold execIshr
  exact (mode_intStep _ _ _ _ _ h0)

theorem mode_execIshl {s0 : State} (a0 : Nat) (a1 : Sys2Proof.W64) (s : State)  (h0 : Mode s0 s) : ModeOut s0 (execIshl a0 a1 s) := by
  unfold execIshl
  exact (mode_intStep _ _ _ _ _ h0)

theorem mode_execImax {s0 : State} (a0 : Nat) (a1 : Sys2Proof.W64) (s : State)  (h0 : Mode s0 s) : ModeOut s0 (execImax a0 a1 s) := by
  unfold execImax
  exact (mode_intStep _ _ _ _ _ h0)

theorem mode_execImin {s0 : State} (a0 : Nat) (a1 : Sys2Proof.W64) (s : State)  (h0 : Mode s0 s) : ModeOut s0 (execImin a0 a1 s) := by
  unfold execImin
  exact (mode_intStep _ _ _ _ _ h0)

theorem mode_execIclip {s0 : State} (a0 : Nat) (a1 : Sys2Proof.W64) (s : State)  (h0 : Mode s0 s) : ModeOut s0 (execIclip a0 a1 s) := by
  unfold execIclip
  exact (mode_intStep _ _ _ _ _ h0)

theorem mode_execIcmp {s0 : State} (a0 : Nat) (a1 : Sys2Proof.W64) (s : State)  (h0 : Mode s0 s) : ModeOut s0 (execIcmp a0 a1 s) := by
  unfold execIcmp
  exact (mode_cmpStep _ _ _ _ _ h0)

theorem mode_execIdiv {s0 : State} (a0 : Nat) (a1 : Sys2Proof.W64) (s : State)  (h0 : Mode s0 s) : ModeOut s0 (execIdiv a0 a1 s) := by
  unfold execIdiv
  exact (mode_intStep _ _ _ _ _ h0)

theorem mode_execTbl {s0 : State} (a0 : Nat) (a1 : Sys2Proof.W64) (s : State)  (h0 : Mode s0 s) : ModeOut s0 (execTbl a0 a1 s) := by
  unfold execTbl
  exact (mode_micro _ _ _ _ _ (fun x129 t130 h131 => (by
      extract_lets v132
      exact (modeE_bind (fun x133 x134 => (modeE_bind (fun x135 x136 => (by
        extract_lets v137
        exact (modeE_bind (fun x139 x142 => (modeE_pure (mode_fst (mode_putLanes _ _ _ _ _ h131)))))))))))) h0)

theorem mode_execExp2q {s0 : State} (a0 : Nat) (a1 : Sys2Proof.W64) (s : State)  (h0 : Mode s0 s) : ModeOut s0 (execExp2q a0 a1 s) := by
  unfold execExp2q
  exact (mode_intStep _ _ _ _ _ h0)

theorem mode_execLog2q {s0 : State} (a0 : Nat) (a1 : Sys2Proof.W64) (s : State)  (h0 : Mode s0 s) : ModeOut s0 (execLog2q a0 a1 s) := by
  unfold execLog2q
  exact (mode_intStep _ _ _ _ _ h0)

theorem mode_execRsqrtq {s0 : State} (a0 : Nat) (a1 : Sys2Proof.W64) (s : State)  (h0 : Mode s0 s) : ModeOut s0 (execRsqrtq a0 a1 s) := by
  unfold execRsqrtq
  exact (mode_intStep _ _ _ _ _ h0)

theorem mode_execFadd {s0 : State} (a0 : Nat) (a1 : Sys2Proof.W64) (s : State)  (h0 : Mode s0 s) : ModeOut s0 (execFadd a0 a1 s) := by
  unfold execFadd
  exact (mode_fpStepFmt _ _ _ _ _ _ h0)

theorem mode_execFsub {s0 : State} (a0 : Nat) (a1 : Sys2Proof.W64) (s : State)  (h0 : Mode s0 s) : ModeOut s0 (execFsub a0 a1 s) := by
  unfold execFsub
  exact (mode_fpStepFmt _ _ _ _ _ _ h0)

theorem mode_execFmul {s0 : State} (a0 : Nat) (a1 : Sys2Proof.W64) (s : State)  (h0 : Mode s0 s) : ModeOut s0 (execFmul a0 a1 s) := by
  unfold execFmul
  exact (mode_fpStepFmt _ _ _ _ _ _ h0)

theorem mode_execFma {s0 : State} (a0 : Nat) (a1 : Sys2Proof.W64) (s : State)  (h0 : Mode s0 s) : ModeOut s0 (execFma a0 a1 s) := by
  unfold execFma
  exact (mode_fpStepFmt _ _ _ _ _ _ h0)

theorem mode_execFmax {s0 : State} (a0 : Nat) (a1 : Sys2Proof.W64) (s : State)  (h0 : Mode s0 s) : ModeOut s0 (execFmax a0 a1 s) := by
  unfold execFmax
  exact (mode_fpStepFmt _ _ _ _ _ _ h0)

theorem mode_execFmin {s0 : State} (a0 : Nat) (a1 : Sys2Proof.W64) (s : State)  (h0 : Mode s0 s) : ModeOut s0 (execFmin a0 a1 s) := by
  unfold execFmin
  exact (mode_fpStepFmt _ _ _ _ _ _ h0)

theorem mode_execFcmp {s0 : State} (a0 : Nat) (a1 : Sys2Proof.W64) (s : State)  (h0 : Mode s0 s) : ModeOut s0 (execFcmp a0 a1 s) := by
  unfold execFcmp
  exact (mode_cmpStep _ _ _ _ _ h0)

theorem mode_execFcvt {s0 : State} (a0 : Nat) (a1 : Sys2Proof.W64) (s : State)  (h0 : Mode s0 s) : ModeOut s0 (execFcvt a0 a1 s) := by
  unfold execFcvt
  exact (mode_fpStepFmt _ _ _ _ _ _ h0)

theorem mode_execFtoi {s0 : State} (a0 : Nat) (a1 : Sys2Proof.W64) (s : State)  (h0 : Mode s0 s) : ModeOut s0 (execFtoi a0 a1 s) := by
  unfold execFtoi
  exact (mode_intStep _ _ _ _ _ h0)

theorem mode_execItof {s0 : State} (a0 : Nat) (a1 : Sys2Proof.W64) (s : State)  (h0 : Mode s0 s) : ModeOut s0 (execItof a0 a1 s) := by
  unfold execItof
  exact (mode_fpStepFmt _ _ _ _ _ _ h0)

theorem mode_execFdiv {s0 : State} (a0 : Nat) (a1 : Sys2Proof.W64) (s : State)  (h0 : Mode s0 s) : ModeOut s0 (execFdiv a0 a1 s) := by
  unfold execFdiv
  exact (mode_fpStepFmt _ _ _ _ _ _ h0)

theorem mode_execExp2f {s0 : State} (a0 : Nat) (a1 : Sys2Proof.W64) (s : State)  (h0 : Mode s0 s) : ModeOut s0 (execExp2f a0 a1 s) := by
  unfold execExp2f
  exact (mode_fpStepFmt _ _ _ _ _ _ h0)

theorem mode_execLog2f {s0 : State} (a0 : Nat) (a1 : Sys2Proof.W64) (s : State)  (h0 : Mode s0 s) : ModeOut s0 (execLog2f a0 a1 s) := by
  unfold execLog2f
  exact (mode_fpStepFmt _ _ _ _ _ _ h0)

theorem mode_execRcpf {s0 : State} (a0 : Nat) (a1 : Sys2Proof.W64) (s : State)  (h0 : Mode s0 s) : ModeOut s0 (execRcpf a0 a1 s) := by
  unfold execRcpf
  exact (mode_fpStepFmt _ _ _ _ _ _ h0)

theorem mode_execRsqrtf {s0 : State} (a0 : Nat) (a1 : Sys2Proof.W64) (s : State)  (h0 : Mode s0 s) : ModeOut s0 (execRsqrtf a0 a1 s) := by
  unfold execRsqrtf
  exact (mode_fpStepFmt _ _ _ _ _ _ h0)

theorem mode_setAcc {s0 : State} (s : State) (a1 : Nat) (a2 : Nat) (a3 : VAcc)  (h0 : Mode s0 s) : Mode s0 (setAcc s a1 a2 a3) := by
  unfold setAcc
  exact (mode_setVec _ _ _ h0)

theorem mode_reduce {s0 : State} (a0 : Nat) (a1 : Sys2Proof.W64) (a2 : Nat) (a3 : Vec → Int → Int × NumFlags) (a4 : Vec → VAcc → VAcc × NumFlags) (s : State)  (h0 : Mode s0 s) : ModeOut s0 (reduce a0 a1 a2 a3 a4 s) := by
  unfold reduce
  exact (mode_micro _ _ _ _ _ (fun x143 t144 h145 => (by
      extract_lets v146
      exact (modeE_ite (by
        split
        · rename_i x150 x151 x152 e153
          exact (modeE_ok (mode_fst (mode_noteFlags _ _ _ _ _ (mode_setAcc _ _ _ _ h145))))) (by
        split
        · rename_i x166 x167 x168 e169
          exact (by
            split
            · rename_i x172 x173 x174 e175
              exact (modeE_ok (mode_fst (mode_noteFlags _ _ _ _ _ (mode_setAcc _ _ _ _ h145))))))))) h0)

theorem mode_execRsum {s0 : State} (a0 : Nat) (a1 : Sys2Proof.W64) (s : State)  (h0 : Mode s0 s) : ModeOut s0 (execRsum a0 a1 s) := by
  unfold execRsum
  exact (mode_reduce _ _ _ _ _ _ h0)

theorem mode_execRdot {s0 : State} (a0 : Nat) (a1 : Sys2Proof.W64) (s : State)  (h0 : Mode s0 s) : ModeOut s0 (execRdot a0 a1 s) := by
  unfold execRdot
  exact (mode_reduce _ _ _ _ _ _ h0)

theorem mode_execRmax {s0 : State} (a0 : Nat) (a1 : Sys2Proof.W64) (s : State)  (h0 : Mode s0 s) : ModeOut s0 (execRmax a0 a1 s) := by
  unfold execRmax
  exact (mode_reduce _ _ _ _ _ _ h0)

theorem mode_execRmin {s0 : State} (a0 : Nat) (a1 : Sys2Proof.W64) (s : State)  (h0 : Mode s0 s) : ModeOut s0 (execRmin a0 a1 s) := by
  unfold execRmin
  exact (mode_reduce _ _ _ _ _ _ h0)

theorem mode_execAclr {s0 : State} (a0 : Nat) (a1 : Sys2Proof.W64) (s : State)  (h0 : Mode s0 s) : ModeOut s0 (execAclr a0 a1 s) := by
  unfold execAclr
  exact (mode_micro _ _ _ _ _ (fun x157 t158 h159 => (modeE_ok (mode_fst (mode_setAcc _ _ _ _ h159)))) h0)

theorem mode_execAget {s0 : State} (a0 : Nat) (a1 : Sys2Proof.W64) (s : State)  (h0 : Mode s0 s) : ModeOut s0 (execAget a0 a1 s) := by
  unfold execAget
  exact (mode_micro _ _ _ _ _ (fun x154 t155 h156 => (by
      extract_lets v160
      exact (modeE_ok (mode_fst (mode_putLanes _ _ _ _ _ h156))))) h0)

theorem mode_execAgetd {s0 : State} (a0 : Nat) (a1 : Sys2Proof.W64) (s : State)  (h0 : Mode s0 s) : ModeOut s0 (execAgetd a0 a1 s) := by
  unfold execAgetd
  exact (mode_micro _ _ _ _ _ (fun x161 t162 h163 => (by
      extract_lets v164 v165
      exact (modeE_ok (mode_fst (mode_putLanes _ _ _ _ _ h163))))) h0)

/-! ### Machine/Boxes.lean -/

theorem mode_boxRun {s0 : State} (s : State) (a1 : Nat) (a2 : Nat) (a3 : Sys2Proof.W128)  (h0 : Mode s0 s) : ModeE (fun x => x) s0 (boxRun s a1 a2 a3) := by
  unfold boxRun
  exact (modeE_bind (fun x0 x1 => (modeE_bind (fun x3 x4 => (modeE_bind (fun x6 x7 => (by
      extract_lets v10 v11 v12 v13 v14
      have h15 : Mode s0 v13 := (mode_ite (mode_rawFree _ h0) h0)
      clear_value v13
      exact (modeE_ite (modeE_bind (fun x22 x23 => (modeE_bind (fun x24 x25 => (by
        split
        · rename_i x26 x27 x28 x29 x30 e31
          exact (modeE_bind (fun x32 x33 => (modeE_bind (fun t34 x35 => (by
            extract_lets v36 v37 v38 v39 v40
            have h41 : Mode s0 v36 := (mode_advElems _ _ _ _ (modeE_get (f := fun x => x) x35 (modeE_foldlM (fun t42 x43 h44 => (by
              split
              · rename_i x45 x46 x47
                exact (mode_writeElem _ _ _ _ _ _ h44))) h15)))
            clear_value v36
            have h48 : Mode s0 v37 := (mode_ite (mode_advElems _ _ _ _ h41) h41)
            clear_value v37
            have h49 : Mode s0 v38 := (mode_advElems _ _ _ _ h48)
            clear_value v38
            have h50 : Mode s0 v39 := (mode_count64 _ _ _ h49)
            clear_value v39
            have h51 : Mode s0 v40 := (mode_count64 _ _ _ h50)
            clear_value v40
            exact (modeE_pure (mode_noteFlags _ _ _ _ _ h51)))))))))))) (modeE_bind (fun x52 x53 => (modeE_bind (fun x54 x55 => (by
        split
        · rename_i x56 x57 x58 x59 x60 e61
          exact (modeE_bind (fun x62 x63 => (modeE_bind (fun t64 x65 => (by
            extract_lets v66 v67 v68 v69 v70
            have h71 : Mode s0 v66 := (mode_advElems _ _ _ _ (modeE_get (f := fun x => x) x65 (modeE_foldlM (fun t72 x73 h74 => (by
              split
              · rename_i x75 x76 x77
                exact (mode_writeElem _ _ _ _ _ _ h74))) h15)))
            clear_value v66
            have h78 : Mode s0 v67 := (mode_ite (mode_advElems _ _ _ _ h71) h71)
            clear_value v67
            have h79 : Mode s0 v68 := (mode_advElems _ _ _ _ h78)
            clear_value v68
            have h80 : Mode s0 v69 := (mode_count64 _ _ _ h79)
            clear_value v69
            have h81 : Mode s0 v70 := (mode_count64 _ _ _ h80)
            clear_value v70
            exact (modeE_pure (mode_noteFlags _ _ _ _ _ h81))))))))))))))))))))

theorem mode_boxStart {s0 : State} (a0 : Nat) (a1 : Nat) (a2 : Sys2Proof.W128) (s : State)  (h0 : Mode s0 s) : Mode s0 (boxStart a0 a1 a2 s) := by
  unfold boxStart
  exact (by
      extract_lets v2
      have h5 : Mode s0 v2 := (mode_wr32 _ _ _ h0)
      clear_value v2
      exact (by
        split
        · rename_i x16 x17 e18
          exact (mode_vecFault _ _ _ _ (mode_setVec _ _ _ h5))
        · rename_i x19 t20 e21
          exact (modeE_get (f := fun x => x) e21 (mode_boxRun _ _ _ _ h5))))

theorem mode_execBoxDecoding {s0 : State} (a0 : Nat) (a1 : Nat) (a2 : Sys2Proof.W128) (s : State)  (h0 : Mode s0 s) : ModeOut s0 (execBoxDecoding a0 a1 a2 s) := by
  unfold execBoxDecoding
  exact (mode_vecIssue _ _ _ _ _ _ (fun t8 h9 => (mode_boxStart _ _ _ _ h9)) h0)

/-! ### Machine/Combine.lean -/

theorem mode_setSlots {s0 : State} (s : State) (a1 : Nat) (a2 : List CSlot)  (h0 : Mode s0 s) : Mode s0 (setSlots s a1 a2) := by
  unfold setSlots
  exact (mode_wrBits _ _ _ _ _ (mode_setCore _ _ _ h0))

theorem mode_execCslot {s0 : State} (a0 : Nat) (a1 : Nat) (a2 : Sys2Proof.W128) (s : State)  (h0 : Mode s0 s) : ModeOut s0 (execCslot a0 a1 a2 s) := by
  unfold execCslot
  exact (mode_out (by
      extract_lets v6 v8 v9 v10 v11 v12
      have h17 : Mode s0 v11 := (mode_setCore _ _ _ h0)
      clear_value v11
      have h22 : Mode s0 v12 := (mode_useRegion _ _ _ _ _ _ _ h17)
      clear_value v12
      exact (mode_ite (mode_notIssued _ _ _ h0) (mode_setSlots _ _ _ (mode_nextPc _ _ _ h22)))))

theorem mode_discardRecord {s0 : State} (s : State) (a1 : Nat)  (h0 : Mode s0 s) : Mode s0 (discardRecord s a1) := by
  unfold discardRecord
  exact (mode_count64 _ _ _ h0)

theorem mode_holdRecord {s0 : State} (s : State) (a1 : Nat) (a2 : CSlot) (a3 : Sys2Proof.W256)  (h0 : Mode s0 s) : Mode s0 (holdRecord s a1 a2 a3) := by
  unfold holdRecord
  exact (by
      split
      · rename_i x34 x35 e36
        exact h0
      · rename_i x38 x39 e40
        exact (by
          extract_lets v41
          exact (mode_ite (mode_storePoke _ _ _ _ _ h0) h0)))

theorem mode_execCombineRecord {s0 : State} (a0 : Nat) (a1 : Sys2Proof.W256) (s : State)  (h0 : Mode s0 s) : ModeOut s0 (execCombineRecord a0 a1 s) := by
  unfold execCombineRecord
  exact (mode_out (mode_ite h0 (by
      split
      · rename_i x7 e13
        exact h0
      · rename_i x14 x15 e16
        exact (by
          extract_lets v18 v19 v20
          have h21 : Mode s0 v20 := (mode_setCore _ _ _ h0)
          clear_value v20
          exact (by
            split
            · rename_i x24 e25
              exact (mode_discardRecord _ _ h21)
            · rename_i x29 x30 e31
              exact (mode_ite (mode_discardRecord _ _ h21) (by
                extract_lets v43
                have h44 : Mode s0 v43 := (mode_ite (mode_holdRecord _ _ _ _ h21) h21)
                clear_value v43
                exact (by
                  split
                  · rename_i x61 x62 x63 e64
                    exact (by
                      extract_lets v68 v69 v70
                      have h71 : Mode s0 v68 := (mode_setBankEntry _ _ _ _ _ _ _ h44)
                      clear_value v68
                      have h72 : Mode s0 v69 := (mode_ite (mode_noteFlags _ _ _ _ _ h71) h71)
                      clear_value v69
                      exact (mode_ite (mode_setSlots _ _ _ h72) (mode_setSlots _ _ _ h72)))))))))))

theorem mode_appendRecord {s0 : State} (a0 : Nat) (s : State) (a2 : Sys2Proof.W256)  (h0 : Mode s0 s) : Mode s0 (appendRecord a0 s a2) := by
  unfold appendRecord
  exact (by
      split
      · rename_i x0 e1
        exact h0
      · rename_i x2 x3 e4
        exact (by
          extract_lets v5
          have h23 : Mode s0 v5 := (mode_chanWrite _ _ _ _ h0)
          clear_value v5
          exact (mode_updChan _ _ _ h23)))

theorem mode_sendRecords {s0 : State} (s : State) (a1 : Nat) (a2 : Path) (a3 : Nat) (a4 : List Sys2Proof.W256)  (h0 : Mode s0 s) : Mode s0 (sendRecords s a1 a2 a3 a4) := by
  unfold sendRecords
  exact (mode_ite (mode_foldl (fun t26 x27 h28 => (mode_appendRecord _ _ _ h28)) h0) (by
      extract_lets v53 v54 v55
      exact (mode_setCore _ _ _ h0)))

theorem mode_mmaSend {s0 : State} (a0 : Nat) (a1 : Nat) (a2 : Sys2Proof.W128) (a3 : Bool) (s : State)  (h0 : Mode s0 s) : Mode s0 (mmaSend a0 a1 a2 a3 s) := by
  unfold mmaSend
  exact (by
      extract_lets v32 v33
      have h37 : Mode s0 v32 := h0
      clear_value v32
      have h42 : Mode s0 v33 := (mode_mmaSwapIn _ _ _ h0)
      clear_value v33
      exact (by
        split
        · rename_i x45 x46 e47
          exact (mode_agFault _ _ _ _ _ _ h37)
        · rename_i x50 x51 e52
          exact (by
            extract_lets v56 v57
            have h58 : Mode s0 v57 := (mode_writeBand _ _ _ _ _ h42)
            clear_value v57
            exact (by
              split
              · rename_i x65 x66 e67
                exact (mode_agFault _ _ _ _ _ _ h37)
              · rename_i x73 x74 x75 e76
                exact (mode_mmaAfter _ _ _ _ _ _ (mode_noteFlags _ _ _ _ _ (mode_sendRecords _ _ _ _ _ h58)))))))

theorem mode_execMmaEmit {s0 : State} (a0 : Nat) (a1 : Nat) (a2 : Sys2Proof.W128) (s : State)  (h0 : Mode s0 s) : ModeOut s0 (execMmaEmit a0 a1 a2 s) := by
  unfold execMmaEmit
  exact (mode_mmaIssue _ _ _ _ _ _ (fun t48 h49 => (mode_mmaSend _ _ _ _ _ h49)) h0)

theorem mode_execMmaHead {s0 : State} (a0 : Nat) (a1 : Nat) (a2 : Sys2Proof.W128) (s : State)  (h0 : Mode s0 s) : ModeOut s0 (execMmaHead a0 a1 a2 s) := by
  unfold execMmaHead
  exact (mode_mmaIssue _ _ _ _ _ _ (fun t59 h60 => (mode_mmaSend _ _ _ _ _ h60)) h0)

end Sys2Proof.Machine
end

