-- ==== Sys2Proof/Laws/ModeFabric.lean ====
section
/-! SUPPORT. `Mode` through the links, repairs, periods, the shutter, the fabric, streams and the Ethernet subsystem: one lemma per function. -/

namespace Sys2Proof.Machine

/-! ### Machine/Links.lean -/

theorem mode_updLink {s0 : State} (s : State) (a1 : Nat) (a2 : FLink → FLink)  (h0 : Mode s0 s) : Mode s0 (updLink s a1 a2) := by
  unfold updLink
  exact (mode_setFab _ h0)

theorem mode_showLink {s0 : State} (s : State) (a1 : Nat)  (h0 : Mode s0 s) : Mode s0 (showLink s a1) := by
  unfold showLink
  exact (by
      extract_lets v3
      exact (mode_ite h0 (mode_arrive _ _ _ (mode_wrBits _ _ _ _ _ h0))))

theorem mode_showLinks {s0 : State} (s : State)  (h0 : Mode s0 s) : Mode s0 (showLinks s) := by
  unfold showLinks
  exact (mode_foldl (fun t4 x5 h6 => (mode_showLink _ _ h6)) h0)

theorem mode_clearFails {s0 : State} (s : State)  (h0 : Mode s0 s) : Mode s0 (clearFails s) := by
  unfold clearFails
  exact (by
      extract_lets v0 v1
      have h2 : Mode s0 v1 := (mode_setFab _ h0)
      clear_value v1
      exact (mode_wr64 _ _ _ (mode_foldl (fun t7 x8 h9 => (mode_wr32 _ _ _ h9)) (mode_wr64 _ _ _ h2))))

/-! ### Machine/Repair.lean -/

theorem mode_refreshCore {s0 : State} (s : State) (a1 : Nat)  (h0 : Mode s0 s) : Mode s0 (refreshCore s a1) := by
  unfold refreshCore
  exact (by
      extract_lets v3 v4 v5 v6 v7
      have h9 : Mode s0 v7 := (mode_wrBits _ _ _ _ _ h0)
      clear_value v7
      exact (mode_wrBits _ _ _ _ _ h9))

theorem mode_clearArrays {s0 : State} (s : State) (a1 : Nat)  (h0 : Mode s0 s) : Mode s0 (clearArrays s a1) := by
  unfold clearArrays
  exact (by
      extract_lets v0 v1 v2
      have h8 : Mode s0 v2 := (mode_setCore _ _ _ h0)
      clear_value v2
      exact (mode_wrBits _ _ _ _ _ h8))

theorem mode_jAdd {s0 : State} (s : State) (a1 : JEntry)  (h0 : Mode s0 s) : Mode s0 (jAdd s a1).1 := by
  unfold jAdd
  exact (mode_fst (mode_setFlash _ h0))

theorem mode_jApply {s0 : State} (s : State) (a1 : Nat)  (h0 : Mode s0 s) : Mode s0 (jApply s a1) := by
  unfold jApply
  exact (mode_setFlash _ h0)

theorem mode_countCE {s0 : State} (s : State) (a1 : Nat) (a2 : Nat)  (h0 : Mode s0 s) : Mode s0 (countCE s a1 a2) := by
  unfold countCE
  exact (by
      extract_lets v10 v11 v12 v13 v14 v15
      have h16 : Mode s0 v14 := (mode_setRep _ h0)
      clear_value v14
      have h17 : Mode s0 v15 := (mode_satCount64 _ _ _ h16)
      clear_value v15
      exact (mode_ite (mode_wr64 _ _ _ h17) h17))

theorem mode_setPend {s0 : State} (s : State) (a1 : List RPend)  (h0 : Mode s0 s) : Mode s0 (setPend s a1) := by
  unfold setPend
  exact (mode_wrBits _ _ _ _ _ (mode_setRep _ h0))

theorem mode_repairEvent {s0 : State} (s : State) (a1 : Nat)  (h0 : Mode s0 s) : Mode s0 (repairEvent s a1) := by
  unfold repairEvent
  exact (mode_arrive _ _ _ h0)

theorem mode_degradeCore {s0 : State} (s : State) (a1 : Nat)  (h0 : Mode s0 s) : Mode s0 (degradeCore s a1) := by
  unfold degradeCore
  exact (by
      extract_lets v18 v19 v20
      have h21 : Mode s0 v19 := (mode_abortWhere _ _ _ h0)
      clear_value v19
      exact (mode_ite h0 (mode_ite (mode_setRep _ h21) (mode_stopPartition _ _ _ h0))))

theorem mode_retireArray {s0 : State} (s : State) (a1 : Nat) (a2 : Nat)  (h0 : Mode s0 s) : Mode s0 (retireArray s a1 a2) := by
  unfold retireArray
  exact (mode_ite h0 (by
      extract_lets v22 v23 v24 v25 v26
      have h27 : Mode s0 v24 := (mode_setRep _ h0)
      clear_value v24
      have h28 : Mode s0 v25 := (mode_foldl (fun t29 x30 h31 => (mode_ite (mode_wrBits _ _ _ _ _ h31) h31)) h27)
      clear_value v25
      have h35 : Mode s0 v26 := (mode_ite (mode_wrBits _ _ _ _ _ h27) (mode_wrBits _ _ _ _ _ h28))
      clear_value v26
      exact (mode_degradeCore _ _ (mode_refreshCore _ _ (mode_clearArrays _ _ h35)))))

theorem mode_retireColumn {s0 : State} (s : State) (a1 : Nat) (a2 : Nat) (a3 : Nat)  (h0 : Mode s0 s) : Mode s0 (retireColumn s a1 a2 a3) := by
  unfold retireColumn
  exact (by
      extract_lets v32 v33 v34
      exact (mode_ite h0 (mode_ite (mode_retireArray _ _ _ h0) (mode_refreshCore _ _ (mode_clearArrays _ _ (mode_wr32 _ _ _ h0))))))

theorem mode_retireChan {s0 : State} (s : State) (a1 : Nat) (a2 : Nat)  (h0 : Mode s0 s) : Mode s0 (retireChan s a1 a2) := by
  unfold retireChan
  exact (by
      extract_lets v36 v37
      have h38 : Mode s0 v37 := (mode_arrive _ _ _ (mode_wrBits _ _ _ _ _ h0))
      clear_value v37
      exact (mode_ite h0 (mode_ite (mode_foldl (fun t39 x40 h41 => (mode_ite (mode_stopPartition _ _ _ h41) h41)) h38) (mode_wrBits _ _ _ _ _ (mode_wrBits _ _ _ _ _ (mode_wrBits _ _ _ _ _ h38))))))

theorem mode_applyRepair {s0 : State} (s : State) (a1 : Nat) (a2 : Nat)  (h0 : Mode s0 s) : Mode s0 (applyRepair s a1 a2) := by
  unfold applyRepair
  exact (by
      split
      · rename_i x104 e105
        exact (mode_retireColumn _ _ _ _ h0)
      · rename_i x111 e112
        exact (mode_retireArray _ _ _ h0)
      · rename_i x113 e114
        exact (mode_setRep _ h0)
      · rename_i x115 e116
        exact (mode_setRep _ h0)
      · rename_i x117 e118
        exact (mode_retireChan _ _ _ h0)
      · rename_i x119 e120
        exact (mode_setRep _ h0)
      · rename_i x121 e122
        exact (by
          extract_lets v123
          have h124 : Mode s0 v123 := (mode_wrBits _ _ _ _ _ h0)
          clear_value v123
          exact (mode_ite (mode_stopPartition _ _ _ h124) h124))
      · rename_i x131 e132 e133 e134 e135 e136 e137 e138
        exact h0)

theorem mode_unrepairable {s0 : State} (s : State) (a1 : Nat)  (h0 : Mode s0 s) : Mode s0 (unrepairable s a1) := by
  unfold unrepairable
  exact (mode_repairEvent _ _ (mode_satCount64 _ _ _ (mode_count64 _ _ _ h0)))

theorem mode_engage {s0 : State} (s : State) (a1 : Nat) (a2 : Nat) (a3 : Nat)  (h0 : Mode s0 s) : Mode s0 (engage s a1 a2 a3) := by
  unfold engage
  exact (mode_ite h0 (by
      split
      · rename_i x51 e52
        exact (mode_unrepairable _ _ h0)
      · rename_i x56 x57 x58 e59
        exact (mode_ite h0 (by
          extract_lets v62 v63 v64
          exact (by
            split
            · rename_i x65 t66 x67 e68
              exact (by
                extract_lets v71 v72 v73
                have h74 : Mode s0 v71 := (mode_ite (mode_wrBits _ _ _ _ _ (mode_fst_eq e68 (mode_jAdd _ _ h0))) (mode_fst_eq e68 (mode_jAdd _ _ h0)))
                clear_value v71
                have h87 : Mode s0 v73 := (mode_ite (mode_setRep _ h74) h74)
                clear_value v73
                exact (mode_setPend _ _ h87)))))))

theorem mode_finishRepair {s0 : State} (s : State) (a1 : RPend)  (h0 : Mode s0 s) : Mode s0 (finishRepair s a1) := by
  unfold finishRepair
  exact (by
      extract_lets v42 v43 v44 v45 v46
      have h47 : Mode s0 v42 := (mode_applyRepair _ _ _ h0)
      clear_value v42
      have h150 : Mode s0 v43 := (mode_setPend _ _ h47)
      clear_value v43
      have h151 : Mode s0 v45 := (mode_setRep _ h150)
      clear_value v45
      have h157 : Mode s0 v46 := (mode_count64 _ _ _ (mode_jApply _ _ h151))
      clear_value v46
      exact (mode_repairEvent _ _ (mode_satCount64 _ _ _ h157)))

theorem mode_replayJournal {s0 : State} (s : State)  (h0 : Mode s0 s) : Mode s0 (replayJournal s) := by
  unfold replayJournal
  exact (by
      extract_lets v48 v49
      have h50 : Mode s0 v48 := (mode_foldl (fun t53 x54 h55 => (mode_applyRepair _ _ _ h55)) h0)
      clear_value v48
      exact (mode_setFlash _ h50))

theorem mode_evict {s0 : State} (s : State)  (h0 : Mode s0 s) : Mode s0 (evict s) := by
  unfold evict
  exact (by
      extract_lets v60 v61
      exact (by
        split
        · rename_i x69 e70
          exact h0
        · rename_i x84 x85 e86
          exact (mode_count64 _ _ _ (mode_setRep _ h0))))

theorem mode_countOn {s0 : State} (s : State) (a1 : Nat) (a2 : Nat)  (h0 : Mode s0 s) : Mode s0 (countOn s a1 a2).1 := by
  unfold countOn
  exact (by
      extract_lets v75 v76 v77 v78 v79 v80 v81 v82
      have h83 : Mode s0 v79 := (mode_ite (mode_evict _ h0) h0)
      clear_value v79
      have h88 : Mode s0 v81 := (mode_ite h0 (mode_setRep _ h83))
      clear_value v81
      exact (by
        split
        · rename_i x94 e95
          exact h88
        · rename_i x98 x99 e100
          exact (by
            extract_lets v101 v102 v103
            exact (mode_fst (mode_setRep _ h88)))))

theorem mode_lasting {s0 : State} (s : State) (a1 : Nat) (a2 : Nat) (a3 : Nat)  (h0 : Mode s0 s) : Mode s0 (lasting s a1 a2 a3) := by
  unfold lasting
  exact (mode_ite (by
      split
      · rename_i x89 t90 x91 x92 e93
        exact (mode_ite (mode_engage _ _ _ _ (mode_fst_eq e93 (mode_countOn _ _ _ h0))) (mode_fst_eq e93 (mode_countOn _ _ _ h0)))) (mode_ite (mode_ite h0 (mode_setRep _ h0)) (mode_engage _ _ _ _ h0)))

theorem mode_faultEventAt {s0 : State} (s : State) (a1 : Nat) (a2 : Bool)  (h0 : Mode s0 s) : Mode s0 (faultEventAt s a1 a2) := by
  unfold faultEventAt
  exact (by
      extract_lets v96 v97
      exact (by
        split
        · rename_i x106 t107 x108 x109 e110
          exact (mode_ite (mode_lasting _ _ _ _ (mode_fst_eq e110 (mode_countOn _ _ _ h0))) (mode_fst_eq e110 (mode_countOn _ _ _ h0)))))

theorem mode_repStep {s0 : State} (s : State) (a1 : Nat) (a2 : Nat)  (h0 : Mode s0 s) : Mode s0 (repStep s a1 a2) := by
  unfold repStep
  exact (mode_ite (mode_setRep _ h0) (mode_setRep _ h0))

theorem mode_forceIdle {s0 : State} (s : State) (a1 : Nat)  (h0 : Mode s0 s) : Mode s0 (forceIdle s a1) := by
  unfold forceIdle
  exact (mode_abortWhere _ _ _ h0)

theorem mode_swapSpare {s0 : State} (s : State) (a1 : Nat) (a2 : Nat)  (h0 : Mode s0 s) : Mode s0 (swapSpare s a1 a2) := by
  unfold swapSpare
  exact (by
      extract_lets v125 v126
      have h127 : Mode s0 v126 := (mode_foldl (fun t128 x129 h130 => (mode_ite (mode_wrBits _ _ _ _ _ h130) h130)) h0)
      clear_value v126
      exact (mode_ite h0 (mode_refreshCore _ _ (mode_clearArrays _ _ (mode_wrBits _ _ _ _ _ h127)))))

theorem mode_execRetire {s0 : State} (a0 : Sys2Proof.W32) (s : State)  (h0 : Mode s0 s) : ModeOut s0 (execRetire a0 s) := by
  unfold execRetire
  exact (mode_out (mode_ite h0 (mode_ite (mode_lasting _ _ _ _ h0) (mode_ite h0 (mode_engage _ _ _ _ h0)))))

theorem mode_arrayFault {s0 : State} (s : State) (a1 : Nat) (a2 : Nat) (a3 : Nat)  (h0 : Mode s0 s) : Mode s0 (arrayFault s a1 a2 a3) := by
  unfold arrayFault
  exact (by
      extract_lets v139
      exact (mode_ite (mode_abortWhere _ _ _ (mode_raise _ _ _ h0)) h0))

theorem mode_coreFault {s0 : State} (s : State) (a1 : Nat)  (h0 : Mode s0 s) : Mode s0 (coreFault s a1) := by
  unfold coreFault
  exact (by
      split
      · rename_i x144 x145 t146 e147
        exact (by
          extract_lets v148 v149
          exact (by
            split
            · rename_i x173 x174 x175 e176 e177
              exact (mode_vecFault _ _ _ _ (mode_snd_eq e147 (mode_fresh h0)))
            · rename_i x185 x186 e187 e188
              exact (mode_snd_eq e147 (mode_fresh h0))
            · rename_i x189 x190 e191 e192
              exact (mode_setCore _ _ _ (mode_snd_eq e147 (mode_fresh h0))))))

theorem mode_coreCorrected {s0 : State} (s : State) (a1 : Nat)  (h0 : Mode s0 s) : Mode s0 (coreCorrected s a1) := by
  unfold coreCorrected
  exact (by
      split
      · rename_i x140 x141 t142 e143
        exact (mode_ite (mode_snd_eq e143 (mode_fresh h0)) (mode_arrive _ _ _ (mode_sticky _ _ _ (mode_countCE _ _ _ (mode_snd_eq e143 (mode_fresh h0)))))))

theorem mode_execFaultEvent {s0 : State} (a0 : Sys2Proof.W32) (a1 : Bool) (s : State)  (h0 : Mode s0 s) : ModeOut s0 (execFaultEvent a0 a1 s) := by
  unfold execFaultEvent
  exact (mode_out (by
      extract_lets v152 v153 v154 v155 v156
      have h158 : Mode s0 v154 := (mode_countCE _ _ _ h0)
      clear_value v154
      have h159 : Mode s0 v156 := (by
        unfold v156
        split
        · rename_i x221 e222
          exact (mode_ite (by
            split
            · rename_i x228 x229 t230 e231
              exact (mode_setMem _ (mode_snd_eq e231 (mode_fresh h0)))) (mode_ite (mode_arrive _ _ _ (mode_sticky _ _ _ h158)) h158))
        · rename_i x233 e234
          exact (mode_ite (by
            split
            · rename_i x235 x236 t237 e238
              exact (mode_setMem _ (mode_snd_eq e238 (mode_fresh h0)))) (mode_arrive _ _ _ (mode_count64 _ _ _ (mode_sticky _ _ _ (mode_countCE _ _ _ h0)))))
        · rename_i x242 e243
          exact (mode_ite (by
            split
            · rename_i x244 x245 t246 e247
              exact (mode_setMem _ (mode_snd_eq e247 (mode_fresh h0)))) (mode_arrive _ _ _ (mode_count64 _ _ _ (mode_sticky _ _ _ (mode_countCE _ _ _ h0)))))
        · rename_i x248 e249
          exact (mode_arrayFault _ _ _ _ h0)
        · rename_i x250 e251
          exact (mode_ite (mode_coreFault _ _ h0) (mode_coreCorrected _ _ h0))
        · rename_i x252 e253 e254 e255 e256 e257
          exact h0)
      clear_value v156
      exact (mode_ite h0 (mode_faultEventAt _ _ _ h159))))

theorem mode_execRepairCopyEnd {s0 : State} (a0 : Sys2Proof.W32) (s : State)  (h0 : Mode s0 s) : ModeOut s0 (execRepairCopyEnd a0 s) := by
  unfold execRepairCopyEnd
  exact (mode_out (by
      split
      · rename_i x160 e161
        exact h0
      · rename_i x162 x163 e164
        exact (mode_ite h0 (by
          extract_lets v165
          have h166 : Mode s0 v165 := (mode_ite (mode_arrive _ _ _ (mode_wrBits _ _ _ _ _ h0)) h0)
          clear_value v165
          exact (mode_setPend _ _ h166)))))

theorem mode_execRepairSwitch {s0 : State} (a0 : Sys2Proof.W32) (s : State)  (h0 : Mode s0 s) : ModeOut s0 (execRepairSwitch a0 s) := by
  unfold execRepairSwitch
  exact (mode_out (by
      split
      · rename_i x178 e179
        exact h0
      · rename_i x180 x181 e182
        exact (mode_ite h0 (mode_finishRepair _ _ (mode_forceIdle _ _ h0)))))

theorem mode_execPeriodicTest {s0 : State} (a0 : List Nat) (s : State)  (h0 : Mode s0 s) : ModeOut s0 (execPeriodicTest a0 s) := by
  unfold execPeriodicTest
  exact (mode_out (by
      extract_lets v167 v168 v169
      exact (mode_ite h0 (mode_foldl (fun t170 x171 h172 => (mode_lasting _ _ _ _ h172)) (mode_setRep _ h0)))))

theorem mode_execRotation {s0 : State} (a0 : Nat) (s : State)  (h0 : Mode s0 s) : ModeOut s0 (execRotation a0 s) := by
  unfold execRotation
  exact (mode_out (by
      extract_lets v183 v184
      exact (mode_ite h0 (by
        split
        · rename_i x193 e194
          exact h0
        · rename_i x195 x196 e197
          exact (by
            extract_lets v198 v199
            have h200 : Mode s0 v198 := (mode_swapSpare _ _ _ h0)
            clear_value v198
            exact (mode_setRep _ h200))))))

theorem mode_execTargetedTestEnd {s0 : State} (a0 : Sys2Proof.W32) (a1 : List Nat) (s : State)  (h0 : Mode s0 s) : ModeOut s0 (execTargetedTestEnd a0 a1 s) := by
  unfold execTargetedTestEnd
  exact (mode_out (by
      split
      · rename_i x203 e205
        exact h0
      · rename_i x206 x207 e208
        exact (mode_ite h0 (by
          extract_lets v215 v216 v217 v218 v219
          have h220 : Mode s0 v215 := (mode_ite (mode_forceIdle _ _ h0) h0)
          clear_value v215
          have h227 : Mode s0 v216 := (mode_ite (mode_swapSpare _ _ _ h220) h220)
          clear_value v216
          have h232 : Mode s0 v218 := (mode_setRep _ h227)
          clear_value v218
          exact (mode_ite (mode_ite (mode_count64 _ _ _ (mode_setRep _ h232)) h232) (mode_foldl (fun t239 x240 h241 => (mode_engage _ _ _ _ h241)) h232))))))

theorem mode_execBistEnd {s0 : State} (a0 : List Nat) (s : State)  (h0 : Mode s0 s) : ModeOut s0 (execBistEnd a0 s) := by
  unfold execBistEnd
  exact (mode_out (mode_ite h0 (by
      extract_lets v209 v210
      have h211 : Mode s0 v209 := (mode_foldl (fun t212 x213 h214 => (mode_engage _ _ _ _ h214)) h0)
      clear_value v209
      have h223 : Mode s0 v210 := (mode_foldl (fun t224 x225 h226 => (mode_finishRepair _ _ h226)) h211)
      clear_value v210
      exact (mode_wrBits _ _ _ _ _ h223))))

theorem mode_writeClass {s0 : State} (s : State) (a1 : Nat) (a2 : Nat)  (h0 : Mode s0 s) : Mode s0 (writeClass s a1 a2) := by
  unfold writeClass
  exact (by
      extract_lets v201 v202
      have h204 : Mode s0 v201 := (mode_wr32 _ _ _ h0)
      clear_value v201
      exact (mode_setRep _ h204))

theorem mode_execRepClassWrite {s0 : State} (a0 : Nat) (a1 : Sys2Proof.W32) (s : State)  (h0 : Mode s0 s) : ModeOut s0 (execRepClassWrite a0 a1 s) := by
  unfold execRepClassWrite
  exact (mode_out (mode_ite h0 (mode_writeClass _ _ _ h0)))

/-! ### Machine/Period.lean -/

theorem mode_boundary {s0 : State} (s : State)  (h0 : Mode s0 s) : Mode s0 (boundary s) := by
  unfold boundary
  exact (by
      extract_lets v0 v1 v2 v3
      have h4 : Mode s0 v1 := (mode_wr32 _ _ _ h0)
      clear_value v1
      have h5 : Mode s0 v2 := (mode_wr64 _ _ _ h4)
      clear_value v2
      exact (mode_ite h5 (mode_setLd _ h5)))

theorem mode_execPeriodBoundary {s0 : State} (s : State)  (h0 : Mode s0 s) : ModeOut s0 (execPeriodBoundary s) := by
  unfold execPeriodBoundary
  exact (mode_out (mode_ite (mode_boundary _ h0) h0))

theorem mode_startBudgets {s0 : State} (s : State) (a1 : List Nat)  (h0 : Mode s0 s) : Mode s0 (startBudgets s a1) := by
  unfold startBudgets
  exact (mode_foldl (fun t6 x7 h8 => (mode_foldl (fun t9 x10 h11 => (by
      extract_lets v15
      exact (mode_wr64 _ _ _ (mode_wr64 _ _ _ h11)))) h8)) h0)

theorem mode_refill {s0 : State} (s : State) (a1 : List Nat)  (h0 : Mode s0 s) : Mode s0 (refill s a1) := by
  unfold refill
  exact (mode_foldl (fun t12 x13 h14 => (mode_foldl (fun t16 x17 h18 => (mode_setRem _ _ _ _ h18)) h14)) h0)

theorem mode_takeBudgets {s0 : State} (s : State) (a1 : List Nat)  (h0 : Mode s0 s) : Mode s0 (takeBudgets s a1) := by
  unfold takeBudgets
  exact (mode_startBudgets _ _ (mode_refill _ _ h0))

theorem mode_releasePeriods {s0 : State} (s : State)  (h0 : Mode s0 s) : Mode s0 (releasePeriods s) := by
  unfold releasePeriods
  exact (mode_foldl (fun t19 x20 h21 => (mode_foldl (fun t22 x23 h24 => (mode_ite (mode_resume _ _ _ h24) h24)) h21)) h0)

theorem mode_scheduleStart {s0 : State} (s : State)  (h0 : Mode s0 s) : Mode s0 (scheduleStart s) := by
  unfold scheduleStart
  exact (mode_ite h0 (by
      extract_lets v25 v26 v27 v28
      exact (mode_admitWaiting _ (mode_setStr _ h0))))

theorem mode_degradedSwitch {s0 : State} (s : State)  (h0 : Mode s0 s) : Mode s0 (degradedSwitch s) := by
  unfold degradedSwitch
  exact (by
      extract_lets v29 v30
      have h31 : Mode s0 v29 := (mode_foldl (fun t37 x38 h39 => (by
        split
        · rename_i x44 x45 x46
          exact (by
            extract_lets v48 v49 v50 v51 v52 v53
            have h54 : Mode s0 v50 := (mode_setImg _ h39)
            clear_value v50
            have h62 : Mode s0 v52 := (mode_foldl (fun t63 x64 h65 => (by
              split
              · rename_i x73 x74 x75
                exact (mode_storePoke _ _ _ _ _ h65))) h54)
            clear_value v52
            have h76 : Mode s0 v53 := (mode_foldl (fun t77 x78 h79 => (by
              split
              · rename_i x81 x82 x83
                exact (mode_setCtx _ _ _ _ h79))) h62)
            clear_value v53
            exact (mode_wrBits _ _ _ _ _ h76)))) h0)
      clear_value v29
      exact (mode_setRep _ h31))

theorem mode_freezeSwitch {s0 : State} (s : State)  (h0 : Mode s0 s) : Mode s0 (freezeSwitch s) := by
  unfold freezeSwitch
  exact (mode_ite h0 (by
      extract_lets v32 v33 v34 v35 v36
      have h40 : Mode s0 v34 := (mode_wrBits _ _ _ _ _ (mode_wrBits _ _ _ _ _ h0))
      clear_value v34
      have h47 : Mode s0 v35 := (mode_ite (mode_setCores _ h40) h40)
      clear_value v35
      exact (mode_setSht _ h47)))

theorem mode_agePeriod {s0 : State} (s : State)  (h0 : Mode s0 s) : Mode s0 (agePeriod s) := by
  unfold agePeriod
  exact (by
      extract_lets v41 v42
      have h43 : Mode s0 v42 := (mode_setStr _ h0)
      clear_value v42
      exact (mode_foldl (fun t59 x60 h61 => (by
        split
        · rename_i x66 x67 x68 x69
          exact (mode_updTask _ _ _ _ h61))) h43))

theorem mode_refillDeliveries {s0 : State} (s : State)  (h0 : Mode s0 s) : Mode s0 (refillDeliveries s) := by
  unfold refillDeliveries
  exact (mode_foldl (fun t55 x56 h57 => (by
      extract_lets v58
      exact (mode_wrBits _ _ _ _ _ h57))) h0)

theorem mode_takeFabricBoundary {s0 : State} (s : State)  (h0 : Mode s0 s) : Mode s0 (takeFabricBoundary s) := by
  unfold takeFabricBoundary
  exact (mode_ite h0 (mode_takeBudgets _ _ (mode_setFab _ (mode_setDom _ h0))))

theorem mode_execBoundaryTaken {s0 : State} (a0 : Nat) (s : State)  (h0 : Mode s0 s) : ModeOut s0 (execBoundaryTaken a0 s) := by
  unfold execBoundaryTaken
  exact (mode_out (mode_ite h0 (mode_ite (mode_takeFabricBoundary _ h0) (by
      extract_lets v70 v71
      have h72 : Mode s0 v70 := (mode_setDom _ h0)
      clear_value v70
      have h80 : Mode s0 v71 := (mode_agePeriod _ (mode_takeBudgets _ _ h72))
      clear_value v71
      exact (by
        split
        · rename_i x84
          exact (mode_releasePeriods _ (mode_freezeSwitch _ (mode_degradedSwitch _ (mode_scheduleStart _ h80))))
        · rename_i x85
          exact (mode_takeBudgets _ _ h72)
        · rename_i x86 e87 e88
          exact (mode_refillDeliveries _ h72))))))

/-! ### Machine/Shutter.lean -/

theorem mode_latchBlock {s0 : State} (s : State) (a1 : Nat)  (h0 : Mode s0 s) : Mode s0 (latchBlock s a1) := by
  unfold latchBlock
  exact (by
      extract_lets v0 v1 v2 v3 v4 v5 v6 v7
      have h8 : Mode s0 v5 := (mode_setCtl _ h0)
      clear_value v5
      have h9 : Mode s0 v6 := (mode_wr64 _ _ _ (mode_wr64 _ _ _ h8))
      clear_value v6
      have h10 : Mode s0 v7 := (mode_foldl (fun t11 x12 h13 => (mode_wr64 _ _ _ h13)) h9)
      clear_value v7
      exact (mode_foldl (fun t18 x19 h20 => (mode_wr64 _ _ _ h20)) h10))

theorem mode_execFire {s0 : State} (s : State)  (h0 : Mode s0 s) : ModeOut s0 (execFire s) := by
  unfold execFire
  exact (mode_out (mode_ite (mode_fire _ _ h0) h0))

theorem mode_releaseSheet {s0 : State} (s : State)  (h0 : Mode s0 s) : Mode s0 (releaseSheet s) := by
  unfold releaseSheet
  exact (mode_wrBits _ _ _ _ _ h0)

theorem mode_execRelease {s0 : State} (s : State)  (h0 : Mode s0 s) : ModeOut s0 (execRelease s) := by
  unfold execRelease
  exact (mode_out (mode_ite (mode_releaseSheet _ h0) h0))

theorem mode_unfreeze {s0 : State} (s : State)  (h0 : Mode s0 s) : Mode s0 (unfreeze s) := by
  unfold unfreeze
  exact (mode_ite (mode_setSht _ h0) h0)

theorem mode_execUnfreeze {s0 : State} (s : State)  (h0 : Mode s0 s) : ModeOut s0 (execUnfreeze s) := by
  unfold execUnfreeze
  exact (mode_out (mode_ite (mode_unfreeze _ h0) h0))

theorem mode_armInstant {s0 : State} (s : State) (a1 : Nat) (a2 : Bool)  (h0 : Mode s0 s) : Mode s0 (armInstant s a1 a2) := by
  unfold armInstant
  exact (by
      extract_lets v21 v22 v23 v24
      have h25 : Mode s0 v21 := (mode_wr64 _ _ _ (mode_wrBits _ _ _ _ _ h0))
      clear_value v21
      have h26 : Mode s0 v23 := (mode_setSht _ h25)
      clear_value v23
      exact (mode_setFab _ h26))

theorem mode_armAt {s0 : State} (s : State)  (h0 : Mode s0 s) : Mode s0 (armAt s) := by
  unfold armAt
  exact (by
      extract_lets v14 v15 v16
      have h17 : Mode s0 v16 := (mode_ite (mode_count64 _ _ _ h0) h0)
      clear_value v16
      exact (mode_ite h17 (mode_armInstant _ _ _ h17)))

theorem mode_execArmAt {s0 : State} (s : State)  (h0 : Mode s0 s) : ModeOut s0 (execArmAt s) := by
  unfold execArmAt
  exact (mode_out (mode_ite (mode_armAt _ h0) h0))

theorem mode_disarm {s0 : State} (s : State)  (h0 : Mode s0 s) : Mode s0 (disarm s) := by
  unfold disarm
  exact (mode_wr64 _ _ _ (mode_wrBits _ _ _ _ _ h0))

theorem mode_execDisarm {s0 : State} (s : State)  (h0 : Mode s0 s) : ModeOut s0 (execDisarm s) := by
  unfold execDisarm
  exact (mode_out (mode_ite (mode_disarm _ h0) h0))

theorem mode_execInstantReached {s0 : State} (s : State)  (h0 : Mode s0 s) : ModeOut s0 (execInstantReached s) := by
  unfold execInstantReached
  exact (mode_out (mode_ite (mode_fire _ _ (mode_disarm _ h0)) h0))

theorem mode_execShutterLatch {s0 : State} (a0 : Nat) (s : State)  (h0 : Mode s0 s) : ModeOut s0 (execShutterLatch a0 s) := by
  unfold execShutterLatch
  exact (mode_out (mode_ite (mode_latchBlock _ _ (mode_setSht _ h0)) h0))

theorem mode_execFiringComplete {s0 : State} (s : State)  (h0 : Mode s0 s) : ModeOut s0 (execFiringComplete s) := by
  unfold execFiringComplete
  exact (mode_out (mode_ite (mode_arrive _ _ _ (mode_wrBits _ _ _ _ _ (mode_wrBits _ _ _ _ _ h0))) h0))

/-! ### Machine/Fabric.lean -/

theorem mode_failChannels {s0 : State} (s : State) (a1 : Nat)  (h0 : Mode s0 s) : Mode s0 (failChannels s a1) := by
  unfold failChannels
  exact (by
      extract_lets v0 v1 v2
      have h3 : Mode s0 v1 := (mode_abortWhere _ _ _ h0)
      clear_value v1
      exact (mode_setStr _ h3))

theorem mode_showSwitch {s0 : State} (s : State)  (h0 : Mode s0 s) : Mode s0 (showSwitch s) := by
  unfold showSwitch
  exact (by
      split
      · rename_i x6 e7
        exact (mode_wr64 _ _ _ (mode_wrBits _ _ _ _ _ h0))
      · rename_i x8 x9 e10
        exact (mode_wr64 _ _ _ (mode_wrBits _ _ _ _ _ (mode_wrBits _ _ _ _ _ h0))))

theorem mode_takeTarget {s0 : State} (s : State) (a1 : Nat × Nat) (a2 : Nat)  (h0 : Mode s0 s) : Mode s0 (takeTarget s a1 a2) := by
  unfold takeTarget
  exact (by
      extract_lets v4 v5
      exact (mode_showSwitch _ (mode_setFab _ h0)))

theorem mode_addFailure {s0 : State} (s : State) (a1 : Nat × Nat) (a2 : Nat)  (h0 : Mode s0 s) : Mode s0 (addFailure s a1 a2) := by
  unfold addFailure
  exact (mode_ite h0 (mode_ite (mode_ite (mode_takeTarget _ _ _ h0) h0) (mode_ite h0 (by
      extract_lets v20 v21 v22 v23 v24 v25 v26
      have h27 : Mode s0 v23 := (mode_setFab _ h0)
      clear_value v23
      have h28 : Mode s0 v24 := (mode_wr32 _ _ _ h27)
      clear_value v24
      have h34 : Mode s0 v25 := (mode_wrBits _ _ _ _ _ h28)
      clear_value v25
      have h35 : Mode s0 v26 := (mode_showLinks _ (mode_arrive _ _ _ (mode_takeTarget _ _ _ h34)))
      clear_value v26
      exact (mode_failChannels _ _ h35)))))

theorem mode_declareLink {s0 : State} (s : State) (a1 : Nat)  (h0 : Mode s0 s) : Mode s0 (declareLink s a1) := by
  unfold declareLink
  exact (mode_addFailure _ _ _ h0)

theorem mode_takeNotice {s0 : State} (s : State) (a1 : Nat) (a2 : Nat) (a3 : Nat)  (h0 : Mode s0 s) : Mode s0 (takeNotice s a1 a2 a3) := by
  unfold takeNotice
  exact (mode_ite h0 (by
      extract_lets v11 v13 v14 v15 v16
      have h19 : Mode s0 v16 := (mode_ite (mode_count64 _ _ _ h0) h0)
      clear_value v16
      exact (mode_addFailure _ _ _ h19)))

theorem mode_noRoute {s0 : State} (s : State)  (h0 : Mode s0 s) : Mode s0 (noRoute s) := by
  unfold noRoute
  exact (mode_foldl (fun t12 x17 h18 => (mode_stopPartition _ _ _ h18)) (mode_wrBits _ _ _ _ _ h0))

theorem mode_execRouteSwitch {s0 : State} (s : State)  (h0 : Mode s0 s) : ModeOut s0 (execRouteSwitch s) := by
  unfold execRouteSwitch
  exact (mode_out (by
      split
      · rename_i x29 e30
        exact h0
      · rename_i x31 x32 e33
        exact (mode_ite h0 (by
          extract_lets v36 v37 v38
          have h39 : Mode s0 v38 := (mode_showSwitch _ (mode_setFab _ h0))
          clear_value v38
          exact (by
            clear_value v36
            split
            · rename_i x58
              exact (mode_noRoute _ h39)
            · rename_i x59 x60
              exact (mode_arrive _ _ _ (mode_wrBits _ _ _ _ _ h39)))))))

theorem mode_declareCommand {s0 : State} (s : State) (a1 : Nat)  (h0 : Mode s0 s) : Mode s0 (declareCommand s a1) := by
  unfold declareCommand
  exact (mode_ite (mode_declareLink _ _ h0) h0)

theorem mode_execDeclare {s0 : State} (a0 : Nat) (s : State)  (h0 : Mode s0 s) : ModeOut s0 (execDeclare a0 s) := by
  unfold execDeclare
  exact (mode_out (mode_declareCommand _ _ h0))

theorem mode_abortOnChannel {s0 : State} (s : State) (a1 : Nat)  (h0 : Mode s0 s) : Mode s0 (abortOnChannel s a1) := by
  unfold abortOnChannel
  exact (by
      split
      · rename_i x40 e41
        exact h0
      · rename_i x42 x43 e44
        exact (by
          extract_lets v45 v46
          have h47 : Mode s0 v45 := (mode_updChan _ _ _ h0)
          clear_value v45
          have h53 : Mode s0 v46 := (mode_abortWhere _ _ _ h47)
          clear_value v46
          exact (mode_updChan _ _ _ (mode_resetChan _ _ h53))))

theorem mode_fabricStep {s0 : State} (s : State)  (h0 : Mode s0 s) : Mode s0 (fabricStep s) := by
  unfold fabricStep
  exact (mode_ite h0 (by
      extract_lets v48 v49 v50 v51
      have h52 : Mode s0 v49 := (mode_failChannels _ _ h0)
      clear_value v49
      have h54 : Mode s0 v50 := (mode_foldl (fun t55 x56 h57 => (mode_endChannels _ _ h57)) h52)
      clear_value v50
      exact (mode_setFab _ h54)))

theorem mode_peekCommand {s0 : State} (s : State) (a1 : Nat) (a2 : Nat)  (h0 : Mode s0 s) : Mode s0 (peekCommand s a1 a2) := by
  unfold peekCommand
  exact (by
      extract_lets v61 v62
      have h63 : Mode s0 v62 := (mode_setFab _ h0)
      clear_value v62
      exact (mode_updLink _ _ _ (mode_wr32 _ _ _ h63)))

theorem mode_execPeek {s0 : State} (a0 : Nat) (a1 : Nat) (s : State)  (h0 : Mode s0 s) : ModeOut s0 (execPeek a0 a1 s) := by
  unfold execPeek
  exact (mode_out (mode_ite (mode_peekCommand _ _ _ h0) h0))

theorem mode_sendFrame {s0 : State} (s : State) (a1 : Nat) (a2 : List Sys2Proof.Byte) (a3 : Bool) (a4 : Bool)  (h0 : Mode s0 s) : Mode s0 (sendFrame s a1 a2 a3 a4).1 := by
  unfold sendFrame
  exact (by
      extract_lets v64 v65 v66 v67 v68 v69 v70 v71 v72 v73 v74 v75 v76 v77 v78
      have h79 : Mode s0 v78 := (mode_updLink _ _ _ h0)
      clear_value v78
      exact (mode_fst (mode_emit _ h79)))

theorem mode_sendData {s0 : State} (s : State) (a1 : Nat) (a2 : List Sys2Proof.Byte) (a3 : Option (Nat × Nat × Nat)) (a4 : Bool)  (h0 : Mode s0 s) : Mode s0 (sendData s a1 a2 a3 a4) := by
  unfold sendData
  exact (by
      extract_lets v80
      exact (by
        split
        · rename_i x81 t82 x83 x84 e85
          exact (mode_updLink _ _ _ (mode_fst_eq e85 (mode_sendFrame _ _ _ _ _ h0)))))

theorem mode_sendIdle {s0 : State} (s : State) (a1 : Nat)  (h0 : Mode s0 s) : Mode s0 (sendIdle s a1) := by
  unfold sendIdle
  exact (mode_sendFrame _ _ _ _ _ h0)

theorem mode_sendTrain {s0 : State} (s : State) (a1 : Nat) (a2 : Nat) (a3 : Nat) (a4 : Nat)  (h0 : Mode s0 s) : Mode s0 (sendTrain s a1 a2 a3 a4) := by
  unfold sendTrain
  exact (mode_sendFrame _ _ _ _ _ h0)

theorem mode_sendFiller {s0 : State} (s : State) (a1 : Nat)  (h0 : Mode s0 s) : Mode s0 (sendFiller s a1) := by
  unfold sendFiller
  exact (mode_ite (mode_sendIdle _ _ h0) (mode_sendTrain _ _ _ _ _ h0))

theorem mode_sendChannel {s0 : State} (s : State) (a1 : Nat) (a2 : Nat) (a3 : Nat) (a4 : FChan)  (h0 : Mode s0 s) : Mode s0 (sendChannel s a1 a2 a3 a4) := by
  unfold sendChannel
  exact (by
      extract_lets v86 v87 v88 v89 v90
      have h91 : Mode s0 v90 := (mode_sendData _ _ _ _ _ (mode_charge _ _ _ _ h0))
      clear_value v90
      exact (by
        split
        · rename_i x128 x129 e130
          exact (mode_ite (mode_sendIdle _ _ (mode_count64 _ _ _ (mode_refused _ _ _ h0))) (mode_sendData _ _ _ _ _ (mode_updChan _ _ _ (mode_charge _ _ _ _ h0))))
        · rename_i x166 e167
          exact (mode_ite (mode_ite (mode_sendData _ _ _ _ _ (mode_charge _ _ _ _ h0)) (mode_sendIdle _ _ (mode_count64 _ _ _ h0))) (mode_ite (mode_sendIdle _ _ (mode_count64 _ _ _ h0)) (mode_ite (mode_sendIdle _ _ (mode_count64 _ _ _ (mode_refused _ _ _ h0))) (mode_updChan _ _ _ h91))))))

theorem mode_execSendSlot {s0 : State} (a0 : Nat) (s : State)  (h0 : Mode s0 s) : ModeOut s0 (execSendSlot a0 s) := by
  unfold execSendSlot
  exact (mode_out (mode_ite h0 (by
      split
      · rename_i x92 e93
        exact h0
      · rename_i x94 x95 e96
        exact (mode_ite h0 (by
          extract_lets v102
          have h103 : Mode s0 v102 := (mode_takeFabricBoundary _ h0)
          clear_value v102
          exact (mode_ite (mode_sendFiller _ _ h103) (by
            split
            · rename_i x112 e113
              exact (mode_sendFiller _ _ h103)
            · rename_i x114 x115 e116
              exact (by
                split
                · rename_i x121 e122
                  exact (mode_sendFiller _ _ h103)
                · rename_i x123 x124 e125
                  exact (mode_sendChannel _ _ _ _ _ h103)))))))))

theorem mode_execForwardSlot {s0 : State} (a0 : Nat) (s : State)  (h0 : Mode s0 s) : ModeOut s0 (execForwardSlot a0 s) := by
  unfold execForwardSlot
  exact (mode_out (mode_ite h0 (by
      split
      · rename_i x104 e105
        exact h0
      · rename_i x106 x107 e108
        exact (mode_ite h0 (by
          extract_lets v109 v110
          have h111 : Mode s0 v109 := (mode_takeFabricBoundary _ h0)
          clear_value v109
          exact (mode_ite (mode_sendFiller _ _ h111) (by
            split
            · rename_i x126 e127
              exact (mode_sendIdle _ _ h111)
            · rename_i x131 x132 e133
              exact (mode_sendData _ _ _ _ _ h111))))))))

theorem mode_execBeaconSlot {s0 : State} (a0 : Nat) (s : State)  (h0 : Mode s0 s) : ModeOut s0 (execBeaconSlot a0 s) := by
  unfold execBeaconSlot
  exact (mode_out (mode_ite h0 (by
      split
      · rename_i x97 e98
        exact h0
      · rename_i x99 x100 e101
        exact (mode_ite h0 (mode_ite (mode_sendFiller _ _ h0) (mode_sendFrame _ _ _ _ _ h0))))))

theorem mode_execUnscheduledFrame {s0 : State} (a0 : Nat) (s : State)  (h0 : Mode s0 s) : ModeOut s0 (execUnscheduledFrame a0 s) := by
  unfold execUnscheduledFrame
  exact (mode_out (mode_ite h0 (mode_ite (mode_sendFiller _ _ h0) (by
      split
      · rename_i x117 x118 x119 e120
        exact (by
          extract_lets v134 v135
          have h136 : Mode s0 v135 := (mode_count64 _ _ _ h0)
          clear_value v135
          exact (by
            split
            · rename_i x144 t145 x146 x147 e148
              exact (mode_updLink _ _ _ (mode_fst_eq e148 (mode_sendFrame _ _ _ _ _ h136)))))
      · rename_i x154 e155
        exact (by
          split
          · rename_i x158 x159 x160 e161
            exact (mode_sendData _ _ _ _ _ (mode_updLink _ _ _ h0))
          · rename_i x162 e163
            exact (mode_sendIdle _ _ h0))))))

theorem mode_advanceSource {s0 : State} (s : State) (a1 : Nat) (a2 : Nat)  (h0 : Mode s0 s) : Mode s0 (advanceSource s a1 a2) := by
  induction a2 generalizing s a1 with
  | zero =>
    unfold advanceSource
    exact h0
  | succ k ih =>
    unfold advanceSource
    exact (by
        split
        · rename_i x183 e184
          exact h0
        · rename_i x185 x186 e187
          exact (by
            extract_lets v188
            exact (mode_ite (ih _ _ (mode_updChan _ _ _ (mode_sharedPoke _ _ _ h0))) h0)))

theorem mode_ackFrame {s0 : State} (s : State) (a1 : FSent)  (h0 : Mode s0 s) : Mode s0 (ackFrame s a1) := by
  unfold ackFrame
  exact (by
      split
      · rename_i x137 e138
        exact h0
      · rename_i x139 x140 x141 x142 e143
        exact (by
          split
          · rename_i x149 e150
            exact h0
          · rename_i x151 x152 e153
            exact (mode_ite h0 (mode_advanceSource _ _ _ (mode_updChan _ _ _ h0)))))

theorem mode_resend {s0 : State} (s : State) (a1 : Nat) (a2 : FSent)  (h0 : Mode s0 s) : Mode s0 (resend s a1 a2) := by
  unfold resend
  exact (by
      extract_lets v156
      have h157 : Mode s0 v156 := (mode_updLink _ _ _ h0)
      clear_value v156
      exact (mode_ite (mode_declareLink _ _ h157) (mode_updLink _ _ _ h157)))

theorem mode_takeAck {s0 : State} (s : State) (a1 : Nat) (a2 : Nat) (a3 : Nat)  (h0 : Mode s0 s) : Mode s0 (takeAck s a1 a2 a3) := by
  unfold takeAck
  exact (mode_foldl (fun t164 x165 h168 => (by
      split
      · rename_i x176 e177
        exact h168
      · rename_i x189 x190 e191
        exact (mode_ite (mode_ackFrame _ _ (mode_updLink _ _ _ h168)) (mode_resend _ _ _ h168)))) h0)

theorem mode_execFrameRto {s0 : State} (a0 : Nat) (s : State)  (h0 : Mode s0 s) : ModeOut s0 (execFrameRto a0 s) := by
  unfold execFrameRto
  exact (mode_out (mode_ite h0 (by
      extract_lets v169 v170
      exact (mode_foldl (fun t171 x172 h173 => (mode_resend _ _ _ h173)) h0))))

theorem mode_learnRelease {s0 : State} (s : State) (a1 : Nat) (a2 : Nat) (a3 : Nat)  (h0 : Mode s0 s) : Mode s0 (learnRelease s a1 a2 a3) := by
  unfold learnRelease
  exact (by
      split
      · rename_i x174 e175
        exact h0
      · rename_i x178 x179 e180
        exact (by
          extract_lets v181
          have h182 : Mode s0 v181 := (mode_updChan _ _ _ h0)
          clear_value v181
          exact (mode_ite h182 (mode_abortOnChannel _ _ h182))))

theorem mode_advanceSink {s0 : State} (s : State) (a1 : Nat) (a2 : Nat)  (h0 : Mode s0 s) : Mode s0 (advanceSink s a1 a2) := by
  induction a2 generalizing s a1 with
  | zero =>
    unfold advanceSink
    exact h0
  | succ k ih =>
    unfold advanceSink
    exact (by
        split
        · rename_i x248 e249
          exact h0
        · rename_i x250 x251 e252
          exact (by
            extract_lets v253
            exact (mode_ite (ih _ _ (mode_updChan _ _ _ (mode_sharedPoke _ _ _ h0))) h0)))

theorem mode_passRecords {s0 : State} (s : State) (a1 : FChan) (a2 : List Sys2Proof.Byte)  (h0 : Mode s0 s) : Mode s0 (passRecords s a1 a2) := by
  unfold passRecords
  exact (by
      extract_lets v192 v193 v194
      exact (mode_setCore _ _ _ h0))

theorem mode_placePayload {s0 : State} (s : State) (a1 : Nat) (a2 : Nat) (a3 : Nat) (a4 : List Sys2Proof.Byte)  (h0 : Mode s0 s) : Mode s0 (placePayload s a1 a2 a3 a4) := by
  unfold placePayload
  exact (by
      split
      · rename_i x195 e196
        exact h0
      · rename_i x197 x198 e199
        exact (mode_ite h0 (by
          extract_lets v205
          have h206 : Mode s0 v205 := (mode_ite (mode_passRecords _ _ _ h0) (mode_chanWrite _ _ _ _ h0))
          clear_value v205
          exact (mode_advanceSink _ _ _ (mode_updChan _ _ _ h206)))))

theorem mode_takeCabort {s0 : State} (s : State) (a1 : Nat) (a2 : Nat) (a3 : Nat)  (h0 : Mode s0 s) : Mode s0 (takeCabort s a1 a2 a3) := by
  unfold takeCabort
  exact (by
      split
      · rename_i x200 e201
        exact h0
      · rename_i x202 x203 e204
        exact (mode_ite h0 (by
          extract_lets v207 v208 v209 v210 v211 v212 v213
          have h214 : Mode s0 v209 := (mode_abortOnChannel _ _ h0)
          clear_value v209
          have h215 : Mode s0 v213 := (mode_updChan _ _ _ h214)
          clear_value v213
          exact (mode_ite (mode_sharedPoke _ _ _ h215) (mode_advanceSink _ _ _ h215)))))

theorem mode_takeData {s0 : State} (s : State) (a1 : Nat) (a2 : List Sys2Proof.Byte)  (h0 : Mode s0 s) : Mode s0 (takeData s a1 a2) := by
  unfold takeData
  exact (by
      split
      · rename_i x237 e238
        exact h0
      · rename_i x239 x240 e241
        exact (by
          extract_lets v245
          have h246 : Mode s0 v245 := (by
            unfold v245
            split
            · rename_i x254 x255 e256
              exact (mode_ite (mode_learnRelease _ _ _ _ h0) h0)
            · rename_i x272 e273
              exact h0)
          clear_value v245
          exact (mode_ite (mode_takeCabort _ _ _ _ h246) (mode_ite h246 (mode_placePayload _ _ _ _ _ h246)))))

theorem mode_noteReceipt {s0 : State} (s : State) (a1 : Nat) (a2 : Nat) (a3 : Bool)  (h0 : Mode s0 s) : Mode s0 (noteReceipt s a1 a2 a3) := by
  unfold noteReceipt
  exact (mode_updLink _ _ _ h0)

theorem mode_noteGap {s0 : State} (s : State) (a1 : Nat)  (h0 : Mode s0 s) : Mode s0 (noteGap s a1) := by
  unfold noteGap
  exact (by
      extract_lets v216
      exact (mode_ite h0 (mode_updLink _ _ _ h0)))

theorem mode_forwardAgain {s0 : State} (s : State) (a1 : Nat) (a2 : Nat) (a3 : List Sys2Proof.Byte)  (h0 : Mode s0 s) : Mode s0 (forwardAgain s a1 a2 a3) := by
  unfold forwardAgain
  exact (by
      extract_lets v217 v218
      have h219 : Mode s0 v218 := (mode_updLink _ _ _ h0)
      clear_value v218
      exact (mode_foldl (fun t220 x221 h222 => (mode_updLink _ _ _ h222)) h219))

theorem mode_routeData {s0 : State} (s : State) (a1 : Nat) (a2 : List Sys2Proof.Byte)  (h0 : Mode s0 s) : ModeOpt (fun x => x) s0 (routeData s a1 a2) := by
  unfold routeData
  exact (by
      extract_lets v223 v224
      exact (by
        split
        · rename_i x242 x243 e244
          exact (modeOpt_ite (modeOpt_some (mode_takeData _ _ _ h0)) (modeOpt_none))
        · rename_i x277 e278
          exact (modeOpt_ite (modeOpt_ite (modeOpt_none) (modeOpt_some (mode_updLink _ _ _ h0))) (by
            split
            · rename_i x281 e282
              exact (modeOpt_some h0)
            · rename_i x285 x286 e287
              exact (modeOpt_some (mode_forwardAgain _ _ _ _ h0))))))

theorem mode_takeBeacon {s0 : State} (s : State) (a1 : Nat) (a2 : List Sys2Proof.Byte)  (h0 : Mode s0 s) : Mode s0 (takeBeacon s a1 a2) := by
  unfold takeBeacon
  exact (by
      extract_lets v225 v226 v227 v228 v229 v230 v231 v232 v233 v234 v235
      have h236 : Mode s0 v225 := (mode_showLink _ _ (mode_updLink _ _ _ h0))
      clear_value v225
      have h247 : Mode s0 v228 := (mode_wr64 _ _ _ h236)
      clear_value v228
      have h261 : Mode s0 v231 := (mode_updLink _ _ _ h247)
      clear_value v231
      have h276 : Mode s0 v233 := (mode_ite (mode_arrive _ _ _ (mode_count64 _ _ _ h261)) h261)
      clear_value v233
      have h280 : Mode s0 v235 := (mode_updLink _ _ _ h276)
      clear_value v235
      exact (mode_ite (mode_updLink _ _ _ h261) (mode_ite (mode_declareLink _ _ h280) h280)))

theorem mode_takeShutter {s0 : State} (s : State) (a1 : Nat) (a2 : Nat)  (h0 : Mode s0 s) : Mode s0 (takeShutter s a1 a2) := by
  unfold takeShutter
  exact (by
      extract_lets v257 v258 v259
      have h260 : Mode s0 v259 := (mode_arrive _ _ _ (mode_count64 _ _ _ h0))
      clear_value v259
      exact (mode_ite h0 (mode_ite (mode_arrive _ _ _ (mode_count64 _ _ _ h0)) (mode_ite (mode_ite (mode_armInstant _ _ _ h260) h260) (mode_armInstant _ _ _ h0)))))

theorem mode_takeHeader {s0 : State} (s : State) (a1 : Nat) (a2 : List Sys2Proof.Byte)  (h0 : Mode s0 s) : Mode s0 (takeHeader s a1 a2) := by
  unfold takeHeader
  exact (by
      extract_lets v262 v263 v264 v265 v266 v267 v268 v269 v270
      have h271 : Mode s0 v263 := (mode_takeAck _ _ _ _ h0)
      clear_value v263
      have h274 : Mode s0 v264 := (mode_ite (mode_updLink _ _ _ h271) h271)
      clear_value v264
      have h275 : Mode s0 v266 := (mode_updLink _ _ _ h274)
      clear_value v266
      have h279 : Mode s0 v268 := (mode_ite (mode_updLink _ _ _ (mode_wr32 _ _ _ (mode_wr64 _ _ _ h275))) h275)
      clear_value v268
      have h284 : Mode s0 v269 := (mode_ite (mode_foldl (fun t288 x291 h292 => (mode_learnRelease _ _ _ _ h292)) h279) h274)
      clear_value v269
      have h297 : Mode s0 v270 := (mode_ite (mode_takeNotice _ _ _ _ h284) h284)
      clear_value v270
      exact (mode_ite (mode_takeShutter _ _ _ h297) h297))

theorem mode_takeLanes {s0 : State} (s : State) (a1 : Nat)  (h0 : Mode s0 s) : Mode s0 (takeLanes s a1) := by
  unfold takeLanes
  exact (by
      extract_lets v283
      exact (mode_foldl (fun t289 x290 h293 => (mode_finishRepair _ _ h293)) h0))

theorem mode_replaceLanes {s0 : State} (s : State) (a1 : Nat) (a2 : Nat) (a3 : Nat)  (h0 : Mode s0 s) : Mode s0 (replaceLanes s a1 a2 a3) := by
  unfold replaceLanes
  exact (mode_takeLanes _ _ (mode_foldl (fun t299 x300 h301 => (mode_engage _ _ _ _ h301)) h0))

theorem mode_startCheck {s0 : State} (s : State) (a1 : Nat) (a2 : Nat)  (h0 : Mode s0 s) : Mode s0 (startCheck s a1 a2) := by
  unfold startCheck
  exact (mode_updLink _ _ _ h0)

theorem mode_startTraining {s0 : State} (s : State) (a1 : Nat)  (h0 : Mode s0 s) : Mode s0 (startTraining s a1) := by
  unfold startTraining
  exact (by
      extract_lets v294 v295
      have h296 : Mode s0 v294 := (mode_takeLanes _ _ h0)
      clear_value v294
      have h298 : Mode s0 v295 := (mode_updLink _ _ _ h296)
      clear_value v295
      exact (mode_showLink _ _ (mode_startCheck _ _ _ h298)))

theorem mode_trainingFails {s0 : State} (s : State) (a1 : Nat)  (h0 : Mode s0 s) : Mode s0 (trainingFails s a1) := by
  unfold trainingFails
  exact (mode_showLink _ _ (mode_updLink _ _ _ h0))

theorem mode_execFibreLightGained {s0 : State} (a0 : Nat) (s : State)  (h0 : Mode s0 s) : ModeOut s0 (execFibreLightGained a0 s) := by
  unfold execFibreLightGained
  exact (mode_out (mode_ite h0 (by
      extract_lets v302
      have h303 : Mode s0 v302 := (mode_updLink _ _ _ h0)
      clear_value v302
      exact (mode_ite (mode_startTraining _ _ h303) h303))))

theorem mode_countRetrain {s0 : State} (s : State) (a1 : Nat)  (h0 : Mode s0 s) : Mode s0 (countRetrain s a1) := by
  unfold countRetrain
  exact (mode_satCount64 _ _ _ (mode_count64 _ _ _ h0))

theorem mode_execTrainRetry {s0 : State} (a0 : Nat) (s : State)  (h0 : Mode s0 s) : ModeOut s0 (execTrainRetry a0 s) := by
  unfold execTrainRetry
  exact (mode_out (mode_ite (mode_startTraining _ _ (mode_countRetrain _ _ h0)) h0))

theorem mode_execLaneCheckEnd {s0 : State} (a0 : Nat) (a1 : List Nat) (s : State)  (h0 : Mode s0 s) : ModeOut s0 (execLaneCheckEnd a0 a1 s) := by
  unfold execLaneCheckEnd
  exact (mode_out (mode_ite h0 (by
      extract_lets v304
      exact (mode_sendTrain _ _ _ _ _ (mode_updLink _ _ _ h0)))))

theorem mode_lanesReported {s0 : State} (s : State) (a1 : Nat) (a2 : Nat)  (h0 : Mode s0 s) : Mode s0 (lanesReported s a1 a2) := by
  unfold lanesReported
  exact (by
      extract_lets v305 v306 v307 v308
      have h309 : Mode s0 v307 := (mode_replaceLanes _ _ _ _ h0)
      clear_value v307
      have h328 : Mode s0 v308 := (mode_replaceLanes _ _ _ _ h309)
      clear_value v308
      exact (mode_ite (mode_sendTrain _ _ _ _ _ (mode_updLink _ _ _ h0)) (mode_ite (mode_trainingFails _ _ h0) (mode_startCheck _ _ _ (mode_updLink _ _ _ h328)))))

theorem mode_trainAfterLoad {s0 : State} (s : State) (a1 : Nat)  (h0 : Mode s0 s) : Mode s0 (trainAfterLoad s a1) := by
  unfold trainAfterLoad
  exact (by
      split
      · rename_i x310 x311 x312 e313
        exact (by
          extract_lets v314 v315
          exact (mode_ite (mode_startTraining _ _ h0) h0)))

theorem mode_decideUp {s0 : State} (s : State) (a1 : Nat)  (h0 : Mode s0 s) : Mode s0 (decideUp s a1) := by
  unfold decideUp
  exact (by
      extract_lets v316 v317 v318 v319 v320 v321 v322
      have h323 : Mode s0 v320 := (mode_wrBits _ _ _ _ _ h0)
      clear_value v320
      have h324 : Mode s0 v322 := (mode_wr64 _ _ _ h323)
      clear_value v322
      exact (mode_ite h0 (mode_ite (mode_trainingFails _ _ h0) (mode_showLink _ _ (mode_updLink _ _ _ h324)))))

theorem mode_takeVersion {s0 : State} (s : State) (a1 : Nat) (a2 : List Sys2Proof.Byte)  (h0 : Mode s0 s) : Mode s0 (takeVersion s a1 a2) := by
  unfold takeVersion
  exact (mode_ite h0 (by
      extract_lets v325 v326 v327
      exact (by
        split
        · rename_i x333 e334
          exact (mode_trainingFails _ _ h0)
        · rename_i x336 x337 e338
          exact (mode_sendTrain _ _ _ _ _ (mode_updLink _ _ _ (mode_wrBits _ _ _ _ _ (mode_wrBits _ _ _ _ _ h0)))))))

theorem mode_takeIdentity {s0 : State} (s : State) (a1 : Nat) (a2 : List Sys2Proof.Byte)  (h0 : Mode s0 s) : Mode s0 (takeIdentity s a1 a2) := by
  unfold takeIdentity
  exact (mode_ite h0 (by
      extract_lets v329 v330 v331
      have h332 : Mode s0 v330 := (mode_updLink _ _ _ h0)
      clear_value v330
      have h335 : Mode s0 v331 := (mode_ite (mode_declareLink _ _ h332) h332)
      clear_value v331
      exact (mode_sendTrain _ _ _ _ _ (mode_updLink _ _ _ h335))))

theorem mode_checkPeers {s0 : State} (s : State)  (h0 : Mode s0 s) : Mode s0 (checkPeers s) := by
  unfold checkPeers
  exact (mode_foldl (fun t339 x340 h341 => (mode_ite (mode_declareLink _ _ h341) h341)) h0)

theorem mode_takeTrain {s0 : State} (s : State) (a1 : Nat) (a2 : List Sys2Proof.Byte)  (h0 : Mode s0 s) : Mode s0 (takeTrain s a1 a2) := by
  unfold takeTrain
  exact (by
      extract_lets v342 v343 v344 v345
      have h354 : Mode s0 v345 := (mode_updLink _ _ _ h0)
      clear_value v345
      exact (mode_ite h0 (mode_ite (mode_sendTrain _ _ _ _ _ (mode_takeIdentity _ _ _ (mode_takeVersion _ _ _ h0))) (mode_ite (mode_ite (mode_showLink _ _ (mode_updLink _ _ _ h0)) h0) (by
        clear_value v342
        split
        · rename_i x360
          exact (mode_ite (mode_lanesReported _ _ _ h0) h0)
        · rename_i x361
          exact (mode_takeVersion _ _ _ h0)
        · rename_i x362
          exact (mode_takeIdentity _ _ _ (mode_takeVersion _ _ _ h0))
        · rename_i x363
          exact (mode_ite h0 (mode_ite (mode_sendTrain _ _ _ _ _ h354) (mode_decideUp _ _ (mode_sendTrain _ _ _ _ _ (mode_updLink _ _ _ h354)))))
        · rename_i x366
          exact (mode_decideUp _ _ (mode_updLink _ _ _ h0))
        · rename_i x367 e368 e369 e370 e371 e372
          exact h0)))))

theorem mode_execFabricFrameRx {s0 : State} (a0 : Nat) (a1 : List Sys2Proof.Byte) (s : State)  (h0 : Mode s0 s) : ModeOut s0 (execFabricFrameRx a0 a1 s) := by
  unfold execFabricFrameRx
  exact (mode_out (by
      extract_lets v346 v347 v348 v349 v350 v351 v352
      have h353 : Mode s0 v347 := (mode_sticky _ _ _ (mode_countCE _ _ _ (mode_count64 _ _ _ h0)))
      clear_value v347
      have h356 : Mode s0 v348 := (mode_updLink _ _ _ h353)
      clear_value v348
      have h357 : Mode s0 v350 := (mode_noteGap _ _ (mode_noteReceipt _ _ _ _ (mode_count64 _ _ _ h0)))
      clear_value v350
      have h358 : Mode s0 v351 := (mode_noteReceipt _ _ _ _ h0)
      clear_value v351
      have h359 : Mode s0 v352 := (mode_takeHeader _ _ _ h358)
      clear_value v352
      exact (mode_ite h0 (mode_ite (mode_noteGap _ _ (mode_noteReceipt _ _ _ _ h356)) (mode_ite h357 (by
        split
        · rename_i x364 e365
          exact (mode_ite (mode_takeHeader _ _ _ h358) (by
            split
            · rename_i x373 e374
              exact h357
            · rename_i x375 t376 e377
              exact (mode_takeHeader _ _ _ (modeOpt_get (f := fun x => x) e377 (mode_routeData _ _ _ h358)))))
        · rename_i x378 e379
          exact (mode_ite (mode_takeBeacon _ _ _ h359) h359)
        · rename_i x380 e381
          exact (mode_takeTrain _ _ _ (mode_takeHeader _ _ _ h358))
        · rename_i x382 e383 e384 e385
          exact (mode_takeHeader _ _ _ h358)))))))

theorem mode_execLaneLockLoss {s0 : State} (a0 : Nat) (s : State)  (h0 : Mode s0 s) : ModeOut s0 (execLaneLockLoss a0 s) := by
  unfold execLaneLockLoss
  exact (mode_out (mode_ite h0 (mode_startTraining _ _ (mode_countRetrain _ _ (mode_updLink _ _ _ h0)))))

theorem mode_execLockLossTimeout {s0 : State} (a0 : Nat) (s : State)  (h0 : Mode s0 s) : ModeOut s0 (execLockLossTimeout a0 s) := by
  unfold execLockLossTimeout
  exact (mode_out (by
      extract_lets v355
      exact (mode_ite (mode_declareLink _ _ (mode_updLink _ _ _ h0)) h0)))

theorem mode_execPostLoadLinkCheck {s0 : State} (a0 : Nat) (s : State)  (h0 : Mode s0 s) : ModeOut s0 (execPostLoadLinkCheck a0 s) := by
  unfold execPostLoadLinkCheck
  exact (mode_out (mode_ite (mode_declareLink _ _ h0) h0))

/-! ### Machine/Pulys.lean -/

theorem mode_setReader {s0 : State} (s : State) (a1 : Nat) (a2 : Reader)  (h0 : Mode s0 s) : Mode s0 (setReader s a1 a2) := by
  unfold setReader
  exact (mode_setStr _ h0)

theorem mode_countDup {s0 : State} (s : State) (a1 : Nat)  (h0 : Mode s0 s) : Mode s0 (countDup s a1) := by
  unfold countDup
  exact (mode_setEntry _ _ _ h0)

theorem mode_placeFrame {s0 : State} (s : State) (a1 : Nat) (a2 : Sys2Proof.W512) (a3 : RdFrame)  (h0 : Mode s0 s) : Mode s0 (placeFrame s a1 a2 a3).1 := by
  unfold placeFrame
  exact (by
      extract_lets v0 v1 v2
      exact (mode_pr_ite (f := Prod.fst) (mode_fst (mode_countDup _ _ h0)) (mode_pr_ite (f := Prod.fst) h0 (mode_pr_ite (f := Prod.fst) h0 (mode_pr_ite (f := Prod.fst) h0 h0)))))

theorem mode_readUnits {s0 : State} (a0 : Bool) (s : State) (a2 : Nat) (a3 : Sys2Proof.W512) (a4 : Nat) (a5 : List Sys2Proof.Byte) (a6 : Nat)  (h0 : Mode s0 s) : Mode s0 (readUnits a0 s a2 a3 a4 a5 a6).1 := by
  induction a6 generalizing a0 s a2 a3 a4 a5 with
  | zero =>
    unfold readUnits
    exact h0
  | succ k ih =>
    unfold readUnits
    exact (mode_pr_ite (f := Prod.fst) h0 (by
        split
        · rename_i x28 x29 e30
          exact h0
        · rename_i x31 x32 x33 e34
          exact (by
            extract_lets v35 v36 v37 v38 v39
            exact (mode_pr_ite (f := Prod.fst) (ih _ _ _ _ _ _ h0) (mode_pr_ite (f := Prod.fst) (mode_pr_ite (f := Prod.fst) h0 (ih _ _ _ _ _ _ (mode_setReader _ _ _ h0))) (mode_pr_ite (f := Prod.fst) h0 (mode_pr_ite (f := Prod.fst) (mode_pr_ite (f := Prod.fst) h0 (mode_pr_ite (f := Prod.fst) h0 (ih _ _ _ _ _ _ (mode_setReader _ _ _ h0)))) (mode_pr_ite (f := Prod.fst) (mode_pr_ite (f := Prod.fst) h0 (mode_pr_ite (f := Prod.fst) h0 (mode_pr_ite (f := Prod.fst) h0 (ih _ _ _ _ _ _ (mode_setReader _ _ _ h0))))) (mode_pr_ite (f := Prod.fst) (mode_pr_ite (f := Prod.fst) h0 (mode_pr_ite (f := Prod.fst) h0 (ih _ _ _ _ _ _ (mode_setReader _ _ _ h0)))) h0)))))))))

theorem mode_substitute {s0 : State} (s : State) (a1 : Nat) (a2 : Nat) (a3 : List (Nat × List Sys2Proof.Byte))  (h0 : Mode s0 s) : Mode s0 (substitute s a1 a2 a3) := by
  unfold substitute
  exact (by
      extract_lets v3 v4
      exact (mode_updTask _ _ _ _ (mode_foldl (fun t5 x6 h7 => (mode_hbmPoke _ _ _ _ h7)) h0)))

theorem mode_takeFrame {s0 : State} (s : State) (a1 : Nat) (a2 : Nat) (a3 : Task) (a4 : RdFrame)  (h0 : Mode s0 s) : Mode s0 (takeFrame s a1 a2 a3 a4) := by
  unfold takeFrame
  exact (mode_substitute _ _ _ _ (mode_updTask _ _ _ _ h0))

theorem mode_readOwn {s0 : State} (s : State) (a1 : Nat) (a2 : Nat)  (h0 : Mode s0 s) : Mode s0 (readOwn s a1 a2).1 := by
  unfold readOwn
  exact (by
      split
      · rename_i x13 e14
        exact h0
      · rename_i x15 x16 e17
        exact (mode_pr_ite (f := Prod.fst) h0 (by
          split
          · rename_i x18 x19 e20
            exact (mode_fst (mode_unitAbort _ _ _ _ h0))
          · rename_i x21 x22 e23
            exact (by
              split
              · rename_i x24 t25 x26 e27
                exact (mode_fst (mode_abortTask _ _ _ _ (mode_fst_eq e27 (mode_readUnits _ _ _ _ _ _ _ h0))))
              · rename_i x40 t41 x42 e43
                exact (by
                  extract_lets v44 v45
                  exact (mode_pr_ite (f := Prod.fst) (mode_fst (mode_takeFrame _ _ _ _ _ (mode_fst_eq e43 (mode_readUnits _ _ _ _ _ _ _ h0)))) (mode_fst (mode_takeFrame _ _ _ _ _ (mode_placeFrame _ _ _ _ (mode_fst_eq e43 (mode_readUnits _ _ _ _ _ _ _ h0)))))))))))

theorem mode_readInput {s0 : State} (s : State) (a1 : Nat) (a2 : Nat)  (h0 : Mode s0 s) : Mode s0 (readInput s a1 a2).1 := by
  unfold readInput
  exact (by
      split
      · rename_i x8 e9
        exact h0
      · rename_i x10 x11 e12
        exact (mode_pr_ite (f := Prod.fst) (mode_readOwn _ _ _ h0) (by
          split
          · rename_i x46 t47 e48
            exact (mode_fst (mode_fst_eq e48 (mode_readOwn _ _ _ h0)))
          · rename_i x49 t50 e51
            exact (by
              split
              · rename_i x52 e53
                exact (mode_fst (mode_fst_eq e51 (mode_readOwn _ _ _ h0)))
              · rename_i x54 x55 e56
                exact (mode_fst (mode_updTask _ _ _ _ (mode_fst_eq e51 (mode_readOwn _ _ _ h0))))))))

/-! ### Machine/Streams.lean -/

theorem mode_estat {s0 : State} (s : State) (a1 : Nat)  (h0 : Mode s0 s) : Mode s0 (estat s a1) := by
  unfold estat
  exact (by
      extract_lets v0
      have h1 : Mode s0 v0 := (mode_wrBits _ _ _ _ _ h0)
      clear_value v0
      exact (mode_ite h1 (mode_raiseBy _ _ (mode_raise _ _ _ h1))))

theorem mode_execEntryRead {s0 : State} (a0 : Nat) (s : State)  (h0 : Mode s0 s) : ModeOut s0 (execEntryRead a0 s) := by
  unfold execEntryRead
  exact (mode_out (mode_ite h0 (by
      extract_lets v2
      exact (mode_estat _ _ (mode_foldl (fun t12 x13 h14 => (mode_wr32 _ _ _ h14)) h0)))))

theorem mode_execEntryWrite {s0 : State} (a0 : Nat) (s : State)  (h0 : Mode s0 s) : ModeOut s0 (execEntryWrite a0 s) := by
  unfold execEntryWrite
  exact (mode_out (mode_ite h0 (by
      extract_lets v3 v4 v5 v6
      exact (mode_ite (mode_estat _ _ h0) (mode_ite (mode_estat _ _ h0) (mode_ite (mode_estat _ _ h0) (mode_admitRing _ _ (mode_setEntry _ _ _ (mode_estat _ _ h0)))))))))

theorem mode_takePrefix {s0 : State} (s : State)  (h0 : Mode s0 s) : Mode s0 (takePrefix s).2 := by
  unfold takePrefix
  exact (by
      extract_lets v7 v8 v9 v10
      have h11 : Mode s0 v9 := (mode_setDrk _ h0)
      clear_value v9
      exact (mode_snd (mode_ite (mode_setFlash _ h11) h11)))

theorem mode_execEntryCreate {s0 : State} (a0 : Nat) (s : State)  (h0 : Mode s0 s) : ModeOut s0 (execEntryCreate a0 s) := by
  unfold execEntryCreate
  exact (mode_out (mode_ite h0 (by
      extract_lets v15 v16 v17 v18 v19
      have h20 : Mode s0 v18 := (mode_ite (mode_takePrefix _ h0) h0)
      clear_value v18
      exact (mode_ite (mode_estat _ _ h0) (mode_ite (mode_setEntry _ _ _ (mode_estat _ _ h0)) (mode_ite (mode_estat _ _ h0) (mode_ite (mode_estat _ _ h0) (mode_setEntry _ _ _ (mode_estat _ _ (mode_setStr _ h20))))))))))

theorem mode_releaseStream {s0 : State} (s : State) (a1 : Nat)  (h0 : Mode s0 s) : Mode s0 (releaseStream s a1) := by
  unfold releaseStream
  exact (by
      extract_lets v22 v23 v25
      have h34 : Mode s0 v25 := (mode_setStr _ h0)
      clear_value v25
      exact (mode_foldl (fun t35 x36 h37 => (by
        extract_lets v39
        exact (by
          split
          · rename_i x41 e42
            exact h37
          · rename_i x43 x44 e45
            exact (mode_ite (mode_setIslot _ _ _ _ h37) h37)))) h34))

theorem mode_invalidate {s0 : State} (s : State) (a1 : Nat) (a2 : Nat)  (h0 : Mode s0 s) : Mode s0 (invalidate s a1 a2) := by
  unfold invalidate
  exact (by
      extract_lets v21 v24 v26 v27 v28 v29 v30 v31 v32
      have h33 : Mode s0 v24 := (mode_setEntry _ _ _ h0)
      clear_value v24
      have h38 : Mode s0 v27 := (mode_setStr _ h33)
      clear_value v27
      have h40 : Mode s0 v28 := (mode_wrBits _ _ _ _ _ h38)
      clear_value v28
      have h46 : Mode s0 v29 := (mode_abortWhere _ _ _ h40)
      clear_value v29
      have h51 : Mode s0 v30 := (mode_dropReady _ _ _ h46)
      clear_value v30
      have h55 : Mode s0 v32 := (mode_advanceIngress _ _ _ (mode_releaseStream _ _ h51))
      clear_value v32
      exact (mode_checkInvalidation _ h55))

theorem mode_execEntryInvalidate {s0 : State} (a0 : Nat) (s : State)  (h0 : Mode s0 s) : ModeOut s0 (execEntryInvalidate a0 s) := by
  unfold execEntryInvalidate
  exact (mode_out (mode_ite h0 (mode_ite (mode_estat _ _ h0) (mode_invalidate _ _ _ (mode_estat _ _ h0)))))

theorem mode_badDoorbell {s0 : State} (s : State) (a1 : Nat)  (h0 : Mode s0 s) : Mode s0 (badDoorbell s a1) := by
  unfold badDoorbell
  exact (mode_arrive _ _ _ (mode_count64 _ _ _ h0))

theorem mode_moveCons {s0 : State} (s : State) (a1 : Nat) (a2 : Nat)  (h0 : Mode s0 s) : Mode s0 (moveCons s a1 a2) := by
  unfold moveCons
  exact (by
      extract_lets v47 v48 v49
      have h50 : Mode s0 v48 := (mode_foldl (fun t52 x53 h54 => (mode_setOslot _ _ _ _ h54)) h0)
      clear_value v48
      have h57 : Mode s0 v49 := (mode_setCons _ _ _ h50)
      clear_value v49
      exact (mode_pushRing _ _ (mode_payOwed _ _ _ h57)))

theorem mode_doorbell {s0 : State} (s : State) (a1 : Nat) (a2 : Nat)  (h0 : Mode s0 s) : Mode s0 (doorbell s a1 a2) := by
  unfold doorbell
  exact (by
      extract_lets v56
      exact (mode_ite (mode_badDoorbell _ _ h0) (mode_ite (mode_ite (mode_badDoorbell _ _ h0) (mode_setProd _ _ _ h0)) (mode_ite (mode_badDoorbell _ _ h0) (mode_moveCons _ _ _ h0)))))

theorem mode_execDoorbell {s0 : State} (a0 : Nat) (a1 : Nat) (s : State)  (h0 : Mode s0 s) : ModeOut s0 (execDoorbell a0 a1 s) := by
  unfold execDoorbell
  exact (mode_out (mode_ite (mode_doorbell _ _ _ h0) h0))

theorem mode_bindRing {s0 : State} (s : State) (a1 : Nat) (a2 : Nat)  (h0 : Mode s0 s) : Mode s0 (bindRing s a1 a2) := by
  unfold bindRing
  exact (mode_ite h0 (by
      extract_lets v58 v59 v60
      have h61 : Mode s0 v59 := (mode_setStr _ h0)
      clear_value v59
      have h62 : Mode s0 v60 := (mode_foldl (fun t63 x64 h65 => (by
        extract_lets v66
        exact (by
          split
          · rename_i x67 e68
            exact h65
          · rename_i x69 x70 e71
            exact (mode_setOslot _ _ _ _ h65)))) h61)
      clear_value v60
      exact (mode_pushRing _ _ h62)))

theorem mode_enableRing {s0 : State} (s : State) (a1 : Nat) (a2 : Nat)  (h0 : Mode s0 s) : Mode s0 (enableRing s a1 a2) := by
  unfold enableRing
  exact (mode_ite (mode_bindRing _ _ _ h0) (mode_ite (mode_bindRing _ _ _ (mode_wrBits _ _ _ _ _ h0)) (mode_raise _ _ _ (mode_wr32 _ _ _ h0))))

theorem mode_execRingEnable {s0 : State} (a0 : Nat) (a1 : Nat) (s : State)  (h0 : Mode s0 s) : ModeOut s0 (execRingEnable a0 a1 s) := by
  unfold execRingEnable
  exact (mode_out (mode_ite h0 (mode_enableRing _ _ _ h0)))

theorem mode_execRingStall {s0 : State} (a0 : Nat) (s : State)  (h0 : Mode s0 s) : ModeOut s0 (execRingStall a0 s) := by
  unfold execRingStall
  exact (mode_out (mode_ite h0 (by
      split
      · rename_i x75 e76
        exact h0
      · rename_i x77 x78 e79
        exact (mode_ite h0 (by
          extract_lets v80
          have h81 : Mode s0 v80 := (mode_arrive _ _ _ (mode_sticky _ _ _ h0))
          clear_value v80
          exact (mode_hcpSend _ _ _ _ _ _ h81))))))

theorem mode_subTake {s0 : State} (s : State) (a1 : Nat)  (h0 : Mode s0 s) : Mode s0 (subTake s a1) := by
  unfold subTake
  exact (mode_setCons _ _ _ (mode_noteLost _ _ _ _ h0))

theorem mode_subDone {s0 : State} (s : State) (a1 : Nat) (a2 : Nat) (a3 : Nat) (a4 : Nat)  (h0 : Mode s0 s) : Mode s0 (subDone s a1 a2 a3 a4) := by
  unfold subDone
  exact (by
      extract_lets v72 v73
      have h74 : Mode s0 v72 := (mode_subTake _ _ h0)
      clear_value v72
      exact (mode_ite (mode_refuseRecord _ _ _ _ _ _ h74) (mode_postRecord _ _ _ _ h74)))

theorem mode_execRunTask {s0 : State} (a0 : Nat) (s : State)  (h0 : Mode s0 s) : ModeOut s0 (execRunTask a0 s) := by
  unfold execRunTask
  exact (mode_out (by
      split
      · rename_i x82 e83
        exact h0
      · rename_i x84 x85 e86
        exact (by
          extract_lets v87 v88 v89
          exact (mode_ite (mode_subDone _ _ _ _ _ h0) (mode_ite h0 (mode_ite (mode_subDone _ _ _ _ _ h0) (mode_admitTask _ _ _ _ _ _ _ _ _ _ (mode_subTake _ _ h0))))))))

theorem mode_execForceKey {s0 : State} (a0 : Nat) (s : State)  (h0 : Mode s0 s) : ModeOut s0 (execForceKey a0 s) := by
  unfold execForceKey
  exact (mode_out (by
      split
      · rename_i x90 e91
        exact h0
      · rename_i x92 x93 e94
        exact (by
          extract_lets v95 v96 v97
          exact (mode_ite (mode_subDone _ _ _ _ _ h0) (mode_ite (mode_subDone _ _ _ _ _ h0) (mode_subDone _ _ _ _ _ (mode_setEntry _ _ _ h0)))))))

theorem mode_execWriteEndUnit {s0 : State} (a0 : Nat) (s : State)  (h0 : Mode s0 s) : ModeOut s0 (execWriteEndUnit a0 s) := by
  unfold execWriteEndUnit
  exact (mode_out (by
      split
      · rename_i x98 e99
        exact h0
      · rename_i x100 x101 e102
        exact (by
          extract_lets v103 v104 v105 v106 v107 v108 v109 v110
          have h111 : Mode s0 v109 := (mode_hbmPoke _ _ _ _ h0)
          clear_value v109
          have h117 : Mode s0 v110 := (mode_setOslot _ _ _ _ h111)
          clear_value v110
          exact (mode_ite (mode_subDone _ _ _ _ _ h0) (mode_ite (mode_subDone _ _ _ _ _ h0) (mode_ite h0 (mode_subDone _ _ _ _ _ (mode_setProd _ _ _ h117))))))))

theorem mode_execRetry {s0 : State} (a0 : Nat) (s : State)  (h0 : Mode s0 s) : ModeOut s0 (execRetry a0 s) := by
  unfold execRetry
  exact (mode_out (by
      split
      · rename_i x112 e113
        exact h0
      · rename_i x114 x115 e116
        exact (by
          extract_lets v118 v119 v120 v121
          exact (mode_ite (mode_subDone _ _ _ _ _ h0) (by
            split
            · rename_i x130 e131
              exact (mode_subDone _ _ _ _ _ h0)
            · rename_i x132 x133 e134
              exact (mode_ite h0 (by
                split
                · rename_i x137 e138
                  exact h0
                · rename_i x142 x143 e144
                  exact (by
                    extract_lets v145
                    have h146 : Mode s0 v145 := (mode_setIslot _ _ _ _ (mode_subTake _ _ h0))
                    clear_value v145
                    exact (mode_admitTask _ _ _ _ _ _ _ _ _ _ h146)))))))))

theorem mode_execSkip {s0 : State} (a0 : Nat) (s : State)  (h0 : Mode s0 s) : ModeOut s0 (execSkip a0 s) := by
  unfold execSkip
  exact (mode_out (by
      split
      · rename_i x122 e123
        exact h0
      · rename_i x124 x125 e126
        exact (by
          extract_lets v127 v128 v129
          exact (mode_ite (mode_subDone _ _ _ _ _ h0) (by
            split
            · rename_i x135 e136
              exact (mode_subDone _ _ _ _ _ h0)
            · rename_i x139 x140 e141
              exact (mode_subDone _ _ _ _ _ (mode_releaseSlot _ _ _ h0)))))))

/-! ### Machine/EthIngress.lean -/

theorem mode_portEvent {s0 : State} (s : State) (a1 : Nat) (a2 : Nat)  (h0 : Mode s0 s) : Mode s0 (portEvent s a1 a2) := by
  unfold portEvent
  exact (mode_arrive _ _ _ h0)

theorem mode_rxDrop {s0 : State} (s : State) (a1 : Nat)  (h0 : Mode s0 s) : Mode s0 (rxDrop s a1) := by
  unfold rxDrop
  exact (mode_portEvent _ _ _ (mode_count64 _ _ _ h0))

theorem mode_setTable {s0 : State} (s : State) (a1 : Nat) (a2 : Nat) (a3 : Nat) (a4 : Sys2Proof.W256)  (h0 : Mode s0 s) : Mode s0 (setTable s a1 a2 a3 a4) := by
  unfold setTable
  exact (mode_setEth _ h0)

theorem mode_tableCount {s0 : State} (s : State) (a1 : Nat) (a2 : Nat) (a3 : Nat) (a4 : Nat)  (h0 : Mode s0 s) : Mode s0 (tableCount s a1 a2 a3 a4) := by
  unfold tableCount
  exact (by
      extract_lets v0
      exact (mode_setTable _ _ _ _ _ h0))

theorem mode_execStreamGateConfigApply {s0 : State} (a0 : Nat) (a1 : Nat) (s : State)  (h0 : Mode s0 s) : ModeOut s0 (execStreamGateConfigApply a0 a1 s) := by
  unfold execStreamGateConfigApply
  exact (mode_out (by
      extract_lets v1 v2 v3 v4
      exact (mode_ite h0 (mode_setEth _ h0))))

theorem mode_execStreamGateIntervalEnd {s0 : State} (a0 : Nat) (a1 : Nat) (s : State)  (h0 : Mode s0 s) : ModeOut s0 (execStreamGateIntervalEnd a0 a1 s) := by
  unfold execStreamGateIntervalEnd
  exact (mode_out (mode_ite h0 (mode_setEth _ h0)))

theorem mode_meterFrame {s0 : State} (s : State) (a1 : Nat) (a2 : Nat) (a3 : Nat)  (h0 : Mode s0 s) : Mode s0 (meterFrame s a1 a2 a3).2 := by
  unfold meterFrame
  exact (by
      extract_lets v5 v6 v7 v8 v9 v10 v11
      exact (mode_pr_ite (f := Prod.snd) h0 (mode_pr_ite (f := Prod.snd) (by
        unfold v7
        extract_lets 
        exact (mode_snd (mode_tableCount _ _ _ _ _ (mode_setTable _ _ _ _ _ h0)))) (by
        split
        · rename_i x23 x24 x25 e26
          exact (mode_pr_ite (f := Prod.snd) (mode_snd (mode_setEth _ h0)) (mode_pr_ite (f := Prod.snd) (mode_pr_ite (f := Prod.snd) (mode_snd (mode_setEth _ h0)) (mode_snd (mode_setEth _ h0))) (by
            unfold v7
            extract_lets v42
            exact (mode_snd (mode_tableCount _ _ _ _ _ (mode_setTable _ _ _ _ _ (mode_setEth _ h0)))))))))))

theorem mode_filterFrame {s0 : State} (s : State) (a1 : Nat) (a2 : Nat) (a3 : EFrame)  (h0 : Mode s0 s) : Mode s0 (filterFrame s a1 a2 a3).2 := by
  unfold filterFrame
  exact (by
      extract_lets v12 v13 v14
      exact (mode_pr_ite (f := Prod.snd) h0 (mode_pr_ite (f := Prod.snd) (mode_snd (mode_portEvent _ _ _ (mode_tableCount _ _ _ _ _ h0))) (mode_pr_ite (f := Prod.snd) (mode_snd (mode_portEvent _ _ _ (mode_tableCount _ _ _ _ _ (mode_ite (mode_setTable _ _ _ _ _ h0) h0)))) (mode_pr_ite (f := Prod.snd) (mode_snd (mode_portEvent _ _ _ (mode_tableCount _ _ _ _ _ (mode_tableCount _ _ _ _ _ h0)))) (mode_pr_ite (f := Prod.snd) (by
        split
        · rename_i x31 t32 e33
          exact (mode_snd (mode_tableCount _ _ _ _ _ (mode_snd_eq e33 (mode_meterFrame _ _ _ _ h0))))
        · rename_i x54 t55 e56
          exact (mode_snd (mode_portEvent _ _ _ (mode_tableCount _ _ _ _ _ (mode_snd_eq e56 (mode_meterFrame _ _ _ _ h0)))))) (mode_snd (mode_tableCount _ _ _ _ _ h0))))))))

theorem mode_recoverFrame {s0 : State} (s : State) (a1 : Nat) (a2 : Nat)  (h0 : Mode s0 s) : Mode s0 (recoverFrame s a1 a2).2 := by
  unfold recoverFrame
  exact (by
      extract_lets v15 v16
      exact (by
        split
        · rename_i x17 x18 x19 e20
          exact (by
            extract_lets v27
            have h28 : Mode s0 v27 := (mode_setEth _ h0)
            clear_value v27
            exact (mode_snd (mode_tableCount _ _ _ _ _ h28)))))

theorem mode_execRecoveryReset {s0 : State} (a0 : Nat) (a1 : Nat) (s : State)  (h0 : Mode s0 s) : ModeOut s0 (execRecoveryReset a0 a1 s) := by
  unfold execRecoveryReset
  exact (mode_out (by
      extract_lets v21 v22
      exact (mode_ite (mode_setEth _ h0) h0)))

theorem mode_admitFrame {s0 : State} (s : State) (a1 : Nat) (a2 : EFrame)  (h0 : Mode s0 s) : Mode s0 (admitFrame s a1 a2).2 := by
  unfold admitFrame
  exact (by
      split
      · rename_i x34 e35
        exact h0
      · rename_i x36 x37 e38
        exact (by
          split
          · rename_i x39 t40 e41
            exact (mode_snd (mode_snd_eq e41 (mode_filterFrame _ _ _ _ h0)))
          · rename_i x70 t71 e72
            exact (by
              split
              · rename_i x90 x91 x92 x93 e94 e95
                exact (mode_recoverFrame _ _ _ (mode_snd_eq e72 (mode_filterFrame _ _ _ _ h0)))
              · rename_i x106 x107 e108
                exact (mode_snd (mode_snd_eq e72 (mode_filterFrame _ _ _ _ h0))))))

theorem mode_tstat {s0 : State} (s : State) (a1 : Nat) (a2 : Nat)  (h0 : Mode s0 s) : Mode s0 (tstat s a1 a2) := by
  unfold tstat
  exact (by
      extract_lets v29
      have h30 : Mode s0 v29 := (mode_wr32 _ _ _ h0)
      clear_value v29
      exact (mode_ite h30 (mode_raise _ _ _ h30)))

theorem mode_tableRead {s0 : State} (s : State) (a1 : Nat) (a2 : Nat) (a3 : Nat)  (h0 : Mode s0 s) : Mode s0 (tableRead s a1 a2 a3) := by
  unfold tableRead
  exact (mode_ite (mode_tstat _ _ _ h0) (by
      extract_lets v50
      exact (mode_tstat _ _ _ (mode_foldl (fun t51 x52 h53 => (mode_wr64 _ _ _ h53)) h0))))

theorem mode_tableWrite {s0 : State} (s : State) (a1 : Nat) (a2 : Nat) (a3 : Nat)  (h0 : Mode s0 s) : Mode s0 (tableWrite s a1 a2 a3) := by
  unfold tableWrite
  exact (mode_ite (mode_tstat _ _ _ h0) (by
      extract_lets v43 v44 v45 v46 v47 v48
      have h49 : Mode s0 v44 := (mode_tstat _ _ _ (mode_setTable _ _ _ _ _ h0))
      clear_value v44
      exact (mode_ite (mode_ite (mode_setEth _ h49) (mode_setEth _ h49)) (mode_ite (mode_setEth _ h49) (mode_ite (mode_setEth _ h49) h49)))))

theorem mode_execEthTableRead {s0 : State} (a0 : Nat) (a1 : Nat) (a2 : Nat) (s : State)  (h0 : Mode s0 s) : ModeOut s0 (execEthTableRead a0 a1 a2 s) := by
  unfold execEthTableRead
  exact (mode_out (mode_ite (mode_tableRead _ _ _ _ h0) h0))

theorem mode_execEthTableWrite {s0 : State} (a0 : Nat) (a1 : Nat) (a2 : Nat) (s : State)  (h0 : Mode s0 s) : ModeOut s0 (execEthTableWrite a0 a1 a2 s) := by
  unfold execEthTableWrite
  exact (mode_out (mode_ite (mode_tableWrite _ _ _ _ h0) h0))

theorem mode_dropWhole {s0 : State} (s : State) (a1 : Nat) (a2 : Nat) (a3 : Nat)  (h0 : Mode s0 s) : Mode s0 (dropWhole s a1 a2 a3) := by
  unfold dropWhole
  exact (mode_setStr _ h0)

theorem mode_dropEvent {s0 : State} (s : State) (a1 : Nat)  (h0 : Mode s0 s) : Mode s0 (dropEvent s a1) := by
  unfold dropEvent
  exact (mode_arrive _ _ _ h0)

theorem mode_placeData {s0 : State} (s : State) (a1 : Assembly) (a2 : Nat) (a3 : List Sys2Proof.Byte)  (h0 : Mode s0 s) : Mode s0 (placeData s a1 a2 a3) := by
  unfold placeData
  exact (by
      extract_lets v64 v65 v66 v67
      have h68 : Mode s0 v64 := (mode_hbmPoke _ _ _ _ h0)
      clear_value v64
      have h69 : Mode s0 v67 := (mode_setStr _ h68)
      clear_value v67
      exact (mode_ite (mode_admitRing _ _ (mode_setIslot _ _ _ _ h69)) (mode_setStr _ h68)))

theorem mode_newItem {s0 : State} (s : State) (a1 : Nat) (a2 : Nat) (a3 : Nat) (a4 : Nat) (a5 : Nat) (a6 : List Sys2Proof.Byte)  (h0 : Mode s0 s) : Mode s0 (newItem s a1 a2 a3 a4 a5 a6) := by
  unfold newItem
  exact (by
      extract_lets v57 v58 v59 v60 v61 v62
      have h63 : Mode s0 v61 := (mode_setIslot _ _ _ _ h0)
      clear_value v61
      exact (mode_ite (mode_refuseRecord _ _ _ _ _ _ (mode_dropWhole _ _ _ _ h0)) (mode_ite (mode_portEvent _ _ _ (mode_count64 _ _ _ (mode_dropWhole _ _ _ _ h0))) (mode_ite (mode_dropEvent _ _ (mode_count64 _ _ _ (mode_dropWhole _ _ _ _ h0))) (mode_placeData _ _ _ _ (mode_setProd _ _ _ (mode_setStr _ h63)))))))

theorem mode_mediaData {s0 : State} (s : State) (a1 : Nat) (a2 : List Sys2Proof.Byte)  (h0 : Mode s0 s) : Mode s0 (mediaData s a1 a2) := by
  unfold mediaData
  exact (by
      extract_lets v73 v74 v75 v76 v77 v78
      exact (mode_ite (mode_rxDrop _ _ h0) (mode_ite h0 (mode_ite (mode_dropEvent _ _ (mode_count64 _ _ _ (mode_dropWhole _ _ _ _ h0))) (by
        split
        · rename_i x99 x100 e101
          exact (mode_ite (mode_rxDrop _ _ h0) (mode_placeData _ _ _ _ h0))
        · rename_i x109 e110
          exact (mode_newItem _ _ _ _ _ _ _ h0))))))

theorem mode_execMediaDatagram {s0 : State} (a0 : Nat) (a1 : List Sys2Proof.Byte) (s : State)  (h0 : Mode s0 s) : ModeOut s0 (execMediaDatagram a0 a1 s) := by
  unfold execMediaDatagram
  exact (mode_out (by
      extract_lets v79
      exact (mode_ite h0 (mode_ite (mode_rxDrop _ _ h0) (by
        split
        · rename_i x80 e81
          exact (mode_rxDrop _ _ h0)
        · rename_i x82 x83 e84
          exact (by
            split
            · rename_i x85 t86 e87
              exact (mode_snd_eq e87 (mode_admitFrame _ _ _ h0))
            · rename_i x118 t119 e120
              exact (mode_mediaData _ _ _ (mode_snd_eq e120 (mode_admitFrame _ _ _ h0)))))))))

theorem mode_execAssemblyTimeout {s0 : State} (a0 : Nat) (a1 : Nat) (s : State)  (h0 : Mode s0 s) : ModeOut s0 (execAssemblyTimeout a0 a1 s) := by
  unfold execAssemblyTimeout
  exact (mode_out (by
      split
      · rename_i x88 e89
        exact h0
      · rename_i x96 x97 e98
        exact (mode_ite h0 (by
          extract_lets v102 v103 v104
          have h105 : Mode s0 v103 := (mode_setStr _ h0)
          clear_value v103
          have h111 : Mode s0 v104 := (mode_setIslot _ _ _ _ h105)
          clear_value v104
          exact (mode_portEvent _ _ _ (mode_count64 _ _ _ (mode_advanceIngress _ _ _ h111)))))))

theorem mode_execOtherFrame {s0 : State} (a0 : Nat) (a1 : List Sys2Proof.Byte) (s : State)  (h0 : Mode s0 s) : ModeOut s0 (execOtherFrame a0 a1 s) := by
  unfold execOtherFrame
  exact (mode_out (mode_ite (mode_rxDrop _ _ h0) h0))

theorem mode_execArpRequest {s0 : State} (a0 : Nat) (a1 : List Sys2Proof.Byte) (s : State)  (h0 : Mode s0 s) : ModeOut s0 (execArpRequest a0 a1 s) := by
  unfold execArpRequest
  exact (mode_out (by
      extract_lets v112 v113 v114 v115
      exact (mode_ite h0 (mode_ite (mode_rxDrop _ _ h0) (by
        split
        · rename_i x121 t122 e123
          exact (mode_snd_eq e123 (mode_admitFrame _ _ _ h0))
        · rename_i x126 t127 e128
          exact (mode_ite (mode_snd_eq e128 (mode_admitFrame _ _ _ h0)) (mode_enqueue _ _ _ _ (mode_snd_eq e128 (mode_admitFrame _ _ _ h0)))))))))

theorem mode_execNeighborSolicitation {s0 : State} (a0 : Nat) (a1 : List Sys2Proof.Byte) (s : State)  (h0 : Mode s0 s) : ModeOut s0 (execNeighborSolicitation a0 a1 s) := by
  unfold execNeighborSolicitation
  exact (mode_out (by
      extract_lets v116
      exact (mode_ite h0 (by
        split
        · rename_i x124 e125
          exact (mode_rxDrop _ _ h0)
        · rename_i x129 x130 e131
          exact (by
            extract_lets v132 v133 v134 v135 v136
            exact (mode_ite (mode_rxDrop _ _ h0) (by
              split
              · rename_i x149 t150 e151
                exact (mode_snd_eq e151 (mode_admitFrame _ _ _ h0))
              · rename_i x152 t153 e154
                exact (mode_ite (mode_snd_eq e154 (mode_admitFrame _ _ _ h0)) (mode_enqueue _ _ _ _ (mode_snd_eq e154 (mode_admitFrame _ _ _ h0)))))))))))

theorem mode_execIcmpEchoRequest {s0 : State} (a0 : Nat) (a1 : List Sys2Proof.Byte) (s : State)  (h0 : Mode s0 s) : ModeOut s0 (execIcmpEchoRequest a0 a1 s) := by
  unfold execIcmpEchoRequest
  exact (mode_out (by
      extract_lets v117
      exact (mode_ite h0 (mode_ite (mode_rxDrop _ _ h0) (by
        split
        · rename_i x141 e142
          exact (mode_rxDrop _ _ h0)
        · rename_i x144 x145 e146
          exact (by
            extract_lets v147 v148
            exact (mode_ite (mode_rxDrop _ _ h0) (mode_ite (mode_enqueue _ _ _ _ h0) (mode_ite (mode_enqueue _ _ _ _ h0) (mode_rxDrop _ _ h0))))))))))

theorem mode_execPortLinkStateChange {s0 : State} (a0 : Nat) (a1 : Bool) (s : State)  (h0 : Mode s0 s) : ModeOut s0 (execPortLinkStateChange a0 a1 s) := by
  unfold execPortLinkStateChange
  exact (mode_out (mode_ite h0 (by
      extract_lets v137 v138 v139
      have h140 : Mode s0 v138 := (mode_setEth _ h0)
      clear_value v138
      have h143 : Mode s0 v139 := (mode_ite (mode_takeLanes _ _ h140) (mode_satCount64 _ _ _ h140))
      clear_value v139
      exact (mode_portEvent _ _ _ h143))))

/-! ### Machine/EthEgress.lean -/

theorem mode_sendDatagram {s0 : State} (s : State) (a1 : Nat) (a2 : Nat) (a3 : Nat) (a4 : Nat) (a5 : Nat) (a6 : Nat) (a7 : List Sys2Proof.Byte)  (h0 : Mode s0 s) : Mode s0 (sendDatagram s a1 a2 a3 a4 a5 a6 a7) := by
  unfold sendDatagram
  exact (by
      extract_lets v0 v1 v2 v3 v4 v5 v6 v7 v8
      exact (by
        split
        · rename_i x16 e17
          exact (mode_enqueue _ _ _ _ h0)
        · rename_i x26 x27 e28
          exact (by
            extract_lets v29 v30 v31 v32
            have h33 : Mode s0 v31 := (mode_setTable _ _ _ _ _ h0)
            clear_value v31
            have h36 : Mode s0 v32 := (mode_enqueue _ _ _ _ h33)
            clear_value v32
            exact (mode_ite h36 (mode_enqueue _ _ _ _ h36)))))

theorem mode_execEgressItem {s0 : State} (a0 : Nat) (s : State)  (h0 : Mode s0 s) : ModeOut s0 (execEgressItem a0 s) := by
  unfold execEgressItem
  exact (mode_out (by
      extract_lets v9 v10 v11 v12 v13
      exact (mode_ite h0 (by
        split
        · rename_i x14 e15
          exact h0
        · rename_i x23 x24 e25
          exact (by
            split
            · rename_i x34 e35
              exact h0
            · rename_i x37 x38 e39
              exact (mode_ite (mode_setCons _ _ _ (mode_setOslot _ _ _ _ h0)) (by
                extract_lets v61 v62 v63 v64
                have h65 : Mode s0 v62 := (mode_noteLost _ _ _ _ h0)
                clear_value v62
                have h66 : Mode s0 v63 := (mode_foldl (fun t68 x69 h70 => (mode_sendDatagram _ _ _ _ _ _ _ _ h70)) h65)
                clear_value v63
                exact (mode_setCons _ _ _ (mode_setOslot _ _ _ _ (mode_setEth _ h66))))))))))

theorem mode_setStart {s0 : State} (s : State) (a1 : Nat)  (h0 : Mode s0 s) : Mode s0 (setStart s a1) := by
  unfold setStart
  exact (mode_setEth _ h0)

theorem mode_gclChange {s0 : State} (s : State) (a1 : Nat)  (h0 : Mode s0 s) : Mode s0 (gclChange s a1) := by
  unfold gclChange
  exact (mode_ite h0 (mode_wrBits _ _ _ _ _ (mode_wrBits _ _ _ _ _ (mode_setStart _ _ h0))))

theorem mode_execGclChange {s0 : State} (a0 : Nat) (s : State)  (h0 : Mode s0 s) : ModeOut s0 (execGclChange a0 s) := by
  unfold execGclChange
  exact (mode_out (mode_ite (mode_gclChange _ _ h0) h0))

theorem mode_execGclConfigApply {s0 : State} (a0 : Nat) (s : State)  (h0 : Mode s0 s) : ModeOut s0 (execGclConfigApply a0 s) := by
  unfold execGclConfigApply
  exact (mode_out (by
      extract_lets v18 v19 v20 v21
      have h22 : Mode s0 v21 := (mode_setEth _ h0)
      clear_value v21
      exact (mode_ite h0 (mode_wrBits _ _ _ _ _ (mode_wrBits _ _ _ _ _ (mode_wrBits _ _ _ _ _ h22))))))

theorem mode_execGateIntervalEnd {s0 : State} (a0 : Nat) (s : State)  (h0 : Mode s0 s) : ModeOut s0 (execGateIntervalEnd a0 s) := by
  unfold execGateIntervalEnd
  exact (mode_out (mode_ite h0 (mode_setEth _ h0)))

theorem mode_setQueue {s0 : State} (s : State) (a1 : Nat) (a2 : Nat) (a3 : List QFrame)  (h0 : Mode s0 s) : Mode s0 (setQueue s a1 a2 a3) := by
  unfold setQueue
  exact (mode_setEth _ h0)

theorem mode_transmit {s0 : State} (s : State) (a1 : Nat) (a2 : Nat) (a3 : QFrame) (a4 : List QFrame)  (h0 : Mode s0 s) : Mode s0 (transmit s a1 a2 a3 a4) := by
  unfold transmit
  exact (by
      extract_lets v40 v41 v42 v43 v44 v45
      have h46 : Mode s0 v45 := (mode_ite h0 (mode_setEth _ h0))
      clear_value v45
      exact (mode_emit _ (mode_setQueue _ _ _ _ h46)))

theorem mode_execEgressFrame {s0 : State} (a0 : Nat) (a1 : Nat) (s : State)  (h0 : Mode s0 s) : ModeOut s0 (execEgressFrame a0 a1 s) := by
  unfold execEgressFrame
  exact (mode_out (mode_ite h0 (by
      split
      · rename_i x47 e48
        exact h0
      · rename_i x49 x50 x51 e52
        exact (by
          extract_lets v53
          exact (mode_ite (mode_portEvent _ _ _ (mode_count64 _ _ _ (mode_setQueue _ _ _ _ (mode_noteWaiting _ _ _ _ h0)))) (mode_ite (mode_ite h0 (mode_count64 _ _ _ (mode_setQueue _ _ _ _ h0))) (mode_ite h0 (mode_transmit _ _ _ _ _ h0))))))))

theorem mode_portsStep {s0 : State} (s : State)  (h0 : Mode s0 s) : Mode s0 (portsStep s) := by
  unfold portsStep
  exact (by
      extract_lets v54 v55 v56
      have h57 : Mode s0 v54 := (mode_foldl (fun t58 x59 h60 => (mode_ite (mode_setStart _ _ h60) h60)) h0)
      clear_value v54
      have h67 : Mode s0 v55 := (mode_foldl (fun t71 x72 h73 => (mode_foldl (fun t74 x75 h76 => (by
        extract_lets v77 v78
        exact (mode_ite h76 (mode_setEth _ h76)))) h73)) h57)
      clear_value v55
      exact (mode_setEth _ h67))

/-! ### Machine/Gptp.lean -/

theorem mode_setTState {s0 : State} (s : State) (a1 : Nat)  (h0 : Mode s0 s) : Mode s0 (setTState s a1) := by
  unfold setTState
  exact (mode_ite h0 (mode_arrive _ _ _ (mode_wr32 _ _ _ h0)))

theorem mode_stepTime {s0 : State} (s : State) (a1 : Nat)  (h0 : Mode s0 s) : Mode s0 (stepTime s a1) := by
  unfold stepTime
  exact (by
      extract_lets v0 v1 v2 v3 v4
      have h5 : Mode s0 v2 := (mode_setPow h0 rfl)
      clear_value v2
      have h6 : Mode s0 v3 := (mode_count64 _ _ _ (mode_count64 _ _ _ h5))
      clear_value v3
      have h7 : Mode s0 v4 := (mode_portsStep _ (mode_fabricStep _ (mode_boundary _ (mode_repStep _ _ _ h6))))
      clear_value v4
      exact (mode_arrive _ _ _ (mode_arrive _ _ _ h7)))

theorem mode_slew {s0 : State} (s : State)  (h0 : Mode s0 s) : Mode s0 (slew s) := by
  unfold slew
  exact (by
      split
      · rename_i x8 x9 t10 e11
        exact (by
          extract_lets v12 v13 v14 v15 v16 v17
          have h18 : Mode s0 v14 := (mode_setPow (mode_snd_eq e11 (mode_fresh h0)) rfl)
          clear_value v14
          have h28 : Mode s0 v17 := (mode_setEth _ h18)
          clear_value v17
          exact (mode_ite (mode_arrive _ _ _ (mode_count64 _ _ _ h28)) h28)))

theorem mode_execSync {s0 : State} (a0 : Nat) (a1 : Nat) (a2 : Int) (s : State)  (h0 : Mode s0 s) : ModeOut s0 (execSync a0 a1 a2 s) := by
  unfold execSync
  exact (mode_out (mode_ite h0 (mode_ite (mode_rxDrop _ _ h0) (by
      extract_lets v19 v20 v21
      have h22 : Mode s0 v20 := (mode_wr64 _ _ _ h0)
      clear_value v20
      have h23 : Mode s0 v21 := (mode_setTState _ _ h22)
      clear_value v21
      exact (mode_ite (mode_stepTime _ _ h23) (mode_slew _ h23))))))

theorem mode_execPdelayRequest {s0 : State} (a0 : Nat) (a1 : List Sys2Proof.Byte) (s : State)  (h0 : Mode s0 s) : ModeOut s0 (execPdelayRequest a0 a1 s) := by
  unfold execPdelayRequest
  exact (mode_out (by
      extract_lets v24 v25 v26 v27
      exact (mode_ite h0 (mode_ite (mode_rxDrop _ _ h0) (mode_enqueue _ _ _ _ (mode_enqueue _ _ _ _ h0))))))

theorem mode_execSyncReceiptTimeout {s0 : State} (s : State)  (h0 : Mode s0 s) : ModeOut s0 (execSyncReceiptTimeout s) := by
  unfold execSyncReceiptTimeout
  exact (mode_out (mode_ite (mode_setTState _ _ h0) h0))

end Sys2Proof.Machine
end

