-- ==== Sys2Proof/Laws/ModeDevice.lean ====
section
/-! SUPPORT. `Mode` through the Darkroom, the loader, events, the device's life, power and the processors: one lemma per function. -/

namespace Sys2Proof.Machine

/-! ### Machine/Darkroom.lean -/

theorem mode_mboxPut {s0 : State} (s : State) (a1 : List Sys2Proof.Byte)  (h0 : Mode s0 s) : Mode s0 (mboxPut s a1) := by
  unfold mboxPut
  exact (by
      extract_lets v2
      have h7 : Mode s0 v2 := (mode_setCtl _ h0)
      clear_value v2
      exact (mode_foldl (fun t8 x9 h10 => (mode_wr32 _ _ _ h10)) h7))

theorem mode_drkDone {s0 : State} (s : State) (a1 : Nat) (a2 : List Sys2Proof.Byte)  (h0 : Mode s0 s) : Mode s0 (drkDone s a1 a2) := by
  unfold drkDone
  exact (by
      extract_lets v0
      have h1 : Mode s0 v0 := (mode_mboxPut _ _ (mode_wrBits _ _ _ _ _ h0))
      clear_value v0
      exact (mode_ite h1 (mode_raise _ _ _ h1)))

theorem mode_random {s0 : State} (s : State) (a1 : Nat)  (h0 : Mode s0 s) : Mode s0 (random s a1).2 := by
  unfold random
  exact (by
      split
      · rename_i x11 x12 t13 e14
        exact (mode_snd (mode_setDrk _ (mode_snd_eq e14 (mode_fresh h0)))))

theorem mode_showSlots {s0 : State} (s : State)  (h0 : Mode s0 s) : Mode s0 (showSlots s) := by
  unfold showSlots
  exact (mode_wr32 _ _ _ h0)

theorem mode_putKey {s0 : State} (s : State) (a1 : Nat) (a2 : DKey)  (h0 : Mode s0 s) : Mode s0 (putKey s a1 a2) := by
  unfold putKey
  exact (by
      extract_lets v3 v4 v5
      have h6 : Mode s0 v5 := (mode_setDrk _ h0)
      clear_value v5
      exact (mode_showSlots _ (mode_wr32 _ _ _ h6)))

theorem mode_drkInstall {s0 : State} (s : State)  (h0 : Mode s0 s) : Mode s0 (drkInstall s) := by
  unfold drkInstall
  exact (by
      extract_lets v15
      exact (mode_ite (mode_drkDone _ _ _ h0) (mode_ite (mode_drkDone _ _ _ h0) (by
        split
        · rename_i x30 e31
          exact (mode_drkDone _ _ _ h0)
        · rename_i x37 x38 e39
          exact (by
            split
            · rename_i x40 e41
              exact (mode_drkDone _ _ _ h0)
            · rename_i x42 x43 e44
              exact (mode_drkDone _ _ _ (mode_putKey _ _ _ h0)))))))

theorem mode_drkSeal {s0 : State} (s : State) (a1 : Nat)  (h0 : Mode s0 s) : Mode s0 (drkSeal s a1) := by
  unfold drkSeal
  exact (mode_ite (mode_drkDone _ _ _ h0) (by
      split
      · rename_i x45 e46
        exact (mode_drkDone _ _ _ h0)
      · rename_i x47 x48 e49
        exact (by
          split
          · rename_i x50 x51 t52 e53
            exact (mode_drkDone _ _ _ (mode_snd_eq e53 (mode_random _ _ h0))))))

theorem mode_drkUnseal {s0 : State} (s : State)  (h0 : Mode s0 s) : Mode s0 (drkUnseal s) := by
  unfold drkUnseal
  exact (by
      extract_lets v16
      exact (mode_ite (mode_drkDone _ _ _ h0) (mode_ite (mode_drkDone _ _ _ h0) (by
        split
        · rename_i x25 e26
          exact (mode_drkDone _ _ _ h0)
        · rename_i x27 x28 e29
          exact (by
            split
            · rename_i x32 e33
              exact (mode_drkDone _ _ _ h0)
            · rename_i x34 x35 e36
              exact (mode_drkDone _ _ _ (mode_putKey _ _ _ h0)))))))

theorem mode_drkErase {s0 : State} (s : State) (a1 : Nat)  (h0 : Mode s0 s) : Mode s0 (drkErase s a1) := by
  unfold drkErase
  exact (mode_ite (mode_drkDone _ _ _ h0) (mode_ite (mode_drkDone _ _ _ h0) (mode_ite (mode_drkDone _ _ _ h0) (mode_drkDone _ _ _ (mode_showSlots _ (mode_setDrk _ h0))))))

theorem mode_ownerUpdate {s0 : State} (s : State)  (h0 : Mode s0 s) : Mode s0 (ownerUpdate s) := by
  unfold ownerUpdate
  exact (by
      extract_lets v17 v18 v19 v20 v21 v22
      have h23 : Mode s0 v21 := (mode_setFlash _ h0)
      clear_value v21
      have h24 : Mode s0 v22 := (mode_rawOwner _ h23)
      clear_value v22
      exact (mode_ite (mode_drkDone _ _ _ h0) (mode_ite (mode_drkDone _ _ _ h0) (mode_drkDone _ _ _ (mode_wrBits _ _ _ _ _ h24)))))

theorem mode_drkCommand {s0 : State} (s : State) (a1 : Nat)  (h0 : Mode s0 s) : Mode s0 (drkCommand s a1) := by
  unfold drkCommand
  exact (mode_ite h0 (by
      split
      · rename_i x65 e66
        exact (mode_drkInstall _ h0)
      · rename_i x72 e73
        exact (mode_drkSeal _ _ h0)
      · rename_i x76 e77
        exact (mode_drkUnseal _ h0)
      · rename_i x78 e79
        exact (mode_drkErase _ _ h0)
      · rename_i x80 e81
        exact (mode_ownerUpdate _ h0)
      · rename_i x82 e83 e84 e85 e86 e87
        exact h0))

theorem mode_execInstall {s0 : State} (s : State)  (h0 : Mode s0 s) : ModeOut s0 (execInstall s) := by
  unfold execInstall
  exact (mode_out (mode_ite (mode_drkInstall _ h0) h0))

theorem mode_execSeal {s0 : State} (a0 : Nat) (s : State)  (h0 : Mode s0 s) : ModeOut s0 (execSeal a0 s) := by
  unfold execSeal
  exact (mode_out (mode_ite (mode_drkSeal _ _ h0) h0))

theorem mode_execUnseal {s0 : State} (s : State)  (h0 : Mode s0 s) : ModeOut s0 (execUnseal s) := by
  unfold execUnseal
  exact (mode_out (mode_ite (mode_drkUnseal _ h0) h0))

theorem mode_execErase {s0 : State} (a0 : Nat) (s : State)  (h0 : Mode s0 s) : ModeOut s0 (execErase a0 s) := by
  unfold execErase
  exact (mode_out (mode_ite (mode_drkErase _ _ h0) h0))

theorem mode_execOwnerUpdate {s0 : State} (s : State)  (h0 : Mode s0 s) : ModeOut s0 (execOwnerUpdate s) := by
  unfold execOwnerUpdate
  exact (mode_out (mode_ite (mode_ownerUpdate _ h0) h0))

theorem mode_eraseKeys {s0 : State} (s : State)  (h0 : Mode s0 s) : Mode s0 (eraseKeys s) := by
  unfold eraseKeys
  exact (mode_showSlots _ (mode_setDrk _ h0))

theorem mode_tamper {s0 : State} (s : State) (a1 : Nat)  (h0 : Mode s0 s) : Mode s0 (tamper s a1) := by
  unfold tamper
  exact (by
      extract_lets v54 v55 v56 v57 v58 v59
      have h60 : Mode s0 v54 := (mode_eraseKeys _ h0)
      clear_value v54
      have h61 : Mode s0 v55 := (mode_foldl (fun t62 x63 h64 => (by
        split
        · rename_i x67 e68
          exact h64
        · rename_i x69 x70 e71
          exact (mode_setSession _ _ _ h64))) h60)
      clear_value v55
      have h74 : Mode s0 v56 := (mode_orWord _ _ _ h61)
      clear_value v56
      have h75 : Mode s0 v57 := (mode_arrive _ _ _ h74)
      clear_value v57
      have h88 : Mode s0 v58 := (mode_satCount64 _ _ _ h75)
      clear_value v58
      have h89 : Mode s0 v59 := (mode_abortWhere _ _ _ h88)
      clear_value v59
      exact (mode_dropReady _ _ _ h89))

theorem mode_execTamperFire {s0 : State} (a0 : Nat) (s : State)  (h0 : Mode s0 s) : ModeOut s0 (execTamperFire a0 s) := by
  unfold execTamperFire
  exact (mode_out (mode_ite (mode_tamper _ _ h0) h0))

theorem mode_execDrbgReseed {s0 : State} (s : State)  (h0 : Mode s0 s) : ModeOut s0 (execDrbgReseed s) := by
  unfold execDrbgReseed
  exact (mode_out (mode_ite (mode_setDrk _ h0) h0))

theorem mode_execSeedBankClose {s0 : State} (s : State)  (h0 : Mode s0 s) : ModeOut s0 (execSeedBankClose s) := by
  unfold execSeedBankClose
  exact (mode_out (mode_ite (mode_setDrk _ h0) h0))

/-! ### Machine/Loader.lean -/

theorem mode_setLdState {s0 : State} (s : State) (a1 : Nat)  (h0 : Mode s0 s) : Mode s0 (setLdState s a1) := by
  unfold setLdState
  exact (mode_arrive _ _ _ (mode_wrBits _ _ _ _ _ h0))

theorem mode_setLdCode {s0 : State} (s : State) (a1 : Nat)  (h0 : Mode s0 s) : Mode s0 (setLdCode s a1) := by
  unfold setLdCode
  exact (mode_wrBits _ _ _ _ _ h0)

theorem mode_ldBusy {s0 : State} (s : State)  (h0 : Mode s0 s) : Mode s0 (ldBusy s) := by
  unfold ldBusy
  exact (mode_raise _ _ _ (mode_setLdCode _ _ h0))

theorem mode_failLoad {s0 : State} (s : State) (a1 : LdErr)  (h0 : Mode s0 s) : Mode s0 (failLoad s a1) := by
  unfold failLoad
  exact (by
      extract_lets v0 v1
      have h2 : Mode s0 v0 := (mode_wr64 _ _ _ (mode_raise _ _ _ (mode_setLdCode _ _ h0)))
      clear_value v0
      exact (mode_setLdState _ _ (mode_setLd _ h2)))

theorem mode_setStaged {s0 : State} (s : State) (a1 : List Sys2Proof.Byte)  (h0 : Mode s0 s) : Mode s0 (setStaged s a1) := by
  unfold setStaged
  exact (mode_wr64 _ _ _ (mode_setLd _ h0))

theorem mode_wrDigest {s0 : State} (s : State) (a1 : Nat) (a2 : List Sys2Proof.Byte)  (h0 : Mode s0 s) : Mode s0 (wrDigest s a1 a2) := by
  unfold wrDigest
  exact (mode_foldl (fun t3 x4 h5 => (mode_wr64 _ _ _ h5)) h0)

theorem mode_startLoad {s0 : State} (s : State) (a1 : Nat) (a2 : Nat)  (h0 : Mode s0 s) : Mode s0 (startLoad s a1 a2) := by
  unfold startLoad
  exact (mode_ite (mode_ldBusy _ h0) (by
      extract_lets v6 v7
      have h8 : Mode s0 v6 := (mode_wrBits _ _ _ _ _ (mode_wr64 _ _ _ h0))
      clear_value v6
      exact (mode_setLdState _ _ (mode_setLd _ h8))))

theorem mode_execValidate {s0 : State} (s : State)  (h0 : Mode s0 s) : ModeOut s0 (execValidate s) := by
  unfold execValidate
  exact (mode_out (mode_ite (mode_startLoad _ _ _ h0) h0))

theorem mode_execLoad {s0 : State} (a0 : Nat) (s : State)  (h0 : Mode s0 s) : ModeOut s0 (execLoad a0 s) := by
  unfold execLoad
  exact (mode_out (mode_ite (mode_startLoad _ _ _ h0) h0))

theorem mode_resumeParts {s0 : State} (s : State)  (h0 : Mode s0 s) : Mode s0 (resumeParts s) := by
  unfold resumeParts
  exact (by
      extract_lets v9 v10 v11
      exact (mode_admitWaiting _ (mode_setStr _ h0)))

theorem mode_cancelLoad {s0 : State} (s : State)  (h0 : Mode s0 s) : Mode s0 (cancelLoad s) := by
  unfold cancelLoad
  exact (mode_ite (mode_failLoad _ _ h0) (mode_ite (mode_resumeParts _ (mode_failLoad _ _ h0)) h0))

theorem mode_execCancel {s0 : State} (s : State)  (h0 : Mode s0 s) : ModeOut s0 (execCancel s) := by
  unfold execCancel
  exact (mode_out (mode_ite (mode_cancelLoad _ h0) h0))

theorem mode_ldCommand {s0 : State} (s : State) (a1 : Nat)  (h0 : Mode s0 s) : Mode s0 (ldCommand s a1) := by
  unfold ldCommand
  exact (mode_ite h0 (by
      split
      · rename_i x46 e47
        exact (mode_startLoad _ _ _ h0)
      · rename_i x62 e64
        exact (mode_startLoad _ _ _ h0)
      · rename_i x66 e67
        exact (mode_cancelLoad _ h0)
      · rename_i x68 e69 e70 e71
        exact h0))

theorem mode_emptyRing {s0 : State} (s : State) (a1 : Nat)  (h0 : Mode s0 s) : Mode s0 (emptyRing s a1) := by
  unfold emptyRing
  exact (by
      extract_lets v12 v13 v14
      have h15 : Mode s0 v14 := (mode_setStr _ h0)
      clear_value v14
      exact (mode_setCons _ _ _ h15))

theorem mode_dropStreams {s0 : State} (s : State)  (h0 : Mode s0 s) : Mode s0 (dropStreams s) := by
  unfold dropStreams
  with_reducible exact (by
      extract_lets v16 v17 v18 v19 v20 v21 v22 v23 v24 v25 v26 v27 v28 v29
      have h30 : Mode s0 v21 := (mode_foldl (fun t31 x32 h33 => (mode_emptyRing _ _ h33)) h0)
      clear_value v21
      have h39 : Mode s0 v23 := (mode_setStr _ h30)
      clear_value v23
      have h42 : Mode s0 v24 := (mode_abortWhere _ _ _ h39)
      clear_value v24
      have h65 : Mode s0 v25 := (mode_dropReady _ _ _ h42)
      clear_value v25
      have h73 : Mode s0 v26 := (mode_foldl (fun t74 x75 h76 => (mode_refuseRecord _ _ _ _ _ _ h76)) h65)
      clear_value v26
      have h105 : Mode s0 v27 := (mode_wrBits _ _ _ _ _ h73)
      clear_value v27
      exact (mode_setStr _ h105))

theorem mode_beginApply {s0 : State} (s : State)  (h0 : Mode s0 s) : Mode s0 (beginApply s) := by
  unfold beginApply
  exact (by
      split
      · rename_i x34 x35 x36 x37 e38
        exact (mode_resumeParts _ (mode_failLoad _ _ h0))
      · rename_i x40 e41
        exact (mode_setLdState _ _ (mode_dropStreams _ h0)))

theorem mode_execValidationEnd {s0 : State} (s : State)  (h0 : Mode s0 s) : ModeOut s0 (execValidationEnd s) := by
  unfold execValidationEnd
  exact (mode_out (mode_ite h0 (by
      split
      · rename_i x43 x44 e45
        exact (mode_failLoad _ _ h0)
      · rename_i x48 x49 e50
        exact (by
          extract_lets v54 v55 v56 v57 v58 v59 v60 v61
          have h63 : Mode s0 v55 := (mode_wrDigest _ _ _ (mode_setLdCode _ _ h0))
          clear_value v55
          have h72 : Mode s0 v57 := (mode_setLd _ h63)
          clear_value v57
          have h92 : Mode s0 v59 := (mode_setStr _ h72)
          clear_value v59
          have h108 : Mode s0 v61 := (mode_setLdState _ _ (mode_setLd _ h92))
          clear_value v61
          exact (mode_ite (mode_setLdState _ _ (mode_setLd _ h63)) (mode_ite (mode_beginApply _ h92) (mode_ite (mode_foldl (fun t133 x134 h135 => (mode_abortPartition _ _ _ h135)) h108) h108)))))))

theorem mode_execDrainLimit {s0 : State} (s : State)  (h0 : Mode s0 s) : ModeOut s0 (execDrainLimit s) := by
  unfold execDrainLimit
  exact (mode_out (mode_ite (mode_foldl (fun t51 x52 h53 => (mode_abortPartition _ _ _ h53)) h0) h0))

theorem mode_execDrainEnd {s0 : State} (s : State)  (h0 : Mode s0 s) : ModeOut s0 (execDrainEnd s) := by
  unfold execDrainEnd
  exact (mode_out (mode_ite (mode_beginApply _ h0) h0))

theorem mode_fillBank {s0 : State} (s : State) (a1 : Nat) (a2 : Nat) (a3 : Nat) (a4 : Nat)  (h0 : Mode s0 s) : Mode s0 (fillBank s a1 a2 a3 a4) := by
  unfold fillBank
  exact (mode_ite (mode_wr64 _ _ _ h0) (by
      extract_lets v93 v94 v95 v96 v97 v98 v99 v100 v101 v102 v103
      have h104 : Mode s0 v101 := (mode_setCore _ _ _ h0)
      clear_value v101
      have h106 : Mode s0 v102 := (mode_wr64 _ _ _ h104)
      clear_value v102
      exact (mode_ite h106 (mode_hbmPoke _ _ _ _ h106))))

theorem mode_applyCore {s0 : State} (s : State) (a1 : Pimg) (a2 : Nat)  (h0 : Mode s0 s) : Mode s0 (applyCore s a1 a2) := by
  unfold applyCore
  exact (by
      extract_lets v77 v78 v79 v80 v81 v82 v83 v84 v85 v86 v87 v88 v89 v90
      have h91 : Mode s0 v82 := (mode_setMem _ h0)
      clear_value v82
      have h107 : Mode s0 v85 := (mode_setCore _ _ _ h91)
      clear_value v85
      have h109 : Mode s0 v86 := (mode_wrBits _ _ _ _ _ (mode_wrBits _ _ _ _ _ h107))
      clear_value v86
      have h119 : Mode s0 v88 := (mode_foldl (fun t128 x129 h130 => (by
        extract_lets v131
        exact (mode_ite h130 (mode_wr64 _ _ _ h130)))) h109)
      clear_value v88
      have h152 : Mode s0 v89 := (mode_wr32 _ _ _ h119)
      clear_value v89
      have h182 : Mode s0 v90 := (mode_fillBank _ _ _ _ _ (mode_fillBank _ _ _ _ _ h152))
      clear_value v90
      exact (mode_ite (mode_markNewest _ _ _ h182) (mode_ite (mode_markNewest _ _ _ h182) h182)))

theorem mode_chargeBytes {s0 : State} (s : State) (a1 : Nat) (a2 : Nat) (a3 : Nat)  (h0 : Mode s0 s) : Mode s0 (chargeBytes s a1 a2 a3) := by
  unfold chargeBytes
  exact (mode_foldl (fun t110 x111 h112 => (by
      split
      · rename_i x120 x121 e122
        exact h112
      · rename_i x123 x124 x125 x126 e127
        exact (mode_charge _ _ _ _ h112))) h0)

theorem mode_loadModels {s0 : State} (s : State) (a1 : Pimg) (a2 : Nat)  (h0 : Mode s0 s) : Mode s0 (loadModels s a1 a2) := by
  unfold loadModels
  exact (mode_foldl (fun t113 x114 h115 => (by
      extract_lets v116 v117
      have h118 : Mode s0 v117 := (mode_hbmPoke _ _ _ _ h115)
      clear_value v117
      exact (mode_ite (mode_chargeBytes _ _ _ _ h118) h118))) h0)

theorem mode_chargeLoad {s0 : State} (s : State) (a1 : Pimg) (a2 : Nat)  (h0 : Mode s0 s) : Mode s0 (chargeLoad s a1 a2) := by
  unfold chargeLoad
  exact (by
      extract_lets v132
      exact (mode_foldl (fun t136 x137 h138 => (by
        split
        · rename_i x140 x141 x142 x143
          exact (mode_chargeBytes _ _ _ _ h138))) h0))

theorem mode_showCPages {s0 : State} (s : State)  (h0 : Mode s0 s) : Mode s0 (showCPages s) := by
  unfold showCPages
  exact (mode_foldl (fun t139 x144 h145 => (mode_wrBits _ _ _ _ _ h145)) h0)

theorem mode_applyFabric {s0 : State} (s : State) (a1 : Pimg)  (h0 : Mode s0 s) : Mode s0 (applyFabric s a1) := by
  unfold applyFabric
  exact (by
      extract_lets v146 v147 v148 v149 v150
      have h151 : Mode s0 v149 := (mode_wr32 _ _ _ (mode_setFab _ h0))
      clear_value v149
      have h181 : Mode s0 v150 := (mode_showLinks _ (mode_clearFails _ h151))
      clear_value v150
      exact (mode_foldl (fun t184 x186 h187 => (mode_trainAfterLoad _ _ h187)) (mode_ite (mode_checkPeers _ h181) h181)))

theorem mode_applyImgState {s0 : State} (s : State) (a1 : Pimg)  (h0 : Mode s0 s) : Mode s0 (applyImgState s a1) := by
  unfold applyImgState
  exact (by
      extract_lets v168 v169 v170 v171 v172 v173 v174 v175 v176 v177 v178
      have h180 : Mode s0 v170 := (mode_wr32 _ _ _ h0)
      clear_value v170
      have h185 : Mode s0 v172 := (mode_wrDigest _ _ _ (mode_wr32 _ _ _ h180))
      clear_value v172
      have h193 : Mode s0 v176 := (mode_wrBits _ _ _ _ _ (mode_wrBits _ _ _ _ _ h180))
      clear_value v176
      exact (mode_ite (mode_setStr _ (mode_setLd _ h185)) (mode_setStr _ (mode_setLd _ h193))))

theorem mode_applyImage {s0 : State} (s : State) (a1 : Pimg)  (h0 : Mode s0 s) : Mode s0 (applyImage s a1) := by
  unfold applyImage
  exact (by
      extract_lets v153 v154 v155 v156 v157 v158 v159 v160 v161 v162 v163 v164 v165 v166 v167
      have h179 : Mode s0 v158 := (mode_setImg _ h0)
      clear_value v158
      have h183 : Mode s0 v160 := (mode_setRep _ h179)
      clear_value v160
      have h188 : Mode s0 v163 := (mode_setMem _ h183)
      clear_value v163
      have h189 : Mode s0 v164 := (mode_foldl (fun t190 x191 h192 => (mode_loadModels _ _ _ h192)) h188)
      clear_value v164
      have h194 : Mode s0 v165 := (mode_foldl (fun t195 x196 h197 => (mode_applyCore _ _ _ h197)) h189)
      clear_value v165
      have h212 : Mode s0 v166 := (mode_ite (mode_foldl (fun t213 x214 h215 => (mode_chargeLoad _ _ _ h215)) h194) (mode_applyFabric _ _ h194))
      clear_value v166
      have h216 : Mode s0 v167 := (mode_applyImgState _ _ (mode_showCPages _ h212))
      clear_value v167
      exact (mode_ite (mode_wr64 _ _ _ h216) h216))

theorem mode_clearBudgets {s0 : State} (s : State)  (h0 : Mode s0 s) : Mode s0 (clearBudgets s) := by
  unfold clearBudgets
  exact (mode_setCtl _ h0)

theorem mode_unconfigure {s0 : State} (s : State)  (h0 : Mode s0 s) : Mode s0 (unconfigure s) := by
  unfold unconfigure
  exact (by
      extract_lets v198 v199 v200 v201 v202 v203
      have h204 : Mode s0 v198 := (mode_showLinks _ (mode_clearFails _ (mode_wr32 _ _ _ (mode_setFab _ (mode_setImg _ h0)))))
      clear_value v198
      have h217 : Mode s0 v199 := (mode_wrDigest _ _ _ (mode_wr64 _ _ _ h204))
      clear_value v199
      have h218 : Mode s0 v200 := (mode_foldl (fun t219 x220 h221 => (mode_setCore _ _ _ h221)) h217)
      clear_value v200
      have h222 : Mode s0 v201 := (mode_showCPages _ (mode_clearBudgets _ h218))
      clear_value v201
      exact (mode_setStr _ (mode_setLd _ h222)))

theorem mode_execApplyEnd {s0 : State} (a0 : Bool) (s : State)  (h0 : Mode s0 s) : ModeOut s0 (execApplyEnd a0 s) := by
  unfold execApplyEnd
  exact (mode_out (mode_ite h0 (by
      extract_lets v205 v206 v207 v208 v209 v210
      have h211 : Mode s0 v207 := (mode_applyImage _ _ h0)
      clear_value v207
      have h223 : Mode s0 v208 := (mode_ite (mode_wrBits _ _ _ _ _ h211) h211)
      clear_value v208
      have h224 : Mode s0 v210 := (mode_setLd _ h223)
      clear_value v210
      exact (mode_ite (mode_ite (mode_unconfigure _ (mode_failLoad _ _ h0)) (mode_stopPartition _ _ _ (mode_resumeParts _ (mode_failLoad _ _ h0)))) (mode_setLdState _ _ (mode_setLdCode _ _ h224))))))

/-! ### Machine/Events.lean -/

theorem mode_setActive {s0 : State} (s : State) (a1 : Nat) (a2 : Bool)  (h0 : Mode s0 s) : Mode s0 (setActive s a1 a2) := by
  unfold setActive
  exact (mode_wrBits _ _ _ _ _ h0)

theorem mode_setPendBit {s0 : State} (s : State) (a1 : Nat) (a2 : Bool)  (h0 : Mode s0 s) : Mode s0 (setPendBit s a1 a2) := by
  unfold setPendBit
  exact (mode_wrBits _ _ _ _ _ h0)

theorem mode_setSlot {s0 : State} (s : State) (a1 : Nat) (a2 : Bool) (a3 : Option Nat)  (h0 : Mode s0 s) : Mode s0 (setSlot s a1 a2 a3) := by
  unfold setSlot
  exact (mode_wr32 _ _ _ h0)

theorem mode_setCpu {s0 : State} (s : State) (a1 : Nat) (a2 : Cpu)  (h0 : Mode s0 s) : Mode s0 (setCpu s a1 a2) := by
  unfold setCpu
  exact (mode_setMgt _ h0)

theorem mode_setWfi {s0 : State} (s : State) (a1 : Nat) (a2 : Bool)  (h0 : Mode s0 s) : Mode s0 (setWfi s a1 a2) := by
  unfold setWfi
  exact (mode_wrBits _ _ _ _ _ (mode_wrBits _ _ _ _ _ h0))

theorem mode_fastTrap {s0 : State} (s : State) (a1 : Nat)  (h0 : Mode s0 s) : Mode s0 (fastTrap s a1) := by
  unfold fastTrap
  exact (mode_ite h0 (by
      extract_lets v2 v3
      have h6 : Mode s0 v3 := (mode_setCpu _ _ _ h0)
      clear_value v3
      exact (mode_setWfi _ _ _ (mode_wrBits _ _ _ _ _ h6))))

theorem mode_withhold {s0 : State} (s : State) (a1 : Nat)  (h0 : Mode s0 s) : Mode s0 (withhold s a1) := by
  unfold withhold
  exact (mode_ite h0 (by
      extract_lets v4 v5
      have h7 : Mode s0 v5 := (mode_setMgt _ h0)
      clear_value v5
      exact (mode_satCount64 _ _ _ (mode_count64 _ _ _ (mode_sticky _ _ _ h7)))))

theorem mode_moderate {s0 : State} (s : State) (a1 : Nat) (a2 : Bool)  (h0 : Mode s0 s) : Mode s0 (moderate s a1 a2) := by
  unfold moderate
  exact (by
      extract_lets v0 v1
      exact (mode_ite h0 (mode_ite (mode_wrBits _ _ _ _ _ (mode_setMgt _ h0)) (mode_ite (mode_setMgt _ h0) h0))))

theorem mode_fillClaim {s0 : State} (s : State) (a1 : Nat) (a2 : Bool)  (h0 : Mode s0 s) : Mode s0 (fillClaim s a1 a2) := by
  unfold fillClaim
  with_reducible exact (by
      extract_lets v8 v9 v10 v11
      have h12 : Mode s0 v10 := (mode_ite h0 (mode_withhold _ _ h0))
      clear_value v10
      exact (by
        split
        · rename_i x16 e17
          exact h12
        · rename_i x18 x19 e20
          exact (by
            extract_lets v21 v22
            have h23 : Mode s0 v22 := (mode_setSlot _ _ _ _ h12)
            clear_value v22
            exact (mode_ite h12 (mode_ite (mode_wrBits _ _ _ _ _ h23) (mode_moderate _ _ _ h23))))))

theorem mode_execClaimSlotFill {s0 : State} (s : State)  (h0 : Mode s0 s) : ModeOut s0 (execClaimSlotFill s) := by
  unfold execClaimSlotFill
  exact (mode_out (mode_ite h0 (mode_foldl (fun t13 x14 h15 => (mode_fastTrap _ _ (mode_moderate _ _ _ (mode_fillClaim _ _ _ (mode_fillClaim _ _ _ h15))))) h0)))

theorem mode_execEventArrival {s0 : State} (a0 : Nat) (a1 : Sys2Proof.W32) (s : State)  (h0 : Mode s0 s) : ModeOut s0 (execEventArrival a0 a1 s) := by
  unfold execEventArrival
  exact (mode_out (mode_ite (mode_arrive _ _ _ h0) h0))

theorem mode_execFastMret {s0 : State} (a0 : Nat) (s : State)  (h0 : Mode s0 s) : ModeOut s0 (execFastMret a0 s) := by
  unfold execFastMret
  exact (mode_out (mode_ite h0 (by
      extract_lets v24
      exact (mode_fastTrap _ _ (mode_wrBits _ _ _ _ _ (mode_setCpu _ _ _ h0))))))

theorem mode_execWfi {s0 : State} (a0 : Nat) (s : State)  (h0 : Mode s0 s) : ModeOut s0 (execWfi a0 s) := by
  unfold execWfi
  exact (mode_out (mode_ite h0 (mode_moderate _ _ _ (mode_setWfi _ _ _ h0))))

theorem mode_execCoalTimer {s0 : State} (a0 : Nat) (s : State)  (h0 : Mode s0 s) : ModeOut s0 (execCoalTimer a0 s) := by
  unfold execCoalTimer
  exact (mode_out (mode_ite h0 (mode_wrBits _ _ _ _ _ (mode_setMgt _ h0))))

theorem mode_claim {s0 : State} (s : State) (a1 : Nat) (a2 : Bool)  (h0 : Mode s0 s) : Mode s0 (claim s a1 a2).2 := by
  unfold claim
  exact (by
      split
      · rename_i x29 e30
        exact h0
      · rename_i x35 x36 e37
        exact (by
          extract_lets v38 v39 v40 v41 v42 v43 v44 v45
          have h46 : Mode s0 v39 := (mode_setPendBit _ _ _ (mode_setActive _ _ _ (mode_setSlot _ _ _ _ h0)))
          clear_value v39
          have h48 : Mode s0 v40 := (mode_wrBits _ _ _ _ _ h46)
          clear_value v40
          have h49 : Mode s0 v41 := (mode_wrBits _ _ _ _ _ h48)
          clear_value v41
          have h50 : Mode s0 v43 := (mode_ite h49 (mode_setMgt _ h49))
          clear_value v43
          have h53 : Mode s0 v44 := (mode_ite h50 (mode_wr32 _ _ _ h50))
          clear_value v44
          exact (mode_snd (mode_setCpu _ _ _ h53))))

theorem mode_claimBy {s0 : State} (s : State) (a1 : Nat) (a2 : Bool)  (h0 : Mode s0 s) : Mode s0 (claimBy s a1 a2) := by
  unfold claimBy
  exact (mode_ite h0 (by
      extract_lets v27
      have h28 : Mode s0 v27 := (mode_setWfi _ _ _ h0)
      clear_value v27
      exact (by
        split
        · rename_i x31 x32 t33 e34
          exact (by
            extract_lets v47
            exact (mode_ite (mode_snd_eq e34 (mode_claim _ _ _ h28)) (mode_deviceEvent _ _ _ _ _ (mode_snd_eq e34 (mode_claim _ _ _ h28))))))))

theorem mode_execEvcClaim {s0 : State} (a0 : Nat) (s : State)  (h0 : Mode s0 s) : ModeOut s0 (execEvcClaim a0 s) := by
  unfold execEvcClaim
  exact (mode_out (mode_claimBy _ _ _ h0))

theorem mode_execEvcFclaim {s0 : State} (a0 : Nat) (s : State)  (h0 : Mode s0 s) : ModeOut s0 (execEvcFclaim a0 s) := by
  unfold execEvcFclaim
  exact (mode_out (mode_claimBy _ _ _ h0))

theorem mode_complete {s0 : State} (s : State) (a1 : Nat) (a2 : Nat)  (h0 : Mode s0 s) : Mode s0 (complete s a1 a2) := by
  unfold complete
  exact (by
      extract_lets v25 v26
      exact (mode_ite (mode_setCpu _ _ _ (mode_setActive _ _ _ h0)) (mode_count64 _ _ _ h0)))

theorem mode_execEvcComplete {s0 : State} (a0 : Nat) (a1 : Sys2Proof.W32) (s : State)  (h0 : Mode s0 s) : ModeOut s0 (execEvcComplete a0 a1 s) := by
  unfold execEvcComplete
  exact (mode_out (mode_ite h0 (mode_complete _ _ _ h0)))

theorem mode_pendSet {s0 : State} (s : State) (a1 : Nat) (a2 : Nat)  (h0 : Mode s0 s) : Mode s0 (pendSet s a1 a2) := by
  unfold pendSet
  exact (mode_orWord _ _ _ h0)

theorem mode_pendClr {s0 : State} (s : State) (a1 : Nat) (a2 : Nat)  (h0 : Mode s0 s) : Mode s0 (pendClr s a1 a2) := by
  unfold pendClr
  exact (mode_wr32 _ _ _ h0)

theorem mode_maskSet {s0 : State} (s : State) (a1 : Nat) (a2 : Nat)  (h0 : Mode s0 s) : Mode s0 (maskSet s a1 a2) := by
  unfold maskSet
  exact (mode_orWord _ _ _ h0)

theorem mode_maskClr {s0 : State} (s : State) (a1 : Nat) (a2 : Nat)  (h0 : Mode s0 s) : Mode s0 (maskClr s a1 a2) := by
  unfold maskClr
  exact (mode_wr32 _ _ _ h0)

theorem mode_execEvcPendset {s0 : State} (a0 : Nat) (a1 : Sys2Proof.W32) (s : State)  (h0 : Mode s0 s) : ModeOut s0 (execEvcPendset a0 a1 s) := by
  unfold execEvcPendset
  exact (mode_out (mode_ite h0 (mode_pendSet _ _ _ h0)))

theorem mode_execEvcPendclr {s0 : State} (a0 : Nat) (a1 : Sys2Proof.W32) (s : State)  (h0 : Mode s0 s) : ModeOut s0 (execEvcPendclr a0 a1 s) := by
  unfold execEvcPendclr
  exact (mode_out (mode_ite h0 (mode_pendClr _ _ _ h0)))

theorem mode_execEvcMaskset {s0 : State} (a0 : Nat) (a1 : Sys2Proof.W32) (s : State)  (h0 : Mode s0 s) : ModeOut s0 (execEvcMaskset a0 a1 s) := by
  unfold execEvcMaskset
  exact (mode_out (mode_ite h0 (mode_maskSet _ _ _ h0)))

theorem mode_execEvcMaskclr {s0 : State} (a0 : Nat) (a1 : Sys2Proof.W32) (s : State)  (h0 : Mode s0 s) : ModeOut s0 (execEvcMaskclr a0 a1 s) := by
  unfold execEvcMaskclr
  exact (mode_out (mode_ite h0 (mode_maskClr _ _ _ h0)))

theorem mode_cfgWrite {s0 : State} (s : State) (a1 : Nat) (a2 : Nat)  (h0 : Mode s0 s) : Mode s0 (cfgWrite s a1 a2) := by
  unfold cfgWrite
  exact (by
      extract_lets v51 v52
      exact (mode_ite h0 (mode_ite (mode_wrBits _ _ _ _ _ h0) (mode_wrBits _ _ _ _ _ h0))))

theorem mode_execEvcCfgWrite {s0 : State} (a0 : Nat) (a1 : Sys2Proof.W32) (s : State)  (h0 : Mode s0 s) : ModeOut s0 (execEvcCfgWrite a0 a1 s) := by
  unfold execEvcCfgWrite
  exact (mode_out (mode_ite h0 (mode_cfgWrite _ _ _ h0)))

theorem mode_swSet {s0 : State} (s : State) (a1 : Nat)  (h0 : Mode s0 s) : Mode s0 (swSet s a1) := by
  unfold swSet
  exact (mode_ite h0 (mode_arrive _ _ _ h0))

theorem mode_execEvcSwset {s0 : State} (a0 : Sys2Proof.W32) (s : State)  (h0 : Mode s0 s) : ModeOut s0 (execEvcSwset a0 s) := by
  unfold execEvcSwset
  exact (mode_out (mode_ite (mode_swSet _ _ h0) h0))

theorem mode_budWrite {s0 : State} (s : State) (a1 : Nat) (a2 : Nat)  (h0 : Mode s0 s) : Mode s0 (budWrite s a1 a2) := by
  unfold budWrite
  exact (mode_ite h0 (mode_wr32 _ _ _ h0))

theorem mode_execEvcBudWrite {s0 : State} (a0 : Nat) (a1 : Sys2Proof.W32) (s : State)  (h0 : Mode s0 s) : ModeOut s0 (execEvcBudWrite a0 a1 s) := by
  unfold execEvcBudWrite
  exact (mode_out (mode_ite h0 (mode_budWrite _ _ _ h0)))

/-! ### Machine/Lifetime.lean -/

theorem mode_startFlush {s0 : State} (s : State)  (h0 : Mode s0 s) : Mode s0 (startFlush s) := by
  unfold startFlush
  exact (mode_wrBits _ _ _ _ _ h0)

theorem mode_writeCopy {s0 : State} (s : State)  (h0 : Mode s0 s) : Mode s0 (writeCopy s) := by
  unfold writeCopy
  exact (by
      extract_lets v0 v1 v2 v3
      have h4 : Mode s0 v3 := (mode_setFlash _ h0)
      clear_value v3
      exact (mode_wr64 _ _ _ (mode_wrBits _ _ _ _ _ (mode_wrBits _ _ _ _ _ h4))))

theorem mode_restoreLife {s0 : State} (s : State)  (h0 : Mode s0 s) : Mode s0 (restoreLife s) := by
  unfold restoreLife
  exact (by
      extract_lets v5
      have h6 : Mode s0 v5 := (mode_setCtl _ h0)
      clear_value v5
      exact (by
        split
        · rename_i x7 e8
          exact h6
        · rename_i x9 x10 x11 x12 e13
          exact (mode_wrBits _ _ _ _ _ (mode_foldl (fun t18 x19 h20 => (mode_wr32 _ _ _ h20)) h6))))

theorem mode_execFlushTimer {s0 : State} (s : State)  (h0 : Mode s0 s) : ModeOut s0 (execFlushTimer s) := by
  unfold execFlushTimer
  exact (mode_out (mode_ite (mode_startFlush _ h0) h0))

theorem mode_execFlush {s0 : State} (s : State)  (h0 : Mode s0 s) : ModeOut s0 (execFlush s) := by
  unfold execFlush
  exact (mode_out (mode_ite (mode_startFlush _ h0) h0))

theorem mode_execFlushDone {s0 : State} (s : State)  (h0 : Mode s0 s) : ModeOut s0 (execFlushDone s) := by
  unfold execFlushDone
  exact (mode_out (mode_ite (mode_arrive _ _ _ (mode_writeCopy _ h0)) h0))

theorem mode_execRecordSample {s0 : State} (a0 : Int) (a1 : List Nat) (s : State)  (h0 : Mode s0 s) : ModeOut s0 (execRecordSample a0 a1 s) := by
  unfold execRecordSample
  exact (mode_out (mode_ite h0 (by
      extract_lets v14 v15
      have h16 : Mode s0 v14 := (mode_satCount64 _ _ _ h0)
      clear_value v14
      have h17 : Mode s0 v15 := (mode_satCount64 _ _ _ h16)
      clear_value v15
      exact (mode_foldl (fun t21 x22 h23 => (mode_satCount64 _ _ _ h23)) h17))))

/-! ### Machine/Firmware.lean -/

theorem mode_startCpu {s0 : State} (s : State) (a1 : Nat) (a2 : Nat) (a3 : Nat)  (h0 : Mode s0 s) : Mode s0 (startCpu s a1 a2 a3) := by
  unfold startCpu
  exact (by
      extract_lets v0
      have h1 : Mode s0 v0 := (mode_setCpu _ _ _ h0)
      clear_value v0
      exact (mode_setWfi _ _ _ (mode_wrBits _ _ _ _ _ h1)))

theorem mode_holdCpu {s0 : State} (s : State) (a1 : Nat)  (h0 : Mode s0 s) : Mode s0 (holdCpu s a1) := by
  unfold holdCpu
  exact (mode_wrBits _ _ _ _ _ (mode_setCpu _ _ _ h0))

theorem mode_enterRecovery {s0 : State} (s : State) (a1 : Nat)  (h0 : Mode s0 s) : Mode s0 (enterRecovery s a1) := by
  unfold enterRecovery
  exact (by
      extract_lets v2 v3 v4
      have h5 : Mode s0 v3 := (mode_wrDigest _ _ _ (mode_setMgt _ h0))
      clear_value v3
      have h6 : Mode s0 v4 := (mode_foldl (fun t7 x8 h9 => (mode_holdCpu _ _ h9)) (mode_startCpu _ _ _ _ h5))
      clear_value v4
      exact (mode_wr32 _ _ _ h6))

theorem mode_enterFirmware {s0 : State} (s : State) (a1 : List Sys2Proof.Byte)  (h0 : Mode s0 s) : Mode s0 (enterFirmware s a1) := by
  unfold enterFirmware
  exact (by
      extract_lets v10 v11 v12
      have h13 : Mode s0 v11 := (mode_setMgt _ h0)
      clear_value v11
      have h19 : Mode s0 v12 := (mode_foldl (fun t20 x21 h22 => (mode_wr32 _ _ _ (mode_startCpu _ _ _ _ h22))) h13)
      clear_value v12
      exact (mode_wrDigest _ _ _ (mode_wr32 _ _ _ h19)))

theorem mode_bootRom {s0 : State} (s : State) (a1 : Bool)  (h0 : Mode s0 s) : Mode s0 (bootRom s a1) := by
  unfold bootRom
  exact (by
      extract_lets v14 v15 v16 v17
      have h18 : Mode s0 v15 := (mode_wr64 _ _ _ (mode_setMgt _ h0))
      clear_value v15
      exact (mode_ite (mode_enterRecovery _ _ h18) (mode_ite (mode_enterRecovery _ _ h18) (mode_ite (mode_enterFirmware _ _ h18) (mode_enterRecovery _ _ h18)))))

theorem mode_setFwState {s0 : State} (s : State) (a1 : Nat) (a2 : Nat)  (h0 : Mode s0 s) : Mode s0 (setFwState s a1 a2) := by
  unfold setFwState
  exact (by
      extract_lets v23
      have h24 : Mode s0 v23 := (mode_wr32 _ _ _ h0)
      clear_value v23
      exact (mode_ite h24 (mode_raise _ _ _ h24)))

theorem mode_fwRefuse {s0 : State} (s : State) (a1 : Nat)  (h0 : Mode s0 s) : Mode s0 (fwRefuse s a1) := by
  unfold fwRefuse
  exact (mode_raise _ _ _ (mode_wrBits _ _ _ _ _ h0))

theorem mode_endUpdate {s0 : State} (s : State)  (h0 : Mode s0 s) : Mode s0 (endUpdate s) := by
  unfold endUpdate
  exact (by
      extract_lets v25 v26 v27
      have h28 : Mode s0 v26 := (mode_wrBits _ _ _ _ _ h0)
      clear_value v26
      exact (mode_ite h0 (mode_ite (mode_setFlash _ h28) h28)))

theorem mode_endLoad {s0 : State} (s : State)  (h0 : Mode s0 s) : Mode s0 (endLoad s) := by
  unfold endLoad
  exact (by
      extract_lets v29
      exact (mode_ite h0 (by
        split
        · rename_i x41 x42 t43 e44
          exact (by
            extract_lets v45 v46
            exact (mode_ite (mode_unconfigure _ (mode_failLoad _ _ (mode_snd_eq e44 (mode_fresh h0)))) (mode_ite (mode_stopPartition _ _ _ (mode_resumeParts _ (mode_failLoad _ _ (mode_snd_eq e44 (mode_fresh h0))))) (mode_ite (mode_resumeParts _ (mode_failLoad _ _ (mode_snd_eq e44 (mode_fresh h0)))) (mode_failLoad _ _ (mode_snd_eq e44 (mode_fresh h0))))))))))

theorem mode_restartEvents {s0 : State} (s : State)  (h0 : Mode s0 s) : Mode s0 (restartEvents s) := by
  unfold restartEvents
  exact (by
      extract_lets v30 v31 v32
      have h33 : Mode s0 v30 := (mode_foldl (fun t34 x35 h36 => (mode_wr32 _ _ _ h36)) h0)
      clear_value v30
      have h37 : Mode s0 v31 := (mode_foldl (fun t38 x39 h40 => (mode_wr32 _ _ _ (mode_setSlot _ _ _ _ (mode_setSlot _ _ _ _ h40)))) h33)
      clear_value v31
      exact (mode_setMgt _ h37))

theorem mode_managementRestart {s0 : State} (s : State) (a1 : Nat)  (h0 : Mode s0 s) : Mode s0 (managementRestart s a1) := by
  unfold managementRestart
  exact (by
      extract_lets v47 v48 v49 v50 v51 v52 v53 v54 v55 v56 v57 v58 v59
      have h60 : Mode s0 v47 := (mode_ite (mode_arrive _ _ _ (mode_writeCopy _ h0)) h0)
      clear_value v47
      have h67 : Mode s0 v48 := (mode_foldl (fun t68 x69 h70 => (mode_closeSession _ _ h70)) h60)
      clear_value v48
      have h73 : Mode s0 v49 := (mode_endLoad _ (mode_endUpdate _ h67))
      clear_value v49
      have h75 : Mode s0 v50 := (mode_restartEvents _ h73)
      clear_value v50
      have h76 : Mode s0 v55 := (mode_ite (mode_setMgt _ h75) h75)
      clear_value v55
      have h77 : Mode s0 v56 := (mode_satCount64 _ _ _ h76)
      clear_value v56
      have h78 : Mode s0 v57 := (mode_wr32 _ _ _ h77)
      clear_value v57
      have h79 : Mode s0 v58 := (mode_foldl (fun t80 x81 h82 => (mode_wr32 _ _ _ h82)) h78)
      clear_value v58
      have h83 : Mode s0 v59 := (mode_bootRom _ _ h79)
      clear_value v59
      exact (mode_arrive _ _ _ h83))

theorem mode_execMgtRestart {s0 : State} (s : State)  (h0 : Mode s0 s) : ModeOut s0 (execMgtRestart s) := by
  unfold execMgtRestart
  exact (mode_out (mode_ite (mode_managementRestart _ _ h0) h0))

theorem mode_execControlMemoryUe {s0 : State} (s : State)  (h0 : Mode s0 s) : ModeOut s0 (execControlMemoryUe s) := by
  unfold execControlMemoryUe
  exact (mode_out (mode_ite (mode_managementRestart _ _ (mode_sticky _ _ _ h0)) h0))

theorem mode_stageFw {s0 : State} (s : State) (a1 : Nat) (a2 : List Sys2Proof.Byte)  (h0 : Mode s0 s) : Mode s0 (stageFw s a1 a2).2 := by
  unfold stageFw
  exact (by
      extract_lets v61 v62 v63 v64
      have h65 : Mode s0 v64 := (mode_wr64 _ _ _ (mode_setMgt _ h0))
      clear_value v64
      exact (mode_pr_ite (f := Prod.snd) h0 (mode_pr_ite (f := Prod.snd) h0 (mode_pr_ite (f := Prod.snd) h0 (mode_snd (mode_ite (mode_setFwState _ _ _ h65) h65))))))

theorem mode_fwVerify {s0 : State} (s : State)  (h0 : Mode s0 s) : Mode s0 (fwVerify s) := by
  unfold fwVerify
  exact (by
      extract_lets v66
      exact (mode_ite (mode_fwRefuse _ _ h0) (mode_setFwState _ _ _ h0)))

theorem mode_fwCommit {s0 : State} (s : State)  (h0 : Mode s0 s) : Mode s0 (fwCommit s) := by
  unfold fwCommit
  exact (by
      extract_lets v71 v72
      exact (mode_ite (mode_fwRefuse _ _ h0) (mode_ite (mode_fwRefuse _ _ h0) (mode_setFlash _ (mode_setFwState _ _ _ h0)))))

theorem mode_execFwVerify {s0 : State} (s : State)  (h0 : Mode s0 s) : ModeOut s0 (execFwVerify s) := by
  unfold execFwVerify
  exact (mode_out (mode_ite (mode_fwVerify _ h0) h0))

theorem mode_execFwVerifyEnd {s0 : State} (s : State)  (h0 : Mode s0 s) : ModeOut s0 (execFwVerifyEnd s) := by
  unfold execFwVerifyEnd
  exact (mode_out (mode_ite h0 (by
      extract_lets v74
      exact (mode_ite (mode_setFwState _ _ _ h0) (mode_wrDigest _ _ _ (mode_setFwState _ _ _ h0))))))

theorem mode_execFwCommit {s0 : State} (s : State)  (h0 : Mode s0 s) : ModeOut s0 (execFwCommit s) := by
  unfold execFwCommit
  exact (mode_out (mode_ite (mode_fwCommit _ h0) h0))

theorem mode_execFwProgramEnd {s0 : State} (a0 : Bool) (s : State)  (h0 : Mode s0 s) : ModeOut s0 (execFwProgramEnd a0 s) := by
  unfold execFwProgramEnd
  exact (mode_out (mode_ite h0 (mode_ite (mode_setFlash _ (mode_setFwState _ _ _ h0)) (mode_setFwState _ _ _ h0))))

/-! ### Machine/Power.lean -/

theorem mode_of_on {s0 s : State} (h0 : Mode s0 s) (h : mgmtOn s = true) : mgmtOn s0 = true := by
  rcases h0 with e | e
  · unfold mgmtOn at *; rw [e] at h; exact h
  · exact e

theorem mode_resetAll {s0 : State} (s : State) (h : mgmtOn s0 = true) : Mode s0 (resetAll s) := .inr h

theorem mode_enterReset {s0 : State} (s : State) (a1 : Nat) (h : mgmtOn s0 = true) : Mode s0 (enterReset s a1) := .inr h

theorem mode_resetTime {s0 : State} (s : State) (a1 : Nat)  (h0 : Mode s0 s) : Mode s0 (resetTime s a1) := by
  unfold resetTime
  exact (mode_ite h0 (by
      extract_lets v6 v7
      exact (mode_count64 _ _ _ (mode_setPow h0 rfl))))

theorem mode_trainLinks {s0 : State} (s : State)  (h0 : Mode s0 s) : Mode s0 (trainLinks s) := by
  unfold trainLinks
  exact (mode_ite (mode_foldl (fun t9 x10 h11 => (mode_ite (mode_startTraining _ _ h11) h11)) h0) h0)

theorem mode_bootRecords {s0 : State} (s : State) (a1 : Bool)  (h0 : Mode s0 s) : Mode s0 (bootRecords s a1) := by
  unfold bootRecords
  exact (by
      extract_lets v0 v1 v2 v3 v4
      have h5 : Mode s0 v0 := (mode_restoreLife _ h0)
      clear_value v0
      have h8 : Mode s0 v2 := (mode_satCount64 _ _ _ h5)
      clear_value v2
      have h12 : Mode s0 v3 := (mode_wr64 _ _ _ h8)
      clear_value v3
      have h13 : Mode s0 v4 := (mode_ite (mode_satCount64 _ _ _ h12) h12)
      clear_value v4
      exact (mode_ite h12 (mode_satCount64 _ _ _ h13)))

theorem mode_execRstNAssert {s0 : State} (a0 : Nat) (s : State) (h0 : Mode s0 s) : ModeOut s0 (execRstNAssert a0 s) := by
  by_cases hon : mgmtOn s = true
  · exact fun t _ => .inr (mode_of_on h0 hon)
  · unfold execRstNAssert
    refine mode_out ?_
    split
    · exact h0
    · rename_i h
      extract_lets
      rw [if_pos (by unfold mgmtOn at hon; cases e : s.pow.st <;> simp_all)]
      exact mode_resetTime _ _ (mode_setPow h0 rfl)

theorem mode_pwrCode {s0 : State} (s : State) (a1 : Nat)  (h0 : Mode s0 s) : Mode s0 (pwrCode s a1) := by
  unfold pwrCode
  exact (by
      extract_lets v14
      have h15 : Mode s0 v14 := (mode_wrBits _ _ _ _ _ h0)
      clear_value v14
      exact (mode_ite h15 (mode_raise _ _ _ h15)))

theorem mode_standby {s0 : State} (s : State) (a1 : Nat) (h0 : Mode s0 s) : Mode s0 (standby s a1) := by
  unfold standby
  split
  · exact h0
  · rename_i h
    refine .inr (mode_of_on h0 ?_)
    unfold mgmtOn
    cases e : s.pow.st <;> simp_all

theorem mode_execStandby {s0 : State} (a0 : Nat) (s : State)  (h0 : Mode s0 s) : ModeOut s0 (execStandby a0 s) := by
  unfold execStandby
  exact (mode_out (mode_standby _ _ h0))

theorem mode_gateBlocks {s0 : State} (s : State)  (h0 : Mode s0 s) : Mode s0 (gateBlocks s) := by
  unfold gateBlocks
  exact (by
      extract_lets v16 v17 v18 v19 v20 v21
      have h22 : Mode s0 v17 := (mode_setMem _ h0)
      clear_value v17
      have h23 : Mode s0 v19 := (mode_setFab _ h22)
      clear_value v19
      have h24 : Mode s0 v21 := (mode_setEth _ h23)
      clear_value v21
      exact (mode_showLinks _ h24))

theorem mode_execStandbyDrainEnd {s0 : State} (s : State) (h0 : Mode s0 s) : ModeOut s0 (execStandbyDrainEnd s) := by
  unfold execStandbyDrainEnd
  refine mode_out ?_
  split
  · exact h0
  · rename_i h
    refine .inr (mode_of_on h0 ?_)
    have : s.pow.st = .entering := by
      cases e : s.pow.st <;> simp_all
    unfold mgmtOn; rw [this]; rfl

theorem mode_activate {s0 : State} (s : State) (h0 : Mode s0 s) : Mode s0 (activate s) := by
  unfold activate
  split
  · exact h0
  · rename_i h
    refine .inr (mode_of_on h0 ?_)
    unfold mgmtOn
    cases e : s.pow.st <;> simp_all

theorem mode_execActive {s0 : State} (s : State)  (h0 : Mode s0 s) : ModeOut s0 (execActive s) := by
  unfold execActive
  exact (mode_out (mode_activate _ h0))

theorem mode_execActiveComplete {s0 : State} (s : State) (h0 : Mode s0 s) : ModeOut s0 (execActiveComplete s) := by
  unfold execActiveComplete
  refine mode_out ?_
  split
  · rename_i h
    refine .inr (mode_of_on h0 ?_)
    unfold mgmtOn
    have : s.pow.st = .leaving := by
      cases e : s.pow.st <;> simp_all
    rw [this]; rfl
  · exact h0

theorem mode_clkPwr {s0 : State} (s : State) (a1 : Nat)  (h0 : Mode s0 s) : Mode s0 (clkPwr s a1) := by
  unfold clkPwr
  exact (by
      split
      · rename_i x25 e26
        exact (mode_standby _ _ h0)
      · rename_i x27 e28
        exact (mode_activate _ h0)
      · rename_i x29 e30 e31
        exact h0)

theorem mode_fwActivate {s0 : State} (s : State) (h0 : Mode s0 s) : Mode s0 (fwActivate s) := by
  by_cases h : mgmtOn s = true
  · exact .inr (mode_of_on h0 h)
  · have : fwActivate s = s := by unfold fwActivate; simp [h]
    rw [this]; exact h0

theorem mode_execFwActivate {s0 : State} (s : State)  (h0 : Mode s0 s) : ModeOut s0 (execFwActivate s) := by
  unfold execFwActivate
  exact (mode_out (mode_fwActivate _ h0))

theorem mode_fwCommand {s0 : State} (s : State) (a1 : Nat)  (h0 : Mode s0 s) : Mode s0 (fwCommand s a1) := by
  unfold fwCommand
  exact (by
      split
      · rename_i x34 e35
        exact (mode_fwVerify _ h0)
      · rename_i x36 e37
        exact (mode_fwCommit _ h0)
      · rename_i x38 e39
        exact (mode_fwActivate _ h0)
      · rename_i x40 e41 e42 e43
        exact h0)

theorem mode_thermalLimit {s0 : State} (s : State) (a1 : List Int) (a2 : Nat)  (h0 : Mode s0 s) : Mode s0 (thermalLimit s a1 a2) := by
  unfold thermalLimit
  exact (by
      extract_lets v32 v33
      exact (mode_ite (mode_ite (mode_setPow h0 rfl) h0) (mode_ite (mode_arrive _ _ _ (mode_setPow h0 rfl)) h0)))

theorem mode_execThermalSample {s0 : State} (a0 : List Int) (s : State) (h0 : Mode s0 s) : ModeOut s0 (execThermalSample a0 s) := by
  unfold execThermalSample
  refine mode_out ?_
  have h1 : Mode s0 (s.setPow { s.pow with temps := a0 }) := mode_setPow h0 rfl
  extract_lets
  split
  · exact h1
  · rename_i h
    exact .inr (mode_of_on h1 (by simpa using h))

theorem mode_execThrottleInterval {s0 : State} (a0 : Nat) (s : State)  (h0 : Mode s0 s) : ModeOut s0 (execThrottleInterval a0 s) := by
  unfold execThrottleInterval
  exact (mode_out (mode_ite h0 (by
      extract_lets v44 v45 v46 v47 v48
      have h49 : Mode s0 v46 := (mode_wr32 _ _ _ h0)
      clear_value v46
      have h50 : Mode s0 v47 := (mode_foldl (fun t51 x52 h53 => (by
        extract_lets v54 v55
        exact (mode_wrBits _ _ _ _ _ h53))) h49)
      clear_value v47
      exact (mode_setPow h50 rfl))))

theorem mode_execPllLockLoss {s0 : State} (s : State) (h0 : Mode s0 s) : ModeOut s0 (execPllLockLoss s) := by
  unfold execPllLockLoss
  refine mode_out ?_
  split
  · exact h0
  · rename_i h
    exact .inr (mode_of_on h0 (by simpa using h))

/-! ### Machine/Processors.lean -/

theorem mode_resetCpu {s0 : State} (s : State) (a1 : Nat) (a2 : Nat)  (h0 : Mode s0 s) : Mode s0 (resetCpu s a1 a2) := by
  unfold resetCpu
  exact (by
      extract_lets v0 v1 v2 v3 v4
      have h5 : Mode s0 v0 := (mode_foldl (fun t12 x13 h14 => (mode_setActive _ _ _ h14)) h0)
      clear_value v0
      have h15 : Mode s0 v1 := (mode_wr32 _ _ _ (mode_setSlot _ _ _ _ (mode_setSlot _ _ _ _ h5)))
      clear_value v1
      have h16 : Mode s0 v3 := (mode_setMgt _ h15)
      clear_value v3
      have h17 : Mode s0 v4 := (mode_wr32 _ _ _ h16)
      clear_value v4
      exact (mode_startCpu _ _ _ _ h17))

theorem mode_stageTwo {s0 : State} (s : State) (a1 : Nat)  (h0 : Mode s0 s) : Mode s0 (stageTwo s a1) := by
  unfold stageTwo
  exact (by
      extract_lets v6 v7 v8 v9 v10
      have h11 : Mode s0 v9 := (mode_resetCpu _ _ _ (mode_setMgt _ h0))
      clear_value v9
      exact (mode_ite (mode_managementRestart _ _ (mode_setMgt _ h11)) h11))

theorem mode_kick {s0 : State} (s : State) (a1 : Nat)  (h0 : Mode s0 s) : Mode s0 (kick s a1) := by
  unfold kick
  exact (mode_setCpu _ _ _ h0)

theorem mode_execKick {s0 : State} (a0 : Nat) (s : State)  (h0 : Mode s0 s) : ModeOut s0 (execKick a0 s) := by
  unfold execKick
  exact (mode_out (mode_ite (mode_kick _ _ h0) h0))

theorem mode_execWatchdogStage1 {s0 : State} (a0 : Nat) (s : State)  (h0 : Mode s0 s) : ModeOut s0 (execWatchdogStage1 a0 s) := by
  unfold execWatchdogStage1
  exact (mode_out (mode_ite (mode_arrive _ _ _ (mode_setCpu _ _ _ h0)) h0))

theorem mode_execWatchdogStage2 {s0 : State} (a0 : Nat) (s : State)  (h0 : Mode s0 s) : ModeOut s0 (execWatchdogStage2 a0 s) := by
  unfold execWatchdogStage2
  exact (mode_out (mode_ite (mode_stageTwo _ _ h0) h0))

theorem mode_execControlSpaceTimeout {s0 : State} (a0 : Nat) (s : State)  (h0 : Mode s0 s) : ModeOut s0 (execControlSpaceTimeout a0 s) := by
  unfold execControlSpaceTimeout
  exact (mode_out (mode_ite (mode_count64 _ _ _ h0) h0))

theorem mode_execRegisterFileParity {s0 : State} (a0 : Nat) (s : State)  (h0 : Mode s0 s) : ModeOut s0 (execRegisterFileParity a0 s) := by
  unfold execRegisterFileParity
  exact (mode_out (mode_ite (mode_resetCpu _ _ _ h0) h0))

theorem mode_execFastContextException {s0 : State} (a0 : Nat) (s : State)  (h0 : Mode s0 s) : ModeOut s0 (execFastContextException a0 s) := by
  unfold execFastContextException
  exact (mode_out (mode_ite (mode_resetCpu _ _ _ h0) h0))

end Sys2Proof.Machine
end

