-- ==== Sys2Proof/Laws/ModeRest.lean ====
section
/-! SUPPORT. `Mode` through copies, the control space, the tick, entropy coding, the HCP, motion, rate control and the end of a task: one lemma per function. -/

namespace Sys2Proof.Machine

/-! ### Machine/Dma.lean -/

theorem mode_moved {s0 s : State} {m : Mover} {e : Option Abort} {r : Option Nat} (h : Mode s0 s) : Mode s0 (Moved.mk s m e r).s := h

theorem mode_cbFault {s0 : State} (s : State) (a1 : Nat) (a2 : Abort)  (h0 : Mode s0 s) : Mode s0 (cbFault s a1 a2).1 := by
  unfold cbFault
  exact (by
      split
      · rename_i x4 x5 e6
        exact (mode_fst (mode_emptyBank _ _ _ h0))
      · rename_i x7 e8
        exact h0)

theorem mode_dmaFault {s0 : State} (s : State) (a1 : Nat) (a2 : Nat) (a3 : Nat) (a4 : Abort)  (h0 : Mode s0 s) : Mode s0 (dmaFault s a1 a2 a3 a4) := by
  unfold dmaFault
  exact (by
      extract_lets v0 v1 v2 v3
      exact (by
        split
        · rename_i x9 t10 x11 e12
          exact (by
            extract_lets v13 v14 v15 v16
            have h17 : Mode s0 v13 := (mode_wr64 _ _ _ (mode_fst_eq e12 (mode_cbFault _ _ _ h0)))
            clear_value v13
            have h20 : Mode s0 v14 := (mode_wr64 _ _ _ h17)
            clear_value v14
            have h22 : Mode s0 v15 := (mode_ite (mode_hbmError _ _ h20) (mode_ite (mode_arrive _ _ _ (mode_raise _ _ _ (mode_count64 _ _ _ h20))) (mode_raise _ _ _ (mode_ite (mode_count64 _ _ _ h20) h20))))
            clear_value v15
            have h68 : Mode s0 v16 := (mode_arrive _ _ _ h22)
            clear_value v16
            exact (mode_unitAbort _ _ _ _ h68))))

theorem mode_writePlaces {s0 : State} (s : State) (a1 : Nat) (a2 : Bool) (a3 : List Place) (a4 : List Sys2Proof.Byte)  (h0 : Mode s0 s) : ModeE (fun x => x) s0 (writePlaces s a1 a2 a3 a4) := by
  unfold writePlaces
  exact (by
      split
      · rename_i x33 x34 x35
        exact (mode_storeWrite _ _ _ _ h0)
      · rename_i x47 x48 x49 x50
        exact (mode_hbmWrite _ _ _ _ _ h0)
      · rename_i x52 e53 e54
        exact (modeE_ok h0))

theorem mode_raiseExtent {s0 : State} (s : State) (a1 : Nat) (a2 : Nat) (a3 : Run) (a4 : List Place)  (h0 : Mode s0 s) : Mode s0 (raiseExtent s a1 a2 a3 a4) := by
  unfold raiseExtent
  exact (mode_ite (by
      extract_lets v18 v19
      exact (mode_updTask _ _ _ _ h0)) h0)

theorem mode_readReq {s0 : State} (a0 : Run) (a1 : Nat) (a2 : Mover → List Sys2Proof.Byte → Mover) (a3 : Moved)  (h0 : Mode s0 a3.s) : Mode s0 (readReq a0 a1 a2 a3).s := by
  unfold readReq
  exact (by
      extract_lets v21
      exact (by
        split
        · rename_i x23 x24 e25
          exact h0
        · rename_i x26 x27 e28
          exact (by
            split
            · rename_i x29 x30 x31 e32
              exact h0
            · rename_i x36 x37 x38 e39 e40
              exact h0
            · rename_i x41 x42 x43 e44 e45
              exact (by
                extract_lets v46
                have h51 : Mode s0 v46 := (by
                  unfold v46
                  split
                  · rename_i x55 x56 e57
                    exact (mode_touchTlb _ _ _ h0)
                  · rename_i x58 e59
                    exact h0)
                clear_value v46
                exact (by
                  split
                  · rename_i x61 t62 x63 e64
                    exact (mode_moved (mode_count64 _ _ _ (mode_fst_eq e64 (mode_chargeRead _ _ _ _ _ h51)))))))))

theorem mode_writeReq {s0 : State} (a0 : Nat) (a1 : Run) (a2 : Nat) (a3 : Moved)  (h0 : Mode s0 a3.s) : Mode s0 (writeReq a0 a1 a2 a3).s := by
  unfold writeReq
  exact (by
      extract_lets v60
      exact (by
        split
        · rename_i x65 x66 e67
          exact h0
        · rename_i x69 x70 e71
          exact (by
            extract_lets v72 v73
            exact (by
              split
              · rename_i x87 x88 x89 e90
                exact h0
              · rename_i x91 x92 x93 e94 e95
                exact h0
              · rename_i x96 x97 t98 e99 e100
                exact (by
                  extract_lets v101
                  have h102 : Mode s0 v101 := (by
                    unfold v101
                    split
                    · rename_i x104 x105 e106
                      exact (mode_touchTlb _ _ _ (modeE_get (f := fun x => x) e100 (mode_writePlaces _ _ _ _ _ h0)))
                    · rename_i x107 e108
                      exact (modeE_get (f := fun x => x) e100 (mode_writePlaces _ _ _ _ _ h0)))
                  clear_value v101
                  exact (by
                    split
                    · rename_i x113 t114 x115 e116
                      exact (mode_moved (mode_count64 _ _ _ (mode_fst_eq e116 (mode_chargeWrite _ _ _ _ _ _ (mode_raiseExtent _ _ _ _ _ h102)))))))))))

theorem mode_packNext {s0 : State} (a0 : Run) (a1 : Moved)  (h0 : Mode s0 a1.s) : Mode s0 (packNext a0 a1).s := by
  unfold packNext
  exact (by
      extract_lets v74 v75 v76
      exact (by
        split
        · rename_i x80 x81 x82 e83
          exact (by
            extract_lets v84 v85
            have h86 : Mode s0 v84 := (mode_count64 _ _ _ (mode_count64 _ _ _ (mode_count64 _ _ _ h0)))
            clear_value v84
            have h103 : Mode s0 v85 := (mode_ite (mode_count64 _ _ _ h86) (mode_ite (mode_count64 _ _ _ h86) h86))
            clear_value v85
            exact h103)))

theorem mode_unpackNext {s0 : State} (a0 : Run) (a1 : Moved)  (h0 : Mode s0 a1.s) : Mode s0 (unpackNext a0 a1).s := by
  unfold unpackNext
  exact (by
      extract_lets v77 v78 v79
      exact (by
        split
        · rename_i x120 x122 e125
          exact h0
        · rename_i x126 e127
          exact (by
            split
            · rename_i x134 e135
              exact h0
            · rename_i x136 x137 e138
              exact (mode_moved (mode_count64 _ _ _ (mode_count64 _ _ _ h0))))
        · rename_i x139 x140 e141 e142
          exact (mode_readReq _ _ _ _ h0)))

theorem mode_closeRun {s0 : State} (a0 : Run) (a1 : Moved)  (h0 : Mode s0 a1.s) : Mode s0 (closeRun a0 a1).s := by
  unfold closeRun
  exact (mode_pr_ite (f := Moved.s) h0 (by
      extract_lets v109 v110 v111
      have h112 : Mode s0 v109 := (mode_endColls _ _ _ h0)
      clear_value v109
      exact (mode_pr_ite (f := Moved.s) h112 (by
        split
        · rename_i x117 x118 e119
          exact h112
        · rename_i x121 t123 e124
          exact (mode_moved (modeE_get (f := fun x => x) e124 (mode_storeWrite _ _ _ _ h112)))))))

theorem mode_moveNext {s0 : State} (a0 : Nat) (a1 : Run) (a2 : Nat) (a3 : Moved)  (h0 : Mode s0 a3.s) : Mode s0 (moveNext a0 a1 a2 a3).s := by
  unfold moveNext
  exact (by
      extract_lets v128 v129 v130
      exact (mode_pr_ite (f := Moved.s) (mode_writeReq _ _ _ _ h0) (mode_pr_ite (f := Moved.s) (mode_unpackNext _ _ h0) (mode_pr_ite (f := Moved.s) (mode_packNext _ _ h0) (mode_pr_ite (f := Moved.s) h0 (mode_readReq _ _ _ _ h0))))))

theorem mode_moveTo {s0 : State} (a0 : Nat) (a1 : Run) (a2 : Nat) (a3 : Nat) (a4 : Moved)  (h0 : Mode s0 a4.s) : Mode s0 (moveTo a0 a1 a2 a3 a4).s := by
  induction a3 generalizing a0 a1 a2 a4 with
  | zero =>
    unfold moveTo
    exact h0
  | succ k ih =>
    unfold moveTo
    exact (mode_pr_ite (f := Moved.s) h0 (mode_pr_ite (f := Moved.s) (mode_pr_ite (f := Moved.s) (mode_closeRun _ _ h0) h0) (ih _ _ _ _ (mode_moveNext _ _ _ _ h0))))

theorem mode_move {s0 : State} (s : State) (a1 : Nat) (a2 : Run) (a3 : Nat) (a4 : Mover)  (h0 : Mode s0 s) : Mode s0 (move s a1 a2 a3 a4).s := by
  unfold move
  exact (mode_moveTo _ _ _ _ _ h0)

theorem mode_creditStep {s0 : State} (s : State) (a1 : Nat) (a2 : Run) (a3 : Nat) (a4 : Nat) (a5 : Mover)  (h0 : Mode s0 s) : ModeOpt Moved.s s0 (creditStep s a1 a2 a3 a4 a5) := by
  unfold creditStep
  exact (by
      extract_lets v131 v132
      have h133 : Mode s0 v132 := (mode_ite h0 (mode_setSem _ _ _ _ h0))
      clear_value v132
      exact (modeOpt_ite (modeOpt_none) (modeOpt_some (mode_move _ _ _ _ _ h133))))

theorem mode_setDmaActive {s0 : State} (s : State) (a1 : Nat) (a2 : Nat) (a3 : Bool)  (h0 : Mode s0 s) : Mode s0 (setDmaActive s a1 a2 a3) := by
  unfold setDmaActive
  exact (mode_wrBits _ _ _ _ _ h0)

theorem mode_dmaIssue {s0 : State} (a0 : Nat) (a1 : Nat) (a2 : Sys2Proof.W128) (a3 : Nat) (a4 : State → State) (s : State) (f4 : ∀ t, Mode s0 t → Mode s0 (a4 t)) (h0 : Mode s0 s) : ModeOut s0 (dmaIssue a0 a1 a2 a3 a4 s) := by
  unfold dmaIssue
  exact (mode_out (mode_ite h0 (mode_issue _ _ _ _ _ _ _ _ _ _ (fun t143 h144 => (f4 _ h144)) h0)))

theorem mode_setTransfer {s0 : State} (s : State) (a1 : Nat) (a2 : Nat) (a3 : Transfer)  (h0 : Mode s0 s) : Mode s0 (setTransfer s a1 a2 a3) := by
  unfold setTransfer
  exact (mode_setCtx _ _ _ _ h0)

theorem mode_afterMove {s0 : State} (a0 : Nat) (a1 : Nat) (a2 : Nat) (a3 : Task) (a4 : Moved) (a5 : State → Mover → State) (a6 : State → Mover → State) (f5 : ∀ t m, Mode s0 t → Mode s0 (a5 t m)) (f6 : ∀ t m, Mode s0 t → Mode s0 (a6 t m)) (h0 : Mode s0 a4.s) : Mode s0 (afterMove a0 a1 a2 a3 a4 a5 a6) := by
  unfold afterMove
  exact (by
      split
      · rename_i x145 x146 x147 e148
        exact (mode_refused _ _ _ (f5 _ _ h0))
      · rename_i x149 x150 x151 e152 e153
        exact (mode_dmaFault _ _ _ _ _ (f5 _ _ h0))
      · rename_i x154 x155 e156 e157
        exact (f6 _ _ h0))

theorem mode_pumpTransfer {s0 : State} (s : State) (a1 : Nat) (a2 : Nat) (a3 : Transfer) (a4 : Task) (a5 : State → Mover → State) (f5 : ∀ t m, Mode s0 t → Mode s0 (a5 t m)) (h0 : Mode s0 s) : Mode s0 (pumpTransfer s a1 a2 a3 a4 a5) := by
  unfold pumpTransfer
  exact (mode_afterMove _ _ _ _ _ _ _ (fun t167 x168 h169 => (mode_setTransfer _ _ _ _ h169)) (fun t170 x171 h172 => (f5 _ _ h172)) (mode_move _ _ _ _ _ h0))

theorem mode_openDesc {s0 : State} (s : State) (a1 : Nat) (a2 : Nat) (a3 : Sys2Proof.W128)  (h0 : Mode s0 s) : Mode s0 (openDesc s a1 a2 a3).1 := by
  unfold openDesc
  exact (by
      split
      · rename_i x158 x159 e160
        exact (mode_fst (mode_dmaFault _ _ _ _ _ h0))
      · rename_i x164 x165 e166
        exact (by
          split
          · rename_i x173 t174 e175
            exact (mode_fst (mode_fst_eq e175 (mode_pr_ite (f := Prod.fst) (mode_readInput _ _ _ h0) h0)))
          · rename_i x178 t179 e180
            exact (mode_fst (mode_fst_eq e180 (mode_pr_ite (f := Prod.fst) (mode_readInput _ _ _ h0) h0)))))

theorem mode_setPstream {s0 : State} (s : State) (a1 : Nat) (a2 : Nat) (a3 : PStream)  (h0 : Mode s0 s) : Mode s0 (setPstream s a1 a2 a3) := by
  unfold setPstream
  exact (mode_setCore _ _ _ h0)

theorem mode_transferRun {s0 : State} (a0 : Nat) (a1 : Nat) (a2 : Sys2Proof.W128) (s : State)  (h0 : Mode s0 s) : Mode s0 (transferRun a0 a1 a2 s) := by
  unfold transferRun
  exact (by
      split
      · rename_i x161 t162 e163
        exact (mode_fst_eq e163 (mode_openDesc _ _ _ _ h0))
      · rename_i x202 t203 x204 x205 e206
        exact (by
          extract_lets v210 v211
          have h212 : Mode s0 v211 := (mode_setDmaActive _ _ _ _ (mode_setTransfer _ _ _ _ (mode_fst_eq e206 (mode_openDesc _ _ _ _ h0))))
          clear_value v211
          exact (mode_ite h212 (mode_pumpTransfer _ _ _ _ _ _ (fun t216 x217 h218 => (mode_setTransfer _ _ _ _ h218)) h212))))

theorem mode_execDmaTransfer {s0 : State} (a0 : Nat) (a1 : Nat) (a2 : Sys2Proof.W128) (s : State)  (h0 : Mode s0 s) : ModeOut s0 (execDmaTransfer a0 a1 a2 s) := by
  unfold execDmaTransfer
  exact (mode_dmaIssue _ _ _ _ _ _ (fun t176 h177 => (mode_transferRun _ _ _ _ h177)) h0)

theorem mode_execTransferComplete {s0 : State} (a0 : Nat) (a1 : Nat) (s : State)  (h0 : Mode s0 s) : ModeOut s0 (execTransferComplete a0 a1 s) := by
  unfold execTransferComplete
  exact (mode_out (by
      split
      · rename_i x221 x222 x223 x224 e225 e226
        exact (mode_ite h0 (by
          extract_lets v227
          exact (mode_ite (mode_semSignal _ _ _ _ _ (mode_setDmaActive _ _ _ _ (mode_setCtx _ _ _ _ h0))) (mode_ite h0 (mode_pumpTransfer _ _ _ _ _ _ (fun t250 x251 h252 => (mode_semSignal _ _ _ _ _ (mode_setDmaActive _ _ _ _ (mode_setCtx _ _ _ _ h252)))) h0)))))
      · rename_i x272 x273 e274
        exact h0))

theorem mode_rearmDiscard {s0 : State} (s : State) (a1 : Nat)  (h0 : Mode s0 s) : Mode s0 (rearmDiscard s a1) := by
  unfold rearmDiscard
  exact (mode_count64 _ _ _ h0)

theorem mode_persistRun {s0 : State} (a0 : Nat) (a1 : Nat) (a2 : Sys2Proof.W128) (s : State)  (h0 : Mode s0 s) : Mode s0 (persistRun a0 a1 a2 s) := by
  unfold persistRun
  exact (mode_ite (mode_dmaFault _ _ _ _ _ h0) (by
      split
      · rename_i x181 t182 e183
        exact (mode_fst_eq e183 (mode_openDesc _ _ _ _ h0))
      · rename_i x187 t188 x189 x190 e191
        exact (by
          extract_lets v192 v194
          have h197 : Mode s0 v192 := (mode_setPstream _ _ _ _ (mode_fst_eq e191 (mode_openDesc _ _ _ _ h0)))
          clear_value v192
          have h215 : Mode s0 v194 := (mode_wrBits _ _ _ _ _ h197)
          clear_value v194
          exact (mode_wr64 _ _ _ h215))))

theorem mode_execPersist {s0 : State} (a0 : Nat) (a1 : Nat) (a2 : Sys2Proof.W128) (s : State)  (h0 : Mode s0 s) : ModeOut s0 (execPersist a0 a1 a2 s) := by
  unfold execPersist
  exact (mode_dmaIssue _ _ _ _ _ _ (fun t200 h201 => (mode_persistRun _ _ _ _ h201)) h0)

theorem mode_rearmSlot {s0 : State} (s : State) (a1 : Nat) (a2 : Nat) (a3 : Nat) (a4 : Nat)  (h0 : Mode s0 s) : Mode s0 (rearmSlot s a1 a2 a3 a4) := by
  unfold rearmSlot
  exact (by
      split
      · rename_i x198 e199
        exact (mode_rearmDiscard _ _ h0)
      · rename_i x207 x208 e209
        exact (by
          extract_lets v213
          have h214 : Mode s0 v213 := (mode_ite (mode_wrBits _ _ _ _ _ h0) h0)
          clear_value v213
          exact (mode_wrBits _ _ _ _ _ (mode_setPstream _ _ _ _ h214))))

theorem mode_rearmRun {s0 : State} (a0 : Nat) (a1 : Nat) (a2 : Sys2Proof.W128) (s : State)  (h0 : Mode s0 s) : Mode s0 (rearmRun a0 a1 a2 s) := by
  unfold rearmRun
  exact (by
      split
      · rename_i x184 x185 e186
        exact (mode_dmaFault _ _ _ _ _ h0)
      · rename_i x193 x195 e196
        exact (mode_rearmSlot _ _ _ _ _ h0))

theorem mode_execRearm {s0 : State} (a0 : Nat) (a1 : Nat) (a2 : Sys2Proof.W128) (s : State)  (h0 : Mode s0 s) : ModeOut s0 (execRearm a0 a1 a2 s) := by
  unfold execRearm
  exact (mode_dmaIssue _ _ _ _ _ _ (fun t219 h220 => (mode_rearmRun _ _ _ _ h220)) h0)

theorem mode_execDmaRearm {s0 : State} (a0 : Nat) (a1 : Sys2Proof.W32) (s : State)  (h0 : Mode s0 s) : ModeOut s0 (execDmaRearm a0 a1 s) := by
  unfold execDmaRearm
  exact (mode_out (mode_ite h0 (by
      split
      · rename_i x228 x229 e230
        exact (mode_rearmDiscard _ _ h0)
      · rename_i x231 x232 e233
        exact (mode_rearmSlot _ _ _ _ _ h0))))

theorem mode_stopRun {s0 : State} (a0 : Nat) (a1 : Sys2Proof.W128) (s : State)  (h0 : Mode s0 s) : Mode s0 (stopRun a0 a1 s) := by
  unfold stopRun
  exact (by
      split
      · rename_i x234 e235
        exact (mode_rearmDiscard _ _ h0)
      · rename_i x236 x237 e238
        exact (mode_setPstream _ _ _ _ h0))

theorem mode_execStop {s0 : State} (a0 : Nat) (a1 : Nat) (a2 : Sys2Proof.W128) (s : State)  (h0 : Mode s0 s) : ModeOut s0 (execStop a0 a1 a2 s) := by
  unfold execStop
  exact (mode_dmaIssue _ _ _ _ _ _ (fun t239 h240 => (mode_stopRun _ _ _ h240)) h0)

theorem mode_endPstream {s0 : State} (s : State) (a1 : Nat) (a2 : Nat)  (h0 : Mode s0 s) : Mode s0 (endPstream s a1 a2) := by
  unfold endPstream
  exact (by
      extract_lets v241 v242
      have h243 : Mode s0 v242 := (mode_setCore _ _ _ h0)
      clear_value v242
      exact (mode_wrBits _ _ _ _ _ (mode_wrBits _ _ _ _ _ h243)))

theorem mode_passEnd {s0 : State} (s : State) (a1 : Nat) (a2 : Nat) (a3 : PStream)  (h0 : Mode s0 s) : Mode s0 (passEnd s a1 a2 a3) := by
  unfold passEnd
  exact (by
      extract_lets v244 v245 v246 v247
      have h248 : Mode s0 v244 := (mode_wrBits _ _ _ _ _ h0)
      clear_value v244
      have h249 : Mode s0 v247 := (mode_ite (mode_endPstream _ _ _ h248) (mode_wrBits _ _ _ _ _ (mode_setPstream _ _ _ _ h248)))
      clear_value v247
      exact (mode_semSignal _ _ _ _ _ h249))

theorem mode_execPassBoundary {s0 : State} (a0 : Nat) (a1 : Nat) (s : State)  (h0 : Mode s0 s) : ModeOut s0 (execPassBoundary a0 a1 s) := by
  unfold execPassBoundary
  exact (mode_out (by
      split
      · rename_i x253 e254
        exact h0
      · rename_i x255 x256 e257
        exact (mode_ite h0 (by
          split
          · rename_i x260 e261
            exact h0
          · rename_i x262 x263 e264
            exact (by
              extract_lets v268
              exact (mode_ite (mode_ite h0 (mode_passEnd _ _ _ _ h0)) (mode_ite h0 (mode_afterMove _ _ _ _ _ _ _ (fun t284 x285 h286 => (mode_setPstream _ _ _ _ h286)) (fun t287 x288 h289 => (mode_passEnd _ _ _ _ h289)) (mode_move _ _ _ _ _ h0)))))))))

theorem mode_creditSlot {s0 : State} (s : State) (a1 : Nat) (a2 : Nat) (a3 : Nat) (a4 : Nat) (a5 : Nat) (a6 : Nat) (a7 : Mover) (a8 : Task) (a9 : State → Mover → State) (f9 : ∀ t m, Mode s0 t → Mode s0 (a9 t m)) (h0 : Mode s0 s) : Mode s0 (creditSlot s a1 a2 a3 a4 a5 a6 a7 a8 a9) := by
  unfold creditSlot
  exact (mode_ite h0 (by
      split
      · rename_i x258 e259
        exact h0
      · rename_i x265 x266 e267
        exact (mode_afterMove _ _ _ _ _ _ _ (fun t269 x270 h271 => (f9 _ _ h271)) (fun t275 x276 h277 => (mode_semSignal _ _ _ _ _ (f9 _ _ h277))) (modeOpt_get (f := Moved.s) e267 (mode_creditStep _ _ _ _ _ _ h0)))))

theorem mode_execCreditSlotDone {s0 : State} (a0 : Nat) (a1 : Nat) (s : State)  (h0 : Mode s0 s) : ModeOut s0 (execCreditSlotDone a0 a1 s) := by
  unfold execCreditSlotDone
  exact (mode_out (mode_ite h0 (mode_ite (by
      split
      · rename_i x278 x279 x280 x281 e282 e283
        exact (mode_creditSlot _ _ _ _ _ _ _ _ _ _ (fun t290 x291 h292 => (mode_setTransfer _ _ _ _ h292)) h0)
      · rename_i x293 x294 e295
        exact h0) (by
      split
      · rename_i x296 e297
        exact h0
      · rename_i x298 x299 e300
        exact (mode_ite h0 (by
          split
          · rename_i x301 e302
            exact h0
          · rename_i x303 x304 e305
            exact (mode_creditSlot _ _ _ _ _ _ _ _ _ _ (fun t306 x307 h308 => (mode_setPstream _ _ _ _ h308)) h0)))))))

/-! ### Machine/ControlSpace.lean -/

theorem mode_after {s0 : State} (o : Out) (s : State) (ho : ModeOut s0 o) (h0 : Mode s0 s) : Mode s0 (after o s) := by
  cases o with
  | next t => exact ho t rfl
  | fault f => exact h0
  | refused f => exact h0

theorem mode_clearRC {s0 : State} (s : State) (a1 : Nat)  (h0 : Mode s0 s) : Mode s0 (clearRC s a1) := by
  unfold clearRC
  exact (by
      split
      · rename_i x0 e1
        exact h0
      · rename_i x2 x3 x4 e5
        exact (mode_ite h0 (by
          extract_lets v12
          exact (mode_ite h0 (mode_wr32 _ _ _ h0)))))

theorem mode_readPlain {s0 : State} (s : State) (a1 : Nat)  (h0 : Mode s0 s) : Mode s0 (readPlain s a1).2 := by
  unfold readPlain
  exact (by
      split
      · rename_i x6 x7 x8 e9
        exact (mode_claim _ _ _ h0)
      · rename_i x10 e11
        exact (by
          extract_lets v13
          exact (by
            split
            · rename_i x18 x19 x20 e21
              exact (mode_pr_ite (f := Prod.snd) (mode_snd (mode_clearRC _ _ (mode_clearRC _ _ h0))) (mode_snd (mode_clearRC _ _ h0)))
            · rename_i x29 e30
              exact h0)))

theorem mode_setLatch {s0 : State} (s : State) (a1 : Nat) (a2 : Nat) (a3 : Nat × Nat × Nat)  (h0 : Mode s0 s) : Mode s0 (setLatch s a1 a2 a3) := by
  unfold setLatch
  exact (mode_rawLatch _ h0)

theorem mode_read32 {s0 : State} (s : State) (a1 : Nat) (a2 : Nat)  (h0 : Mode s0 s) : Mode s0 (read32 s a1 a2).2 := by
  unfold read32
  exact (by
      extract_lets v14 v15 v16
      have h17 : Mode s0 v15 := (mode_setLatch _ _ _ _ h0)
      clear_value v15
      exact (by
        split
        · rename_i x25 x26 x27 e28
          exact (mode_pr_ite (f := Prod.snd) h17 (by
            split
            · rename_i x35 x36 t37 e38
              exact (mode_pr_ite (f := Prod.snd) (mode_snd (mode_setLatch _ _ _ _ (mode_snd_eq e38 (mode_readPlain _ _ h17)))) (mode_snd (mode_snd_eq e38 (mode_readPlain _ _ h17))))))
        · rename_i x45 e46
          exact (mode_readPlain _ _ h17)))

theorem mode_read64 {s0 : State} (s : State) (a1 : Nat) (a2 : Nat)  (h0 : Mode s0 s) : Mode s0 (read64 s a1 a2).2 := by
  unfold read64
  exact (by
      extract_lets v22 v23
      have h24 : Mode s0 v22 := (mode_setLatch _ _ _ _ h0)
      clear_value v22
      exact (mode_pr_ite (f := Prod.snd) (mode_snd (mode_clearRC _ _ (mode_clearRC _ _ h24))) (by
        split
        · rename_i x31 x32 t33 e34
          exact (by
            split
            · rename_i x39 x40 t41 e42
              exact (mode_snd (mode_snd_eq e42 (mode_readPlain _ _ (mode_snd_eq e34 (mode_readPlain _ _ h24)))))))))

theorem mode_execLowHalfRead {s0 : State} (a0 : Nat) (a1 : Nat) (s : State)  (h0 : Mode s0 s) : ModeOut s0 (execLowHalfRead a0 a1 s) := by
  unfold execLowHalfRead
  exact (mode_out (mode_ite (mode_read32 _ _ _ h0) h0))

theorem mode_writeCodes {s0 : State} (s : State) (a1 : Nat) (a2 : Nat)  (h0 : Mode s0 s) : Mode s0 (writeCodes s a1 a2) := by
  unfold writeCodes
  exact (by
      extract_lets v43 v44
      exact (mode_ite (mode_ite (mode_wr32 _ _ _ h0) h0) (by
        split
        · rename_i x47 e48
          exact h0
        · rename_i x49 x50 x51 e52
          exact (by
            extract_lets v54 v55 v56
            exact (mode_wr32 _ _ _ h0)))))

theorem mode_writeMgt {s0 : State} (s : State) (a1 : Nat) (a2 : Nat)  (h0 : Mode s0 s) : Mode s0 (writeMgt s a1 a2) := by
  unfold writeMgt
  exact (mode_ite (mode_ldCommand _ _ h0) (mode_ite (mode_fwCommand _ _ h0) (mode_ite (mode_ite (mode_after _ _ (mode_execMgtRestart _ h0) h0) h0) (mode_ite (by
      extract_lets v53
      have h57 : Mode s0 v53 := (mode_writeCodes _ _ _ h0)
      clear_value v53
      exact (mode_ite (mode_kick _ _ h57) h57)) (mode_writeCodes _ _ _ h0)))))

theorem mode_writeEvc {s0 : State} (s : State) (a1 : Nat) (a2 : Nat)  (h0 : Mode s0 s) : Mode s0 (writeEvc s a1 a2) := by
  unfold writeEvc
  exact (by
      extract_lets v58
      exact (mode_ite (mode_pendSet _ _ _ h0) (mode_ite (mode_pendClr _ _ _ h0) (mode_ite (mode_maskSet _ _ _ h0) (mode_ite (mode_maskClr _ _ _ h0) (mode_ite (mode_complete _ _ _ h0) (mode_ite (mode_budWrite _ _ _ h0) (mode_ite (mode_swSet _ _ h0) (mode_ite (mode_cfgWrite _ _ _ h0) (mode_writeCodes _ _ _ h0))))))))))

theorem mode_writeSht {s0 : State} (s : State) (a1 : Nat) (a2 : Nat) (a3 : Nat)  (h0 : Mode s0 s) : Mode s0 (writeSht s a1 a2 a3) := by
  unfold writeSht
  exact (mode_ite (mode_writeCodes _ _ _ h0) (by
      split
      · rename_i x80 e81
        exact (mode_fire _ _ h0)
      · rename_i x82 e83
        exact (mode_releaseSheet _ h0)
      · rename_i x84 e85
        exact (mode_unfreeze _ h0)
      · rename_i x86 e87
        exact (mode_armAt _ h0)
      · rename_i x88 e89
        exact (mode_disarm _ h0)
      · rename_i x90 e91 e92 e93 e94 e95
        exact h0))

theorem mode_entryCommand {s0 : State} (s : State) (a1 : Nat)  (h0 : Mode s0 s) : Mode s0 (entryCommand s a1) := by
  unfold entryCommand
  exact (by
      extract_lets v59
      exact (by
        split
        · rename_i x64 e65
          exact (mode_after _ _ (mode_execEntryRead _ _ h0) h0)
        · rename_i x66 e67
          exact (mode_ite (mode_after _ _ (mode_execEntryCreate _ _ h0) h0) (mode_after _ _ (mode_execEntryWrite _ _ h0) h0))
        · rename_i x68 e69
          exact (mode_after _ _ (mode_execEntryInvalidate _ _ h0) h0)
        · rename_i x70 e71 e72 e73
          exact h0))

theorem mode_writeRing {s0 : State} (s : State) (a1 : Nat) (a2 : Nat) (a3 : Nat) (a4 : Nat)  (h0 : Mode s0 s) : Mode s0 (writeRing s a1 a2 a3 a4) := by
  unfold writeRing
  exact (by
      extract_lets v60 v61 v62
      have h63 : Mode s0 v62 := (mode_writeCodes _ _ _ h0)
      clear_value v62
      exact (mode_ite (mode_ite h0 (mode_writeCodes _ _ _ h0)) (mode_ite (mode_ite (mode_enableRing _ _ _ h0) (mode_wrBits _ _ _ _ _ h0)) (mode_ite (mode_enableRing _ _ _ h63) h63))))

theorem mode_writeStr {s0 : State} (s : State) (a1 : Nat) (a2 : Nat) (a3 : Nat)  (h0 : Mode s0 s) : Mode s0 (writeStr s a1 a2 a3) := by
  unfold writeStr
  exact (mode_ite (mode_entryCommand _ _ h0) (mode_ite (mode_ite (mode_doorbell _ _ _ h0) h0) (mode_ite (mode_writeRing _ _ _ _ _ h0) (mode_writeCodes _ _ _ h0))))

theorem mode_writeEth {s0 : State} (s : State) (a1 : Nat) (a2 : Nat) (a3 : Nat)  (h0 : Mode s0 s) : Mode s0 (writeEth s a1 a2 a3) := by
  unfold writeEth
  exact (by
      extract_lets v74 v75 v76 v77 v78
      have h79 : Mode s0 v76 := (mode_wrBits _ _ _ _ _ h0)
      clear_value v76
      exact (mode_ite (mode_ite (mode_gclChange _ _ h79) h79) (mode_ite (mode_wrBits _ _ _ _ _ h0) (mode_ite h0 (mode_ite (by
        split
        · rename_i x100 e101
          exact (mode_after _ _ (mode_execEthTableRead _ _ _ _ h0) h0)
        · rename_i x102 e103
          exact (mode_after _ _ (mode_execEthTableWrite _ _ _ _ h0) h0)
        · rename_i x104 e105 e106
          exact h0) (mode_writeCodes _ _ _ h0))))))

theorem mode_writeFab {s0 : State} (s : State) (a1 : Nat) (a2 : Nat)  (h0 : Mode s0 s) : Mode s0 (writeFab s a1 a2) := by
  unfold writeFab
  exact (mode_ite (mode_ite (mode_declareCommand _ _ h0) h0) (mode_ite (mode_after _ _ (mode_execPeek _ _ _ h0) h0) (mode_writeCodes _ _ _ h0)))

theorem mode_write32 {s0 : State} (s : State) (a1 : Nat) (a2 : Nat) (a3 : Nat)  (h0 : Mode s0 s) : Mode s0 (write32 s a1 a2 a3) := by
  unfold write32
  exact (by
      extract_lets v96 v97
      exact (by
        split
        · rename_i x107 e108
          exact (mode_writeMgt _ _ _ h0)
        · rename_i x109 e110
          exact (mode_writeEvc _ _ _ h0)
        · rename_i x111 e112
          exact (mode_ite (mode_ite (mode_drkCommand _ _ h0) h0) (mode_writeCodes _ _ _ h0))
        · rename_i x113 e114
          exact (mode_ite (mode_writeClass _ _ _ h0) (mode_writeCodes _ _ _ h0))
        · rename_i x115 e116
          exact (mode_writeSht _ _ _ _ h0)
        · rename_i x117 e118
          exact (mode_ite (mode_ite (mode_startFlush _ h0) h0) (mode_writeCodes _ _ _ h0))
        · rename_i x119 e120
          exact (mode_ite (mode_clkPwr _ _ h0) (mode_ite h0 (mode_writeCodes _ _ _ h0)))
        · rename_i x121 e122
          exact (mode_writeStr _ _ _ _ h0)
        · rename_i x123 e124
          exact (mode_writeEth _ _ _ _ h0)
        · rename_i x125 e126
          exact (mode_writeFab _ _ _ h0)
        · rename_i x127 e128 e129 e130 e131 e132 e133 e134 e135 e136 e137
          exact (mode_ite h0 (mode_ite (mode_after _ _ (mode_execDmaRearm _ _ _ h0) h0) (mode_writeCodes _ _ _ h0)))))

theorem mode_write64 {s0 : State} (s : State) (a1 : Nat) (a2 : Nat) (a3 : Nat)  (h0 : Mode s0 s) : Mode s0 (write64 s a1 a2 a3) := by
  unfold write64
  exact (mode_ite (mode_ite (mode_after _ _ (mode_execRetire _ _ h0) h0) h0) (mode_write32 _ _ _ _ (mode_write32 _ _ _ _ h0)))

theorem mode_writeReg {s0 : State} (s : State) (a1 : Nat) (a2 : Nat) (a3 : Nat) (a4 : Nat) (a5 : Nat)  (h0 : Mode s0 s) : Mode s0 (writeReg s a1 a2 a3 a4 a5) := by
  unfold writeReg
  exact (by
      extract_lets v98
      have h99 : Mode s0 v98 := (mode_setLatch _ _ _ _ h0)
      clear_value v98
      exact (mode_ite (mode_write64 _ _ _ _ h99) (mode_write32 _ _ _ _ h99)))

theorem mode_execRegisterWrite {s0 : State} (a0 : Nat) (a1 : Sys2Proof.W64) (a2 : Nat) (s : State)  (h0 : Mode s0 s) : ModeOut s0 (execRegisterWrite a0 a1 a2 s) := by
  unfold execRegisterWrite
  exact (mode_out (mode_ite (mode_writeReg _ _ _ _ _ _ h0) h0))

/-! ### Machine/Tick.lean -/

theorem mode_tick {s0 : State} (s : State)  (h0 : Mode s0 s) : Mode s0 (tick s) := by
  unfold tick
  exact (mode_ite (mode_setPow h0 rfl) h0)

/-! ### Machine/Entropy.lean -/

theorem mode_entFault {s0 : State} (s : State) (a1 : Nat) (a2 : Nat) (a3 : EntAbort)  (h0 : Mode s0 s) : Mode s0 (entFault s a1 a2 a3) := by
  unfold entFault
  exact (by
      extract_lets v0 v1
      have h2 : Mode s0 v0 := (mode_wr32 _ _ _ h0)
      clear_value v0
      have h4 : Mode s0 v1 := (mode_arrive _ _ _ (mode_raise _ _ _ h2))
      clear_value v1
      exact (mode_unitAbort _ _ _ _ h4))

theorem mode_putEpoch {s0 : State} (s : State) (a1 : Nat) (a2 : Nat) (a3 : Nat)  (h0 : Mode s0 s) : ModeE (fun x => x) s0 (putEpoch s a1 a2 a3) := by
  unfold putEpoch
  exact (by
      extract_lets v3
      exact (modeE_ite (modeE_bind (fun t5 x6 => (mode_storeWrite _ _ _ _ (modeE_get (f := fun x => x) x6 (mode_storeWrite _ _ _ _ h0))))) (modeE_bind (fun t13 x14 => (mode_storeWrite _ _ _ _ (modeE_get (f := fun x => x) x14 (modeE_ok h0)))))))

theorem mode_fixEpoch {s0 : State} (s : State) (a1 : Nat) (a2 : Nat) (a3 : Task)  (h0 : Mode s0 s) : ModeE (fun x => x) s0 (fixEpoch s a1 a2 a3) := by
  unfold fixEpoch
  exact (modeE_ite (modeE_ok h0) (modeE_bind (fun x7 x8 => (by
      extract_lets v9 v10 v11 v12
      exact (modeE_ite (modeE_pure h0) (modeE_bind (fun t20 x21 => (modeE_pure (mode_updTask _ _ _ _ (modeE_get (f := fun x => x) x21 (mode_putEpoch _ _ _ _ h0)))))))))))

theorem mode_jobBank {s0 : State} (s : State) (a1 : Nat) (a2 : Nat)  (h0 : Mode s0 s) : ModeE Prod.fst s0 (jobBank s a1 a2) := by
  unfold jobBank
  exact (by
      split
      · rename_i x15 e16
        exact (modeE_error)
      · rename_i x17 x18 e19
        exact (by
          split
          · rename_i x22 e23
            exact (modeE_error)
          · rename_i x24 x25 e26
            exact (modeE_ite (modeE_ok h0) (modeE_ok (mode_fst (mode_updTask _ _ _ _ (mode_wrBits _ _ _ _ _ h0)))))))

theorem mode_bankFault {s0 : State} (s : State) (a1 : Nat) (a2 : Nat) (a3 : EntAbort)  (h0 : Mode s0 s) : Mode s0 (bankFault s a1 a2 a3) := by
  unfold bankFault
  exact (mode_ite (mode_emptyBank _ _ _ h0) h0)

theorem mode_entSteps {s0 : State} (s : State) (a1 : Nat) (a2 : Nat) (a3 : Nat) (a4 : Nat)  (h0 : Mode s0 s) : Mode s0 (entSteps s a1 a2 a3 a4) := by
  unfold entSteps
  exact (mode_count64 _ _ _ (mode_count64 _ _ _ (mode_charge _ _ _ _ h0)))

theorem mode_entDone {s0 : State} (s : State) (a1 : Nat) (a2 : Nat) (a3 : Sys2Proof.W128)  (h0 : Mode s0 s) : Mode s0 (entDone s a1 a2 a3) := by
  unfold entDone
  exact (by
      extract_lets v27
      have h28 : Mode s0 v27 := (mode_count64 _ _ _ h0)
      clear_value v27
      exact (mode_advElems _ _ _ _ (mode_advElems _ _ _ _ h28)))

theorem mode_setEntStatus {s0 : State} (s : State) (a1 : Nat) (a2 : Nat) (a3 : Sys2Proof.W128) (a4 : Bool)  (h0 : Mode s0 s) : Mode s0 (setEntStatus s a1 a2 a3 a4) := by
  unfold setEntStatus
  exact (mode_wr32 _ _ _ h0)

theorem mode_writeLanes {s0 : State} (s : State) (a1 : Nat) (a2 : Nat) (a3 : List (List Nat))  (h0 : Mode s0 s) : ModeE (fun x => x) s0 (writeLanes s a1 a2 a3) := by
  unfold writeLanes
  exact (modeE_foldlM (fun t29 x30 h31 => (by
      split
      · rename_i x36 x37 x38
        exact (modeE_bind (fun t40 x41 => (mode_storeWrite _ _ _ _ (modeE_get (f := fun x => x) x41 (mode_storeWrite _ _ _ _ h31))))))) h0)

theorem mode_encodeEnd {s0 : State} (s : State) (a1 : Nat) (a2 : Sys2Proof.W128) (a3 : List (List Nat))  (h0 : Mode s0 s) : ModeE (fun x => x) s0 (encodeEnd s a1 a2 a3) := by
  unfold encodeEnd
  exact (modeE_bind (fun x32 x33 => (modeE_bind (fun t34 x35 => (modeE_pure (mode_entDone _ _ _ _ (modeE_get (f := fun x => x) x35 (modeE_mapError (mode_writeLanes _ _ _ _ h0)))))))))

theorem mode_encodeOpen {s0 : State} (s : State) (a1 : Nat) (a2 : Nat)  (h0 : Mode s0 s) : ModeE Prod.fst s0 (encodeOpen s a1 a2) := by
  unfold encodeOpen
  exact (by
      extract_lets v39
      exact (by
        split
        · rename_i x42 x43 e44
          exact (modeE_bind (fun t45 x46 => (modeE_bind (fun x47 x48 => (by
            split
            · rename_i x51 t52 x53
              exact (modeE_bind (fun x56 x57 => (modeE_pure (mode_fst (modeE_get (f := Prod.fst) x48 (mode_jobBank _ _ _ (modeE_get (f := fun x => x) x46 (modeE_mapError (mode_fixEpoch _ _ _ _ h0))))))))))))))
        · rename_i x83 e84
          exact (modeE_bind (fun t85 x86 => (modeE_bind (fun x87 x91 => (by
            split
            · rename_i x93 t94 x95
              exact (modeE_bind (fun x96 x97 => (modeE_pure (mode_fst (modeE_get (f := Prod.fst) x91 (mode_jobBank _ _ _ (modeE_get (f := fun x => x) x86 (modeE_ok h0)))))))))))))))

theorem mode_entIssue {s0 : State} (a0 : Nat) (a1 : Nat) (a2 : Sys2Proof.W128) (a3 : Nat) (a4 : State → State) (s : State) (f4 : ∀ t, Mode s0 t → Mode s0 (a4 t)) (h0 : Mode s0 s) : ModeOut s0 (entIssue a0 a1 a2 a3 a4 s) := by
  unfold entIssue
  exact (mode_out (mode_ite h0 (mode_issue _ _ _ _ _ _ _ _ _ _ (fun t54 h55 => (f4 _ h55)) h0)))

theorem mode_encodeStart {s0 : State} (a0 : Nat) (a1 : Nat) (a2 : Sys2Proof.W128) (s : State)  (h0 : Mode s0 s) : Mode s0 (encodeStart a0 a1 a2 s) := by
  unfold encodeStart
  exact (by
      extract_lets v49
      have h50 : Mode s0 v49 := (mode_setEntStatus _ _ _ _ _ h0)
      clear_value v49
      exact (by
        split
        · rename_i x60 x61 e62
          exact (mode_entFault _ _ _ _ h50)
        · rename_i x63 t64 x65 x66 e67
          exact (by
            split
            · rename_i x79 x80 x81 e82
              exact (by
                extract_lets v98 v99 v100
                have h101 : Mode s0 v98 := (mode_entSteps _ _ _ _ _ (modeE_get (f := Prod.fst) e67 (mode_encodeOpen _ _ _ h50)))
                clear_value v98
                exact (by
                  split
                  · rename_i x123 x124
                    exact (mode_entFault _ _ _ _ (mode_bankFault _ _ _ _ h101))
                  · rename_i x129
                    exact (mode_ite (mode_setEntStatus _ _ _ _ _ (mode_setCore _ _ _ h101)) (mode_ite (mode_entDone _ _ _ _ h101) (by
                      split
                      · rename_i x142 x143 e144
                        exact (mode_entFault _ _ _ _ h101)
                      · rename_i x151 t152 e153
                        exact (modeE_get (f := fun x => x) e153 (mode_encodeEnd _ _ _ _ h101))))))))))

theorem mode_execEntEncode {s0 : State} (a0 : Nat) (a1 : Nat) (a2 : Sys2Proof.W128) (s : State)  (h0 : Mode s0 s) : ModeOut s0 (execEntEncode a0 a1 a2 s) := by
  unfold execEntEncode
  exact (mode_entIssue _ _ _ _ _ _ (fun t58 h59 => (mode_encodeStart _ _ _ _ h59)) h0)

theorem mode_execEncodeJobEnd {s0 : State} (a0 : Nat) (s : State)  (h0 : Mode s0 s) : ModeOut s0 (execEncodeJobEnd a0 s) := by
  unfold execEncodeJobEnd
  exact (mode_out (by
      split
      · rename_i x74 e75
        exact h0
      · rename_i x76 x77 e78
        exact (mode_ite h0 (by
          extract_lets v88 v89 v90
          have h92 : Mode s0 v89 := (mode_setEntStatus _ _ _ _ _ (mode_setCore _ _ _ h0))
          clear_value v89
          exact (by
            split
            · rename_i x112 x113 e114
              exact (mode_entFault _ _ _ _ h92)
            · rename_i x115 t116 e117
              exact (by
                extract_lets v118 v119
                have h120 : Mode s0 v118 := (mode_wr64 _ _ _ (modeE_get (f := fun x => x) e117 (modeE_ite (modeE_ok (mode_entDone _ _ _ _ h92)) (mode_encodeEnd _ _ _ _ h92))))
                clear_value v118
                exact (mode_ite (mode_count64 _ _ _ h120) (mode_setCore _ _ _ h120))))))))

theorem mode_writeValues {s0 : State} (s : State) (a1 : Nat) (a2 : Nat) (a3 : Sys2Proof.W128) (a4 : List Int)  (h0 : Mode s0 s) : ModeE (fun x => x) s0 (writeValues s a1 a2 a3 a4) := by
  unfold writeValues
  exact (modeE_foldlM (fun t68 x69 h70 => (by
      split
      · rename_i x71 x72 x73
        exact (modeE_mapError (mode_writeElem _ _ _ _ _ _ h70)))) h0)

theorem mode_decodeEnd {s0 : State} (s : State) (a1 : Nat) (a2 : Nat) (a3 : Sys2Proof.W128) (a4 : List (List Int))  (h0 : Mode s0 s) : ModeE (fun x => x) s0 (decodeEnd s a1 a2 a3 a4) := by
  unfold decodeEnd
  exact (modeE_bind (fun x102 x103 => (by
      extract_lets v104
      exact (by
        split
        · rename_i x105 x106 e107
          exact (modeE_error)
        · rename_i x108 e109
          exact (modeE_bind (fun t110 x111 => (modeE_pure (mode_entDone _ _ _ _ (modeE_get (f := fun x => x) x111 (mode_writeValues _ _ _ _ _ h0))))))))))

theorem mode_decodeRun {s0 : State} (s : State) (a1 : Nat) (a2 : Nat) (a3 : Nat) (a4 : Sys2Proof.W128)  (h0 : Mode s0 s) : Mode s0 (decodeRun s a1 a2 a3 a4).1 := by
  unfold decodeRun
  exact (by
      split
      · rename_i x134 x135 x136 x137 e138 e139
        exact (by
          extract_lets v140 v141
          have h145 : Mode s0 v141 := (mode_count64 _ _ _ (mode_entSteps _ _ _ _ _ h0))
          clear_value v141
          exact (by
            split
            · rename_i x158 x159 e160
              exact h145
            · rename_i x161 e162
              exact (by
                split
                · rename_i x163 x164 e165
                  exact h145
                · rename_i x166 t167 e168
                  exact (mode_fst (modeE_get (f := fun x => x) e168 (mode_decodeEnd _ _ _ _ _ h145))))))
      · rename_i x169 x170 x171 e172
        exact h0
      · rename_i x173 x174 x175 e176 e177
        exact h0)

theorem mode_heldRun {s0 : State} (s : State) (a1 : Nat) (a2 : Sys2Proof.W128)  (h0 : Mode s0 s) : ModeE (fun x => x) s0 (heldRun s a1 a2) := by
  unfold heldRun
  exact (modeE_bind (fun x121 x122 => (modeE_bind (fun x125 x126 => (modeE_bind (fun t127 x128 => (modeE_pure (mode_advElems _ _ _ _ (mode_advElems _ _ _ _ (modeE_get (f := fun x => x) x128 (mode_writeValues _ _ _ _ _ h0)))))))))))

theorem mode_countJob {s0 : State} (s : State) (a1 : Nat) (a2 : Nat) (a3 : Task)  (h0 : Mode s0 s) : Mode s0 (countJob s a1 a2 a3).1 := by
  unfold countJob
  exact (by
      split
      · rename_i x130 x131 x132 e133
        exact (by
          split
          · rename_i x146 e147
            exact h0
          · rename_i x148 x149 e150
            exact (mode_fst (mode_updTask _ _ _ _ h0))))

theorem mode_decodeStart {s0 : State} (a0 : Nat) (a1 : Nat) (a2 : Sys2Proof.W128) (s : State)  (h0 : Mode s0 s) : Mode s0 (decodeStart a0 a1 a2 s) := by
  unfold decodeStart
  exact (by
      split
      · rename_i x154 t155 x156 e157
        exact (mode_ite (mode_fst_eq e157 (mode_readInput _ _ _ h0)) (by
          split
          · rename_i x178 e179
            exact (mode_fst_eq e157 (mode_readInput _ _ _ h0))
          · rename_i x180 x181 e182
            exact (by
              split
              · rename_i x185 t186 x187 e188
                exact (mode_ite (mode_fst_eq e188 (mode_countJob _ _ _ _ (mode_setEntStatus _ _ _ _ _ (mode_fst_eq e157 (mode_readInput _ _ _ h0))))) (by
                  split
                  · rename_i x203 x204 e205
                    exact (mode_entFault _ _ _ _ (mode_fst_eq e188 (mode_countJob _ _ _ _ (mode_setEntStatus _ _ _ _ _ (mode_fst_eq e157 (mode_readInput _ _ _ h0))))))
                  · rename_i x209 t210 x211 e212
                    exact (mode_ite (by
                      split
                      · rename_i x227 x228 e229
                        exact (mode_entFault _ _ _ _ (modeE_get (f := Prod.fst) e212 (mode_jobBank _ _ _ (mode_fst_eq e188 (mode_countJob _ _ _ _ (mode_setEntStatus _ _ _ _ _ (mode_fst_eq e157 (mode_readInput _ _ _ h0))))))))
                      · rename_i x238 t239 e240
                        exact (modeE_get (f := fun x => x) e240 (mode_heldRun _ _ _ (modeE_get (f := Prod.fst) e212 (mode_jobBank _ _ _ (mode_fst_eq e188 (mode_countJob _ _ _ _ (mode_setEntStatus _ _ _ _ _ (mode_fst_eq e157 (mode_readInput _ _ _ h0)))))))))) (by
                      split
                      · rename_i x246 t247 x248 e249
                        exact (mode_entFault _ _ _ _ (mode_bankFault _ _ _ _ (mode_fst_eq e249 (mode_decodeRun _ _ _ _ _ (modeE_get (f := Prod.fst) e212 (mode_jobBank _ _ _ (mode_fst_eq e188 (mode_countJob _ _ _ _ (mode_setEntStatus _ _ _ _ _ (mode_fst_eq e157 (mode_readInput _ _ _ h0)))))))))))
                      · rename_i x250 t251 e252
                        exact (mode_fst_eq e252 (mode_decodeRun _ _ _ _ _ (modeE_get (f := Prod.fst) e212 (mode_jobBank _ _ _ (mode_fst_eq e188 (mode_countJob _ _ _ _ (mode_setEntStatus _ _ _ _ _ (mode_fst_eq e157 (mode_readInput _ _ _ h0)))))))))))))))))

theorem mode_execEntDecode {s0 : State} (a0 : Nat) (a1 : Nat) (a2 : Sys2Proof.W128) (s : State)  (h0 : Mode s0 s) : ModeOut s0 (execEntDecode a0 a1 a2 s) := by
  unfold execEntDecode
  exact (mode_entIssue _ _ _ _ _ _ (fun t183 h184 => (mode_decodeStart _ _ _ _ h184)) h0)

theorem mode_loadStart {s0 : State} (a0 : Nat) (a1 : Nat) (a2 : Sys2Proof.W128) (s : State)  (h0 : Mode s0 s) : Mode s0 (loadStart a0 a1 a2 s) := by
  unfold loadStart
  exact (by
      split
      · rename_i x199 t200 x201 e202
        exact (mode_ite (mode_fst_eq e202 (mode_readInput _ _ _ h0)) (by
          split
          · rename_i x206 x207 e208
            exact (mode_markNewest _ _ _ (mode_fst_eq e202 (mode_readInput _ _ _ h0)))
          · rename_i x213 e214
            exact (by
              extract_lets v217 v218 v219 v220
              have h224 : Mode s0 v218 := (mode_wr32 _ _ _ (mode_fst_eq e202 (mode_readInput _ _ _ h0)))
              clear_value v218
              have h230 : Mode s0 v219 := (mode_wrBits _ _ _ _ _ (mode_markNewest _ _ _ h224))
              clear_value v219
              exact (mode_ite (mode_entFault _ _ _ _ (mode_count64 _ _ _ (mode_fst_eq e202 (mode_readInput _ _ _ h0)))) (mode_setEntStatus _ _ _ _ _ (mode_setCore _ _ _ h230)))))))

theorem mode_execTableLoad {s0 : State} (a0 : Nat) (a1 : Nat) (a2 : Sys2Proof.W128) (s : State)  (h0 : Mode s0 s) : ModeOut s0 (execTableLoad a0 a1 a2 s) := by
  unfold execTableLoad
  exact (mode_entIssue _ _ _ _ _ _ (fun t189 h190 => (mode_loadStart _ _ _ _ h190)) h0)

theorem mode_copyTables {s0 : State} (s : State) (a1 : Nat) (a2 : Nat) (a3 : Sys2Proof.W128) (a4 : SMap (Option (List Nat)))  (h0 : Mode s0 s) : ModeE Prod.fst s0 (copyTables s a1 a2 a3 a4) := by
  unfold copyTables
  exact (modeE_bind (fun x191 x192 => (modeE_bind (fun x193 x194 => (by
      extract_lets v195 v196
      exact (modeE_bind (fun x197 x198 => (modeE_pure (mode_fst (mode_setCore _ _ _ h0))))))))))

theorem mode_copyCodebook {s0 : State} (a0 : Nat) (a1 : Nat) (a2 : Nat) (a3 : List Sys2Proof.Byte) (a4 : Nat) (s : State) (a6 : Mover)  (h0 : Mode s0 s) : Mode s0 (copyCodebook a0 a1 a2 a3 a4 s a6).1 := by
  induction a4 generalizing a0 a1 a2 a3 s a6 with
  | zero =>
    unfold copyCodebook
    exact (mode_fst (mode_endWrites _ _ _ h0))
  | succ k ih =>
    unfold copyCodebook
    exact (mode_pr_ite (f := Prod.fst) (mode_fst (mode_endWrites _ _ _ h0)) (by
        extract_lets v253 v254 v255 v256
        exact (mode_pr_ite (f := Prod.fst) h0 (by
          split
          · rename_i x257 x258 e259
            exact h0
          · rename_i x260 t261 e262
            exact (by
              split
              · rename_i x263 t264 x265 e266
                exact (ih _ _ _ _ _ _ (mode_fst_eq e266 (mode_chargeWrite _ _ _ _ _ _ (modeE_get (f := fun x => x) e262 (mode_hbmWrite _ _ _ _ _ h0))))))))))

theorem mode_tableIdle {s0 : State} (s : State) (a1 : Nat) (a2 : EntJob)  (h0 : Mode s0 s) : Mode s0 (tableIdle s a1 a2) := by
  unfold tableIdle
  exact (mode_setEntStatus _ _ _ _ _ (mode_setCore _ _ _ h0))

theorem mode_tableFail {s0 : State} (s : State) (a1 : Nat) (a2 : Nat) (a3 : EntJob) (a4 : Abort) (a5 : Nat)  (h0 : Mode s0 s) : Mode s0 (tableFail s a1 a2 a3 a4 a5) := by
  unfold tableFail
  exact (mode_entFault _ _ _ _ (mode_emptyBank _ _ _ (mode_tableIdle _ _ _ h0)))

theorem mode_execTableLoadEnd {s0 : State} (a0 : Nat) (s : State)  (h0 : Mode s0 s) : ModeOut s0 (execTableLoadEnd a0 s) := by
  unfold execTableLoadEnd
  exact (mode_out (by
      split
      · rename_i x215 e216
        exact h0
      · rename_i x221 x222 e223
        exact (mode_ite h0 (by
          extract_lets v225 v226
          exact (by
            split
            · rename_i x231 x232 e233
              exact (mode_tableFail _ _ _ _ _ _ h0)
            · rename_i x234 t235 x236 e237
              exact (by
                split
                · rename_i x241 t242 x243 x244 e245
                  exact (mode_tableFail _ _ _ _ _ _ (mode_fst_eq e245 (mode_pr_ite (f := Prod.fst) (mode_fst (modeE_get (f := Prod.fst) e237 (mode_copyTables _ _ _ _ _ h0))) (mode_copyCodebook _ _ _ _ _ _ _ (modeE_get (f := Prod.fst) e237 (mode_copyTables _ _ _ _ _ h0))))))
                · rename_i x267 t268 x269 x270 e271
                  exact (mode_refused _ _ _ (mode_setCore _ _ _ (mode_fst_eq e271 (mode_pr_ite (f := Prod.fst) (mode_fst (modeE_get (f := Prod.fst) e237 (mode_copyTables _ _ _ _ _ h0))) (mode_copyCodebook _ _ _ _ _ _ _ (modeE_get (f := Prod.fst) e237 (mode_copyTables _ _ _ _ _ h0)))))))
                · rename_i x272 t273 x274 e275
                  exact (by
                    split
                    · rename_i x276 x277 e278
                      exact (mode_tableFail _ _ _ _ _ _ (mode_fst_eq e275 (mode_pr_ite (f := Prod.fst) (mode_fst (modeE_get (f := Prod.fst) e237 (mode_copyTables _ _ _ _ _ h0))) (mode_copyCodebook _ _ _ _ _ _ _ (modeE_get (f := Prod.fst) e237 (mode_copyTables _ _ _ _ _ h0))))))
                    · rename_i x279 e280
                      exact (mode_tableIdle _ _ _ (mode_wrBits _ _ _ _ _ (mode_wrBits _ _ _ _ _ (mode_fst_eq e275 (mode_pr_ite (f := Prod.fst) (mode_fst (modeE_get (f := Prod.fst) e237 (mode_copyTables _ _ _ _ _ h0))) (mode_copyCodebook _ _ _ _ _ _ _ (modeE_get (f := Prod.fst) e237 (mode_copyTables _ _ _ _ _ h0)))))))))))))))

/-! ### Machine/Hcp.lean -/

theorem mode_portCode {s0 : State} (s : State) (a1 : Nat) (a2 : Nat)  (h0 : Mode s0 s) : Mode s0 (portCode s a1 a2) := by
  unfold portCode
  exact (mode_ite (mode_raise _ _ _ h0) (mode_raiseBy _ _ h0))

theorem mode_refuseHello {s0 : State} (s : State) (a1 : Nat) (a2 : List Sys2Proof.Byte) (a3 : List Sys2Proof.Byte) (a4 : List Sys2Proof.Byte) (a5 : Nat)  (h0 : Mode s0 s) : Mode s0 (refuseHello s a1 a2 a3 a4 a5) := by
  unfold refuseHello
  exact (by
      extract_lets v0 v1
      exact (mode_hcpWire _ _ _ (mode_portCode _ _ _ h0)))

theorem mode_helloNew {s0 : State} (s : State) (a1 : Nat) (a2 : List Sys2Proof.Byte) (a3 : List Sys2Proof.Byte) (a4 : List Sys2Proof.Byte)  (h0 : Mode s0 s) : Mode s0 (helloNew s a1 a2 a3 a4) := by
  unfold helloNew
  exact (by
      extract_lets v2
      exact (by
        split
        · rename_i x3 x4 e5
          exact (by
            split
            · rename_i x6 x7 e8
              exact (mode_hcpWire _ _ _ h0)
            · rename_i x9 e10
              exact h0)
        · rename_i x11 e12
          exact (mode_ite (mode_refuseHello _ _ _ _ _ _ h0) (by
            split
            · rename_i x13 e14
              exact (mode_refuseHello _ _ _ _ _ _ h0)
            · rename_i x15 x16 e17
              exact (by
                split
                · rename_i x24 e25
                  exact (mode_refuseHello _ _ _ _ _ _ h0)
                · rename_i x26 x27 e28
                  exact (mode_hcpAnswer _ _ _ _ _ _ _ (mode_setSession _ _ _ h0)))))))

theorem mode_helloAgain {s0 : State} (s : State) (a1 : Nat) (a2 : List Sys2Proof.Byte)  (h0 : Mode s0 s) : Mode s0 (helloAgain s a1 a2).2.2 := by
  unfold helloAgain
  exact (mode_pr_ite (f := fun x : _ × _ × State => x.2.2) h0 (by
      split
      · rename_i x18 x19 x20 x21 e22 e23
        exact (mode_snd_snd (mode_setSession _ _ _ h0))
      · rename_i x29 x30 e31
        exact h0))

theorem mode_readWords {s0 : State} (s : State) (a1 : Nat) (a2 : Nat) (a3 : Nat) (a4 : Nat)  (h0 : Mode s0 s) : Mode s0 (readWords s a1 a2 a3 a4).2 := by
  induction a4 generalizing s a1 a2 a3 with
  | zero =>
    unfold readWords
    exact h0
  | succ k ih =>
    unfold readWords
    exact (by
        split
        · rename_i x34 x35 t36 e37
          exact (by
            split
            · rename_i x38 x39 t40 e41
              exact (mode_snd (mode_snd_eq e41 (ih _ _ _ _ (mode_snd_eq e37 (mode_pr_ite (f := Prod.snd) (mode_read64 _ _ _ h0) (mode_read32 _ _ _ h0))))))))

theorem mode_writeWords {s0 : State} (s : State) (a1 : Nat) (a2 : Nat) (a3 : Nat) (a4 : Nat) (a5 : List Sys2Proof.Byte) (a6 : Nat)  (h0 : Mode s0 s) : Mode s0 (writeWords s a1 a2 a3 a4 a5 a6) := by
  induction a6 generalizing s a1 a2 a3 a4 a5 with
  | zero =>
    unfold writeWords
    exact h0
  | succ k ih =>
    unfold writeWords
    exact (ih _ _ _ _ _ _ (mode_writeReg _ _ _ _ _ _ h0))

theorem mode_hcpRead {s0 : State} (s : State) (a1 : Nat) (a2 : List Sys2Proof.Byte)  (h0 : Mode s0 s) : Mode s0 (hcpRead s a1 a2).2.2 := by
  unfold hcpRead
  exact (by
      extract_lets v32 v33
      exact (mode_pr_ite (f := fun x : _ × _ × State => x.2.2) h0 (mode_pr_ite (f := fun x : _ × _ × State => x.2.2) h0 (by
        split
        · rename_i x42 x43 t44 e45
          exact (mode_snd_snd (mode_snd_eq e45 (mode_readWords _ _ _ _ _ h0)))))))

theorem mode_hcpWrite {s0 : State} (s : State) (a1 : Nat) (a2 : Session) (a3 : List Sys2Proof.Byte)  (h0 : Mode s0 s) : Mode s0 (hcpWrite s a1 a2 a3).2.2 := by
  unfold hcpWrite
  exact (by
      extract_lets v46 v47
      exact (mode_pr_ite (f := fun x : _ × _ × State => x.2.2) h0 (mode_pr_ite (f := fun x : _ × _ × State => x.2.2) h0 (mode_snd_snd (mode_writeWords _ _ _ _ _ _ _ h0)))))

theorem mode_putSubs {s0 : State} (s : State) (a1 : Nat) (a2 : Nat) (a3 : List Sys2Proof.Byte) (a4 : Nat)  (h0 : Mode s0 s) : Mode s0 (putSubs s a1 a2 a3 a4) := by
  induction a4 generalizing s a1 a2 a3 with
  | zero =>
    unfold putSubs
    exact h0
  | succ k ih =>
    unfold putSubs
    exact (ih _ _ _ _ (mode_hbmPoke _ _ _ _ h0))

theorem mode_hcpSubmit {s0 : State} (s : State) (a1 : List Sys2Proof.Byte)  (h0 : Mode s0 s) : Mode s0 (hcpSubmit s a1).2.2 := by
  unfold hcpSubmit
  exact (by
      extract_lets v48 v49 v50
      exact (mode_pr_ite (f := fun x : _ × _ × State => x.2.2) h0 (mode_pr_ite (f := fun x : _ × _ × State => x.2.2) h0 (mode_pr_ite (f := fun x : _ × _ × State => x.2.2) (mode_snd_snd (mode_raise _ _ _ (mode_badDoorbell _ _ h0))) (mode_pr_ite (f := fun x : _ × _ × State => x.2.2) h0 (mode_pr_ite (f := fun x : _ × _ × State => x.2.2) (mode_snd_snd (mode_raise _ _ _ h0)) (mode_snd_snd (mode_setProd _ _ _ (mode_putSubs _ _ _ _ _ h0)))))))))

theorem mode_hcpCons {s0 : State} (s : State) (a1 : List Sys2Proof.Byte)  (h0 : Mode s0 s) : Mode s0 (hcpCons s a1).2.2 := by
  unfold hcpCons
  exact (by
      extract_lets v51 v52
      exact (mode_pr_ite (f := fun x : _ × _ × State => x.2.2) h0 (mode_pr_ite (f := fun x : _ × _ × State => x.2.2) (mode_snd_snd (mode_raise _ _ _ (mode_badDoorbell _ _ h0))) (mode_snd_snd (mode_moveCons _ _ _ h0)))))

theorem mode_xferImage {s0 : State} (s : State) (a1 : Nat) (a2 : List Sys2Proof.Byte)  (h0 : Mode s0 s) : Mode s0 (xferImage s a1 a2).2.2 := by
  unfold xferImage
  exact (by
      extract_lets v53 v54
      have h55 : Mode s0 v54 := (mode_ite (mode_wrDigest _ _ _ h0) h0)
      clear_value v54
      exact (mode_pr_ite (f := fun x : _ × _ × State => x.2.2) h0 (mode_pr_ite (f := fun x : _ × _ × State => x.2.2) h0 (mode_pr_ite (f := fun x : _ × _ × State => x.2.2) h0 (mode_snd_snd (mode_setStaged _ _ h55))))))

theorem mode_hcpXfer {s0 : State} (s : State) (a1 : Session) (a2 : List Sys2Proof.Byte)  (h0 : Mode s0 s) : Mode s0 (hcpXfer s a1 a2).2.2 := by
  unfold hcpXfer
  exact (by
      extract_lets v56
      exact (mode_pr_ite (f := fun x : _ × _ × State => x.2.2) h0 (mode_pr_ite (f := fun x : _ × _ × State => x.2.2) h0 (mode_pr_ite (f := fun x : _ × _ × State => x.2.2) (mode_pr_ite (f := fun x : _ × _ × State => x.2.2) (mode_xferImage _ _ _ h0) h0) (by
        split
        · rename_i x73 x74 t75 e76
          exact (mode_snd_snd (mode_snd_eq e76 (mode_stageFw _ _ _ h0))))))))

theorem mode_hcpChallenge {s0 : State} (s : State) (a1 : Nat) (a2 : List Sys2Proof.Byte)  (h0 : Mode s0 s) : Mode s0 (hcpChallenge s a1 a2).2.2 := by
  unfold hcpChallenge
  exact (mode_pr_ite (f := fun x : _ × _ × State => x.2.2) h0 (by
      split
      · rename_i x57 x58 t59 e60
        exact (by
          split
          · rename_i x66 e67
            exact (mode_snd_snd (mode_snd_eq e60 (mode_random _ _ h0)))
          · rename_i x77 x78 e79
            exact (mode_snd_snd (mode_setSession _ _ _ (mode_snd_eq e60 (mode_random _ _ h0)))))))

theorem mode_useChallenge {s0 : State} (s : State) (a1 : Nat)  (h0 : Mode s0 s) : Mode s0 (useChallenge s a1).2 := by
  unfold useChallenge
  exact (by
      split
      · rename_i x61 e62
        exact h0
      · rename_i x63 x64 e65
        exact (mode_snd (mode_setSession _ _ _ h0)))

theorem mode_grant {s0 : State} (s : State) (a1 : Nat) (a2 : Session → Session)  (h0 : Mode s0 s) : Mode s0 (grant s a1 a2) := by
  unfold grant
  exact (by
      split
      · rename_i x68 e69
        exact h0
      · rename_i x70 x71 e72
        exact (mode_setSession _ _ _ h0))

theorem mode_hcpAuth {s0 : State} (s : State) (a1 : Nat) (a2 : List Sys2Proof.Byte)  (h0 : Mode s0 s) : Mode s0 (hcpAuth s a1 a2).2.2 := by
  unfold hcpAuth
  exact (mode_pr_ite (f := fun x : _ × _ × State => x.2.2) h0 (mode_pr_ite (f := fun x : _ × _ × State => x.2.2) (mode_snd_snd (mode_raise _ _ _ h0)) (by
      split
      · rename_i x87 x88 t89 e90
        exact (by
          split
          · rename_i x92
            exact (mode_snd_snd (mode_raise _ _ _ (mode_snd_eq e90 (mode_useChallenge _ _ h0))))
          · rename_i x93 x94
            exact (by
              split
              · rename_i x96 e97
                exact (mode_snd_snd (mode_snd_eq e90 (mode_useChallenge _ _ h0)))
              · rename_i x103 x104 e105
                exact (mode_pr_ite (f := fun x : _ × _ × State => x.2.2) (mode_snd_snd (mode_grant _ _ _ (mode_snd_eq e90 (mode_useChallenge _ _ h0)))) (mode_snd_snd (mode_snd_eq e90 (mode_useChallenge _ _ h0)))))))))

theorem mode_hcpReport {s0 : State} (s : State) (a1 : Nat) (a2 : List Sys2Proof.Byte)  (h0 : Mode s0 s) : Mode s0 (hcpReport s a1 a2).2.2 := by
  unfold hcpReport
  exact (mode_pr_ite (f := fun x : _ × _ × State => x.2.2) h0 (mode_pr_ite (f := fun x : _ × _ × State => x.2.2) (mode_snd_snd (mode_raise _ _ _ h0)) (mode_snd_snd (mode_grant _ _ _ h0))))

theorem mode_hcpGet {s0 : State} (s : State) (a1 : Session) (a2 : List Sys2Proof.Byte)  (h0 : Mode s0 s) : Mode s0 (hcpGet s a1 a2).2.2 := by
  unfold hcpGet
  exact (by
      extract_lets v80 v81
      exact (mode_pr_ite (f := fun x : _ × _ × State => x.2.2) h0 (mode_pr_ite (f := fun x : _ × _ × State => x.2.2) (mode_pr_ite (f := fun x : _ × _ × State => x.2.2) (mode_snd_snd (mode_raise _ _ _ h0)) h0) (mode_pr_ite (f := fun x : _ × _ × State => x.2.2) h0 (mode_pr_ite (f := fun x : _ × _ × State => x.2.2) (mode_snd_snd (mode_raise _ _ _ h0)) h0)))))

theorem mode_resetOwner {s0 : State} (s : State)  (h0 : Mode s0 s) : Mode s0 (resetOwner s) := by
  unfold resetOwner
  exact (by
      extract_lets v82 v83 v84
      have h85 : Mode s0 v83 := (mode_setFlash _ h0)
      clear_value v83
      have h86 : Mode s0 v84 := (mode_rawOwner _ h85)
      clear_value v84
      exact (mode_eraseKeys _ (mode_wrBits _ _ _ _ _ h86)))

theorem mode_hcpUnlock {s0 : State} (s : State) (a1 : Nat) (a2 : Session) (a3 : List Sys2Proof.Byte)  (h0 : Mode s0 s) : Mode s0 (hcpUnlock s a1 a2 a3).2.2 := by
  unfold hcpUnlock
  exact (by
      extract_lets v91
      exact (mode_pr_ite (f := fun x : _ × _ × State => x.2.2) h0 (mode_pr_ite (f := fun x : _ × _ × State => x.2.2) (mode_snd_snd (mode_raise _ _ _ h0)) (by
        split
        · rename_i x99 x100 t101 e102
          exact (by
            split
            · rename_i x110
              exact (mode_snd_snd (mode_raise _ _ _ (mode_snd_eq e102 (mode_useChallenge _ _ h0))))
            · rename_i x111 x112
              exact (by
                split
                · rename_i x144 e145
                  exact (mode_snd_snd (mode_snd_eq e102 (mode_useChallenge _ _ h0)))
                · rename_i x151 x152 x153 e154
                  exact (mode_pr_ite (f := fun x : _ × _ × State => x.2.2) (mode_snd_snd (mode_snd_eq e102 (mode_useChallenge _ _ h0))) (by
                    extract_lets v164 v165 v166 v167
                    have h168 : Mode s0 v164 := (mode_ite (mode_eraseKeys _ (mode_snd_eq e102 (mode_useChallenge _ _ h0))) (mode_snd_eq e102 (mode_useChallenge _ _ h0)))
                    clear_value v164
                    have h170 : Mode s0 v166 := (mode_setDrk _ h168)
                    clear_value v166
                    have h173 : Mode s0 v167 := (mode_ite (mode_resetOwner _ h170) h170)
                    clear_value v167
                    exact (mode_snd_snd (mode_grant _ _ _ h173))))))))))

theorem mode_hcpLock {s0 : State} (s : State) (a1 : Nat) (a2 : List Sys2Proof.Byte)  (h0 : Mode s0 s) : Mode s0 (hcpLock s a1 a2).2.2 := by
  unfold hcpLock
  exact (mode_pr_ite (f := fun x : _ × _ × State => x.2.2) h0 (mode_snd_snd (mode_grant _ _ _ h0)))

theorem mode_debugGet {s0 : State} (s : State) (a1 : Nat) (a2 : Nat)  (h0 : Mode s0 s) : Mode s0 (debugGet s a1 a2).2 := by
  unfold debugGet
  exact (by
      extract_lets v95
      exact (mode_pr_ite (f := Prod.snd) h0 (mode_pr_ite (f := Prod.snd) h0 (by
        split
        · rename_i x117
          exact h0
        · rename_i x118
          exact h0
        · rename_i x119
          exact h0
        · rename_i x120
          exact h0
        · rename_i x124
          exact h0
        · rename_i x125 e126 e127 e128 e129 e130
          exact (by
            split
            · rename_i x132 x133 t134 e135
              exact (mode_snd (mode_snd_eq e135 (mode_fresh h0))))))))

theorem mode_debugPut {s0 : State} (s : State) (a1 : Nat) (a2 : Nat) (a3 : Nat)  (h0 : Mode s0 s) : Mode s0 (debugPut s a1 a2 a3) := by
  unfold debugPut
  exact (by
      extract_lets v98
      exact (mode_ite (mode_setCpu _ _ _ h0) (by
        split
        · rename_i x131
          exact (mode_setCpu _ _ _ h0)
        · rename_i x136
          exact (mode_setCpu _ _ _ h0)
        · rename_i x137
          exact (mode_setCpu _ _ _ h0)
        · rename_i x138
          exact (mode_setCpu _ _ _ h0)
        · rename_i x139 e140 e141 e142 e143
          exact h0)))

theorem mode_debugStep {s0 : State} (s : State) (a1 : Nat)  (h0 : Mode s0 s) : Mode s0 (debugStep s a1) := by
  unfold debugStep
  exact (by
      split
      · rename_i x106 x107 t108 e109
        exact (by
          split
          · rename_i x113 x114 t115 e116
            exact (by
              extract_lets v121 v122 v123
              exact (mode_setCpu _ _ _ (mode_rawFree _ (mode_snd_eq e116 (mode_fresh (mode_snd_eq e109 (mode_fresh h0)))))))))

theorem mode_debugCpu {s0 : State} (s : State) (a1 : Nat) (a2 : List Sys2Proof.Byte)  (h0 : Mode s0 s) : Mode s0 (debugCpu s a1 a2).2.2 := by
  unfold debugCpu
  exact (by
      extract_lets v146 v147 v148
      exact (mode_pr_ite (f := fun x : _ × _ × State => x.2.2) h0 (mode_pr_ite (f := fun x : _ × _ × State => x.2.2) h0 (by
        split
        · rename_i x169
          exact (mode_snd_snd (mode_setCpu _ _ _ h0))
        · rename_i x171
          exact (mode_snd_snd (mode_fastTrap _ _ (mode_setCpu _ _ _ h0)))
        · rename_i x172
          exact (mode_snd_snd (mode_debugStep _ _ h0))
        · rename_i x174
          exact (by
            split
            · rename_i x175 x176 t177 e178
              exact (mode_snd_snd (mode_snd_eq e178 (mode_debugGet _ _ _ h0))))
        · rename_i x179 e180 e181 e182 e183
          exact (mode_snd_snd (mode_debugPut _ _ _ _ h0))))))

theorem mode_debugMem {s0 : State} (s : State) (a1 : List Sys2Proof.Byte)  (h0 : Mode s0 s) : Mode s0 (debugMem s a1).2.2 := by
  unfold debugMem
  exact (by
      extract_lets v149 v150
      exact (mode_pr_ite (f := fun x : _ × _ × State => x.2.2) h0 (by
        split
        · rename_i x155 x156 e157
          exact h0
        · rename_i x158 x159 e160
          exact h0)))

theorem mode_hcpDebug {s0 : State} (s : State) (a1 : Session) (a2 : List Sys2Proof.Byte)  (h0 : Mode s0 s) : Mode s0 (hcpDebug s a1 a2).2.2 := by
  unfold hcpDebug
  exact (by
      extract_lets v161
      exact (mode_pr_ite (f := fun x : _ × _ × State => x.2.2) h0 (mode_pr_ite (f := fun x : _ × _ × State => x.2.2) (mode_pr_ite (f := fun x : _ × _ × State => x.2.2) (mode_debugMem _ _ h0) h0) (mode_pr_ite (f := fun x : _ × _ × State => x.2.2) (mode_debugCpu _ _ _ h0) h0))))

theorem mode_hcpExec {s0 : State} (s : State) (a1 : Nat) (a2 : Session) (a3 : List Sys2Proof.Byte)  (h0 : Mode s0 s) : Mode s0 (hcpExec s a1 a2 a3).2.2 := by
  unfold hcpExec
  exact (by
      extract_lets v162 v163
      exact (mode_pr_ite (f := fun x : _ × _ × State => x.2.2) h0 (mode_pr_ite (f := fun x : _ × _ × State => x.2.2) h0 (by
        split
        · rename_i x237 e238
          exact (mode_helloAgain _ _ _ h0)
        · rename_i x239 e240
          exact (mode_pr_ite (f := fun x : _ × _ × State => x.2.2) h0 h0)
        · rename_i x244 e245
          exact (mode_hcpRead _ _ _ h0)
        · rename_i x246 e247
          exact (mode_hcpWrite _ _ _ _ h0)
        · rename_i x248 e249
          exact (mode_hcpSubmit _ _ h0)
        · rename_i x250 e251
          exact (mode_hcpCons _ _ h0)
        · rename_i x252 e253
          exact (mode_hcpChallenge _ _ _ h0)
        · rename_i x254 e255
          exact (mode_hcpAuth _ _ _ h0)
        · rename_i x256 e257
          exact (mode_hcpReport _ _ _ h0)
        · rename_i x258 e259
          exact (mode_hcpGet _ _ _ h0)
        · rename_i x260 e261
          exact (mode_hcpUnlock _ _ _ _ h0)
        · rename_i x262 e263
          exact (mode_hcpLock _ _ _ h0)
        · rename_i x264 e265
          exact (mode_hcpDebug _ _ _ h0)
        · rename_i x268 e269 e270 e271 e272 e273 e274 e275 e276 e277 e278 e279 e280 e281
          exact (mode_hcpXfer _ _ _ h0)))))

theorem mode_drainQueue {s0 : State} (s : State) (a1 : Nat) (a2 : Nat)  (h0 : Mode s0 s) : Mode s0 (drainQueue s a1 a2) := by
  induction a2 generalizing s a1 with
  | zero =>
    unfold drainQueue
    exact h0
  | succ k ih =>
    unfold drainQueue
    exact (by
        split
        · rename_i x203 e204
          exact h0
        · rename_i x205 x206 e207
          exact (by
            split
            · rename_i x213 e215
              exact h0
            · rename_i x217 x218 x219 x220 x221 x222 x223 e224
              exact (mode_ite (ih _ _ (mode_hcpAnswer _ _ _ _ _ _ _ (mode_setSession _ _ _ h0))) h0)))

theorem mode_ackMessages {s0 : State} (s : State) (a1 : Nat) (a2 : Nat)  (h0 : Mode s0 s) : Mode s0 (ackMessages s a1 a2) := by
  unfold ackMessages
  exact (by
      split
      · rename_i x184 e185
        exact h0
      · rename_i x186 x187 e188
        exact (mode_drainQueue _ _ _ (mode_setSession _ _ _ h0)))

theorem mode_hcpNext {s0 : State} (s : State) (a1 : Nat) (a2 : Session) (a3 : List Sys2Proof.Byte)  (h0 : Mode s0 s) : Mode s0 (hcpNext s a1 a2 a3) := by
  unfold hcpNext
  exact (by
      extract_lets v189
      have h190 : Mode s0 v189 := (mode_setSession _ _ _ h0)
      clear_value v189
      exact (mode_ite h190 (by
        split
        · rename_i x191 x192 x193 t194 e195
          exact (by
            extract_lets v196
            have h197 : Mode s0 v196 := (mode_hcpAnswer _ _ _ _ _ _ _ (mode_portCode _ _ _ (mode_snd_snd_eq e195 (mode_hcpExec _ _ _ _ h190))))
            clear_value v196
            exact (mode_ite (mode_closeSession _ _ h197) h197)))))

theorem mode_drainEarly {s0 : State} (s : State) (a1 : Nat) (a2 : Nat)  (h0 : Mode s0 s) : Mode s0 (drainEarly s a1 a2) := by
  induction a2 generalizing s a1 with
  | zero =>
    unfold drainEarly
    exact h0
  | succ k ih =>
    unfold drainEarly
    exact (by
        split
        · rename_i x214 e216
          exact h0
        · rename_i x225 x226 e227
          exact (by
            split
            · rename_i x233 e234
              exact h0
            · rename_i x235 e236
              exact (ih _ _ (mode_hcpNext _ _ _ _ h0))))

theorem mode_hcpMessage {s0 : State} (s : State) (a1 : Nat) (a2 : Session) (a3 : List Sys2Proof.Byte)  (h0 : Mode s0 s) : Mode s0 (hcpMessage s a1 a2 a3) := by
  unfold hcpMessage
  exact (by
      extract_lets v198 v199
      have h200 : Mode s0 v198 := (mode_setSession _ _ _ h0)
      clear_value v198
      have h201 : Mode s0 v199 := (mode_ite (mode_ackMessages _ _ _ h200) h200)
      clear_value v199
      exact (by
        split
        · rename_i x266 e267
          exact h201
        · rename_i x282 x283 e284
          exact (mode_ite h201 (mode_ite (by
            split
            · rename_i x285 e286
              exact (mode_setSession _ _ _ h201)
            · rename_i x299 e300
              exact (mode_hcpWire _ _ _ h201)) (mode_ite (mode_drainEarly _ _ _ (mode_hcpNext _ _ _ _ h201)) (mode_ite (mode_setSession _ _ _ h201) h201))))))

theorem mode_hcpFrame {s0 : State} (s : State) (a1 : Nat) (a2 : Nat) (a3 : List Sys2Proof.Byte)  (h0 : Mode s0 s) : Mode s0 (hcpFrame s a1 a2 a3) := by
  unfold hcpFrame
  exact (by
      extract_lets v202
      exact (mode_ite h0 (mode_ite (mode_rxDrop _ _ h0) (by
        split
        · rename_i x208 e209
          exact (mode_rxDrop _ _ h0)
        · rename_i x210 x211 e212
          exact (by
            split
            · rename_i x228 e229
              exact (mode_rxDrop _ _ h0)
            · rename_i x230 x231 e232
              exact (mode_ite h0 (by
                split
                · rename_i x241 x242 e243
                  exact (mode_hcpMessage _ _ _ _ h0)
                · rename_i x309 e310
                  exact (mode_ite (mode_helloNew _ _ _ _ _ h0) (mode_ite (mode_refuseHello _ _ _ _ _ _ h0) (mode_rxDrop _ _ h0))))))))))

theorem mode_execHello {s0 : State} (a0 : Nat) (a1 : List Sys2Proof.Byte) (s : State)  (h0 : Mode s0 s) : ModeOut s0 (execHello a0 a1 s) := by
  unfold execHello
  exact (mode_out (mode_hcpFrame _ _ _ _ h0))

theorem mode_execClose {s0 : State} (a0 : Nat) (a1 : List Sys2Proof.Byte) (s : State)  (h0 : Mode s0 s) : ModeOut s0 (execClose a0 a1 s) := by
  unfold execClose
  exact (mode_out (mode_hcpFrame _ _ _ _ h0))

theorem mode_execAck {s0 : State} (a0 : Nat) (a1 : List Sys2Proof.Byte) (s : State)  (h0 : Mode s0 s) : ModeOut s0 (execAck a0 a1 s) := by
  unfold execAck
  exact (mode_out (mode_hcpFrame _ _ _ _ h0))

theorem mode_execRead {s0 : State} (a0 : Nat) (a1 : List Sys2Proof.Byte) (s : State)  (h0 : Mode s0 s) : ModeOut s0 (execRead a0 a1 s) := by
  unfold execRead
  exact (mode_out (mode_hcpFrame _ _ _ _ h0))

theorem mode_execWrite {s0 : State} (a0 : Nat) (a1 : List Sys2Proof.Byte) (s : State)  (h0 : Mode s0 s) : ModeOut s0 (execWrite a0 a1 s) := by
  unfold execWrite
  exact (mode_out (mode_hcpFrame _ _ _ _ h0))

theorem mode_execSubmit {s0 : State} (a0 : Nat) (a1 : List Sys2Proof.Byte) (s : State)  (h0 : Mode s0 s) : ModeOut s0 (execSubmit a0 a1 s) := by
  unfold execSubmit
  exact (mode_out (mode_hcpFrame _ _ _ _ h0))

theorem mode_execCons {s0 : State} (a0 : Nat) (a1 : List Sys2Proof.Byte) (s : State)  (h0 : Mode s0 s) : ModeOut s0 (execCons a0 a1 s) := by
  unfold execCons
  exact (mode_out (mode_hcpFrame _ _ _ _ h0))

theorem mode_execXferImage {s0 : State} (a0 : Nat) (a1 : List Sys2Proof.Byte) (s : State)  (h0 : Mode s0 s) : ModeOut s0 (execXferImage a0 a1 s) := by
  unfold execXferImage
  exact (mode_out (mode_hcpFrame _ _ _ _ h0))

theorem mode_execXferFirmware {s0 : State} (a0 : Nat) (a1 : List Sys2Proof.Byte) (s : State)  (h0 : Mode s0 s) : ModeOut s0 (execXferFirmware a0 a1 s) := by
  unfold execXferFirmware
  exact (mode_out (mode_hcpFrame _ _ _ _ h0))

theorem mode_execChallenge {s0 : State} (a0 : Nat) (a1 : List Sys2Proof.Byte) (s : State)  (h0 : Mode s0 s) : ModeOut s0 (execChallenge a0 a1 s) := by
  unfold execChallenge
  exact (mode_out (mode_hcpFrame _ _ _ _ h0))

theorem mode_execAuth {s0 : State} (a0 : Nat) (a1 : List Sys2Proof.Byte) (s : State)  (h0 : Mode s0 s) : ModeOut s0 (execAuth a0 a1 s) := by
  unfold execAuth
  exact (mode_out (mode_hcpFrame _ _ _ _ h0))

theorem mode_execReport {s0 : State} (a0 : Nat) (a1 : List Sys2Proof.Byte) (s : State)  (h0 : Mode s0 s) : ModeOut s0 (execReport a0 a1 s) := by
  unfold execReport
  exact (mode_out (mode_hcpFrame _ _ _ _ h0))

theorem mode_execGetPart {s0 : State} (a0 : Nat) (a1 : List Sys2Proof.Byte) (s : State)  (h0 : Mode s0 s) : ModeOut s0 (execGetPart a0 a1 s) := by
  unfold execGetPart
  exact (mode_out (mode_hcpFrame _ _ _ _ h0))

theorem mode_execUnlock {s0 : State} (a0 : Nat) (a1 : List Sys2Proof.Byte) (s : State)  (h0 : Mode s0 s) : ModeOut s0 (execUnlock a0 a1 s) := by
  unfold execUnlock
  exact (mode_out (mode_hcpFrame _ _ _ _ h0))

theorem mode_execLockDebug {s0 : State} (a0 : Nat) (a1 : List Sys2Proof.Byte) (s : State)  (h0 : Mode s0 s) : ModeOut s0 (execLockDebug a0 a1 s) := by
  unfold execLockDebug
  exact (mode_out (mode_hcpFrame _ _ _ _ h0))

theorem mode_execDebugAccess {s0 : State} (a0 : Nat) (a1 : List Sys2Proof.Byte) (s : State)  (h0 : Mode s0 s) : ModeOut s0 (execDebugAccess a0 a1 s) := by
  unfold execDebugAccess
  exact (mode_out (mode_hcpFrame _ _ _ _ h0))

theorem mode_execHcpRetransmit {s0 : State} (a0 : Nat) (s : State)  (h0 : Mode s0 s) : ModeOut s0 (execHcpRetransmit a0 s) := by
  unfold execHcpRetransmit
  exact (mode_out (by
      split
      · rename_i x288 e290
        exact h0
      · rename_i x294 x295 e296
        exact (by
          extract_lets v297 v298
          exact (mode_ite h0 (mode_ite (mode_closeSession _ _ h0) (mode_foldl (fun t301 x302 h303 => (mode_hcpWire _ _ _ h303)) (mode_setSession _ _ _ h0)))))))

theorem mode_execHcpAckTimer {s0 : State} (a0 : Nat) (s : State)  (h0 : Mode s0 s) : ModeOut s0 (execHcpAckTimer a0 s) := by
  unfold execHcpAckTimer
  exact (mode_out (by
      split
      · rename_i x287 e289
        exact h0
      · rename_i x291 x292 e293
        exact (mode_ite h0 (mode_hcpWire _ _ _ (mode_setSession _ _ _ h0)))))

theorem mode_execSessionIdle {s0 : State} (a0 : Nat) (s : State)  (h0 : Mode s0 s) : ModeOut s0 (execSessionIdle a0 s) := by
  unfold execSessionIdle
  exact (mode_out (by
      split
      · rename_i x304 e305
        exact h0
      · rename_i x306 x307 e308
        exact (mode_ite (mode_closeSession _ _ h0) h0)))

/-! ### Machine/Motion.lean -/

theorem mode_motFault {s0 : State} (s : State) (a1 : Nat) (a2 : Nat) (a3 : Nat) (a4 : Abort)  (h0 : Mode s0 s) : Mode s0 (motFault s a1 a2 a3 a4) := by
  unfold motFault
  exact (by
      extract_lets v0 v1
      have h2 : Mode s0 v0 := (mode_wr32 _ _ _ h0)
      clear_value v0
      have h7 : Mode s0 v1 := (mode_arrive _ _ _ (mode_raise _ _ _ h2))
      clear_value v1
      exact (mode_unitAbort _ _ _ _ h7))

theorem mode_fetchRows {s0 : State} (s : State) (a1 : Nat) (a2 : Fetch) (a3 : Nat) (a4 : Nat)  (h0 : Mode s0 s) : ModeE (fun x => x) s0 (fetchRows s a1 a2 a3 a4) := by
  unfold fetchRows
  exact (by
      extract_lets v3 v4
      exact (modeE_bind (fun t5 x6 => (modeE_pure (mode_wr32 _ _ _ (modeE_get (f := fun x => x) x6 (modeE_foldlM (fun t8 x9 h10 => (modeE_foldlM (fun t11 x12 h13 => (modeE_bind (fun x14 x15 => (modeE_mapError (mode_storeWrite _ _ _ _ h13))))) h10)) h0)))))))

theorem mode_searchRow {s0 : State} (s : State) (a1 : Nat) (a2 : Nat) (a3 : Nat) (a4 : Nat) (a5 : Sys2Proof.W128) (a6 : Nat)  (h0 : Mode s0 s) : ModeE (fun x => x) s0 (searchRow s a1 a2 a3 a4 a5 a6) := by
  unfold searchRow
  exact (modeE_bind (fun x16 x17 => (modeE_bind (fun x18 x19 => (modeE_bind (fun x20 x21 => (modeE_bind (fun x24 x25 => (by
      split
      · rename_i x29 x30 x31 e32
        exact (by
          extract_lets v33 v34 v35 v36
          exact (modeE_bind (fun t37 x38 => (by
            split
            · rename_i x39 x40 x41 e42
              exact (modeE_bind (fun t43 x44 => (modeE_bind (fun x47 x48 => (modeE_ite (mode_fetchRows _ _ _ _ _ (modeE_get (f := fun x => x) x44 (modeE_foldlM (fun t54 x56 h57 => (by
                extract_lets v58
                exact (modeE_bind (fun x61 x62 => (by
                  split
                  · rename_i x70 x71 x72 x73
                    exact (modeE_bind (fun x83 x85 => (mode_storeWrite _ _ _ _ h57)))))))) (modeE_get (f := fun x => x) x38 (mode_fetchRows _ _ _ _ _ h0))))) (modeE_pure (modeE_get (f := fun x => x) x44 (modeE_foldlM (fun t122 x123 h124 => (by
                extract_lets v125
                exact (modeE_bind (fun x126 x127 => (by
                  split
                  · rename_i x138 x139 x140 x141
                    exact (modeE_bind (fun x149 x150 => (mode_storeWrite _ _ _ _ h124)))))))) (modeE_get (f := fun x => x) x38 (mode_fetchRows _ _ _ _ _ h0)))))))))))))))))))))))

theorem mode_noteVecs {s0 : State} (s : State) (a1 : Nat) (a2 : Nat) (a3 : Nat) (a4 : Nat) (a5 : Nat) (a6 : Bool)  (h0 : Mode s0 s) : ModeE (fun x => x) s0 (noteVecs s a1 a2 a3 a4 a5 a6) := by
  unfold noteVecs
  exact (modeE_ite (modeE_ok h0) (modeE_bind (fun x22 x23 => (modeE_bind (fun x26 x27 => (by
      extract_lets v28
      exact (modeE_pure (mode_updTask _ _ _ _ h0))))))))

theorem mode_setMotStatus {s0 : State} (s : State) (a1 : Nat) (a2 : Nat) (a3 : Nat) (a4 : Nat) (a5 : Bool)  (h0 : Mode s0 s) : Mode s0 (setMotStatus s a1 a2 a3 a4 a5) := by
  unfold setMotStatus
  exact (mode_wr32 _ _ _ h0)

theorem mode_motIssue {s0 : State} (a0 : Nat) (a1 : Nat) (a2 : Sys2Proof.W128) (a3 : Nat) (a4 : State → State) (s : State) (f4 : ∀ t, Mode s0 t → Mode s0 (a4 t)) (h0 : Mode s0 s) : ModeOut s0 (motIssue a0 a1 a2 a3 a4 s) := by
  unfold motIssue
  exact (mode_out (mode_ite h0 (mode_issue _ _ _ _ _ _ _ _ _ _ (fun t45 h46 => (f4 _ h46)) h0)))

theorem mode_execMotSearch {s0 : State} (a0 : Nat) (a1 : Nat) (a2 : Sys2Proof.W128) (s : State)  (h0 : Mode s0 s) : ModeOut s0 (execMotSearch a0 a1 a2 s) := by
  unfold execMotSearch
  exact (mode_motIssue _ _ _ _ _ _ (fun t78 h79 => (by
      extract_lets v88 v89
      have h90 : Mode s0 v88 := (mode_wr32 _ _ _ h79)
      clear_value v88
      exact (mode_setMotStatus _ _ _ _ _ _ (mode_setCore _ _ _ h90)))) h0)

theorem mode_blockRow {s0 : State} (s : State) (a1 : Nat) (a2 : Nat) (a3 : Nat) (a4 : Nat) (a5 : Sys2Proof.W128) (a6 : Nat)  (h0 : Mode s0 s) : ModeE Prod.fst s0 (blockRow s a1 a2 a3 a4 a5 a6) := by
  unfold blockRow
  exact (modeE_bind (fun x49 x50 => (modeE_bind (fun t51 x52 => (modeE_bind (fun t53 x55 => (modeE_pure (mode_fst (modeE_get (f := fun x => x) x55 (mode_noteVecs _ _ _ _ _ _ _ (modeE_get (f := fun x => x) x52 (mode_searchRow _ _ _ _ _ _ _ h0))))))))))))

theorem mode_execBlockRowStart {s0 : State} (a0 : Nat) (s : State)  (h0 : Mode s0 s) : ModeOut s0 (execBlockRowStart a0 s) := by
  unfold execBlockRowStart
  exact (mode_out (by
      split
      · rename_i x76 e77
        exact h0
      · rename_i x80 x81 e82
        exact (mode_ite h0 (by
          extract_lets v91 v92
          exact (by
            split
            · rename_i x114 x115 e116
              exact (mode_motFault _ _ _ _ _ h0)
            · rename_i x118 e119
              exact h0
            · rename_i x120 e121
              exact (by
                split
                · rename_i x132 x133 e134
                  exact (mode_motFault _ _ _ _ _ h0)
                · rename_i x142 t143 x144 e145
                  exact (by
                    extract_lets v146 v147
                    have h148 : Mode s0 v146 := (mode_count64 _ _ _ (modeE_get (f := Prod.fst) e145 (mode_blockRow _ _ _ _ _ _ _ h0)))
                    clear_value v146
                    exact (mode_ite (mode_setMotStatus _ _ _ _ _ _ (mode_setCore _ _ _ h148)) (mode_setMotStatus _ _ _ _ _ _ (mode_setCore _ _ _ h148))))))))))

theorem mode_compRow {s0 : State} (s : State) (a1 : Nat) (a2 : Nat) (a3 : Sys2Proof.W128) (a4 : Nat)  (h0 : Mode s0 s) : ModeE (fun x => x) s0 (compRow s a1 a2 a3 a4) := by
  unfold compRow
  exact (modeE_bind (fun x59 x60 => (modeE_bind (fun x63 x64 => (modeE_bind (fun x65 x66 => (by
      extract_lets v67 v68 v69
      exact (modeE_bind (fun x74 x75 => (modeE_foldlM (fun t84 x86 h87 => (by
        split
        · rename_i x93 x94 x95 x96 x97
          exact (modeE_foldlM (fun t98 x99 h100 => (modeE_foldlM (fun t101 x102 h103 => (by
            extract_lets v104 v105
            exact (modeE_bind (fun x106 x107 => (modeE_ite (mode_storeWrite _ _ _ _ h103) (modeE_pure h103)))))) h100)) h87))) h0))))))))))

theorem mode_compRun {s0 : State} (a0 : Nat) (a1 : Nat) (a2 : Sys2Proof.W128) (s : State)  (h0 : Mode s0 s) : Mode s0 (compRun a0 a1 a2 s) := by
  unfold compRun
  exact (by
      extract_lets v108 v109 v110 v111 v112 v113
      have h117 : Mode s0 v108 := (mode_setMotStatus _ _ _ _ _ _ h0)
      clear_value v108
      exact (by
        unfold v113
        split
        · rename_i x128 x129 x130 e131
          exact (mode_motFault _ _ _ _ _ h117)
        · rename_i x135 t136 e137
          exact (mode_count64 _ _ _ (modeE_get (f := fun x => x) e137 (modeE_foldlM (fun t151 x152 h153 => (modeE_mapError (modeE_bind (fun t154 x155 => (modeE_ite (mode_noteVecs _ _ _ _ _ _ _ (modeE_get (f := fun x => x) x155 (mode_compRow _ _ _ _ _ h153))) (modeE_pure (modeE_get (f := fun x => x) x155 (mode_compRow _ _ _ _ _ h153)))))))) h117)))))

theorem mode_execMotCompensate {s0 : State} (a0 : Nat) (a1 : Nat) (a2 : Sys2Proof.W128) (s : State)  (h0 : Mode s0 s) : ModeOut s0 (execMotCompensate a0 a1 a2 s) := by
  unfold execMotCompensate
  exact (mode_motIssue _ _ _ _ _ _ (fun t156 h157 => (mode_compRun _ _ _ _ h157)) h0)

/-! ### Machine/Rate.lean -/

theorem mode_writeSlot {s0 : State} (s : State) (a1 : Nat) (a2 : Nat) (a3 : RSlot)  (h0 : Mode s0 s) : Mode s0 (writeSlot s a1 a2 a3) := by
  unfold writeSlot
  exact (by
      extract_lets v1 v2 v3 v4 v5 v6 v7
      have h8 : Mode s0 v1 := (mode_storePoke _ _ _ _ _ h0)
      clear_value v1
      have h20 : Mode s0 v2 := (mode_storePoke _ _ _ _ _ h8)
      clear_value v2
      have h23 : Mode s0 v3 := (mode_storePoke _ _ _ _ _ h20)
      clear_value v3
      have h25 : Mode s0 v4 := (mode_storePoke _ _ _ _ _ h23)
      clear_value v4
      have h26 : Mode s0 v5 := (mode_storePoke _ _ _ _ _ h25)
      clear_value v5
      have h27 : Mode s0 v6 := (mode_storePoke _ _ _ _ _ h26)
      clear_value v6
      have h28 : Mode s0 v7 := (mode_storePoke _ _ _ _ _ h27)
      clear_value v7
      exact (mode_storePoke _ _ _ _ _ h28))

theorem mode_showSlot {s0 : State} (s : State) (a1 : Nat) (a2 : Nat) (a3 : RSlot)  (h0 : Mode s0 s) : Mode s0 (showSlot s a1 a2 a3) := by
  unfold showSlot
  exact (by
      extract_lets v0
      exact (mode_wr64 _ _ _ (mode_wr64 _ _ _ h0)))

theorem mode_execRateUpdate {s0 : State} (a0 : Nat) (a1 : Nat) (s : State)  (h0 : Mode s0 s) : ModeOut s0 (execRateUpdate a0 a1 s) := by
  unfold execRateUpdate
  exact (mode_out (by
      extract_lets v9 v10 v11 v12 v13 v14 v15 v16 v17 v18
      have h19 : Mode s0 v11 := (mode_setCore _ _ _ h0)
      clear_value v11
      have h24 : Mode s0 v14 := (mode_showSlot _ _ _ _ (mode_writeSlot _ _ _ _ h19))
      clear_value v14
      have h29 : Mode s0 v16 := (mode_ite (mode_count64 _ _ _ h24) h24)
      clear_value v16
      have h30 : Mode s0 v17 := (mode_ite (mode_count64 _ _ _ h29) h29)
      clear_value v17
      have h31 : Mode s0 v18 := (mode_ite (mode_count64 _ _ _ h30) h30)
      clear_value v18
      exact (mode_ite h0 (by
        split
        · rename_i x32 x33 e34
          exact (mode_ite (mode_unitAbort _ _ _ _ h19) h19)
        · rename_i x35 x36 e37
          exact (mode_ite (mode_semSignal _ _ _ _ _ (mode_updTask _ _ _ _ h31)) h31)))))

theorem mode_openSlot {s0 : State} (s : State) (a1 : Nat) (a2 : Nat)  (h0 : Mode s0 s) : Mode s0 (openSlot s a1 a2) := by
  unfold openSlot
  exact (mode_wrBits _ _ _ _ _ (mode_setCore _ _ _ h0))

theorem mode_fillSlot {s0 : State} (s : State) (a1 : Nat) (a2 : Nat) (a3 : Task)  (h0 : Mode s0 s) : Mode s0 (fillSlot s a1 a2 a3) := by
  unfold fillSlot
  exact (by
      extract_lets v21
      have h22 : Mode s0 v21 := (mode_openSlot _ _ _ (mode_storePoke _ _ _ _ _ h0))
      clear_value v21
      exact (mode_showSlot _ _ _ _ h22))

/-! ### Machine/TaskEnd.lean -/

theorem mode_occupy {s0 : State} (s : State) (a1 : Nat) (a2 : Nat) (a3 : Task) (a4 : SEntry)  (h0 : Mode s0 s) : Mode s0 (occupy s a1 a2 a3 a4) := by
  unfold occupy
  exact (by
      extract_lets v0 v1 v2
      have h3 : Mode s0 v1 := (mode_setCtx _ _ _ _ h0)
      clear_value v1
      have h9 : Mode s0 v2 := (mode_resetWalks _ _ _ (mode_setPc _ _ _ _ (mode_setSeqStatus _ _ _ _ _ h3)))
      clear_value v2
      exact (mode_storePoke _ _ _ _ _ h9))

theorem mode_startOn {s0 : State} (s : State) (a1 : Task) (a2 : Nat) (a3 : Nat) (a4 : SEntry)  (h0 : Mode s0 s) : Mode s0 (startOn s a1 a2 a3 a4).1 := by
  unfold startOn
  exact (by
      extract_lets v5 v6
      have h8 : Mode s0 v5 := h0
      clear_value v5
      exact (by
        split
        · rename_i x15 t16 x17 e18
          exact (by
            extract_lets v26 v27 v28 v29 v30
            have h31 : Mode s0 v29 := (mode_occupy _ _ _ _ _ (mode_fst_eq e18 (mode_takeTaskSlots _ _ _ (mode_setStr _ h0))))
            clear_value v29
            have h37 : Mode s0 v30 := (mode_ite (mode_substitute _ _ _ _ h31) h31)
            clear_value v30
            exact (mode_fst (mode_ite (mode_fillSlot _ _ _ _ h37) h37)))))

theorem mode_startStripe {s0 : State} (s : State) (a1 : Task) (a2 : Nat) (a3 : Nat) (a4 : SEntry)  (h0 : Mode s0 s) : Mode s0 (startStripe s a1 a2 a3 a4) := by
  unfold startStripe
  exact (by
      extract_lets v4
      have h7 : Mode s0 v4 := (mode_occupy _ _ _ _ _ h0)
      clear_value v4
      exact (mode_ite (mode_openSlot _ _ _ h7) h7))

theorem mode_execTaskStart {s0 : State} (a0 : Nat) (s : State)  (h0 : Mode s0 s) : ModeOut s0 (execTaskStart a0 s) := by
  unfold execTaskStart
  exact (mode_out (mode_ite h0 (by
      split
      · rename_i x10 e11
        exact h0
      · rename_i x12 x13 e14
        exact (by
          split
          · rename_i x19 e20
            exact h0
          · rename_i x21 x22 x23 x24 e25
            exact (mode_ite h0 (by
              split
              · rename_i x32 e33
                exact h0
              · rename_i x34 x35 e36
                exact (by
                  split
                  · rename_i x43 t44 x45 e46
                    exact (by
                      extract_lets v57
                      have h58 : Mode s0 v57 := (mode_foldl (fun t59 x60 h61 => (by
                        split
                        · rename_i x68 x69 x70 x71
                          exact (mode_startStripe _ _ _ _ _ h61))) (mode_fst_eq e46 (mode_startOn _ _ _ _ _ h0)))
                      clear_value v57
                      exact (mode_ite (mode_abortTask _ _ _ _ h58) h58)))))))))

theorem mode_execPeriodicStart {s0 : State} (a0 : Nat) (a1 : Nat) (s : State)  (h0 : Mode s0 s) : ModeOut s0 (execPeriodicStart a0 a1 s) := by
  unfold execPeriodicStart
  exact (mode_out (by
      split
      · rename_i x38 e39
        exact h0
      · rename_i x40 x41 e42
        exact (by
          split
          · rename_i x47 e48
            exact h0
          · rename_i x51 x52 e53
            exact (mode_ite h0 (by
              extract_lets v64 v65 v66
              have h67 : Mode s0 v65 := (mode_setCore _ _ _ h0)
              clear_value v65
              exact (mode_ite (mode_ite (mode_count64 _ _ _ h67) (mode_setCore _ _ _ h67)) (mode_startPeriodic _ _ _ _ (mode_setCore _ _ _ h67))))))))

theorem mode_execTaskOverrun {s0 : State} (a0 : Nat) (a1 : Nat) (s : State)  (h0 : Mode s0 s) : ModeOut s0 (execTaskOverrun a0 a1 s) := by
  unfold execTaskOverrun
  exact (mode_out (by
      split
      · rename_i x49 e50
        exact h0
      · rename_i x54 x55 e56
        exact (mode_ite h0 (by
          extract_lets v62
          have h63 : Mode s0 v62 := (mode_satCount64 _ _ _ h0)
          clear_value v62
          exact (mode_abortTask _ _ _ _ (mode_arrive _ _ _ h63))))))

theorem mode_sealSlot {s0 : State} (s : State) (a1 : Nat) (a2 : Nat) (a3 : Nat)  (h0 : Mode s0 s) : Mode s0 (sealSlot s a1 a2 a3).1 := by
  unfold sealSlot
  exact (by
      split
      · rename_i x72 e73
        exact h0
      · rename_i x74 x75 e76
        exact (by
          split
          · rename_i x87 e88
            exact (mode_fst (mode_abortTask _ _ _ _ h0))
          · rename_i x91 x92 e93
            exact (by
              extract_lets v94 v95 v96 v97
              exact (by
                split
                · rename_i x121 e122
                  exact (mode_fst (mode_abortTask _ _ _ _ h0))
                · rename_i x124 x125 x126 e127
                  exact (by
                    extract_lets v128 v129
                    have h130 : Mode s0 v128 := (mode_setStr _ h0)
                    clear_value v128
                    have h131 : Mode s0 v129 := (mode_hbmPoke _ _ _ _ h130)
                    clear_value v129
                    exact (mode_pr_ite (f := Prod.fst) (mode_fst (mode_abortTask _ _ _ _ h130)) (mode_fst (mode_updTask _ _ _ _ h131))))))))

theorem mode_sealTask {s0 : State} (s : State) (a1 : Nat) (a2 : Nat) (a3 : Task)  (h0 : Mode s0 s) : Mode s0 (sealTask s a1 a2 a3).1 := by
  unfold sealTask
  exact (mode_pr_ite (f := Prod.fst) h0 (mode_pr_foldl (f := Prod.fst) (fun x77 x78 h79 => (mode_pr_ite (f := Prod.fst) (mode_sealSlot _ _ _ _ h79) h79)) h0))

theorem mode_stampFrame {s0 : State} (s : State) (a1 : Nat) (a2 : Nat) (a3 : Task)  (h0 : Mode s0 s) : Mode s0 (stampFrame s a1 a2 a3) := by
  unfold stampFrame
  exact (mode_ite h0 (mode_foldl (fun t80 x81 h82 => (by
      extract_lets v83 v84 v85 v86
      exact (mode_updTask _ _ _ _ (mode_hbmPoke _ _ _ _ h82)))) h0))

theorem mode_openFrame {s0 : State} (s : State) (a1 : Nat) (a2 : Nat) (a3 : Task)  (h0 : Mode s0 s) : Mode s0 (openFrame s a1 a2 a3).1 := by
  unfold openFrame
  exact (by
      split
      · rename_i x101 e102
        exact h0
      · rename_i x103 x104 e105
        exact (by
          extract_lets v106 v107 v108 v109 v110 v111 v112
          have h113 : Mode s0 v111 := (mode_ite (mode_setReader _ _ _ h0) h0)
          clear_value v111
          have h123 : Mode s0 v112 := (mode_hbmPoke _ _ _ _ h113)
          clear_value v112
          exact (mode_pr_ite (f := Prod.fst) h0 (mode_pr_ite (f := Prod.fst) (mode_fst (mode_abortTask _ _ _ _ h0)) (mode_fst (mode_updTask _ _ _ _ h123))))))

theorem mode_finishUnits {s0 : State} (s : State) (a1 : Nat) (a2 : Nat) (a3 : Task)  (h0 : Mode s0 s) : Mode s0 (finishUnits s a1 a2 a3).1 := by
  unfold finishUnits
  exact (by
      extract_lets v89
      have h90 : Mode s0 v89 := (mode_stampFrame _ _ _ _ h0)
      clear_value v89
      exact (by
        split
        · rename_i x114 t115 e116
          exact (mode_fst (mode_fst_eq e116 (mode_openFrame _ _ _ _ h90)))
        · rename_i x137 t138 e139
          exact (mode_sealTask _ _ _ _ (mode_fst_eq e139 (mode_openFrame _ _ _ _ h90)))))

theorem mode_gatherStripes {s0 : State} (s : State) (a1 : Nat) (a2 : Nat) (a3 : Task)  (h0 : Mode s0 s) : Mode s0 (gatherStripes s a1 a2 a3) := by
  unfold gatherStripes
  exact (mode_foldl (fun t98 x99 h100 => (by
      split
      · rename_i x117 x118 x119 x120
        exact (mode_updTask _ _ _ _ h100))) h0)

theorem mode_commitReader {s0 : State} (s : State) (a1 : Task)  (h0 : Mode s0 s) : Mode s0 (commitReader s a1).1 := by
  unfold commitReader
  exact (by
      split
      · rename_i x140 e141
        exact h0
      · rename_i x142 x143 e144
        exact (mode_pr_ite (f := Prod.fst) h0 (by
          extract_lets v159 v160 v161 v162
          exact (mode_fst (mode_setReader _ _ _ h0)))))

theorem mode_addTokens {s0 : State} (s : State) (a1 : Task) (a2 : Nat) (a3 : Bool)  (h0 : Mode s0 s) : Mode s0 (addTokens s a1 a2 a3) := by
  unfold addTokens
  exact (mode_ite h0 (by
      extract_lets v132 v133
      have h134 : Mode s0 v133 := (by
        unfold v133
        unfold v132
        extract_lets v135 v136
        exact (mode_setStr _ h0))
      clear_value v133
      exact (mode_ite (by
        unfold v132
        extract_lets v157 v158
        exact (mode_setStr _ h134)) h134)))

theorem mode_commitFields {s0 : State} (s : State) (a1 : Nat) (a2 : Nat) (a3 : Task)  (h0 : Mode s0 s) : Mode s0 (commitFields s a1 a2 a3).1 := by
  unfold commitFields
  exact (by
      extract_lets v145 v146 v147 v148 v149 v150 v151 v152 v153 v154 v155
      have h156 : Mode s0 v149 := (mode_setEntry _ _ _ h0)
      clear_value v149
      have h163 : Mode s0 v155 := (mode_setStr _ h156)
      clear_value v155
      exact (mode_pr_ite (f := Prod.fst) (by
        split
        · rename_i x171 x172 e173
          exact (mode_pr_ite (f := Prod.fst) (mode_fst (mode_addTokens _ _ _ _ (mode_setEntry _ _ _ h0))) h0)
        · rename_i x183 e184
          exact h0) (mode_fst (mode_addTokens _ _ _ _ h163))))

theorem mode_writeStats {s0 : State} (s : State) (a1 : Nat) (a2 : Nat) (a3 : Task) (a4 : Nat) (a5 : Bool) (a6 : Bool)  (h0 : Mode s0 s) : Mode s0 (writeStats s a1 a2 a3 a4 a5 a6).1 := by
  unfold writeStats
  exact (mode_pr_ite (f := Prod.fst) h0 (by
      extract_lets v164 v165
      exact (mode_fst (mode_hbmPoke _ _ _ _ h0))))

theorem mode_stampFeatures {s0 : State} (s : State) (a1 : Task) (a2 : Nat)  (h0 : Mode s0 s) : Mode s0 (stampFeatures s a1 a2).1 := by
  unfold stampFeatures
  exact (mode_pr_ite (f := Prod.fst) h0 (by
      extract_lets v166 v167
      exact (mode_pr_foldl (f := Prod.fst) (fun x168 x169 h170 => (by
        split
        · rename_i x177 t178 x179
          exact (mode_pr_ite (f := Prod.fst) h170 (by
            extract_lets v180 v181 v182
            exact (mode_fst (mode_hbmPoke _ _ _ _ h170)))))) h0)))

theorem mode_commitTask {s0 : State} (s : State) (a1 : Nat) (a2 : Nat) (a3 : Task)  (h0 : Mode s0 s) : Mode s0 (commitTask s a1 a2 a3) := by
  unfold commitTask
  exact (by
      split
      · rename_i x202 t203 x204 e205
        exact (by
          split
          · rename_i x215 t216 x217 e218
            exact (by
              extract_lets v219 v220 v221 v222
              have h223 : Mode s0 v220 := (mode_ite (mode_arrive _ _ _ (mode_fst_eq e218 (mode_commitFields _ _ _ _ (mode_fst_eq e205 (mode_commitReader _ _ h0))))) (mode_fst_eq e218 (mode_commitFields _ _ _ _ (mode_fst_eq e205 (mode_commitReader _ _ h0)))))
              clear_value v220
              exact (by
                split
                · rename_i x244 t245 x246 e247
                  exact (by
                    split
                    · rename_i x249 t250 x251 e252
                      exact (by
                        extract_lets v253 v254 v255 v256 v257
                        have h258 : Mode s0 v253 := (mode_handTask _ _ _ (mode_fst_eq e252 (mode_pr_ite (f := Prod.fst) (mode_fst (mode_fst_eq e247 (mode_pr_ite (f := Prod.fst) h223 (mode_writeStats _ _ _ _ _ _ _ h223)))) (mode_stampFeatures _ _ _ (mode_fst_eq e247 (mode_pr_ite (f := Prod.fst) h223 (mode_writeStats _ _ _ _ _ _ _ h223)))))))
                        clear_value v253
                        have h262 : Mode s0 v254 := (mode_foldl (fun t263 x264 h265 => (by
                          split
                          · rename_i x268 x269 x270 x271
                            exact (mode_clearCtx _ _ _ _ h265))) h258)
                        clear_value v254
                        have h272 : Mode s0 v255 := (mode_clearCtx _ _ _ _ h262)
                        clear_value v255
                        have h273 : Mode s0 v256 := (mode_postRecord _ _ _ _ h272)
                        clear_value v256
                        have h274 : Mode s0 v257 := (by
                          unfold v257
                          split
                          · rename_i x275 e276
                            exact h273
                          · rename_i x277 x278 e279
                            exact (mode_releaseSlot _ _ _ h273))
                        clear_value v257
                        exact (mode_checkInvalidation _ h274)))))))

theorem mode_startVerify {s0 : State} (s : State) (a1 : Nat) (a2 : Task)  (h0 : Mode s0 s) : Mode s0 (startVerify s a1 a2) := by
  unfold startVerify
  exact (by
      extract_lets v174 v175 v176
      exact (mode_setStr _ h0))

theorem mode_verifyEnd {s0 : State} (s : State) (a1 : Nat) (a2 : Nat) (a3 : Task)  (h0 : Mode s0 s) : Mode s0 (verifyEnd s a1 a2 a3) := by
  unfold verifyEnd
  exact (by
      split
      · rename_i x190 t191 e192
        exact (mode_fst_eq e192 (mode_readInput _ _ _ h0))
      · rename_i x199 t200 e201
        exact (by
          split
          · rename_i x213 e214
            exact (mode_clearCtx _ _ _ _ (mode_fst_eq e201 (mode_readInput _ _ _ h0)))
          · rename_i x224 x225 x226 x227 e228
            exact (mode_ite (mode_updTask _ _ _ _ (mode_clearCtx _ _ _ _ (mode_fst_eq e201 (mode_readInput _ _ _ h0)))) (by
              extract_lets v237 v238
              have h239 : Mode s0 v237 := (mode_satCount64 _ _ _ (mode_fst_eq e201 (mode_readInput _ _ _ h0)))
              clear_value v237
              have h240 : Mode s0 v238 := (mode_abortTask _ _ _ _ h239)
              clear_value v238
              exact (mode_faultEventAt _ _ _ (mode_faultEventAt _ _ _ h240))))))

theorem mode_startFeature {s0 : State} (s : State) (a1 : Nat) (a2 : Nat) (a3 : Nat)  (h0 : Mode s0 s) : Mode s0 (startFeature s a1 a2 a3) := by
  unfold startFeature
  exact (mode_resetWalks _ _ _ (mode_setPc _ _ _ _ (mode_holdCtx _ _ _ _ _ (mode_updTask _ _ _ _ h0))))

theorem mode_finishFrame {s0 : State} (s : State) (a1 : Nat) (a2 : Nat) (a3 : Task)  (h0 : Mode s0 s) : Mode s0 (finishFrame s a1 a2 a3).1 := by
  unfold finishFrame
  exact (by
      extract_lets v185 v186 v187
      have h188 : Mode s0 v185 := (mode_gatherStripes _ _ _ _ h0)
      clear_value v185
      have h189 : Mode s0 v187 := (mode_updTask _ _ _ _ h188)
      clear_value v187
      exact (mode_finishUnits _ _ _ _ h189))

theorem mode_endFrame {s0 : State} (s : State) (a1 : Nat) (a2 : Nat)  (h0 : Mode s0 s) : Mode s0 (endFrame s a1 a2) := by
  unfold endFrame
  exact (by
      split
      · rename_i x193 t194 e195
        exact (mode_fst_eq e195 (mode_readInput _ _ _ h0))
      · rename_i x196 t197 e198
        exact (by
          split
          · rename_i x206 e207
            exact (mode_fst_eq e198 (mode_readInput _ _ _ h0))
          · rename_i x208 x209 e210
            exact (mode_ite (mode_abortTask _ _ _ _ (mode_fst_eq e198 (mode_readInput _ _ _ h0))) (by
              split
              · rename_i x234 t235 e236
                exact (mode_fst_eq e236 (mode_pr_ite (f := Prod.fst) (mode_fst (mode_fst_eq e198 (mode_readInput _ _ _ h0))) (mode_finishFrame _ _ _ _ (mode_fst_eq e198 (mode_readInput _ _ _ h0)))))
              · rename_i x241 t242 e243
                exact (by
                  extract_lets v248
                  exact (by
                    split
                    · rename_i x259 x260 e261
                      exact (mode_startFeature _ _ _ _ (mode_fst_eq e243 (mode_pr_ite (f := Prod.fst) (mode_fst (mode_fst_eq e198 (mode_readInput _ _ _ h0))) (mode_finishFrame _ _ _ _ (mode_fst_eq e198 (mode_readInput _ _ _ h0))))))
                    · rename_i x266 e267
                      exact (mode_ite (mode_ite (mode_fst_eq e243 (mode_pr_ite (f := Prod.fst) (mode_fst (mode_fst_eq e198 (mode_readInput _ _ _ h0))) (mode_finishFrame _ _ _ _ (mode_fst_eq e198 (mode_readInput _ _ _ h0))))) (mode_startVerify _ _ _ (mode_fst_eq e243 (mode_pr_ite (f := Prod.fst) (mode_fst (mode_fst_eq e198 (mode_readInput _ _ _ h0))) (mode_finishFrame _ _ _ _ (mode_fst_eq e198 (mode_readInput _ _ _ h0))))))) (mode_ite (mode_fst_eq e243 (mode_pr_ite (f := Prod.fst) (mode_fst (mode_fst_eq e198 (mode_readInput _ _ _ h0))) (mode_finishFrame _ _ _ _ (mode_fst_eq e198 (mode_readInput _ _ _ h0))))) (mode_commitTask _ _ _ _ (mode_fst_eq e243 (mode_pr_ite (f := Prod.fst) (mode_fst (mode_fst_eq e198 (mode_readInput _ _ _ h0))) (mode_finishFrame _ _ _ _ (mode_fst_eq e198 (mode_readInput _ _ _ h0))))))))))))))

theorem mode_execEndTask {s0 : State} (a0 : Nat) (a1 : Nat) (a2 : Sys2Proof.W128) (s : State)  (h0 : Mode s0 s) : ModeOut s0 (execEndTask a0 a1 a2 s) := by
  unfold execEndTask
  exact (mode_out (mode_ite (mode_notIssued _ _ _ h0) (by
      extract_lets v211
      have h212 : Mode s0 v211 := (mode_holdCtx _ _ _ _ _ h0)
      clear_value v211
      exact (mode_ite h212 (by
        split
        · rename_i x229 e230
          exact h212
        · rename_i x231 x232 e233
          exact (mode_ite (mode_startWaiting _ _ _ (mode_clearCtx _ _ _ _ h212)) (mode_ite (mode_verifyEnd _ _ _ _ h212) (mode_ite h212 (mode_endFrame _ _ _ h212)))))))))

end Sys2Proof.Machine
end

