-- ==== Sys2Proof/Laws/Step.lean ====
section
/-! SUPPORT. What every command keeps, and what one step does to the queue. -/

namespace Sys2Proof.Machine
open Sys2Proof.Safety

/-- Every command keeps what `Kept` names. -/
theorem exec_kept (c : Instr) (s t : State) (h : exec c s = .next t) : Kept s t := by
  have key : KeptOut s (exec c s) := by
    cases c with
    | nop core ctx w => exact kept_execNop core ctx w s (Kept.refl s)
    | wait core ctx w => exact kept_execWait core ctx w s (Kept.refl s)
    | waitSatisfied core ctx => exact kept_execWaitSatisfied core ctx s (Kept.refl s)
    | signal core ctx w => exact kept_execSignal core ctx w s (Kept.refl s)
    | readyCounterAdvance core ctx => exact kept_execReadyCounterAdvance core ctx s (Kept.refl s)
    | period core ctx w => exact kept_execPeriod core ctx w s (Kept.refl s)
    | dmaTransfer core ctx w => exact kept_execDmaTransfer core ctx w s (Kept.refl s)
    | persist core ctx w => exact kept_execPersist core ctx w s (Kept.refl s)
    | rearm core ctx w => exact kept_execRearm core ctx w s (Kept.refl s)
    | stop core ctx w => exact kept_execStop core ctx w s (Kept.refl s)
    | vecMicroprogram core ctx w => exact kept_execVecMicroprogram core ctx w s (Kept.refl s)
    | boxDecoding core ctx w => exact kept_execBoxDecoding core ctx w s (Kept.refl s)
    | entEncode core ctx w => exact kept_execEntEncode core ctx w s (Kept.refl s)
    | entDecode core ctx w => exact kept_execEntDecode core ctx w s (Kept.refl s)
    | tableLoad core ctx w => exact kept_execTableLoad core ctx w s (Kept.refl s)
    | tableLoadEnd core => exact kept_execTableLoadEnd core s (Kept.refl s)
    | encodeJobEnd core => exact kept_execEncodeJobEnd core s (Kept.refl s)
    | rateUpdate core ctx => exact kept_execRateUpdate core ctx s (Kept.refl s)
    | motSearch core ctx w => exact kept_execMotSearch core ctx w s (Kept.refl s)
    | motCompensate core ctx w => exact kept_execMotCompensate core ctx w s (Kept.refl s)
    | blockRowStart core => exact kept_execBlockRowStart core s (Kept.refl s)
    | ldw core ctx w => exact kept_execLdw core ctx w s (Kept.refl s)
    | chainPartArrival core => exact kept_execChainPartArrival core s (Kept.refl s)
    | mmaStart core ctx w => exact kept_execMmaStart core ctx w s (Kept.refl s)
    | mmaCont core ctx w => exact kept_execMmaCont core ctx w s (Kept.refl s)
    | mmaEmit core ctx w => exact kept_execMmaEmit core ctx w s (Kept.refl s)
    | mmaHead core ctx w => exact kept_execMmaHead core ctx w s (Kept.refl s)
    | drain core ctx w => exact kept_execDrain core ctx w s (Kept.refl s)
    | cslot core ctx w => exact kept_execCslot core ctx w s (Kept.refl s)
    | combineRecord core rec => exact kept_execCombineRecord core rec s (Kept.refl s)
    | endTask core ctx w => exact kept_execEndTask core ctx w s (Kept.refl s)
    | microNop core w => exact kept_execMicroNop core w s (Kept.refl s)
    | microEnd core w => exact kept_execMicroEnd core w s (Kept.refl s)
    | loop core w => exact kept_execLoop core w s (Kept.refl s)
    | ld core w => exact kept_execLd core w s (Kept.refl s)
    | st core w => exact kept_execSt core w s (Kept.refl s)
    | ldp core w => exact kept_execLdp core w s (Kept.refl s)
    | movi core w => exact kept_execMovi core w s (Kept.refl s)
    | mov core w => exact kept_execMov core w s (Kept.refl s)
    | sel core w => exact kept_execSel core w s (Kept.refl s)
    | iadd core w => exact kept_execIadd core w s (Kept.refl s)
    | isub core w => exact kept_execIsub core w s (Kept.refl s)
    | imul core w => exact kept_execImul core w s (Kept.refl s)
    | ishr core w => exact kept_execIshr core w s (Kept.refl s)
    | ishl core w => exact kept_execIshl core w s (Kept.refl s)
    | imax core w => exact kept_execImax core w s (Kept.refl s)
    | imin core w => exact kept_execImin core w s (Kept.refl s)
    | iclip core w => exact kept_execIclip core w s (Kept.refl s)
    | icmp core w => exact kept_execIcmp core w s (Kept.refl s)
    | idiv core w => exact kept_execIdiv core w s (Kept.refl s)
    | tbl core w => exact kept_execTbl core w s (Kept.refl s)
    | exp2q core w => exact kept_execExp2q core w s (Kept.refl s)
    | log2q core w => exact kept_execLog2q core w s (Kept.refl s)
    | rsqrtq core w => exact kept_execRsqrtq core w s (Kept.refl s)
    | fadd core w => exact kept_execFadd core w s (Kept.refl s)
    | fsub core w => exact kept_execFsub core w s (Kept.refl s)
    | fmul core w => exact kept_execFmul core w s (Kept.refl s)
    | fma core w => exact kept_execFma core w s (Kept.refl s)
    | fmax core w => exact kept_execFmax core w s (Kept.refl s)
    | fmin core w => exact kept_execFmin core w s (Kept.refl s)
    | fcmp core w => exact kept_execFcmp core w s (Kept.refl s)
    | fcvt core w => exact kept_execFcvt core w s (Kept.refl s)
    | ftoi core w => exact kept_execFtoi core w s (Kept.refl s)
    | itof core w => exact kept_execItof core w s (Kept.refl s)
    | fdiv core w => exact kept_execFdiv core w s (Kept.refl s)
    | exp2f core w => exact kept_execExp2f core w s (Kept.refl s)
    | log2f core w => exact kept_execLog2f core w s (Kept.refl s)
    | rcpf core w => exact kept_execRcpf core w s (Kept.refl s)
    | rsqrtf core w => exact kept_execRsqrtf core w s (Kept.refl s)
    | rsum core w => exact kept_execRsum core w s (Kept.refl s)
    | rmax core w => exact kept_execRmax core w s (Kept.refl s)
    | rmin core w => exact kept_execRmin core w s (Kept.refl s)
    | aclr core w => exact kept_execAclr core w s (Kept.refl s)
    | aget core w => exact kept_execAget core w s (Kept.refl s)
    | agetd core w => exact kept_execAgetd core w s (Kept.refl s)
    | rdot core w => exact kept_execRdot core w s (Kept.refl s)
    | creditSlotDone core who => exact kept_execCreditSlotDone core who s (Kept.refl s)
    | transferComplete core ctx => exact kept_execTransferComplete core ctx s (Kept.refl s)
    | passBoundary core slot => exact kept_execPassBoundary core slot s (Kept.refl s)
    | dmaRearm core value => exact kept_execDmaRearm core value s (Kept.refl s)
    | taskStart activity => exact kept_execTaskStart activity s (Kept.refl s)
    | periodicStart core row => exact kept_execPeriodicStart core row s (Kept.refl s)
    | taskOverrun core ctx => exact kept_execTaskOverrun core ctx s (Kept.refl s)
    | periodBoundary => exact kept_execPeriodBoundary s (Kept.refl s)
    | boundaryTaken domain => exact kept_execBoundaryTaken domain s (Kept.refl s)
    | validate => exact kept_execValidate s (Kept.refl s)
    | load drainMs => exact kept_execLoad drainMs s (Kept.refl s)
    | cancel => exact kept_execCancel s (Kept.refl s)
    | validationEnd => exact kept_execValidationEnd s (Kept.refl s)
    | drainLimit => exact kept_execDrainLimit s (Kept.refl s)
    | drainEnd => exact kept_execDrainEnd s (Kept.refl s)
    | applyEnd memError => exact kept_execApplyEnd memError s (Kept.refl s)
    | entryRead index => exact kept_execEntryRead index s (Kept.refl s)
    | entryWrite index => exact kept_execEntryWrite index s (Kept.refl s)
    | entryCreate index => exact kept_execEntryCreate index s (Kept.refl s)
    | entryInvalidate index => exact kept_execEntryInvalidate index s (Kept.refl s)
    | doorbell ring index => exact kept_execDoorbell ring index s (Kept.refl s)
    | ringEnable ring session => exact kept_execRingEnable ring session s (Kept.refl s)
    | runTask ring => exact kept_execRunTask ring s (Kept.refl s)
    | forceKey ring => exact kept_execForceKey ring s (Kept.refl s)
    | writeEndUnit ring => exact kept_execWriteEndUnit ring s (Kept.refl s)
    | retry ring => exact kept_execRetry ring s (Kept.refl s)
    | skip ring => exact kept_execSkip ring s (Kept.refl s)
    | ringStall ring => exact kept_execRingStall ring s (Kept.refl s)
    | mediaDatagram port frame => exact kept_execMediaDatagram port frame s (Kept.refl s)
    | assemblyTimeout port ring => exact kept_execAssemblyTimeout port ring s (Kept.refl s)
    | egressItem ring => exact kept_execEgressItem ring s (Kept.refl s)
    | egressFrame port queue => exact kept_execEgressFrame port queue s (Kept.refl s)
    | gclChange port => exact kept_execGclChange port s (Kept.refl s)
    | gclConfigApply port => exact kept_execGclConfigApply port s (Kept.refl s)
    | gateIntervalEnd port => exact kept_execGateIntervalEnd port s (Kept.refl s)
    | streamGateIntervalEnd port gate => exact kept_execStreamGateIntervalEnd port gate s (Kept.refl s)
    | recoveryReset port index => exact kept_execRecoveryReset port index s (Kept.refl s)
    | ethTableRead port table index => exact kept_execEthTableRead port table index s (Kept.refl s)
    | ethTableWrite port table index => exact kept_execEthTableWrite port table index s (Kept.refl s)
    | arpRequest port frame => exact kept_execArpRequest port frame s (Kept.refl s)
    | neighborSolicitation port frame => exact kept_execNeighborSolicitation port frame s (Kept.refl s)
    | icmpEchoRequest port frame => exact kept_execIcmpEchoRequest port frame s (Kept.refl s)
    | sync port origin offset => exact kept_execSync port origin offset s (Kept.refl s)
    | pdelayRequest port frame => exact kept_execPdelayRequest port frame s (Kept.refl s)
    | syncReceiptTimeout => exact kept_execSyncReceiptTimeout s (Kept.refl s)
    | hello port frame => exact kept_execHello port frame s (Kept.refl s)
    | close port frame => exact kept_execClose port frame s (Kept.refl s)
    | ack port frame => exact kept_execAck port frame s (Kept.refl s)
    | read port frame => exact kept_execRead port frame s (Kept.refl s)
    | write port frame => exact kept_execWrite port frame s (Kept.refl s)
    | submit port frame => exact kept_execSubmit port frame s (Kept.refl s)
    | cons port frame => exact kept_execCons port frame s (Kept.refl s)
    | xferImage port frame => exact kept_execXferImage port frame s (Kept.refl s)
    | xferFirmware port frame => exact kept_execXferFirmware port frame s (Kept.refl s)
    | challenge port frame => exact kept_execChallenge port frame s (Kept.refl s)
    | auth port frame => exact kept_execAuth port frame s (Kept.refl s)
    | report port frame => exact kept_execReport port frame s (Kept.refl s)
    | getPart port frame => exact kept_execGetPart port frame s (Kept.refl s)
    | unlock port frame => exact kept_execUnlock port frame s (Kept.refl s)
    | lockDebug port frame => exact kept_execLockDebug port frame s (Kept.refl s)
    | debugAccess port frame => exact kept_execDebugAccess port frame s (Kept.refl s)
    | hcpRetransmit session => exact kept_execHcpRetransmit session s (Kept.refl s)
    | hcpAckTimer session => exact kept_execHcpAckTimer session s (Kept.refl s)
    | sessionIdle session => exact kept_execSessionIdle session s (Kept.refl s)
    | fabricFrameRx link frame => exact kept_execFabricFrameRx link frame s (Kept.refl s)
    | sendSlot link => exact kept_execSendSlot link s (Kept.refl s)
    | forwardSlot link => exact kept_execForwardSlot link s (Kept.refl s)
    | beaconSlot link => exact kept_execBeaconSlot link s (Kept.refl s)
    | frameRto link => exact kept_execFrameRto link s (Kept.refl s)
    | laneCheckEnd link errors => exact kept_execLaneCheckEnd link errors s (Kept.refl s)
    | trainRetry link => exact kept_execTrainRetry link s (Kept.refl s)
    | laneLockLoss link => exact kept_execLaneLockLoss link s (Kept.refl s)
    | lockLossTimeout link => exact kept_execLockLossTimeout link s (Kept.refl s)
    | postLoadLinkCheck link => exact kept_execPostLoadLinkCheck link s (Kept.refl s)
    | routeSwitch => exact kept_execRouteSwitch s (Kept.refl s)
    | declare link => exact kept_execDeclare link s (Kept.refl s)
    | peek link word => exact kept_execPeek link word s (Kept.refl s)
    | eventArrival source info => exact kept_execEventArrival source info s (Kept.refl s)
    | claimSlotFill => exact kept_execClaimSlotFill s (Kept.refl s)
    | fastMret p => exact kept_execFastMret p s (Kept.refl s)
    | wfi p => exact kept_execWfi p s (Kept.refl s)
    | coalTimer p => exact kept_execCoalTimer p s (Kept.refl s)
    | evcClaim p => exact kept_execEvcClaim p s (Kept.refl s)
    | evcFclaim p => exact kept_execEvcFclaim p s (Kept.refl s)
    | evcComplete p value => exact kept_execEvcComplete p value s (Kept.refl s)
    | evcPendset word value => exact kept_execEvcPendset word value s (Kept.refl s)
    | evcPendclr word value => exact kept_execEvcPendclr word value s (Kept.refl s)
    | evcMaskset word value => exact kept_execEvcMaskset word value s (Kept.refl s)
    | evcMaskclr word value => exact kept_execEvcMaskclr word value s (Kept.refl s)
    | evcCfgWrite source value => exact kept_execEvcCfgWrite source value s (Kept.refl s)
    | evcSwset value => exact kept_execEvcSwset value s (Kept.refl s)
    | evcBudWrite p limit => exact kept_execEvcBudWrite p limit s (Kept.refl s)
    | watchdogStage1 p => exact kept_execWatchdogStage1 p s (Kept.refl s)
    | watchdogStage2 p => exact kept_execWatchdogStage2 p s (Kept.refl s)
    | kick p => exact kept_execKick p s (Kept.refl s)
    | controlSpaceTimeout p => exact kept_execControlSpaceTimeout p s (Kept.refl s)
    | mgtRestart => exact kept_execMgtRestart s (Kept.refl s)
    | fwVerify => exact kept_execFwVerify s (Kept.refl s)
    | fwVerifyEnd => exact kept_execFwVerifyEnd s (Kept.refl s)
    | fwCommit => exact kept_execFwCommit s (Kept.refl s)
    | fwProgramEnd readBackOk => exact kept_execFwProgramEnd readBackOk s (Kept.refl s)
    | fwActivate => exact kept_execFwActivate s (Kept.refl s)
    | install => exact kept_execInstall s (Kept.refl s)
    | sealKey slot => exact kept_execSeal slot s (Kept.refl s)
    | unsealKey => exact kept_execUnseal s (Kept.refl s)
    | erase slot => exact kept_execErase slot s (Kept.refl s)
    | ownerUpdate => exact kept_execOwnerUpdate s (Kept.refl s)
    | tamperFire sensor => exact kept_execTamperFire sensor s (Kept.refl s)
    | drbgReseed => exact kept_execDrbgReseed s (Kept.refl s)
    | seedBankClose => exact kept_execSeedBankClose s (Kept.refl s)
    | retire loc => exact kept_execRetire loc s (Kept.refl s)
    | faultEvent loc uncorrectable => exact kept_execFaultEvent loc uncorrectable s (Kept.refl s)
    | repairCopyEnd loc => exact kept_execRepairCopyEnd loc s (Kept.refl s)
    | repairSwitch loc => exact kept_execRepairSwitch loc s (Kept.refl s)
    | periodicTest failed => exact kept_execPeriodicTest failed s (Kept.refl s)
    | rotation core => exact kept_execRotation core s (Kept.refl s)
    | targetedTestEnd loc failed => exact kept_execTargetedTestEnd loc failed s (Kept.refl s)
    | bistEnd failed => exact kept_execBistEnd failed s (Kept.refl s)
    | repClassWrite cls value => exact kept_execRepClassWrite cls value s (Kept.refl s)
    | flushTimer => exact kept_execFlushTimer s (Kept.refl s)
    | flush => exact kept_execFlush s (Kept.refl s)
    | flushDone => exact kept_execFlushDone s (Kept.refl s)
    | recordSample temp volts => exact kept_execRecordSample temp volts s (Kept.refl s)
    | fire => exact kept_execFire s (Kept.refl s)
    | release => exact kept_execRelease s (Kept.refl s)
    | unfreeze => exact kept_execUnfreeze s (Kept.refl s)
    | armAt => exact kept_execArmAt s (Kept.refl s)
    | disarm => exact kept_execDisarm s (Kept.refl s)
    | instantReached => exact kept_execInstantReached s (Kept.refl s)
    | shutterLatch block => exact kept_execShutterLatch block s (Kept.refl s)
    | firingComplete => exact kept_execFiringComplete s (Kept.refl s)
    | standby drainMs => exact kept_execStandby drainMs s (Kept.refl s)
    | standbyDrainEnd => exact kept_execStandbyDrainEnd s (Kept.refl s)
    | active => exact kept_execActive s (Kept.refl s)
    | activeComplete => exact kept_execActiveComplete s (Kept.refl s)
    | powerOn => exact kept_execPowerOn s (Kept.refl s)
    | powerLoss => exact kept_execPowerLoss s (Kept.refl s)
    | rstNAssert samples => exact kept_execRstNAssert samples s (Kept.refl s)
    | rstNRelease samples => exact kept_execRstNRelease samples s (Kept.refl s)
    | thermalSample temps => exact kept_execThermalSample temps s (Kept.refl s)
    | throttleInterval watts => exact kept_execThrottleInterval watts s (Kept.refl s)
    | pllLockLoss => exact kept_execPllLockLoss s (Kept.refl s)
    | lowHalfRead requester addr => exact kept_execLowHalfRead requester addr s (Kept.refl s)
    | registerWrite addr value size => exact kept_execRegisterWrite addr value size s (Kept.refl s)
    | fibreLightGained link => exact kept_execFibreLightGained link s (Kept.refl s)
    | portLinkStateChange port up => exact kept_execPortLinkStateChange port up s (Kept.refl s)
    | unscheduledFrame link => exact kept_execUnscheduledFrame link s (Kept.refl s)
    | streamGateConfigApply port gate => exact kept_execStreamGateConfigApply port gate s (Kept.refl s)
    | fastContextException p => exact kept_execFastContextException p s (Kept.refl s)
    | controlMemoryUe => exact kept_execControlMemoryUe s (Kept.refl s)
    | registerFileParity p => exact kept_execRegisterFileParity p s (Kept.refl s)
    | otherFrame port frame => exact kept_execOtherFrame port frame s (Kept.refl s)
  exact key t h

/-- Every command but power, its loss and the release of RST_N leaves Off and Reset in place. -/
theorem exec_mode (c : Instr) (s t : State) (h : exec c s = .next t) (h1 : c ≠ .powerOn) (h2 : c ≠ .powerLoss) (h3 : ∀ k, c ≠ .rstNRelease k) : Mode s t := by
  have key : ModeOut s (exec c s) := by
    cases c with
    | nop core ctx w => exact mode_execNop core ctx w s (Mode.refl s)
    | wait core ctx w => exact mode_execWait core ctx w s (Mode.refl s)
    | waitSatisfied core ctx => exact mode_execWaitSatisfied core ctx s (Mode.refl s)
    | signal core ctx w => exact mode_execSignal core ctx w s (Mode.refl s)
    | readyCounterAdvance core ctx => exact mode_execReadyCounterAdvance core ctx s (Mode.refl s)
    | period core ctx w => exact mode_execPeriod core ctx w s (Mode.refl s)
    | dmaTransfer core ctx w => exact mode_execDmaTransfer core ctx w s (Mode.refl s)
    | persist core ctx w => exact mode_execPersist core ctx w s (Mode.refl s)
    | rearm core ctx w => exact mode_execRearm core ctx w s (Mode.refl s)
    | stop core ctx w => exact mode_execStop core ctx w s (Mode.refl s)
    | vecMicroprogram core ctx w => exact mode_execVecMicroprogram core ctx w s (Mode.refl s)
    | boxDecoding core ctx w => exact mode_execBoxDecoding core ctx w s (Mode.refl s)
    | entEncode core ctx w => exact mode_execEntEncode core ctx w s (Mode.refl s)
    | entDecode core ctx w => exact mode_execEntDecode core ctx w s (Mode.refl s)
    | tableLoad core ctx w => exact mode_execTableLoad core ctx w s (Mode.refl s)
    | tableLoadEnd core => exact mode_execTableLoadEnd core s (Mode.refl s)
    | encodeJobEnd core => exact mode_execEncodeJobEnd core s (Mode.refl s)
    | rateUpdate core ctx => exact mode_execRateUpdate core ctx s (Mode.refl s)
    | motSearch core ctx w => exact mode_execMotSearch core ctx w s (Mode.refl s)
    | motCompensate core ctx w => exact mode_execMotCompensate core ctx w s (Mode.refl s)
    | blockRowStart core => exact mode_execBlockRowStart core s (Mode.refl s)
    | ldw core ctx w => exact mode_execLdw core ctx w s (Mode.refl s)
    | chainPartArrival core => exact mode_execChainPartArrival core s (Mode.refl s)
    | mmaStart core ctx w => exact mode_execMmaStart core ctx w s (Mode.refl s)
    | mmaCont core ctx w => exact mode_execMmaCont core ctx w s (Mode.refl s)
    | mmaEmit core ctx w => exact mode_execMmaEmit core ctx w s (Mode.refl s)
    | mmaHead core ctx w => exact mode_execMmaHead core ctx w s (Mode.refl s)
    | drain core ctx w => exact mode_execDrain core ctx w s (Mode.refl s)
    | cslot core ctx w => exact mode_execCslot core ctx w s (Mode.refl s)
    | combineRecord core rec => exact mode_execCombineRecord core rec s (Mode.refl s)
    | endTask core ctx w => exact mode_execEndTask core ctx w s (Mode.refl s)
    | microNop core w => exact mode_execMicroNop core w s (Mode.refl s)
    | microEnd core w => exact mode_execMicroEnd core w s (Mode.refl s)
    | loop core w => exact mode_execLoop core w s (Mode.refl s)
    | ld core w => exact mode_execLd core w s (Mode.refl s)
    | st core w => exact mode_execSt core w s (Mode.refl s)
    | ldp core w => exact mode_execLdp core w s (Mode.refl s)
    | movi core w => exact mode_execMovi core w s (Mode.refl s)
    | mov core w => exact mode_execMov core w s (Mode.refl s)
    | sel core w => exact mode_execSel core w s (Mode.refl s)
    | iadd core w => exact mode_execIadd core w s (Mode.refl s)
    | isub core w => exact mode_execIsub core w s (Mode.refl s)
    | imul core w => exact mode_execImul core w s (Mode.refl s)
    | ishr core w => exact mode_execIshr core w s (Mode.refl s)
    | ishl core w => exact mode_execIshl core w s (Mode.refl s)
    | imax core w => exact mode_execImax core w s (Mode.refl s)
    | imin core w => exact mode_execImin core w s (Mode.refl s)
    | iclip core w => exact mode_execIclip core w s (Mode.refl s)
    | icmp core w => exact mode_execIcmp core w s (Mode.refl s)
    | idiv core w => exact mode_execIdiv core w s (Mode.refl s)
    | tbl core w => exact mode_execTbl core w s (Mode.refl s)
    | exp2q core w => exact mode_execExp2q core w s (Mode.refl s)
    | log2q core w => exact mode_execLog2q core w s (Mode.refl s)
    | rsqrtq core w => exact mode_execRsqrtq core w s (Mode.refl s)
    | fadd core w => exact mode_execFadd core w s (Mode.refl s)
    | fsub core w => exact mode_execFsub core w s (Mode.refl s)
    | fmul core w => exact mode_execFmul core w s (Mode.refl s)
    | fma core w => exact mode_execFma core w s (Mode.refl s)
    | fmax core w => exact mode_execFmax core w s (Mode.refl s)
    | fmin core w => exact mode_execFmin core w s (Mode.refl s)
    | fcmp core w => exact mode_execFcmp core w s (Mode.refl s)
    | fcvt core w => exact mode_execFcvt core w s (Mode.refl s)
    | ftoi core w => exact mode_execFtoi core w s (Mode.refl s)
    | itof core w => exact mode_execItof core w s (Mode.refl s)
    | fdiv core w => exact mode_execFdiv core w s (Mode.refl s)
    | exp2f core w => exact mode_execExp2f core w s (Mode.refl s)
    | log2f core w => exact mode_execLog2f core w s (Mode.refl s)
    | rcpf core w => exact mode_execRcpf core w s (Mode.refl s)
    | rsqrtf core w => exact mode_execRsqrtf core w s (Mode.refl s)
    | rsum core w => exact mode_execRsum core w s (Mode.refl s)
    | rmax core w => exact mode_execRmax core w s (Mode.refl s)
    | rmin core w => exact mode_execRmin core w s (Mode.refl s)
    | aclr core w => exact mode_execAclr core w s (Mode.refl s)
    | aget core w => exact mode_execAget core w s (Mode.refl s)
    | agetd core w => exact mode_execAgetd core w s (Mode.refl s)
    | rdot core w => exact mode_execRdot core w s (Mode.refl s)
    | creditSlotDone core who => exact mode_execCreditSlotDone core who s (Mode.refl s)
    | transferComplete core ctx => exact mode_execTransferComplete core ctx s (Mode.refl s)
    | passBoundary core slot => exact mode_execPassBoundary core slot s (Mode.refl s)
    | dmaRearm core value => exact mode_execDmaRearm core value s (Mode.refl s)
    | taskStart activity => exact mode_execTaskStart activity s (Mode.refl s)
    | periodicStart core row => exact mode_execPeriodicStart core row s (Mode.refl s)
    | taskOverrun core ctx => exact mode_execTaskOverrun core ctx s (Mode.refl s)
    | periodBoundary => exact mode_execPeriodBoundary s (Mode.refl s)
    | boundaryTaken domain => exact mode_execBoundaryTaken domain s (Mode.refl s)
    | validate => exact mode_execValidate s (Mode.refl s)
    | load drainMs => exact mode_execLoad drainMs s (Mode.refl s)
    | cancel => exact mode_execCancel s (Mode.refl s)
    | validationEnd => exact mode_execValidationEnd s (Mode.refl s)
    | drainLimit => exact mode_execDrainLimit s (Mode.refl s)
    | drainEnd => exact mode_execDrainEnd s (Mode.refl s)
    | applyEnd memError => exact mode_execApplyEnd memError s (Mode.refl s)
    | entryRead index => exact mode_execEntryRead index s (Mode.refl s)
    | entryWrite index => exact mode_execEntryWrite index s (Mode.refl s)
    | entryCreate index => exact mode_execEntryCreate index s (Mode.refl s)
    | entryInvalidate index => exact mode_execEntryInvalidate index s (Mode.refl s)
    | doorbell ring index => exact mode_execDoorbell ring index s (Mode.refl s)
    | ringEnable ring session => exact mode_execRingEnable ring session s (Mode.refl s)
    | runTask ring => exact mode_execRunTask ring s (Mode.refl s)
    | forceKey ring => exact mode_execForceKey ring s (Mode.refl s)
    | writeEndUnit ring => exact mode_execWriteEndUnit ring s (Mode.refl s)
    | retry ring => exact mode_execRetry ring s (Mode.refl s)
    | skip ring => exact mode_execSkip ring s (Mode.refl s)
    | ringStall ring => exact mode_execRingStall ring s (Mode.refl s)
    | mediaDatagram port frame => exact mode_execMediaDatagram port frame s (Mode.refl s)
    | assemblyTimeout port ring => exact mode_execAssemblyTimeout port ring s (Mode.refl s)
    | egressItem ring => exact mode_execEgressItem ring s (Mode.refl s)
    | egressFrame port queue => exact mode_execEgressFrame port queue s (Mode.refl s)
    | gclChange port => exact mode_execGclChange port s (Mode.refl s)
    | gclConfigApply port => exact mode_execGclConfigApply port s (Mode.refl s)
    | gateIntervalEnd port => exact mode_execGateIntervalEnd port s (Mode.refl s)
    | streamGateIntervalEnd port gate => exact mode_execStreamGateIntervalEnd port gate s (Mode.refl s)
    | recoveryReset port index => exact mode_execRecoveryReset port index s (Mode.refl s)
    | ethTableRead port table index => exact mode_execEthTableRead port table index s (Mode.refl s)
    | ethTableWrite port table index => exact mode_execEthTableWrite port table index s (Mode.refl s)
    | arpRequest port frame => exact mode_execArpRequest port frame s (Mode.refl s)
    | neighborSolicitation port frame => exact mode_execNeighborSolicitation port frame s (Mode.refl s)
    | icmpEchoRequest port frame => exact mode_execIcmpEchoRequest port frame s (Mode.refl s)
    | sync port origin offset => exact mode_execSync port origin offset s (Mode.refl s)
    | pdelayRequest port frame => exact mode_execPdelayRequest port frame s (Mode.refl s)
    | syncReceiptTimeout => exact mode_execSyncReceiptTimeout s (Mode.refl s)
    | hello port frame => exact mode_execHello port frame s (Mode.refl s)
    | close port frame => exact mode_execClose port frame s (Mode.refl s)
    | ack port frame => exact mode_execAck port frame s (Mode.refl s)
    | read port frame => exact mode_execRead port frame s (Mode.refl s)
    | write port frame => exact mode_execWrite port frame s (Mode.refl s)
    | submit port frame => exact mode_execSubmit port frame s (Mode.refl s)
    | cons port frame => exact mode_execCons port frame s (Mode.refl s)
    | xferImage port frame => exact mode_execXferImage port frame s (Mode.refl s)
    | xferFirmware port frame => exact mode_execXferFirmware port frame s (Mode.refl s)
    | challenge port frame => exact mode_execChallenge port frame s (Mode.refl s)
    | auth port frame => exact mode_execAuth port frame s (Mode.refl s)
    | report port frame => exact mode_execReport port frame s (Mode.refl s)
    | getPart port frame => exact mode_execGetPart port frame s (Mode.refl s)
    | unlock port frame => exact mode_execUnlock port frame s (Mode.refl s)
    | lockDebug port frame => exact mode_execLockDebug port frame s (Mode.refl s)
    | debugAccess port frame => exact mode_execDebugAccess port frame s (Mode.refl s)
    | hcpRetransmit session => exact mode_execHcpRetransmit session s (Mode.refl s)
    | hcpAckTimer session => exact mode_execHcpAckTimer session s (Mode.refl s)
    | sessionIdle session => exact mode_execSessionIdle session s (Mode.refl s)
    | fabricFrameRx link frame => exact mode_execFabricFrameRx link frame s (Mode.refl s)
    | sendSlot link => exact mode_execSendSlot link s (Mode.refl s)
    | forwardSlot link => exact mode_execForwardSlot link s (Mode.refl s)
    | beaconSlot link => exact mode_execBeaconSlot link s (Mode.refl s)
    | frameRto link => exact mode_execFrameRto link s (Mode.refl s)
    | laneCheckEnd link errors => exact mode_execLaneCheckEnd link errors s (Mode.refl s)
    | trainRetry link => exact mode_execTrainRetry link s (Mode.refl s)
    | laneLockLoss link => exact mode_execLaneLockLoss link s (Mode.refl s)
    | lockLossTimeout link => exact mode_execLockLossTimeout link s (Mode.refl s)
    | postLoadLinkCheck link => exact mode_execPostLoadLinkCheck link s (Mode.refl s)
    | routeSwitch => exact mode_execRouteSwitch s (Mode.refl s)
    | declare link => exact mode_execDeclare link s (Mode.refl s)
    | peek link word => exact mode_execPeek link word s (Mode.refl s)
    | eventArrival source info => exact mode_execEventArrival source info s (Mode.refl s)
    | claimSlotFill => exact mode_execClaimSlotFill s (Mode.refl s)
    | fastMret p => exact mode_execFastMret p s (Mode.refl s)
    | wfi p => exact mode_execWfi p s (Mode.refl s)
    | coalTimer p => exact mode_execCoalTimer p s (Mode.refl s)
    | evcClaim p => exact mode_execEvcClaim p s (Mode.refl s)
    | evcFclaim p => exact mode_execEvcFclaim p s (Mode.refl s)
    | evcComplete p value => exact mode_execEvcComplete p value s (Mode.refl s)
    | evcPendset word value => exact mode_execEvcPendset word value s (Mode.refl s)
    | evcPendclr word value => exact mode_execEvcPendclr word value s (Mode.refl s)
    | evcMaskset word value => exact mode_execEvcMaskset word value s (Mode.refl s)
    | evcMaskclr word value => exact mode_execEvcMaskclr word value s (Mode.refl s)
    | evcCfgWrite source value => exact mode_execEvcCfgWrite source value s (Mode.refl s)
    | evcSwset value => exact mode_execEvcSwset value s (Mode.refl s)
    | evcBudWrite p limit => exact mode_execEvcBudWrite p limit s (Mode.refl s)
    | watchdogStage1 p => exact mode_execWatchdogStage1 p s (Mode.refl s)
    | watchdogStage2 p => exact mode_execWatchdogStage2 p s (Mode.refl s)
    | kick p => exact mode_execKick p s (Mode.refl s)
    | controlSpaceTimeout p => exact mode_execControlSpaceTimeout p s (Mode.refl s)
    | mgtRestart => exact mode_execMgtRestart s (Mode.refl s)
    | fwVerify => exact mode_execFwVerify s (Mode.refl s)
    | fwVerifyEnd => exact mode_execFwVerifyEnd s (Mode.refl s)
    | fwCommit => exact mode_execFwCommit s (Mode.refl s)
    | fwProgramEnd readBackOk => exact mode_execFwProgramEnd readBackOk s (Mode.refl s)
    | fwActivate => exact mode_execFwActivate s (Mode.refl s)
    | install => exact mode_execInstall s (Mode.refl s)
    | sealKey slot => exact mode_execSeal slot s (Mode.refl s)
    | unsealKey => exact mode_execUnseal s (Mode.refl s)
    | erase slot => exact mode_execErase slot s (Mode.refl s)
    | ownerUpdate => exact mode_execOwnerUpdate s (Mode.refl s)
    | tamperFire sensor => exact mode_execTamperFire sensor s (Mode.refl s)
    | drbgReseed => exact mode_execDrbgReseed s (Mode.refl s)
    | seedBankClose => exact mode_execSeedBankClose s (Mode.refl s)
    | retire loc => exact mode_execRetire loc s (Mode.refl s)
    | faultEvent loc uncorrectable => exact mode_execFaultEvent loc uncorrectable s (Mode.refl s)
    | repairCopyEnd loc => exact mode_execRepairCopyEnd loc s (Mode.refl s)
    | repairSwitch loc => exact mode_execRepairSwitch loc s (Mode.refl s)
    | periodicTest failed => exact mode_execPeriodicTest failed s (Mode.refl s)
    | rotation core => exact mode_execRotation core s (Mode.refl s)
    | targetedTestEnd loc failed => exact mode_execTargetedTestEnd loc failed s (Mode.refl s)
    | bistEnd failed => exact mode_execBistEnd failed s (Mode.refl s)
    | repClassWrite cls value => exact mode_execRepClassWrite cls value s (Mode.refl s)
    | flushTimer => exact mode_execFlushTimer s (Mode.refl s)
    | flush => exact mode_execFlush s (Mode.refl s)
    | flushDone => exact mode_execFlushDone s (Mode.refl s)
    | recordSample temp volts => exact mode_execRecordSample temp volts s (Mode.refl s)
    | fire => exact mode_execFire s (Mode.refl s)
    | release => exact mode_execRelease s (Mode.refl s)
    | unfreeze => exact mode_execUnfreeze s (Mode.refl s)
    | armAt => exact mode_execArmAt s (Mode.refl s)
    | disarm => exact mode_execDisarm s (Mode.refl s)
    | instantReached => exact mode_execInstantReached s (Mode.refl s)
    | shutterLatch block => exact mode_execShutterLatch block s (Mode.refl s)
    | firingComplete => exact mode_execFiringComplete s (Mode.refl s)
    | standby drainMs => exact mode_execStandby drainMs s (Mode.refl s)
    | standbyDrainEnd => exact mode_execStandbyDrainEnd s (Mode.refl s)
    | active => exact mode_execActive s (Mode.refl s)
    | activeComplete => exact mode_execActiveComplete s (Mode.refl s)
    | powerOn => exact absurd rfl h1
    | powerLoss => exact absurd rfl h2
    | rstNAssert samples => exact mode_execRstNAssert samples s (Mode.refl s)
    | rstNRelease samples => exact absurd rfl (h3 _)
    | thermalSample temps => exact mode_execThermalSample temps s (Mode.refl s)
    | throttleInterval watts => exact mode_execThrottleInterval watts s (Mode.refl s)
    | pllLockLoss => exact mode_execPllLockLoss s (Mode.refl s)
    | lowHalfRead requester addr => exact mode_execLowHalfRead requester addr s (Mode.refl s)
    | registerWrite addr value size => exact mode_execRegisterWrite addr value size s (Mode.refl s)
    | fibreLightGained link => exact mode_execFibreLightGained link s (Mode.refl s)
    | portLinkStateChange port up => exact mode_execPortLinkStateChange port up s (Mode.refl s)
    | unscheduledFrame link => exact mode_execUnscheduledFrame link s (Mode.refl s)
    | streamGateConfigApply port gate => exact mode_execStreamGateConfigApply port gate s (Mode.refl s)
    | fastContextException p => exact mode_execFastContextException p s (Mode.refl s)
    | controlMemoryUe => exact mode_execControlMemoryUe s (Mode.refl s)
    | registerFileParity p => exact mode_execRegisterFileParity p s (Mode.refl s)
    | otherFrame port frame => exact mode_execOtherFrame port frame s (Mode.refl s)
  exact key t h

/-- A step takes the front command and keeps what `Kept` names. -/
theorem step_kept (s t : State) (h : step s = .next t) : t.pending = s.pending.tail ∧ Kept { s with pending := t.pending } t := by
  unfold step at h
  split at h
  · rename_i hp
    cases h
    have := kept_tick s (Kept.refl s)
    refine ⟨by rw [this.pending, hp]; rfl, ?_⟩
    rw [this.pending]; exact this
  · rename_i c r hp
    have := exec_kept c _ t h
    refine ⟨by rw [this.pending, hp]; rfl, ?_⟩
    rw [this.pending]; exact this

end Sys2Proof.Machine
end

