-- ==== Sys2Proof/Laws/Units.lean ====
section
/-! SUPPORT. What issuing an instruction to a unit can do (R65): one lemma that says it all, and the case of a free unit. -/

namespace Sys2Proof.Machine
open Sys2Proof.Safety

/-- A free unit takes an instruction of any activity into its queue (R65). -/
theorem mayQueue_of_free {s : State} {n u : Nat} (hq : unitQueue s n u = []) (hb : unitBusy s n u = false) (c : Nat) : mayQueue s n c u = true := by
  simp [mayQueue, hq, hb]

/-- Nothing stands at the head of an empty queue. -/
theorem atHead_of_empty {s : State} {n u : Nat} (hq : unitQueue s n u = []) (c : Nat) (w : W128) : atHead s n c u w = false := by
  simp [atHead, hq]

/-- What `issue` does, by its guards in order. -/
theorem issue_eq (s : State) (n c : Nat) (w : W128) (op u r : Nat) (ready adm : Bool) (run : State → State) :
    issue s n c w op u r ready adm run =
      if (atHead s n c u w && ready) = true then run (setUnitQueue s n u (unitQueue s n u).tail)
      else if (!canIssue s n c w op || !mayQueue s n c u) = true then notIssued s n c
      else if (!adm) = true then refused s (ctxActivity s n c) r
      else if ((unitQueue s n u).isEmpty && ready) = true then run (beginWork s n c u w)
      else joinQueue s n c u w := by
  unfold issue turn
  by_cases h1 : (atHead s n c u w && ready) = true
  · have h0 : atHead s n c u w = true := by simp only [Bool.and_eq_true] at h1; exact h1.1
    rw [if_pos h1, if_pos h1]
    simp only [beginWork, h0, if_true]
  · by_cases h2 : (!canIssue s n c w op || !mayQueue s n c u) = true
    · simp only [h1, h2, if_true, if_false, Bool.false_eq_true]
    · by_cases h3 : (!adm) = true
      · simp only [h1, h2, h3, if_true, if_false, Bool.false_eq_true]
      · by_cases h4 : ((unitQueue s n u).isEmpty && ready) = true
        · simp only [h1, h2, h3, h4, if_true, if_false, Bool.false_eq_true]
        · simp only [h1, h2, h3, h4, if_false, Bool.false_eq_true]

/-- A free unit that is ready begins an admitted instruction at once. -/
theorem issue_of_free {s : State} {n c op u : Nat} {w : W128} (h : UnitFree s n c w op u) (r : Nat) (run : State → State) :
    issue s n c w op u r true true run = run (nextPc s n c) := by
  obtain ⟨hc, hq, hb⟩ := h
  rw [issue_eq]
  simp [atHead_of_empty hq, hc, mayQueue_of_free hq hb, hq, beginWork]

/-- A command whose meaning is `issue` keeps the order of issue. -/
theorem issuesInOrder_of {i : Instr} {n c op u r : Nat} {w : W128} {ready adm : Bool} {run : State → State} {s : State}
    (h : exec i s = .next (issue s n c w op u r ready adm run)) : IssuesInOrder i n c w op u r ready adm run s := by
  rw [issue_eq] at h
  refine ⟨fun hh => by rw [h, if_pos hh], fun hh => ?_⟩
  rw [if_neg (by simp [hh])] at h
  refine ⟨fun hc => by rw [h, if_pos (by rcases hc with hc | hc <;> simp [hc])], fun hc hm => ?_⟩
  rw [if_neg (by simp [hc, hm])] at h
  refine ⟨fun ha => by rw [h, if_pos (by simp [ha])], fun ha hq => ?_, fun ha hq hr => ?_⟩
  · rw [h, if_neg (by simp [ha]), if_neg (by rcases hq with hq | hq <;> simp [hq])]
  · have hb : beginWork s n c u w = nextPc s n c := by simp [beginWork, atHead_of_empty hq]
    rw [h, if_neg (by simp [ha]), if_pos (by simp [hq, hr]), hb]

end Sys2Proof.Machine
end

