-- ==== Sys2Proof/Machine/Procedures.lean ====
section
/-! DEFINITION. The numeric procedures that the vector unit's micro-programs compose (R131 to R136, R183, R199, R203 to R206), as functions of
whole rows: soft maximum, normalisation, quantisation and residual vector quantisation, each in the operations and roundings of the spec's
pseudocode. No command runs them as such: programs do, step by step. -/

namespace Sys2Proof.Machine

/-- Splits a row into tiles of `tl` positions (R131). -/
def tilesOf {α : Type} (tl : Nat) : Nat → List α → List (List α)
  | 0, _ => []
  | fuel + 1, xs => if xs = [] then [] else xs.take tl :: tilesOf tl fuel (xs.drop tl)

/-- The score of a masked position (R132). -/
def maskScore : Int := -2147483648
/-- The running maximum, sum and weighted outputs of a fixed-point soft maximum (R132). -/
structure SoftQ where
  m : Int := maskScore
  l : Int := 0
  o : List Int := []
  deriving DecidableEq, Repr
/-- Weight of a score under a maximum, UQ1.15 (R132). -/
def weightQ (x m : Int) : Int := if x = maskScore then 0 else rshiftRne (exp2q (x - m)) 16
/-- One tile of R132: positions as score and values. A wholly masked tile changes nothing; a risen maximum corrects what was summed. -/
def softTile (a : SoftQ) (t : List (Int × List Int)) : SoftQ :=
  let mt := (t.map (·.1)).foldl max maskScore
  if mt = maskScore then a
  else
    let fix (v : Int) : Int := if a.m ≠ maskScore && mt > a.m then rshiftRne (v * exp2q (a.m - mt)) 31 else v
    let m := max a.m mt
    t.foldl (fun a x =>
      let p := weightQ x.1 m
      { a with l := a.l + p, o := List.zipWith (fun o v => o + p * v) a.o x.2 }) { m, l := fix a.l, o := a.o.map fix }
/-- `softmax_q` of R132 over scores with their values, tile length `tl`, `dims` outputs of `fy` fraction bits; with l = 0 the quotient is that of
R127. -/
def softmaxQ (x : List (Int × List Int)) (dims tl fy : Nat) : List (Int × NumFlags) :=
  let a := (tilesOf tl x.length x).foldl softTile { o := List.replicate dims 0 }
  a.o.map (fun o => idivStep (o * (2 ^ fy : Nat)) a.l)
/-- The soft maximum without an attention product (R133): each p again under the final maximum, over the sum, UQ1.15. -/
def softmaxWeights (x : List Int) (tl : Nat) : List (Int × NumFlags) :=
  let a := (tilesOf tl x.length (x.map (fun v => (v, [])))).foldl softTile {}
  x.map (fun v => idivStep (weightQ v a.m * (2 ^ 15 : Nat)) a.l)

/-- Integer normalisation (R135): gamma has `shg` fraction bits, eps is at least 1. -/
def normInt (x gamma beta : List Int) (eps : Int) (shg : Nat) : List Int :=
  let n := x.length
  let mu := divRne (x.foldl (· + ·) 0) n
  let ss := (x.map (fun v => (v - mu) * (v - mu))).foldl (· + ·) 0
  let w := divRne (ss * (2 ^ 16 : Nat)) n + eps
  let r : Int := rsqrtq w.toNat 40
  (x.zip (gamma.zip beta)).map (fun (v, g, b) => rshiftRne ((v - mu) * r * g) (32 + shg) + b)

/-- An FP32 value rounded once (R122), INF as given. -/
def rnd32 (inf : Bool) (v : Fp × NumFlags) : Fp × NumFlags := fpStep 13 inf v
/-- `chain_dot` of R136: RDOT over a row in ascending element order, 128 lanes at a time (R121). -/
def chainDot (xs ys : List Fp) : Fp × NumFlags :=
  let (a, f) := (tilesOf 128 xs.length (xs.zip ys)).foldl (fun (a, f) t =>
    let (b, g) := reduceFp a (t ++ List.replicate (128 - t.length) (Fp.zero, Fp.one))
    (b, f ||| g)) (clearedAcc true 0, (0 : NumFlags))
  (accFp a, f)
/-- `chain_sum` of R136. -/
def chainSum (xs : List Fp) : Fp × NumFlags := chainDot xs (xs.map (fun _ => Fp.one))
/-- Floating-point normalisation (R136), INF as given: the shift correction is kept to 64 significant bits (`rnd_s`), and a variance that
rounding leaves negative becomes +0. -/
def normFp (inf : Bool) (x gamma beta : List Fp) (eps : Fp) : List Fp × NumFlags :=
  let n := Fp.ofInt x.length 0
  let sum := chainSum x
  let mu := rnd32 inf (fpDiv sum.1 n)
  let d := x.map (fun v => rnd32 inf (fpAdd v mu.1.neg))
  let s1 := chainSum (d.map (·.1))
  let s2 := chainDot (d.map (·.1)) (d.map (·.1))
  let sq := rndS 64 (fpMul s1.1 s1.1).1
  let cor := rndS 64 (fpDiv sq.1 n).1
  let rest := rndS 64 (fpAdd s2.1 cor.1.neg).1
  let var := rnd32 inf (fpDiv rest.1 n)
  let var0 := if var.1.le (.fin true 0 0) && !var.1.isNan then Fp.zero else var.1
  let r := rnd32 inf (fpRsqrt (rnd32 inf (fpAdd var0 eps)).1)
  let out := (d.zip (gamma.zip beta)).map (fun (d, g, b) =>
    let y := rnd32 inf (fpMul d.1 r.1)
    let z := rnd32 inf (fpMul y.1 g)
    let o := rnd32 inf (fpAdd z.1 b)
    (o.1, d.2 ||| y.2 ||| z.2 ||| o.2))
  (out.map (·.1), (out.map (·.2)).foldl (· ||| ·) (sum.2 ||| mu.2 ||| s1.2 ||| s2.2 ||| sq.2 ||| cor.2 ||| rest.2 ||| var.2 ||| r.2))

/-! ### Latent quantisation (R183) -/

/-- Quantiser step of index `qi`, UQ16.16. -/
def stepOf (qi : Nat) : Nat := (rshiftRne (tableT (qi % 8 * 8192)) (15 - qi / 8)).toNat
/-- Coded value of a latent `y` with `fl` fraction bits, saturated to INT16. -/
def quantise (fl qi : Nat) (y : Int) : Int := sat16 (divRne (y * (2 ^ 16 : Nat)) (stepOf qi * 2 ^ fl))
/-- Dequantised value. -/
def dequantise (fl qi : Nat) (q : Int) : Int := rshiftRne (q * (stepOf qi * 2 ^ fl : Nat)) 16
/-- The MU field of a mean. -/
def muOf (fl qi : Nat) (mean : Int) : Int := max (-262144) (min 262143 (divRne (mean * (2 ^ 19 : Nat)) (stepOf qi * 2 ^ fl)))
/-- The SIDX field of a scale in eighths of an octave. -/
def sidxOf (scale : Int) (qi sidxOff : Nat) : Int := min (max (scale - qi + sidxOff) 0) 127

/-! ### Audio (R199, R203, R204, R206) -/

/-- The two INT16 channels of a 24-bit sample: bits above the low byte, and the low byte (R199). -/
def audioH (x : Int) : Int := x / 256
def audioL (x : Int) : Int := x - 256 * audioH x
/-- Norm of a codebook vector. -/
def normSq (c : List Int) : Int := (c.map (fun x => x * x)).sum
/-- One stage of residual quantisation (R203): the nearest entry, the lower index on a tie, and the next residual. -/
def rvqStage (cb : List (List Int)) (r : List Int) : Nat × List Int :=
  let dist (c : List Int) : Int := normSq c - 2 * (List.zipWith (· * ·) r c).sum
  let best := (cb.zipIdx.foldl (fun (b : Option (Int × Nat)) x => match b with
    | some (d, _) => if dist x.1 < d then some (dist x.1, x.2) else b
    | none => some (dist x.1, x.2)) none).elim 0 (·.2)
  (best, List.zipWith (fun x c => sat16 (x - c)) r (cb.getD best []))
/-- The indices of a vector over the coded stages (R203), from the saturated latent. -/
def rvqEncode : List (List (List Int)) → List Int → List Nat
  | [], _ => []
  | cb :: rest, r => let (i, r) := rvqStage cb r; i :: rvqEncode rest r
/-- The vector that indices stand for (R204): the sum of the entries, saturated once. -/
def rvqDecode (dims : Nat) (cbs : List (List (List Int))) (is : List Nat) : List Int :=
  ((cbs.zip is).foldl (fun acc (cb, i) => List.zipWith (· + ·) acc (cb.getD i [])) (List.replicate dims 0)).map sat16
/-- The two direct symbols of an index (R206). -/
def indexSymbols (i : Nat) : Nat × Nat := (i / 128, i % 128)

end Sys2Proof.Machine
end

