-- ==== Sys2Proof/Tests/Slice0.lean ====
section
/-! SUPPORT. Tests: ill-formed commands, small steps with results worked out from the spec, and for the statements states and operands that
meet their hypotheses. -/

namespace Sys2Proof.Tests
open Sys2Proof.Machine Sys2Proof.Safety
set_option Elab.async false

/-- The device on, with nothing loaded. -/
def on : State := { State.reset with pow := { st := .active } }
/-- Bytes of a number put into a store. -/
def bytesAt (m : SMap Byte) (a n v : Nat) : SMap Byte := SMap.setAll 0 m a (leBytes n v)
/-- Core 0 of partition 0 with a task of activity 0 on context 0, whose program is `w`; descriptor 0 of its table is `d`. -/
def seq (w : Nat) (d : Nat := 0) (k : Core := {}) : State :=
  { on with
    cores := [(0, { k with ctxs := SMap.set {} k.ctxs 0 { (SMap.get {} k.ctxs 0) with task := some {} } })]
    img := { cores := [(0, { part := 0, descCount := 8, descBase := 4096 })] }
    mem := { store := bytesAt (bytesAt [] 0 16 w) 4096 192 d } }
/-- Control words set on a state. -/
def words (s : State) (l : List (Nat × Nat)) : State := l.foldl (fun s x => wr32 s x.1 x.2) s
/-- A word of sequencer code. -/
abbrev W (w : Nat) : W128 := BitVec.ofNat 128 w
/-- The hold of a context set. -/
def held (s : State) (h : Hold) : State := setCtx s 0 0 { ctxOf s 0 0 with hold := h }
/-- A descriptor that reads and writes one element at byte 8192. -/
def one : Nat := 8192
/-- The budget of the array of core 0 for activity 0 above 0. -/
def paid (s : State) : State := setRem s 0 0 1000
/-- Words of a ring descriptor: 4 slots of 64 bytes at address 2^21 · `page`, of a kind, with its flags, PROD and CONS, DRAIN_US 1. -/
def ring (r page kind flags prod cons : Nat) : List (Nat × Nat) :=
  [(ringAt r, page * 2 ^ 21), (ringAt r + 8, 64), (ringAt r + 12, 4 + kind * 2 ^ 16 + flags * 2 ^ 24), (ringAt r + 16, prod + cons * 2 ^ 16), (ringAt r + 20, 1)]
/-- The rings of partition 0: ingress 0, egress 1, submission 2, completion 3, egress 4 with one slot handed over, ring 5 disabled,
ring 6 without an address that is mapped; submission record `w` in slot 0 of ring 2; image word 0x488 as given. -/
def rings (w : Nat) (img : Nat := 257) : State :=
  let s := { on with
    img := { cores := [(0, { part := 0, progs := [(0, { entries := [{ bound := 1 }] })] })], parts := [(0, { cores := 1, slots := 1 })],
             models := [(0, { bytes := List.replicate 512 0 })], pages := [(0, 2 ^ 43 + 2 ^ 47)] }
    mem := { hbm := bytesAt [] 0 64 w } }
  words s (ring 0 0 0 1 1 0 ++ ring 1 0 1 1 0 0 ++ ring 2 0 2 1 1 0 ++ ring 3 0 3 1 0 0 ++ ring 4 0 4 1 1 0 ++ ring 5 0 4 0 0 0 ++ ring 6 9 4 0 0 0 ++
    [(mgtBase + 0x488, img)])
/-- A frame to port `p` from MAC 01-01-01-01-01-01. -/
def frameTo (p etype : Nat) (pl : List Byte) : List Byte := portMac p ++ List.replicate 6 1 ++ beBytes 2 etype ++ pl
def myIp : List Byte := List.replicate 16 0x21
def peerIp : List Byte := List.replicate 16 0x22
def myIp4 : List Byte := List.replicate 12 0 ++ [10, 0, 0, 1]
def peerIp4 : List Byte := List.replicate 12 0 ++ [10, 0, 0, 2]
/-- The device with an owner record that gives port 8 an address and HCP_UDP 0x4242; port 0 has the same address and MEDIA_UDP 0x4242. -/
def netOn (ip : List Byte) : State :=
  words { on with owner := List.replicate 24 0 ++ [0x42, 0x42] ++ List.replicate 6 0 ++ ip ++ List.replicate 16 0 }
    [(portBase 0 + 0x40, 1500 + 0x4242 * 2 ^ 16), (portBase 8 + 0x40, 1500), (portBase 0 + 0x50, 0x21212121), (portBase 0 + 0x54, 0x21212121),
     (portBase 0 + 0x58, 0x21212121), (portBase 0 + 0x5C, 0x21212121)]
theorem packetFor_of {s : State} {p etype : Nat} {pl : List Byte} {i : IpPacket}
    (h : ((parseFrame (frameTo p etype pl)).pl.length ≤ portMtu s p ∧ parseIp (parseFrame (frameTo p etype pl)) = some i ∧ ownIp s p i.dst = true))
    (ht : tagAccepted p (parseFrame (frameTo p etype pl)) = true := by rfl) :
    packetFor s p (parseFrame (frameTo p etype pl)) = some i := by
  have hd : (parseFrame (frameTo p etype pl)).dmac = portMac p := rfl
  unfold packetFor
  simp [hd, ht, h.2.1, h.2.2, Nat.not_lt.mpr h.1]
def vj : VJob := { ctx := 0, w := 9 }
/-- The vector unit runs a program whose word at its PC is `w`; every operand descriptor is descriptor 0, at byte 8192. -/
def mic (w : Nat) (v : Vec := {}) : State :=
  words (seq 9 one { vec := { v with job := some vj } }) [(vecBase 0 + 0x8000, w % 2 ^ 32), (vecBase 0 + 0x8004, w / 2 ^ 32)]
abbrev U (w : Nat) : W64 := BitVec.ofNat 64 w
/-- MGT_LD_STATUS set. -/
def inLoad (v : Nat) : State := wr32 on (mgtBase + 0x408) v
/-- A 16 × 16 encode entry of activity 0 on those rings. -/
def entryNum : Nat := 1 + (1 * 2 ^ 16 + 3 * 2 ^ 32 + 0xFFFF * 2 ^ 48 + 16 * 2 ^ 64 + 16 * 2 ^ 80 + 2 ^ 96 + 2 ^ 112) * 2 ^ 128
/-- STR_EDATA set to an entry. -/
def withData (s : State) (e : W512) : State := words s ((List.range 16).map (fun k => (strBase + 0x100 + 4 * k, bits e.toNat (32 * k) 32)))
def withEntry (s : State) (e : W512) : State := s.setStr { s.str with entries := [(0, e)] }
/-- A protected entry whose key is installed, with prefixes left and with none left. -/
def protW : W512 := BitVec.ofNat 512 (entryNum + 2 ^ 4 + 2 * 2 ^ 15 + 1 * 2 ^ 384)
def keyed (next : Nat) : State := let s := withData (rings 0) protW
  { s with img := { s.img with vmax := [(1, 2)] }, drk := { s.drk with keys := [(1, some { usage := 2, key := [] })], next := next } }

/-! ### Ill-formed commands -/

theorem test_wf_core : Instr.wf (.nop 8 0 0) = false ∧ Instr.wf (.nop 7 7 0) = true := by decide
theorem test_wf_context : Instr.wf (.nop 0 8 0) = false := by decide
theorem test_wf_port : Instr.wf (.otherFrame 10 []) = false ∧ Instr.wf (.otherFrame 9 []) = true := by decide
theorem test_wf_gate : Instr.wf (.streamGateConfigApply 0 16) = false ∧ Instr.wf (.streamGateConfigApply 0 15) = true := by decide
theorem test_wf_link : Instr.wf (.sendSlot 16) = false ∧ Instr.wf (.sendSlot 15) = true := by decide
theorem test_wf_processor : Instr.wf (.kick 4) = false ∧ Instr.wf (.kick 3) = true := by decide
theorem test_wf_session : Instr.wf (.sessionIdle 0) = false ∧ Instr.wf (.sessionIdle 9) = false ∧ Instr.wf (.sessionIdle 8) = true := by decide

/-! ### The queue and reset -/

theorem witness_EmptyQueue : (on.pending = [] ∧ mgmtOn on = true) ∧ (State.reset.pending = [] ∧ mgmtOn State.reset = false) := by decide
theorem witness_StepKeepsMemoryForm : on.mem.wf = true ∧ ∃ t, step on = .next t := ⟨by decide, _, rfl⟩
theorem witness_StepKeepsPrefixes : on.drk.next ≤ on.flash.prefixEnd ∧ ∃ t, step { on with pending := [.nop 0 0 0] } = .next t := ⟨by decide, _, rfl⟩
theorem witness_OnlyPower : State.reset.pow.st = .reset ∧ ∃ t, exec .powerLoss State.reset = .next t ∧ t.pow.st ≠ .reset :=
  ⟨rfl, _, rfl, by decide⟩
theorem witness_OnlyPower_off : ∃ t, exec .powerOn { State.reset with pow := { st := .off } } = .next t ∧ t.pow.st ≠ .off := ⟨_, rfl, by decide⟩

/-! ### Sequencer -/

theorem witness_Nop : canIssue (seq 1) 0 0 (W 1) 0x01 = true := by decide +kernel
theorem witness_Period : canIssue (seq 4) 0 0 (W 4) 0x04 = true := by decide +kernel
theorem witness_WaitZero : canIssue (seq 2) 0 0 (W 2) 0x02 = true ∧ wsValue (W 2) = 0 := by decide +kernel
theorem witness_WaitSemaphoreHeld : canIssue (seq 0x10002) 0 0 (W 0x10002) 0x02 = true ∧ wsValue (W 0x10002) ≠ 0 ∧ wsTarget (W 0x10002) = 0 ∧
    semOf (seq 0x10002) 0 (wsSem (W 0x10002)) < wsValue (W 0x10002) := by decide +kernel
theorem witness_WaitSemaphore : let s := words (seq 0x10002) [(coreBase 0 0 + 0x100, 1)]
    canIssue s 0 0 (W 0x10002) 0x02 = true ∧ wsValue (W 0x10002) ≤ semOf s 0 (wsSem (W 0x10002)) := by decide +kernel
/-- WAIT on the counter at byte 0 of the store, which holds the low word of the instruction itself. -/
theorem witness_WaitCounterReached : let s := seq 0x10102
    canIssue s 0 0 (W 0x10102) 0x02 = true ∧ wsTarget (W 0x10102) = 1 ∧
    ((storeRead s 0 (wsAddr (W 0x10102)) 4).toOption.map (fun bs => decide (toSigned 32 ((leNat bs + (2 ^ 32 - wsValue (W 0x10102))) % 2 ^ 32) ≥ 0))) = some true := by
  decide +kernel
theorem witness_WaitCounterHeld : let w := 0x102 + 5 * 2 ^ 16 + 64 * 2 ^ 64
    canIssue (seq w) 0 0 (W w) 0x02 = true ∧ wsTarget (W w) = 1 ∧ wsValue (W w) = 5 ∧ (storeRead (seq w) 0 (wsAddr (W w)) 4).toOption = some [0, 0, 0, 0] := by
  decide +kernel
theorem witness_WaitCounterFault : let w := 0x102 + 5 * 2 ^ 16 + 0x7FFFFFF0 * 2 ^ 64
    canIssue (seq w) 0 0 (W w) 0x02 = true ∧ (storeRead (seq w) 0 (wsAddr (W w)) 4).toOption = none := by decide +kernel
theorem witness_HeldSemaphore : let s := held (words (seq 2) [(coreBase 0 0 + 0x100, 7)]) (.sem 0 7)
    codecOn s = true ∧ (ctxOf s 0 0).hold = .sem 0 7 ∧ 7 ≤ semOf s 0 0 := by decide +kernel
theorem witness_HeldSemaphoreNot : let s := held (seq 2) (.sem 0 7)
    codecOn s = true ∧ (ctxOf s 0 0).hold = .sem 0 7 ∧ semOf s 0 0 < 7 := by decide +kernel
theorem witness_HeldCounter : let s := held (seq 2) (.counter 0 2)
    codecOn s = true ∧ (ctxOf s 0 0).hold = .counter 0 2 ∧ (storeRead s 0 0 4).toOption = some [2, 0, 0, 0] ∧ reached 2 2 = true ∧ reached 2 3 = false := by
  decide +kernel
theorem witness_SignalSemaphore : canIssue (seq 0x10003) 0 0 (W 0x10003) 0x03 = true ∧ wsTarget (W 0x10003) = 0 ∧ wsValue (W 0x10003) = 1 ∧
    semOf (seq 0x10003) 0 (wsSem (W 0x10003)) + 1 ≤ 65535 := by decide +kernel
theorem witness_SignalOverflow : let s := words (seq 0x10003) [(coreBase 0 0 + 0x100, 65535)]
    canIssue s 0 0 (W 0x10003) 0x03 = true ∧ 65535 < semOf s 0 0 + wsValue (W 0x10003) := by decide +kernel
theorem witness_SignalZero : canIssue (seq 3) 0 0 (W 3) 0x03 = true ∧ wsValue (W 3) = 0 := by decide +kernel
theorem witness_SignalCounter : canIssue (seq 0x10103) 0 0 (W 0x10103) 0x03 = true ∧ wsTarget (W 0x10103) = 1 ∧ wsValue (W 0x10103) ≠ 0 := by
  decide +kernel
theorem witness_ReadyCounter : let s := held (seq 2) (.ready 0 5)
    codecOn s = true ∧ (ctxOf s 0 0).hold = .ready 0 5 ∧ hasWork s 0 0 = false ∧ (storeRead s 0 0 4).toOption = some [2, 0, 0, 0] ∧
    (storeWrite s 0 0 (leBytes 4 7)).toOption.isSome = true ∧ storeKey s 0 0 = some 0 := by decide +kernel
theorem witness_ReadyCounterWork : let s := setCtx (held (seq 2) (.ready 0 5)) 0 0 { (ctxOf (held (seq 2) (.ready 0 5)) 0 0) with transfer := some ⟨0, 0, 0, {}⟩ }
    (ctxOf s 0 0).hold = .ready 0 5 ∧ hasWork s 0 0 = true := by decide +kernel
/-- WAIT takes 1 from a semaphore that holds 3 (R66). -/
theorem test_wait_subtracts : (match exec (.wait 0 0 (W 0x10002)) (words (seq 0x10002) [(coreBase 0 0 + 0x100, 3)]) with
    | .next t => (semOf t 0 0, pcOf t 0 0) | _ => (9, 9)) = (2, 1) := by decide +kernel
/-- SIGNAL adds to a semaphore (R66). -/
theorem test_signal_adds : (match exec (.signal 0 0 (W 0x30003)) (words (seq 0x30003) [(coreBase 0 0 + 0x100, 4)]) with
    | .next t => (semOf t 0 0, pcOf t 0 0) | _ => (9, 9)) = (7, 1) := by decide +kernel

/-! ### Transfers -/

/-- A transfer of 16 bytes from store byte 0 to store byte 8192, with the given SLOT_BYTES. -/
def xfer (slot : Nat) : Nat := 8192 * 2 ^ 64 + 16 * 2 ^ 128 + 2 ^ 160 + 2 ^ 192 + 2 ^ 224 + 2 ^ 256 + 2 ^ 800 + 2 ^ 808 + slot * 2 ^ 832
/-- Such a transfer under way. -/
def tx (slot : Nat) : Transfer := { desc := 0, csem := 1, dsem := 2, run := newRun (xfer slot) }
/-- The context with a transfer under way, and credit semaphore 1 at the given value. -/
def movingRun (x : Transfer) (sem : Nat) : State :=
  setTransfer (words (seq 8 (xfer 0)) [(coreBase 0 0 + 0x104, sem)]) 0 0 x
def moving (slot sem : Nat) : State := movingRun (tx slot) sem
/-- A persistent stream of the same descriptor in slot 0. -/
def streaming (slot sem : Nat) (p : PStream) : State := setPstream (words (seq 8 (xfer slot)) [(coreBase 0 0 + 0x104, sem)]) 0 0 p
def ps (slot : Nat) : PStream := { ctx := 0, desc := 0, csem := 1, dsem := 2, run := newRun (xfer slot) }
/-- An archival context 1 of core 0 beside the live one, with the transfer of the live one still moving. -/
def outrun (x : Transfer) : State :=
  setTransfer (setCtx (moving 0 0) 0 1 { ctxOf (moving 0 0) 0 1 with task := some { activity := 2 }, activity := 2 }) 0 1 x
/-- Whether a move is complete. -/
def whole (m : Moved) : Bool := m.refusedAt.isNone && m.err.isNone

theorem witness_Transfer : let s := seq 8 (xfer 0)
    codecOn s = true ∧ taskOf s 0 0 = some {} ∧ UnitFree s 0 0 (W 8) 0x08 7 ∧ xKind (W 8) = 0 ∧
    (transferDesc s 0 0).toOption = some (xfer 0) ∧ tSrel (xfer 0) = 0 ∧ (openDesc (nextPc s 0 0) 0 0 (W 8)).2 = some ({}, xfer 0) ∧
    tSlotBytes (xfer 0) = 0 ∧ dmaWaits (setDmaActive (moving 0 0) 0 0 true) 0 0 0 = false ∧
    whole (move (setDmaActive (moving 0 0) 0 0 true) 0 (runOf 0 (newRun (xfer 0)) {}) (tTotal (xfer 0)) (newRun (xfer 0))) = true := by decide +kernel
/-- The queue of the DMA engine holds the transfer and one of another context; another word of the context joins it, one of a context that
may not issue it does not, and the one at its head begins once the engine is free. -/
theorem witness_IssuesInOrder :
    let s := seq 8 (xfer 0) { queues := [(7, [(0, W 8), (1, W 0x108)])] }
    (atHead s 0 0 7 (W 8) && !unitBusy s 0 7) = true ∧ canIssue s 0 0 (W 8) 0x08 = true ∧ mayQueue s 0 0 7 = true ∧
    (atHead (seq 8 (xfer 0)) 0 0 7 (W 8) && !unitBusy (seq 8 (xfer 0)) 0 7) = false ∧
    (let u := seq 8 (xfer 0) { queues := [(7, [(1, W 0x108)])] }
     (atHead u 0 0 7 (W 8) && !unitBusy u 0 7) = false ∧ canIssue u 0 0 (W 8) 0x08 = true ∧ mayQueue u 0 0 7 = true ∧ unitQueue u 0 7 ≠ []) ∧
    canIssue s 0 1 (W 8) 0x08 = false ∧ (atHead s 0 1 7 (W 8) && !unitBusy s 0 7) = false := by decide +kernel
/-- On a core with live work, archival work does not queue behind it (R65). -/
theorem witness_MayNotQueue : let s := seq 8 (xfer 0) { ctxs := [(0, { task := some { activity := 2 } }), (1, { role := 1 })], queues := [(7, [(1, W 0x108)])] }
    liveCore (setCtx s 0 0 { ctxOf s 0 0 with task := some { activity := 2 } }) 0 = true ∧
    mayQueue (setCtx s 0 0 { ctxOf s 0 0 with task := some { activity := 2 } }) 0 0 7 = false := by decide +kernel
theorem witness_TransferCredits : let s := seq 8 (xfer 8)
    UnitFree s 0 0 (W 8) 0x08 7 ∧ (openDesc (nextPc s 0 0) 0 0 (W 8)).2 = some ({}, xfer 8) ∧ tSlotBytes (xfer 8) ≠ 0 := by decide +kernel
/-- Archival work waits while a live transfer of the core moves (R296). -/
theorem witness_TransferWaits : dmaWaits (outrun (tx 0)) 0 1 2 = true ∧ dmaWaits (outrun (tx 0)) 0 0 0 = false := by decide +kernel
theorem witness_TransferDescFault : let w := 8 + 8 * 2 ^ 10
    UnitFree (seq w (xfer 0)) 0 0 (W w) 0x08 7 ∧ (transferDesc (seq w (xfer 0)) 0 (xDesc (W w))).toOption = none ∧
    (openDesc (nextPc (seq w (xfer 0)) 0 0) 0 0 (W w)).2 = none := by decide +kernel
/-- A source outside the store and outside every page ends the transfer as a fault. -/
theorem witness_TransferFault : let d := xfer 0 + 0x7FFFFFF0
    (openDesc (nextPc (seq 8 d) 0 0) 0 0 (W 8)).2 = some ({}, d) ∧ tSlotBytes d = 0 ∧
    (move (seq 8 d) 0 (runOf 0 (newRun d) {}) (tTotal d) (newRun d)).refusedAt = none ∧
    (move (seq 8 d) 0 (runOf 0 (newRun d) {}) (tTotal d) (newRun d)).err.isSome = true := by decide +kernel
/-- A destination in HBM, whose stack the activity may not charge, refuses the first write. -/
theorem witness_TransferRefused : let d := xfer 0 - 2 ^ 808
    let s := seq 8 d
    (move { s with img := { s.img with pages := [(0, 2 ^ 43 + 2 ^ 47)] } } 0 (runOf 0 { newRun d with dst := 0 } {}) (tTotal d)
      { newRun d with dst := 0 }).refusedAt.isSome = true := by decide +kernel
theorem witness_TransferComplete : let x : Transfer := { tx 0 with run := { newRun (xfer 0) with closed := true } }
    let s := movingRun x 0
    codecOn s = true ∧ taskOf s 0 0 = some {} ∧ (ctxOf s 0 0).transfer = some x ∧ tSlotBytes x.run.d = 0 ∧ semOf s 0 2 < 65535 := by decide +kernel
theorem witness_TransferCompleteMoves : let s := moving 0 0
    (ctxOf s 0 0).transfer = some (tx 0) ∧ tSlotBytes (xfer 0) = 0 ∧ dmaWaits s 0 0 0 = false ∧
    whole (move s 0 (runOf 0 (newRun (xfer 0)) {}) (tTotal (xfer 0)) (newRun (xfer 0))) = true := by decide +kernel
theorem witness_TransferCompleteCredits : let x : Transfer := { tx 8 with run := { newRun (xfer 8) with done := 2 } }
    (ctxOf (movingRun x 0) 0 0).transfer = some x ∧ tSlotBytes x.run.d ≠ 0 ∧ tCredits x.run.d ≤ x.run.done := by decide +kernel
theorem witness_CreditSlot : let s := moving 8 1
    codecOn s = true ∧ taskOf s 0 0 = some {} ∧ (ctxOf s 0 0).transfer = some (tx 8) ∧ tSlotBytes (xfer 8) ≠ 0 ∧ dmaWaits s 0 0 0 = false ∧
    ((creditStep s 0 (runOf 0 (tx 8).run {}) 1 2 (tx 8).run).map whole) = some true := by decide +kernel
theorem witness_NoCredit : let s := moving 8 0
    (ctxOf s 0 0).transfer = some (tx 8) ∧ (tx 8).run.opened = false ∧ tDrain (xfer 8) = false ∧ semOf s 0 1 = 0 := by decide +kernel
theorem witness_StreamCredit : let s := streaming 8 1 (ps 8)
    codecOn s = true ∧ pstream s 0 0 = some (ps 8) ∧ taskOf s 0 0 = some {} ∧ tSlotBytes (xfer 8) ≠ 0 ∧ dmaWaits s 0 8 0 = false ∧
    ((creditStep s 0 (runOf 0 (ps 8).run {}) 1 2 (ps 8).run).map whole) = some true := by decide +kernel
theorem witness_Persist : let s := seq 0x108 (xfer 0)
    UnitFree s 0 0 (W 0x108) 0x08 7 ∧ xKind (W 0x108) = 1 ∧ pstream s 0 (xSlot (W 0x108)) = none ∧
    (openDesc (nextPc s 0 0) 0 0 (W 0x108)).2 = some ({}, xfer 0) := by decide +kernel
theorem witness_PersistDescFault : let w := 0x108 + 8 * 2 ^ 10
    UnitFree (seq w (xfer 0)) 0 0 (W w) 0x08 7 ∧ xKind (W w) = 1 ∧ (openDesc (nextPc (seq w (xfer 0)) 0 0) 0 0 (W w)).2 = none := by decide +kernel
theorem witness_PersistBusy : let s := setPstream (seq 0x108 (xfer 0)) 0 0 (ps 0)
    UnitFree s 0 0 (W 0x108) 0x08 7 ∧ pstream s 0 (xSlot (W 0x108)) = some (ps 0) := by decide +kernel
theorem witness_Rearm : let s := setPstream (seq 0x208 (xfer 0)) 0 0 (ps 0)
    UnitFree s 0 0 (W 0x208) 0x08 7 ∧ xKind (W 0x208) = 2 ∧ (descOf s 0 (xNdesc (W 0x208))).toOption.isSome = true ∧ (ps 0).pending = false := by
  decide +kernel
theorem witness_DmaRearm : codecOn (seq 8) = true ∧ coreClosed (seq 8) 0 = false ∧ coreClosed (seq 8) 1 = true ∧
    (descOf (seq 8 (xfer 0)) 0 (bits (0 : W32).toNat 16 16)).toOption.isSome = true := by decide +kernel
theorem witness_Stop : let s := setPstream (seq 0x308) 0 0 (ps 0)
    UnitFree s 0 0 (W 0x308) 0x08 7 ∧ xKind (W 0x308) = 3 ∧ pstream s 0 0 = some (ps 0) ∧
    UnitFree (seq 0x308) 0 0 (W 0x308) 0x08 7 ∧ pstream (seq 0x308) 0 0 = none := by decide +kernel
theorem witness_PassCredits : let p : PStream := { ps 8 with run := { newRun (xfer 8) with done := 2 } }
    codecOn (streaming 8 0 p) = true ∧ pstream (streaming 8 0 p) 0 0 = some p ∧ p.parked = false ∧ taskOf (streaming 8 0 p) 0 0 = some {} ∧
    tSlotBytes p.run.d ≠ 0 ∧ tCredits p.run.d ≤ p.run.done := by decide +kernel
theorem witness_PassWhole : let s := streaming 0 0 (ps 0)
    pstream s 0 0 = some (ps 0) ∧ tSlotBytes (xfer 0) = 0 ∧ dmaWaits s 0 8 0 = false ∧
    whole (move s 0 (runOf 0 (ps 0).run {}) (tTotal (xfer 0)) (ps 0).run) = true := by decide +kernel
theorem witness_PassStops : ({ ps 0 with stopping := true }).stopping = true ∧ ({ ps 0 with pending := true }).stopping = false ∧
    ({ ps 0 with pending := true }).pending = true := by decide
/-- 16 bytes from byte 0 arrive at byte 8192 (R283). -/
theorem test_transfer_moves : (match exec (.dmaTransfer 0 0 (W 8)) (seq 8 (xfer 0)) with
    | .next t => ((storeRead t 0 8192 4).toOption, pcOf t 0 0) | _ => (none, 9)) = (some [8, 0, 0, 0], 1) := by decide +kernel

/-! ### Arrays -/

/-- A 1 × 1 INT8 tile from descriptor 0. -/
def ldw1 : Nat := 0x10 + 2 ^ 32 + 2 ^ 48

theorem witness_Ldw : let s := paid (seq ldw1 one)
    UnitFree s 0 0 (W ldw1) 0x10 0 ∧ ldwReady s 0 (W ldw1) = true ∧ admitted s (ctxActivity s 0 0) 0 = true ∧
    ldwSrc (W ldw1) = false ∧ ldwFwd (W ldw1) = false ∧ (readTile s 0 (W ldw1)).toOption.isSome = true := by decide +kernel
theorem witness_LdwUnpaid : let s := seq ldw1 one
    (atHead s 0 0 0 (W ldw1) && (ldwReady s 0 (W ldw1) && !unitBusy s 0 0)) = false ∧ canIssue s 0 0 (W ldw1) 0x10 = true ∧ mayQueue s 0 0 0 = true ∧
    admitted s (ctxActivity s 0 0) 0 = false := by decide +kernel
theorem witness_LdwShadow : let s := paid (words (seq ldw1 one) [(coreBase 0 1 + 0x60, 16)])
    UnitFree s 0 0 (W ldw1) 0x10 0 ∧ admitted s (ctxActivity s 0 0) 0 = true ∧ ldwReady s 0 (W ldw1) = false ∧ mayQueue s 0 0 0 = true := by decide +kernel
theorem witness_LdwForwards : let w := ldw1 + 2 ^ 65
    UnitFree (paid (seq w one)) 0 0 (W w) 0x10 0 ∧ ldwReady (paid (seq w one)) 0 (W w) = true ∧ ldwFwd (W w) = true ∧
    (readTile (paid (seq w one)) 0 (W w)).toOption.isSome = true := by
  decide +kernel
theorem witness_LdwChain : let w := ldw1 + 2 ^ 64
    UnitFree (paid (seq w one)) 0 0 (W w) 0x10 0 ∧ ldwReady (paid (seq w one)) 0 (W w) = true ∧ ldwSrc (W w) = true := by decide +kernel
def part : ChainPart := { fmt := 0, kRows := 1, nCols := 1, index := 0, count := 1, data := [0], scales := [] }
theorem witness_ChainPart : let s := seq 1 0 { arr := { chainFly := [part] } }
    codecOn s = true ∧ (Machine.core s 0).arr.chainFly = [part] ∧ (Machine.core s 0).arr.chainBuf.length < 2 ∧ (Machine.core s 0).arr.chainLoad = none := by decide +kernel
theorem witness_ChainFull : let s := seq 1 0 { arr := { chainFly := [part], chainBuf := [part, part] } }
    (Machine.core s 0).arr.chainFly = [part] ∧ 2 ≤ (Machine.core s 0).arr.chainBuf.length := by decide +kernel
/-- Weights of one INT8 element 3. -/
def w3 : Weights := { fmt := 0, kRows := 1, nCols := 1, raw := [(0, 3)] }
/-- MMA of mode `m` on one row of descriptor 0. -/
def mma (m : Nat) : Nat := 0x11 + m * 2 ^ 42
def multiply (m : Nat) : State := paid (seq (mma m) one { arr := { active := [(0, w3)] } })
/-- The pass of such an MMA, and whether the elements of its row can be read. -/
def mmaPass (m : Nat) : Pass := passOf (mmaSwapIn (nextPc (multiply m) 0 0) 0 (W (mma m))) 0 (W (mma m)) one w3
def mmaFree (m : Nat) : Bool :=
  let s := multiply m
  let b := mmaSwapIn (nextPc s 0 0) 0 (W (mma m))
  decide (UnitFree s 0 0 (W (mma m)) 0x11 0) && admitted s (ctxActivity s 0 0) 0 && decide ((descOf b 0 (mmaDesc (W (mma m)))).toOption = some one) &&
    decide (SMap.get {} (Machine.core b 0).arr.active 0 = w3) && mmaRows (W (mma m)) == 1 && mmaMode (W (mma m)) == m &&
    (rowElems (writeBand b 0 0 one (mmaPass m).firstGroup) 0 one (dPosCur one) (mmaPass m)).toOption.isSome
theorem witness_MmaStart : mmaFree 0 = true := by decide +kernel
theorem witness_MmaCont : mmaFree 1 = true ∧ nextG (multiply 1) 0 0 0 = mmaGFirst (W (mma 1)) := by decide +kernel
theorem witness_MmaContOrder : let w := mma 1 + 5 * 2 ^ 48
    UnitFree (paid (seq w one)) 0 0 (W w) 0x11 0 ∧ (descOf (mmaSwapIn (nextPc (paid (seq w one)) 0 0) 0 (W w)) 0 0).toOption.isSome = true ∧
    mmaMode (W w) = 1 ∧ nextG (paid (seq w one)) 0 0 0 ≠ mmaGFirst (W w) := by decide +kernel
theorem witness_MmaEmit : mmaFree 2 = true := by decide +kernel
theorem witness_MmaHead : mmaFree 3 = true := by decide +kernel
/-- One row of one element 5 by the weight 3 leaves 15 at column 0 of the bank (R36). -/
theorem test_mma_multiplies : (match exec (.mmaStart 0 0 (W (mma 0))) (paid { multiply 0 with mem := { store := bytesAt (multiply 0).mem.store 8192 1 5 } }) with
    | .next t => ((bankEntry t 0 0 0 0 0).int, pcOf t 0 0) | _ => (0, 9)) = (15, 1) := by decide +kernel
theorem witness_Drain : let s := paid (seq 0x12 one)
    UnitFree s 0 0 (W 0x12) 0x12 0 ∧ admitted s (ctxActivity s 0 0) 0 = true ∧ drainWaits s 0 (W 0x12) = false ∧
    (descOf s 0 (drDesc (W 0x12))).toOption.isSome = true ∧ (descOf s 0 (drPar (W 0x12))).toOption.isSome = true := by decide +kernel
def slot1 : CSlot := { ctag := 0, array := 0, bank := 0, row0 := 0, rows := 1, cols := 1, groups := 1, holdDesc := 0, ctx := 0 }
theorem witness_DrainWaits : drainWaits (seq 0x12 one { arr := { slots := [slot1] } }) 0 (W 0x12) = true := by decide +kernel
theorem witness_DrainFault : let w := 0x12 + 9 * 2 ^ 24
    UnitFree (paid (seq w one)) 0 0 (W w) 0x12 0 ∧ drainWaits (paid (seq w one)) 0 (W w) = false ∧ (descOf (paid (seq w one)) 0 (drDesc (W w))).toOption = none := by
  decide +kernel
theorem witness_Cslot : canIssue (seq 0x13) 0 0 (W 0x13) 0x13 = true ∧ (Machine.core (seq 0x13) 0).arr.slots.length < 256 ∧
    slotHazard (seq 0x13) 0 (openedSlot 0 (W 0x13)) = false := by decide +kernel
/-- A DRAIN of the slot's row waits in the queue of its array (R72). -/
theorem witness_CslotHazard : let s := seq 0x13 0 { queues := [(0, [(1, W 0x12)])] }
    canIssue s 0 0 (W 0x13) 0x13 = true ∧ slotHazard s 0 (openedSlot 0 (W 0x13)) = true := by decide +kernel
theorem witness_CslotFull : let s := seq 0x13 0 { arr := { slots := List.replicate 256 slot1 } }
    canIssue s 0 0 (W 0x13) 0x13 = true ∧ 256 ≤ (Machine.core s 0).arr.slots.length := by decide +kernel
theorem witness_CombineRecord : let s := seq 1 0 { arr := { slots := [slot1], recFly := [⟨0, 0, 0⟩] } }
    codecOn s = true ∧ nextRecord (Machine.core s 0).arr.recFly 0 = some ⟨0, 0, 0⟩ ∧
    (Machine.core s 0).arr.slots.find? (fun sl => sl.ctag = rCtag 0) = some slot1 ∧ recordBad slot1 0 = false ∧ recordHeld slot1 0 = false := by decide +kernel
/-- A record of KIND 1 for group 1 waits for group 0; the one for group 0 is applied; one of row 1 lies outside the slot (R73, R74). -/
theorem witness_CombineHeld : let h : W256 := 2 ^ 80 + 2 ^ 96 + 2 ^ 112; let a : W256 := 2 ^ 80
    recordBad slot1 h = false ∧ recordHeld slot1 h = true ∧ rKind a ≠ 0 ∧ recordBad slot1 a = false ∧ rG0 a = SMap.get 0 slot1.next (slotPos (rRow a) (rCol a)) ∧
    SMap.get 0 slot1.held (slotPos (rRow a) (rCol a) * 65536 + (rG1 a + 1)) = 0 ∧ recordBad slot1 (2 ^ 160) = true := by decide +kernel
theorem witness_CombineNoSlot : let s := seq 1 0 { arr := { recFly := [⟨0, 0, 0⟩] } }
    nextRecord (Machine.core s 0).arr.recFly 0 = some ⟨0, 0, 0⟩ ∧ (Machine.core s 0).arr.slots.find? (fun sl => sl.ctag = rCtag 0) = none := by
  decide +kernel

/-! ### Vector unit -/


theorem witness_VecStart : UnitFree (seq 9) 0 0 (W 9) 0x09 4 ∧ vMode (W 9) = 0 := by decide +kernel
theorem witness_VecBoxes : UnitFree (seq 0x109 one) 0 0 (W 0x109) 0x09 4 ∧ vMode (W 0x109) = 1 ∧
    (boxRun (wr32 (nextPc (seq 0x109 one) 0 0) (coreBase 0 2 + 0x40) 16) 0 0 (W 0x109)).toOption.isSome = true := by decide +kernel
theorem witness_VecBoxesFault : let w := 0x109 + 9 * 2 ^ 70
    UnitFree (seq w) 0 0 (W w) 0x09 4 ∧ (boxRun (wr32 (nextPc (seq w) 0 0) (coreBase 0 2 + 0x40) 16) 0 0 (W w)).toOption.isNone = true := by
  decide +kernel
/-- Every opcode of the micro-instructions has a state in which it runs. -/
theorem witness_MicroReady : [0x00, 0x01, 0x02, 0x03, 0x04, 0x05, 0x06, 0x07, 0x08, 0x10, 0x11, 0x12, 0x13, 0x14, 0x15, 0x16, 0x17, 0x18, 0x19, 0x1A,
    0x1C, 0x1D, 0x1E, 0x20, 0x21, 0x22, 0x23, 0x24, 0x25, 0x26, 0x27, 0x28, 0x29, 0x2A, 0x30, 0x31, 0x32, 0x33, 0x38, 0x39, 0x3A, 0x3B, 0x3C,
    0x3D, 0x3E].all (fun op => (vec (mic op) 0).job == some vj && microReady (mic op) 0 (U op) op vj) = true := by decide +kernel
theorem witness_Loop : let w := 0x02 + 2 ^ 45
    microReady (mic w) 0 (U w) 0x02 vj = true ∧ uImm (U w) % 512 ≠ 0 ∧ uImm (U 2) % 512 = 0 := by decide +kernel
theorem witness_Ld : (descOf (mic 3) 0 (vIn vj.w (uImm (U 3) % 2))).toOption = some one ∧
    ((List.range 128).mapM (fun l => loadElem (mic 3) 0 one 0 (vj.read0 + l) (lane (vec (mic 3) 0) 0 l))).toOption.isSome = true := by decide +kernel
theorem witness_St : (descOf (mic 4) 0 (vOut vj.w)).toOption = some one ∧ uFmt (U 4) ≠ 8 ∧
    ((List.range 128).foldlM (fun x l => storeLane x.1 x.2 0 one 0 (vec (mic 4) 0) (U 4) l) (mic 4, 0)).toOption.isSome = true := by decide +kernel
theorem witness_StFp4 : let w := 4 + 8 * 2 ^ 28
    microReady (mic w) 0 (U w) 0x04 vj = true ∧ uFmt (U w) = 8 ∧ (storeFp4 (mic w) 0 one 0 (vec (mic w) 0) (U w)).toOption.isSome = true := by
  decide +kernel
theorem witness_StInactive : activeLane (vec (mic 4) 0) (U 4) 0 = true ∧ activeLane (vec (mic 4) 0) (U (4 + 2 ^ 35)) 0 = false := by decide +kernel
theorem witness_Ldp : bit (uImm (U 5)) 18 = false ∧ ((List.range 128).mapM (fun l => parWord (mic 5) 0 vj (0 + l))).toOption.isSome = true ∧
    bit (uImm (U (5 + 2 ^ 63))) 18 = true ∧ microReady (mic (5 + 2 ^ 63)) 0 (U (5 + 2 ^ 63)) 0x05 vj = true := by decide +kernel
theorem witness_Tbl : (parWord (mic 0x1A) 0 vj 0).toOption = some 0 ∧ (parWord (mic 0x1A) 0 vj 1).toOption = some 0 ∧
    ((List.range 2).mapM (fun i => parWord (mic 0x1A) 0 vj (2 + i))).toOption.isSome = true := by decide +kernel
theorem witness_AccumulatorForms : uFloat (U 0x3C) = false ∧ uFloat (U (0x3C + 2 ^ 47)) = true ∧
    [0x38, 0x39, 0x3A, 0x3C, 0x3D, 0x3E].all (fun op => microReady (mic (op + 2 ^ 47)) 0 (U (op + 2 ^ 47)) op vj) = true := by decide +kernel
theorem witness_IdivByZero : let s := mic 0x19 { v := [(0, 7)] }
    (vec s 0).job = some vj ∧ microReady s 0 (U (0x19 + 2 ^ 18)) 0x19 vj = false ∧ microReady (mic (0x19 + 2 ^ 18) { v := [(0, 7)] }) 0 (U (0x19 + 2 ^ 18)) 0x19 vj = true ∧
    activeLane (vec s 0) (U (0x19 + 2 ^ 18)) 0 = true ∧ srcBI (vec s 0) (U (0x19 + 2 ^ 18)) 0 = 0 ∧ 0 < laneI (vec s 0) 0 0 := by decide +kernel
/-- IDIV of 7 by zero gives the largest i64 (R127). -/
theorem test_idiv_by_zero : (match exec (.idiv 0 (U (0x19 + 2 ^ 18))) (mic (0x19 + 2 ^ 18) { v := [(0, 7)] }) with
    | .next t => laneI (vec t 0) 0 0 | _ => 0) = 2 ^ 63 - 1 := by decide +kernel
/-- IADD of VA = 7 and VB = 5 into VD = 2 (R120). -/
theorem test_iadd : (match exec (.iadd 0 (U (0x10 + 2 * 2 ^ 8 + 2 ^ 18))) (mic (0x10 + 2 * 2 ^ 8 + 2 ^ 18) { v := [(0, 7), (128, 5)] }) with
    | .next t => (laneI (vec t 0) 2 0, laneI (vec t 0) 2 1) | _ => (0, 9)) = (12, 0) := by decide +kernel

/-! ### Entropy engine -/

/-- Symbol at byte 8192, its parameter at 8448, its lane at 8704 with 16 words, its length at 8960. -/
def entDescs : Nat := 8192 + 8448 * 2 ^ 512 + (8704 + 16 * 2 ^ 32 + 8960 * 2 ^ 64) * 2 ^ 1024
/-- ENT of a kind with one lane and one value: symbols through descriptor 0, parameters 1, lanes 2. -/
def entw (kind : Nat) : Nat := 0x0A + kind * 2 ^ 8 + 2 ^ 32 + 2 * 2 ^ 48
/-- Bank 0 holds epoch 1 of model slot 0, whose row 0 gives every symbol the frequency 512; the symbol is 5. -/
def coding (w : Nat) : State :=
  let s := seq w entDescs { table := (List.range 127).map (fun u => (2 * u + 3, BitVec.ofNat 8 (2 * u + 2))) }
  let s := setCtx s 0 0 { (ctxOf s 0 0) with task := some { epoch := 1 } }
  setRem (words { s with mem := { s.mem with store := bytesAt s.mem.store 8192 1 5 } } [(bankReg 0 0, 1 + 2 ^ 24)]) 0 8 100
theorem witness_EntEncode : let s := coding (entw 0)
    let r := setEntStatus (nextPc s 0 0) 0 0 (W (entw 0)) false
    UnitFree s 0 0 (W (entw 0)) 0x0A 5 ∧ admitted s (ctxActivity s 0 0) 8 = true ∧ nKind (W (entw 0)) = 0 ∧ (taskOf r 0 0).isSome = true ∧
    (fixEpoch r 0 0 { epoch := 1 }).toOption.isSome = true ∧ ((encodeOpen r 0 0).toOption.map (·.2)) = some (0, false) ∧ (segSteps r 0 0 (W (entw 0))).2 = none ∧
    nReport (W (entw 0)) = false ∧ nReport (W (entw 0 + 2 ^ 120)) = true := by decide +kernel
theorem witness_EntEncodeEnd : let r := setEntStatus (nextPc (coding (entw 0)) 0 0) 0 0 (W (entw 0)) false
    (encodeEnd r 0 (W (entw 0)) [encLane (segSteps r 0 0 (W (entw 0))).1.flatten]).toOption.isSome = true := by decide +kernel
/-- A task whose rate slot shows H codes no further segment (R188). -/
theorem witness_EntEncodeHeld : let s := words (coding (entw 0)) [(coreBase 0 5 + 0x40, 1)]
    ((encodeOpen { s with mem := { s.mem with store := bytesAt s.mem.store 30 1 2 } } 0 0).toOption.map (·.2)) = some (0, true) := by decide +kernel
/-- A symbol of a row that is not loaded ends the job (R164). -/
theorem witness_EntEncodeFault : let s := coding (entw 0)
    let u := { s with mem := { s.mem with store := bytesAt s.mem.store 8448 1 9 } }
    (segSteps u 0 0 (W (entw 0))).2.isSome = true := by decide +kernel
theorem witness_EntNoEpoch : let s := setRem (seq (entw 0) entDescs) 0 8 100
    UnitFree s 0 0 (W (entw 0)) 0x0A 5 ∧ (encodeOpen s 0 0).toOption.isNone = true ∧ (jobBank s 0 0).toOption.isNone = true := by decide +kernel
/-- The value 5 coded and decoded again (R144, R149, R150). -/
theorem test_entropy_round_trip : (match exec (.entEncode 0 0 (W (entw 0))) (coding (entw 0)) with
    | .next t => (let u := decodeRun { t with mem := { t.mem with store := bytesAt t.mem.store 8192 1 0 } } 0 0 0 (W (entw 1))
        (u.2.isNone, (storeRead u.1 0 8192 1).toOption)) | _ => (false, none)) = (true, some [5]) := by decide +kernel
theorem witness_EntDecode : let s := coding (entw 1)
    UnitFree s 0 0 (W (entw 1)) 0x0A 5 ∧ nKind (W (entw 1)) = 1 ∧ (readInput (nextPc s 0 0) 0 0).2 = true ∧
    (taskOf s 0 0).map (segWork · 0) = some .coded ∧ ((jobBank s 0 0).toOption.map (·.2)) = some 0 ∧ (decodeRun s 0 0 0 (W (entw 1))).2.isSome = true := by
  decide +kernel
/-- A decode task that reads a frame whose segments are all held. -/
def heldTask : Task := { kind := 1, snap := 2, inBytes := 1, rd := some { kind := 1, stub := true } }
theorem witness_EntJobEnd : let s := coding 1
    let j : EntJob := { ctx := 0, w := W (entw 0 + 2 ^ 120), subs := [[7]] }
    let s := setCore s 0 { Machine.core s 0 with entJob := some j }
    codecOn s = true ∧ (Machine.core s 0).entJob = some j ∧ slotOpen s 0 0 = false ∧ slotOpen (words s [(coreBase 0 5 + 0x40, 1)]) 0 0 = true ∧
    SMap.get 0 (Machine.core s 0).reports 0 = 0 ∧ (encodeEnd s 0 j.w j.subs).toOption.isSome = true := by
  decide +kernel
theorem witness_EntJobWaits : let s := words (seq 1 0 { entJob := some { ctx := 0, w := W (entw 0) }, reports := [(0, 129)] }) [(coreBase 0 5 + 0x40, 1)]
    codecOn s = true ∧ slotOpen s 0 0 = true ∧ SMap.get 0 (Machine.core s 0).reports 0 ≠ 0 := by decide +kernel
theorem witness_DecodeStep : (2 : Nat) ^ 16 ≤ 2 ^ 16 ∧ (2 : Nat) ^ 16 < 2 ^ 32 ∧ 0 < (⟨65535, 1⟩ : RStep).f ∧ (⟨65535, 1⟩ : RStep).c + (⟨65535, 1⟩ : RStep).f ≤ 2 ^ 16 := by
  decide
def tlw : Nat := 0x20A + 2 ^ 32 + 2 ^ 96
theorem witness_TableLoad : UnitFree (coding tlw) 0 0 (W tlw) 0x0A 5 ∧ nKind (W tlw) = 2 ∧ readInput (nextPc (coding tlw) 0 0) 0 0 = (nextPc (coding tlw) 0 0, true) ∧
    findBank (coding tlw) 0 (nSlot (W tlw)) (nEpoch (W tlw)) = some 0 ∧
    findBank (coding (tlw + 2 ^ 97)) 0 0 (nEpoch (W (tlw + 2 ^ 97))) = none ∧ bankRefs (coding (tlw + 2 ^ 97)) 0 1 = 0 ∧
    0 < bankRefs (words (seq tlw) [(bankReg 0 0 + 4, 1)]) 0 0 ∧ findBank (words (seq tlw) [(bankReg 0 0 + 4, 1)]) 0 0 1 = none := by decide +kernel
theorem witness_TableLoadEnd : let s := words (seq 1 entDescs { tableJob := some { ctx := 0, w := W tlw } }) [(bankReg 0 0, 1 + 2 ^ 25)]
    codecOn s = true ∧ (Machine.core s 0).tableJob = some { ctx := 0, w := W tlw } ∧ bankLoading s 0 0 = true ∧ (copyTables s 0 0 (W tlw) (readEpochs s 0 0)).toOption.isSome = true := by decide +kernel

/-! ### Motion engine and rate controller -/

/-- A plane of one sample at byte 8192, one at 8194 and one at 8196, rows of `pitch` bytes; vectors at byte 16384. -/
def motDescs : Nat := 8192 + 8194 * 2 ^ 512 + 8196 * 2 ^ 1024
def search : Nat := 0x0B + 2 ^ 26 + 2 * 2 ^ 42
def comp : Nat := 0x10B + 2 ^ 26 + 2 * 2 ^ 42 + 2 ^ 58
theorem witness_MotSearch : let s := seq search motDescs
    UnitFree s 0 0 (W search) 0x0B 6 ∧ oKind (W search) = 0 ∧
    (let u := seq search motDescs { motJob := some ⟨0, W search, 0⟩ }
     unitBusy u 0 6 = true ∧ canIssue u 0 0 (W search) 0x0B = true ∧ mayQueue u 0 0 6 = true) := by decide +kernel
theorem witness_MotCompensate : let s := seq comp (8192 + 8194 * 2 ^ 512 + 16384 * 2 ^ 1024)
    UnitFree s 0 0 (W comp) 0x0B 6 ∧ oKind (W comp) = 1 ∧ (taskOf s 0 0).any (fun t => eDecode t.snap) = false ∧ (descOf (setMotStatus (nextPc s 0 0) 0 0 1 0 false) 0 (oOut (W comp))).toOption.isSome = true ∧
    (compRow (setMotStatus (nextPc s 0 0) 0 0 1 0 false) 0 0 (W comp) 0).toOption.isSome = true := by
  decide +kernel

/-! A search of one block reads its planes about a million times; that it succeeds is shown from what it reads, not by running it. -/

def Ok {ε α : Type} (x : Except ε α) : Prop := ∃ y, x = .ok y
theorem ok_bind {ε α β : Type} {x : Except ε α} {f : α → Except ε β} (h : Ok x) (g : ∀ y, Ok (f y)) : Ok (x >>= f) := by
  obtain ⟨y, rfl⟩ := h; exact g y
theorem ok_pure {ε α : Type} (y : α) : Ok (pure y : Except ε α) := ⟨y, rfl⟩
theorem ok_mapM {ε α β : Type} (f : α → Except ε β) (h : ∀ x, Ok (f x)) : ∀ l : List α, Ok (l.mapM f)
  | [] => ⟨[], rfl⟩
  | a :: l => by rw [List.mapM_cons]; exact ok_bind (h a) fun _ => ok_bind (ok_mapM f h l) fun _ => ok_pure _
theorem ok_foldlM {ε α β : Type} (f : β → α → Except ε β) (h : ∀ b x, Ok (f b x)) : ∀ (l : List α) (b : β), Ok (l.foldlM f b)
  | [], b => ⟨b, rfl⟩
  | a :: l, b => by rw [List.foldlM_cons]; exact ok_bind (h b a) fun c => ok_foldlM f h l c

theorem ok_interp {sm : Int → Int → Except Abort Int} (h : ∀ x y, Ok (sm x y)) (d : Nat) (x y : Int) : Ok (interp sm d x y) := by
  refine ok_bind (ok_mapM _ (fun j => ok_bind (ok_mapM _ (fun i => ?_) _) fun _ => ok_pure _) _) fun _ => ok_pure _
  dsimp only
  split
  · exact ok_pure _
  · exact ok_bind (h _ _) fun _ => ok_pure _
theorem ok_cost {q : Srch} (hc : ∀ x y, Ok (q.cur x y)) (hr : ∀ x y, Ok (q.ref x y)) (x0 y0 sz : Nat) (p v : MVec) : Ok (q.cost x0 y0 sz p v) :=
  ok_bind (ok_mapM _ (fun _ => ok_bind (hc _ _) fun _ => ok_bind (ok_interp hr _ _ _) fun _ => ok_pure _) _) fun _ => ok_pure _
theorem ok_mean {f : Int → Int → Except Abort Int} (h : ∀ x y, Ok (f x y)) (x y : Int) : Ok (mean4 f x y) :=
  ok_bind (ok_mapM _ (fun _ => h _ _) _) fun _ => ok_pure _
theorem ok_coarse {q : Srch} (hc : ∀ x y, Ok (q.cur x y)) (hr : ∀ x y, Ok (q.ref x y)) (x0 y0 : Nat) (p : MVec) : Ok (q.coarse x0 y0 p) :=
  ok_bind (ok_mapM _ (fun _ => ok_mean hc _ _) _) fun _ => ok_bind (ok_mapM _ (fun _ => ok_bind (ok_mapM _ (fun _ =>
    ok_bind (ok_mean hr _ _) fun _ => ok_pure _) _) fun _ => ok_pure _) _) fun _ => ok_pure _
theorem ok_refine {q : Srch} (hc : ∀ x y, Ok (q.cur x y)) (hr : ∀ x y, Ok (q.ref x y)) (x0 y0 sz : Nat) (p : MVec) (l : List MVec) (w : Nat) :
    Ok (q.refine x0 y0 sz p l w) := by
  have ha (step : Int) (c : Cand) : Ok (do
      let ns ← ((List.range 9).filter (· ≠ 4)).mapM (fun i =>
        q.cost x0 y0 sz p (c.v.1 + step * ((i % 3 : Nat) - 1), c.v.2 + step * ((i / 3 : Nat) - 1)))
      return (best p (c :: ns)).getD c) := ok_bind (ok_mapM _ (fun _ => ok_cost hc hr _ _ _ _ _) _) fun _ => ok_pure _
  exact ok_bind (ok_mapM _ (fun _ => ok_cost hc hr _ _ _ _ _) _) fun _ => ok_bind (ha 2 _) fun _ => ok_bind (ha 1 _) fun _ => ok_pure _
theorem ok_act {f : Int → Int → Except Abort Int} (h : ∀ x y, Ok (f x y)) (bx by_ : Nat) : Ok (blockAct f bx by_) := by
  refine ok_bind (ok_mapM _ (fun i => ok_bind (h _ _) fun a => ?_) _) fun _ => ok_pure _
  dsimp only
  split <;> refine ok_bind (by first | exact h _ _ | exact ok_pure _) fun _ => ?_ <;> split <;>
    exact ok_bind (by first | exact h _ _ | exact ok_pure _) fun _ => ok_pure _
/-- The block at (0, 0) of a picture one block wide has no coded neighbour. -/
theorem ok_predictor (s : State) (n d x y : Nat) (done : List MVec) (hx : x < 2) (hy : y < 2) : Ok (predictor s n d 2 x y done) := by
  have : x = 0 ∨ x = 1 := by omega
  have : y = 0 ∨ y = 1 := by omega
  obtain rfl | rfl := ‹x = 0 ∨ x = 1› <;> obtain rfl | rfl := ‹y = 0 ∨ y = 1› <;> exact ⟨_, rfl⟩

def OkAs {ε α : Type} (P : α → Prop) (x : Except ε α) : Prop := ∃ y, x = .ok y ∧ P y
theorem okAs_bind {ε α β : Type} {x : Except ε α} {f : α → Except ε β} {P : β → Prop} (h : Ok x) (g : ∀ y, OkAs P (f y)) : OkAs P (x >>= f) := by
  obtain ⟨y, rfl⟩ := h; exact g y
theorem okAs_bind' {ε α β : Type} {x : Except ε α} {f : α → Except ε β} {Q : α → Prop} {P : β → Prop} (h : OkAs Q x)
    (g : ∀ y, Q y → OkAs P (f y)) : OkAs P (x >>= f) := by
  obtain ⟨y, rfl, hq⟩ := h; exact g y hq
theorem okAs_foldlM {α β : Type} {f : List α → β → Except Abort (List α)} : ∀ (l : List β) (b : List α),
    (∀ b, ∀ k ∈ l, OkAs (fun c => c.length = b.length + 1) (f b k)) → OkAs (fun c => c.length = b.length + l.length) (l.foldlM f b)
  | [], b, _ => ⟨b, rfl, rfl⟩
  | k :: l, b, h => by
    rw [List.foldlM_cons]
    refine okAs_bind' (h b k (by simp)) fun c hc => ?_
    obtain ⟨e, he, hl⟩ := okAs_foldlM l c fun b' k' hk => h b' k' (by simp [hk])
    exact ⟨e, he, by simp at hl ⊢; omega⟩
theorem ok_block {q : Srch} (hc : ∀ x y, Ok (q.cur x y)) (hr : ∀ x y, Ok (q.ref x y)) (s : State) (n d pen : Nat) :
    OkAs (fun r => r.1.length = 4) (q.block s n d 2 0 0 pen) := by
  refine okAs_bind (ok_predictor _ _ _ _ _ _ (by decide) (by decide)) fun p => okAs_bind (ok_coarse hc hr _ _ _) fun l =>
    okAs_bind (ok_refine hc hr _ _ _ _ _ _) fun r => ?_
  refine okAs_bind' (okAs_foldlM _ _ fun acc k hk => okAs_bind (ok_predictor _ _ _ _ _ _ (by simp at hk; omega) (by simp at hk; omega))
    fun _ => okAs_bind (ok_refine hc hr _ _ _ _ _ _) fun _ => ⟨_, rfl, by simp⟩) fun cells hl => ?_
  dsimp only
  split
  · exact ⟨_, rfl, by simpa using hl⟩
  · exact ⟨_, rfl, by simp⟩
/-- Whether a write runs does not depend on the bytes it writes. -/
theorem ok_write (s : State) (n : Nat) : ∀ (bs cs : List Byte) (a : Nat) (m m' : Memory), bs.length = cs.length → m.badWord = m'.badWord →
    Ok (storeWrite (s.setMem m) n a bs) → Ok (storeWrite (s.setMem m') n a cs)
  | [], [], _, _, _, _, _, _ => ⟨_, rfl⟩
  | b :: bs, c :: cs, a, m, m', hl, hb, h => by
    unfold storeWrite at h ⊢
    rw [storeKey_setMem] at h ⊢
    cases hk : storeKey s n a with
    | none => rw [hk] at h; obtain ⟨_, h⟩ := h; cases h
    | some k =>
      simp only [inRegion_setMem, hk, State.setMem_mem] at h ⊢
      unfold Memory.storeHeld at h ⊢
      rw [← hb, ← Nat.succ.inj hl]
      split at h
      · obtain ⟨_, h⟩ := h; cases h
      · split at h
        · obtain ⟨_, h⟩ := h; cases h
        · rw [if_neg ‹_›, if_neg ‹_›]
          refine ok_write s n bs cs (a + 1) (m.putStore k b) (m'.putStore k c) (Nat.succ.inj hl) ?_ h
          show SMap.set false m.badWord (k / 8) false = SMap.set false m'.badWord (k / 8) false
          rw [hb]
theorem ok_of {α : Type} {x : Except Abort α} {y : α} (h : x.toOption = some y) : x = .ok y := by
  cases x with
  | error e => cases h
  | ok z => cases h; rfl
theorem okAs_of {α : Type} {x : Except Abort α} {p : α → Bool} (h : x.toOption.map p = some true) : OkAs (p · = true) x := by
  cases x with
  | error e => cases h
  | ok z => exact ⟨z, rfl, Option.some.inj h⟩

theorem ok_foldlM_one {f : State → Nat → Except Abort State} {s : State} (h : Ok (f s 0)) : Ok ((List.range 1).foldlM f s) := by
  obtain ⟨u, h⟩ := h
  exact ⟨u, by rw [show List.range 1 = [0] from rfl, List.foldlM_cons, h]; rfl⟩
theorem ok_bind' {ε α β : Type} {x : Except ε α} {f : α → Except ε β} {Q : α → Prop} (h : OkAs Q x) (g : ∀ y, Q y → Ok (f y)) : Ok (x >>= f) := by
  obtain ⟨y, rfl, hq⟩ := h; exact g y hq
theorem ok_searchRow {s u : State} {n c fmt cfa cd rd md wd : Nat} {w : W128} (h0 : descOf s n (oCur w) = .ok cd) (h1 : descOf s n (oRef w) = .ok rd)
    (h2 : descOf s n (oMv w) = .ok md) (h3 : descOf s n (oWin w) = .ok wd) (hz : motionSize fmt rd = (1, 1))
    (hf : fetchRows s n ⟨fmt, cfa, rd, 1, 1, winPlane wd 1 1⟩ 0 0 = .ok u) (h1c : ceilDiv (dInW cd) 16 = 1) (hm : missingRows u n 0 0 = [])
    (hc : ∀ x y, Ok (planeAt u n (planeOf cd) x y)) (hr : ∀ x y, Ok (planeAt u n (winPlane wd 1 1) x y))
    (hw : ∀ bs : List Byte, bs.length = 32 → Ok (storeWrite u n (mvAddr md 0 0) bs)) : Ok (searchRow s n c fmt cfa w 0) := by
  have href (x y : Int) : Ok ((planeAt u n (winPlane wd 1 1) x y).mapError asMotionEcc) := by
    obtain ⟨v, h⟩ := hr x y
    exact ⟨v, by rw [h]; rfl⟩
  unfold searchRow
  rw [h0, h1, h2, h3]
  simp only [bind, Except.bind, hz, show winFirst 0 = 0 from rfl, show winLast 1 0 = 0 from rfl]
  rw [hf, h1c]
  refine ok_bind' (Q := fun v => missingRows v n 0 0 = []) ?_ fun v hv => ?_
  · rw [show List.range 1 = [0] from rfl]
    simp only [List.foldlM_cons, List.foldlM_nil]
    refine okAs_bind' (Q := fun v => missingRows v n 0 0 = []) ?_ fun v hv => ⟨v, rfl, hv⟩
    refine okAs_bind' (ok_block hc href _ _ _ _) fun r hl => okAs_bind (ok_act hc _ _) fun _ => ?_
    obtain ⟨v, hv⟩ := hw (mvEntry r.1 r.2.1 r.2.2.toNat ‹_›) (by
      match r, hl with
      | ([a, b, c, d], _, _), _ => simp [mvEntry, leBytes])
    exact ⟨v, hv, by rw [(storeWrite_frame hv).1]; exact hm⟩
  · rw [show min (16 * 0 + 99) (1 - 1) = 0 from rfl, hv, show rowsReady v n c [] = .ok true from rfl]
    show Ok (fetchRows v n _ 0 0)
    unfold fetchRows
    rw [hv]
    exact ⟨_, rfl⟩

/-- The state in which core 0 searches its one block, whose one row stands in the window. -/
def searching : State := words (seq 1 motDescs { motJob := some ⟨0, W search, 0⟩ }) [(coreBase 0 4 + 0x44, 2 ^ 16)]
theorem searching_window : OkAs (fun s => ((storeRead s 0 8192 2).toOption.isSome && (storeWrite s 0 8196 (List.replicate 32 0)).toOption.isSome &&
      (missingRows s 0 0 0).isEmpty) = true) (fetchRows searching 0 ⟨0, 0, 8194, 1, 1, winPlane 8192 1 1⟩ 0 0) := okAs_of (by decide +kernel)
theorem ok_planeAt {s : State} (h : (storeRead s 0 8192 2).toOption.isSome = true) (p : Plane) (hb : p.base = 8192) (hh : p.h = 1) (hw : p.w = 1)
    (x y : Int) : Ok (planeAt s 0 p x y) := by
  obtain ⟨bs, hr⟩ := Option.isSome_iff_exists.mp h
  have z (i : Int) : clampTo 1 i = 0 := by unfold clampTo; split <;> omega
  have ha : p.addr (clampTo p.h y) (clampTo p.w x) = 8192 := by rw [hh, hw, z, z]; simp [Plane.addr, hb]
  exact ⟨_, by unfold planeAt; rw [ha, ok_of hr]; rfl⟩
theorem witness_BlockRow : codecOn searching = true ∧ frozen searching (partOf searching 0) = false ∧ (Machine.core searching 0).motJob = some ⟨0, W search, 0⟩ ∧
    (windowReady searching 0 0 0 (W search) 0).toOption = some true ∧ Ok (searchRow searching 0 0 (ctxFormat searching 0 0) 0 (W search) 0) := by
  refine ⟨by decide +kernel, by decide +kernel, by decide +kernel, by decide +kernel, ?_⟩
  obtain ⟨s, hs, hp⟩ := searching_window
  simp only [Bool.and_eq_true] at hp
  obtain ⟨v, hv⟩ := Option.isSome_iff_exists.mp hp.1.2
  rw [show ctxFormat searching 0 0 = 0 by decide +kernel]
  exact ok_searchRow (cd := 8192) (rd := 8194) (md := 8196) (wd := 8192) (ok_of (by decide +kernel)) (ok_of (by decide +kernel)) (ok_of (by decide +kernel))
    (ok_of (by decide +kernel)) (by decide +kernel) hs (by decide) (List.isEmpty_iff.mp hp.2)
    (ok_planeAt hp.1.1 _ (by decide) (by decide) (by decide)) (ok_planeAt hp.1.1 _ (by decide) (by decide) (by decide))
    (fun bs hl => ok_write s 0 (List.replicate 32 0) bs 8196 s.mem s.mem hl.symm rfl ⟨v, ok_of hv⟩)

theorem witness_RateUpdate : let s := words (seq 1 0 { reports := [(0, 129)] }) [(coreBase 0 5 + 0x40, 1)]
    codecOn s = true ∧ SMap.get 0 (Machine.core s 0).reports 0 ≠ 0 ∧ slotOpen (setCore s 0 { Machine.core s 0 with reports := SMap.set 0 (Machine.core s 0).reports 0 0 }) 0 0 = true ∧
    SMap.get 0 (Machine.core (seq 1) 0).reports 0 = 0 ∧
    (storeRead (setCore s 0 { Machine.core s 0 with reports := SMap.set 0 (Machine.core s 0).reports 0 0 }) 0 (rateSlot s 0 0) 48).toOption.isSome = true ∧
    (storeRead (setCore { s with mem := { s.mem with badWord := [(0, true)] } } 0 { Machine.core s 0 with reports := SMap.set 0 (Machine.core s 0).reports 0 0 })
      0 (rateSlot s 0 0) 48).toOption.isNone = true ∧
    (let u := seq 1 0 { reports := [(0, 129)] }; SMap.get 0 (Machine.core u 0).reports 0 ≠ 0 ∧ slotOpen u 0 0 = false) := by decide +kernel
/-- A row of 4095 bits that fits below the cap adds 4095 to P (R187). -/
def slot0 : RSlot := readSlot on 0 0
theorem witness_RateStep : slot0.qiMin ≤ slot0.qiMax ∧ slot0.qiMin ≤ slot0.c ∧ slot0.c ≤ slot0.qiMax ∧ slot0.sideLeft = 0 ∧
    0 < ({ slot0 with sideLeft := 1 } : RSlot).sideLeft := by decide +kernel

/-! ### Tasks, periods, loader -/

/-- Core 0 in partition 0, with one entry of activity 0 and a free context 0 for it; a task waits in the ready list. -/
def ready (fr : Nat) (t : Task) (l : List (Nat × Task) := []) : State :=
  { on with
    cores := [(0, { ctxs := (0, { role := 1, task := (l.find? (·.1 = 0)).map (·.2) }) :: (l.filter (·.1 ≠ 0)).map (fun x => (x.1, { task := some x.2 })) })]
    img := { cores := [(0, { part := 0, progs := [(0, { entries := [{ bound := 1 }], periodic := [⟨1, 0, 0⟩] })] })], parts := [(0, { cores := 1 })] }
    str := { State.reset.str with ready := [t] }
    ctl := (wr32 (wr32 on (shtBase + 0x58) fr) (mgtBase + 0x488) 1).ctl }
def runs : Task := { kind := 1, order := 1 }
theorem witness_TaskStart : let s := ready 0 runs
    codecOn s = true ∧ nextReady s 0 = some runs ∧ taskPlace s runs = some (0, 0, { bound := 1 }) ∧ frozen s (partOf s 0) = false ∧
    slotsFree s runs (slotEntry s 0 runs { bound := 1 }) = true ∧ stripePlaces s runs 0 = some [] := by decide +kernel
theorem witness_TaskStartFrozen : let s := ready 256 runs
    nextReady s 0 = some runs ∧ taskPlace s runs = some (0, 0, { bound := 1 }) ∧ frozen s (partOf s 0) = true := by decide +kernel
theorem witness_PeriodicStart : let s := ready 0 runs
    (variantOf s 0).periodic[0]? = some ⟨1, 0, 0⟩ ∧ sentry s 0 0 = some { bound := 1 } ∧ partRuns s 0 = true ∧ taskOf s 0 1 = none ∧
    rowDue s 0 0 ⟨1, 0, 0⟩ = true ∧ rowDue (setCore s 0 { Machine.core s 0 with rowStarts := [(0, 1)] }) 0 0 ⟨1, 0, 0⟩ = false := by decide +kernel
theorem witness_PeriodicMissed : let s := ready 0 runs [(1, runs)]
    (variantOf s 0).periodic[0]? = some ⟨1, 0, 0⟩ ∧ sentry s 0 0 = some { bound := 1 } ∧ partRuns s 0 = true ∧ (taskOf s 0 1).isSome = true ∧ rowDue s 0 0 ⟨1, 0, 0⟩ = true ∧
    SMap.get false (Machine.core s 0).waits 0 = false ∧ SMap.get false (Machine.core (setCore s 0 { Machine.core s 0 with waits := [(0, true)] }) 0).waits 0 = true := by decide +kernel
theorem witness_TaskOverrun : let s := wr32 (ready 0 runs [(0, runs)]) (budBase + 0x40) 1000
    taskOf s 0 0 = some runs ∧ frozen s (partOf s 0) = false ∧ (ctxOf s 0 0).hold ≠ .atEnd ∧ taskBound s runs + 2 < periodsRun s runs := by decide +kernel

/-- Context 0 runs the given task and its program is END. -/
def ending (t : Task) (k : Core := {}) : State := let s := seq 0x1F 0 k; setCtx s 0 0 { ctxOf s 0 0 with task := some t }
/-- The state that END leaves, which holds its context. -/
def ended (s : State) : State := holdCtx s 0 0 .atEnd false
theorem witness_EndWaits : let s := setCtx (ending runs) 0 0 { ctxOf (ending runs) 0 0 with transfer := some ⟨0, 1, 2, {}⟩ }
    canEnd s 0 0 (W 0x1F) = true ∧ hasWork (ended s) 0 0 = true := by decide +kernel
theorem witness_EndPeriodic : let s := ending { kind := 2 }
    canEnd s 0 0 (W 0x1F) = true ∧ hasWork (ended s) 0 0 = false ∧ taskOf (ended s) 0 0 = some { kind := 2 } := by decide +kernel
theorem witness_EndVerify : let s := ending { kind := 3 }
    canEnd s 0 0 (W 0x1F) = true ∧ hasWork (ended s) 0 0 = false ∧ taskOf (ended s) 0 0 = some { kind := 3 } := by decide +kernel
/-- A stripe's task on context 1 beside a frame's task on context 0. -/
def twoTasks (h : Hold) : State := let s := ending runs; setCtx s 0 1 { ctxOf s 0 1 with task := some { runs with kind := 4 }, hold := h }
theorem witness_EndStripe : let s := ending { kind := 4 }
    canEnd s 0 0 (W 0x1F) = true ∧ hasWork (ended s) 0 0 = false ∧ taskOf (ended s) 0 0 = some { kind := 4 } ∧
    canEnd (twoTasks .none) 0 0 (W 0x1F) = true ∧ hasWork (ended (twoTasks .none)) 0 0 = false ∧ taskOf (ended (twoTasks .none)) 0 0 = some runs ∧
    stripesDone (ended (twoTasks .none)) 1 = false ∧ stripesDone (ended (twoTasks .atEnd)) 1 = true := by decide +kernel
/-- The frame task `t` at END with its stripes done and its input read: what it is then, with its units finished. -/
def atEnd (t : Task) : State × State :=
  let u := ended (ending t)
  ((readInput u 0 0).1, (finishFrame (readInput u 0 0).1 0 0 t).1)
theorem witness_EndFrame : let u := ended (ending runs); let r := (atEnd runs).1; let v := (atEnd runs).2; let y := (taskOf v 0 0).getD runs
    canEnd (ending runs) 0 0 (W 0x1F) = true ∧ hasWork u 0 0 = false ∧ taskOf u 0 0 = some runs ∧ runs.isFrame = true ∧ stripesDone u 1 = true ∧
    (readInput u 0 0).2 = true ∧ taskOf r 0 0 = some runs ∧ epochHeld r 0 runs = true ∧ runs.finished = false ∧ (finishFrame r 0 0 runs).2 = true ∧
    eFeat y.snap = false ∧ eVerify y.snap = false ∧ earlierFrames v y.stream y.order = 0 ∧ canPost v (eCplRing y.snap) = true := by decide +kernel
/-- A frame, finished already, whose completion ring has no room for its record (R315). -/
theorem witness_EndNoRoom : let x : Task := { runs with finished := true, snap := BitVec.ofNat 512 (3 * 2 ^ 160) }
    let r := (readInput (ended (words (ending x) (ring 3 0 3 1 4 0))) 0 0).1
    x.finished = true ∧ taskOf r 0 0 = some x ∧ epochHeld r 0 x = true ∧ eFeat x.snap = false ∧ eVerify x.snap = false ∧
    canPost r (eCplRing x.snap) = false := by decide +kernel
/-- A frame whose entry asks for a verifying decode. -/
def verified : Task := { runs with snap := 2 ^ 3 }
theorem witness_EndStartsVerify : let u := ended (ending verified); let r := (atEnd verified).1; let v := (atEnd verified).2; let y := (taskOf v 0 0).getD verified
    canEnd (ending verified) 0 0 (W 0x1F) = true ∧ hasWork u 0 0 = false ∧ taskOf u 0 0 = some verified ∧ stripesDone u 1 = true ∧
    (readInput u 0 0).2 = true ∧ taskOf r 0 0 = some verified ∧ epochHeld r 0 verified = true ∧ verified.finished = false ∧
    (finishFrame r 0 0 verified).2 = true ∧ eFeat y.snap = false ∧ (eVerify y.snap && !eDecode y.snap && y.verify.isNone) = true ∧
    verifying v y.order = false := by decide +kernel

/-- The time base at 5 ms, the next boundary at 1 ms. -/
def late : State := wr64 { on with pow := { on.pow with tbAcc := 5000000 * 2 ^ 32 } } (budBase + 0x48) 1000000
theorem witness_Period_Boundary : mgmtOn late = true ∧ rd64 late (budBase + 0x48) ≤ tb late ∧ late.ld.starts = [] := by decide +kernel
theorem witness_Period_Early : tb (wr64 on (budBase + 0x48) 1) < rd64 (wr64 on (budBase + 0x48) 1) (budBase + 0x48) := by decide +kernel
/-- At 5 ms the next boundary is at 6 ms (R318). -/
theorem test_next_boundary : nextBoundary late = 6000000 := by decide +kernel
theorem witness_BoundaryTaken : let s := wr32 on (budBase + 0x40) 1
    SMap.get 0 s.dom 0 ≠ period s ∧ SMap.get 0 s.dom 1 ≠ period s ∧ SMap.get 0 s.dom 2 ≠ period s ∧ SMap.get 0 s.dom 3 ≠ period s ∧
    startActs s = [] ∧ boundaryFrame s ≤ tb s * 10 / 256 ∧ tb (wr64 s (budBase + 0x48) 3000000) * 10 / 256 < boundaryFrame (wr64 s (budBase + 0x48) 3000000) ∧ SMap.get 0 on.dom 1 = period on := by decide +kernel

/-- A schedule of partition 0 whose load is done awaits the boundary, and starts at it (R266). -/
theorem witness_ScheduleStarts : let s (k : Nat) : State := late.setLd { late.ld with starts := [⟨0, 0, 0, k⟩] }
    (s 0).ld.starts ≠ [] ∧ (s 1).ld.starts.map (fun x => x.now (s 1)) = [true] ∧ (startActs (s 1)).contains 0 = true := by decide +kernel
theorem witness_DrainLimit : loaderOn (inLoad 2) = true ∧ (inLoad 2).ld.drainTb + 1000000 * (inLoad 2).ld.drainMs ≤ tb (inLoad 2) ∧
    tb (inLoad 2) < ((inLoad 2).setLd { (inLoad 2).ld with drainMs := 5 }).ld.drainTb + 1000000 * 5 := by decide +kernel
theorem witness_Load : loaderOn on = true ∧ loading on = false ∧ rdBits on (shtBase + 0x58) 8 8 = 0 := by decide +kernel
theorem witness_Loading : loaderOn (inLoad 1) = true ∧ loading (inLoad 1) = true ∧ ldState (inLoad 1) = 1 ∧ ldState (inLoad 2) = 2 ∧ ldState (inLoad 3) = 3 := by
  decide +kernel
theorem witness_DrainEnd : let s := wr32 (inLoad 2) (repBase + 0x40) 1
    ldState s = 2 ∧ bistDone s = true ∧ (runningTasks s).any (fun x => (loadParts s).contains (partOf s x.1)) = false := by decide +kernel
/-- No image is staged. -/
theorem witness_ValidateFails : ldState (inLoad 1) = 1 ∧ (match validate (inLoad 1) (inLoad 1).ld.staged with | .error _ => true | .ok _ => false) = true := by
  decide +kernel
theorem witness_ApplyFails : ldState (inLoad 3) = 3 ∧ (imgOf (inLoad 3) (inLoad 3).ld.staged).scope = 0 ∧
    (imgOf (inLoad 3) ((inLoad 3).setLd { (inLoad 3).ld with staged := List.replicate 11 0 ++ [1] }).ld.staged).scope ≠ 0 := by decide +kernel

/-! ### Streams -/

def entryW : W512 := BitVec.ofNat 512 entryNum
theorem witness_EntryFields : [eInRing entryW, eOutRing entryW, eCplRing entryW, eRecRing entryW, eWidth entryW, eHeight entryW, eKeyInterval entryW, eRapKeys entryW]
    = [0, 1, 3, 0xFFFF, 16, 16, 1, 1] := by decide +kernel
theorem witness_EntryCreate : let s := withData (rings 0) entryW
    entryCmdOk s 0 = true ∧ eValid (entry s 0) = false ∧ edata s = entryW ∧ eValid (ebSet (ebSet (edata s) 38 1 0) 58 2 0) = true ∧
    entryStatus s (ebSet (ebSet (edata s) 38 1 0) 58 2 0) = 0 ∧ (eProt (edata s) && !eDecode (edata s)) = false := by decide +kernel
theorem witness_EntryCreateUnset : entryCmdOk (withData (rings 0) 0) 0 = true ∧ eValid (entry (withData (rings 0) 0) 0) = false ∧
    eValid (ebSet (ebSet (edata (withData (rings 0) 0)) 38 1 0) 58 2 0) = false := by decide +kernel
theorem witness_EntryCreateRefused : let s := withData on entryW
    entryCmdOk s 0 = true ∧ eValid (entry s 0) = false ∧ eValid (ebSet (ebSet (edata s) 38 1 0) 58 2 0) = true ∧
    entryStatus s (ebSet (ebSet (edata s) 38 1 0) 58 2 0) ≠ 0 := by decide +kernel
theorem witness_EntryCreateProtected : entryCmdOk (keyed 5) 0 = true ∧ edata (keyed 5) = protW ∧
    entryStatus (keyed 5) (ebSet (ebSet protW 38 1 0) 58 2 0) = 0 ∧ entryStatus (keyed (2 ^ 32)) (ebSet (ebSet protW 38 1 0) 58 2 0) = 0 ∧
    (eProt protW && !eDecode protW) = true ∧ (keyed 5).drk.next < ivPrefixes ∧ ivPrefixes ≤ (keyed (2 ^ 32)).drk.next := by decide +kernel
def devEntry (e : W512) : W512 := ebSet (ebSet (ebSet (ebSet e 37 1 0) 38 1 0) 58 2 0) 60 4 0
theorem witness_EntryWrite : let s := withEntry (withData (rings 0) entryW) entryW
    entryCmdOk s 0 = true ∧ eValid (entry s 0) = true ∧ devEntry (mergeEntry (entry s 0) (edata s)) = devEntry (edata s) ∧
    changeBad s (mergeEntry (entry s 0) (edata s)) = false := by decide +kernel
theorem witness_EntryWriteBusy : let s := withEntry (withData (rings 0) (entryW ||| 2)) entryW
    eValid (entry s 0) = true ∧ devEntry (mergeEntry (entry s 0) (edata s)) ≠ devEntry (edata s) := by decide +kernel
/-- KEY_INTERVAL 0. -/
theorem witness_EntryWriteRefused : let s := withEntry (withData (rings 0) (ebSet entryW 28 2 0)) entryW
    entryCmdOk s 0 = true ∧ devEntry (mergeEntry (entry s 0) (edata s)) = devEntry (edata s) ∧ changeBad s (mergeEntry (entry s 0) (edata s)) = true := by
  decide +kernel

theorem witness_Doorbell : codecOn (rings 0) = true ∧ ringEnabled (rings 0) 5 = false ∧ ringEnabled (rings 0) 0 = true ∧ ringKind (rings 0) 0 < 2 ∧
    ringKind (rings 0) 2 = 2 ∧ ringEnabled (rings 0) 2 = true ∧ (4 + 65536 - ringCons (rings 0) 2) % 65536 ≤ ringSlots (rings 0) 2 ∧
    ringSlots (rings 0) 2 < (5 + 65536 - ringCons (rings 0) 2) % 65536 ∧ 2 < ringKind (rings 0) 4 ∧ ringEnabled (rings 0) 4 = true ∧
    (1 + 65536 - ringCons (rings 0) 4) % 65536 ≤ ringFill (rings 0) 4 ∧ ringFill (rings 0) 4 < (2 + 65536 - ringCons (rings 0) 4) % 65536 := by decide +kernel
theorem witness_RingEnable : ringEnabled (rings 0) 5 = false ∧ (ringChecks (rings 0) 5 && ringPages (rings 0) 5) = true ∧ ringEnabled (rings 0) 6 = false ∧
    (ringChecks (rings 0) 6 && ringPages (rings 0) 6) = false := by decide +kernel
theorem witness_RingStall : let s := setOslot { rings 0 with pow := { on.pow with tbAcc := 1000 * 2 ^ 32 } } 4 0 (some { owner := 0, len := some 8 })
    ringEnabled s 4 = true ∧ 3 ≤ ringKind s 4 ∧ ringFill s 4 ≠ 0 ∧ oslot s 4 (ringCons s 4) = some { owner := 0, len := some 8 } ∧
    0 + ringDrainUs s 4 * 1000 ≤ tb s := by decide +kernel

/-- A submission record of an operation for entry 0: its frame number, input address and bytes. -/
def sub (op a16 len : Nat) : Nat := op + a16 * 2 ^ 64 + len * 2 ^ 96
theorem witness_SubmitNoImage : let s := rings (sub 0 0 0) 256
    subHead s 2 0 = some (sub 0 0 0) ∧ subStatus s 2 (sub 0 0 0) ≠ 0 ∧ subHead (rings (sub 1 0 0)) 2 1 = some (sub 1 0 0) ∧
    subHead (rings (sub 2 0 0)) 2 2 = some (sub 2 0 0) ∧ subHead (rings (sub 3 0 0)) 2 3 = some (sub 3 0 0) ∧
    subHead (rings (sub 4 0 0)) 2 4 = some (sub 4 0 0) ∧ subStatus (rings (sub 4 0 0)) 2 (sub 4 0 0) ≠ 0 := by decide +kernel
theorem witness_Run : let s := withEntry (rings (sub 0 0 768)) entryW
    subHead s 2 0 = some (sub 0 0 768) ∧ subStatus s 2 (sub 0 0 768) = 0 ∧ admitOpen s (entry s 0) = true ∧ eDecode (entry s 0) = false ∧
    subField (sub 0 0 768) 12 4 = itemBytes (entry s 0) ∧ subField (sub 0 0 767) 12 4 ≠ itemBytes (entry s 0) ∧
    admitOpen s (entryW ||| 2 ^ 19) = false := by decide +kernel
theorem witness_ForceKey : let s := withEntry (rings (sub 1 0 0)) entryW
    subHead s 2 1 = some (sub 1 0 0) ∧ subStatus s 2 (sub 1 0 0) = 0 ∧ eDecode (entry s 0) = false := by decide +kernel
theorem witness_WriteEndUnit : let s := withEntry (rings (sub 2 0 0)) entryW
    subHead s 2 2 = some (sub 2 0 0) ∧ subStatus s 2 (sub 2 0 0) = 0 ∧ eDecode (entry s 0) = false ∧ (streamTasks s 0).isEmpty = true ∧
    ringFree s (eOutRing (entry s 0)) ≠ 0 ∧ (streamTasks (s.setStr { s.str with ready := [{}] }) 0).isEmpty = false := by decide +kernel
/-- Ingress ring 0 holds frame 7 of stream 0 in SLOT_HELD. -/
def slotHeld (w : Nat) : State := setIslot (withEntry (rings w) entryW) 0 0 (some { stream := 0, item := 0, bytes := 64, state := 2, frame := 7 })
theorem witness_RetrySkip : let s := slotHeld (sub 3 7 0)
    subHead s 2 3 = some (sub 3 7 0) ∧ subStatus s 2 (sub 3 7 0) = 0 ∧ heldSlot s 0 (subField (sub 3 7 0) 8 4) = some 0 ∧ admitOpen s (entry s 0) = true ∧
    islot s (eInRing (entry s 0)) 0 = some { stream := 0, item := 0, bytes := 64, state := 2, frame := 7 } ∧ heldSlot s 0 (subField (sub 3 8 0) 8 4) = none ∧
    subHead (slotHeld (sub 4 7 0)) 2 4 = some (sub 4 7 0) ∧ subHead (slotHeld (sub 3 8 0)) 2 3 = some (sub 3 8 0) := by decide +kernel

/-! ### Ethernet ports -/

theorem witness_MediaDatagram : let s := netOn myIp
    let pl := ipPacket peerIp myIp 17 (udpDatagram peerIp myIp 0x4242 [1, 2, 3])
    portUp s 0 = true ∧ mediaUdp s 0 ≠ 0 ∧ (packetFor s 0 (parseFrame (frameTo 0 0x86DD pl))).bind (fun x => udpData x (mediaUdp s 0)) = some [1, 2, 3] ∧
    (admitFrame s 0 (parseFrame (frameTo 0 0x86DD pl))).1 = true ∧ mediaUdp on 1 = 0 := by
  refine ⟨by decide +kernel, by decide +kernel, ?_, by decide +kernel, by decide +kernel⟩
  rw [packetFor_of (i := ⟨17, peerIp, myIp, udpDatagram peerIp myIp 0x4242 [1, 2, 3], 64⟩) (by decide +kernel)]
  decide +kernel
/-- A stream whose filter is blocked passes nothing (R371, R373). -/
theorem witness_Policed : let f := parseFrame (List.replicate 6 0 ++ List.replicate 6 1 ++ beBytes 2 0x0806 ++ List.replicate 28 0)
    let s := { on with eth := { on.eth with tables := [(0, 0x010101010101 + 2 ^ 63 + 2 ^ 64), (2048, 7)] } }
    portUp s 0 = true ∧ tagAccepted 0 f = true ∧ streamHandle s 0 f = some 0 ∧ (admitFrame s 0 f).1 = false := by decide +kernel
theorem witness_ArpRequest : let s := netOn myIp4
    let a := beBytes 2 1 ++ beBytes 2 0x0800 ++ beBytes 2 0x0604 ++ beBytes 2 1 ++ List.replicate 6 1 ++ [10, 0, 0, 2] ++ List.replicate 6 0 ++ [10, 0, 0, 1]
    let f := parseFrame (frameTo 8 0x0806 a)
    portUp s 8 = true ∧ tagAccepted 8 f = true ∧ (admitFrame s 8 f).1 = true ∧ f.etype = 0x0806 ∧ f.pl = a ∧ beAt a 0 2 = 1 ∧ beAt a 2 2 = 0x0800 ∧ beAt a 4 2 = 0x0604 ∧ beAt a 6 2 = 1 ∧
    isV4 (List.replicate 12 0#8 ++ slice a 24 4) = true ∧ ownIp s 8 (List.replicate 12 0#8 ++ slice a 24 4) = true := by decide +kernel
theorem witness_NeighborSolicitation : let s := netOn myIp
    let m := icmp6 peerIp myIp (beBytes 4 0x87000000 ++ beBytes 4 0 ++ myIp)
    let f := parseFrame (frameTo 8 0x86DD (putBe (ipPacket peerIp myIp 58 m) 7 1 255))
    portUp s 8 = true ∧ tagAccepted 8 f = true ∧ (admitFrame s 8 f).1 = true ∧ f.etype = 0x86DD ∧ parseIp f = some ⟨58, peerIp, myIp, m, 255⟩ ∧ 24 ≤ m.length ∧ beAt m 0 1 = 135 ∧ pseudoSum peerIp myIp 58 m = 0 ∧
    ownIp s 8 (slice m 8 16) = true ∧ isV4 (slice m 8 16) = false ∧ allZero peerIp = false := by decide +kernel
theorem witness_IcmpEcho : let s := netOn myIp
    let m := icmp6 peerIp myIp (beBytes 4 0x80000000 ++ beBytes 4 7)
    portUp s 8 = true ∧ packetFor s 8 (parseFrame (frameTo 8 0x86DD (ipPacket peerIp myIp 58 m))) = some ⟨58, peerIp, myIp, m, 64⟩ ∧ 8 ≤ m.length ∧
    isV4 myIp = false ∧ beAt m 0 1 = 128 ∧ pseudoSum peerIp myIp 58 m = 0 := by
  refine ⟨by decide +kernel, packetFor_of (by decide +kernel), by decide +kernel⟩
theorem witness_AssemblyTimeout : let x : Assembly := { port := 0, ring := 0, slot := 0, stream := 0, item := 0, size := 64, started := 0 }
    let s := { rings 0 with str := { (rings 0).str with asm := [x] }, pow := { on.pow with tbAcc := 10 ^ 12 * 2 ^ 32 } }
    codecOn s = true ∧ s.str.asm.find? (fun a => a.port = 0 && a.ring = 0 && decide (tb s ≥ a.started + rd32 s (portBase 0 + 0x48) * 1000)) = some x := by
  decide +kernel
theorem witness_PortDown : mgmtOn on = true ∧ codecOn on = true ∧ SMap.get false on.eth.down 0 = false := by decide +kernel

/-- Egress ring 4 (KIND 1 here) of port 0 with an item of the given length in its oldest slot. -/
def egress (len : Nat) : State :=
  setOslot (words (rings 0) (ring 7 0 1 1 1 0 ++ [(portBase 0 + 0x40, 1500 + 0x4242 * 2 ^ 16)])) 7 0 (some { owner := 0, len := some len })
theorem witness_EgressItem : let s := egress 8
    codecOn s = true ∧ ringEnabled s 7 = true ∧ ringKind s 7 = 1 ∧ ringFill s 7 ≠ 0 ∧ portUp s (ringPort s 7) = true ∧ egressUdp s (ringPort s 7) ≠ 0 ∧
    oslot s 7 (ringCons s 7) = some { owner := 0, len := some 8 } ∧ oslot (egress 0) 7 0 = some { owner := 0, len := some 0 } := by decide +kernel
/-- Queue 0 of port 0 holds a frame of 100 bytes; the gate list opens all queues for `t` ns. -/
def queued (rows : List (Nat × Nat)) (gate : Nat) : State :=
  wr32 { on with eth := { on.eth with queues := [(0, [{ bytes := List.replicate 100 0 }])], oper := [(0, { len := rows.length, rows := rows })] } } (portBase 0 + 0xC0) gate
theorem witness_EgressFrame : let s := queued [] 0
    portUp s 0 = true ∧ (longestOpening s 0 0).any (fun t => decide (t < frameTime 0 100)) = false ∧ (openFor s 0 0).any (fun t => decide (t < frameTime 0 100)) = false ∧
    maySendQueue s 0 0 = true ∧ (range' 1 7).any (maySendQueue s 0) = false := by decide +kernel
theorem witness_EgressFrameWaits :
    (longestOpening (queued [(255, 1), (0, 100)] 1) 0 0).any (fun t => decide (t < frameTime 0 100)) = true ∧
    (longestOpening (queued [(0, 100), (255, 100)] 1) 0 0).any (fun t => decide (t < frameTime 0 100)) = false ∧
    (openFor (queued [(0, 100), (255, 100)] 1) 0 0).any (fun t => decide (t < frameTime 0 100)) = true := by decide +kernel

/-- A gate-list change of port 0 is pending, with its start at 0; one of stream gate 0 too. -/
def pendingList : State := words { on with eth := { on.eth with starts := [(0, 1), (256, 1)] } } [(portBase 0 + 0xC4, 2 ^ 9)]
theorem witness_GateLists : gclPending on 0 = false ∧ gclPending pendingList 0 = true ∧ SMap.get 0 pendingList.eth.starts 0 ≠ 0 ∧
    SMap.get 0 pendingList.eth.starts 0 - 1 ≤ tb pendingList ∧ portUp pendingList 0 = true ∧ SMap.get 0 pendingList.eth.starts 256 = 0 + 1 ∧ 0 ≤ tb pendingList := by
  decide +kernel
theorem witness_RecoveryReset : let s := { on with eth := { on.eth with recov := [(0, (3, 0, 0))] } }
    (SMap.get (0, 0, 0) s.eth.recov 0).1 ≠ 0 ∧ (SMap.get (0, 0, 0) s.eth.recov 0).2.2 + tb' (tableEntry s 0 5 0) 6 2 * 1000000 ≤ tb s := by decide +kernel
theorem witness_EthTable : tableSize 6 ≤ 0 ∧ 1039 < tableSize 3 ∧ tableSize 3 ≤ 1040 := by decide
theorem witness_Sync : timeOn on = true ∧ portUp on 0 = true ∧ portUp on 8 = true ∧ tState on = 0 ∧ tState (wr32 on (timBase + 0x40) 1) = 1 ∧
    timeOn (wr32 on (timBase + 0x40) 1) = true := by decide +kernel
theorem witness_PdelayRequest : let f := parseFrame (frameTo 8 0x88F7 (0x12#8 :: List.replicate 53 0))
    portUp on 8 = true ∧ f.etype = 0x88F7 ∧ 54 ≤ f.pl.length ∧ beAt f.pl 0 1 = 0x12 ∧ beAt f.pl 4 1 = 0 := by decide +kernel

/-! ### HCP -/

/-- The SHA3-256 digest of no bytes (FIPS 202). -/
def emptyDigest : List Byte := beBytes 32 0xa7ffc6f8bf1ed76651c14756a061d662f580ff4de43b49fa82d80a4b80f8434a
theorem test_sha3 : sha3_256 [] = emptyDigest := by decide +kernel

/-- An HCP message of a type for session `k`, version 1.0. -/
def msg (t k seq : Nat) (body : List Byte) : List Byte :=
  beBytes 2 0x4843 ++ [1, 0] ++ beBytes 1 t ++ beBytes 1 0 ++ beBytes 2 body.length ++ beBytes 4 k ++ beBytes 4 seq ++ beBytes 4 0 ++ beBytes 4 0 ++ body
/-- Session 1 with the peer; SEQ 4 was its last. -/
def peer : Session := { port := 8, mac := List.replicate 6 1, ip := peerIp, verMaj := 1, verMin := 0, retxMax := 3, rtoMs := 1, window := 8, rxSeq := 4 }
def linked (x : Session) : State := setSession (netOn myIp) 1 (some x)
/-- The frame that carries a message to port 8. -/
def hcpPl (d : List Byte) : List Byte := ipPacket peerIp myIp 17 (udpDatagram peerIp myIp 0x4242 d)
def hcpFrame (d : List Byte) : List Byte := frameTo 8 0x86DD (hcpPl d)
def hcpIp (d : List Byte) : IpPacket := ⟨17, peerIp, myIp, udpDatagram peerIp myIp 0x4242 d, 64⟩
theorem witness_HcpMessage : let s := linked peer; let d := msg 0x10 1 5 (beBytes 4 0 ++ [4, 1])
    portUp s 8 = true ∧ packetFor s 8 (parseFrame (hcpFrame d)) = some (hcpIp d) ∧ udpData (hcpIp d) (hcpUdp s) = some d ∧ mSession d = 1 ∧
    session s 1 = some peer ∧ mKind d = 4 ∧ headOk d = true ∧ mFlags d = 0 ∧ mType d ≠ 3 ∧ mSeq d = peer.rxSeq + 1 ∧ mSeq (msg 0x10 1 4 []) ≤ peer.rxSeq ∧
    session (setSession s 1 (some { peer with lastRx := tb s })) 1 = some { peer with lastRx := tb s } := by
  refine ⟨by decide +kernel, packetFor_of (by decide +kernel), by decide +kernel⟩
theorem witness_HcpInOrder : let s := linked peer; let d := msg 0x10 1 5 (beBytes 4 0 ++ [4, 1])
    CarriesMessage s 8 (hcpFrame d) d 1 peer ∧
      RequestInOrder s 1 d peer (setSession s 1 (some { peer with lastRx := tb s })) { peer with lastRx := tb s } ∧
      recovery (setSession s 1 (some { peer with lastRx := tb s })) = false := by
  dsimp only
  refine ⟨⟨by decide +kernel, by decide, by decide +kernel, by decide +kernel, hcpIp (msg 0x10 1 5 (beBytes 4 0 ++ [4, 1])),
    packetFor_of (by decide +kernel), by decide +kernel⟩, ?_, by decide +kernel⟩
  unfold RequestInOrder
  decide +kernel
theorem witness_HcpRepeat : let m : List Byte := [1]; let x := { peer with stored := [(4, m)] }
    m ≠ [] ∧ SMap.get [] x.stored (mSeq (msg 0x10 1 4 [])) = m := by decide +kernel
/-- Every row of the message table has a message of its kind. -/
theorem witness_HcpKinds : [mKind (msg 1 1 5 []), mKind (msg 2 1 5 []), mKind (msg 3 1 5 []), mKind (msg 0x10 1 5 []), mKind (msg 0x11 1 5 []), mKind (msg 0x20 1 5 []),
    mKind (msg 0x21 1 5 []), mKind (msg 0x40 1 5 [0]), mKind (msg 0x40 1 5 [1]), mKind (msg 0x50 1 5 [0]), mKind (msg 0x50 1 5 [1]), mKind (msg 0x50 1 5 [2]),
    mKind (msg 0x50 1 5 [3]), mKind (msg 0x51 1 5 [0]), mKind (msg 0x51 1 5 [1]), mKind (msg 0x51 1 5 [2])] = range' 1 16 := by decide +kernel
theorem witness_HcpRequests : let s := linked peer; let h := [1, 0, 1, 0, 3] ++ beBytes 2 10 ++ beBytes 2 8
    recovery s = false ∧ beAt (msg 1 1 5 h) 2 1 = peer.verMaj ∧ beAt (msg 1 1 5 h) 3 1 = peer.verMin ∧ helloOk h = true ∧ helloOk [] = false ∧
    pickVersion s (beAt h 0 1, beAt h 1 1) (beAt h 2 1, beAt h 3 1) = some (1, 0) ∧ mBody (msg 2 1 5 []) = [] ∧
    accessBad (beBytes 4 8 ++ [4, 1]) = false ∧ (beBytes 4 8 ++ [4, 1] : List Byte).length = 6 ∧
    accessBad (beBytes 4 8 ++ [4, 1] ++ beBytes 4 7) = false ∧ bit peer.policy 1 = false ∧ bit peer.policy 2 = false ∧ codecOn s = true ∧ loading s = false ∧
    zeroised s = false ∧ bit ({ peer with debug := 1 } : Session).debug 0 = true ∧ bit peer.debug 0 = false ∧ cpuRuns (wr32 s (cpuAddr 0) 1) 0 = true := by decide +kernel
theorem witness_HcpSubmit : let s := rings 0
    codecOn s = true ∧ unconfigured s = false ∧ ringEnabled s 2 = true ∧ ringKind s 2 = 2 ∧ SMap.get 0 s.str.stopCode (ringPart s 2) = 0 ∧ 1 ≤ ringFree s 2 ∧
    ringFree s 2 < 4 ∧ 3 ≤ ringKind s 4 ∧ ringEnabled s 4 = true ∧ (1 + 65536 - ringCons s 4) % 65536 ≤ ringFill s 4 := by decide +kernel
theorem witness_HcpXfer : let s := (linked peer).setLd { (linked peer).ld with staged := [1] }; let b := [0] ++ beBytes 8 1 ++ [2, 3]
    b.length = 11 ∧ beAt b 0 1 = 0 ∧ beAt b 1 8 = s.ld.staged.length ∧ s.ld.staged ≠ [] ∧ s.ld.staged.length + (b.drop 9).length ≤ stagingBytes s := by decide +kernel
/-- The owner's record enrols one key; session 1 holds a challenge. Whether its signature verifies is no value of this model. -/
def challenged : State := let s := linked { peer with challenge := some ([7], 0), policy := 256, report := [1] }
  { s with owner := List.replicate 15 0 ++ [1] ++ List.replicate 48 0 }
def key0 : List Byte := List.replicate 1952 0
theorem ownerKey_of {s : State} {k : List Byte} (h : ownerKeys s = [k]) : ownerKey s (sha3_256 k) = some k ∧ unlockKey s (sha3_256 k) = some (1, k) := by
  have h' : ownerKey s (sha3_256 k) = some k := by unfold ownerKey; rw [h]; simp
  exact ⟨h', by unfold unlockKey; rw [h']⟩
theorem witness_HcpAuth : zeroised challenged = false ∧ (useChallenge challenged 1).1 = some [7] ∧ 3 &&& scopesFor 256 1 = 3 ∧
    ∃ fp, ownerKey (useChallenge challenged 1).2 fp = some key0 ∧ unlockKey (useChallenge challenged 1).2 fp = some (1, key0) :=
  ⟨by decide +kernel, by decide +kernel, by decide +kernel, sha3_256 key0, ownerKey_of (by decide +kernel)⟩
theorem witness_HcpGet : let b : List Byte := [3, 0, 0, 0]
    b.length = 4 ∧ beAt b 1 1 = 0 ∧ ({ peer with report := [1] } : Session).report ≠ [] := by decide
theorem witness_Hello : let s := netOn myIp; let d := msg 1 0 1 ([1, 0, 1, 0, 3] ++ beBytes 2 10 ++ beBytes 2 8)
    portUp s 8 = true ∧ packetFor s 8 (parseFrame (hcpFrame d)) = some (hcpIp d) ∧ udpData (hcpIp d) (hcpUdp s) = some d ∧ headOk d = true ∧ mKind d = 1 ∧
    mType d = 1 ∧ mSession d = 0 ∧ session s 0 = none ∧ mSeq d = 1 ∧
    (range' 1 8).find? (justOpened s 8 (parseFrame (hcpFrame d)).smac peerIp) = none ∧ helloOk (mBody d) = true ∧
    pickVersion s (beAt (mBody d) 0 1, beAt (mBody d) 1 1) (beAt (mBody d) 2 1, beAt (mBody d) 3 1) = some (1, 0) ∧ freeSession s = some 1 := by
  refine ⟨by decide +kernel, packetFor_of (by decide +kernel), by decide +kernel⟩
theorem witness_HelloRefused : pickVersion on (2, 0) (2, 0) = none ∧ helloOk [] = false ∧
    freeSession { on with eth := { on.eth with sessions := (range' 1 8).map (fun k => (k, some peer)) } } = none := by decide +kernel
theorem witness_HcpTimers : let m : HMsg := { seq := 1, bytes := [] }; let late : HMsg := { m with tries := 3 }
    let s (x : Session) : State := setSession { on with pow := { on.pow with tbAcc := 60000000000 * 2 ^ 32 } } 1 (some x)
    mgmtOn (s peer) = true ∧ session (s { peer with unacked := [late] }) 1 = some { peer with unacked := [late] } ∧
    decide (late.tb + peer.rtoMs * 1000000 ≤ tb (s peer)) = true ∧ peer.retxMax ≤ late.tries ∧ ¬ peer.retxMax ≤ m.tries ∧
    peer.lastRx + 60000000000 ≤ tb (s peer) ∧ tb on < peer.lastRx + 60000000000 := by decide +kernel

/-! ### Fabric -/

/-- The check value of CRC-32C: the CRC of the characters 1 to 9. -/
theorem test_crc : crc32c [0x31, 0x32, 0x33, 0x34, 0x35, 0x36, 0x37, 0x38, 0x39] = 0xE3069283 := by decide +kernel

/-- Link 0 is trained, its route set holds the run `r`, channel 5 is `c`. -/
def fabOn (r : FRun) (c : FChan) (l : FLink := { light := true, phase := 2 }) : State :=
  setRem { on with fab := { on.fab with loaded := true, sets := [{ runs := [[r]] }], chans := [c], links := [(0, l)] } } 0 24 100
def sends : FRun := { start := 0, count := 4, kind := 0, chan := 5 }
def source : FChan := { number := 5, role := 0, kind := 0, peer := 1, core := 0, act := 0, unitBytes := 576, slots := 1, relWord := 0, base := 0, ctr := 0x80000000, rctr := 0,
                        unit := 2 ^ 31, rel := 2 ^ 31 }
theorem witness_SendSlot : let r := fabOn sends source; let s := takeFabricBoundary r
    maySend r 0 = true ∧ runNow r 0 = some sends ∧ carriesData s 0 = true ∧ s.fab.quiet = false ∧ runNow s 0 = some sends ∧ sourceChan s 5 = some 0 ∧ chan s 0 = some source ∧
    source.cabort = none ∧ resetChan.reachedNat (sharedPeek s source.ctr 4) (source.unit + 1) = true ∧ waitsRelease s source = false ∧ admitted s 0 24 = true ∧
    maySend s 1 = false := by decide +kernel
theorem witness_SendCabort : let c := { source with cabort := some 7 }
    maySend (fabOn sends c) 0 = true ∧ runNow (fabOn sends c) 0 = some sends ∧ carriesData (takeFabricBoundary (fabOn sends c)) 0 = true ∧
    chan (takeFabricBoundary (fabOn sends c)) 0 = some c ∧ admitted (takeFabricBoundary (fabOn sends c)) 0 24 = true := by decide +kernel
theorem witness_SendSlotHeld : let c := { source with unit := 0 }; let d := { source with rel := 0 }
    resetChan.reachedNat (sharedPeek (fabOn sends c) c.ctr 4) (c.unit + 1) = false ∧ pairOf (fabOn sends c) c = none ∧ waitsRelease (fabOn sends d) d = true ∧
    resetChan.reachedNat (sharedPeek (fabOn sends d) d.ctr 4) (d.unit + 1) = true ∧ admitted (setRem (fabOn sends source) 0 24 0) 0 24 = false := by decide +kernel
def forwards : FRun := { start := 0, count := 4, kind := 1, inLink := 0, delay := 0 }
theorem witness_ForwardSlot : let l : FLink := { light := true, phase := 2, fwd := [(0, [1])] }
    runNow (fabOn forwards source) 0 = some forwards ∧ (link (fabOn forwards source) 0).fwd.find? (fun x => x.1 + 0 = frameIndex (fabOn forwards source)) = none ∧
    (link (fabOn forwards source l) 0).fwd.find? (fun x => x.1 + 0 = frameIndex (fabOn forwards source l)) = some (0, [1]) := by decide +kernel
theorem witness_UnscheduledFrame : let l : FLink := { light := true, phase := 2, late := [[1]] }; let x : FSent := { at_ := 0, seq := 1, bytes := [1] }
    runNow (fabOn { sends with count := 0 } source l) 0 = none ∧ (link (fabOn { sends with count := 0 } source l) 0).late = [1] :: [] ∧
    (link (fabOn { sends with count := 0 } source { l with retx := [x] }) 0).retx = x :: [] ∧ maySend (fabOn { sends with count := 0 } source l) 0 = true := by decide +kernel
theorem witness_BeaconSlot : let r := { sends with kind := 2 }
    maySend (fabOn r source) 0 = true ∧ runNow (fabOn r source) 0 = some r ∧ (link (fabOn r source) 0).phase = 2 := by decide +kernel

/-- A frame of a kind with its CRC, and with a wrong one. -/
def body (kind chan : Nat) : List Byte := baseBytes { kind := kind, chan := chan, payload := List.replicate 576 0 }
def sealed (kind chan : Nat) (x : BitVec 32 := 0) : List Byte :=
  let b := (body kind chan).take 632; b ++ beBytes 4 (crc32c b ^^^ x).toNat ++ List.replicate 4 0
theorem beNat_beBytes (v : BitVec 32) : beNat (beBytes 4 v.toNat) = v.toNat := by
  have := v.isLt
  simp [beNat, beBytes, leBytes]
  omega
theorem sealed_crc (b : List Byte) (v : BitVec 32) (h : b.length = 632) :
    beAt (b ++ beBytes 4 v.toNat ++ List.replicate 4 0) 632 4 = v.toNat ∧ (b ++ beBytes 4 v.toNat ++ List.replicate 4 0).take 632 = b ∧
    (b ++ beBytes 4 v.toNat ++ List.replicate 4 0).length = 640 := by
  have hl : (beBytes 4 v.toNat).length = 4 := by simp [beBytes, leBytes]
  refine ⟨?_, by rw [List.append_assoc, ← h, List.take_left], by simp [h, hl]⟩
  unfold beAt
  rw [List.append_assoc, ← h, List.drop_left, List.take_append_of_le_length (by omega), List.take_of_length_le (by omega), beNat_beBytes]
theorem sealed_ok (kind chan : Nat) (h : ((body kind chan).take 632).length = 632) : (sealed kind chan).length = 640 ∧
    beAt (sealed kind chan) 632 4 = (crc32c ((sealed kind chan).take 632)).toNat ∧
    beAt (sealed kind chan 1) 632 4 ≠ (crc32c ((sealed kind chan 1).take 632)).toNat := by
  have a := sealed_crc _ (crc32c ((body kind chan).take 632) ^^^ 0) h
  have b := sealed_crc _ (crc32c ((body kind chan).take 632) ^^^ 1) h
  unfold sealed
  dsimp only
  refine ⟨a.2.2, by rw [a.1, a.2.1]; simp, ?_⟩
  rw [b.1, b.2.1]
  intro e
  have e := congrArg (BitVec.getLsbD · 0) (BitVec.eq_of_toNat_eq e)
  simp at e
theorem witness_FrameRx : let s := fabOn sends source
    codecOn s = true ∧ (link s 0).phase = 2 ∧ (link s 0).checking = false ∧
    reservedOk (sealed 0 0) (decide ((link s 0).phase = 2) && decide (rdBits s (fabBase + 0x80) 12 4 = 0)) = true := by decide +kernel
theorem witness_FrameRxCrc : (sealed 0 0).length = 640 ∧ beAt (sealed 0 0) 632 4 = (crc32c ((sealed 0 0).take 632)).toNat ∧
    beAt (sealed 0 0 1) 632 4 ≠ (crc32c ((sealed 0 0 1).take 632)).toNat := sealed_ok 0 0 (by decide +kernel)
theorem witness_FrameRxKinds : let s := fabOn sends source
    [beAt (sealed 0 0) 0 1, beAt (sealed 1 9) 0 1, beAt (sealed 2 0) 0 1, beAt (sealed 3 0) 0 1] = [0, 1, 2, 3] ∧
    [1, 2, 3].all (fun i => ((body i 9).take 632).length == 632 && reservedOk (sealed i 9) true) = true ∧
    (routeData (noteReceipt (s.setFab { s.fab with sets := [{ runs := [[], [forwards]] }] }) 0 0 true) 0 (sealed 1 9)).isSome = true ∧
    carriesData s 0 = true ∧ (routeData (noteReceipt s 0 0 true) 0 (sealed 1 9)).isNone = true := by decide +kernel
/-- A frame that has been sent eight times and one that has been sent nine times, on a link that carries data. -/
theorem witness_Resend : let x (n : Nat) : FSent := { at_ := 0, seq := 1, tries := n, bytes := [1] }
    let s := fabOn sends source { light := true, phase := 2, sent := [x 9, x 8] }
    (x 8).tries < 9 ∧ 9 ≤ (x 9).tries ∧ carriesData (updLink s 0 (fun l => { l with sent := l.sent.erase (x 9) })) 0 = true ∧
    (link s 0).retx.Pairwise (fun a b => a.born ≤ b.born) := by decide +kernel

theorem witness_Training : let l : FLink := { light := true, phase := 1, checking := true }
    (link on 0).phase = 0 ∧ (link (fabOn sends source { light := true }) 0).light = true ∧ (link (fabOn sends source { light := true }) 0).phase = 0 ∧
    (link (fabOn sends source l) 0).phase = 1 ∧ (link (fabOn sends source l) 0).checking = true := by decide +kernel
/-- The lock was lost at time 0; it is now 10 ms. -/
theorem witness_LinkFails : let l : FLink := { light := true, phase := 1, lostAt := 1 }
    let s := { fabOn sends source l with pow := { on.pow with tbAcc := 10000000 * 2 ^ 32 } }
    (link s 0).lostAt ≠ 0 ∧ (link s 0).phase ≠ 2 ∧ (link s 0).lostAt - 1 + 100000 ≤ tb s ∧ s.fab.loaded = true ∧ s.fab.doneAt + 10000000 ≤ tb s ∧
    (∃ r ∈ s.fab.sets, nth [] r.runs 0 ≠ []) ∧ s.fab.fails.length < 64 ∧ s.fab.fails.contains (nameOf s 0) = false := by
  refine ⟨by decide +kernel, by decide +kernel, by decide +kernel, by decide +kernel, by decide +kernel, ⟨{ runs := [[sends]] }, List.mem_singleton.mpr rfl, by decide⟩, by decide +kernel⟩
theorem witness_RouteSwitch : let s := fabOn sends source; let u := s.setFab { s.fab with targets := [(7, 7, 0), (7, 8, 900)], fails := [(7, 7)] }
    switchAt u = some 0 ∧ 0 ≤ tb u ∧ declared u (7, 7) = true ∧ declared u (6, 7) = false ∧ switchAt s = none ∧ coveringSet u = none ∧ coveringSet (u.setFab { u.fab with fails := [] }) = some 0 := by decide +kernel

/-! ### Events, processors, firmware -/

/-- Processor 0 runs; claim slot and fast slot of processor 0 hold source 5 and 6, which are active and aimed at processor 0. -/
def cpuOn : State := words on [(cpuAddr 0, 1), (slotAddr 0 false, 5 + 2 ^ 31), (slotAddr 0 true, 6 + 2 ^ 31), (evcBase + 0x400, 32)]
theorem witness_Events : sourceOk 1 = true ∧ sourceOk 0 = false ∧ sourceOk 1023 = true ∧ sourceOk 1024 = false ∧ mgmtOn cpuOn = true ∧ recovery cpuOn = false ∧
    cpuRuns cpuOn 0 = true ∧ inFast cpuOn 0 = false ∧ inFast (wr32 cpuOn (cpuAddr 0) 5) 0 = true ∧ cpuRuns (wr32 cpuOn (cpuAddr 0) 5) 0 = true ∧ (cpu cpuOn 0).halted = false ∧
    slotSource cpuOn 0 true = some 6 ∧ slotSource cpuOn 0 false = some 5 ∧ slotSource on 0 false = none ∧
    SMap.get false { on with mgt := { on.mgt with coal := [(0, true)] } }.mgt.coal 0 = true := by decide +kernel
theorem witness_Claims : (claim (setWfi cpuOn 0 false) 0 false).1 ≠ 0 ∧ bits (claim (setWfi cpuOn 0 false) 0 false).1 0 10 < 512 ∧
    (claim (setWfi (words on [(cpuAddr 0, 1)]) 0 false) 0 true).1 = 0 ∧ activeBit cpuOn 5 = true ∧ evTarget cpuOn 5 = 0 ∧ activeBit cpuOn 6 = false := by decide +kernel
theorem witness_EventConfig : maskBit (wr32 on (evcBase + 0x280) (2 ^ 7)) 7 = true ∧ activeBit (wr32 on (evcBase + 0x280) (2 ^ 7)) 7 = false ∧
    (List.range 4).all (fun p => (slotSource (wr32 on (evcBase + 0x280) (2 ^ 7)) p false).isNone && (slotSource (wr32 on (evcBase + 0x280) (2 ^ 7)) p true).isNone) = true ∧
    maskBit (wr32 on (evcBase + 0x280) 0) 7 = false := by decide +kernel
/-- A watchdog of 1 µs that nothing kicks, 3 µs after reset. -/
def watched : State := { words on [(cpuAddr 0, 1), (mgtBase + 0x520, 1)] with pow := { on.pow with tbAcc := 3000000 * 2 ^ 32 } }
theorem witness_Watchdog : wdOn watched 0 = true ∧ wdReached watched 0 1 = true ∧ (cpu watched 0).stage1 = false ∧ wdReached watched 0 2 = true ∧ recovery watched = false := by
  decide +kernel
def fwAt (v : Nat) : State := wr32 on (mgtBase + 0x550) v
theorem witness_Firmware : [0, 1, 2, 3, 4, 5].all (fun v => mgmtOn (fwAt v) && fwState (fwAt v) == v && !recovery (fwAt v)) = true ∧
    fwStatus (fwAt 1) (fwAt 1).mgt.staged ≠ 0 ∧ recovery (wr32 (fwAt 4) (mgtBase + 0x540) 2) = true ∧ fwState (wr32 (fwAt 4) (mgtBase + 0x540) 2) = 4 := by decide +kernel

/-! ### Darkroom, repair, lifetime -/

/-- What a cipher opens and whether a signature verifies are no values of this model; the other conditions of those clauses are met here. -/
def mailbox (bs : List Byte) : State := mboxPut on bs
theorem witness_Darkroom : drkOn on = true ∧ zeroised on = false ∧ zeroised (wr32 on (drkBase + 0x40) 2) = true ∧ drkOn (wr32 on (drkBase + 0x40) 2) = true ∧
    slice (mbox (mailbox (ascii "HKEY")) 1136) 0 4 = ascii "HKEY" ∧ allZero (slice (mbox (mailbox (ascii "HKEY")) 1136) 5 3) = true ∧
    slice (mbox (mailbox (ascii "HSEL")) 76) 0 4 = ascii "HSEL" ∧ allZero (slice (mbox (mailbox (ascii "HSEL")) 76) 5 3) = true ∧
    allZero (slice (mbox (mailbox (ascii "HSEL")) 76) 68 8) = true ∧ freeSlot on = some 0 ∧ SMap.get none on.drk.keys 0 = none := by decide +kernel
theorem witness_DarkroomKeys : let s := keyed 0; let u := withEntry s protW
    SMap.get none s.drk.keys 1 = some { usage := 2, key := [] } ∧ keyBusy s 1 = false ∧ keyBusy u 1 = true := by decide +kernel
/-- No key of an unowned device's empty mailbox has the fingerprint that the record names. -/
theorem witness_OwnerUpdate : ownerStatus on (List.replicate 16 0) ≠ 0 := by decide +kernel
theorem witness_Reseed : 2 ^ 20 ≤ ({ on.drk with requests := 2 ^ 20 } : Darkroom).requests ∧ on.drk.requests < 2 ^ 20 := by decide

def col : Nat := 2 ^ 28 + 3
def row3 : Nat := 3 * 2 ^ 28 + 7
theorem witness_Retire : locOk col = true ∧ outOfService on col = false ∧ locKind col ≠ 4 ∧ chooseSpare on col = .take col (2 ^ 28 + 128) ∧ on.rep.pend.any (fun p => p.loc = col) = false ∧
    locKind col ≠ 5 ∧ locKind col ≠ 6 ∧ locOk (4 * 2 ^ 28 + 33) = true ∧ outOfService on (4 * 2 ^ 28 + 33) = false ∧ locOk (4 * 2 ^ 28 + 34) = false ∧
    outOfService { on with rep := { on.rep with rows := [(7, 4096)] } } row3 = true ∧ locOk row3 = true ∧ chooseSpare on col ≠ .none := by decide +kernel
def pend (c : Bool) (l : Nat) : RPend := { loc := l, spare := 4096, seq := 1, copying := c, deadline := 0 }
def repairing (p : RPend) : State := { on with rep := { on.rep with pend := [p] } }
theorem witness_Repair : (repairing (pend true row3)).rep.pend.find? (fun p => p.loc = row3 && p.copying) = some (pend true row3) ∧ locKind row3 ≠ 5 ∧ locKind row3 ≠ 6 ∧
    (repairing (pend false row3)).rep.pend.find? (fun p => p.loc = row3 && !p.copying) = some (pend false row3) ∧ switchHeld (repairing (pend false row3)) = false ∧
    mayTake (repairing (pend false row3)) row3 0 = true ∧ switchHeld (wr32 on (mgtBase + 0x408) 3) = true := by decide +kernel
theorem witness_PeriodicTest : let s := { on with pow := { on.pow with tbAcc := 10 ^ 15 * 2 ^ 32 } }
    s.rep.tested < tb s / (max 1 (rdBits s (repBase + 0x50) 16 16) * 1000000000) ∧ bit (rd32 on (repBase + 0x40)) 0 = false ∧
    bit (rd32 (wr32 on (repBase + 0x40) 1) (repBase + 0x40)) 0 = true := by decide +kernel
theorem witness_FaultEvent : [col, 2 * 2 ^ 28, row3, 4 * 2 ^ 28, 5 * 2 ^ 28, 6 * 2 ^ 28, 7 * 2 ^ 28].map (fun l => (locOk l, locKind l)) =
    [(true, 1), (true, 2), (true, 3), (true, 4), (true, 5), (true, 6), (true, 7)] ∧ (Machine.core (mic 0) 0).vec.job = some vj ∧ (Machine.core on 0).vec.job = none ∧
    on.fresh = (0, { on with freeIdx := 1 }) := by decide +kernel
/-- A task whose regions lie in the array of the error, and the same task with none. -/
theorem witness_ArrayFault : let k (g : List (Nat × Nat × Nat × Nat)) : Core := { ctxs := [(0, { regions := g })] }
    let hit (s : State) (x : Nat × Nat × Task) : Bool := x.1 = 0 && (ctxOf s 0 x.2.1).regions.any (fun g =>
      (range' g.1 (gangArrays s 0)).any (fun l => lmapOf s 0 l = lmapOf s 0 0))
    (runningTasks (seq 1 0 (k [(0, 0, 0, 1)]))).any (hit (seq 1 0 (k [(0, 0, 0, 1)]))) = true ∧
    (runningTasks (seq 1 0 (k []))).any (hit (seq 1 0 (k []))) = false := by decide +kernel
theorem witness_Rotation : let s := { words on [(coreBase 0 1 + 0x44, 0x4688)] with img := { cores := [(0, { part := 0 })] }, pow := { on.pow with tbAcc := 10 ^ 15 * 2 ^ 32 } }
    codecOn s = true ∧ coreRetired s 0 = false ∧ partOf s 0 ≤ 7 ∧ spareOf s 0 ≠ 7 ∧ rdBits s (mgtBase + 0x408) 0 3 ≠ 3 ∧ (runningTasks s).any (fun x => x.1 = 0) = false ∧
    SMap.get 0 s.rep.rotTb 0 + max 1 (rdBits s (repBase + 0x50) 16 16) * 1000000000 ≤ tb s ∧
    (range' (SMap.get 0 s.rep.rot 0) 5).find? (fun i => (List.range 4).any (fun l => lmapOf s 0 l = i % 5)) = some 0 := by decide +kernel
theorem witness_TargetedTest : let t : RTest := { loc := 2 * 2 ^ 28, targeted := true, deadline := 0 }; let s := { on with rep := { on.rep with tests := [t] } }
    s.rep.tests.find? (fun t => t.loc = 2 * 2 ^ 28) = some t ∧ switchHeld s = false ∧ mayTake s t.loc t.deadline = true := by decide +kernel
theorem witness_Flush : bit (rd32 (wr32 on (lfcBase + 0x40) 1) (lfcBase + 0x40)) 0 = true ∧ bit (rd32 on (lfcBase + 0x40)) 0 = false := by decide +kernel

/-! ### Shutter, power, control space -/

def sht (v c : Nat) : State := words on [(shtBase + 0x58, v), (shtBase + 0x40, c)]
theorem witness_Shutter : bit (rd32 (sht 1 0) (shtBase + 0x58)) 0 = true ∧ bit (rd32 (sht 2 2) (shtBase + 0x40)) 1 = true ∧ bit (rd32 (sht 2 2) (shtBase + 0x58)) 1 = true ∧
    bit (rd32 on (shtBase + 0x58)) 0 = false ∧ bit (rd32 (sht 0 0) (shtBase + 0x40)) 1 = false ∧ { on.sht with latch := [3] }.latch.contains 3 = true ∧
    on.sht.latch.contains 3 = false ∧ (sht 1 0).sht.latch = [] ∧ bit (rd32 (sht 8 0) (shtBase + 0x58)) 3 = true ∧ bit (rd32 on (shtBase + 0x58)) 2 = false ∧
    tb on ≤ rd64 on (shtBase + 0x50) ∧ bit (rd32 (sht 4 0) (shtBase + 0x58)) 2 = true ∧ rd64 (sht 4 0) (shtBase + 0x68) ≤ tb (sht 4 0) := by decide +kernel
/-- A pending instant `p` with a new one `a` at ARM_AT, before either has come. -/
def armed (p a : Nat) : State := wr64 (wr64 (wr32 on (shtBase + 0x58) 4) (shtBase + 0x68) p) (shtBase + 0x50) a
theorem witness_ArmAt : let e := armed 10 5; let l := armed 10 10
    bit (rd32 e (shtBase + 0x58)) 2 = true ∧ tb e ≤ rd64 e (shtBase + 0x50) ∧ rd64 e (shtBase + 0x50) < rd64 e (shtBase + 0x68) ∧ tb e < rd64 e (shtBase + 0x68) ∧
    bit (rd32 l (shtBase + 0x58)) 2 = true ∧ tb l ≤ rd64 l (shtBase + 0x50) ∧ rd64 l (shtBase + 0x68) ≤ rd64 l (shtBase + 0x50) ∧
    (blockCopies 19)[35]? = some (fabBase + 0x390, 8) ∧ rdBits on (mgtBase + 0x408) 0 3 ≠ 3 ∧ on.sht.freeze < 256 ∧ { on.sht with latch := [3] }.latch ≠ [] := by
  decide +kernel
/-- The earlier of two instants stands and the other is counted (log entry 125). -/
theorem test_arm_at : (match exec .armAt (armed 10 5) with | .next t => (rd64 t (shtBase + 0x68), rd64 t (shtBase + 0x70)) | _ => (0, 0)) = (5, 1) := by decide +kernel
theorem witness_ShutterLate : let s := { on with pow := { on.pow with tbAcc := 2 ^ 32 } }
    rd64 s (shtBase + 0x50) < tb s ∧ bit (rd32 s (shtBase + 0x58)) 3 = false := by decide +kernel

/-- The device in a power state, with its reset filter. -/
def power (st : PState) (f : Nat) (x : Bool := false) : State := { State.reset with pow := { State.reset.pow with st := st, filter := f, internalHold := x } }
theorem witness_RstN : (power .active 0).pow.st ≠ .off ∧ (power .active 0).pow.st ≠ .reset ∧ (power .active 0).pow.filter + 1 < 500 ∧ 500 ≤ (power .active 499).pow.filter + 1 ∧
    State.reset.pow.st = .reset ∧ 1 < State.reset.pow.filter ∧ (power .reset 1).pow.filter ≤ 1 ∧ (power .reset 1).pow.internalHold = false ∧
    tooHot (power .reset 1).pow.temps = false ∧ (power .reset 0 true).pow.internalHold = true ∧
    (let s := wr32 { power .reset 0 with pow := { (power .reset 0).pow with temps := [480] } } (clkBase + 0x50) 2; rd32 s (clkBase + 0x50) = 2 ∧ tooHot s.pow.temps = true) ∧
    (power .off 0).pow.st = .off ∧ mgmtOn State.reset = false := by decide +kernel
theorem witness_Standby : recovery on = false ∧ on.pow.st = .active ∧ powerBusy on = false ∧ powerBusy (inLoad 1) = true ∧ (power .entering 0).pow.st = .entering ∧
    (power .entering 0).pow.drain ≤ tb (power .entering 0) ∧ runningTasks (power .entering 0) = [] ∧ (power .standby 0).pow.st = .standby ∧
    bistDone (wr32 (power .leaving 0) (repBase + 0x40) 1) = true ∧ bistDone (power .leaving 0) = false := by decide +kernel
theorem witness_StandbyDrains : let s := { seq 1 with pow := { (seq 1).pow with st := .entering, drain := 1 } }
    s.pow.st = .entering ∧ tb s < s.pow.drain ∧ runningTasks s ≠ [] := by decide +kernel
theorem witness_Thermal : mgmtOn on = true ∧ tooHot (List.replicate 32 160) = false ∧ tooHot (480 :: List.replicate 31 160) = true := by decide +kernel
/-- A C-die sensor is too hot at 120 °C, an HBM or L-die sensor at 105 °C (R482). -/
theorem test_too_hot : tooHot (List.replicate 16 479) = false ∧ tooHot (List.replicate 16 0 ++ [420]) = true ∧ tooHot (List.replicate 16 0 ++ [419]) = false := by decide +kernel

theorem witness_RegisterWrite : let a := hbmBase 0 + 0x40
    a % 4 = 0 ∧ a + 4 ≤ 0x1000000 ∧ (blockOf a).typ = 0x0A ∧ (rowAt a).isSome = true ∧ hasCommon (blockOf a) = true ∧ 0x40 ≤ a - (blockOf a).base ∧
    (blockOf (coreBase 0 2)).typ = 0x12 ∧ coreClosed on (blockOf (coreBase 0 2)).inst = true := by decide +kernel
theorem witness_LowHalf : let a := mgtBase + 0x420
    (rowAt a).any (fun x => x.1.size = 8 && x.2 = 0 && x.1.rc = 0) = true ∧ rowAt (a + 4) = (rowAt a).map (fun x => (x.1, 4)) ∧ claimAt a = none ∧
    SMap.get (0, 0, 0) (setLatch on 0 (a + 4) ((blockOf (a + 4)).base, a + 4, 9)).latch (latchKey 0 (a + 4)) = ((blockOf (a + 4)).base, a + 4, 9) := by decide +kernel
theorem witness_RcHalves : let a := mgtBase + 0x5D8
    (rowAt a).any (fun x => x.1.size = 8 && x.2 = 0 && x.1.rc = 2 ^ 64 - 1) = true ∧ rowAt (a + 4) = (rowAt a).map (fun x => (x.1, 4)) ∧ claimAt a = none ∧ claimAt (a + 4) = none ∧
    blockOf (a + 4) = blockOf a ∧ SMap.get (0, 0, 0) on.latch (latchKey 0 a) = (0, 0, 0) := by decide +kernel
/-- A unit of four payload bytes whose CRC field is 0. -/
theorem witness_UnitCrc : let bs : List Byte := beBytes 2 0xB7E5 ++ [0, 0] ++ beBytes 4 4 ++ [1, 2, 3, 4] ++ beBytes 4 0; let c := crc32c (bs.take 12)
    beAt bs 4 4 = 4 ∧ 12 + 4 ≤ bs.length ∧ beAt bs 0 2 = 0xB7E5 ∧
    (bs.drop 12).take 4 ≠ [c.extractLsb' 24 8, c.extractLsb' 16 8, c.extractLsb' 8 8, c.extractLsb' 0 8] := by decide +kernel
/-- Reading the low half of MGT_CSTMO clears the whole register and keeps the high half for the reader (R507). -/
theorem test_rc : (match exec (.lowHalfRead 0 (mgtBase + 0x5D8)) (wr64 on (mgtBase + 0x5D8) (7 * 2 ^ 32 + 5)) with
    | .next t => (rd64 t (mgtBase + 0x5D8), (read32 t 0 (mgtBase + 0x5DC)).1) | _ => (1, 1)) = (0, 7) := by decide +kernel
/-- A corrected error journals nothing; a failed column of the self-test is journalled with its spare (R447). -/
theorem test_bist_journals : (match exec (.bistEnd [col]) on with | .next t => t.flash.journal.map (fun j => (j.loc, j.spare, j.applied)) | _ => []) =
    [(col, 2 ^ 28 + 128, true)] := by decide +kernel

/-! ### The spec's worked numeric examples -/

/-- "Integer output with saturate and wrap" (02_numerics). -/
theorem test_integer_output : let c (sat : Bool) : ConvWord := { outFmt := 2, clipEn := false, clipLo := 0, clipHi := 0, act := 1, sat, inf := true }
    convertInt (c true) ⟨19661, ofSigned 32 (-60), 20⟩ 11036 = (127, fIntSat) ∧
    convertInt (c false) ⟨19661, ofSigned 32 (-60), 20⟩ 11036 = (-109, fIntWrap) := by decide +kernel
/-- "One FP8 group with truncation" (02_numerics). -/
theorem test_fp8_group : let acc := (chainStep (pathOf 9 9) .zero 36865 1).1;
    (groupOf 16 ([(0x3C, 0x42), (0xB6, 0x44), (1, 0x13), (0x81, 0x0D)].map (fun x => (fpDecode 9 x.1, fpDecode 9 x.2)))).1 = (36865, 1) ∧
    fpEncode 11 true (convertFpSteps 32 ⟨11, false, 0, 0, 0, true, true⟩ ⟨0x3F800000, 0, 0⟩ acc).1 = (0x3C80, 0) := by decide +kernel
/-- Flags of four FP32 products. -/
def fp32Group (l : List (Nat × Nat)) : Fp × NumFlags := finalValue .zero (groupOf 56 (l.map (fun x => (fpDecode 13 x.1, fpDecode 13 x.2)))).2
/-- "Overflowed product, NaN and ordinary terms" and its variants (02_numerics). -/
theorem test_nan_and_overflow :
    (let v := fp32Group [(0x7F000000, 0x41000000), (0x7FA00000, 0x3F800000), (0x40400000, 0x3F800000), (0xBF800000, 0x40000000)];
      (fpEncode 13 true v.1).1 = 0x7FC00000 ∧ (fpEncode 9 true v.1).1 = 0x7F ∧ v.2 = 5) ∧
    (let v := fp32Group [(0x7F000000, 0x41000000), (0x3F800000, 0x3F800000), (0x40400000, 0x3F800000), (0xBF800000, 0x40000000)];
      (fpEncode 13 false v.1).1 = 0x7F800000 ∧ fpEncode 9 true v.1 = (0x7E, 0x10) ∧ v.2 = 4) ∧
    (let v := fp32Group [(0x7F000000, 0x41000000), (0x3F800000, 0x3F800000), (0x40400000, 0x3F800000), (0xFF000000, 0x40000000)];
      (fpEncode 13 false v.1).1 = 0x7FC00000 ∧ v.2 = 6) := by decide +kernel
/-- "Two tiles with a correction" (05_vector_unit). -/
theorem test_soft_maximum : softmaxQ ((List.range 256).map (fun i => if i = 0 then (65536, [1000]) else if i = 1 then (0, [-200])
    else if i = 128 then (163840, [300]) else (maskScore, [0]))) 1 128 4 = [(6463, 0)] := by decide +kernel
/-- STEP[0] and STEP[8] (R183). -/
theorem test_step_table : stepOf 0 = 65536 ∧ stepOf 8 = 131072 := by decide +kernel
/-- Two stages of "Two stages with a tie" (08_audio_coding); entries of stage 1 that the example leaves out score above. -/
theorem test_two_stages : let cbs : List (List (List Int)) := [[[96, -48, 16, 0], [104, -52, 24, 0], [0, 0, 0, 0], [-100, 50, -20, 0]],
      List.replicate 700 [0, 0, 0, 0] ++ [[4, 0, 4, 0], [3, -2, 3, 0]]]
    rvqEncode cbs [100, -50, 20, 0] = [0, 701] ∧ rvqDecode 4 cbs [0, 701] = [99, -50, 19, 0] ∧ [0, 701].map indexSymbols = [(0, 0), (5, 61)] := by
  decide +kernel
theorem log2q_of {x l : Nat} (h0 : x ^ 131072 ≠ 0) (h : 2 ^ l ≤ x ^ 131072 ∧ x ^ 131072 < 2 ^ (l + 1)) : log2q x 0 = ((l + 1) / 2 : Nat) := by
  unfold log2q
  rw [(Nat.log2_eq_iff h0).mpr h]
  simp
/-- The logarithm of row 0 of "one 1920 × 1080 predicted frame" (07_video_coding). -/
theorem test_log2q : log2q 40960 0 = 1004138 := (log2q_of (l := 2008275) (by decide +kernel) (by decide +kernel)).trans (by decide)

end Sys2Proof.Tests
end

section
/-! SUPPORT. The control space's accesses, each said once: a 4-byte write of a block that gives it no effect of its own, and the reads of the
two halves of a 64-bit register. -/

namespace Sys2Proof.Machine

/-! ### Writes by the access codes (R6, R495) -/

/-- A word after a write by the access codes of its register: RW bits take the value, then W1C bits clear and W1S bits set (R6). -/
def codedWord (r : RegRow) (d old v : Nat) : Nat :=
  (((old &&& (maskWord r.rw d ^^^ (2 ^ 32 - 1))) ||| (v &&& maskWord r.rw d)) &&& ((v &&& maskWord r.w1c d) ^^^ (2 ^ 32 - 1))) |||
    (v &&& maskWord r.w1s d)

/-- Above the common registers a register's word takes the value by its codes. -/
theorem writeCodes_of_row {s : State} {a d : Nat} {r : RegRow} (v : Nat) (hc : hasCommon (blockOf a) = true → 0x40 ≤ a - (blockOf a).base)
    (hr : rowAt a = some (r, d)) : writeCodes s a v = wr32 s a (codedWord r d (rd32 s a) v) := by
  have hn : ¬ (hasCommon (blockOf a) && decide (a - (blockOf a).base < 0x40)) = true := by
    simpa using hc
  simp only [writeCodes, if_neg hn, hr, codedWord]

theorem heldBlock_iff (s : State) (a : Nat) : heldBlock s a = true ↔
    0x10 ≤ (blockOf a).typ ∧ (blockOf a).typ ≤ 0x16 ∧ coreClosed s (blockOf a).inst = true := by
  simp [heldBlock, and_assoc]

/-- A latch gates no block. -/
@[simp] theorem heldBlock_setLatch (s : State) (q b : Nat) (x : Nat × Nat × Nat) (a : Nat) : heldBlock (setLatch s q b x) a = heldBlock s a := rfl

/-- A block without a write of its own follows the access codes, unless its core is closed. -/
theorem write32_of_plain_block (s : State) (sess : Nat) {a : Nat} (v : Nat) (ht : (blockOf a).typ ∉ [1, 2, 3, 4, 5, 6, 8, 9, 0xC, 0xE])
    (hd : ¬ ((blockOf a).typ = 0x16 ∧ a - (blockOf a).base = 0x180)) :
    write32 s sess a v = if heldBlock s a then s else writeCodes s a v := by
  unfold write32
  dsimp only
  split
  case h_11 => rw [if_neg hd]
  all_goals (rename_i he; simp [he] at ht)

/-- REGISTER_WRITE of an aligned word ends the processor's latch on the block and writes the word. -/
theorem exec_registerWrite_word {s : State} {a : Nat} (v : W64) (hm : mgmtOn s = true) (ha : a % 4 = 0) (hl : a + 4 ≤ 0x1000000) :
    exec (.registerWrite a v 4) s = .next (write32 (setLatch s 0 a (0, 0, 0)) 0 a (v.toNat % 2 ^ 32)) := by
  show execRegisterWrite a v 4 s = _
  simp [execRegisterWrite, writeReg, hm, ha, hl]

/-! ### Reads of 64-bit registers (R6, R494, R507) -/

/-- A register without RC bits keeps its word when it is read. -/
theorem clearRC_of_rc_zero {a d : Nat} {r : RegRow} (s : State) (hr : rowAt a = some (r, d)) (h0 : r.rc = 0) : clearRC s a = s := by
  simp [clearRC, hr, h0, maskWord, bits]

/-- A read of either half of a 64-bit register clears the RC bits of both. -/
theorem readPlain_of_row64 {a d : Nat} {r : RegRow} (s : State) (hc : claimAt a = none) (hr : rowAt a = some (r, d)) (h8 : r.size = 8) :
    readPlain s a = (viewWord s a, clearRC (clearRC s (a - d)) (a - d + 4)) := by
  simp only [readPlain, hc, hr, if_pos h8]

/-- A read of a low half latches the high half as it stood before the read. -/
theorem read32_low_half {a : Nat} {r : RegRow} (s : State) (q : Nat) (hr : rowAt a = some (r, 0)) (h8 : r.size = 8) :
    let u := setLatch s q a (0, 0, 0)
    read32 s q a = ((readPlain u a).1, setLatch (readPlain u a).2 q a ((blockOf a).base, a + 4, viewWord u (a + 4))) := by
  simp [read32, hr, h8]

/-- A read of a latched high half gives what the latch holds and frees it. -/
theorem read32_latched {a h : Nat} {r : RegRow} {s : State} {q : Nat} (hr : rowAt a = some (r, 4)) (h8 : r.size = 8)
    (hl : SMap.get (0, 0, 0) s.latch (latchKey q a) = ((blockOf a).base, a, h)) : read32 s q a = (h, setLatch s q a (0, 0, 0)) := by
  simp [read32, hr, h8, hl]

/-- LOW_HALF_READ of an aligned word is that requester's read. -/
theorem exec_lowHalfRead {s : State} {q a : Nat} (hm : mgmtOn s = true) (hq : q < 12) (ha : a % 4 = 0) (hl : a < 0x1000000) :
    exec (.lowHalfRead q a) s = .next (read32 s q a).2 := by
  show execLowHalfRead q a s = _
  simp [execLowHalfRead, hm, hq, ha, hl]

/-- Settles O58: a plain block's write is `codedWord` of its word or, in a closed core, nothing; a low half leaves its high half in the latch,
which answers the next read of that half. -/
theorem controlSpaceAccessesFollowTheCodes : Obligations.ControlSpaceAccessesFollowTheCodes := by
  unfold Obligations.ControlSpaceAccessesFollowTheCodes
  refine ⟨?_, ?_⟩
  · rintro a v w b s hm ha hl rfl rfl ht hd
    rw [exec_registerWrite_word v hm ha hl, write32_of_plain_block _ 0 _ ht hd, heldBlock_setLatch]
    refine ⟨fun r d hopen hr hc => ?_, fun h1 h2 hclosed => ?_⟩
    · rw [if_neg (mt (heldBlock_iff s a).mp hopen), writeCodes_of_row _ hc hr, rd32_setLatch]
      refine ⟨_, rfl, ?_, fun x hx => ?_, rfl⟩
      · rw [rd32_wr32_self]; rfl
      · rw [rd32_wr32_ne _ _ _ _ hx, rd32_setLatch]
    · rw [if_pos ((heldBlock_iff s a).mpr ⟨h1, h2, hclosed⟩)]
  · rintro q a r s hm hq ha hl h8
    rw [exec_lowHalfRead hm hq ha hl]
    refine ⟨?_, fun h hr hlatch => ?_⟩
    · rintro u hlo hhi hclaim h0 rfl
      rw [read32_low_half s q hlo h8, readPlain_of_row64 _ hclaim hlo h8, Nat.sub_zero, clearRC_of_rc_zero _ hlo h0, clearRC_of_rc_zero _ hhi h0]
    · rw [read32_latched hr h8 hlatch]
      exact ⟨rfl, rfl⟩

end Sys2Proof.Machine
end

section
/-! SUPPORT. Combine slots: what CSLOT leaves in the core and in the control words, and what a record that a slot takes does to the slot and
to the bank. -/

namespace Sys2Proof.Machine

/-! ### Keys -/

/-- A dropped key reads as an unlisted one. -/
theorem SMap.get_drop {β : Type} (d : β) (p : Nat → Bool) (m : SMap β) (k : Nat) :
    SMap.get d (SMap.drop p m) k = if p k = true then d else SMap.get d m k := by
  induction m with
  | nil => simp [SMap.drop]
  | cons q m ih =>
    obtain ⟨a, v⟩ := q
    by_cases hp : p a = true <;> by_cases hk : a = k
    · subst hk; simp [SMap.drop, hp, ih]
    · simp [SMap.drop, hp, ih, SMap.get, hk]
    · subst hk; simp [SMap.drop, hp, SMap.get]
    · simp [SMap.drop, hp, ih, SMap.get, hk]

theorem mem_range' {g a n : Nat} : g ∈ range' a n ↔ a ≤ g ∧ g < a + n := by
  induction n generalizing a with
  | zero => simp [range']
  | succ n ih => simp only [range', List.mem_cons, ih]; omega

/-- Is `k` the key of an entry in the slot's region of its home bank (R74)? -/
def CSlot.covers (sl : CSlot) (k : Nat) : Bool :=
  (sl.array * 2 + sl.bank) * 256 + sl.row0 ≤ k / 256 && k / 256 < (sl.array * 2 + sl.bank) * 256 + sl.row0 + sl.rows && k % 256 < sl.cols

/-- A slot covers the keys of its rows and columns, of which there are at most 256. -/
theorem CSlot.covers_iff {sl : CSlot} (hc : sl.cols ≤ 256) (k : Nat) :
    sl.covers k = true ↔ ∃ i j, i < sl.rows ∧ j < sl.cols ∧ k = bankKey sl.array sl.bank (sl.row0 + i) j := by
  simp only [CSlot.covers, bankKey, Bool.and_eq_true, decide_eq_true_eq]
  constructor
  · rintro ⟨⟨hlo, hhi⟩, hcol⟩
    exact ⟨k / 256 - ((sl.array * 2 + sl.bank) * 256 + sl.row0), k % 256, by omega, hcol, by omega⟩
  · rintro ⟨i, j, hi, hj, rfl⟩
    omega

theorem openedSlot_cols_le (c : Nat) (w : W128) : (openedSlot c w).cols ≤ 256 := by
  have : bits w.toNat 68 8 < 2 ^ 8 := Nat.mod_lt _ (by decide)
  show bits w.toNat 68 8 + 1 ≤ 256
  omega

/-! ### CSLOT (R74) -/

/-- A context that can issue has read its word, so it fails no fetch. -/
theorem notIssued_of_canIssue {s : State} {n c op : Nat} {w : W128} (h : canIssue s n c w op = true) (h0 : op ≠ 0) : notIssued s n c = s := by
  simp only [canIssue, Bool.and_eq_true, decide_eq_true_eq] at h
  obtain ⟨⟨⟨-, hop⟩, hw⟩, -⟩ := h
  unfold notIssued
  unfold programWord at hw
  cases hf : fetchWord s n c with
  | ok x => rfl
  | error a =>
    rw [hf] at hw
    have h00 : bits 0 0 8 = 0 := by decide
    exact absurd (hop.symm.trans ((congrArg (bits · 0 8) hw.symm).trans h00)) h0

/-- BANKV alone changes. -/
theorem setBankV_frame (s : State) (n l b : Nat) (v : Bool) : (setBankV s n l b v).cores = s.cores ∧ (setBankV s n l b v).mem = s.mem ∧
    ∀ a, a ≠ coreBase n 1 + 0x60 → rd32 (setBankV s n l b v) a = rd32 s a := by
  unfold setBankV
  induction range' l (gangArrays s n) generalizing s with
  | nil => exact ⟨rfl, rfl, fun _ _ => rfl⟩
  | cons i is ih =>
    obtain ⟨hcores, hmem, hword⟩ := ih (wrBits s (coreBase n 1 + 0x60) (8 + 2 * i + b) 1 v.toNat)
    exact ⟨hcores.trans (wrBits_cores _ _ _ _ _), hmem.trans (wrBits_mem _ _ _ _ _),
      fun a ha => (hword a ha).trans (by rw [rd32_wrBits, if_neg ha])⟩

theorem useRegion_mem (s : State) (n c l b row0 rows : Nat) : (useRegion s n c l b row0 rows).mem = s.mem :=
  (setBankV_frame _ _ _ _ _).2.1.trans (setCtx_mem _ _ _ _)

/-- Using a region leaves the arrays. -/
theorem useRegion_core_arr (s : State) (n c l b row0 rows : Nat) : (core (useRegion s n c l b row0 rows) n).arr = (core s n).arr := by
  unfold useRegion
  rw [core_of_cores _ _ (setBankV_frame _ _ _ _ _).1]
  unfold setCtx
  rw [core_setCore_self]

/-- Using a region touches no PC: BANKV lies in the arrays' block. -/
theorem pcOf_useRegion (s : State) (n c l b row0 rows : Nat) {d : Nat} (hd : d < 8) : pcOf (useRegion s n c l b row0 rows) n d = pcOf s n d := by
  apply pcOf_of_word
  unfold useRegion
  rw [(setBankV_frame _ _ _ _ _).2.2 _ (by unfold coreBase; omega), rd32_setCtx]

/-- The count of open slots lies in the arrays' block, so no PC moves with it. -/
theorem pcOf_setSlots (s : State) (n : Nat) (l : List CSlot) {d : Nat} (hd : d < 8) : pcOf (setSlots s n l) n d = pcOf s n d := by
  apply pcOf_of_word
  unfold setSlots
  rw [rd32_wrBits, if_neg (by unfold coreBase; omega), rd32_setCore]

/-- Empties the slot's region of its home bank (R41). -/
def emptyHome (s : State) (n : Nat) (sl : CSlot) : State :=
  setCore s n { core s n with arr := { (core s n).arr with bank := SMap.drop sl.covers (core s n).arr.bank } }

/-- The state that a CSLOT leaves: the region is empty and the context's, the context has moved on, and the slot is the last one open. -/
def slotOpened (s : State) (n c : Nat) (sl : CSlot) : State :=
  setSlots (nextPc (useRegion (emptyHome s n sl) n c sl.array sl.bank sl.row0 sl.rows) n c) n ((core s n).arr.slots ++ [sl])

theorem exec_cslot_of_open {s : State} {n c : Nat} {w : W128} (h : canIssue s n c w 0x13 = true)
    (hw : slotWaits s n (openedSlot c w) = false) : exec (.cslot n c w) s = .next (slotOpened s n c (openedSlot c w)) := by
  have hslots : (core (useRegion (emptyHome s n (openedSlot c w)) n c (openedSlot c w).array (openedSlot c w).bank (openedSlot c w).row0
      (openedSlot c w).rows) n).arr.slots = (core s n).arr.slots := by
    rw [useRegion_core_arr, emptyHome, core_setCore_self]
  show execCslot n c w s = _
  unfold execCslot slotOpened
  dsimp only
  rw [if_neg (by simp [h, hw])]
  exact congrArg (fun l => Host.Outcome.next (setSlots _ n (l ++ [openedSlot c w]))) hslots

theorem exec_cslot_of_wait {s : State} {n c : Nat} {w : W128} (h : canIssue s n c w 0x13 = true)
    (hw : slotWaits s n (openedSlot c w) = true) : exec (.cslot n c w) s = .next s := by
  show execCslot n c w s = _
  unfold execCslot
  dsimp only
  rw [if_pos (by simp [hw]), notIssued_of_canIssue h (by decide)]

theorem slotWaits_iff (s : State) (n : Nat) (sl : CSlot) :
    slotWaits s n sl = true ↔ 256 ≤ (core s n).arr.slots.length ∨ slotHazard s n sl = true := by
  simp [slotWaits]

/-- The arrays after a CSLOT: the region's entries are gone, and the slot is open. -/
theorem slotOpened_core_arr (s : State) (n c : Nat) (sl : CSlot) : (core (slotOpened s n c sl) n).arr =
    { (core s n).arr with bank := SMap.drop sl.covers (core s n).arr.bank, slots := (core s n).arr.slots ++ [sl] } := by
  rw [slotOpened, setSlots_core_arr, nextPc_core, useRegion_core_arr, emptyHome, core_setCore_self]

theorem slotOpened_mem (s : State) (n c : Nat) (sl : CSlot) : (slotOpened s n c sl).mem = s.mem := by
  rw [slotOpened, setSlots_mem, nextPc_mem, useRegion_mem, emptyHome, setCore_mem]

theorem pcOf_slotOpened (s : State) (n c : Nat) (sl : CSlot) (hc : c < 8) : pcOf (slotOpened s n c sl) n c = (pcOf s n c + 1) % 2 ^ 14 := by
  rw [slotOpened, pcOf_setSlots _ _ _ hc, pcOf_nextPc, pcOf_useRegion _ _ _ _ _ _ _ hc]
  rfl

/-- An entry after a CSLOT: +0 in the slot's region, as it was elsewhere (R41). -/
theorem slotOpened_bank (s : State) (n c : Nat) (sl : CSlot) (k : Nat) : SMap.get {} (core (slotOpened s n c sl) n).arr.bank k =
    if sl.covers k = true then {} else SMap.get {} (core s n).arr.bank k := by
  rw [slotOpened_core_arr, SMap.get_drop]

/-! ### What a slot does with a record (R75, R77) -/

/-- A record is bad outside its slot, of the reserved KIND, with its groups in the wrong order or with a group that has arrived before. -/
theorem recordBad_iff (sl : CSlot) (r : W256) : recordBad sl r = true ↔ sl.rows ≤ rRow r ∨ sl.cols ≤ rCol r ∨ rKind r = 3 ∨ rG1 r < rG0 r ∨
    ∃ g, rG0 r ≤ g ∧ g ≤ rG1 r ∧ SMap.get 0 sl.got (slotPos (rRow r) (rCol r) * 65536 + g) ≠ 0 := by
  have hg (g : Nat) : g ∈ range' (rG0 r) (rG1 r + 1 - rG0 r) ↔ rG0 r ≤ g ∧ g ≤ rG1 r := by rw [mem_range']; omega
  simp only [recordBad, Bool.or_eq_true, decide_eq_true_eq, List.any_eq_true, hg, or_assoc, and_assoc, ge_iff_le]

/-- KIND 0 adds its integer to the entry. -/
theorem takeRecord_of_int {r : W256} (p : Path) (sl : CSlot) (e : Acc) (h : rKind r = 0) :
    (takeRecord p sl r e).1 = { e with sp := e.sp.or (rSpecial r), int := wrap48 (e.int + toSigned 64 (rValue r)) } := by
  simp only [takeRecord, if_pos h]

/-- A chained record that is not its position's next joins the held ones; the entry takes its special values alone. -/
theorem takeRecord_of_held {sl : CSlot} {r : W256} (p : Path) (e : Acc) (h : recordHeld sl r = true) :
    (takeRecord p sl r e).1 = { e with sp := e.sp.or (rSpecial r) } ∧
    (takeRecord p sl r e).2.held = SMap.set 0 sl.held (slotPos (rRow r) (rCol r) * 65536 + rG0 r) r := by
  simp only [recordHeld, Bool.and_eq_true, decide_eq_true_eq] at h
  obtain ⟨hkind, hnext⟩ := h
  simp only [takeRecord, if_neg hkind, if_neg hnext, and_self]

/-- With no held record that is next, none is applied. -/
theorem applyHeld_of_none {sl : CSlot} {pos : Nat} (p : Path) (e : Acc) (h : SMap.get 0 sl.held (pos * 65536 + SMap.get 0 sl.next pos) = 0)
    (fuel : Nat) : applyHeld p sl pos e fuel = (e, sl) := by
  cases fuel with
  | zero => rfl
  | succ fuel => simp only [applyHeld, h, if_true]

/-- A chained record that is next is applied, and its position waits for the group after it. -/
theorem takeRecord_of_next {sl : CSlot} {r : W256} (p : Path) (e : Acc) (hk : rKind r ≠ 0)
    (hn : rG0 r = SMap.get 0 sl.next (slotPos (rRow r) (rCol r)))
    (hh : SMap.get 0 sl.held (slotPos (rRow r) (rCol r) * 65536 + (rG1 r + 1)) = 0) :
    (takeRecord p sl r e).1 = applyRecord p r { e with sp := e.sp.or (rSpecial r) } ∧
    SMap.get 0 (takeRecord p sl r e).2.next (slotPos (rRow r) (rCol r)) = rG1 r + 1 := by
  simp only [takeRecord, if_neg hk, if_pos hn]
  rw [applyHeld_of_none _ _ (by simpa using hh)]
  simp only [SMap.get_set_self, and_self]

/-! ### COMBINE_RECORD (R75, R77) -/

/-- The record `x` has arrived: it is no longer under way. -/
def recordArrived (s : State) (n : Nat) (x : RecFly) : State :=
  setCore s n { core s n with arr := { (core s n).arr with recFly := (core s n).arr.recFly.erase x } }

/-- The slot `sl`, now `sl'`, has taken the record `r`: a held one lies in the holding region, the position's entry is `e`, and a position that
is finished has noted its conditions. -/
def recordTaken (s : State) (n : Nat) (sl sl' : CSlot) (r : W256) (e : Acc) : State :=
  let u := setBankEntry (if recordHeld sl r then holdRecord s n sl r else s) n sl.array sl.bank (sl.row0 + rRow r) (rCol r) e
  if sl'.count (slotPos (rRow r) (rCol r)) ≥ sl'.groups then noteFlags u n sl.ctx false (finalFlags e) else u

/-- The open slots once `sl` is `sl'`: it closes when all its rows are final. -/
def slotsAfter (slots : List CSlot) (sl sl' : CSlot) : List CSlot :=
  if (List.range sl'.rows).all sl'.rowFinal then slots.erase sl else slots.map (fun y => if y = sl then sl' else y)

/-- A held record goes to memory alone. -/
@[simp] theorem holdRecord_cores (s : State) (n : Nat) (sl : CSlot) (r : W256) : (holdRecord s n sl r).cores = s.cores := by
  unfold holdRecord
  split
  · rfl
  · dsimp only
    split
    · exact storePoke_cores _ _ _ _ _
    · rfl

/-- The arrays once a record is taken: one entry of the bank is new. -/
theorem recordTaken_core_arr (s : State) (n : Nat) (sl sl' : CSlot) (r : W256) (e : Acc) : (core (recordTaken s n sl sl' r e) n).arr =
    { (core s n).arr with
      bank := SMap.set {} (core s n).arr.bank (bankKey sl.array sl.bank (sl.row0 + rRow r) (rCol r)) e } := by
  have hhold : core (if recordHeld sl r then holdRecord s n sl r else s) n = core s n := core_of_cores _ _ (by split <;> simp) n
  unfold recordTaken
  dsimp only
  rw [apply_ite (fun t => (core t n).arr), noteFlags_core_arr, ite_self, setBankEntry, core_setCore_self, hhold]

/-- A record that is not held leaves memory. -/
theorem recordTaken_mem {sl : CSlot} {r : W256} (s : State) (n : Nat) (sl' : CSlot) (e : Acc) (h : recordHeld sl r = false) :
    (recordTaken s n sl sl' r e).mem = s.mem := by
  unfold recordTaken
  dsimp only
  rw [apply_ite State.mem, noteFlags_mem, ite_self, setBankEntry, setCore_mem, h]
  rfl

/-- An arrival changes what is under way. -/
theorem recordArrived_core_arr (s : State) (n : Nat) (x : RecFly) :
    (core (recordArrived s n x) n).arr = { (core s n).arr with recFly := (core s n).arr.recFly.erase x } := by
  rw [recordArrived, core_setCore_self]

/-- COMBINE_RECORD of a record that its slot takes. -/
theorem exec_combineRecord_of_taken {s : State} {n : Nat} {r : W256} {x : RecFly} {sl sl' : CSlot} {e : Acc} (hon : codecOn s = true)
    (hx : nextRecord (core s n).arr.recFly r = some x) (hsl : (core s n).arr.slots.find? (fun sl => sl.ctag = rCtag r) = some sl)
    (hbad : recordBad sl r = false)
    (ht : takeRecord (pathNum x.path) sl r (bankEntry s n sl.array sl.bank (sl.row0 + rRow r) (rCol r)) = (e, sl')) :
    exec (.combineRecord n r) s =
      .next (setSlots (recordTaken (recordArrived s n x) n sl sl' r e) n (slotsAfter (core s n).arr.slots sl sl')) := by
  have hslots : (core (recordTaken (recordArrived s n x) n sl sl' r e) n).arr.slots = (core s n).arr.slots := by
    rw [recordTaken_core_arr, recordArrived_core_arr]
  have hfind : (core (recordArrived s n x) n).arr.slots.find? (fun sl => sl.ctag = rCtag r) = some sl := by
    rw [recordArrived_core_arr]; exact hsl
  have htake : takeRecord (pathNum x.path) sl r
      (bankEntry (if recordHeld sl r then holdRecord (recordArrived s n x) n sl r else recordArrived s n x) n sl.array sl.bank
        (sl.row0 + rRow r) (rCol r)) = (e, sl') := by
    rw [← ht, bankEntry, core_of_cores (recordArrived s n x) _ (by split <;> simp), recordArrived_core_arr, bankEntry]
  show execCombineRecord n r s = _
  unfold execCombineRecord
  simp -zeta only [hon, hx, Bool.not_true, Bool.false_eq_true, if_false]
  extract_lets _ _ u
  have hu : u = recordArrived s n x := rfl
  clear_value u
  subst hu
  simp only [hfind, hbad, htake, Bool.false_eq_true, if_false]
  rw [slotsAfter, ← hslots, apply_ite (setSlots (recordTaken (recordArrived s n x) n sl sl' r e) n)]
  rfl

/-- COMBINE_RECORD of a record that meets no slot or that its slot does not take. -/
theorem exec_combineRecord_of_discarded {s : State} {n : Nat} {r : W256} {x : RecFly} (hon : codecOn s = true)
    (hx : nextRecord (core s n).arr.recFly r = some x)
    (hbad : ∀ sl, (core s n).arr.slots.find? (fun sl => sl.ctag = rCtag r) = some sl → recordBad sl r = true) :
    exec (.combineRecord n r) s = .next (discardRecord (recordArrived s n x) n) := by
  have hfind : (core (recordArrived s n x) n).arr.slots = (core s n).arr.slots := by rw [recordArrived_core_arr]
  show execCombineRecord n r s = _
  unfold recordArrived at hfind
  simp only [execCombineRecord, hon, hx, hfind, Bool.not_true, Bool.false_eq_true, if_false]
  cases hsl : (core s n).arr.slots.find? (fun sl => sl.ctag = rCtag r) with
  | none => rfl
  | some sl => simp only [hbad sl hsl, if_true]; rfl

/-- Settles O19: a CSLOT empties exactly the keys that its slot `covers`; a record that is taken writes one entry of the bank, and what it
writes there is said by the `takeRecord_of_` lemmas. -/
theorem combineSlotsTakeRecords : Obligations.CombineSlotsTakeRecords := by
  unfold Obligations.CombineSlotsTakeRecords
  intro n c w r x s
  have covers_iff := CSlot.covers_iff (openedSlot_cols_le c w)
  refine ⟨fun hissue hlen hhaz => ?_, fun hissue hwait => exec_cslot_of_wait hissue ((slotWaits_iff _ _ _).mpr hwait),
    fun hon hx => ⟨fun sl e sl' hsl hbad ht => ?_, fun hbad => ?_⟩, fun sl => recordBad_iff sl r, fun p sl sl' e e' ht => ?_⟩
  · have hopen : slotWaits s n (openedSlot c w) = false := by
      rw [Bool.eq_false_iff, Ne, slotWaits_iff, hhaz]; simpa using hlen
    refine ⟨_, openedSlot c w, exec_cslot_of_open hissue hopen, by rw [slotOpened_core_arr], rfl, rfl, rfl, rfl, rfl, rfl, rfl, rfl, rfl, rfl,
      rfl, rfl, slotOpened_mem _ _ _ _, pcOf_slotOpened _ _ _ _, fun i j hi hj => ?_, fun k hk => ?_⟩
    · rw [bankEntry, slotOpened_bank, if_pos ((covers_iff _).mpr ⟨i, j, hi, hj, rfl⟩)]
    · rw [slotOpened_bank, if_neg fun h => ?_]
      obtain ⟨i, j, hi, hj, e⟩ := (covers_iff k).mp h
      exact hk i j hi hj e
  · have harr : (core (setSlots (recordTaken (recordArrived s n x) n sl sl' r e) n (slotsAfter (core s n).arr.slots sl sl')) n).arr =
        { (core s n).arr with
          recFly := (core s n).arr.recFly.erase x
          bank := SMap.set {} (core s n).arr.bank (bankKey sl.array sl.bank (sl.row0 + rRow r) (rCol r)) e
          slots := slotsAfter (core s n).arr.slots sl sl' } := by
      rw [setSlots_core_arr, recordTaken_core_arr, recordArrived_core_arr]
    refine ⟨_, exec_combineRecord_of_taken hon hx hsl hbad ht, ?_, fun k hk => ?_, by rw [harr], fun hheld => ?_, by rw [harr, slotsAfter],
      fun hheld => ?_⟩
    · rw [bankEntry, harr, SMap.get_set_self]
    · rw [harr, SMap.get_set_ne _ _ _ _ _ hk]
    · rw [setSlots_mem, recordTaken_mem _ _ _ _ hheld, recordArrived, setCore_mem]
    · obtain ⟨hentry, hplace⟩ := takeRecord_of_held (pathNum x.path) (bankEntry s n sl.array sl.bank (sl.row0 + rRow r) (rCol r)) hheld
      rw [ht] at hentry hplace
      exact ⟨hentry, by rw [hplace, SMap.get_set_self]⟩
  · refine exec_combineRecord_of_discarded hon hx fun sl hsl => ?_
    rcases hbad with hnone | ⟨sl', hsl', hbad⟩
    · rw [hnone] at hsl; cases hsl
    · rw [hsl'] at hsl; cases hsl; exact hbad
  · refine ⟨fun hk => ?_, fun hk hn hh => ?_⟩
    · rw [← takeRecord_of_int p sl e hk, ht]
    · simpa only [ht] using takeRecord_of_next p e hk hn hh

end Sys2Proof.Machine
end

section
/-! SUPPORT. The sequencer's own instructions: what NOP, PERIOD, WAIT and SIGNAL leave, and the events that end a held one. -/

namespace Sys2Proof.Machine
open Sys2Proof.Safety

/-! ### PCs and semaphores -/

/-- The semaphores lie above the PCs. -/
theorem semOf_nextPc (s : State) (n i : Nat) {c : Nat} (hc : c < 8) : semOf (nextPc s n c) n i = semOf s n i := by
  unfold semOf rdBits
  rw [rd32_nextPc_ne _ _ _ _ (by omega)]

theorem pcOf_setSem (s : State) (n i v : Nat) {c : Nat} (hc : c < 8) : pcOf (setSem s n i v) n c = pcOf s n c := by
  apply pcOf_of_word
  unfold setSem
  rw [rd32_wr32_ne _ _ _ _ (by omega)]

/-- The next instruction is one word away. -/
theorem onlyWords_nextPc (s : State) (n c : Nat) : OnlyWords [coreBase n 0 + 0x80 + 8 * c] s (nextPc s n c) := onlyWords_wr32 _ _ _

/-! ### NOP and PERIOD (R67, R319) -/

theorem exec_nop_of_issue {s : State} {n c : Nat} {w : W128} (h : canIssue s n c w 0x01 = true) :
    exec (.nop n c w) s = .next (nextPc s n c) := by
  show execNop n c w s = _
  rw [execNop, if_pos h]

theorem exec_period_of_issue {s : State} {n c : Nat} {w : W128} (h : canIssue s n c w 0x04 = true) :
    exec (.period n c w) s = .next (holdCtx s n c .period true) := by
  show execPeriod n c w s = _
  rw [execPeriod, if_pos h]

/-- What a hold leaves in its context. -/
theorem ctxOf_holdCtx (s : State) (n c : Nat) (h : Hold) (b : Bool) : ctxOf (holdCtx s n c h b) n c = { ctxOf s n c with hold := h } := by
  unfold holdCtx setSeqStatus
  rw [ctxOf_wr32, ctxOf_setCtx_self]

/-- SEQ_STATUS of a held context shows it ACTIVE, and WAITING as the hold says (R82). -/
theorem rd32_holdCtx_status (s : State) (n c : Nat) (h : Hold) (b : Bool) : rd32 (holdCtx s n c h b) (coreBase n 0 + 0x40) =
    setBit (setBit (rd32 s (coreBase n 0 + 0x40)) c true) (8 + c) b % 2 ^ 32 := by
  unfold holdCtx setSeqStatus
  rw [rd32_wr32_self, rd32_setCtx]

/-- Settles O11: NOP is `nextPc` and PERIOD is `holdCtx`, whose frames the laws state. -/
theorem nopAndPeriodComplete : Obligations.NopAndPeriodComplete := by
  unfold Obligations.NopAndPeriodComplete
  intro n c w s
  refine ⟨fun h => ?_, fun h => ?_⟩
  · exact ⟨_, exec_nop_of_issue h, pcOf_nextPc s n c, onlyWords_nextPc s n c⟩
  · exact ⟨_, exec_period_of_issue h, ctxOf_holdCtx .., rd32_holdCtx_status .., onlyCtx_holdCtx ..⟩

/-! ### WAIT (R66, R108, R499) -/

section
variable {s : State} {n c : Nat} {w : W128}

theorem exec_wait_of_zero (h : canIssue s n c w 0x02 = true) (h0 : wsValue w = 0) : exec (.wait n c w) s = .next (nextPc s n c) := by
  show execWait n c w s = _
  simp [execWait, h, h0]

theorem exec_wait_of_sem (h : canIssue s n c w 0x02 = true) (h0 : wsValue w ≠ 0) (ht : wsTarget w = 0) : exec (.wait n c w) s = .next
    (if semOf s n (wsSem w) ≥ wsValue w then nextPc (setSem s n (wsSem w) (semOf s n (wsSem w) - wsValue w)) n c
      else holdCtx s n c (.sem (wsSem w) (wsValue w)) true) := by
  show execWait n c w s = _
  simp [execWait, h, h0, ht]

theorem exec_wait_of_counter {bs : List Byte} (h : canIssue s n c w 0x02 = true) (h0 : wsValue w ≠ 0) (ht : wsTarget w = 1)
    (hr : storeRead s n (wsAddr w) 4 = .ok bs) : exec (.wait n c w) s = .next
      (if reached (leNat bs) (wsValue w) then nextPc s n c else holdCtx s n c (.counter (wsAddr w) (wsValue w)) true) := by
  show execWait n c w s = _
  simp [execWait, h, h0, ht, hr]

/-- A counter that cannot be read aborts the task. -/
theorem exec_wait_of_unreadable {a : Abort} (h : canIssue s n c w 0x02 = true) (h0 : wsValue w ≠ 0) (ht : wsTarget w = 1)
    (hr : storeRead s n (wsAddr w) 4 = .error a) : exec (.wait n c w) s = .next (abortTask s n c a.code) := by
  show execWait n c w s = _
  simp [execWait, h, h0, ht, hr, unitAbort]

/-- The comparison of R108 for a VALUE, which has 32 bits. -/
theorem reached_iff (x : Nat) {v : Nat} (hv : v < 2 ^ 32) : reached x v = true ↔ toSigned 32 ((x + (2 ^ 32 - v)) % 2 ^ 32) ≥ 0 := by
  rw [reached, Nat.mod_eq_of_lt hv, decide_eq_true_iff]

theorem exec_waitSatisfied_of_sem {i v : Nat} (hon : codecOn s = true) (hh : (ctxOf s n c).hold = .sem i v) :
    exec (.waitSatisfied n c) s = .next (if semOf s n i ≥ v then resume (setSem s n i (semOf s n i - v)) n c else s) := by
  show execWaitSatisfied n c s = _
  simp [execWaitSatisfied, hon, hh]

theorem exec_waitSatisfied_of_counter {a v : Nat} {bs : List Byte} (hon : codecOn s = true) (hh : (ctxOf s n c).hold = .counter a v)
    (hr : storeRead s n a 4 = .ok bs) : exec (.waitSatisfied n c) s = .next (if reached (leNat bs) v then resume s n c else s) := by
  show execWaitSatisfied n c s = _
  simp [execWaitSatisfied, hon, hh, hr]

end

/-- Releasing a context: nothing holds it, it shows as ACTIVE alone, and it goes on. -/
theorem resume_eq (s : State) (n c : Nat) :
    resume s n c = nextPc (setSeqStatus (setCtx s n c { ctxOf s n c with hold := .none }) n c true false) n c := by
  rw [resume, holdCtx]

theorem resume_hold (s : State) (n c : Nat) : (ctxOf (resume s n c) n c).hold = .none := by
  unfold resume
  rw [ctxOf_of_cores _ _ (nextPc_cores _ _ _), ctxOf_holdCtx]

/-- Settles O12, by the three guards of WAIT in order (VALUE, TARGET, the comparison) and by what holds the context. -/
theorem waitsEndAtTheirTarget : Obligations.WaitsEndAtTheirTarget := by
  unfold Obligations.WaitsEndAtTheirTarget
  refine ⟨fun n c w s hc h => ⟨exec_wait_of_zero h, fun h0 ht hle => ?_, fun h0 ht hlt => ?_⟩,
    fun n c w s h h0 ht => ⟨fun bs hr hge => ?_, fun bs hr hlt => ?_, fun a hr => exec_wait_of_unreadable h h0 ht hr⟩,
    fun n c s hon => ⟨fun i v hh hle => ?_, fun i v hh hlt => ?_, fun a v bs hh hr hyes => ?_, fun a v bs hh hr hno => ?_⟩⟩
  · refine ⟨nextPc (setSem s n (wsSem w) (semOf s n (wsSem w) - wsValue w)) n c, (exec_wait_of_sem h h0 ht).trans (by rw [if_pos hle]), ?_, ?_,
      onlyWords_wr32_wr32 ..⟩
    · rw [semOf_nextPc _ _ _ hc, semOf_setSem, Nat.mod_eq_of_lt (by have := semOf_lt s n (wsSem w); omega)]
    · rw [pcOf_nextPc, pcOf_setSem _ _ _ _ hc]
  · exact ⟨_, (exec_wait_of_sem h h0 ht).trans (by rw [if_neg (Nat.not_le.mpr hlt)]), ctxOf_holdCtx .., onlyCtx_holdCtx ..⟩
  · rw [exec_wait_of_counter h h0 ht hr, if_pos ((reached_iff _ (wsValue_lt w)).mpr hge)]
  · rw [exec_wait_of_counter h h0 ht hr, if_neg (mt (reached_iff _ (wsValue_lt w)).mp (Int.not_le.mpr hlt))]
  · exact ⟨_, (exec_waitSatisfied_of_sem hon hh).trans (by rw [if_pos hle]), resume_hold ..,
      by rw [resume_eq, ctxOf_of_cores s _ (setSem_cores ..)]⟩
  · rw [exec_waitSatisfied_of_sem hon hh, if_neg (Nat.not_le.mpr hlt)]
  · rw [exec_waitSatisfied_of_counter hon hh hr, if_pos hyes, resume_eq]
  · rw [exec_waitSatisfied_of_counter hon hh hr, if_neg (by simp [hno])]

/-! ### SIGNAL (R66, R108, R111, R499) -/

section
variable {s : State} {n c : Nat} {w : W128}

theorem exec_signal_of_zero (h : canIssue s n c w 0x03 = true) (h0 : wsValue w = 0) : exec (.signal n c w) s = .next (nextPc s n c) := by
  show execSignal n c w s = _
  simp [execSignal, h, h0]

theorem exec_signal_of_sem (h : canIssue s n c w 0x03 = true) (h0 : wsValue w ≠ 0) (ht : wsTarget w = 0) :
    exec (.signal n c w) s = .next (semSignal (nextPc s n c) n c (wsSem w) (wsValue w)) := by
  show execSignal n c w s = _
  simp [execSignal, h, h0, ht]

theorem exec_signal_of_counter (h : canIssue s n c w 0x03 = true) (h0 : wsValue w ≠ 0) (ht : wsTarget w = 1) :
    exec (.signal n c w) s = .next (holdCtx s n c (.ready (wsAddr w) (wsValue w)) false) := by
  show execSignal n c w s = _
  simp [execSignal, h, h0, ht]

/-- Below the limit the semaphore gains the value, above it the task is aborted (R66). -/
theorem semSignal_of_le {i v : Nat} (h : semOf s n i + v ≤ 65535) : semSignal s n c i v = setSem s n i (semOf s n i + v) := by
  rw [semSignal, if_neg (Nat.not_lt.mpr h)]
theorem semSignal_of_gt {i v : Nat} (h : 65535 < semOf s n i + v) :
    semSignal s n c i v = abortTask (setSem s n i 65535) n c cSemOverflow := by
  rw [semSignal, if_pos h]

theorem exec_readyCounterAdvance_of_work {a v : Nat} (hon : codecOn s = true) (hh : (ctxOf s n c).hold = .ready a v)
    (hw : hasWork s n c = true) : exec (.readyCounterAdvance n c) s = .next s := by
  show execReadyCounterAdvance n c s = _
  simp [execReadyCounterAdvance, hon, hh, hw]

/-- The counter's value before the task's first advance is kept (R111). -/
def keepCounter (k v : Nat) (t : Task) : Task :=
  if t.counters.any (fun x => x.1 = k) then t else { t with counters := SMap.insert t.counters k v }

theorem exec_readyCounterAdvance_of_done {a v k : Nat} {bs : List Byte} {u : State} (hon : codecOn s = true)
    (hh : (ctxOf s n c).hold = .ready a v) (hw : hasWork s n c = false) (hr : storeRead s n a 4 = .ok bs)
    (hu : storeWrite s n a (leBytes 4 (leNat bs + v)) = .ok u) (hk : storeKey s n a = some k) :
    exec (.readyCounterAdvance n c) s = .next (resume (updTask u n c (keepCounter k (leNat bs))) n c) := by
  show execReadyCounterAdvance n c s = _
  simp only [execReadyCounterAdvance, hon, hh, hw, hr, hu, hk, Bool.not_true, Bool.false_eq_true, if_false, Option.getD_some]
  rfl

end

theorem leBytes_length (k v : Nat) : (leBytes k v).length = k := by
  induction k generalizing v with
  | zero => rfl
  | succ k ih => simp [leBytes, ih]

/-- Settles O13: SIGNAL is `semSignal` or a hold; the advance of a held counter is one store write, whose frame the laws state. -/
theorem signalsReachTheirCounters : Obligations.SignalsReachTheirCounters := by
  unfold Obligations.SignalsReachTheirCounters
  refine ⟨fun n c w s h => ⟨exec_signal_of_zero h, fun hc h0 ht hle => ?_, fun hc h0 ht hgt => ?_, exec_signal_of_counter h⟩,
    fun n c a v s hon hh => ⟨exec_readyCounterAdvance_of_work hon hh, fun bs u k hw hr hu hk => ?_⟩⟩
  · have hsem : semOf (nextPc s n c) n (wsSem w) = semOf s n (wsSem w) := semOf_nextPc _ _ _ hc
    refine ⟨setSem (nextPc s n c) n (wsSem w) (semOf s n (wsSem w) + wsValue w),
      (exec_signal_of_sem h h0 ht).trans (by rw [semSignal_of_le (by rwa [hsem]), hsem]), ?_, ?_, onlyWords_wr32_wr32' ..⟩
    · rw [semOf_setSem, Nat.mod_eq_of_lt (by omega)]
    · rw [pcOf_setSem _ _ _ _ hc, pcOf_nextPc]
  · rw [exec_signal_of_sem h h0 ht, semSignal_of_gt (by rwa [semOf_nextPc _ _ _ hc])]
  · obtain ⟨-, hhbm, hbytes, -⟩ := storeWrite_frame hu
    have himg : u.img = s.img := by rw [(storeWrite_frame hu).1]; rfl
    refine ⟨_, exec_readyCounterAdvance_of_done hon hh hw hr hu hk, rfl, ?_, ?_, fun j hj => ?_⟩
    · rw [storeRead_congr (s := u) (by simp) (by simp)]
      simpa only [leBytes_length] using storeRead_storeWrite hu (by rw [leBytes_length]; decide)
    · simpa using hhbm
    · rw [resume_mem, updTask_mem]
      exact hbytes j fun i hi => hj i (by rwa [leBytes_length] at hi)

end Sys2Proof.Machine
end

section
/-! SUPPORT. The tensor arrays' shared operations: what they leave of the control words, and that operands are read alike from states that
agree on the image and on memory. -/

namespace Sys2Proof.Safety
open Sys2Proof.Machine

/-! ### Frames of control-space words -/

theorem OnlyWords.refl (ws : List Nat) (s : State) : OnlyWords ws s s := ⟨rfl, fun _ _ => rfl⟩

theorem OnlyWords.trans {ws : List Nat} {s t u : State} (h : OnlyWords ws s t) (k : OnlyWords ws t u) : OnlyWords ws s u := by
  have hctl : t.setCtl u.ctl = s.setCtl u.ctl := by rw [h.1]; rfl
  exact ⟨k.1.trans hctl, fun a ha => (k.2 a ha).trans (h.2 a ha)⟩

theorem OnlyWords.mono {ws vs : List Nat} {s t : State} (h : OnlyWords ws s t) (hsub : ws ⊆ vs) : OnlyWords vs s t :=
  ⟨h.1, fun a ha => h.2 a (fun hw => ha (hsub hw))⟩

theorem OnlyWords.cores {ws : List Nat} {s t : State} (h : OnlyWords ws s t) : t.cores = s.cores := by
  rw [h.1, State.setCtl_cores]

theorem OnlyWords.mem {ws : List Nat} {s t : State} (h : OnlyWords ws s t) : t.mem = s.mem := by
  rw [h.1, State.setCtl_mem]

theorem OnlyWords.img {ws : List Nat} {s t : State} (h : OnlyWords ws s t) : t.img = s.img := by
  rw [h.1, State.setCtl_img]

/-- A fold touches what its steps touch. -/
theorem OnlyWords.foldl {α : Type} {ws : List Nat} {f : State → α → State} (h : ∀ s x, OnlyWords ws s (f s x)) (l : List α) (s : State) :
    OnlyWords ws s (l.foldl f s) := by
  induction l generalizing s with
  | nil => exact OnlyWords.refl ws s
  | cons x l ih => exact (h s x).trans (ih (f s x))

end Sys2Proof.Safety

namespace Sys2Proof.Machine
open Sys2Proof.Safety

/-- BUSY and SHADOW are bits of ARY_STATE (R81). -/
theorem onlyWords_aryState (s : State) (n lo l : Nat) (b : Bool) : OnlyWords [coreBase n 1 + 0x60] s (aryState s n lo l b) :=
  OnlyWords.foldl (fun _ _ => onlyWords_wr32 _ _ _) _ _

/-- A charge is a budget count and ARY_ACTCYC (R79, R81). -/
theorem onlyWords_chargeArray (s : State) (n c arrays cyc : Nat) :
    OnlyWords [budRem (ctxActivity s n c) n, budRem (ctxActivity s n c) n + 4, coreBase n 1 + 0xA0, coreBase n 1 + 0xA0 + 4] s
      (chargeArray s n c arrays cyc) := by
  have hrem : OnlyWords [budRem (ctxActivity s n c) n, budRem (ctxActivity s n c) n + 4] s (charge s (ctxActivity s n c) n (arrays * cyc)) :=
    onlyWords_wr32_wr32' ..
  have hcyc : OnlyWords [coreBase n 1 + 0xA0, coreBase n 1 + 0xA0 + 4] (charge s (ctxActivity s n c) n (arrays * cyc))
      (chargeArray s n c arrays cyc) := onlyWords_wr32_wr32' ..
  exact (hrem.mono (by simp)).trans (hcyc.mono (by simp))

/-! ### Operands -/

section
variable {s t : State} (hi : t.img = s.img) (hm : t.mem = s.mem)
include hi hm

theorem descOf_congr (n i : Nat) : descOf t n i = descOf s n i := by
  unfold descOf descAddr coreCfg
  rw [storeRead_congr hi hm, hi]

theorem readTile_congr (n : Nat) (w : W128) : readTile t n w = readTile s n w := by
  simp only [readTile, descOf_congr hi hm, storeRead_congr hi hm]

end

theorem descOf_nextPc (s : State) (n c i : Nat) : descOf (nextPc s n c) n i = descOf s n i :=
  descOf_congr (nextPc_img _ _ _) (nextPc_mem _ _ _) n i

theorem gangArrays_congr {s t : State} (hi : t.img = s.img) (n : Nat) : gangArrays t n = gangArrays s n := by
  unfold gangArrays coreCfg; rw [hi]

theorem gangCols_congr {s t : State} (hi : t.img = s.img) (n : Nat) : gangCols t n = gangCols s n := by
  unfold gangCols coreCfg; rw [hi]

/-- A gang has at most the columns of two arrays (R58). -/
theorem gangCols_le (s : State) (n : Nat) : gangCols s n ≤ 256 := by
  unfold gangCols; split <;> decide

/-! ### Issue (R65, R79) -/

/-- A free array begins an admitted instruction that it is ready for. -/
theorem arrayIssue_of_free {s : State} {n c op : Nat} {w : W128} {ready : Bool} (hf : UnitFree s n c w op (mArray w))
    (ha : admitted s (ctxActivity s n c) n = true) (hr : ready = true) (run : State → State) :
    arrayIssue s n c w op ready run = run (nextPc s n c) := by
  rw [arrayIssue, hf.2.2, ha, hr]
  exact issue_of_free hf n run

end Sys2Proof.Machine
end

section
/-! SUPPORT. LDW: the tile that it loads, and the parts that the weight chain carries (R68, R72, R292). -/

namespace Sys2Proof.Machine
open Sys2Proof.Safety

/-! ### LDW -/

theorem exec_ldw (n c : Nat) (w : W128) (s : State) :
    exec (.ldw n c w) s = .next (arrayIssue s n c w 0x10 (ldwReady s n w) (ldwRun n c w)) := rfl

theorem exec_ldw_of_free {s : State} {n c : Nat} {w : W128} (hf : UnitFree s n c w 0x10 (mArray w))
    (ha : admitted s (ctxActivity s n c) n = true) (hr : ldwReady s n w = true) :
    exec (.ldw n c w) s = .next (ldwRun n c w (nextPc s n c)) := by
  rw [exec_ldw, arrayIssue_of_free hf ha hr]

section
variable {s : State} {n c : Nat} {w : W128} {tile scales : List Byte}

/-- By SRC and CHAIN_FWD a tile comes from the store, comes from it and is forwarded, or comes from the chain. -/
theorem ldwRun_of_store (hsrc : ldwSrc w = false) (hfwd : ldwFwd w = false) (hr : readTile s n w = .ok (tile, scales)) :
    ldwRun n c w s = ldwFinish s n c w tile scales := by
  simp [ldwRun, hsrc, hfwd, hr]
theorem ldwRun_of_forward (hsrc : ldwSrc w = false) (hfwd : ldwFwd w = true) (hr : readTile s n w = .ok (tile, scales)) :
    ldwRun n c w s = chainOpen s n ⟨c, w, tile, scales, chainParts w tile scales⟩ := by
  simp [ldwRun, hsrc, hfwd, hr]
theorem ldwRun_of_chain (hsrc : ldwSrc w = true) : ldwRun n c w s = chainOpen s n ⟨c, w, [], [], []⟩ := by
  simp [ldwRun, hsrc]

end

theorem setShadow_shadow (s : State) (n l : Nat) (x : Weights) : SMap.get {} (core (setShadow s n l x) n).arr.shadow l = x := by
  unfold setShadow
  rw [core_of_cores _ _ (onlyWords_aryState ..).cores, core_setCore_self, SMap.get_set_self]

theorem setShadow_mem (s : State) (n l : Nat) (x : Weights) : (setShadow s n l x).mem = s.mem := by
  unfold setShadow
  rw [(onlyWords_aryState ..).mem, setCore_mem]

theorem ldwFinish_shadow (s : State) (n c : Nat) (w : W128) (tile scales : List Byte) :
    SMap.get {} (core (ldwFinish s n c w tile scales) n).arr.shadow (mArray w) = tileWeights w tile scales := by
  rw [ldwFinish, core_of_cores _ _ (onlyWords_chargeArray ..).cores, setShadow_shadow]

theorem ldwFinish_mem (s : State) (n c : Nat) (w : W128) (tile scales : List Byte) : (ldwFinish s n c w tile scales).mem = s.mem := by
  rw [ldwFinish, (onlyWords_chargeArray ..).mem, setShadow_mem]

/-! ### The weight chain (R292) -/

/-- The oldest part under way, `p`, takes a place of the chain buffer. -/
def partBuffered (s : State) (n : Nat) (p : ChainPart) (rest : List ChainPart) : State :=
  setCore s n { core s n with arr := { (core s n).arr with chainFly := rest, chainBuf := (core s n).arr.chainBuf ++ [p] } }

section
variable {s : State} {n : Nat} {p : ChainPart} {rest : List ChainPart}

theorem exec_chainPartArrival_of_room (hon : codecOn s = true) (hfly : (core s n).arr.chainFly = p :: rest)
    (hbuf : (core s n).arr.chainBuf.length < 2) :
    exec (.chainPartArrival n) s = .next (chainFeed (chainTake (partBuffered s n p rest) n 3) n) := by
  show execChainPartArrival n s = _
  simp only [execChainPartArrival, hon, hfly, Bool.not_true, Bool.false_eq_true, if_false, ge_iff_le, if_neg (Nat.not_le.mpr hbuf)]
  rfl

theorem exec_chainPartArrival_of_full (hon : codecOn s = true) (hfly : (core s n).arr.chainFly = p :: rest)
    (hbuf : 2 ≤ (core s n).arr.chainBuf.length) : exec (.chainPartArrival n) s = .next s := by
  show execChainPartArrival n s = _
  simp [execChainPartArrival, hon, hfly, hbuf]

/-- Without an LDW at the chain nothing is taken. -/
theorem chainTake_of_none (h : (core s n).arr.chainLoad = none) (fuel : Nat) : chainTake s n fuel = s := by
  cases fuel with
  | zero => rfl
  | succ fuel => simp only [chainTake, h]

theorem chainFeed_of_idle (h : ∀ m, chainPrev s n = some m → (core s m).arr.chainLoad = none) : chainFeed s n = s := by
  unfold chainFeed
  cases hp : chainPrev s n with
  | none => rfl
  | some m => exact chainTake_of_none (h m hp) 3

theorem core_partBuffered_self (s : State) (n : Nat) (p : ChainPart) (rest : List ChainPart) : core (partBuffered s n p rest) n =
    { core s n with arr := { (core s n).arr with chainFly := rest, chainBuf := (core s n).arr.chainBuf ++ [p] } } := by
  rw [partBuffered, core_setCore_self]

theorem core_partBuffered_ne (s : State) {n m : Nat} (p : ChainPart) (rest : List ChainPart) (h : m ≠ n) :
    core (partBuffered s n p rest) m = core s m := by
  rw [partBuffered, core_setCore, if_neg h]

theorem partBuffered_chainLoad (s : State) (n m : Nat) (p : ChainPart) (rest : List ChainPart) :
    (core (partBuffered s n p rest) m).arr.chainLoad = (core s m).arr.chainLoad := by
  by_cases h : m = n
  · rw [h, core_partBuffered_self]
  · rw [core_partBuffered_ne _ _ _ h]

theorem onlyCore_partBuffered (s : State) (n : Nat) (p : ChainPart) (rest : List ChainPart) : OnlyCore n [] s (partBuffered s n p rest) :=
  ⟨rfl, fun _ hm => core_partBuffered_ne _ _ _ hm, fun _ _ => rfl⟩

/-- With no LDW at either end a part only takes its place. -/
theorem exec_chainPartArrival_of_idle (hon : codecOn s = true) (hfly : (core s n).arr.chainFly = p :: rest)
    (hbuf : (core s n).arr.chainBuf.length < 2) (hload : (core s n).arr.chainLoad = none)
    (hprev : ∀ m, chainPrev s n = some m → (core s m).arr.chainLoad = none) :
    exec (.chainPartArrival n) s = .next (partBuffered s n p rest) := by
  rw [exec_chainPartArrival_of_room hon hfly hbuf, chainTake_of_none (by rw [partBuffered_chainLoad, hload])]
  exact congrArg _ (chainFeed_of_idle fun m hm => (partBuffered_chainLoad ..).trans (hprev m hm))

end

/-- Settles O16: a free array runs `ldwRun`, by the source of its tile; an arrival is `partBuffered`, then what the chain's LDWs do. -/
theorem weightsAndChainPartsArrive : Obligations.WeightsAndChainPartsArrive := by
  unfold Obligations.WeightsAndChainPartsArrive
  refine ⟨?_, fun n p rest s hon hfly => ⟨exec_chainPartArrival_of_room hon hfly, fun hbuf hload hprev => ?_,
    exec_chainPartArrival_of_full hon hfly⟩⟩
  · rintro n c w s u rfl
    have htile : readTile (nextPc s n c) n w = readTile s n w := readTile_congr (nextPc_img ..) (nextPc_mem ..) n w
    refine ⟨issuesInOrder_of (exec_ldw n c w s), fun hf ha hr => ⟨fun tile scales hsrc hfwd ht => ?_, fun tile scales hsrc hfwd ht => ?_,
      fun hsrc => ?_, fun _ => rfl⟩⟩
    all_goals rw [exec_ldw_of_free hf ha hr]
    · rw [ldwRun_of_store hsrc hfwd (htile.trans ht)]
      exact ⟨_, rfl, ldwFinish_shadow .., (ldwFinish_mem ..).trans (nextPc_mem ..), by rw [ldwFinish, gangArrays_congr (nextPc_img s n c)]⟩
    · rw [ldwRun_of_forward hsrc hfwd (htile.trans ht)]
    · rw [ldwRun_of_chain hsrc]
  · refine ⟨_, exec_chainPartArrival_of_idle hon hfly hbuf hload hprev, ?_, ?_, onlyCore_partBuffered ..⟩
    all_goals rw [core_partBuffered_self]

end Sys2Proof.Machine
end

section
/-! SUPPORT. DRAIN: its rows converted and written, or the fault that ends it (R71, R77, R503). -/

namespace Sys2Proof.Machine
open Sys2Proof.Safety

theorem exec_drain (n c : Nat) (w : W128) (s : State) :
    exec (.drain n c w) s = .next (arrayIssue s n c w 0x12 (!drainWaits s n w) (drainRun n c w)) := rfl

theorem exec_drain_of_free {s : State} {n c : Nat} {w : W128} (hf : UnitFree s n c w 0x12 (mArray w))
    (ha : admitted s (ctxActivity s n c) n = true) (hw : drainWaits s n w = false) :
    exec (.drain n c w) s = .next (drainRun n c w (nextPc s n c)) := by
  rw [exec_drain, arrayIssue_of_free hf ha (by rw [hw]; rfl)]

/-- A DRAIN whose descriptors and parameters can be read and whose rows can be written. -/
theorem drainRun_of_ok {s u : State} {n d p : Nat} {w : W128} {par : List Byte} {f : NumFlags} (c : Nat) (hd : descOf s n (drDesc w) = .ok d)
    (hp : descOf s n (drPar w) = .ok p) (hpar : storeRead s n (dBase p) (16 + 12 * drCols d (gangCols s n)) = .ok par)
    (hrows : drainRows s n w d par = .ok (u, f)) : drainRun n c w s =
      chargeArray (noteFlags (advPos u n (drDesc w) (drRows w)) n c false f) n c (gangCols u n / 128) (drRows w * drainBeat (drFmt w)) := by
  simp only [drainRun, hd, hp, hpar, hrows, Except.mapError, bind, Except.bind]

theorem drainRun_of_no_desc {s : State} {n : Nat} {w : W128} {a : Abort} (c : Nat) (hd : descOf s n (drDesc w) = .error a) :
    drainRun n c w s = agFault s n c (drDesc w) (mArray w) a := by
  simp only [drainRun, hd, Except.mapError, bind, Except.bind]

/-- Settles O18: a free array runs `drainRun` on the state of its next instruction, where every operand reads as before. -/
theorem drainConvertsAndWrites : Obligations.DrainConvertsAndWrites := by
  unfold Obligations.DrainConvertsAndWrites
  intro n c w d p par u v f s
  refine ⟨issuesInOrder_of (exec_drain n c w s), fun hf ha hw hv => ?_⟩
  subst hv
  rw [exec_drain_of_free hf ha hw]
  refine ⟨fun hd hp hpar hrows => ?_, fun a hd => ?_⟩
  · rw [drainRun_of_ok c ((descOf_nextPc ..).trans hd) ((descOf_nextPc ..).trans hp) ?_ hrows]
    rw [storeRead_congr (nextPc_img ..) (nextPc_mem ..), gangCols_congr (nextPc_img ..), hpar]
  · rw [drainRun_of_no_desc c ((descOf_nextPc ..).trans hd)]

end Sys2Proof.Machine
end

section
/-! SUPPORT. MMA: the rows that a pass streams into a bank, the records that it sends, and what its bookkeeping leaves (R70, R73). -/

namespace Sys2Proof.Machine
open Sys2Proof.Safety

/-! ### Consecutive values of a sparse map -/

theorem SMap.get_setAll_outside {β : Type} [DecidableEq β] (d : β) (vs : List β) (m : SMap β) (k j : Nat) (h : j < k ∨ k + vs.length ≤ j) :
    SMap.get d (SMap.setAll d m k vs) j = SMap.get d m j := by
  induction vs generalizing m k with
  | nil => rfl
  | cons v vs ih =>
    rw [List.length_cons] at h
    rw [SMap.setAll, ih _ _ (by omega), SMap.get_set_ne _ _ _ _ _ (by omega)]

theorem SMap.get_setAll {β : Type} [DecidableEq β] (d : β) (vs : List β) (m : SMap β) (k i : Nat) (h : i < vs.length) :
    SMap.get d (SMap.setAll d m k vs) (k + i) = vs[i] := by
  induction vs generalizing m k i with
  | nil => cases h
  | cons v vs ih =>
    rw [SMap.setAll]
    cases i with
    | zero =>
      show SMap.get d (SMap.setAll d (SMap.set d m k v) (k + 1) vs) k = v
      rw [SMap.get_setAll_outside _ _ _ _ _ (.inl (Nat.lt_add_one k)), SMap.get_set_self]
    | succ i =>
      have hk : k + (i + 1) = k + 1 + i := by omega
      rw [hk, ih _ _ i (by simpa using h)]
      rfl

/-! ### Rows of a pass -/

/-- Different rows or columns of a bank are different entries: a bank has 256 columns (R64). -/
theorem bankKey_inj {l b r r' j j' : Nat} (hj : j < 256) (hj' : j' < 256) (h : bankKey l b r j = bankKey l b r' j') : r = r' ∧ j = j' := by
  unfold bankKey at h
  omega

/-- The entries of a row lie one after the other. -/
theorem bankKey_eq_add (l b row j : Nat) : bankKey l b row j = bankKey l b row 0 + j := by
  unfold bankKey
  omega

/-- The entries that a pass makes of a row. -/
def passRow (q : Pass) (xs : List (Nat × Nat)) (cols : Nat) (old : Nat → Acc) : List Acc :=
  (List.range cols).map (fun j => q.apply xs cols j (old j))

theorem passRow_length (q : Pass) (xs : List (Nat × Nat)) (cols : Nat) (old : Nat → Acc) : (passRow q xs cols old).length = cols := by
  simp [passRow]

theorem bankEntry_writeRow (s : State) (n l b row : Nat) (es : List Acc) (j : Nat) (hj : j < es.length) :
    bankEntry (writeRow s n l b row es) n l b row j = es[j] := by
  rw [bankEntry, writeRow, core_setCore_self, bankKey_eq_add l b row j, SMap.get_setAll _ _ _ _ _ hj]

/-- A row that is written leaves every other entry. -/
theorem bank_writeRow_ne (s : State) (n l b row : Nat) (es : List Acc) (k : Nat) (hk : ∀ j, j < es.length → k ≠ bankKey l b row j) :
    SMap.get {} (core (writeRow s n l b row es) n).arr.bank k = SMap.get {} (core s n).arr.bank k := by
  rw [writeRow, core_setCore_self, SMap.get_setAll_outside]
  refine Decidable.byContradiction fun hin => ?_
  exact hk (k - bankKey l b row 0) (by omega) (by rw [bankKey_eq_add]; omega)

theorem ctxOf_writeRow (s : State) (n l b row : Nat) (es : List Acc) (c : Nat) : ctxOf (writeRow s n l b row es) n c = ctxOf s n c := by
  rw [ctxOf, writeRow, core_setCore_self]
  rfl

/-- What the entry of row `row` and column `j` is before the pass: +0 for START (R70). -/
def entryBefore (s : State) (n l b row : Nat) (start : Bool) (j : Nat) : Acc := if start then {} else bankEntry s n l b row j

/-- From `s` to `t` the first `rows` rows of a pass have streamed into the bank, each entry by the pass of its column, and nothing else has
changed that a command or a later row reads. -/
structure Streamed (s : State) (n d : Nat) (q : Pass) (l b row0 cols : Nat) (start : Bool) (rows : Nat) (t : State) : Prop where
  ctl : t.ctl = s.ctl
  mem : t.mem = s.mem
  ctx : ∀ c, ctxOf t n c = ctxOf s n c
  entry : ∀ m j xs, m < rows → j < cols → rowElems s n d (dPosCur d + m) q = .ok xs →
    bankEntry t n l b (row0 + m) j = q.apply xs cols j (entryBefore s n l b (row0 + m) start j)
  frame : ∀ k, (∀ m j, m < rows → j < cols → k ≠ bankKey l b (row0 + m) j) →
    SMap.get {} (core t n).arr.bank k = SMap.get {} (core s n).arr.bank k

/-- The next row streams after those before it. -/
theorem Streamed.succ {s t : State} {n d : Nat} {q : Pass} {l b row0 cols rows : Nat} {start : Bool} {xs : List (Nat × Nat)}
    (hcols : cols ≤ 256) (h : Streamed s n d q l b row0 cols start rows t) (hxs : rowElems s n d (dPosCur d + rows) q = .ok xs) :
    Streamed s n d q l b row0 cols start (rows + 1)
      (writeRow t n l b (row0 + rows) (passRow q xs cols (entryBefore t n l b (row0 + rows) start))) where
  ctl := h.ctl
  mem := h.mem
  ctx c := (ctxOf_writeRow ..).trans (h.ctx c)
  entry m j ys hm hj hys := by
    have hfresh : bankEntry t n l b (row0 + rows) j = bankEntry s n l b (row0 + rows) j :=
      h.frame _ fun m' j' hm' hj' e => by
        have := (bankKey_inj (by omega) (by omega) e).1
        omega
    rcases Nat.lt_succ_iff_lt_or_eq.mp hm with hlt | rfl
    · rw [← h.entry m j ys hlt hj hys]
      refine bank_writeRow_ne _ _ _ _ _ _ _ fun j' hj' e => ?_
      rw [passRow_length] at hj'
      have := (bankKey_inj (by omega) (by omega) e).1
      omega
    · obtain rfl : xs = ys := Except.ok.inj (hxs.symm.trans hys)
      rw [bankEntry_writeRow _ _ _ _ _ _ _ (by rwa [passRow_length])]
      simp only [passRow, List.getElem_map, List.getElem_range, entryBefore, hfresh]
  frame k hk := by
    rw [bank_writeRow_ne _ _ _ _ _ _ _ fun j hj => hk rows j (Nat.lt_succ_self _) (by rwa [passRow_length] at hj)]
    exact h.frame k fun m j hm hj => hk m j (Nat.lt_succ_of_lt hm) hj

theorem streamRows_succ {s t : State} {n d : Nat} {q : Pass} {l b row0 cols rows : Nat} {start : Bool} {f : NumFlags} {xs : List (Nat × Nat)}
    (h : streamRows s n d q l b row0 cols start rows = .ok (t, f)) (hxs : rowElems s n d (dPosCur d + rows) q = .ok xs) :
    streamRows s n d q l b row0 cols start (rows + 1) =
      .ok (writeRow t n l b (row0 + rows) (passRow q xs cols (entryBefore t n l b (row0 + rows) start)),
        (List.range cols).foldl (fun f j => f ||| q.flags xs cols j (entryBefore t n l b (row0 + rows) start j)) f) := by
  unfold streamRows at h ⊢
  rw [List.range_succ, List.foldlM_append, h]
  simp only [bind, Except.bind, List.foldlM_cons, List.foldlM_nil, hxs]
  rfl

/-- A pass whose elements can all be read streams its rows. -/
theorem streamRows_of_readable {s : State} {n d : Nat} {q : Pass} {cols : Nat} (l b row0 : Nat) (start : Bool) (hcols : cols ≤ 256) {rows : Nat}
    (hread : ∀ m, m < rows → ∃ xs, rowElems s n d (dPosCur d + m) q = .ok xs) :
    ∃ t f, streamRows s n d q l b row0 cols start rows = .ok (t, f) ∧ Streamed s n d q l b row0 cols start rows t := by
  induction rows with
  | zero => exact ⟨s, 0, rfl, rfl, rfl, fun _ => rfl, fun _ _ _ hm => absurd hm (Nat.not_lt_zero _), fun _ _ => rfl⟩
  | succ rows ih =>
    obtain ⟨t, f, hrun, ht⟩ := ih fun m hm => hread m (Nat.lt_succ_of_lt hm)
    obtain ⟨xs, hxs⟩ := hread rows (Nat.lt_succ_self _)
    exact ⟨_, _, streamRows_succ hrun hxs, ht.succ hcols hxs⟩

/-! ### What the bookkeeping of an MMA leaves -/

/-- From `s` to `t` the bank of core `n`, HBM, the PC of context `c` and the activity of its task are as they were. -/
structure KeepsBank (n c : Nat) (s t : State) : Prop where
  bank : (core t n).arr.bank = (core s n).arr.bank
  hbm : t.mem.hbm = s.mem.hbm
  activity : ctxActivity t n c = ctxActivity s n c
  pc : n < 8 → c < 8 → ctxActivity s n c < 32 → pcOf t n c = pcOf s n c

namespace KeepsBank
variable {n c : Nat} {s t u : State}

theorem refl (n c : Nat) (s : State) : KeepsBank n c s s := ⟨rfl, rfl, rfl, fun _ _ _ => rfl⟩

theorem trans (h : KeepsBank n c s t) (k : KeepsBank n c t u) : KeepsBank n c s u :=
  ⟨k.bank.trans h.bank, k.hbm.trans h.hbm, k.activity.trans h.activity,
    fun hn hc ha => (k.pc hn hc (h.activity ▸ ha)).trans (h.pc hn hc ha)⟩

end KeepsBank

/-- A context's activity is that of its task, or its own without one. -/
theorem ctxActivity_congr {s t : State} {n c : Nat} (ht : (ctxOf t n c).task.map (·.activity) = (ctxOf s n c).task.map (·.activity))
    (ha : (ctxOf t n c).activity = (ctxOf s n c).activity) : ctxActivity t n c = ctxActivity s n c := by
  unfold ctxActivity taskOf
  cases hs : (ctxOf s n c).task <;> cases hu : (ctxOf t n c).task <;> simp_all

section
variable {n c : Nat} {s t : State}

/-- What leaves the cores and HBM, and the PC word, keeps the bank. -/
theorem KeepsBank.of_cores (hcores : t.cores = s.cores) (hhbm : t.mem.hbm = s.mem.hbm)
    (hpc : n < 8 → c < 8 → ctxActivity s n c < 32 → rd32 t (coreBase n 0 + 0x80 + 8 * c) = rd32 s (coreBase n 0 + 0x80 + 8 * c)) :
    KeepsBank n c s t where
  bank := by rw [core_of_cores s t hcores]
  hbm := hhbm
  activity := by apply ctxActivity_congr <;> rw [ctxOf_of_cores s t hcores]
  pc hn hc ha := pcOf_of_word _ _ _ _ (hpc hn hc ha)

/-- So do control words that are not the context's PC. -/
theorem KeepsBank.of_onlyWords {ws : List Nat} (h : OnlyWords ws s t)
    (hpc : n < 8 → c < 8 → ctxActivity s n c < 32 → coreBase n 0 + 0x80 + 8 * c ∉ ws) : KeepsBank n c s t :=
  .of_cores h.cores (by rw [h.mem]) fun hn hc ha => h.2 _ (hpc hn hc ha)

/-- So does a change of the arrays other than their banks. -/
theorem KeepsBank.of_setCore {a : Arrays} (ha : a.bank = (core s n).arr.bank) : KeepsBank n c s (setCore s n { core s n with arr := a }) where
  bank := by rw [core_setCore_self]; exact ha
  hbm := rfl
  activity := by apply ctxActivity_congr <;> (rw [ctxOf, core_setCore_self]; rfl)
  pc _ _ _ := rfl

/-- So does a change of the context that keeps its task's activity. -/
theorem KeepsBank.of_setCtx {x : Ctx} (ht : x.task.map (·.activity) = (ctxOf s n c).task.map (·.activity))
    (ha : x.activity = (ctxOf s n c).activity) : KeepsBank n c s (setCtx s n c x) where
  bank := by rw [setCtx, core_setCore_self]
  hbm := rfl
  activity := by apply ctxActivity_congr <;> rw [ctxOf_setCtx_self] <;> assumption
  pc _ _ _ := rfl

end

theorem storePoke_hbm (s : State) (n a l v : Nat) : (storePoke s n a l v).mem.hbm = s.mem.hbm := by
  unfold storePoke
  split
  · rename_i u h
    exact (storeWrite_frame h).2.1
  · rfl

theorem keepsBank_storePoke (s : State) (n c a l v : Nat) : KeepsBank n c s (storePoke s n a l v) :=
  .of_cores (storePoke_cores ..) (storePoke_hbm ..) fun _ _ _ => rd32_of_ctl (storePoke_ctl ..) _

theorem keepsBank_writeBand (s : State) (n c i d g : Nat) : KeepsBank n c s (writeBand s n i d g) := by
  unfold writeBand
  split
  · exact .refl n c s
  · exact keepsBank_storePoke ..

theorem keepsBank_mmaSwapIn (s : State) (n c : Nat) (w : W128) : KeepsBank n c s (mmaSwapIn s n w) := by
  unfold mmaSwapIn
  split
  · exact .refl n c s
  · refine KeepsBank.trans ?_ (.of_onlyWords (onlyWords_aryState ..) fun _ hc _ => ?_)
    · exact .of_setCore rfl
    · simp only [List.mem_singleton, coreBase]; omega

theorem keepsBank_setBankV (s : State) (n c l b : Nat) (v : Bool) : KeepsBank n c s (setBankV s n l b v) := by
  obtain ⟨hcores, hmem, hword⟩ := setBankV_frame s n l b v
  exact .of_cores hcores (by rw [hmem]) fun _ hc _ => hword _ (by unfold coreBase; omega)

theorem keepsBank_useRegion (s : State) (n c l b row0 rows : Nat) : KeepsBank n c s (useRegion s n c l b row0 rows) := by
  unfold useRegion
  refine KeepsBank.trans ?_ (keepsBank_setBankV ..)
  exact .of_setCtx rfl rfl

theorem keepsBank_noteFlags (s : State) (n c : Nat) (f : NumFlags) : KeepsBank n c s (noteFlags s n c false f) := by
  unfold noteFlags
  split
  · exact .refl n c s
  · refine KeepsBank.trans (.of_onlyWords (onlyWords_wr32 ..) fun _ hc _ => ?_) (.of_setCtx (by rw [Option.map_map]; rfl) rfl)
    simp only [List.mem_singleton, coreBase, Bool.false_eq_true, if_false]
    omega

theorem keepsBank_setNextG (s : State) (n c l b g : Nat) : KeepsBank n c s (setNextG s n l b g) := .of_setCore rfl

/-- The budget counts lie below the cores' blocks. -/
theorem keepsBank_chargeArray (s : State) (n c arrays cyc : Nat) : KeepsBank n c s (chargeArray s n c arrays cyc) :=
  .of_onlyWords (onlyWords_chargeArray ..) fun _ _ _ => by
    simp only [List.mem_cons, List.not_mem_nil, or_false, coreBase, budRem, budBase]
    omega

theorem keepsBank_mmaAfter (s : State) (n c : Nat) (w : W128) (d fmt : Nat) : KeepsBank n c s (mmaAfter s n c w d fmt) := by
  unfold mmaAfter
  refine KeepsBank.trans ?_ (keepsBank_chargeArray ..)
  split
  · exact keepsBank_storePoke ..
  · exact .refl n c s

theorem mmaAfter_cores (s : State) (n c : Nat) (w : W128) (d fmt : Nat) : (mmaAfter s n c w d fmt).cores = s.cores := by
  unfold mmaAfter
  rw [(onlyWords_chargeArray ..).cores]
  split
  · exact storePoke_cores ..
  · rfl

theorem mmaSwapIn_img (s : State) (n : Nat) (w : W128) : (mmaSwapIn s n w).img = s.img := by
  unfold mmaSwapIn
  split
  · rfl
  · exact (onlyWords_aryState ..).img.trans (setCore_img ..)

/-! ### START and CONT (R70) -/

/-- BANK_NEXTG is state of the core. -/
theorem nextG_of_cores {s t : State} (h : t.cores = s.cores) (n l b : Nat) : nextG t n l b = nextG s n l b := by
  rw [nextG, core_of_cores s t h, nextG]

theorem nextG_setNextG (s : State) (n l b g : Nat) : nextG (setNextG s n l b g) n l b = g := by
  rw [nextG, setNextG, core_setCore_self, SMap.get_set_self]

/-- What a START or CONT leaves once its rows have streamed: the region is the context's, the conditions `f` are noted, BANK_NEXTG follows,
and the pass is accounted for. -/
def bankModeEnd (t : State) (n c : Nat) (w : W128) (d : Nat) (q : Pass) (f : NumFlags) : State :=
  mmaAfter (setNextG (noteFlags (useRegion t n c (mArray w) (mmaBank w) (mmaRow0 w) (mmaRows w)) n c false f) n (mArray w) (mmaBank w) q.next)
    n c w d q.wts.fmt

theorem keepsBank_bankModeEnd (t : State) (n c : Nat) (w : W128) (d : Nat) (q : Pass) (f : NumFlags) :
    KeepsBank n c t (bankModeEnd t n c w d q f) :=
  (keepsBank_useRegion ..).trans <| (keepsBank_noteFlags ..).trans <| (keepsBank_setNextG ..).trans (keepsBank_mmaAfter ..)

theorem nextG_bankModeEnd (t : State) (n c : Nat) (w : W128) (d : Nat) (q : Pass) (f : NumFlags) :
    nextG (bankModeEnd t n c w d q f) n (mArray w) (mmaBank w) = q.next := by
  rw [bankModeEnd, nextG_of_cores (mmaAfter_cores ..), nextG_setNextG]

section
variable {n c d : Nat} {w : W128} {s b r : State} {q : Pass}

theorem mmaBankMode_of_streamed {start : Bool} {t : State} {f : NumFlags}
    (hg : start = true ∨ nextG s n (mArray w) (mmaBank w) = mmaGFirst w) (hb : b = mmaSwapIn s n w) (hd : descOf b n (mmaDesc w) = .ok d)
    (hq : q = passOf b n w d (SMap.get {} (core b n).arr.active (mArray w))) (hr : r = writeBand b n (mmaDesc w) d q.firstGroup)
    (hrows : streamRows r n d q (mArray w) (mmaBank w) (mmaRow0 w) (gangCols b n) start (mmaRows w) = .ok (t, f)) :
    mmaBankMode n c w start s = bankModeEnd t n c w d q f := by
  have hguard : ¬ (!start && decide (nextG s n (mArray w) (mmaBank w) ≠ mmaGFirst w)) = true := by
    rcases hg with hg | hg <;> simp [hg]
  subst hb hq hr
  unfold mmaBankMode
  simp only [if_neg hguard, hd, hrows]
  rfl

/-- A CONT out of chain order streams nothing. -/
theorem mmaBankMode_of_order (hg : nextG s n (mArray w) (mmaBank w) ≠ mmaGFirst w) :
    mmaBankMode n c w false s = abortTask (raise s (coreBase n 1) cChainOrder) n c cChainOrder := by
  simp only [mmaBankMode, hg, ne_eq, not_false_eq_true, decide_true, Bool.not_false, Bool.and_self, if_true, unitAbort]

/-! ### EMIT and HEAD (R70, R73, R76) -/

theorem mapM_ok {α β ε : Type} {f : α → Except ε β} {l : List α} (h : ∀ a ∈ l, ∃ y, f a = .ok y) : ∃ ys, l.mapM f = .ok ys := by
  induction l with
  | nil => exact ⟨[], rfl⟩
  | cons a l ih =>
    obtain ⟨y, hy⟩ := h a List.mem_cons_self
    obtain ⟨ys, hys⟩ := ih fun a' ha => h a' (List.mem_cons_of_mem _ ha)
    exact ⟨y :: ys, by rw [List.mapM_cons, hy, hys]; rfl⟩

/-- A pass whose elements can all be read makes its records. -/
theorem emitRecords_of_readable (head : Bool) (hread : ∀ m, m < mmaRows w → ∃ xs, rowElems r n d (dPosCur d + m) q = .ok xs) :
    ∃ rs f, emitRecords r n d q w head = .ok (rs, f) := by
  have hrow : ∀ m ∈ List.range (mmaRows w), ∃ y, (do
      let row ← rowElems r n d (dPosCur d + m) q
      return (emitRow q row head (gangCols r n) (mmaCtag w) (mmaRow0 w + m),
        (List.range (gangCols r n)).foldl (fun f j => f ||| emitFlags q row head (gangCols r n) j) 0) : Except Abort _) = .ok y := by
    intro m hm
    obtain ⟨xs, hxs⟩ := hread m (List.mem_range.mp hm)
    exact ⟨_, by rw [hxs]; rfl⟩
  obtain ⟨ys, hys⟩ := mapM_ok hrow
  dsimp only [emitRecords]
  exact ⟨_, _, by rw [hys]; rfl⟩

theorem mmaSend_of_records {head : Bool} {rs : List W256} {f : NumFlags} (hb : b = mmaSwapIn s n w) (hd : descOf b n (mmaDesc w) = .ok d)
    (hq : q = passOf b n w d (SMap.get {} (core b n).arr.active (mArray w))) (hr : r = writeBand b n (mmaDesc w) d q.firstGroup)
    (hrs : emitRecords r n d q w head = .ok (rs, f)) : mmaSend n c w head s =
      mmaAfter (noteFlags (sendRecords r n q.path (mmaCtag w) rs) n c false f) n c w d q.wts.fmt := by
  subst hb hq hr
  simp only [mmaSend, hd, hrs]

end

/-- Records for a core wait there to arrive; no bank changes (R76). -/
theorem sendRecords_bank (s : State) (n : Nat) (p : Path) {ctag : Nat} (rs : List W256) (h : bit ctag 31 = false) (m : Nat) :
    (core (sendRecords s n p ctag rs) m).arr.bank = (core s m).arr.bank := by
  unfold sendRecords
  rw [if_neg (by simp [h]), core_setCore]
  split
  · rename_i hm; rw [hm]
  · rfl

/-! ### The four modes -/

section
variable {s : State} {n c : Nat} {w : W128}

/-- An MMA of the command's own mode is issued to its array. -/
theorem mmaIssue_of_mode {mode : Nat} (hm : mmaMode w = mode) (run : State → State) :
    mmaIssue n c w mode run s = .next (arrayIssue s n c w 0x11 true run) := by
  rw [mmaIssue, if_neg (by simp [hm])]

theorem mmaIssue_of_free {mode : Nat} (hm : mmaMode w = mode) (hf : UnitFree s n c w 0x11 (mArray w))
    (ha : admitted s (ctxActivity s n c) n = true) (run : State → State) : mmaIssue n c w mode run s = .next (run (nextPc s n c)) := by
  rw [mmaIssue_of_mode hm, arrayIssue_of_free hf ha rfl]

end

section
variable {n c d : Nat} {w : W128} {q : Pass} {s b r : State}
  (hb : b = mmaSwapIn (nextPc s n c) n w) (hd : descOf b n (mmaDesc w) = .ok d)
  (hq : q = passOf b n w d (SMap.get {} (core b n).arr.active (mArray w))) (hr : r = writeBand b n (mmaDesc w) d q.firstGroup)
  (hread : ∀ m, m < mmaRows w → ∃ xs, rowElems r n d (dPosCur d + m) q = .ok xs)
include hb hd hq hr hread

/-- A START, or a CONT in chain order, whose elements can be read: what its rows make of the bank, and what stays. -/
theorem mmaBankMode_streams {start : Bool} (hg : start = true ∨ nextG s n (mArray w) (mmaBank w) = mmaGFirst w) :
    ∃ t, mmaBankMode n c w start (nextPc s n c) = t ∧ nextG t n (mArray w) (mmaBank w) = q.next ∧
      (n < 8 → c < 8 → ctxActivity s n c < 32 → pcOf t n c = (pcOf s n c + 1) % 2 ^ 14) ∧ t.mem.hbm = s.mem.hbm ∧
      (∀ m j xs, m < mmaRows w → j < gangCols s n → rowElems r n d (dPosCur d + m) q = .ok xs →
        bankEntry t n (mArray w) (mmaBank w) (mmaRow0 w + m) j =
          q.apply xs (gangCols s n) j (entryBefore s n (mArray w) (mmaBank w) (mmaRow0 w + m) start j)) ∧
      (∀ k, (∀ m j, m < mmaRows w → j < gangCols s n → k ≠ bankKey (mArray w) (mmaBank w) (mmaRow0 w + m) j) →
        SMap.get {} (core t n).arr.bank k = SMap.get {} (core s n).arr.bank k) := by
  have hcols : gangCols b n = gangCols s n := gangCols_congr (by rw [hb, mmaSwapIn_img, nextPc_img]) n
  obtain ⟨u, f, hrun, hu⟩ := streamRows_of_readable (mArray w) (mmaBank w) (mmaRow0 w) start (gangCols_le s n) hread
  have hbefore : KeepsBank n c (nextPc s n c) r := by
    rw [hr, hb]
    exact (keepsBank_mmaSwapIn ..).trans (keepsBank_writeBand ..)
  have hafter : KeepsBank n c u (bankModeEnd u n c w d q f) := keepsBank_bankModeEnd ..
  have hbank : (core r n).arr.bank = (core s n).arr.bank := hbefore.bank.trans (by rw [core_of_cores s _ (nextPc_cores ..)])
  have hnext : ctxActivity (nextPc s n c) n c = ctxActivity s n c :=
    ctxActivity_congr (by rw [ctxOf_of_cores s _ (nextPc_cores ..)]) (by rw [ctxOf_of_cores s _ (nextPc_cores ..)])
  have hact : ctxActivity u n c = ctxActivity s n c :=
    (ctxActivity_congr (by rw [hu.ctx]) (by rw [hu.ctx])).trans (hbefore.activity.trans hnext)
  refine ⟨_, mmaBankMode_of_streamed ?_ hb hd hq hr (by rw [hcols]; exact hrun), nextG_bankModeEnd .., fun hn hc ha => ?_, ?_,
    fun m j xs hm hj hxs => ?_, fun k hk => ?_⟩
  · rwa [nextG_of_cores (nextPc_cores ..)]
  · rw [hafter.pc hn hc (by rwa [hact]), pcOf_of_word _ _ _ _ (rd32_of_ctl hu.ctl _), hbefore.pc hn hc (by rwa [hnext]), pcOf_nextPc]
  · rw [hafter.hbm, hu.mem, hbefore.hbm, nextPc_mem]
  · rw [bankEntry, hafter.bank]
    have hold : entryBefore r n (mArray w) (mmaBank w) (mmaRow0 w + m) start j =
        entryBefore s n (mArray w) (mmaBank w) (mmaRow0 w + m) start j := by rw [entryBefore, bankEntry, hbank]; rfl
    rw [← hold]
    exact hu.entry m j xs hm hj hxs
  · rw [hafter.bank, hu.frame k hk, hbank]

/-- An EMIT or HEAD whose elements can be read sends its records. -/
theorem mmaSend_sends (head : Bool) : ∃ rs f, emitRecords r n d q w head = .ok (rs, f) ∧ mmaSend n c w head (nextPc s n c) =
    mmaAfter (noteFlags (sendRecords r n q.path (mmaCtag w) rs) n c false f) n c w d q.wts.fmt := by
  obtain ⟨rs, f, hrs⟩ := emitRecords_of_readable head hread
  exact ⟨rs, f, hrs, mmaSend_of_records hb hd hq hr hrs⟩

end

/-- Settles O17: each mode is issued as `mmaIssue` says; the bank modes are `mmaBankMode_streams`, the sending ones `mmaSend_sends`. -/
theorem mmaStreamsAndSendsRecords : Obligations.MmaStreamsAndSendsRecords := by
  unfold Obligations.MmaStreamsAndSendsRecords
  refine ⟨fun n c w s => ⟨fun h => ?_, fun h => ?_, fun h => ?_, fun h => ?_⟩, fun n c w d q s b r hf ha hb hd hq hr =>
    ⟨fun hm hread => ?_, fun hm hread hg => ?_, fun hm hg => ?_, fun hm hread => ?_, fun hm hread => ?_, fun m u rs h => sendRecords_bank u n _ rs h m⟩⟩
  iterate 4 exact issuesInOrder_of (mmaIssue_of_mode h _)
  · obtain ⟨t, ht, h⟩ := mmaBankMode_streams (start := true) hb hd hq hr hread (.inl rfl)
    exact ⟨t, (mmaIssue_of_free hm hf ha _).trans (congrArg _ ht), h⟩
  · obtain ⟨t, ht, h⟩ := mmaBankMode_streams (start := false) hb hd hq hr hread (.inr hg)
    exact ⟨t, (mmaIssue_of_free hm hf ha _).trans (congrArg _ ht), h⟩
  · refine (mmaIssue_of_free hm hf ha _).trans (congrArg _ (mmaBankMode_of_order ?_))
    rwa [nextG_of_cores (nextPc_cores ..)]
  all_goals
    obtain ⟨rs, f, hrs, hsend⟩ := mmaSend_sends hb hd hq hr hread _
    exact ⟨rs, f, hrs, (mmaIssue_of_free hm hf ha _).trans (congrArg _ hsend)⟩

end Sys2Proof.Machine
end

section
/-! SUPPORT. A fault of an HBM lane: an uncorrectable one lies on no lane and counts against the channel (R437). -/

namespace Sys2Proof.Machine

theorem repClass_chanLoc (l : Nat) : repClass (chanLoc l) = 2 := by
  have hkind : locKind (chanLoc l) = 5 := by
    unfold locKind chanLoc bits
    rw [Nat.shiftRight_eq_div_pow]
    omega
  simp only [repClass, hkind]

/-- An uncorrectable error counts the whole threshold against the lane's channel. -/
theorem faultEventAt_of_lane {s v : State} {l : Nat} {e : Bool × Nat} (hk : locKind l = 4)
    (hc : countOn s (chanLoc l) (clsT s 2) = (v, e)) : faultEventAt s l true = if e.1 then lasting v (chanLoc l) 2 e.2 else v := by
  simp only [faultEventAt, hk, repClass_chanLoc, hc, decide_true, Bool.and_self, Bool.or_true, if_true]

/-- Refutes O53: its clause on the window count has every event count against its own location, without an exception for an uncorrectable
error of an HBM lane. Lane 0 of stack 0 on a device with no count yet: the event counts 64 against the channel (0x50000000), where the clause
has it count 1 against the lane (0x40000000). -/
theorem not_faultsAreCountedAndTested : ¬ Obligations.FaultsAreCountedAndTested := by
  unfold Obligations.FaultsAreCountedAndTested
  intro h
  obtain ⟨-, hcount, -⟩ := h 0x40000000#32 [] 0x40000000 { State.reset with pow := { st := .active } } rfl rfl
  have hlane := hcount true 1 _ _ rfl rfl
  rw [faultEventAt_of_lane (by decide) rfl] at hlane
  exact absurd (congrArg (fun t => t.rep.locs.map RLoc.loc) hlane) (by decide +kernel)

end Sys2Proof.Machine
end

section
/-! SUPPORT. How a micro-instruction runs, said once for each shared shape of its meaning: an acting step, a compare, a selection, a
reduction (R116, R119 to R121). -/

namespace Sys2Proof.Machine
open Sys2Proof.Safety

/-! ### Going on to the next micro-instruction -/

/-- Going on keeps the unit's registers, predicates and accumulators. -/
theorem vec_microNext (s : State) (n : Nat) (j : VJob) : (vec (microNext s n j) n).v = (vec s n).v ∧
    (vec (microNext s n j) n).p = (vec s n).p ∧ (vec (microNext s n j) n).ac = (vec s n).ac := by
  obtain ⟨-, -, h, -⟩ := microNext_rest s n j
  injection h with hv hp hac
  exact ⟨hv, hp, hac⟩

theorem microNext_mem (s : State) (n : Nat) (j : VJob) : (microNext s n j).mem = s.mem := (microNext_rest s n j).1

theorem setVec_mem (s : State) (n : Nat) (v : Vec) : (setVec s n v).mem = s.mem := setCore_mem ..

section
variable {s s' : State} {n op : Nat} {w : W64} {j j' : VJob} {i : Instr}

/-! Each rule takes the command's meaning `o` first: that it is `exec` of the command, and which shape it has, then hold by `rfl`. -/

/-- A command whose meaning is a micro-instruction that acts without an abort. -/
theorem exec_of_micro {run : VJob → State → Except Abort (State × VJob)} (hj : (vec s n).job = some j) (o : Out) (hi : exec i s = o)
    (ho : o = micro n w op run s) (h : run j s = .ok (s', j')) (hr : microReady s n w op j = true) :
    exec i s = .next (microNext s' n j') :=
  (hi.trans ho).trans (micro_ok hj hr h)

/-- A command whose meaning is a micro-instruction that writes lanes. -/
theorem writesLanes_of_micro {run : VJob → State → Except Abort (State × VJob)} {g : Nat → W64 × NumFlags}
    (hj : (vec s n).job = some j) (o : Out) (hi : exec i s = o) (ho : o = micro n w op run s)
    (h : run j s = .ok (putLanes s n j.ctx w g, j)) (hr : microReady s n w op j = true) : WritesLanes n w i g s :=
  writesLanes_of (hi.trans ho) hj hr h

/-- An integer step writes the results `g` when each is the step's own as a lane. -/
theorem writesLanes_int {f : Vec → Nat → Int × NumFlags} {g : Nat → W64 × NumFlags} (hj : (vec s n).job = some j) (o : Out)
    (hi : exec i s = o) (ho : o = intStep n w op f s) (hg : ∀ l, (laneOfInt (f (vec s n) l).1, (f (vec s n) l).2) = g l)
    (hr : microReady s n w op j = true) : WritesLanes n w i g s := by
  obtain rfl := funext hg
  exact intStep_writes f (hi.trans ho) hj hr

/-- A floating-point step writes the results `g` when each is the step's own, rounded once. -/
theorem writesLanes_fp {fmt : Nat} {f : Vec → Nat → Fp × NumFlags} {g : Nat → W64 × NumFlags} (hj : (vec s n).job = some j) (o : Out)
    (hi : exec i s = o) (ho : o = fpStepFmt n w op fmt f s)
    (hg : ∀ l, (laneOfFp (lane (vec s n) (uVd w) l) (fpRound fmt (uInf w) (f (vec s n) l).1).1,
      (f (vec s n) l).2 ||| (fpRound fmt (uInf w) (f (vec s n) l).1).2) = g l)
    (hr : microReady s n w op j = true) : WritesLanes n w i g s := by
  obtain rfl := funext hg
  exact fpStep_writes f (hi.trans ho) hj hr

/-- A lane that goes through its integer stays. -/
theorem laneOfInt_laneI (v : Vec) (r l : Nat) : laneOfInt (laneI v r l) = lane v r l := BitVec.ofInt_toInt

/-! ### Compares (R116, R120) -/

/-- The predicates and conditions once the active lanes of predicate VD have taken the outcomes `f`. -/
def comparedLanes (v : Vec) (w : W64) (f : Nat → Bool × NumFlags) : SMap Bool × NumFlags :=
  (List.range 128).foldl (fun x l =>
    if activeLane v w l then (SMap.set false x.1 (uVd w % 8 * 128 + l) ((f l).1 && uVd w % 8 != 0), x.2 ||| (f l).2) else x) (v.p, 0)

theorem get_comparedLanes (v : Vec) (w : W64) (f : Nat → Bool × NumFlags) (p : Nat) {l : Nat} (hl : l < 128) :
    SMap.get false (comparedLanes v w f).1 (p * 128 + l) =
      if p = uVd w % 8 ∧ activeLane v w l = true then (f l).1 && uVd w % 8 != 0 else SMap.get false v.p (p * 128 + l) := by
  rw [comparedLanes, preds_fold]
  by_cases hdst : p = uVd w % 8
  · have hlo : uVd w % 8 * 128 ≤ uVd w % 8 * 128 + l := Nat.le_add_right _ _
    simp only [hdst, Nat.add_sub_cancel_left, hlo, Nat.add_lt_add_iff_left, hl, true_and]
  · rw [if_neg (by omega), if_neg fun h => hdst h.1]

/-- The state that a compare leaves before the program goes on. -/
def compared (s : State) (n : Nat) (w : W64) (j : VJob) (f : Nat → Bool × NumFlags) : State :=
  noteFlags (setVec s n { vec s n with p := (comparedLanes (vec s n) w f).1 }) n j.ctx true (comparedLanes (vec s n) w f).2

theorem vec_compared (s : State) (n : Nat) (w : W64) (j : VJob) (f : Nat → Bool × NumFlags) :
    vec (compared s n w j f) n = { vec s n with p := (comparedLanes (vec s n) w f).1 } := by
  rw [compared, vec_noteFlags, vec_setVec]

/-- P0 stays all ones. -/
theorem pred_comparedLanes (v : Vec) (w : W64) (f : Nat → Bool × NumFlags) (p : Nat) {l : Nat} (hl : l < 128) :
    pred { v with p := (comparedLanes v w f).1 } p l =
      if p = uVd w % 8 ∧ p ≠ 0 ∧ activeLane v w l = true then (f l).1 else pred v p l := by
  rw [pred, pred, get_comparedLanes _ _ _ _ hl]
  by_cases hzero : p = 0
  · simp [hzero]
  by_cases hset : p = uVd w % 8 ∧ activeLane v w l = true
  · have hne : (uVd w % 8 != 0) = true := bne_iff_ne.mpr (hset.1 ▸ hzero)
    rw [if_pos hset, if_pos ⟨hset.1, hzero, hset.2⟩, hne, Bool.and_true, decide_eq_false hzero, Bool.false_or]
  · rw [if_neg hset, if_neg fun h => hset ⟨h.1, h.2.2⟩]

/-- A compare writes the active lanes of a predicate and no register. -/
theorem compares {f : Vec → Nat → Bool × NumFlags} {g : Nat → Bool} (hj : (vec s n).job = some j) (o : Out) (hi : exec i s = o)
    (ho : o = cmpStep n w op f s) (hg : ∀ l, (f (vec s n) l).1 = g l) (hr : microReady s n w op j = true) :
    ∃ t, exec i s = .next t ∧ t.mem = s.mem ∧ (vec t n).v = (vec s n).v ∧ (vec t n).ac = (vec s n).ac ∧
      ∀ p l, l < 128 → pred (vec t n) p l =
        if p = uVd w % 8 ∧ p ≠ 0 ∧ activeLane (vec s n) w l = true then g l else pred (vec s n) p l := by
  have hexec : exec i s = .next (microNext (compared s n w j (f (vec s n))) n j) := by
    rw [cmpStep] at ho
    refine exec_of_micro hj o hi ho ?_ hr
    dsimp only
    rfl
  obtain ⟨hv, hp, hac⟩ := vec_microNext (compared s n w j (f (vec s n))) n j
  rw [vec_compared] at hv hp hac
  refine ⟨_, hexec, by rw [microNext_mem, compared, noteFlags_mem, setVec_mem], hv, hac, fun p l hl => ?_⟩
  rw [pred_of_p _ _ hp, pred_comparedLanes _ _ _ _ hl, hg]

/-! ### SEL (R116, R120) -/

/-- The registers once every lane of VD has taken the values `f`. -/
def selectedLanes (v : Vec) (w : W64) (f : Nat → W64) : SMap W64 :=
  (List.range 128).foldl (fun m l => SMap.set 0 m (uVd w * 128 + l) (f l)) v.v

theorem lane_selectedLanes (v : Vec) (w : W64) (f : Nat → W64) (r : Nat) {l : Nat} (hl : l < 128) :
    lane { v with v := selectedLanes v w f } r l = if r = uVd w then f l else lane v r l := by
  rw [lane, selectedLanes, setLanes_fold]
  by_cases hr : r = uVd w
  · rw [if_pos hr, if_pos (by omega), hr, Nat.add_sub_cancel_left]
  · rw [if_neg hr, if_neg (by omega), lane]

/-- What SEL gives lane `l`: VA where the predicate selects it, else the second source. -/
def selValue (v : Vec) (w : W64) (l : Nat) : W64 :=
  if activeLane v w l then lane v (uVa w) l else if uImmB w then laneOfInt (uImmS w) else lane v (uVb w) l

theorem exec_sel (hj : (vec s n).job = some j) (hr : microReady s n w 0x08 j = true) : exec (.sel n w) s =
    .next (microNext (setVec s n { vec s n with v := selectedLanes (vec s n) w (selValue (vec s n) w) }) n j) :=
  exec_of_micro hj (execSel n w s) rfl rfl rfl hr

/-! ### Reductions (R120, R121) -/

section
variable {fi : Vec → Int → Int × NumFlags} {ff : Vec → VAcc → VAcc × NumFlags} (hj : (vec s n).job = some j) (o : Out)
  (hi : exec i s = o) (ho : o = reduce n w op fi ff s)
include hj hi ho

/-- The integer form leaves its result `x` of the accumulator read as an integer. -/
theorem reduces_int {x : Int × NumFlags} (hx : fi (vec s n) (accInt (acc s n (uAc w))).1 = x) (hr : microReady s n w op j = true)
    (hf : uFloat w = false) : exec i s = .next (microNext (noteFlags (setAcc s n (uAc w) { isInt := true, int := x.1 }) n j.ctx true
      ((accInt (acc s n (uAc w))).2 ||| x.2)) n j) :=
  exec_of_micro hj o hi (ho.trans (by rw [reduce])) (by simp only [hf, hx, Bool.false_eq_true, if_false]) hr

/-- The floating-point form leaves its result `x` of the accumulator. -/
theorem reduces_fp {x : VAcc × NumFlags} (hx : ff (vec s n) (acc s n (uAc w)) = x) (hr : microReady s n w op j = true)
    (hf : uFloat w = true) : exec i s = .next (microNext (noteFlags (setAcc s n (uAc w) x.1) n j.ctx true x.2) n j) :=
  exec_of_micro hj o hi (ho.trans (by rw [reduce])) (by simp only [hf, hx, if_true]) hr

end

end

end Sys2Proof.Machine
end

section
/-! SUPPORT. The vector unit's statements: lane-wise steps, reads, selections and compares, reductions and IDIV by zero (R116 to R130). -/

namespace Sys2Proof.Machine
open Sys2Proof.Safety

/-! ### LD and ST (R120, R503) -/

section
variable {s u : State} {n d : Nat} {w : W64} {j : VJob}

/-- LD of 128 elements that can be read: they go to the active lanes, and the input's cursor moves on. -/
theorem exec_ld_of_loaded {xs : List (W64 × NumFlags)} (hj : (vec s n).job = some j) (hr : microReady s n w 0x03 j = true)
    (hd : descOf s n (vIn j.w (uImm w % 2)) = .ok d)
    (hxs : (List.range 128).mapM (fun l => loadElem s n d (uFmt w) ((if uImm w % 2 = 0 then j.read0 else j.read1) + l)
      (lane (vec s n) (uVd w) l)) = .ok xs) :
    exec (.ld n w) s = .next (microNext (putLanes s n j.ctx w (fun l => xs.getD l (0, 0))) n
      (if uImm w % 2 = 0 then { j with read0 := j.read0 + 128 } else { j with read1 := j.read1 + 128 })) := by
  refine exec_of_micro hj (execLd n w s) rfl rfl ?_ hr
  simp only [hd, hxs, bind, Except.bind, pure, Except.pure]
  by_cases hin : uImm w % 2 = 0
  · simp only [hin, if_true]
  · simp only [hin, if_false]

/-- ST whose elements can be written, by the form of its format: they are written, and the output's cursor moves on. -/
theorem exec_st_of_stored {f : NumFlags} (hj : (vec s n).job = some j) (hr : microReady s n w 0x04 j = true)
    (hd : descOf s n (vOut j.w) = .ok d)
    (hw : (if uFmt w = 8 then storeFp4 s n d j.wrote (vec s n) w
      else (List.range 128).foldlM (fun x l => storeLane x.1 x.2 n d j.wrote (vec s n) w l) (s, 0)) = .ok (u, f)) :
    exec (.st n w) s = .next (microNext (noteFlags u n j.ctx true f) n { j with wrote := j.wrote + 128 }) := by
  refine exec_of_micro hj (execSt n w s) rfl rfl ?_ hr
  by_cases h8 : uFmt w = 8
  · rw [if_pos h8] at hw
    simp only [hd, if_pos h8, hw, bind, Except.bind, pure, Except.pure]
  · rw [if_neg h8] at hw
    simp only [hd, if_neg h8, hw, bind, Except.bind, pure, Except.pure]

theorem storeLane_of_active {r : State} {e l : Nat} {v : Vec} (g : NumFlags) (hl : activeLane v w l = true)
    (hu : writeElem r n d (uFmt w) (e + l) (storeRaw v w l).1 = .ok u) : storeLane r g n d e v w l = .ok (u, g ||| (storeRaw v w l).2) := by
  simp only [storeLane, hl, hu, Bool.not_true, Bool.false_eq_true, if_false, bind, Except.bind, pure, Except.pure]

theorem storeLane_of_inactive {r : State} {e l : Nat} {v : Vec} (g : NumFlags) (hl : activeLane v w l = false) :
    storeLane r g n d e v w l = .ok (r, g) := by
  simp only [storeLane, hl, Bool.not_false, if_true]

/-- An active lane stores its integer fitted to the format, or its value encoded. -/
theorem storeRaw_fst (v : Vec) (w : W64) (l : Nat) : (storeRaw v w l).1 = if fmtIsInt (uFmt w) then
    intEncode (uFmt w) (intFit (uFmt w) (uSat w) (laneI v (uVa w) l)).1 else (fpEncode (uFmt w) (uInf w) (laneF v (uVa w) l)).1 := by
  unfold storeRaw
  split <;> rfl

end

/-- Settles O21: LD and ST are `exec_ld_of_loaded` and `exec_st_of_stored`; each lane of a store is `storeLane`, by whether it is active. -/
theorem ldAndStWalkTheirDescriptors : Obligations.LdAndStWalkTheirDescriptors := by
  unfold Obligations.LdAndStWalkTheirDescriptors
  intro n w j d s hj
  refine ⟨fun xs hr hd hxs => exec_ld_of_loaded hj hr hd hxs, fun u f hr hd h8 hw => exec_st_of_stored hj hr hd (by rw [if_pos h8, hw]),
    fun u f hr hd h8 hw => exec_st_of_stored hj hr hd (by rw [if_neg h8, hw]), fun r g u l hl hu => ?_,
    fun r g l hl => storeLane_of_inactive g hl⟩
  rw [← storeRaw_fst] at hu
  exact ⟨_, storeLane_of_active g hl hu⟩

/-! ### Lane-wise steps -/

/-- Settles O22: each is an `intStep` with the result that the step names; MOV's lane goes through its integer unchanged. -/
theorem integerStepsComplete : Obligations.IntegerStepsComplete := by
  unfold Obligations.IntegerStepsComplete
  rintro n w j s _ rfl hj
  exact ⟨writesLanes_int hj (execMovi n w s) rfl rfl fun _ => rfl,
    writesLanes_int hj (execMov n w s) rfl rfl fun _ => by rw [laneOfInt_laneI], writesLanes_int hj (execIadd n w s) rfl rfl fun _ => rfl,
    writesLanes_int hj (execIsub n w s) rfl rfl fun _ => rfl, writesLanes_int hj (execImul n w s) rfl rfl fun _ => rfl,
    writesLanes_int hj (execIshr n w s) rfl rfl fun _ => rfl, writesLanes_int hj (execIshl n w s) rfl rfl fun _ => rfl,
    writesLanes_int hj (execImax n w s) rfl rfl fun _ => rfl, writesLanes_int hj (execImin n w s) rfl rfl fun _ => rfl,
    writesLanes_int hj (execIclip n w s) rfl rfl fun _ => rfl, writesLanes_int hj (execIdiv n w s) rfl rfl fun _ => rfl,
    writesLanes_int hj (execExp2q n w s) rfl rfl fun _ => rfl, writesLanes_int hj (execLog2q n w s) rfl rfl fun _ => rfl,
    writesLanes_int hj (execRsqrtq n w s) rfl rfl fun _ => rfl, writesLanes_int hj (execFtoi n w s) rfl rfl fun _ => rfl⟩

/-- Settles O23: each is an `fpStepFmt` with the exact result that the step names, rounded once. -/
theorem floatingPointStepsComplete : Obligations.FloatingPointStepsComplete := by
  unfold Obligations.FloatingPointStepsComplete
  rintro n w j s _ rfl hj
  exact ⟨writesLanes_fp hj (execFadd n w s) rfl rfl fun _ => rfl, writesLanes_fp hj (execFsub n w s) rfl rfl fun _ => rfl,
    writesLanes_fp hj (execFmul n w s) rfl rfl fun _ => rfl, writesLanes_fp hj (execFma n w s) rfl rfl fun _ => rfl,
    writesLanes_fp hj (execFmax n w s) rfl rfl fun _ => rfl, writesLanes_fp hj (execFmin n w s) rfl rfl fun _ => rfl,
    writesLanes_fp hj (execFcvt n w s) rfl rfl fun _ => rfl, writesLanes_fp hj (execItof n w s) rfl rfl fun _ => rfl,
    writesLanes_fp hj (execFdiv n w s) rfl rfl fun _ => rfl, writesLanes_fp hj (execExp2f n w s) rfl rfl fun _ => rfl,
    writesLanes_fp hj (execLog2f n w s) rfl rfl fun _ => rfl, writesLanes_fp hj (execRcpf n w s) rfl rfl fun _ => rfl,
    writesLanes_fp hj (execRsqrtf n w s) rfl rfl fun _ => rfl⟩

/-! ### Parameter and accumulator reads, selects and compares (R116, R120, R128) -/

section
variable {s : State} {n : Nat} {w : W64} {j : VJob} (hj : (vec s n).job = some j)
include hj

theorem ldp_of_words {xs : List Int} (hr : microReady s n w 0x05 j = true) (hb : bit (uImm w) 18 = false)
    (hxs : (List.range 128).mapM (fun l => parWord s n j (uImm w % 2 ^ 18 + l)) = .ok xs) :
    WritesLanes n w (.ldp n w) (fun l => (laneOfInt (xs.getD l 0), 0)) s :=
  writesLanes_of_micro hj (execLdp n w s) rfl rfl (by simp only [hb, hxs, Bool.false_eq_true, if_false, bind, Except.bind]; rfl) hr

theorem ldp_of_broadcast {x : Int} (hr : microReady s n w 0x05 j = true) (hb : bit (uImm w) 18 = true)
    (hx : parWord s n j (uImm w % 2 ^ 18) = .ok x) :
    WritesLanes n w (.ldp n w) (fun l => (laneOfInt ((List.replicate 128 x).getD l 0), 0)) s :=
  writesLanes_of_micro hj (execLdp n w s) rfl rfl (by simp only [hb, hx, if_true, Except.map, bind, Except.bind]; rfl) hr

theorem tbl_of_table {base b : Int} {t : List Int} (hr : microReady s n w 0x1A j = true) (hbase : parWord s n j (uImm w % 2 ^ 18) = .ok base)
    (hb : parWord s n j (uImm w % 2 ^ 18 + 1) = .ok b)
    (ht : (List.range (2 ^ (ofSigned 32 b % 16) + 1)).mapM (fun i => parWord s n j (uImm w % 2 ^ 18 + 2 + i)) = .ok t) :
    WritesLanes n w (.tbl n w) (fun l =>
      (laneOfInt (tblLookup base (ofSigned 32 b % 16) (uSh w) (fun i => t.getD i 0) (laneI (vec s n) (uVa w) l)), 0)) s :=
  writesLanes_of_micro hj (execTbl n w s) rfl rfl (by simp only [hbase, hb, ht, bind, Except.bind]; rfl) hr

theorem sel_selects (hr : microReady s n w 0x08 j = true) : ∃ t, exec (.sel n w) s = .next t ∧ t.mem = s.mem ∧ (vec t n).p = (vec s n).p ∧
    (vec t n).ac = (vec s n).ac ∧ ∀ r l, l < 128 → lane (vec t n) r l = if r = uVd w then selValue (vec s n) w l else lane (vec s n) r l := by
  obtain ⟨hv, hp, hac⟩ := vec_microNext (setVec s n { vec s n with v := selectedLanes (vec s n) w (selValue (vec s n) w) }) n j
  rw [vec_setVec] at hv hp hac
  refine ⟨_, exec_sel hj hr, by rw [microNext_mem, setVec_mem], hp, hac, fun r l hl => ?_⟩
  rw [lane_of_v _ _ hv, lane_selectedLanes _ _ _ _ hl]

end

/-- Settles O24: what is read is written lane-wise, SEL is `sel_selects`, and the compares are `compares`. -/
theorem readsSelectsAndComparesComplete : Obligations.ReadsSelectsAndComparesComplete := by
  unfold Obligations.ReadsSelectsAndComparesComplete
  refine ⟨?_, ?_⟩
  · rintro n w j s _ rfl hj
    refine ⟨fun xs hr hb hxs => ldp_of_words hj hr hb hxs, fun x hr hb hx => ldp_of_broadcast hj hr hb hx,
      fun base b t hr hbase hb ht => tbl_of_table hj hr hbase hb ht, fun hr hf => ?_, fun hr hf => ?_, fun hr hf => ?_,
      fun hr hf => ?_⟩
    · exact writesLanes_of_micro hj (execAget n w s) rfl rfl (by simp only [hf, Bool.false_eq_true, if_false]) hr
    · exact writesLanes_of_micro hj (execAget n w s) rfl rfl (by simp only [hf, if_true]) hr
    · exact writesLanes_of_micro hj (execAgetd n w s) rfl rfl (by simp only [hf, Bool.false_eq_true, if_false]) hr
    · exact writesLanes_of_micro hj (execAgetd n w s) rfl rfl (by simp only [hf, if_true, fIf]) hr
  · rintro n w j s _ rfl hj
    exact ⟨sel_selects hj, compares hj (execIcmp n w s) rfl rfl fun _ => rfl, compares hj (execFcmp n w s) rfl rfl fun _ => rfl⟩

/-! ### Reductions (R120, R121) -/

/-- Settles O25: each form is that of `reduce`; ACLR writes the accumulator alone. -/
theorem reductionsComplete : Obligations.ReductionsComplete := by
  unfold Obligations.ReductionsComplete
  rintro n w j s _ _ rfl hj rfl
  exact ⟨reduces_int hj (execRsum n w s) rfl rfl rfl, reduces_fp hj (execRsum n w s) rfl rfl rfl,
    reduces_int hj (execRdot n w s) rfl rfl rfl, reduces_fp hj (execRdot n w s) rfl rfl rfl,
    reduces_int hj (execRmax n w s) rfl rfl rfl, reduces_fp hj (execRmax n w s) rfl rfl rfl,
    reduces_int hj (execRmin n w s) rfl rfl rfl, reduces_fp hj (execRmin n w s) rfl rfl rfl,
    exec_of_micro hj (execAclr n w s) rfl rfl rfl⟩

/-! ### IDIV by zero (R127) -/

/-- A union of conditions has a bit that one of them has. -/
theorem testBit_foldl_or {α : Type} (f : α → Nat) (i : Nat) (l : List α) (a : Nat) :
    (l.foldl (fun g x => g ||| f x) a).testBit i = (a.testBit i || l.any (fun x => (f x).testBit i)) := by
  induction l generalizing a with
  | nil => simp
  | cons x l ih => rw [List.foldl_cons, ih, Nat.testBit_or, List.any_cons, Bool.or_assoc]

/-- VEC_NUMSTS shows a condition that an active lane brings (R54). -/
theorem bit_numsts_of_active {sts i l : Nat} {v : Vec} {w : W64} {f : Nat → W64 × NumFlags} (hi : i < 32) (hl : l < 128)
    (ha : activeLane v w l = true) (hf : (f l).2.testBit i = true) :
    bit ((sts ||| ((List.range 128).filter (activeLane v w)).foldl (fun g l => g ||| (f l).2) 0) % 2 ^ 32) i = true := by
  have hany : ((List.range 128).filter (activeLane v w)).any (fun l => (f l).2.testBit i) = true :=
    List.any_eq_true.mpr ⟨l, List.mem_filter.mpr ⟨List.mem_range.mpr hl, ha⟩, hf⟩
  rw [bit, Nat.testBit_mod_two_pow, Nat.testBit_or, testBit_foldl_or, hany]
  simp [hi]

/-- What a division by zero gives: the i64 extreme of the dividend's sign, or 0. -/
def zeroQuotient (a : Int) : Int := if a = 0 then 0 else if a < 0 then i64Min else i64Max

theorem idivStep_zero (a : Int) : idivStep a 0 = (zeroQuotient a, fInvalid) := by
  rw [idivStep, if_pos rfl, zeroQuotient]

/-- A shift of the dividend keeps its sign. -/
theorem zeroQuotient_shifted (a : Int) (sh : Nat) : zeroQuotient (a * (2 ^ sh : Nat)) = zeroQuotient a := by
  have hpos : (0 : Int) < (2 ^ sh : Nat) := Int.natCast_pos.mpr (Nat.two_pow_pos sh)
  unfold zeroQuotient
  rcases Int.lt_trichotomy a 0 with hneg | hzero | hgt
  · have hprod := Int.mul_neg_of_neg_of_pos hneg hpos
    rw [if_neg (Int.ne_of_lt hprod), if_pos hprod, if_neg (Int.ne_of_lt hneg), if_pos hneg]
  · rw [hzero, Int.zero_mul]
  · have hprod := Int.mul_pos hgt hpos
    rw [if_neg (Int.ne_of_gt hprod), if_neg (Int.not_lt.mpr (Int.le_of_lt hprod)), if_neg (Int.ne_of_gt hgt),
      if_neg (Int.not_lt.mpr (Int.le_of_lt hgt))]

/-- Settles O26: the active lane takes `zeroQuotient` of its dividend, whose shift changes no sign; its INVALID is ORed into VEC_NUMSTS. -/
theorem idivByZero : Obligations.IdivByZero := by
  unfold Obligations.IdivByZero
  intro n l w j s hj hr hl ha hb
  obtain ⟨t, ht, hlane, hsts, -⟩ := writesLanes_int (i := .idiv n w) hj (execIdiv n w s) rfl rfl (fun _ => rfl) hr
  have hres : idivStep (laneI (vec s n) (uVa w) l * (2 ^ uSh w : Nat)) (srcBI (vec s n) w l) =
      (zeroQuotient (laneI (vec s n) (uVa w) l), fInvalid) := by
    rw [hb, idivStep_zero, zeroQuotient_shifted]
  have hquot : laneI (vec t n) (uVd w) l = (laneOfInt (zeroQuotient (laneI (vec s n) (uVa w) l))).toInt := by
    rw [laneI, hlane _ _ hl, if_pos ⟨rfl, ha⟩]
    dsimp only
    rw [hres]
  refine ⟨t, ht, ?_, fun hz => ?_, fun hp => ?_, fun hn => ?_⟩
  · rw [hsts]
    refine bit_numsts_of_active (by decide) hl ha ?_
    dsimp only
    rw [hres]
    exact (by decide : fInvalid.testBit 1 = true)
  · rw [hquot, zeroQuotient, if_pos hz]
    decide
  · rw [hquot, zeroQuotient, if_neg (by omega), if_neg (by omega)]
    decide
  · rw [hquot, zeroQuotient, if_neg (by omega), if_pos hn]
    decide

end Sys2Proof.Machine
end

section
/-! SUPPORT. VEC and the control steps of a micro-program: what starts, loops and ends it (R118, R120, R139). -/

namespace Sys2Proof.Machine
open Sys2Proof.Safety

/-! ### VEC (R65, R118) -/

section
variable {s : State} {n c k : Nat} {w : W128}

/-- A VEC of the command's own MODE is issued to the vector unit. -/
theorem vecIssue_of_mode (hm : vMode w = k) (run : State → State) :
    vecIssue n c w k run s = .next (issue s n c w 0x09 4 0 (!unitBusy s n 4) true run) := by
  rw [vecIssue, if_neg (by simp [hm])]

/-- A free vector unit begins it. -/
theorem vecIssue_of_free (hf : UnitFree s n c w 0x09 4) (hm : vMode w = k) (run : State → State) :
    vecIssue n c w k run s = .next (run (nextPc s n c)) := by
  rw [vecIssue_of_mode hm, hf.2.2]
  exact congrArg _ (issue_of_free hf 0 run)

end

/-- Box decoding runs whole on the state that shows MODE 1 in VEC_STATUS, or leaves its unit empty (R139, R141). -/
theorem boxStart_of_ok {s t : State} {n c : Nat} {w : W128} (h : boxRun (wr32 s (vecBase n + 0x40) (c * 2 + 16)) n c w = .ok t) :
    boxStart n c w s = t := by
  simp only [boxStart, h]

theorem boxStart_of_error {s : State} {n c : Nat} {w : W128} {a : Abort} (h : boxRun (wr32 s (vecBase n + 0x40) (c * 2 + 16)) n c w = .error a) :
    boxStart n c w s = vecFault (setVec (wr32 s (vecBase n + 0x40) (c * 2 + 16)) n {}) n c a := by
  simp only [boxStart, h]

/-! ### END and LOOP (R120, R125) -/

section
variable {s : State} {n : Nat} {u : W64} {j : VJob} (hj : (vec s n).job = some j)
include hj

theorem exec_microEnd_of_ready (hr : microReady s n u 0x01 j = true) :
    exec (.microEnd n u) s = .next (vecEnd (setMicroPc (microNext s n j) n (microPc s n)) n j) := by
  show execMicroEnd n u s = _
  simp only [execMicroEnd, hj, hr, if_true]

/-- A LOOP over an empty body is passed over. -/
theorem exec_loop_of_empty (hr : microReady s n u 0x02 j = true) (h0 : uImm u % 512 = 0) : exec (.loop n u) s = .next (microNext s n j) :=
  exec_of_micro hj (execLoop n u s) rfl rfl (by simp only [h0, if_true]) hr

theorem exec_loop_of_body (hr : microReady s n u 0x02 j = true) (h0 : uImm u % 512 ≠ 0) :
    exec (.loop n u) s = .next (microNext s n { j with
      loops := (microPc s n + 1, microPc s n + uImm u % 512, if uImm u / 512 = 0 then vRows j.w else uImm u / 512) :: j.loops }) :=
  exec_of_micro hj (execLoop n u s) rfl rfl (by simp only [if_neg h0]) hr

end

/-- Settles O20: a VEC is `vecIssue` of its MODE, and a step of the program is its micro-instruction. -/
theorem vectorProgramsStartLoopAndEnd : Obligations.VectorProgramsStartLoopAndEnd := by
  unfold Obligations.VectorProgramsStartLoopAndEnd
  rintro n c w u j s _ rfl
  refine ⟨fun hm => issuesInOrder_of (vecIssue_of_mode hm _), fun hm => issuesInOrder_of (vecIssue_of_mode hm _),
    fun hf hm => vecIssue_of_free hf hm _, fun t hf hm ht => ?_, fun a hf hm ha => ?_,
    fun hj => ⟨exec_of_micro hj (execMicroNop n u s) rfl rfl rfl, exec_microEnd_of_ready hj, exec_loop_of_empty hj, exec_loop_of_body hj⟩⟩
  · exact (vecIssue_of_free hf hm _).trans (congrArg _ (boxStart_of_ok ht))
  · exact (vecIssue_of_free hf hm _).trans (congrArg _ (boxStart_of_error ha))

end Sys2Proof.Machine
end

section
/-! SUPPORT. The rANS step: what an encode step leaves in the state, and that a decode step takes it back (R144, R145). -/

namespace Sys2Proof.Machine

/-- The state that codes a step in a state that has room for it. -/
def codedState (p : RStep) (x : Nat) : Nat := x / p.f * 2 ^ 16 + x % p.f + p.c

theorem encStep_of_room {x : Nat} {p : RStep} (h : x < p.f * 2 ^ 16) (out : List Nat) : encStep (x, out) p = (codedState p x, out) := by
  simp only [encStep, ge_iff_le, if_neg (Nat.not_le.mpr h), codedState]

/-- A state without room emits its low word first. -/
theorem encStep_of_full {x : Nat} {p : RStep} (h : p.f * 2 ^ 16 ≤ x) (out : List Nat) :
    encStep (x, out) p = (codedState p (x / 2 ^ 16), x % 2 ^ 16 :: out) := by
  simp only [encStep, ge_iff_le, if_pos h, codedState]

section
variable {p : RStep} (hf : 0 < p.f) (hc : p.c + p.f ≤ 2 ^ 16)
include hf hc

theorem codedState_div (x : Nat) : codedState p x / 2 ^ 16 = x / p.f := by
  have hlt : x % p.f < p.f := Nat.mod_lt _ hf
  unfold codedState
  omega

theorem codedState_mod (x : Nat) : codedState p x % 2 ^ 16 = x % p.f + p.c := by
  have hlt : x % p.f < p.f := Nat.mod_lt _ hf
  unfold codedState
  omega

theorem codedState_bounds {x : Nat} (hlo : p.f ≤ x) (hhi : x < p.f * 2 ^ 16) : 2 ^ 16 ≤ codedState p x ∧ codedState p x < 2 ^ 32 := by
  have hpos : 0 < x / p.f := Nat.div_pos hlo hf
  have hlt : x / p.f < 2 ^ 16 := Nat.div_lt_of_lt_mul hhi
  rw [← codedState_div hf hc] at hpos hlt
  omega

/-- The slot of a coded state lies in the range of its symbol. -/
theorem codedState_slot (x : Nat) : codedState p x % 2 ^ 16 - p.c < p.f := by
  rw [codedState_mod hf hc, Nat.add_sub_cancel]
  exact Nat.mod_lt _ hf

/-- What a decode step makes of a coded state before it looks for a word. -/
theorem uncode_codedState (x : Nat) : p.f * (codedState p x / 2 ^ 16) + codedState p x % 2 ^ 16 - p.c = x := by
  rw [codedState_div hf hc, codedState_mod hf hc, ← Nat.add_assoc, Nat.add_sub_cancel, Nat.div_add_mod]

theorem decStep_codedState_of_ge {x : Nat} (h : 2 ^ 16 ≤ x) (ws : List Nat) : decStep (codedState p x) ws p = some (x, ws) := by
  have hge : ¬ x < 0x10000 := Nat.not_lt.mpr h
  simp only [decStep, uncode_codedState hf hc, if_neg hge]

/-- A state below 2^16 takes the next word in. -/
theorem decStep_codedState_of_lt {x : Nat} (h : x < 2 ^ 16) (w : Nat) (ws : List Nat) :
    decStep (codedState p x) (w :: ws) p = some (x * 2 ^ 16 + w, ws) := by
  have hlt : x < 0x10000 := h
  simp only [decStep, uncode_codedState hf hc, if_pos hlt, Nat.mod_eq_of_lt h]

end

/-- Settles O27: whether or not the encode step emits a word, the state that it codes lies between `f` and `f * 2^16`, and the decode step
finds it again, with the word where one was emitted. -/
theorem decodeStepUndoesEncodeStep : Obligations.DecodeStepUndoesEncodeStep := by
  unfold Obligations.DecodeStepUndoesEncodeStep
  intro x out p hlo hhi hf hc
  by_cases hroom : x < p.f * 2 ^ 16
  · obtain ⟨hge, hlt⟩ := codedState_bounds hf hc (by omega) hroom
    rw [encStep_of_room hroom]
    exact ⟨decStep_codedState_of_ge hf hc hlo out, hge, hlt, codedState_slot hf hc x⟩
  · have hfull : p.f * 2 ^ 16 ≤ x := Nat.not_lt.mp hroom
    obtain ⟨hge, hlt⟩ := codedState_bounds hf hc (x := x / 2 ^ 16) (by omega) (by omega)
    rw [encStep_of_full hfull]
    refine ⟨?_, hge, hlt, codedState_slot hf hc _⟩
    rw [decStep_codedState_of_lt hf hc (by omega), Nat.div_add_mod']

end Sys2Proof.Machine
end

section
/-! SUPPORT. Encode and decode jobs: how the entropy engine takes an instruction, and what each outcome of a job leaves (R155, R161 to R165). -/

namespace Sys2Proof.Machine
open Sys2Proof.Safety

/-! ### Issue (R65, R162) -/

section
variable {s : State} {n c k : Nat} {w : W128}

/-- An ENT of the command's own KIND is issued to the entropy engine. -/
theorem entIssue_of_kind {adm : Bool} (hk : nKind w = k) (ha : (k = 2 || admitted s (ctxActivity s n c) (8 + n)) = adm) (run : State → State) :
    entIssue n c w k run s = .next (issue s n c w 0x0A 5 (8 + n) (entFree s n) adm run) := by
  rw [entIssue, if_neg (fun hne => hne hk), ha]

/-- An entropy engine that executes nothing is free. -/
theorem entFree_of_not_busy (h : unitBusy s n 5 = false) : entFree s n = true := by
  obtain ⟨hent, htab⟩ : (core s n).entJob.isSome = false ∧ (core s n).tableJob.isSome = false := Bool.or_eq_false_iff.mp h
  rw [entFree, ← Option.not_isSome, ← Option.not_isSome, hent, htab]
  rfl

/-- A free engine begins an admitted ENT. -/
theorem entIssue_of_free (hf : UnitFree s n c w 0x0A 5) (hk : nKind w = k)
    (ha : (k = 2 || admitted s (ctxActivity s n c) (8 + n)) = true) (run : State → State) :
    entIssue n c w k run s = .next (run (nextPc s n c)) := by
  rw [entIssue_of_kind hk ha, entFree_of_not_busy hf.2.2]
  exact congrArg _ (issue_of_free hf (8 + n) run)

theorem exec_entEncode_of_free (hf : UnitFree s n c w 0x0A 5) (ha : admitted s (ctxActivity s n c) (8 + n) = true) (hk : nKind w = 0) :
    exec (.entEncode n c w) s = .next (encodeStart n c w (nextPc s n c)) :=
  entIssue_of_free hf hk (by rw [ha, Bool.or_true]) _

theorem exec_entDecode_of_free (hf : UnitFree s n c w 0x0A 5) (ha : admitted s (ctxActivity s n c) (8 + n) = true) (hk : nKind w = 1) :
    exec (.entDecode n c w) s = .next (decodeStart n c w (nextPc s n c)) :=
  entIssue_of_free hf hk (by rw [ha, Bool.or_true]) _

end

/-! ### Encode jobs (R155, R161 to R163, R188) -/

/-- The state once the steps and escapes of the values coded are counted and charged (R162, R165). -/
def stepsCounted (s : State) (n c : Nat) (vals : List (List RStep)) : State :=
  entSteps s n c (vals.map List.length).sum (vals.filter (fun x => x.length = 3)).length

/-- The substreams of a segment whose values have these steps (R145). -/
def segSubs (w : W128) (vals : List (List RStep)) : List (List Nat) :=
  (List.range (nLanes w)).map (fun l => encLane (laneOf vals (nLanes w) l).flatten)

/-- The engine held with the substreams of a job that reports its count (R163). -/
def jobKept (s : State) (n c : Nat) (w : W128) (subs : List (List Nat)) : State :=
  setEntStatus (setCore s n { core s n with entJob := some { ctx := c, w := w, subs := subs } }) n c w true

/-- What a job codes of its segment: nothing when the segment is held (R188). -/
def jobSteps (s : State) (n b : Nat) (w : W128) (h : Bool) : List (List RStep) × Option EntAbort :=
  if h then ([], none) else segSteps s n b w

theorem encodeOpen_of_ok {r q u : State} {n c b : Nat} {h : Bool} {t : Task} (ht : taskOf r n c = some t) (hq : fixEpoch r n c t = .ok q)
    (hb : jobBank q n c = .ok (u, b)) (hh : slotHeld u n c = .ok h) : encodeOpen r n c = .ok (u, b, h) := by
  simp only [encodeOpen, ht, hq, hb, hh, Except.mapError, bind, Except.bind, pure, Except.pure]

section
variable {s u x : State} {n c b : Nat} {w : W128} {h : Bool} {vals : List (List RStep)} {e : EntAbort}

theorem encodeStart_of_not_open (ho : encodeOpen (setEntStatus s n c w false) n c = .error e) :
    encodeStart n c w s = entFault (setEntStatus s n c w false) n c e := by
  simp only [encodeStart, ho]

variable (ho : encodeOpen (setEntStatus s n c w false) n c = .ok (u, b, h))
include ho

theorem encodeStart_of_fault (hv : jobSteps u n b w h = (vals, some e)) :
    encodeStart n c w s = entFault (bankFault (stepsCounted u n c vals) n b e) n c e := by
  rw [jobSteps] at hv
  simp only [encodeStart, ho, hv]
  rfl

theorem encodeStart_of_report (hv : jobSteps u n b w h = (vals, none)) (hr : nReport w = true) :
    encodeStart n c w s = jobKept (stepsCounted u n c vals) n c w (if h then [] else segSubs w vals) := by
  rw [jobSteps] at hv
  simp only [encodeStart, ho, hv, hr, if_true]
  rfl

theorem encodeStart_of_held (hh : h = true) (hr : nReport w = false) :
    encodeStart n c w s = entDone (stepsCounted u n c []) n 0 w := by
  simp only [encodeStart, ho, hh, hr, if_true, Bool.false_eq_true, if_false]
  rfl

theorem encodeStart_of_end (hh : h = false) (hv : segSteps u n b w = (vals, none)) (hr : nReport w = false)
    (hx : encodeEnd (stepsCounted u n c vals) n w (segSubs w vals) = .ok x) : encodeStart n c w s = x := by
  rw [stepsCounted, segSubs] at hx
  simp only [encodeStart, ho, hh, hv, hr, hx, Bool.false_eq_true, if_false]

end

/-! ### The end of a job that reports its count (R163, R187, R195) -/

section
variable {s x : State} {n : Nat} {j : EntJob} (hon : codecOn s = true) (hj : (core s n).entJob = some j)

/-- The engine once its job is over. -/
def jobEnded (s : State) (n : Nat) (j : EntJob) : State :=
  setEntStatus (setCore s n { core s n with entJob := none }) n j.ctx j.w false

/-- The bits of a job's substreams. -/
def jobBits (j : EntJob) : Nat := 16 * (j.subs.map List.length).sum

/-- The bits and values of a job in ENT_SEGBITS (R165). -/
def bitsShown (s : State) (n : Nat) (j : EntJob) : State := wr64 s (coreBase n 3 + 0xC8) (jobBits j + nCount j.w * 2 ^ 32)

include hj in
/-- While a report of the same context waits for its update the engine waits too. -/
theorem exec_encodeJobEnd_of_waiting (ho : slotOpen s n j.ctx = true) (hr : SMap.get 0 (core s n).reports j.ctx ≠ 0) :
    exec (.encodeJobEnd n) s = .next s := by
  show execEncodeJobEnd n s = _
  simp [execEncodeJobEnd, hj, ho, hr]

include hon hj in
/-- A job that need not wait ends: its count goes to the rate controller, which discards it without an open slot. -/
theorem exec_encodeJobEnd_of_ready (hw : slotOpen s n j.ctx = false ∨ SMap.get 0 (core s n).reports j.ctx = 0) (hs : j.subs ≠ [])
    (hx : encodeEnd (jobEnded s n j) n j.w j.subs = .ok x) : exec (.encodeJobEnd n) s = .next
      (if !slotOpen (bitsShown x n j) n j.ctx then count64 (bitsShown x n j) (coreBase n 5 + 0xB8) 1
      else setCore (bitsShown x n j) n { core (bitsShown x n j) n with
        reports := SMap.set 0 (core (bitsShown x n j) n).reports j.ctx (jobBits j * 128 + nLanes j.w) }) := by
  have hgo : (!codecOn s || (slotOpen s n j.ctx && decide (SMap.get 0 (core s n).reports j.ctx ≠ 0))) = false := by
    rcases hw with hw | hw <;> simp [hon, hw]
  rw [jobEnded] at hx
  show execEncodeJobEnd n s = _
  simp only [execEncodeJobEnd, hj, hgo, if_neg hs, hx, Bool.false_eq_true, if_false]
  rfl

end

/-! ### Decode jobs (R146, R188) -/

section
variable {s r q u v : State} {n c b k : Nat} {w : W128} {t : Task} {e : EntAbort}
  (hr : readInput s n c = (r, true)) (ht : taskOf r n c = some t) (hk : countJob (setEntStatus r n c w false) n c t = (q, k))
include hr ht hk

theorem decodeStart_of_no_bank (hw : segWork t k ≠ .none) (hb : jobBank q n c = .error e) :
    decodeStart n c w s = entFault q n c e := by
  simp only [decodeStart, hr, ht, hk, hw, hb, Bool.not_true, Bool.false_eq_true, if_false]

variable (hb : jobBank q n c = .ok (u, b))
include hb

theorem decodeStart_of_coded_fault (hw : segWork t k = .coded) (hd : decodeRun u n c b w = (v, some e)) :
    decodeStart n c w s = entFault (bankFault v n b e) n c e := by
  simp [decodeStart, hr, ht, hk, hw, hb, hd]

theorem decodeStart_of_coded (hw : segWork t k = .coded) (hd : decodeRun u n c b w = (v, none)) : decodeStart n c w s = v := by
  simp [decodeStart, hr, ht, hk, hw, hb, hd]

theorem decodeStart_of_held (hw : segWork t k = .held) (hd : heldRun u n w = .ok v) : decodeStart n c w s = v := by
  simp [decodeStart, hr, ht, hk, hw, hb, hd]

theorem decodeStart_of_held_fault (hw : segWork t k = .held) (hd : heldRun u n w = .error e) : decodeStart n c w s = entFault u n c e := by
  simp [decodeStart, hr, ht, hk, hw, hb, hd]

end

/-- Settles O28: an ENT is `entIssue` of its KIND; a free engine runs `encodeStart` or `decodeStart` on the state of the next instruction, by
what the job finds; and an encode job's end is read off its guards. -/
theorem entropyJobsRun : Obligations.EntropyJobsRun := by
  unfold Obligations.EntropyJobsRun
  refine ⟨fun n c w s => ⟨fun hk => issuesInOrder_of (entIssue_of_kind hk (Bool.false_or _) _), fun hk => issuesInOrder_of (entIssue_of_kind hk (Bool.false_or _) _)⟩,
    fun n c b w t s hf ha => ⟨?opens, ?encodes, ?cannotEncode, ?cannotDecode, ?decodes⟩, fun n j u v x hon hj => ⟨?waits, ?ends⟩⟩
  case opens => exact fun r q u h _ _ ht hq hb hh => encodeOpen_of_ok ht hq hb hh
  case encodes =>
    rintro r u h hk rfl ho
    rw [exec_entEncode_of_free hf ha hk]
    refine ⟨fun vals hh hv => ⟨fun x hr hx => ?_, fun hr => ?_⟩, fun vals e hh hv => ?_, fun hh hr => ?_, fun hh hr => ?_⟩
    · rw [encodeStart_of_end ho hh hv hr hx]
    · subst hh
      rw [encodeStart_of_report ho hv hr]; rfl
    · subst hh
      rw [encodeStart_of_fault ho hv]; rfl
    · rw [encodeStart_of_held ho hh hr]; rfl
    · subst hh
      rw [encodeStart_of_report ho rfl hr]; rfl
  case cannotEncode =>
    rintro r e hk rfl ho
    rw [exec_entEncode_of_free hf ha hk, encodeStart_of_not_open ho]
  case cannotDecode =>
    intro r q k e hk hr ht hc hw hb
    rw [exec_entDecode_of_free hf ha hk, decodeStart_of_no_bank hr ht hc hw hb]
  case decodes =>
    intro r q k u v hk hr ht hc hb
    rw [exec_entDecode_of_free hf ha hk]
    exact ⟨fun e hw hd => congrArg _ (decodeStart_of_coded_fault hr ht hc hb hw hd), fun hw hd => congrArg _ (decodeStart_of_coded hr ht hc hb hw hd),
      fun hw hd => congrArg _ (decodeStart_of_held hr ht hc hb hw hd), fun e hw hd => congrArg _ (decodeStart_of_held_fault hr ht hc hb hw hd)⟩
  case waits => exact exec_encodeJobEnd_of_waiting hj
  case ends =>
    rintro rfl hw hs hx
    rw [exec_encodeJobEnd_of_ready hon hj hw hs hx]
    exact ⟨fun h => congrArg _ (if_neg (by rw [bitsShown, jobBits, h]; decide)), fun h => congrArg _ (if_pos (by rw [bitsShown, jobBits, h]; rfl))⟩

end Sys2Proof.Machine
end

section
/-! SUPPORT. Table loads: what beginning one leaves in the registers of its bank, and how its copy ends (R157, R158, R208). -/

namespace Sys2Proof.Machine
open Sys2Proof.Safety

theorem exec_tableLoad_of_free {s : State} {n c : Nat} {w : W128} (hf : UnitFree s n c w 0x0A 5) (hk : nKind w = 2) :
    exec (.tableLoad n c w) s = .next (loadStart n c w (nextPc s n c)) := entIssue_of_free hf hk rfl _

/-! ### The registers of the banks -/

/-- A clear bit above a number is set by adding its power. -/
theorem setBits_one_of_lt {x p : Nat} (h : x < 2 ^ p) : setBits x p 1 1 = x + 2 ^ p := by
  simp [setBits, bits, Nat.shiftRight_eq_div_pow, Nat.div_eq_of_lt h]

theorem bankReg_ne_other (n : Nat) {b : Nat} (hb : b ≤ 1) : bankReg n b ≠ bankReg n (1 - b) := by
  unfold bankReg; omega

/-- Marking a bank NEWEST sets bit 26 of its own register. -/
theorem rd32_markNewest_self (s : State) (n : Nat) {b : Nat} (hb : b ≤ 1) :
    rd32 (markNewest s n b) (bankReg n b) = setBits (rd32 s (bankReg n b)) 26 1 1 % 2 ^ 32 := by
  rw [markNewest, rd32_wrBits, if_neg (bankReg_ne_other n hb), rd32_wrBits, if_pos rfl]

theorem markNewest_mem (s : State) (n b : Nat) : (markNewest s n b).mem = s.mem := (wrBits_mem ..).trans (wrBits_mem ..)

theorem setEntStatus_mem (s : State) (n c : Nat) (w : W128) (busy : Bool) : (setEntStatus s n c w busy).mem = s.mem := wr32_mem ..

/-- ENT_STATUS is no bank's register. -/
theorem rd32_setEntStatus_bankReg (s : State) (n c b : Nat) (w : W128) (busy : Bool) :
    rd32 (setEntStatus s n c w busy) (bankReg n b) = rd32 s (bankReg n b) :=
  rd32_wr32_ne _ _ _ _ (by unfold bankReg; omega)

/-! ### A load that begins (R157) -/

/-- The bank that a load takes: bank 0 of two empty ones, else the one that is not NEWEST. -/
def olderBank (s : State) (n : Nat) : Nat := if !bankValid s n 0 && !bankValid s n 1 then 0 else if bankNewest s n 0 then 1 else 0

theorem olderBank_le (s : State) (n : Nat) : olderBank s n ≤ 1 := by
  unfold olderBank
  split
  · exact Nat.zero_le 1
  · split
    · exact Nat.le_refl 1
    · exact Nat.zero_le 1

/-- ENT_BANK of a bank that loads: the tag, and LOADING. -/
def loadingWord (w : W128) : Nat := nEpoch w + nSlot w * 2 ^ 16 + 2 ^ 25

/-- The engine with a load that has taken bank `b`. -/
def bankTaken (s : State) (n c b : Nat) (w : W128) : State :=
  let s := wrBits (markNewest (wr32 s (bankReg n b) (loadingWord w)) n b) (bankReg n b + 4) 16 10 (nCount w - 1)
  setEntStatus (setCore s n { core s n with tableJob := some { ctx := c, w := w } }) n c w true

theorem core_bankTaken_tableJob (s : State) (n c b : Nat) (w : W128) :
    (core (bankTaken s n c b w) n).tableJob = some { ctx := c, w := w } := by
  simp only [bankTaken, setEntStatus, core_wr32, core_setCore_self]

theorem bankTaken_mem (s : State) (n c b : Nat) (w : W128) : (bankTaken s n c b w).mem = s.mem := by
  simp only [bankTaken, setEntStatus_mem, setCore_mem, wrBits_mem, markNewest_mem, wr32_mem]

/-- A bank that is taken reads its tag, LOADING and NEWEST. -/
theorem rd32_bankTaken (s : State) (n c : Nat) {b : Nat} (w : W128) (hb : b ≤ 1) :
    rd32 (bankTaken s n c b w) (bankReg n b) = loadingWord w + 2 ^ 26 := by
  have hlt : loadingWord w < 2 ^ 26 := by
    have hepoch : nEpoch w < 2 ^ 16 := Nat.mod_lt _ (by decide)
    have hslot : nSlot w < 2 ^ 8 := Nat.mod_lt _ (by decide)
    unfold loadingWord; omega
  have hword : loadingWord w % 2 ^ 32 = loadingWord w := Nat.mod_eq_of_lt (by omega)
  rw [bankTaken, rd32_setEntStatus_bankReg, rd32_setCore, rd32_wrBits, if_neg (by omega), rd32_markNewest_self _ _ hb, rd32_wr32_self, hword,
    setBits_one_of_lt hlt, Nat.mod_eq_of_lt (by omega)]

/-- A bank that is taken is loading and empty. -/
theorem bankTaken_loads (s : State) (n c : Nat) {b : Nat} (w : W128) (hb : b ≤ 1) :
    bankLoading (bankTaken s n c b w) n b = true ∧ bankValid (bankTaken s n c b w) n b = false := by
  have hepoch : nEpoch w < 2 ^ 16 := Nat.mod_lt _ (by decide)
  have hslot : nSlot w < 2 ^ 8 := Nat.mod_lt _ (by decide)
  simp only [bankLoading, bankValid, rd32_bankTaken _ _ _ _ hb, bit, Nat.testBit_eq_decide_div_mod_eq, loadingWord, decide_eq_true_eq, decide_eq_false_iff_not]
  omega

section
variable {s r : State} {n c : Nat} {w : W128} (hr : readInput s n c = (r, true))
include hr

theorem loadStart_of_unread (he : (taskOf r n c).all (fun t => epochRead r t (nEpoch w)) = false) : loadStart n c w s = r := by
  simp [loadStart, hr, he]

variable (he : (taskOf r n c).all (fun t => epochRead r t (nEpoch w)) = true)
include he

theorem loadStart_of_loaded {b : Nat} (hb : findBank r n (nSlot w) (nEpoch w) = some b) : loadStart n c w s = markNewest r n b := by
  simp [loadStart, hr, he, hb]

theorem loadStart_of_new (hb : findBank r n (nSlot w) (nEpoch w) = none) : loadStart n c w s =
    if bankRefs r n (olderBank r n) > 0 then entFault (count64 r (coreBase n 3 + 0xC0) 1) n c ⟨⟨cTableBusy, 0⟩, 0⟩
    else bankTaken r n c (olderBank r n) w := by
  simp only [loadStart, hr, he, hb, Bool.not_true, Bool.or_false, Bool.false_eq_true, if_false]
  rfl

end

/-! ### A load that ends (R157, R208) -/

/-- The bank of the load in progress. -/
def loadedBank (s : State) (n : Nat) : Nat := if bankLoading s n 0 then 0 else 1

/-- How the copy of the codebook set to the bank's HBM area goes on, where the bank has one. -/
def copyCodes (s u : State) (n b : Nat) (cb : List Byte) (j : EntJob) : State × Mover × CbCopy :=
  if cbVa u n b = 0 then (u, j.cb, .done) else copyCodebook n (ctxActivity s n j.ctx) (cbVa u n b) cb (cb.length + 1) u j.cb

/-- What a load from `s` leaves by how the copy of its codebook set went on: with a copy that is done it fails at the first invalid row, and
else its bank is valid. -/
def loadEnded (s : State) (n b : Nat) (j : EntJob) : State × Mover × CbCopy → State
  | (v, _, .failed e) => tableFail v n b j e 0
  | (v, m, .held st) => refused (setCore v n { core v n with tableJob := some { j with cb := m } }) (ctxActivity s n j.ctx) (16 + st)
  | (v, _, .done) => match (List.range (nCount j.w)).find? (fun i => !rowValid (core v n) b i) with
    | some i => tableFail v n b j ⟨cTableInvalid, 0⟩ i
    | none => tableIdle (wrBits (wrBits v (bankReg n b) 25 1 0) (bankReg n b) 24 1 1) n j

section
variable {s u : State} {n b : Nat} {j : EntJob} {x : State × Mover × CbCopy} {cb : List Byte}
  (hon : codecOn s = true) (hj : (core s n).tableJob = some j) (hb : b = loadedBank s n)
include hon hj hb

theorem exec_tableLoadEnd_of_bad_tables {e : Abort} (hc : copyTables s n b j.w (readEpochs s n j.ctx) = .error e) :
    exec (.tableLoadEnd n) s = .next (tableFail s n b j e 0) := by
  subst hb
  rw [loadedBank] at hc
  show execTableLoadEnd n s = _
  simp only [execTableLoadEnd, hj, hon, hc, Bool.not_true, Bool.false_eq_true, if_false]
  rfl

theorem exec_tableLoadEnd_of_copy (hc : copyTables s n b j.w (readEpochs s n j.ctx) = .ok (u, cb)) (hx : copyCodes s u n b cb j = x) :
    exec (.tableLoadEnd n) s = .next (loadEnded s n b j x) := by
  subst hb
  rw [loadedBank] at hc
  rw [copyCodes, loadedBank] at hx
  show execTableLoadEnd n s = _
  simp only [execTableLoadEnd, hj, hon, hc, hx, Bool.not_true, Bool.false_eq_true, if_false]
  rfl

end

section
variable {s v : State} {n b : Nat} {j : EntJob} {m : Mover}

theorem loadEnded_of_valid (h : ∀ i, i < nCount j.w → rowValid (core v n) b i = true) :
    loadEnded s n b j (v, m, .done) = tableIdle (wrBits (wrBits v (bankReg n b) 25 1 0) (bankReg n b) 24 1 1) n j := by
  have hnone : (List.range (nCount j.w)).find? (fun i => !rowValid (core v n) b i) = none :=
    List.find?_range_eq_none.mpr fun i hi => by simp [h i hi]
  simp only [loadEnded, hnone]

theorem loadEnded_of_bad_row {i : Nat} (hi : i < nCount j.w) (hbad : rowValid (core v n) b i = false)
    (hfirst : ∀ q, q < i → rowValid (core v n) b q = true) :
    loadEnded s n b j (v, m, .done) = tableFail v n b j ⟨cTableInvalid, 0⟩ i := by
  have hsome : (List.range (nCount j.w)).find? (fun i => !rowValid (core v n) b i) = some i :=
    List.find?_range_eq_some.mpr ⟨by simp [hbad], List.mem_range.mpr hi, fun q hq => by simp [hfirst q hq]⟩
  simp only [loadEnded, hsome]

end

/-- Settles O29: a free engine runs `loadStart` on the state of the next instruction, by what the banks hold; the end of a load is read off
how its copies go, and the first row that is not valid, if any. -/
theorem tableLoadsFillABank : Obligations.TableLoadsFillABank := by
  unfold Obligations.TableLoadsFillABank
  refine fun n c w s r => ⟨fun hk => issuesInOrder_of (entIssue_of_kind hk rfl _), fun hf hk hr => ?begins, fun j b hon hj hb => ?ends⟩
  case begins =>
    rw [exec_tableLoad_of_free hf hk]
    refine ⟨fun he => congrArg _ (loadStart_of_unread hr he), fun b he hb => congrArg _ (loadStart_of_loaded hr he hb), ?_⟩
    rintro b he hnone rfl
    rw [loadStart_of_new hr he hnone]
    refine ⟨fun hrefs => congrArg _ (if_pos hrefs), fun hrefs => ?_⟩
    obtain ⟨hloading, hempty⟩ := bankTaken_loads r n c w (olderBank_le r n)
    exact ⟨_, congrArg _ (if_neg (Nat.not_lt.mpr (Nat.le_of_eq hrefs))), core_bankTaken_tableJob .., hloading, hempty, bankTaken_mem ..⟩
  case ends =>
    have hend {u cb x} := exec_tableLoadEnd_of_copy (u := u) (cb := cb) (x := x) hon hj hb
    exact ⟨fun e hc => exec_tableLoadEnd_of_bad_tables hon hj hb hc, fun u cb v m hc =>
      ⟨fun hm hvalid => (hend hc hm).trans (congrArg _ (loadEnded_of_valid hvalid)),
        fun i hm hi hbad hfirst => (hend hc hm).trans (congrArg _ (loadEnded_of_bad_row hi hbad hfirst)),
        fun st hm => hend hc hm, fun e hm => hend hc hm⟩⟩

end Sys2Proof.Machine
end

section
/-! SUPPORT. The motion engine: how a free engine begins a search or a compensation, and what each outcome of a block row leaves (R175, R177, R181). -/

namespace Sys2Proof.Machine
open Sys2Proof.Safety

/-! ### MOT_STATUS and the counter -/

theorem setMotStatus_mem (s : State) (n c kind brow : Nat) (busy : Bool) : (setMotStatus s n c kind brow busy).mem = s.mem := wr32_mem ..

theorem core_setMotStatus (s : State) (n c kind brow m : Nat) (busy : Bool) : core (setMotStatus s n c kind brow busy) m = core s m := core_wr32 ..

theorem rd32_setMotStatus_ne (s : State) (n c kind brow : Nat) (busy : Bool) {a : Nat} (h : a ≠ coreBase n 4 + 0x40) :
    rd32 (setMotStatus s n c kind brow busy) a = rd32 s a := rd32_wr32_ne _ _ _ _ h

/-- BUSY is bit 0 of MOT_STATUS. -/
theorem setMotStatus_busy (s : State) (n c brow : Nat) : bit (rd32 (setMotStatus s n c 0 brow true) (coreBase n 4 + 0x40)) 0 = true := by
  rw [setMotStatus, rd32_wr32_self, bit, Nat.testBit_zero, decide_eq_true_eq, Bool.toNat_true]
  omega

/-- The low word of a counter wraps at 2^32. -/
theorem rd32_count64_self (s : State) (a k : Nat) : rd32 (count64 s a k) a = (rd32 s a + k) % 2 ^ 32 := by
  rw [count64, rd32_wr64, if_neg (by omega), if_pos rfl, rd64]
  omega

/-! ### Issue (R65) -/

section
variable {s : State} {n c k : Nat} {w : W128}

/-- A MOT of the command's own KIND is issued to the motion engine, and needs no budget. -/
theorem motIssue_of_kind (hk : oKind w = k) (run : State → State) :
    motIssue n c w k run s = .next (issue s n c w 0x0B 6 0 (!unitBusy s n 6) true run) := by
  rw [motIssue, if_neg (fun hne => hne hk)]

/-- A free engine begins it. -/
theorem motIssue_of_free (hf : UnitFree s n c w 0x0B 6) (hk : oKind w = k) (run : State → State) :
    motIssue n c w k run s = .next (run (nextPc s n c)) := by
  rw [motIssue_of_kind hk, hf.2.2]
  exact congrArg _ (issue_of_free hf 0 run)

/-- The search job that stands at its first block row, with an empty window. -/
def searchBegun (s : State) (n c : Nat) (w : W128) : State :=
  let v := wr32 s (coreBase n 4 + 0x44) 0
  setMotStatus (setCore v n { core v n with motJob := some { ctx := c, w := w } }) n c 0 (oBrow0 w) true

theorem exec_motSearch_of_free (hf : UnitFree s n c w 0x0B 6) (hk : oKind w = 0) :
    exec (.motSearch n c w) s = .next (searchBegun (nextPc s n c) n c w) := motIssue_of_free hf hk _

theorem exec_motCompensate_of_free (hf : UnitFree s n c w 0x0B 6) (hk : oKind w = 1) :
    exec (.motCompensate n c w) s = .next (compRun n c w (nextPc s n c)) := motIssue_of_free hf hk _

end

section
variable (s : State) (n c : Nat) (w : W128)

theorem searchBegun_mem : (searchBegun s n c w).mem = s.mem := (setMotStatus_mem ..).trans ((setCore_mem ..).trans (wr32_mem ..))

theorem searchBegun_motJob : (core (searchBegun s n c w) n).motJob = some { ctx := c, w := w } := by
  rw [searchBegun, core_setMotStatus, core_setCore_self]

/-- A search that begins leaves the PCs. -/
theorem pcOf_searchBegun (hc : c < 8) : pcOf (searchBegun s n c w) n c = pcOf s n c := by
  apply pcOf_of_word
  rw [searchBegun, rd32_setMotStatus_ne _ _ _ _ _ _ (by unfold coreBase; omega), rd32_setCore, rd32_wr32_ne _ _ _ _ (by unfold coreBase; omega)]

end

/-! ### Block rows of a search (R177) -/

/-- A row whose parts all succeed is searched and its entries are kept. -/
theorem blockRow_of_ok {s u v : State} {n c fmt cfa brow d : Nat} {w : W128} (hd : descOf s n (oCur w) = .ok d)
    (hu : searchRow s n c fmt cfa w brow = .ok u) (hv : noteVecs u n c (oMv w) brow (ceilDiv (dInW d) 16) false = .ok v) :
    blockRow s n c fmt cfa w brow = .ok (v, ceilDiv (dInW d) 16) := by
  simp only [blockRow, hd, hu, hv, bind, Except.bind, pure, Except.pure]

/-- The search job once a block row of `k` blocks is searched: it goes on to the next row, or is over after its last. -/
def rowSearched (u : State) (n : Nat) (j : MotJob) (k : Nat) : State :=
  let v := count64 u (coreBase n 4 + 0xA0) k
  if j.brow + 1 = oBrows j.w then setMotStatus (setCore v n { core v n with motJob := none }) n j.ctx 0 (oBrow0 j.w + j.brow) false
  else setMotStatus (setCore v n { core v n with motJob := some { j with brow := j.brow + 1 } }) n j.ctx 0 (oBrow0 j.w + j.brow + 1) true

section
variable (u : State) (n : Nat) (j : MotJob) (k : Nat)

theorem rowSearched_mem : (rowSearched u n j k).mem = u.mem := by
  unfold rowSearched
  split <;> exact (setMotStatus_mem ..).trans ((setCore_mem ..).trans (count64_mem ..))

/-- Its blocks are counted. -/
theorem rd32_rowSearched : rd32 (rowSearched u n j k) (coreBase n 4 + 0xA0) = (rd32 u (coreBase n 4 + 0xA0) + k) % 2 ^ 32 := by
  unfold rowSearched
  split <;> rw [rd32_setMotStatus_ne _ _ _ _ _ _ (by omega), rd32_setCore, rd32_count64_self]

theorem rowSearched_motJob :
    (core (rowSearched u n j k) n).motJob = if j.brow + 1 = oBrows j.w then none else some { j with brow := j.brow + 1 } := by
  unfold rowSearched
  split <;> rw [core_setMotStatus, core_setCore_self]

end

section
variable {s u : State} {n k row fmt : Nat} {j : MotJob} {a : Abort} (hon : codecOn s = true) (hfree : frozen s (partOf s n) = false)
  (hj : (core s n).motJob = some j) (hrow : row = oBrow0 j.w + j.brow) (hfmt : fmt = ctxFormat s n j.ctx)
include hon hfree hj hrow hfmt

theorem exec_blockRowStart_of_unready (hw : windowReady s n j.ctx fmt j.w row = .ok false) : exec (.blockRowStart n) s = .next s := by
  subst hrow hfmt
  show execBlockRowStart n s = _
  simp [execBlockRowStart, hj, hon, hfree, hw]

theorem exec_blockRowStart_of_unreadable_window (hw : windowReady s n j.ctx fmt j.w row = .error a) :
    exec (.blockRowStart n) s = .next (motFault s n j.ctx row a) := by
  subst hrow hfmt
  show execBlockRowStart n s = _
  simp [execBlockRowStart, hj, hon, hfree, hw]

variable (hw : windowReady s n j.ctx fmt j.w row = .ok true)
include hw

theorem exec_blockRowStart_of_fault (hb : blockRow s n j.ctx fmt (ctxCfa s n j.ctx) j.w row = .error a) :
    exec (.blockRowStart n) s = .next (motFault s n j.ctx row a) := by
  subst hrow hfmt
  show execBlockRowStart n s = _
  simp [execBlockRowStart, hj, hon, hfree, hw, hb]

theorem exec_blockRowStart_of_searched (hb : blockRow s n j.ctx fmt (ctxCfa s n j.ctx) j.w row = .ok (u, k)) :
    exec (.blockRowStart n) s = .next (rowSearched u n j k) := by
  subst hrow hfmt
  show execBlockRowStart n s = _
  simp [execBlockRowStart, hj, hon, hfree, hw, hb, rowSearched]

end

/-! ### Compensation (R181) -/

/-- Naming the step that fails changes nothing of a fold that succeeds. -/
theorem foldlM_mapError_of_ok {α β ε δ : Type} {f : β → α → Except ε β} (g : α → ε → δ) {l : List α} {x y : β} (h : l.foldlM f x = .ok y) :
    l.foldlM (fun x i => (f x i).mapError (g i)) x = .ok y := by
  induction l generalizing x with
  | nil => exact congrArg Except.ok (Except.ok.inj h)
  | cons i l ih =>
    rw [List.foldlM_cons] at h ⊢
    cases hx : f x i with
    | error e => rw [hx] at h; cases h
    | ok z => rw [hx] at h; exact ih h

/-- What a compensation does with one block row: a decode task's keeps the vectors too (R193). -/
def compStep (r : State) (n c : Nat) (w : W128) (k : Nat) (x : State) (i : Nat) : Except Abort State :=
  (compRow x n (ctxFormat r n c) w (oBrow0 w + i)).bind (fun y =>
    if (taskOf r n c).any (fun t => eDecode t.snap) then noteVecs y n c (oMv w) (oBrow0 w + i) k true else .ok y)

/-- A compensation whose rows all succeed counts their blocks. -/
theorem compRun_of_ok {s r u : State} {n c d k : Nat} {w : W128} (hr : r = setMotStatus s n c 1 (oBrow0 w) false)
    (hd : descOf r n (oOut w) = .ok d) (hk : k = ceilDiv (dInW d / (if ctxFormat r n c = 3 then 2 else 1)) 16)
    (hu : (List.range (oBrows w)).foldlM (compStep r n c w k) r = .ok u) :
    compRun n c w s = count64 u (coreBase n 4 + 0xA0) (k * oBrows w) := by
  have hrows := foldlM_mapError_of_ok (fun i a => (oBrow0 w + i, a)) hu
  subst hr hk
  simp only [compStep] at hrows
  simp only [compRun, hd]
  simp only [bind, pure, Except.pure, hrows]

/-- Settles O30: a MOT is `motIssue` of its KIND; a free engine begins it on the state of the next instruction; and a block row is read off its
window's readiness and its search. -/
theorem motionEngineRuns : Obligations.MotionEngineRuns := by
  unfold Obligations.MotionEngineRuns
  refine fun n c w s => ⟨fun hk => issuesInOrder_of (motIssue_of_kind hk _), fun hk hbusy hc hm hh => ?queues, fun hf hk => ?begins,
    fun j row fmt hon hfz hj hrow hfmt => ⟨?unready, ?noWindow, ?faults, ?searches, ?counts⟩, fun r u d k hf hk hr hd hcols hu => ?compensates⟩
  case queues =>
    obtain ⟨-, hwaits⟩ := issuesInOrder_of (i := .motSearch n c w) (motIssue_of_kind hk _)
    obtain ⟨-, hqueue, -⟩ := (hwaits hh).2 hc hm
    exact hqueue rfl (hbusy.imp_right fun hb => by rw [hb]; rfl)
  case begins =>
    exact ⟨_, exec_motSearch_of_free hf hk, searchBegun_motJob .., setMotStatus_busy ..,
      fun hc => (pcOf_searchBegun _ _ _ _ hc).trans (pcOf_nextPc ..), (searchBegun_mem ..).trans (nextPc_mem ..)⟩
  case unready => exact exec_blockRowStart_of_unready hon hfz hj hrow hfmt
  case noWindow => exact fun a => exec_blockRowStart_of_unreadable_window hon hfz hj hrow hfmt
  case faults => exact fun a => exec_blockRowStart_of_fault hon hfz hj hrow hfmt
  case searches => exact fun d u v => blockRow_of_ok
  case counts =>
    exact fun u k hw hb => ⟨_, exec_blockRowStart_of_searched hon hfz hj hrow hfmt hw hb, rowSearched_mem .., rd32_rowSearched ..,
      rowSearched_motJob ..⟩
  case compensates => rw [exec_motCompensate_of_free hf hk, compRun_of_ok hr hd hcols hu]

end Sys2Proof.Machine
end

section
/-! SUPPORT. The rate controller: the update of a rate slot, and what RATE_UPDATE leaves in the registers (R186, R187, R196). -/

namespace Sys2Proof.Machine
open Sys2Proof.Safety

/-! ### The update of a slot (R187) -/

/-- Is a report of `b` bits held: an earlier one was, or it does not fit under the cap? -/
def RSlot.holds (r : RSlot) (b : Nat) : Bool := r.h || decide (r.cap < r.p + b)

/-- The bits that a report counts. -/
def RSlot.counted (r : RSlot) (b : Nat) : Nat := if r.holds b then 0 else b

/-- A slot once a report's bits and the headers of its `k` lanes are counted. -/
def RSlot.took (r : RSlot) (b k : Nat) : RSlot :=
  { r with h := r.holds b, lastHeld := r.holds b, p := r.p + r.counted b, u := r.u + r.counted b + (r.rowHdr + k * r.laneHdr) }

/-- By how much a row moves C before its limits. -/
def RSlot.delta (r : RSlot) (b : Nat) : Int :=
  if r.holds b then r.dqMax
  else min (max (rshiftRne (r.gain * ((log2qStep (max (r.counted b) 1 : Nat) 0).1 - (log2qStep r.trow 0).1)) 20) (-r.dqMax)) r.dqMax

/-- C after a row. -/
def RSlot.nextC (r : RSlot) (b : Nat) : Int := min (max (r.c + r.delta b) r.qiMin) r.qiMax

/-- Are all further rows forced to index 63? -/
def RSlot.forces (r : RSlot) (b k : Nat) : Bool := r.f || decide (r.t ≤ (r.took b k).u)

section
variable {r : RSlot} (b k : Nat)

/-- A side segment leaves C, Q, F and ROW; the last one fixes the target of the rows. -/
theorem rateStep_of_side (h : 0 < r.sideLeft) : rateStep r b k =
    { r.took b k with sideLeft := r.sideLeft - 1, trow := if r.sideLeft = 1 then rowTarget (r.took b k) r.rows else r.trow } := by
  by_cases hlast : r.sideLeft = 1
  · simp [rateStep, RSlot.took, RSlot.holds, RSlot.counted, rowTarget, hlast]
  · have hmore : r.sideLeft - 1 ≠ 0 := by omega
    simp [rateStep, RSlot.took, RSlot.holds, RSlot.counted, h, hlast, hmore]

/-- A row moves C, and Q with it. -/
theorem rateStep_of_row (h : r.sideLeft = 0) : rateStep r b k =
    { r.took b k with
      c := r.nextC b, row := r.row + 1, f := r.forces b k, q := if r.forces b k then 63 else (r.nextC b).toNat
      trow := if r.row + 1 < r.rows then rowTarget (r.took b k) (r.rows - (r.row + 1)) else r.trow } := by
  by_cases hmore : r.row + 1 < r.rows
  · simp [rateStep, RSlot.took, RSlot.holds, RSlot.counted, RSlot.nextC, RSlot.delta, RSlot.forces, rowTarget, h, hmore]
  · simp [rateStep, RSlot.took, RSlot.holds, RSlot.counted, RSlot.nextC, RSlot.delta, RSlot.forces, h, hmore]

/-- Both kinds of segment count the report alike. -/
theorem rateStep_counts (r : RSlot) : (rateStep r b k).h = r.holds b ∧ (rateStep r b k).lastHeld = r.holds b ∧
    (rateStep r b k).p = r.p + r.counted b ∧ (rateStep r b k).u = r.u + r.counted b + (r.rowHdr + k * r.laneHdr) := by
  rcases Nat.eq_zero_or_pos r.sideLeft with h | h
  · rw [rateStep_of_row b k h]; exact ⟨rfl, rfl, rfl, rfl⟩
  · rw [rateStep_of_side b k h]; exact ⟨rfl, rfl, rfl, rfl⟩

/-- C stays within its limits. -/
theorem rateStep_limits (hlim : r.qiMin ≤ r.qiMax) (hlo : r.qiMin ≤ r.c) (hhi : r.c ≤ r.qiMax) :
    r.qiMin ≤ (rateStep r b k).c ∧ (rateStep r b k).c ≤ r.qiMax := by
  rcases Nat.eq_zero_or_pos r.sideLeft with h | h
  · rw [rateStep_of_row b k h]
    exact ⟨Int.le_min.mpr ⟨Int.le_max_right _ _, hlim⟩, Int.min_le_right _ _⟩
  · rw [rateStep_of_side b k h]
    exact ⟨hlo, hhi⟩

end

/-! ### Counters and 64-bit registers -/

theorem rd64_lt (s : State) (a : Nat) : rd64 s a < 2 ^ 64 := by
  have hlo := rd32_lt s a
  have hhi := rd32_lt s (a + 4)
  unfold rd64
  generalize rd32 s a = lo, rd32 s (a + 4) = hi at *
  omega

/-- Words between `lo` and `hi` leave a register that lies outside. -/
theorem rd64_of_onlyWords {ws : List Nat} {s t : State} {lo hi a : Nat} (h : OnlyWords ws s t) (hws : ∀ w ∈ ws, lo ≤ w ∧ w ≤ hi)
    (ha : a + 4 < lo ∨ hi < a) : rd64 t a = rd64 s a := by
  have hlow : a ∉ ws := fun hw => by have := hws a hw; omega
  have hhigh : a + 4 ∉ ws := fun hw => by have := hws _ hw; omega
  rw [rd64, h.2 a hlow, h.2 _ hhigh, rd64]

theorem onlyWords_wr64 (s : State) (a v : Nat) : OnlyWords [a, a + 4] s (wr64 s a v) := onlyWords_wr32_wr32' ..

theorem rd64_wr64_ne (s : State) {a b : Nat} (v : Nat) (h : b + 4 < a ∨ a + 4 < b) : rd64 (wr64 s a v) b = rd64 s b :=
  rd64_of_onlyWords (onlyWords_wr64 s a v) (by simp) h

/-- A counter that gains 1 when `p` holds. -/
def countIf (s : State) (a : Nat) (p : Prop) [Decidable p] : State := if p then count64 s a 1 else s

section
variable (s : State) (a : Nat) (p : Prop) [Decidable p]

theorem rd64_countIf : rd64 (countIf s a p) a = (rd64 s a + if p then 1 else 0) % 2 ^ 64 := by
  unfold countIf
  split
  · exact rd64_count64 ..
  · rw [Nat.add_zero, Nat.mod_eq_of_lt (rd64_lt s a)]

theorem onlyWords_countIf : OnlyWords [a, a + 4] s (countIf s a p) := by
  unfold countIf
  split
  · exact onlyWords_wr64 ..
  · exact .refl ..

theorem rd64_countIf_ne {b : Nat} (h : b + 4 < a ∨ a + 4 < b) : rd64 (countIf s a p) b = rd64 s b :=
  rd64_of_onlyWords (onlyWords_countIf s a p) (by simp) h

end

/-! ### What an update writes (R187, R196) -/

theorem writeSlot_ctl (s : State) (n a : Nat) (r : RSlot) : (writeSlot s n a r).ctl = s.ctl := by simp [writeSlot]
theorem writeSlot_cores (s : State) (n a : Nat) (r : RSlot) : (writeSlot s n a r).cores = s.cores := by simp [writeSlot]

/-- RCT_SLOTc and RCT_SLOTPc. -/
def slotWords (n c : Nat) : List Nat :=
  [coreBase n 5 + 0x100 + 16 * c, coreBase n 5 + 0x104 + 16 * c, coreBase n 5 + 0x108 + 16 * c, coreBase n 5 + 0x10C + 16 * c]

/-- The counters of rows controlled, rows forced and segments held. -/
def rateCounters (n : Nat) : List Nat :=
  [coreBase n 5 + 0xA0, coreBase n 5 + 0xA4, coreBase n 5 + 0xA8, coreBase n 5 + 0xAC, coreBase n 5 + 0xB0, coreBase n 5 + 0xB4]

theorem slotWords_range (n c : Nat) : ∀ w ∈ slotWords n c, coreBase n 5 + 0x100 + 16 * c ≤ w ∧ w ≤ coreBase n 5 + 0x10C + 16 * c := by
  intro w hw
  simp only [slotWords, List.mem_cons, List.not_mem_nil, or_false] at hw
  omega

theorem rateCounters_range (n : Nat) : ∀ w ∈ rateCounters n, coreBase n 5 + 0xA0 ≤ w ∧ w ≤ coreBase n 5 + 0xB4 := by
  intro w hw
  simp only [rateCounters, List.mem_cons, List.not_mem_nil, or_false] at hw
  omega

/-- RCT_SLOTc of a slot (R196). -/
def slotWord (r : RSlot) : Nat :=
  r.q % 64 + r.c.toNat % 64 * 2 ^ 8 + r.f.toNat * 2 ^ 16 + r.h.toNat * 2 ^ 17 + r.sideLeft % 4 * 2 ^ 20 + r.row % 2 ^ 16 * 2 ^ 32

theorem slotWord_lt (r : RSlot) : slotWord r < 2 ^ 64 := by
  have hf := Bool.toNat_le r.f
  have hh := Bool.toNat_le r.h
  unfold slotWord
  omega

/-- The counters after an update of the slot `x` to `y`. -/
def rateCounted (s : State) (n : Nat) (x y : RSlot) : State :=
  countIf (countIf (countIf s (coreBase n 5 + 0xA0) (x.sideLeft = 0)) (coreBase n 5 + 0xA8) (x.sideLeft = 0 ∧ x.f = true ∧ y.lastHeld = false))
    (coreBase n 5 + 0xB0) (y.lastHeld = true)

/-- The state once the slot of a context is updated from `x` to `y`, shown and counted. -/
def slotUpdated (s : State) (n c : Nat) (x y : RSlot) : State :=
  rateCounted (showSlot (writeSlot s n (rateSlot s n c) y) n c y) n x y

section
variable (s : State) (n c : Nat) (x y : RSlot)

theorem onlyWords_showSlot : OnlyWords (slotWords n c) s (showSlot s n c y) := by
  have hslotp : coreBase n 5 + 0x108 + 16 * c = coreBase n 5 + 0x100 + 16 * c + 8 := by omega
  have hhigh : coreBase n 5 + 0x104 + 16 * c = coreBase n 5 + 0x100 + 16 * c + 4 := by omega
  have hhighp : coreBase n 5 + 0x10C + 16 * c = coreBase n 5 + 0x100 + 16 * c + 8 + 4 := by omega
  rw [slotWords, hslotp, hhigh, hhighp]
  exact ((onlyWords_wr64 ..).mono (by simp)).trans ((onlyWords_wr64 ..).mono (by simp))

theorem rd64_showSlot : rd64 (showSlot s n c y) (coreBase n 5 + 0x100 + 16 * c) = slotWord y := by
  unfold showSlot
  dsimp only
  rw [rd64_wr64_ne _ _ (by omega), rd64_wr64]
  exact Nat.mod_eq_of_lt (slotWord_lt y)

theorem rd64_showSlot_p : rd64 (showSlot s n c y) (coreBase n 5 + 0x108 + 16 * c) = y.p % 2 ^ 64 := by
  rw [show coreBase n 5 + 0x108 + 16 * c = coreBase n 5 + 0x100 + 16 * c + 8 by omega]
  exact rd64_wr64 ..

theorem onlyWords_rateCounted : OnlyWords (rateCounters n) s (rateCounted s n x y) :=
  (((onlyWords_countIf ..).mono (by simp [rateCounters])).trans ((onlyWords_countIf ..).mono (by simp [rateCounters]))).trans
    ((onlyWords_countIf ..).mono (by simp [rateCounters]))

/-- Each counter gains its own count. -/
theorem rd64_rateCounted :
    rd64 (rateCounted s n x y) (coreBase n 5 + 0xA0) = (rd64 s (coreBase n 5 + 0xA0) + if x.sideLeft = 0 then 1 else 0) % 2 ^ 64 ∧
    rd64 (rateCounted s n x y) (coreBase n 5 + 0xA8) =
      (rd64 s (coreBase n 5 + 0xA8) + if x.sideLeft = 0 ∧ x.f = true ∧ y.lastHeld = false then 1 else 0) % 2 ^ 64 ∧
    rd64 (rateCounted s n x y) (coreBase n 5 + 0xB0) = (rd64 s (coreBase n 5 + 0xB0) + if y.lastHeld = true then 1 else 0) % 2 ^ 64 := by
  unfold rateCounted
  refine ⟨?rows, ?forced, ?held⟩
  case rows => rw [rd64_countIf_ne _ _ _ (by omega), rd64_countIf_ne _ _ _ (by omega), rd64_countIf]
  case forced => rw [rd64_countIf_ne _ _ _ (by omega), rd64_countIf, rd64_countIf_ne _ _ _ (by omega)]
  case held => rw [rd64_countIf, rd64_countIf_ne _ _ _ (by omega), rd64_countIf_ne _ _ _ (by omega)]

/-- An update of a slot writes memory, its registers and the counters. -/
theorem onlyWords_slotUpdated : OnlyWords (slotWords n c ++ rateCounters n) (writeSlot s n (rateSlot s n c) y) (slotUpdated s n c x y) :=
  ((onlyWords_showSlot ..).mono (List.subset_append_left ..)).trans ((onlyWords_rateCounted ..).mono (List.subset_append_right ..))

theorem slotUpdated_cores : (slotUpdated s n c x y).cores = s.cores := (onlyWords_slotUpdated ..).cores.trans (writeSlot_cores ..)

theorem slotUpdated_mem : (slotUpdated s n c x y).mem = (writeSlot s n (rateSlot s n c) y).mem := (onlyWords_slotUpdated ..).mem

theorem rd32_slotUpdated {a : Nat} (h : a ∉ slotWords n c ++ rateCounters n) : rd32 (slotUpdated s n c x y) a = rd32 s a :=
  ((onlyWords_slotUpdated s n c x y).2 a h).trans (rd32_of_ctl (writeSlot_ctl ..) a)

/-- An update does not close the slot. -/
theorem slotOpen_slotUpdated : slotOpen (slotUpdated s n c x y) n c = slotOpen s n c := by
  have hopen : coreBase n 5 + 0x40 ∉ slotWords n c ++ rateCounters n := by
    rw [List.mem_append]
    rintro (h | h)
    · have := slotWords_range n c _ h; omega
    · have := rateCounters_range n _ h; omega
  rw [slotOpen, rd32_slotUpdated _ _ _ _ _ hopen, slotOpen]

theorem rd64_slotUpdated : rd64 (slotUpdated s n c x y) (coreBase n 5 + 0x100 + 16 * c) = slotWord y :=
  (rd64_of_onlyWords (onlyWords_rateCounted ..) (rateCounters_range n) (by omega)).trans (rd64_showSlot ..)

theorem rd64_slotUpdated_p : rd64 (slotUpdated s n c x y) (coreBase n 5 + 0x108 + 16 * c) = y.p % 2 ^ 64 :=
  (rd64_of_onlyWords (onlyWords_rateCounted ..) (rateCounters_range n) (by omega)).trans (rd64_showSlot_p ..)

/-- What lies below the slots' registers is counted from the state before. -/
theorem rd64_slotShown {a : Nat} (h : a + 4 < coreBase n 5 + 0x100) :
    rd64 (showSlot (writeSlot s n (rateSlot s n c) y) n c y) a = rd64 s a :=
  (rd64_of_onlyWords (onlyWords_showSlot ..) (slotWords_range n c) (by omega)).trans (rd64_of_ctl (writeSlot_ctl ..) a)

theorem rd64_slotUpdated_counters :
    rd64 (slotUpdated s n c x y) (coreBase n 5 + 0xA0) = (rd64 s (coreBase n 5 + 0xA0) + if x.sideLeft = 0 then 1 else 0) % 2 ^ 64 ∧
    rd64 (slotUpdated s n c x y) (coreBase n 5 + 0xA8) =
      (rd64 s (coreBase n 5 + 0xA8) + if x.sideLeft = 0 ∧ x.f = true ∧ y.lastHeld = false then 1 else 0) % 2 ^ 64 ∧
    rd64 (slotUpdated s n c x y) (coreBase n 5 + 0xB0) = (rd64 s (coreBase n 5 + 0xB0) + if y.lastHeld = true then 1 else 0) % 2 ^ 64 := by
  have hcount := rd64_rateCounted (showSlot (writeSlot s n (rateSlot s n c) y) n c y) n x y
  rwa [rd64_slotShown s n c y (by omega), rd64_slotShown s n c y (by omega), rd64_slotShown s n c y (by omega)] at hcount

end

/-! ### RATE_UPDATE (R187, R195) -/

section
variable (s : State) (n c : Nat) (f : Task → Task)

theorem core_updTask_reports : (core (updTask s n c f) n).reports = (core s n).reports := by
  rw [updTask, setCtx, core_setCore_self]

theorem core_updTask_ne {m : Nat} (h : m ≠ n) : core (updTask s n c f) m = core s m := by
  rw [updTask, setCtx, core_setCore, if_neg h]

theorem ctxOf_updTask_task : (ctxOf (updTask s n c f) n c).task = (ctxOf s n c).task.map f := by
  rw [updTask, ctxOf_setCtx_self]

theorem ctxOf_updTask_ne {m : Nat} (h : m ≠ c) : ctxOf (updTask s n c f) n m = ctxOf s n m := by
  rw [updTask, ctxOf_setCtx, if_neg (fun hm => h hm.2)]

end

/-- The state once the waiting report of a context is taken. -/
def reportTaken (s : State) (n c : Nat) : State := setCore s n { core s n with reports := SMap.set 0 (core s n).reports c 0 }

theorem ctxOf_reportTaken (s : State) (n c m : Nat) : ctxOf (reportTaken s n c) n m = ctxOf s n m := by
  rw [ctxOf, reportTaken, core_setCore_self, ctxOf]

section
variable {s u : State} {n c rep : Nat}

theorem exec_rateUpdate_of_none (hrep : SMap.get 0 (core s n).reports c = 0) : exec (.rateUpdate n c) s = .next s := by
  show execRateUpdate n c s = _
  simp [execRateUpdate, hrep]

variable (hon : codecOn s = true) (hrep : SMap.get 0 (core s n).reports c ≠ 0) (hu : u = reportTaken s n c)
include hon hrep hu

theorem exec_rateUpdate_of_unreadable {a : Abort} (hr : storeRead u n (rateSlot u n c) 48 = .error a) :
    exec (.rateUpdate n c) s = .next (if slotOpen u n c then unitAbort u n c a else u) := by
  subst hu
  rw [reportTaken] at hr ⊢
  show execRateUpdate n c s = _
  simp [execRateUpdate, hon, hrep, hr]

theorem exec_rateUpdate_of_readable {bs : List Byte} {x y : RSlot} (hr : storeRead u n (rateSlot u n c) 48 = .ok bs)
    (hx : x = readSlot u n (rateSlot u n c)) (hk : rep = SMap.get 0 (core s n).reports c) (hy : y = rateStep x (rep / 128) (rep % 128)) :
    exec (.rateUpdate n c) s = .next
      (if slotOpen s n c then semSignal (updTask (slotUpdated u n c x y) n c (fun t => t.noteRow x y rep)) n c (56 + c) 1
      else slotUpdated u n c x y) := by
  have hopen : slotOpen (slotUpdated u n c x y) n c = slotOpen s n c := by
    rw [slotOpen_slotUpdated, hu]; rfl
  rw [← hopen]
  subst hu hy hx hk
  rw [reportTaken] at hr ⊢
  show execRateUpdate n c s = _
  simp [execRateUpdate, hon, hrep, hr, slotUpdated, rateCounted, countIf, and_assoc]

end

/-- A slot updated on the state whose report is taken leaves the other contexts and cores. -/
theorem ctxOf_slotUpdated_reportTaken (s : State) (n c : Nat) (x y : RSlot) (m : Nat) :
    ctxOf (slotUpdated (reportTaken s n c) n c x y) n m = ctxOf s n m :=
  (ctxOf_of_cores _ _ (slotUpdated_cores ..) n m).trans (ctxOf_reportTaken ..)

theorem core_slotUpdated_reportTaken (s : State) (n c : Nat) (x y : RSlot) {m : Nat} (h : m ≠ n) :
    core (slotUpdated (reportTaken s n c) n c x y) m = core s m := by
  rw [core_of_cores _ _ (slotUpdated_cores ..) m, reportTaken, core_setCore, if_neg h]

/-- Settles O31: RATE_UPDATE is `slotUpdated` on the state whose report is taken, and with an open slot the task notes it; the update itself is
read off the two kinds of segment. -/
theorem rateUpdateMovesTheSlot : Obligations.RateUpdateMovesTheSlot := by
  unfold Obligations.RateUpdateMovesTheSlot
  refine fun n c b k r s => ⟨exec_rateUpdate_of_none, fun u a hon hrep hu => exec_rateUpdate_of_unreadable hon hrep hu,
    fun u bs hon hrep ho hu hr => ?opened, fun u bs hon hrep ho hu hr => ?closed, ?step⟩
  case opened =>
    have he := exec_rateUpdate_of_readable hon hrep hu hr rfl rfl rfl
    rw [if_pos ho] at he
    change u = reportTaken s n c at hu
    subst hu
    refine ⟨_, he, ?reports, (updTask_mem ..).trans (slotUpdated_mem ..), ?registers, fun m hm => ?cores, fun m hm => ?contexts, fun a ha => ?words⟩
    case reports => rw [core_updTask_reports, core_of_cores _ _ (slotUpdated_cores ..)]
    case registers =>
      rintro x y rfl rfl
      refine ⟨by rw [ctxOf_updTask_task, ctxOf_slotUpdated_reportTaken], rd64_slotUpdated .., rd64_slotUpdated_p .., ?_⟩
      exact rd64_slotUpdated_counters ..
    case cores => rw [core_updTask_ne _ _ _ _ hm, core_slotUpdated_reportTaken _ _ _ _ _ hm]
    case contexts => rw [ctxOf_updTask_ne _ _ _ _ hm, ctxOf_slotUpdated_reportTaken]
    case words => exact rd32_slotUpdated _ _ _ _ _ ha
  case closed =>
    have he := exec_rateUpdate_of_readable hon hrep hu hr rfl rfl rfl
    rw [if_neg (by simp [ho])] at he
    exact ⟨_, he, core_of_cores _ _ (slotUpdated_cores ..) n, slotUpdated_mem ..⟩
  case step =>
    rintro y held bits used d rfl rfl rfl rfl rfl
    obtain ⟨hh, hlast, hp, hu⟩ := rateStep_counts b k r
    refine ⟨hh, hlast, hp, hu, rateStep_limits b k, fun hside => ?_, fun hrow => ?_⟩
    · rw [rateStep_of_side b k hside]
      exact ⟨rfl, rfl, rfl, rfl, rfl, rfl⟩
    · rw [rateStep_of_row b k hrow]
      exact ⟨hrow, rfl, rfl, rfl, rfl, rfl⟩

end Sys2Proof.Machine
end

section
/-! SUPPORT. The CRC field of a unit: the END unit ends with it, and a unit whose field differs from its CRC is refused (R215 to R217, R238). -/

namespace Sys2Proof.Machine

/-- The END unit is twelve bytes and the CRC of these, most significant byte first. -/
theorem endUnit_eq_append_crc (f : Nat) : (endUnit f).take 12 ++ beBytes 4 (crc32c ((endUnit f).take 12)).toNat = endUnit f := by
  have hl : (beBytes 2 0xB7E5 ++ [0x20#8, 0#8] ++ beBytes 4 4 ++ beBytes 4 f).length = 12 := by simp [beBytes, leBytes_length]
  rw [show (endUnit f).take 12 = _ from List.take_left' hl]
  rfl

theorem endUnit_drop_twelve (f : Nat) : (endUnit f).drop 12 = beBytes 4 (crc32c ((endUnit f).take 12)).toNat := by
  have hl : (endUnit f).length = 16 := by simp [endUnit, beBytes, leBytes_length]
  have h := congrArg (List.drop 12) (endUnit_eq_append_crc f)
  rw [List.drop_left' (by rw [List.length_take, hl]; rfl)] at h
  exact h.symm

/-- A big-endian field that reads as a word holds the word's bytes. -/
theorem bytes_of_beAt {bs : List Byte} {k : Nat} {c : BitVec 32} (hk : k + 4 ≤ bs.length) (h : beAt bs k 4 = c.toNat) :
    (bs.drop k).take 4 = [c.extractLsb' 24 8, c.extractLsb' 16 8, c.extractLsb' 8 8, c.extractLsb' 0 8] :=
  bytes_of_beNat _ (by rw [List.length_take, List.length_drop]; omega) c h

/-- A whole unit with SYNC and a LENGTH in range is refused when its last field is not its CRC (R238). -/
theorem parseUnit_of_bad_crc {bs : List Byte} (hlen : 12 + beAt bs 4 4 ≤ bs.length) (hsync : beAt bs 0 2 = 0xB7E5) (hmax : beAt bs 4 4 ≤ 0xFFFFFFF0)
    (hcrc : beAt bs (8 + beAt bs 4 4) 4 ≠ (crc32c (bs.take (8 + beAt bs 4 4))).toNat) : parseUnit bs = .error cUnitCrc := by
  have hwhole : ¬ (bs.length < 12 || beAt bs 0 2 ≠ 0xB7E5 || beAt bs 4 4 > 0xFFFFFFF0 || bs.length < 12 + beAt bs 4 4) = true := by
    simp only [hsync, ne_eq, not_true_eq_false, decide_false, Bool.or_false, Bool.or_eq_true, decide_eq_true_eq]
    omega
  rw [parseUnit, if_neg hwhole, if_pos hcrc]

/-- The check value of CRC-32C (R216). -/
theorem crc32c_nine_digits : crc32c (ascii "123456789") = 0xE3069283#32 := by decide +kernel

/-- Settles O60: a byte of the CRC is its eight bits, and a field that reads as the CRC holds the CRC's bytes, most significant first. -/
theorem crcIsCrc32c : Obligations.CrcIsCrc32c := by
  unfold Obligations.CrcIsCrc32c
  refine ⟨fun bs => ?_, crc32c_nine_digits, ?_, ?_⟩
  · simp only [crc32c, ← crcByte_eq_bits]
  · rintro f c rfl
    rw [endUnit_drop_twelve, beBytes_four]
  · rintro bs len c rfl hlen hsync hmax rfl hbytes
    exact parseUnit_of_bad_crc hlen hsync hmax fun h => hbytes (bytes_of_beAt (by omega) h)

end Sys2Proof.Machine
end

section
/-! SUPPORT. Submission records: what each operation does with the record at the head of its ring (R313). -/

namespace Sys2Proof.Machine

section
variable {s : State} {r w : Nat}

/-! ### RUN, FORCE_KEY and WRITE_END_UNIT -/

theorem exec_runTask_of_head (h : subHead s r 0 = some w) : exec (.runTask r) s = .next (
    let i := subField w 4 4
    let e := entry s i
    if subStatus s r w ≠ 0 then subDone s r w (subStatus s r w) 0
    else if !admitOpen s e then s
    else if !eDecode e && subField w 12 4 ≠ itemBytes e then subDone s r w cInputSize 0
    else admitTask (subTake s r) 1 i (subField w 16 8 % 2 ^ 48) (subField w 12 4) none 0 (bit (subField w 1 1) 0 && !eDecode e)
      (subField w 24 8) (tb s)) := by
  show execRunTask r s = _
  simp only [execRunTask, h]

/-- FORCE_KEY pending is bit 0 of DSTATE, byte 38 of the entry (R313). -/
theorem exec_forceKey_of_head (h : subHead s r 1 = some w) : exec (.forceKey r) s = .next (
    let i := subField w 4 4
    let e := entry s i
    if subStatus s r w ≠ 0 then subDone s r w (subStatus s r w) 0
    else if eDecode e then subDone s r w cEntryInvalid 0
    else subDone (setEntry s i (ebSet e 38 1 (eb e 38 1 ||| 1))) r w 0 0) := by
  show execForceKey r s = _
  simp only [execForceKey, h]

/-- The END unit of stream `i` in the next slot of its egress ring (R217). -/
def endUnitPut (s : State) (i : Nat) : State :=
  let o := eOutRing (entry s i)
  let k := ringProd s o
  let u := endUnit (eFrameNext (entry s i))
  let v := hbmPoke s (ringPart s o) (slotVa s o k) u
  setProd (setOslot v o k (some { owner := 0, len := some u.length, stream := i, tb := tb v })) o ((k + 1) % 65536)

theorem exec_writeEndUnit_of_head (h : subHead s r 2 = some w) : exec (.writeEndUnit r) s = .next (
    let i := subField w 4 4
    let e := entry s i
    if subStatus s r w ≠ 0 then subDone s r w (subStatus s r w) 0
    else if eDecode e then subDone s r w cEntryInvalid 0
    else if !(streamTasks s i).isEmpty || ringFree s (eOutRing e) = 0 then s
    else subDone (endUnitPut s i) r w 0 0) := by
  show execWriteEndUnit r s = _
  simp only [execWriteEndUnit, h, endUnitPut]

/-! ### RETRY -/

theorem exec_retry_of_refused (h : subHead s r 3 = some w) (h0 : subStatus s r w ≠ 0) :
    exec (.retry r) s = .next (subDone s r w (subStatus s r w) (subField w 8 4)) := by
  show execRetry r s = _
  simp only [execRetry, h, if_pos h0]

theorem exec_retry_of_no_slot (h : subHead s r 3 = some w) (h0 : subStatus s r w = 0) (hk : heldSlot s (subField w 4 4) (subField w 8 4) = none) :
    exec (.retry r) s = .next (subDone s r w cEntryInvalid (subField w 8 4)) := by
  show execRetry r s = _
  simp only [execRetry, h, if_neg (not_not_intro h0), hk]

/-- The ring's record is taken and input slot `k` of `ring` is in use again. -/
def slotRetaken (s : State) (r ring k : Nat) (x : ISlot) : State := setIslot (subTake s r) ring k (some { x with state := 1 })

theorem exec_retry_of_held {k : Nat} {x : ISlot} (h : subHead s r 3 = some w) (h0 : subStatus s r w = 0)
    (hk : heldSlot s (subField w 4 4) (subField w 8 4) = some k) (ha : admitOpen s (entry s (subField w 4 4)) = true)
    (hx : islot s (eInRing (entry s (subField w 4 4))) k = some x) : exec (.retry r) s = .next (
      let i := subField w 4 4
      let ring := eInRing (entry s i)
      let u := slotRetaken s r ring k x
      admitTask u 0 i (slotVa u ring k) x.bytes (some k) x.item false (subField w 24 8) x.capture) := by
  show execRetry r s = _
  simp only [execRetry, h, if_neg (not_not_intro h0), hk, ha, hx, Bool.not_true, Bool.false_eq_true, if_false, slotRetaken]

/-! ### SKIP -/

theorem exec_skip_of_refused (h : subHead s r 4 = some w) (h0 : subStatus s r w ≠ 0) :
    exec (.skip r) s = .next (subDone s r w (subStatus s r w) (subField w 8 4)) := by
  show execSkip r s = _
  simp only [execSkip, h, if_pos h0]

theorem exec_skip_of_no_slot (h : subHead s r 4 = some w) (h0 : subStatus s r w = 0) (hk : heldSlot s (subField w 4 4) (subField w 8 4) = none) :
    exec (.skip r) s = .next (subDone s r w cEntryInvalid (subField w 8 4)) := by
  show execSkip r s = _
  simp only [execSkip, h, if_neg (not_not_intro h0), hk]

theorem exec_skip_of_held {k : Nat} (h : subHead s r 4 = some w) (h0 : subStatus s r w = 0)
    (hk : heldSlot s (subField w 4 4) (subField w 8 4) = some k) :
    exec (.skip r) s = .next (subDone (releaseSlot s (eInRing (entry s (subField w 4 4))) k) r w 0 (subField w 8 4)) := by
  show execSkip r s = _
  simp only [execSkip, h, if_neg (not_not_intro h0), hk]

end

/-- Settles O37: a refused record ends with its status whatever its operation; one that may be taken follows its operation's own cases. -/
theorem submissionsComplete : Obligations.SubmissionsComplete := by
  unfold Obligations.SubmissionsComplete
  rintro r w i e s rfl rfl
  refine ⟨fun hst => ?_, fun hst => ?_⟩
  · exact ⟨fun h => by rw [exec_runTask_of_head h]; exact congrArg _ (if_pos hst),
      fun h => by rw [exec_forceKey_of_head h]; exact congrArg _ (if_pos hst),
      fun h => by rw [exec_writeEndUnit_of_head h]; exact congrArg _ (if_pos hst),
      fun h => exec_retry_of_refused h hst, fun h => exec_skip_of_refused h hst⟩
  · refine ⟨fun h ha => ?_, fun h ha hd hlen => ?_, fun h ha hfit => ?_, fun h hd => ?_, fun h hd hwait => ?_, ?_,
      fun k x h hk ha hx => exec_retry_of_held h hst hk ha hx, fun h hk => exec_retry_of_no_slot h hst hk,
      fun k h hk => exec_skip_of_held h hst hk, fun h hk => exec_skip_of_no_slot h hst hk⟩
    · simp [exec_runTask_of_head h, hst, ha]
    · simp [exec_runTask_of_head h, hst, ha, hd, hlen]
    · rcases hfit with hd | hlen
      · simp [exec_runTask_of_head h, hst, ha, hd]
      · simp [exec_runTask_of_head h, hst, ha, hlen]
    · simp [exec_forceKey_of_head h, hst, hd]
    · rcases hwait with ht | hf
      · simp [exec_writeEndUnit_of_head h, hst, hd, ht]
      · simp [exec_writeEndUnit_of_head h, hst, hd, hf]
    · rintro o k u v h hd ht hf rfl rfl rfl rfl
      simp [exec_writeEndUnit_of_head h, hst, hd, ht, hf, endUnitPut]

end Sys2Proof.Machine
end

section
/-! SUPPORT. The loader: what each command starts or ends, the limit and the end of a drain, and what the end of the checks and of APPLYING
leave (R240, R262, R266, R268, R434). -/

namespace Sys2Proof.Machine

/-! ### Starting and cancelling a load -/

section
variable {s : State}

theorem startLoad_of_loading (op ms : Nat) (h : loading s = true) : startLoad s op ms = ldBusy s := by
  rw [startLoad, if_pos (by simp [h])]

theorem startLoad_of_idle {op : Nat} (ms : Nat) (hidle : loading s = false) (hfrozen : op = 2 → rdBits s (shtBase + 0x58) 8 8 = 0) :
    startLoad s op ms =
      let u := wrBits (wr64 s (mgtBase + 0x410) 0) (mgtBase + 0x408) 3 1 0
      setLdState (u.setLd { u.ld with op := op, drainMs := min ms 60000, early := stagedRetired u }) 1 := by
  rw [startLoad, if_neg (by simpa [hidle] using hfrozen)]

theorem cancelLoad_of_validating (h : ldState s = 1) : cancelLoad s = failLoad s ⟨0x0F40, 0, 0⟩ := if_pos h

theorem cancelLoad_of_draining (h : ldState s = 2) : cancelLoad s = resumeParts (failLoad s ⟨0x0F40, 0, 0⟩) := by
  rw [cancelLoad, if_neg (by omega), if_pos h]

theorem cancelLoad_of_applying (h : ldState s = 3) : cancelLoad s = s := by
  rw [cancelLoad, if_neg (by omega), if_neg (by omega)]

end

/-! ### What the states of a load leave -/

theorem wrDigest_ld (s : State) (a : Nat) (d : List Byte) : (wrDigest s a d).ld = s.ld :=
  List.foldlRecOn (motive := fun t : State => t.ld = s.ld) _ _ rfl fun _ h _ _ => (wr64_ld ..).trans h

/-- The staged image passed its checks: no code, and the image's digest shown (R272). -/
def imagePassed (s : State) : State := wrDigest (setLdCode s 0) (mgtBase + 0x428) (imageDigest (imgOf s s.ld.staged))

theorem imagePassed_ld (s : State) : (imagePassed s).ld = s.ld := (wrDigest_ld ..).trans (wrBits_ld ..)

/-- The load takes the scope of image `p`, and its partitions admit nothing more (R266). -/
def admissionEnded (s : State) (p : Pimg) : State :=
  let u := s.setLd { s.ld with scope := p.scope, part := p.partId }
  u.setStr { u.str with noAdmit := (u.str.noAdmit ++ loadParts u).eraseDups }

/-- DRAINING begins now (R266). -/
def drainBegun (s : State) : State := setLdState (s.setLd { s.ld with drainTb := tb s }) 2

theorem drainBegun_admissionEnded_drainMs (s : State) (p : Pimg) : (drainBegun (admissionEnded s p)).ld.drainMs = s.ld.drainMs := by
  simp [drainBegun, admissionEnded, setLdState]

/-- LATE is set when APPLYING ends after the start `act` that was asked for; 0 asks for none (R266). -/
def lateNoted (s : State) (act : Nat) : State := if act ≠ 0 ∧ act < tb s then wrBits s (mgtBase + 0x408) 3 1 1 else s

/-! ### The loader's commands and events -/

theorem exec_drainLimit_of_early {s : State} (h : tb s < s.ld.drainTb + 1000000 * s.ld.drainMs) : exec .drainLimit s = .next s :=
  congrArg Host.Outcome.next (if_neg (by simp [h]))

section
variable {s : State} (hon : loaderOn s = true)
include hon

theorem exec_validate_of_on : exec .validate s = .next (startLoad s 1 0) := congrArg Host.Outcome.next (if_pos hon)

theorem exec_load_of_on (ms : Nat) : exec (.load ms) s = .next (startLoad s 2 ms) := congrArg Host.Outcome.next (if_pos hon)

theorem exec_cancel_of_on : exec .cancel s = .next (cancelLoad s) := congrArg Host.Outcome.next (if_pos hon)

theorem exec_drainLimit_of_passed (hst : ldState s = 2) (h : s.ld.drainTb + 1000000 * s.ld.drainMs ≤ tb s) :
    exec .drainLimit s = .next ((loadParts s).foldl (fun s q => abortPartition s q 0x0F42) s) :=
  congrArg Host.Outcome.next (if_pos (by simp [hon, hst, h]))

theorem exec_drainEnd_of_drained (hst : ldState s = 2) (hbist : bistDone s = true)
    (hrun : (runningTasks s).any (fun x => (loadParts s).contains (partOf s x.1)) = false) : exec .drainEnd s = .next (beginApply s) :=
  congrArg Host.Outcome.next (if_pos (by rw [hon, hst, hbist, hrun]; rfl))

theorem exec_validationEnd_of_finding {e : LdErr} (hst : ldState s = 1) (he : validate s s.ld.staged = .error e) :
    exec .validationEnd s = .next (failLoad s e) := by
  show execValidationEnd s = _
  rw [execValidationEnd, if_neg (by simp [hon, hst]), he]

theorem exec_validationEnd_of_passed {v} (hst : ldState s = 1) (hv : validate s s.ld.staged = .ok v) : exec .validationEnd s = .next (
    let u := imagePassed s
    let y := admissionEnded u (imgOf s s.ld.staged)
    let z := drainBegun y
    if s.ld.op = 1 then setLdState (u.setLd { u.ld with op := 0 }) 4
    else if unconfigured y && bistDone y then beginApply y
    else if s.ld.drainMs = 0 then (loadParts z).foldl (fun s q => abortPartition s q 0x0F42) z else z) := by
  have hop : (imagePassed s).ld.op = s.ld.op := congrArg Loader.op (imagePassed_ld s)
  have hms : (drainBegun (admissionEnded (imagePassed s) (imgOf s s.ld.staged))).ld.drainMs = s.ld.drainMs :=
    (drainBegun_admissionEnded_drainMs ..).trans (congrArg Loader.drainMs (imagePassed_ld s))
  show execValidationEnd s = _
  rw [execValidationEnd, if_neg (by simp [hon, hst]), hv, ← hop, ← hms]
  rfl

theorem exec_applyEnd_of_memError (hst : ldState s = 3) : exec (.applyEnd true) s = .next (
    let p := imgOf s s.ld.staged
    let t := failLoad s ⟨cStoreEcc, 0, 0⟩
    if p.scope = 0 then unconfigure t else stopPartition (resumeParts t) p.partId 0x0F43) := by
  show execApplyEnd true s = _
  simp [execApplyEnd, hon, hst]

theorem exec_applyEnd_of_applied (hst : ldState s = 3) : exec (.applyEnd false) s = .next (
    let p := imgOf s s.ld.staged
    let act := rd64 s (mgtBase + 0x420)
    let v := lateNoted (applyImage s p) act
    setLdState (setLdCode (v.setLd { v.ld with op := 0, starts := addStart v.ld.starts ⟨p.scope, p.partId, max act (tb v), 0⟩ }) 0) 4) := by
  show execApplyEnd false s = _
  simp [execApplyEnd, hon, hst, lateNoted]

end

/-- Settles O35: a command is `startLoad` or `cancelLoad` by the state of the loader; an image that passes ends, applies or drains by the load's
operation and the device's state; and APPLY_END ends by whether the memory failed. -/
theorem loadsRunFromCommandToDone : Obligations.LoadsRunFromCommandToDone := by
  unfold Obligations.LoadsRunFromCommandToDone
  refine ⟨fun ms s u hon hu => ?commands, fun s hon => ⟨fun e => exec_validationEnd_of_finding hon, fun v u hst hv hu => ?passed,
    fun hst hp => ?wholeDevice, fun hst hp => ?onePartition, fun u v hst hu hv => ?applied⟩⟩
  case commands =>
    rw [exec_validate_of_on hon, exec_load_of_on hon ms, exec_cancel_of_on hon]
    subst hu
    exact ⟨fun hidle => congrArg _ (startLoad_of_idle 0 hidle (by simp)), fun hidle hf => congrArg _ (startLoad_of_idle ms hidle fun _ => hf),
      fun h => ⟨congrArg _ (startLoad_of_loading 1 0 h), congrArg _ (startLoad_of_loading 2 ms h)⟩,
      fun h => congrArg _ (cancelLoad_of_validating h), fun h => congrArg _ (cancelLoad_of_draining h),
      fun h => congrArg _ (cancelLoad_of_applying h), fun _ => exec_drainLimit_of_early, exec_drainLimit_of_passed hon,
      exec_drainEnd_of_drained hon⟩
  case passed =>
    rw [exec_validationEnd_of_passed hon hst hv]
    subst hu
    refine ⟨fun hop => congrArg _ (if_pos hop), ?_⟩
    rintro x y hop rfl rfl
    refine ⟨fun hdev => ?_, fun hdev hms => ?_, fun hdev hms => ?_⟩
    · exact congrArg _ ((if_neg hop).trans (if_pos hdev))
    · exact congrArg _ ((if_neg hop).trans ((if_neg (Bool.eq_false_iff.1 hdev)).trans (if_neg hms)))
    · exact congrArg _ ((if_neg hop).trans ((if_neg (Bool.eq_false_iff.1 hdev)).trans (if_pos hms)))
  case wholeDevice => rw [exec_applyEnd_of_memError hon hst]; exact congrArg _ (if_pos hp)
  case onePartition => rw [exec_applyEnd_of_memError hon hst]; exact congrArg _ (if_neg hp)
  case applied =>
    subst hu hv
    exact exec_applyEnd_of_applied hon hst

end Sys2Proof.Machine
end

section
/-! SUPPORT. The DMA engine's transfers: how they are issued, the descriptor that they latch, what becomes of a move, and credit slots
(R280, R283, R287, R288, R294). -/

namespace Sys2Proof.Safety
open Sys2Proof.Machine

/-! ### Frames of a context -/

/-- Control words that change after a context widen its frame. -/
theorem OnlyCtx.trans_onlyWords {n c : Nat} {ws vs : List Nat} {s t u : State} (h : OnlyCtx n c ws s t) (k : OnlyWords vs t u) :
    OnlyCtx n c (ws ++ vs) s u := by
  obtain ⟨⟨heq, hcores, hwords⟩, hcore, hctx⟩ := h
  have hk : ∀ m, Machine.core u m = Machine.core t m := core_of_cores _ _ k.cores
  refine ⟨⟨?_, fun m hm => (hk m).trans (hcores m hm), fun a ha => ?_⟩, ?_, fun d hd => (ctxOf_of_cores _ _ k.cores n d).trans (hctx d hd)⟩
  · rw [k.cores]
    calc u = t.setCtl u.ctl := k.1
      _ = (s.setCtl u.ctl).setCores t.cores := by rw [heq]; rfl
  · rw [List.mem_append, not_or] at ha
    exact (k.2 a ha.2).trans (hwords a ha.1)
  · rw [hk n]
    exact hcore

end Sys2Proof.Safety

namespace Sys2Proof.Machine
open Sys2Proof.Safety

/-! ### Issue (R65) -/

section
variable {s : State} {n c k : Nat} {w : W128}

/-- A DMA instruction of the command's own KIND is issued to the DMA engine, and needs no budget. -/
theorem dmaIssue_of_kind (hk : xKind w = k) (run : State → State) :
    dmaIssue n c w k run s = .next (issue s n c w 0x08 7 0 (!unitBusy s n 7) true run) := by
  rw [dmaIssue, if_neg (fun hne => hne hk)]

/-- A free engine begins it. -/
theorem dmaIssue_of_free (hf : UnitFree s n c w 0x08 7) (hk : xKind w = k) (run : State → State) :
    dmaIssue n c w k run s = .next (run (nextPc s n c)) := by
  rw [dmaIssue_of_kind hk, hf.2.2]
  exact congrArg _ (issue_of_free hf 0 run)

end

/-! ### The descriptor of a transfer -/

theorem transferDesc_congr {s t : State} (hi : t.img = s.img) (hm : t.mem = s.mem) (n i : Nat) : transferDesc t n i = transferDesc s n i := by
  simp only [transferDesc, descOf_congr hi hm]

theorem transferDesc_nextPc (s : State) (n c i : Nat) : transferDesc (nextPc s n c) n i = transferDesc s n i :=
  transferDesc_congr (nextPc_img ..) (nextPc_mem ..) n i

theorem taskOf_nextPc (s : State) (n c d : Nat) : taskOf (nextPc s n c) n d = taskOf s n d :=
  congrArg Ctx.task (ctxOf_of_cores _ _ (nextPc_cores ..) n d)

section
variable {s : State} {n c d : Nat} {w : W128}

theorem openDesc_of_error {a : Abort} (h : transferDesc s n (xDesc w) = .error a) : openDesc s n c w = (dmaFault s n c (xDesc w) a, none) := by
  simp only [openDesc, h]

/-- Only the task input and the source slots (REL 1 and 2) are read through the reader. -/
theorem openDesc_of_direct {t : Task} (h : transferDesc s n (xDesc w) = .ok d) (h1 : tSrel d ≠ 1) (h2 : tSrel d ≠ 2)
    (ht : taskOf s n c = some t) : openDesc s n c w = (s, some (t, d)) := by
  simp [openDesc, h, h1, h2, ht]

end

/-! ### What becomes of a move (R280, R294) -/

section
variable {n c desc : Nat} {t : Task} {x : Moved} {save finish : State → Mover → State}

theorem afterMove_of_refused {st : Nat} (h : x.refusedAt = some st) :
    afterMove n c desc t x save finish = refused (save x.s x.m) t.activity (16 + st) := by
  simp only [afterMove, h]

theorem afterMove_of_error {a : Abort} (h : x.refusedAt = none) (he : x.err = some a) :
    afterMove n c desc t x save finish = dmaFault (save x.s x.m) n c desc a := by
  simp only [afterMove, h, he]

theorem afterMove_of_done (h : x.refusedAt = none) (he : x.err = none) :
    afterMove n c desc t x save finish = finish x.s x.m := by
  simp only [afterMove, h, he]

end

/-! ### TRANSFER (R287) -/

/-- The transfer of word `w` at the first byte of its descriptor `d`. -/
def newTransfer (w : W128) (d : Nat) : Transfer := { desc := xDesc w, csem := xCsem w, dsem := xDsem w, run := newRun d }

/-- It is under way: its context holds it, and DMA_STATUS shows it. -/
def transferBegun (s : State) (n c : Nat) (w : W128) (d : Nat) : State := setDmaActive (setTransfer s n c (newTransfer w d)) n c true

section
variable {s u : State} {n c d : Nat} {w : W128} {t : Task}

theorem exec_dmaTransfer_of_free (hf : UnitFree s n c w 0x08 7) (hk : xKind w = 0) :
    exec (.dmaTransfer n c w) s = .next (transferRun n c w (nextPc s n c)) := dmaIssue_of_free hf hk _

theorem transferRun_of_ended (h : openDesc s n c w = (u, none)) : transferRun n c w s = u := by
  simp only [transferRun, h]

/-- Credits, or another run of the core that goes first, leave a transfer at its first byte. -/
theorem transferRun_of_waits (h : openDesc s n c w = (u, some (t, d)))
    (hw : tSlotBytes d ≠ 0 ∨ dmaWaits (transferBegun u n c w d) n c (t.activity % 4) = true) :
    transferRun n c w s = transferBegun u n c w d := by
  simp only [transferRun, h]
  exact if_pos (by simpa [transferBegun, newTransfer] using hw)

theorem transferRun_of_moves (h : openDesc s n c w = (u, some (t, d))) (h0 : tSlotBytes d = 0)
    (hw : dmaWaits (transferBegun u n c w d) n c (t.activity % 4) = false) :
    transferRun n c w s = pumpTransfer (transferBegun u n c w d) n c (newTransfer w d) t
      (fun s m => setTransfer s n c { newTransfer w d with run := m }) := by
  simp only [transferRun, h]
  exact if_neg (by simpa [h0, transferBegun, newTransfer] using hw)

end

/-! ### TRANSFER_COMPLETE (R287) -/

/-- The context of a transfer is free of it, and DMA_STATUS shows it no more. -/
def transferFreed (s : State) (n c : Nat) : State := setDmaActive (setCtx s n c { ctxOf s n c with transfer := none }) n c false

section
variable {s : State} {n c : Nat} {t : Task} {x : Transfer} (ht : taskOf s n c = some t) (hon : codecOn s = true)
  (hx : (ctxOf s n c).transfer = some x)
include ht hon hx

/-- A transfer with nothing left to move ends. -/
theorem exec_transferComplete_of_moved
    (h : tSlotBytes x.run.d = 0 ∧ x.run.closed = true ∨ tSlotBytes x.run.d ≠ 0 ∧ tCredits x.run.d ≤ x.run.done) :
    exec (.transferComplete n c) s = .next (semSignal (transferFreed s n c) n c x.dsem 1) := by
  show execTransferComplete n c s = _
  simp only [execTransferComplete, hx, ht]
  rcases h with ⟨h0, hc⟩ | ⟨h0, hd⟩
  · simp [hon, h0, hc, transferFreed]
  · simp [hon, h0, Nat.not_lt.mpr hd, transferFreed]

/-- An uncredited transfer that was held moves what is left, and then ends. -/
theorem exec_transferComplete_of_held (h0 : tSlotBytes x.run.d = 0) (hc : x.run.closed = false)
    (hw : dmaWaits s n c (t.activity % 4) = false) : exec (.transferComplete n c) s =
      .next (pumpTransfer s n c x t (fun s _ => semSignal (transferFreed s n c) n c x.dsem 1)) := by
  show execTransferComplete n c s = _
  simp [execTransferComplete, hx, ht, hon, h0, hc, hw, transferFreed]

end

/-! ### What the end of a transfer leaves -/

theorem onlyCtx_setCtx (s : State) (n c : Nat) (x : Ctx) : OnlyCtx n c [] s (setCtx s n c x) := by
  refine ⟨⟨rfl, fun m hm => ?_, fun _ _ => rfl⟩, ?_, fun d hd => ?_⟩
  · rw [setCtx, core_setCore, if_neg hm]
  · rw [setCtx, core_setCore_self]
  · rw [ctxOf_setCtx, if_neg fun h => hd h.2]

theorem onlyWords_setDmaActive (s : State) (n c : Nat) (b : Bool) : OnlyWords [coreBase n 6 + 0x40] s (setDmaActive s n c b) :=
  onlyWords_wr32 _ _ _

theorem onlyCtx_transferFreed (s : State) (n c : Nat) : OnlyCtx n c [coreBase n 6 + 0x40] s (transferFreed s n c) :=
  (onlyCtx_setCtx ..).trans_onlyWords (onlyWords_setDmaActive ..)

theorem ctxOf_transferFreed (s : State) (n c : Nat) : ctxOf (transferFreed s n c) n c = { ctxOf s n c with transfer := none } := by
  rw [transferFreed, ctxOf_of_cores _ _ (onlyWords_setDmaActive ..).cores, ctxOf_setCtx_self]

theorem semOf_transferFreed (s : State) (n c : Nat) {i : Nat} (hi : i < 64) : semOf (transferFreed s n c) n i = semOf s n i := by
  obtain ⟨⟨-, -, hwords⟩, -⟩ := onlyCtx_transferFreed s n c
  unfold semOf rdBits
  rw [hwords _ (by simpa using semWord_ne_dmaStatus n i hi)]

/-! ### Credit slots (R288) -/

/-- The semaphore that gives the credits of a run: DSEM of a draining transfer, else CSEM. -/
abbrev creditSem (d csem dsem : Nat) : Nat := if tDrain d then dsem else csem

section
variable {s : State} {c csem dsem : Nat} {r : Run} {x : Mover}

theorem creditStep_of_credit (ho : x.opened = false) (hd : x.done < tCredits r.d) (hc : 0 < semOf s r.n (creditSem r.d csem dsem)) :
    creditStep s c r csem dsem x = some (move (setSem s r.n (creditSem r.d csem dsem) (semOf s r.n (creditSem r.d csem dsem) - 1)) c r
      (creditEnd r.d x.done) { x with opened := true }) := by
  simp [creditStep, creditSem, ho, Nat.not_le.mpr hd, Nat.pos_iff_ne_zero.mp hc]

theorem creditStep_of_none (ho : x.opened = false) (h : tCredits r.d ≤ x.done ∨ semOf s r.n (creditSem r.d csem dsem) = 0) :
    creditStep s c r csem dsem x = none := by
  rw [creditStep, if_pos (by simpa [creditSem, ho] using h)]

end

section
variable {s : State} {n who c desc csem dsem : Nat} {m : Mover} {t : Task} {save : State → Mover → State}

theorem creditSlot_of_moved {x : Moved} (h0 : tSlotBytes m.d ≠ 0) (hw : dmaWaits s n who (t.activity % 4) = false)
    (hx : creditStep s c (runOf n m t) csem dsem m = some x) (hr : x.refusedAt = none) (he : x.err = none) :
    creditSlot s n who c desc csem dsem m t save =
      semSignal (save x.s x.m.slotDone) n c (if tDrain x.m.d then csem else dsem) 1 := by
  rw [creditSlot, if_neg (by simp [h0, hw])]
  simp only [hx, afterMove_of_done hr he]

theorem creditSlot_of_none (h : creditStep s c (runOf n m t) csem dsem m = none) : creditSlot s n who c desc csem dsem m t save = s := by
  simp only [creditSlot, h, ite_self]

end

section
variable {s : State} {n : Nat} {t : Task} (hon : codecOn s = true)
include hon

theorem exec_creditSlotDone_of_transfer {c : Nat} {x : Transfer} (hc : c < 8) (ht : taskOf s n c = some t)
    (hx : (ctxOf s n c).transfer = some x) : exec (.creditSlotDone n c) s =
      .next (creditSlot s n c c x.desc x.csem x.dsem x.run t (fun s m => setTransfer s n c { x with run := m })) := by
  show execCreditSlotDone n c s = _
  simp [execCreditSlotDone, hon, hc, hx, ht]

theorem exec_creditSlotDone_of_stream {p : Nat} {x : PStream} (hx : pstream s n p = some x) (hp : x.parked = false)
    (ht : taskOf s n x.ctx = some t) : exec (.creditSlotDone n (8 + p)) s =
      .next (creditSlot s n (8 + p) x.ctx x.desc x.csem x.dsem x.run t (fun s m => setPstream s n p { x with run := m })) := by
  have hwho : ¬ 8 + p < 8 := Nat.not_lt.mpr (Nat.le_add_right 8 p)
  show execCreditSlotDone n (8 + p) s = _
  simp only [execCreditSlotDone, hon, Bool.not_true, Bool.false_eq_true, if_false, if_neg hwho, Nat.add_sub_cancel_left, hx, hp,
    Bool.false_and, ht]

end

/-- Settles O14: a free engine runs `transferRun` on the state of the next instruction; what becomes of a move is `afterMove`, and one slot
is `creditSlot`, for a transfer and for a stream alike. -/
theorem transfersMoveTheirBytes : Obligations.TransfersMoveTheirBytes := by
  unfold Obligations.TransfersMoveTheirBytes
  refine ⟨fun n c w s hk => issuesInOrder_of (dmaIssue_of_kind hk _), ?opens, ?begins, ?completes, ?credits⟩
  case opens =>
    rintro n c w s u - hk hf rfl
    refine ⟨fun r hr => ?_, fun a ha => openDesc_of_error ((transferDesc_nextPc ..).trans ha), fun t d ht hd h1 h2 => ?_⟩
    · rw [exec_dmaTransfer_of_free hf hk, transferRun_of_ended hr]
    · exact openDesc_of_direct ((transferDesc_nextPc ..).trans hd) h1 h2 ((taskOf_nextPc ..).trans ht)
  case begins =>
    rintro n c w t d s u v - hk hf hopen rfl
    rw [exec_dmaTransfer_of_free hf hk]
    refine ⟨fun hw => congrArg _ (transferRun_of_waits hopen hw), ?_⟩
    rintro m h0 hw rfl
    rw [transferRun_of_moves hopen h0 hw]
    exact ⟨fun hr he => congrArg _ (afterMove_of_done hr he), fun st hr => congrArg _ (afterMove_of_refused hr),
      fun a hr he => congrArg _ (afterMove_of_error hr he)⟩
  case completes =>
    refine fun n c t x s ht hon hx => ⟨fun h hi hle => ?_, ?_⟩
    · have hsem : semOf (transferFreed s n c) n x.dsem = semOf s n x.dsem := semOf_transferFreed s n c hi
      refine ⟨setSem (transferFreed s n c) n x.dsem (semOf s n x.dsem + 1), ?_, ?_, ?_, ?_⟩
      · rw [exec_transferComplete_of_moved ht hon hx h, semSignal_of_le (by omega), hsem]
      · rw [semOf_setSem, Nat.mod_eq_of_lt (by omega)]
      · rw [ctxOf_of_cores _ _ (setSem_cores ..), ctxOf_transferFreed]
      · exact (onlyCtx_transferFreed ..).trans_onlyWords (onlyWords_wr32 ..)
    · rintro m h0 hc hw rfl hr he
      rw [exec_transferComplete_of_held ht hon hx h0 hc hw]
      exact congrArg _ (afterMove_of_done hr he)
  case credits =>
    refine fun n c p t s hon => ⟨fun x m hc ht hx h0 hw hm hr he => ?_, fun x m hx hp ht h0 hw hm hr he => ?_,
      fun x hc ht hx ho hnone => ?_, fun r csem dsem x => creditStep_of_credit⟩
    · rw [exec_creditSlotDone_of_transfer hon hc ht hx, creditSlot_of_moved h0 hw hm hr he]
    · rw [exec_creditSlotDone_of_stream hon hx hp ht, creditSlot_of_moved h0 hw hm hr he]
    · rw [exec_creditSlotDone_of_transfer hon hc ht hx, creditSlot_of_none (creditStep_of_none ho hnone)]

end Sys2Proof.Machine
end

section
/-! SUPPORT. Persistent streams: how they start, are re-armed, pass and stop (R289, R290, R302, R461). -/

namespace Sys2Proof.Machine
open Sys2Proof.Safety

theorem pstream_nextPc (s : State) (n c p : Nat) : pstream (nextPc s n c) n p = pstream s n p := by
  rw [pstream, nextPc_core, pstream]

/-! ### PERSIST (R289) -/

section
variable {s r : State} {n c : Nat} {w : W128}

theorem exec_persist_of_free (hf : UnitFree s n c w 0x08 7) (hk : xKind w = 1) :
    exec (.persist n c w) s = .next (persistRun n c w (nextPc s n c)) := dmaIssue_of_free hf hk _

theorem persistRun_of_taken {x : PStream} (h : pstream s n (xSlot w) = some x) :
    persistRun n c w s = dmaFault s n c (xDesc w) ⟨cAddressRange, 0⟩ := by
  simp [persistRun, h]

theorem persistRun_of_ended (h : pstream s n (xSlot w) = none) (ho : openDesc s n c w = (r, none)) : persistRun n c w s = r := by
  simp [persistRun, h, ho]

/-- A stream that starts stands in its slot, and shows in DMA_STATUS and DMA_PST. -/
theorem persistRun_of_open {t : Task} {d : Nat} (h : pstream s n (xSlot w) = none) (ho : openDesc s n c w = (r, some (t, d))) :
    persistRun n c w s = wr64 (wrBits (setPstream r n (xSlot w)
      { ctx := c, desc := xDesc w, csem := xCsem w, dsem := xDsem w, run := newRun d })
      (coreBase n 6 + 0x40) (16 + xSlot w) 1 1) (pstReg n (xSlot w)) (1 + c * 4 + xDesc w * 2 ^ 16) := by
  simp [persistRun, h, ho]

end

/-! ### REARM and DMA_REARM (R290, R302) -/

section
variable {s : State} {n c d : Nat} {w : W128} {v : W32}

theorem exec_rearm_of_free (hf : UnitFree s n c w 0x08 7) (hk : xKind w = 2) :
    exec (.rearm n c w) s = .next (rearmRun n c w (nextPc s n c)) := dmaIssue_of_free hf hk _

theorem rearmRun_of_desc (h : descOf s n (xNdesc w) = .ok d) : rearmRun n c w s = rearmSlot s n (xSlot w) (tSrc d) (tDst d) := by
  simp only [rearmRun, h]

theorem exec_dmaRearm_of_desc (hon : codecOn s = true) (hc : coreClosed s n = false) (h : descOf s n (bits v.toNat 16 16) = .ok d) :
    exec (.dmaRearm n v) s = .next (rearmSlot s n (bits v.toNat 0 4) (tSrc d) (tDst d)) := by
  show execDmaRearm n v s = _
  simp [execDmaRearm, hon, hc, h]

/-- A gated core ignores the register (R17, R495). -/
theorem exec_dmaRearm_of_closed (hc : coreClosed s n = true) : exec (.dmaRearm n v) s = .next s := by
  show execDmaRearm n v s = _
  simp [execDmaRearm, hc]

/-- The first base set that waits is no overrun. -/
theorem rearmSlot_of_not_pending {p : Nat} {x : PStream} (src dst : Nat) (hx : pstream s n p = some x) (hp : x.pending = false) :
    rearmSlot s n p src dst =
      wrBits (setPstream s n p { x with nsrc := src, ndst := dst, pending := true }) (pstReg n p) 1 1 1 := by
  simp [rearmSlot, hx, hp]

end

/-! ### STOP (R289) -/

section
variable {s : State} {n c : Nat} {w : W128}

theorem exec_stop_of_free (hf : UnitFree s n c w 0x08 7) (hk : xKind w = 3) :
    exec (.stop n c w) s = .next (stopRun n w (nextPc s n c)) := dmaIssue_of_free hf hk _

theorem stopRun_of_stream {x : PStream} (h : pstream s n (xSlot w) = some x) :
    stopRun n w s = setPstream s n (xSlot w) { x with stopping := true } := by
  simp only [stopRun, h]

theorem stopRun_of_none (h : pstream s n (xSlot w) = none) : stopRun n w s = rearmDiscard s n := by
  simp only [stopRun, h]

end

/-! ### Passes (R289, R290) -/

section
variable {s : State} {n p : Nat} {t : Task} {x : PStream} (hon : codecOn s = true) (hx : pstream s n p = some x)
  (hp : x.parked = false) (ht : taskOf s n x.ctx = some t)
include hon hx hp ht

/-- With credits, a pass ends once all of its slots are done. -/
theorem exec_passBoundary_of_credits (h0 : tSlotBytes x.run.d ≠ 0) (hd : tCredits x.run.d ≤ x.run.done) :
    exec (.passBoundary n p) s = .next (passEnd s n p x) := by
  show execPassBoundary n p s = _
  simp [execPassBoundary, hx, hon, hp, ht, h0, Nat.not_lt.mpr hd]

/-- Without credits, a pass moves what is left of it, and then ends. -/
theorem exec_passBoundary_of_uncredited (h0 : tSlotBytes x.run.d = 0) (hw : dmaWaits s n (8 + p) (t.activity % 4) = false) :
    exec (.passBoundary n p) s = .next (afterMove n x.ctx x.desc t (move s x.ctx (runOf n x.run t) (tTotal x.run.d) x.run)
      (fun s m => setPstream s n p { x with run := m }) (fun s _ => passEnd s n p x)) := by
  show execPassBoundary n p s = _
  simp [execPassBoundary, hx, hon, hp, ht, h0, hw]

end

/-- PASSES of a stream's slot counts one more pass. -/
def passCounted (s : State) (n p : Nat) : State := wrBits s (pstReg n p + 4) 0 32 (rd32 s (pstReg n p + 4) + 1)

theorem passCounted_img (s : State) (n p : Nat) : (passCounted s n p).img = s.img := wrBits_img ..

/-- The count is not the register that freezes a partition (R461). -/
theorem frozen_passCounted (s : State) (n p part : Nat) : frozen (passCounted s n p) part = frozen s part := by
  have hword : rd32 (passCounted s n p) (shtBase + 0x58) = rd32 s (shtBase + 0x58) :=
    rd32_wr32_ne _ _ _ _ (by unfold shtBase pstReg coreBase; omega)
  rw [frozen, hword, frozen]

theorem partOf_congr {s t : State} (hi : t.img = s.img) (n : Nat) : partOf t n = partOf s n := by
  unfold partOf coreCfg; rw [hi]

section
variable (s : State) (n p : Nat) {x : PStream}

/-- A stream that is to stop leaves its slot. -/
theorem passEnd_of_stopping (h : x.stopping = true) :
    passEnd s n p x = semSignal (endPstream (passCounted s n p) n p) n x.ctx x.dsem 1 := by
  rw [passEnd, if_pos h, passCounted]

/-- The base set that waits is taken; the descriptor stays as the PERSIST latched it (R291). -/
theorem passEnd_of_pending (h : x.stopping = false) (hp : x.pending = true) : passEnd s n p x = semSignal (wrBits (setPstream
    (passCounted s n p) n p
    { x with run := { newRun x.run.d with src := x.nsrc, dst := x.ndst }, pending := false, parked := frozen s (partOf s n) })
    (pstReg n p) 1 1 0) n x.ctx x.dsem 1 := by
  have hpark : frozen (passCounted s n p) (partOf (passCounted s n p) n) = frozen s (partOf s n) := by
    rw [frozen_passCounted, partOf_congr (passCounted_img ..)]
  rw [passEnd, if_neg (by simp [h]), ← hpark]
  simp only [hp, if_true, passCounted]

end

/-- Settles O15: a free engine runs `persistRun`, `rearmRun` or `stopRun` on the state of the next instruction, where slots and descriptors
read as before; a pass ends in `passEnd`, by whether its stream is to stop. -/
theorem persistentStreamsRunInPasses : Obligations.PersistentStreamsRunInPasses := by
  unfold Obligations.PersistentStreamsRunInPasses
  refine ⟨fun n c w s => ⟨fun hk => issuesInOrder_of (dmaIssue_of_kind hk _), fun hk => issuesInOrder_of (dmaIssue_of_kind hk _),
    fun hk => issuesInOrder_of (dmaIssue_of_kind hk _)⟩, ?begins, ?passes⟩
  case begins =>
    rintro n c w v d s u rfl
    have hslot : pstream (nextPc s n c) n (xSlot w) = pstream s n (xSlot w) := pstream_nextPc ..
    refine ⟨fun r t hk hf hs ho => ?_, fun r hk hf hs ho => ?_, fun x hk hf hs => ?_, fun hk hf hd => ?_, exec_dmaRearm_of_desc,
      exec_dmaRearm_of_closed, fun p x src dst => rearmSlot_of_not_pending src dst, fun x hk hf hs => ?_, fun hk hf hs => ?_⟩
    · exact (exec_persist_of_free hf hk).trans (congrArg _ (persistRun_of_open (hslot.trans hs) ho))
    · exact (exec_persist_of_free hf hk).trans (congrArg _ (persistRun_of_ended (hslot.trans hs) ho))
    · exact (exec_persist_of_free hf hk).trans (congrArg _ (persistRun_of_taken (hslot.trans hs)))
    · exact (exec_rearm_of_free hf hk).trans (congrArg _ (rearmRun_of_desc ((descOf_nextPc ..).trans hd)))
    · exact (exec_stop_of_free hf hk).trans (congrArg _ (stopRun_of_stream (hslot.trans hs)))
    · exact (exec_stop_of_free hf hk).trans (congrArg _ (stopRun_of_none (hslot.trans hs)))
  case passes =>
    refine fun n p t x s hon hx hp ht => ⟨exec_passBoundary_of_credits hon hx hp ht, ?_, passEnd_of_stopping s n p, passEnd_of_pending s n p⟩
    rintro m h0 hw rfl hr he
    rw [exec_passBoundary_of_uncredited hon hx hp ht h0 hw]
    exact congrArg _ (afterMove_of_done hr he)

end Sys2Proof.Machine
end

section
/-! SUPPORT. The domains at a boundary: the counts and limits of budgets that a refill and a schedule's start write (R266, R322, R324, R350). -/

namespace Sys2Proof.Machine
open Sys2Proof.Safety

/-! ### One activity's budget of one resource -/

/-- Count and limit of activity `p.1` on resource `p.2`. -/
def budCell (s : State) (p : Nat × Nat) : Nat × Nat := (rd64 s (budRem p.1 p.2), rd64 s (budLim p.1 p.2))

/-- The register map has 32 activities with 64 resources each. -/
def IsBudget (p : Nat × Nat) : Prop := p.1 < 32 ∧ p.2 < 64

/-- The words of that count and limit. -/
def budWords (p : Nat × Nat) : List Nat := [budRem p.1 p.2, budRem p.1 p.2 + 4, budLim p.1 p.2, budLim p.1 p.2 + 4]

theorem budCell_of_ctl {s t : State} (h : t.ctl = s.ctl) (p : Nat × Nat) : budCell t p = budCell s p := by
  rw [budCell, rd64_of_ctl h, rd64_of_ctl h, budCell]

section
variable (s : State) {p q : Nat × Nat} (v : Nat)

theorem fst_ne_or_snd_ne (h : q ≠ p) : p.1 ≠ q.1 ∨ p.2 ≠ q.2 :=
  Decidable.not_and_iff_not_or_not.1 fun ⟨hfst, hsnd⟩ => h (Prod.ext hfst.symm hsnd.symm)

theorem budCell_wr64_rem (hp : IsBudget p) (hq : IsBudget q) : budCell (wr64 s (budRem p.1 p.2) v) q =
    if q = p then (v % 2 ^ 64, (budCell s p).2) else budCell s q := by
  obtain ⟨hp1, hp2⟩ := hp
  obtain ⟨hq1, hq2⟩ := hq
  have hlim : rd64 (wr64 s (budRem p.1 p.2) v) (budLim q.1 q.2) = rd64 s (budLim q.1 q.2) :=
    rd64_wr64_ne s v (by unfold budRem budLim; omega)
  split
  case isTrue h => rw [h] at hlim; rw [h, budCell, rd64_wr64, hlim, budCell]
  case isFalse h =>
    have hne := fst_ne_or_snd_ne h
    rw [budCell, hlim, rd64_wr64_ne s v (by unfold budRem; omega), budCell]

theorem budCell_wr64_lim (hp : IsBudget p) (hq : IsBudget q) : budCell (wr64 s (budLim p.1 p.2) v) q =
    if q = p then ((budCell s p).1, v % 2 ^ 64) else budCell s q := by
  obtain ⟨hp1, hp2⟩ := hp
  obtain ⟨hq1, hq2⟩ := hq
  have hrem : rd64 (wr64 s (budLim p.1 p.2) v) (budRem q.1 q.2) = rd64 s (budRem q.1 q.2) :=
    rd64_wr64_ne s v (by unfold budRem budLim; omega)
  split
  case isTrue h => rw [h] at hrem; rw [h, budCell, rd64_wr64, hrem, budCell]
  case isFalse h =>
    have hne := fst_ne_or_snd_ne h
    rw [budCell, hrem, rd64_wr64_ne s v (by unfold budLim; omega), budCell]

theorem onlyWords_wr64_rem : OnlyWords (budWords p) s (wr64 s (budRem p.1 p.2) v) := (onlyWords_wr64 ..).mono (by simp [budWords])

theorem onlyWords_wr64_lim : OnlyWords (budWords p) s (wr64 s (budLim p.1 p.2) v) := (onlyWords_wr64 ..).mono (by simp [budWords])

end

/-! ### Steps over budgets -/

/-- `step s p` writes the budget `p` alone, with what `f` makes of the image and of that budget. -/
structure WritesBudget (step : State → Nat × Nat → State) (f : Image → Nat × Nat → Nat × Nat → Nat × Nat) : Prop where
  words : ∀ s p, OnlyWords (budWords p) s (step s p)
  cell : ∀ s p q, IsBudget p → IsBudget q → budCell (step s p) q = if q = p then f s.img p (budCell s p) else budCell s q

namespace WritesBudget
variable {step : State → Nat × Nat → State} {f : Image → Nat × Nat → Nat × Nat → Nat × Nat} (h : WritesBudget step f)
include h

theorem onlyWords_foldl (l : List (Nat × Nat)) (s : State) : OnlyWords (l.flatMap budWords) s (l.foldl step s) := by
  induction l generalizing s with
  | nil => exact .refl ..
  | cons p l ih => exact ((h.words s p).mono (by simp)).trans ((ih (step s p)).mono (by simp))

/-- Over distinct budgets, each is written once, from what it was at first. -/
theorem budCell_foldl {l : List (Nat × Nat)} (hl : ∀ p ∈ l, IsBudget p) (hn : l.Nodup) {q : Nat × Nat} (hq : IsBudget q) (s : State) :
    budCell (l.foldl step s) q = if q ∈ l then f s.img q (budCell s q) else budCell s q := by
  induction l generalizing s with
  | nil => rfl
  | cons p l ih =>
    obtain ⟨hpl, hn⟩ := List.nodup_cons.1 hn
    rw [List.foldl_cons, ih (fun x hx => hl x (List.mem_cons_of_mem p hx)) hn, (h.words s p).img, h.cell s p q (hl p List.mem_cons_self) hq]
    by_cases hqp : q = p
    · subst hqp
      simp [hpl]
    · simp [hqp]

end WritesBudget

/-! ### Refills and starts (R266, R322) -/

/-- `B + min(M, 0)` for one budget. -/
def refillOne (s : State) (p : Nat × Nat) : State := setRem s p.1 p.2 ((rd64 s (budLim p.1 p.2) : Int) + min (remOf s p.1 p.2) 0)

/-- A budget as a refill leaves it. -/
def refilledCell (x : Nat × Nat) : Nat × Nat := (ofSigned 64 ((x.2 : Int) + min (toSigned 64 x.1) 0), x.2)

/-- One budget takes the image's value as its count and limit. -/
def startOne (s : State) (p : Nat × Nat) : State :=
  let b := SMap.get 0 s.img.budgets (p.1 * 64 + p.2)
  wr64 (wr64 s (budLim p.1 p.2) b) (budRem p.1 p.2) b

/-- A budget as the start of a schedule leaves it. -/
def startedCell (i : Image) (p : Nat × Nat) : Nat × Nat :=
  (SMap.get 0 i.budgets (p.1 * 64 + p.2) % 2 ^ 64, SMap.get 0 i.budgets (p.1 * 64 + p.2) % 2 ^ 64)

theorem ofSigned_lt (n : Nat) (x : Int) : ofSigned n x < 2 ^ n := by
  have hpos : (0 : Int) < ((2 ^ n : Nat) : Int) := Int.natCast_pos.2 (Nat.two_pow_pos n)
  have hlt := Int.emod_lt_of_pos x hpos
  have hge := Int.emod_nonneg x (Int.ne_of_gt hpos)
  unfold ofSigned
  omega

theorem writesBudget_refillOne : WritesBudget refillOne fun _ _ => refilledCell where
  words s p := onlyWords_wr64_rem s _
  cell s p q hp hq := by
    rw [refillOne, setRem, budCell_wr64_rem s _ hp hq, Nat.mod_eq_of_lt (ofSigned_lt ..)]
    rfl

theorem writesBudget_startOne : WritesBudget startOne fun i p _ => startedCell i p where
  words s _ := (onlyWords_wr64_lim s _).trans (onlyWords_wr64_rem _ _)
  cell s p q hp hq := by
    rw [startOne, budCell_wr64_rem _ _ hp hq, budCell_wr64_lim _ _ hp hp, budCell_wr64_lim _ _ hp hq, if_pos rfl]
    split <;> rfl

/-- The budgets of the activities `as` and the resources `rs`, by activity. -/
def budgetsOf (as rs : List Nat) : List (Nat × Nat) := as.flatMap fun a => rs.map (Prod.mk a)

theorem mem_budgetsOf {as rs : List Nat} {p : Nat × Nat} : p ∈ budgetsOf as rs ↔ p.1 ∈ as ∧ p.2 ∈ rs := by
  obtain ⟨a, r⟩ := p
  simp [budgetsOf, List.mem_flatMap, List.mem_map]

theorem nodup_budgetsOf {as rs : List Nat} (has : as.Nodup) (hrs : rs.Nodup) : (budgetsOf as rs).Nodup := by
  refine List.pairwise_flatMap.2 ⟨fun a _ => List.pairwise_map.2 (hrs.imp fun hne h => hne (Prod.mk.inj h).2), has.imp fun hne => ?_⟩
  intro x hx y hy hxy
  obtain ⟨r, _, rfl⟩ := List.mem_map.1 hx
  obtain ⟨q, _, rfl⟩ := List.mem_map.1 hy
  exact hne (Prod.mk.inj hxy).1

theorem refill_eq_foldl (s : State) (rs : List Nat) : refill s rs = (budgetsOf (List.range 32) rs).foldl refillOne s := by
  simp only [refill, budgetsOf, List.foldl_flatMap, List.foldl_map, refillOne]

theorem startBudgets_eq_foldl (s : State) (rs : List Nat) : startBudgets s rs = (budgetsOf (startActs s) rs).foldl startOne s := by
  simp only [startBudgets, budgetsOf, List.foldl_flatMap, List.foldl_map, startOne]

/-- Which activities start follows from the loads that finished and the period. -/
theorem startActs_congr {s t : State} (hld : t.ld = s.ld) (hper : period t = period s) : startActs t = startActs s := by
  unfold startActs startParts LoadStart.parts LoadStart.now
  rw [hld, hper]

section
variable {rs : List Nat}

/-- The words of the budgets of the resources `rs`. -/
def resourceWords (rs : List Nat) : List Nat := (budgetsOf (List.range 32) rs).flatMap budWords

theorem mem_resourceWords {x : Nat} :
    x ∈ resourceWords rs ↔
      ∃ a r, a < 32 ∧ r ∈ rs ∧ (x = budRem a r ∨ x = budRem a r + 4 ∨ x = budLim a r ∨ x = budLim a r + 4) := by
  simp [resourceWords, budWords, mem_budgetsOf, and_assoc]

theorem isBudget_of_mem_budgetsOf {as : List Nat} (has : ∀ a ∈ as, a < 32) (hrs : ∀ r ∈ rs, r < 64) :
    ∀ p ∈ budgetsOf as rs, IsBudget p := fun _ hp => ⟨has _ (mem_budgetsOf.1 hp).1, hrs _ (mem_budgetsOf.1 hp).2⟩

theorem lt_of_mem_startActs {s : State} {a : Nat} (h : a ∈ startActs s) : a < 32 := List.mem_range.1 (List.mem_filter.1 h).1

theorem onlyWords_refill (s : State) : OnlyWords (resourceWords rs) s (refill s rs) := by
  rw [refill_eq_foldl]
  exact writesBudget_refillOne.onlyWords_foldl ..

theorem onlyWords_startBudgets (s : State) : OnlyWords (resourceWords rs) s (startBudgets s rs) := by
  rw [startBudgets_eq_foldl]
  refine (writesBudget_startOne.onlyWords_foldl ..).mono fun x hx => ?_
  obtain ⟨p, hp, hx⟩ := List.mem_flatMap.1 hx
  obtain ⟨ha, hr⟩ := mem_budgetsOf.1 hp
  exact List.mem_flatMap.2 ⟨p, mem_budgetsOf.2 ⟨List.mem_range.2 (lt_of_mem_startActs ha), hr⟩, hx⟩

theorem onlyWords_takeBudgets (s : State) : OnlyWords (resourceWords rs) s (takeBudgets s rs) :=
  (onlyWords_refill s).trans (onlyWords_startBudgets _)

/-- A refill moves no boundary. -/
theorem startActs_refill (s : State) : startActs (refill s rs) = startActs s := by
  have h := onlyWords_refill (rs := rs) s
  have hper : period (refill s rs) = period s := by
    refine h.2 _ fun hm => ?_
    obtain ⟨a, r, _, _, hx⟩ := mem_resourceWords.1 hm
    unfold budRem budLim at hx
    omega
  exact startActs_congr (by rw [h.1, State.setCtl_ld]) hper

theorem budCell_takeBudgets (hrs : ∀ r ∈ rs, r < 64) (hn : rs.Nodup) {a r : Nat} (ha : a < 32) (hr : r ∈ rs) (s : State) :
    budCell (takeBudgets s rs) (a, r) = if (startActs s).contains a then startedCell s.img (a, r) else refilledCell (budCell s (a, r)) := by
  have hq : IsBudget (a, r) := ⟨ha, hrs r hr⟩
  have hstart := isBudget_of_mem_budgetsOf (rs := rs) (as := startActs s) (fun _ => lt_of_mem_startActs) hrs
  have hall := isBudget_of_mem_budgetsOf (rs := rs) (as := List.range 32) (fun _ => List.mem_range.1) hrs
  rw [takeBudgets, startBudgets_eq_foldl, startActs_refill, writesBudget_startOne.budCell_foldl hstart (nodup_budgetsOf (List.nodup_range.filter _) hn) hq,
    (onlyWords_refill s).img, refill_eq_foldl, writesBudget_refillOne.budCell_foldl hall (nodup_budgetsOf List.nodup_range hn) hq]
  simp only [mem_budgetsOf, hr, List.mem_range, ha, and_true, and_self, if_true, List.contains_iff_mem]

end

/-! ### BOUNDARY_TAKEN by domain (R324) -/

section
variable {s : State} (hon : mgmtOn s = true)
include hon

theorem exec_boundaryTaken_of_taken {d : Nat} (h : 3 < d ∨ SMap.get 0 s.dom d = period s) : exec (.boundaryTaken d) s = .next s := by
  show execBoundaryTaken d s = _
  rw [execBoundaryTaken, if_pos (by simpa [hon] using h)]

variable {u : State}

theorem exec_boundaryTaken_aclk (hu : u = s.setDom (SMap.set 0 s.dom 0 (period s))) (h : SMap.get 0 s.dom 0 ≠ period s) :
    exec (.boundaryTaken 0) s =
      .next (releasePeriods (freezeSwitch (degradedSwitch (scheduleStart (agePeriod (takeBudgets u (List.range 16))))))) := by
  show execBoundaryTaken 0 s = _
  rw [hu, execBoundaryTaken, if_neg (by simpa [hon] using h), if_neg (by decide)]
  rfl

theorem exec_boundaryTaken_hclk (hu : u = s.setDom (SMap.set 0 s.dom 1 (period s))) (h : SMap.get 0 s.dom 1 ≠ period s) :
    exec (.boundaryTaken 1) s = .next (takeBudgets u (range' 16 8)) := by
  show execBoundaryTaken 1 s = _
  rw [hu, execBoundaryTaken, if_neg (by simpa [hon] using h), if_neg (by decide)]
  rfl

theorem exec_boundaryTaken_links (h : SMap.get 0 s.dom 2 ≠ period s) : exec (.boundaryTaken 2) s = .next (takeFabricBoundary s) := by
  show execBoundaryTaken 2 s = _
  rw [execBoundaryTaken, if_neg (by simpa [hon] using h), if_pos rfl]

theorem exec_boundaryTaken_mclk (hu : u = s.setDom (SMap.set 0 s.dom 3 (period s))) (h : SMap.get 0 s.dom 3 ≠ period s) :
    exec (.boundaryTaken 3) s = .next (refillDeliveries u) := by
  show execBoundaryTaken 3 s = _
  rw [hu, execBoundaryTaken, if_neg (by simpa [hon] using h), if_neg (by decide)]
  rfl

end

/-- Settles O34: a domain that has not taken the boundary does its own part once; HCLK's is `takeBudgets`, which writes each budget of its
resources once. -/
theorem domainsTakeBoundaries : Obligations.DomainsTakeBoundaries := by
  unfold Obligations.DomainsTakeBoundaries
  refine fun d s u hon hu => ⟨fun h => exec_boundaryTaken_of_taken hon (.inr h), ?aclk, ?hclk, fun h => exec_boundaryTaken_of_taken hon (.inl h),
    ?early, ?links, ?mclk⟩
  case aclk =>
    rintro rfl h
    exact exec_boundaryTaken_aclk hon hu h
  case hclk =>
    rintro rfl h
    have hctl : u.ctl = s.ctl := by rw [hu, State.setDom_ctl]
    have hw : OnlyWords (resourceWords (range' 16 8)) u (takeBudgets u (range' 16 8)) := onlyWords_takeBudgets u
    have hacts : startActs u = startActs s := startActs_congr (by rw [hu, State.setDom_ld]) (rd32_of_ctl hctl _)
    refine ⟨_, exec_boundaryTaken_hclk hon hu h, hw.1, fun a r ha hlo hhi => ?_, fun x hx => ?_⟩
    · have hcell := budCell_takeBudgets (rs := range' 16 8) (fun r hr => by have := mem_range'.1 hr; omega) (by decide) ha
        (mem_range'.2 ⟨hlo, hhi⟩) u
      rw [budCell_of_ctl hctl, hacts, show u.img = s.img by rw [hu, State.setDom_img]] at hcell
      refine ⟨fun hno => ?_, fun hyes => ?_⟩
      · rw [hno, if_neg Bool.false_ne_true] at hcell
        simpa only [budCell, refilledCell, Prod.mk.injEq, remOf] using hcell
      · rw [if_pos hyes] at hcell
        simpa only [budCell, startedCell, Prod.mk.injEq] using hcell
    · rw [hw.2 x fun hm => ?_, rd32_of_ctl hctl]
      obtain ⟨a, r, ha, hr, heq⟩ := mem_resourceWords.1 hm
      obtain ⟨hlo, hhi⟩ := mem_range'.1 hr
      obtain ⟨h1, h2, h3, h4⟩ := hx a r ha hlo hhi
      simp [h1, h2, h3, h4] at heq
  case early =>
    rintro rfl h hlt
    rw [exec_boundaryTaken_links hon h, takeFabricBoundary, if_pos (by simp [hlt])]
  case links =>
    rintro rfl h hle
    rw [exec_boundaryTaken_links hon h, takeFabricBoundary, if_neg (by simp [h, hle]), hu]
    rfl
  case mclk =>
    rintro rfl h
    exact exec_boundaryTaken_mclk hon hu h

end Sys2Proof.Machine
end

section
/-! SUPPORT. Period boundaries and the budgets that the domains refill when they take one (R319, R322 to R324). -/

namespace Sys2Proof.Machine
open Sys2Proof.Safety

/-! ### The time base's next boundary -/

theorem periodNs_pos (s : State) : 0 < periodNs s := by
  unfold periodNs
  split <;> omega

theorem lt_nextBoundary (s : State) : tb s < nextBoundary s := by
  rw [nextBoundary, Nat.mul_comm]
  exact Nat.lt_mul_div_succ (tb s) (periodNs_pos s)

theorem nextBoundary_le (s : State) : nextBoundary s ≤ tb s + periodNs s := by
  rw [nextBoundary, Nat.succ_mul]
  exact Nat.add_le_add_right (Nat.div_mul_le_self ..) _

/-- The words that a boundary writes: the period number and the instant of the next boundary (R323). -/
def boundaryWords (s : State) : State := wr64 (wr32 s (budBase + 0x40) ((period s + 1) % 2 ^ 32)) (budBase + 0x48) (nextBoundary s)

theorem onlyWords_boundaryWords (s : State) : OnlyWords [budBase + 0x40, budBase + 0x48, budBase + 0x4C] s (boundaryWords s) :=
  ((onlyWords_wr32 ..).mono (by simp)).trans ((onlyWords_wr64 ..).mono (by simp))

theorem period_boundaryWords (s : State) : period (boundaryWords s) = (period s + 1) % 2 ^ 32 := by
  unfold period boundaryWords
  rw [(onlyWords_wr64 ..).2 _ (by decide), rd32_wr32_self, Nat.mod_mod, period]

theorem boundaryWords_ld (s : State) : (boundaryWords s).ld = s.ld := (wr64_ld ..).trans (wr32_ld ..)

theorem rd64_boundaryWords (s : State) : rd64 (boundaryWords s) (budBase + 0x48) = nextBoundary s % 2 ^ 64 := rd64_wr64 ..

/-- The schedules that await their start, and those of them that start at this boundary (R266). -/
def startsMarked (s : State) (now : Nat) : List LoadStart :=
  (s.ld.starts.filter (fun x => x.waits s)).map (fun x => if x.at_ ≠ 0 || decide (x.tb ≤ tb s) then { x with at_ := now + 1 } else x)

theorem boundary_of_no_starts {s : State} (h : s.ld.starts = []) : boundary s = boundaryWords s :=
  if_pos ((congrArg Loader.starts (boundaryWords_ld s)).trans h)

theorem boundary_eq (s : State) : boundary s =
    (boundaryWords s).setLd { (boundaryWords s).ld with starts := startsMarked s (period (boundaryWords s)) } := by
  by_cases h : s.ld.starts = []
  · have hsame : startsMarked s (period (boundaryWords s)) = (boundaryWords s).ld.starts := by rw [boundaryWords_ld, startsMarked, h]; rfl
    rw [boundary_of_no_starts h, hsame]
    rfl
  · exact if_neg fun h0 => h ((congrArg Loader.starts (boundaryWords_ld s)).symm.trans h0)

/-- Settles O33: a boundary is `boundaryWords` and `startsMarked`; the next boundary is the first multiple of the period after the time base. -/
theorem periodsFollowTheTimeBase : Obligations.PeriodsFollowTheTimeBase := by
  unfold Obligations.PeriodsFollowTheTimeBase
  refine fun s => ⟨fun hon hdue => ?_, fun h => ?_, lt_nextBoundary s, nextBoundary_le s, Nat.mul_mod_left ..⟩
  · have hexec : exec .periodBoundary s = .next (boundary s) := congrArg Host.Outcome.next (if_pos (by simp [hon, hdue]))
    refine ⟨_, hexec, ?_, ?_, fun h => ?_, boundaryWords s, onlyWords_boundaryWords s, ?_, ?_⟩
    · rw [boundary_eq]
      exact period_boundaryWords s
    · rw [boundary_eq, rd64_setLd, rd64_boundaryWords]
    · rw [boundary_of_no_starts h]
      exact onlyWords_boundaryWords s
    · rw [boundary_eq, State.setLd_ld]
    · rw [boundary_eq]
      simp only [State.setLd_ld, startsMarked, LoadStart.waits, Bool.or_eq_true, decide_eq_true_eq]
      rfl
  · exact congrArg Host.Outcome.next (if_neg (by simp [h]))

end Sys2Proof.Machine
end

section
/-! SUPPORT. The stream table's commands, rings and doorbells (R306, R307, R310, R315, R330, R380, R423; log entry 103). -/

namespace Sys2Proof.Machine
open Sys2Proof.Safety

/-! ### ENTRY_READ (R330) -/

/-- The words of STR_EDATA. -/
def edataWords : List Nat := (List.range 16).map fun k => strBase + 0x100 + 4 * k

/-- STR_EDATA shows the entry `e`. -/
def edataShown (s : State) (e : Nat) : State :=
  (List.range 16).foldl (fun s k => wr32 s (strBase + 0x100 + 4 * k) (bits e (32 * k) 32)) s

theorem onlyWords_edataShown (s : State) (e : Nat) : OnlyWords edataWords s (edataShown s e) :=
  List.foldlRecOn (motive := fun t => OnlyWords edataWords s t) _ _ (.refl ..) fun _ h k hk =>
    h.trans ((onlyWords_wr32 ..).mono fun _ hx => List.mem_map.2 ⟨k, hk, (List.mem_singleton.1 hx).symm⟩)

/-- Writes of the words up to `n` leave each with its value. -/
theorem rd32_foldl_wr32 (f : Nat → Nat) (base : Nat) (s : State) {k n : Nat} (hk : k < n) :
    rd32 ((List.range n).foldl (fun s k => wr32 s (base + 4 * k) (f k)) s) (base + 4 * k) = f k % 2 ^ 32 := by
  induction n with
  | zero => omega
  | succ n ih =>
    rw [List.range_succ, List.foldl_append, List.foldl_cons, List.foldl_nil]
    by_cases h : k = n
    · rw [h, rd32_wr32_self]
    · rw [rd32_wr32_ne _ _ _ _ (by omega), ih (by omega)]

theorem rd32_edataShown (s : State) (e : Nat) {k : Nat} (hk : k < 16) :
    rd32 (edataShown s e) (strBase + 0x100 + 4 * k) = bits e (32 * k) 32 := by
  rw [edataShown, rd32_foldl_wr32 (fun k => bits e (32 * k) 32) _ s hk, bits, Nat.mod_mod]

theorem onlyWords_estat_zero (s : State) : OnlyWords [strBase + 0x44] s (estat s 0) := onlyWords_wr32 ..

theorem onlyWords_entryShown (s : State) (e : Nat) : OnlyWords ((strBase + 0x44) :: edataWords) s (estat (edataShown s e) 0) :=
  ((onlyWords_edataShown s e).mono (List.subset_cons_self ..)).trans ((onlyWords_estat_zero _).mono (by simp))

theorem rdBits_estat_zero (s : State) : rdBits (estat s 0) (strBase + 0x44) 16 16 = 0 := by
  show bits (rd32 (wrBits s (strBase + 0x44) 16 16 0) (strBase + 0x44)) 16 16 = 0
  rw [rd32_wrBits, if_pos rfl]
  unfold setBits bits
  have := rd32_lt s (strBase + 0x44)
  simp only [Nat.shiftRight_eq_div_pow]
  omega

/-! ### ENTRY_WRITE and ENTRY_CREATE (R306, R307, R423) -/

/-- STR_EDATA as an entry with no device field set that a WRITE gives no value. -/
def newEntry (s : State) : W512 := ebSet (ebSet (edata s) 38 1 0) 58 2 0

/-- What the device keeps of stream `i` starts afresh. -/
def streamFresh (s : State) (i : Nat) : State :=
  let r := s.str
  s.setStr { r with
    sinceKey := SMap.set 0 r.sinceKey i 0, keyCount := SMap.set 0 r.keyCount i 0, readers := SMap.set {} r.readers i {},
    dropped := SMap.set [] r.dropped i [], epochSent := SMap.set [] r.epochSent i [],
    tokens := SMap.set [] (SMap.set [] r.tokens (2 * i) []) (2 * i + 1) [], ivNext := SMap.set 0 r.ivNext i 0 }

/-- Entry `i` becomes `e` with status 0. -/
def entryMade (s : State) (i : Nat) (e : W512) : State := setEntry (estat (streamFresh s i) 0) i e

theorem takePrefix_next (s : State) : (takePrefix s).2.drk.next = s.drk.next + 1 := by
  rw [takePrefix]
  dsimp only
  split <;> rfl

section
variable {s : State} {i : Nat} (hok : entryCmdOk s i = true)
include hok

theorem exec_entryRead_of_ok : exec (.entryRead i) s = .next (estat (edataShown s (entry s i).toNat) 0) := by
  show execEntryRead i s = _
  rw [execEntryRead, if_neg (by simp [hok])]
  rfl

theorem exec_entryWrite_of_ok : exec (.entryWrite i) s = .next (
    let m := mergeEntry (entry s i) (edata s)
    let dev (e : W512) : W512 := ebSet (ebSet (ebSet (ebSet e 37 1 0) 38 1 0) 58 2 0) 60 4 0
    if !eValid (entry s i) then estat s cEntryInvalid
    else if dev m ≠ dev (edata s) then estat s cEntryBusy
    else if changeBad s m then estat s cEntryInvalid
    else admitRing (setEntry (estat s 0) i m) (eInRing m)) := by
  show execEntryWrite i s = _
  rw [execEntryWrite, if_neg (by simp [hok])]

theorem exec_entryCreate_of_valid (h : eValid (entry s i) = true) : exec (.entryCreate i) s = .next (estat s cEntryBusy) := by
  show execEntryCreate i s = _
  rw [execEntryCreate, if_neg (by simp [hok]), if_pos h]

theorem exec_entryCreate_of_new_invalid (h : eValid (entry s i) = false) (hnew : eValid (newEntry s) = false) :
    exec (.entryCreate i) s = .next (setEntry (estat s 0) i (BitVec.ofNat 512 (setBits (newEntry s).toNat 20 12 0))) := by
  show execEntryCreate i s = _
  rw [execEntryCreate, if_neg (by simp [hok]), if_neg (by simp [h]), if_pos (by simpa [newEntry] using hnew)]
  rfl

theorem exec_entryCreate_of_new_valid (h : eValid (entry s i) = false) (hnew : eValid (newEntry s) = true) :
    exec (.entryCreate i) s = .next (
      let e := newEntry s
      let sealed := eProt e && !eDecode e
      if entryStatus s e ≠ 0 then estat s (entryStatus s e)
      else if sealed && decide (s.drk.next ≥ ivPrefixes) then estat s 0x020C
      else if sealed then entryMade (takePrefix s).2 i (ebSet e 52 4 s.drk.next)
      else entryMade s i e) := by
  show execEntryCreate i s = _
  rw [execEntryCreate, if_neg (by simp [hok]), if_neg (by simp [h]), if_neg (by simpa [newEntry] using hnew)]
  by_cases hs : (eProt (newEntry s) && !eDecode (newEntry s)) = true
  · simp only [hs, if_true]
    simp only [newEntry] at hs
    simp only [hs, if_true]
    rfl
  · simp only [hs]
    simp only [newEntry] at hs
    simp only [hs]
    rfl

theorem exec_entryInvalidate_of_ok : exec (.entryInvalidate i) s =
    .next (if !eValid (entry s i) then estat s cEntryInvalid else invalidate (estat s 0) i cEntryInvalidated) := by
  show execEntryInvalidate i s = _
  rw [execEntryInvalidate, if_neg (by simp [hok])]

end

/-! ### Doorbells and rings (R310, R315, R380) -/

section
variable {s : State} {r : Nat} (hon : codecOn s = true)
include hon

theorem exec_doorbell_of_no_ring (i : Nat) (h : 16384 ≤ r ∨ ringEnabled s r = false ∨ ringKind s r < 2) :
    exec (.doorbell r i) s = .next (badDoorbell s r) := by
  show execDoorbell r i s = _
  rw [execDoorbell, if_pos hon, doorbell, if_pos (by simpa [or_assoc] using h)]

theorem exec_doorbell_of_submission (i : Nat) (hr : r < 16384) (hen : ringEnabled s r = true) (hk : ringKind s r = 2) :
    exec (.doorbell r i) s =
      .next (if (i + 65536 - ringCons s r) % 65536 > ringSlots s r then badDoorbell s r else setProd s r (i % 65536)) := by
  show execDoorbell r i s = _
  rw [execDoorbell, if_pos hon, doorbell, if_neg (by simp [hen, hk]; omega), if_pos hk]

theorem exec_doorbell_of_records (i : Nat) (hr : r < 16384) (hen : ringEnabled s r = true) (hk : 2 < ringKind s r) :
    exec (.doorbell r i) s =
      .next (if (i + 65536 - ringCons s r) % 65536 > ringFill s r then badDoorbell s r else moveCons s r (i % 65536)) := by
  show execDoorbell r i s = _
  rw [execDoorbell, if_pos hon, doorbell, if_neg (by simp [hen]; omega), if_neg (by omega)]

theorem exec_ringEnable_of_open {sess : Nat} (hr : r < 16384) (hs : sess = 0 ∨ (session s sess).isSome = true) (hen : ringEnabled s r = false) :
    exec (.ringEnable r sess) s = .next (
      if ringChecks s r && ringPages s r then bindRing (wrBits s (ringAt r + 12) 24 1 1) r sess
      else raise (wr32 s (strBase + 0xC8) (r + cRingInvalid * 2 ^ 16)) strBase cRingInvalid) := by
  have hclosed : (decide (sess ≠ 0) && (session s sess).isNone) = false := by
    rcases hs with h | h
    · simp [h]
    · simp [Option.isNone_eq_false_iff.2 h]
  have hr' : ¬ 16384 ≤ r := by omega
  show execRingEnable r sess s = _
  rw [execRingEnable, hclosed, if_neg (by simp [hon, hr']), enableRing, if_neg (by simp [hen])]

theorem exec_ringStall_of_stalled {x : OSlot} (hr : r < 16384) (hen : ringEnabled s r = true) (hk : 3 ≤ ringKind s r) (hfill : ringFill s r ≠ 0)
    (hx : oslot s r (ringCons s r) = some x) (hlen : x.len.isSome = true) (ht : x.tb + ringDrainUs s r * 1000 ≤ tb s) :
    exec (.ringStall r) s = .next (
      let u := arrive (sticky s strBase stickySTALL) 144 r
      hcpSend u (SMap.get 0 u.str.bound r - 1) 0x30 0 0 (beBytes 1 2 ++ beBytes 2 r ++ beBytes 2 0)) := by
  have hwait : ¬ (x.len.isNone || decide (tb s < x.tb + ringDrainUs s r * 1000)) = true := by
    simp [Option.isNone_eq_false_iff.2 hlen, ht]
  show execRingStall r s = _
  rw [execRingStall, if_neg (by simp [hon, hen, hfill]; omega), hx]
  exact congrArg _ (if_neg hwait)

end

/-- Settles O36: each command of the table is the first of its model's cases that applies; a READ writes the entry's words and the status word. -/
theorem entriesAndRingsFollowTheirCommands : Obligations.EntriesAndRingsFollowTheirCommands := by
  unfold Obligations.EntriesAndRingsFollowTheirCommands
  refine ⟨fun i s hok => ⟨?read, ?_, ?write, exec_entryCreate_of_valid hok, ?newInvalid, ?newValid, ?_, ?_⟩,
    fun r i sess x s hon => ⟨?_, ?_, ?_, ?_, ?_⟩⟩
  case read =>
    have hframe := onlyWords_entryShown s (entry s i).toNat
    have hstat := onlyWords_estat_zero (edataShown s (entry s i).toNat)
    refine ⟨_, exec_entryRead_of_ok hok, hframe.1, fun k hk => ?_, rdBits_estat_zero (edataShown s (entry s i).toNat), fun a ha hdata => ?_⟩
    · rw [hstat.2 _ fun hm => by have := List.mem_singleton.1 hm; omega, rd32_edataShown s _ hk]
    · refine hframe.2 a fun hm => ?_
      rcases List.mem_cons.1 hm with h | h
      · exact ha h
      · obtain ⟨k, hk, rfl⟩ := List.mem_map.1 h
        exact hdata k (List.mem_range.1 hk) rfl
  · intro h
    rw [exec_entryWrite_of_ok hok]
    exact congrArg _ (if_pos (by simp [h]))
  case write =>
    rintro m h rfl
    rw [exec_entryWrite_of_ok hok]
    have hv : ¬ (!eValid (entry s i)) = true := by simp [h]
    refine ⟨fun hdev => ?_, fun hdev hbad => ?_, fun hdev hbad => ?_⟩
    · exact congrArg _ ((if_neg hv).trans (if_pos hdev))
    · exact congrArg _ ((if_neg hv).trans ((if_neg (not_not_intro hdev)).trans (if_pos hbad)))
    · exact congrArg _ ((if_neg hv).trans ((if_neg (not_not_intro hdev)).trans (if_neg (Bool.eq_false_iff.1 hbad))))
  case newInvalid =>
    rintro e h rfl he
    exact exec_entryCreate_of_new_invalid hok h he
  case newValid =>
    rintro e r h rfl he
    rw [exec_entryCreate_of_new_valid hok h he]
    refine ⟨fun hst => congrArg _ (if_pos hst), fun hst hs => ?_, fun hst hs hend => ?_, fun u hst hs hleft => ?_⟩
    · rintro rfl
      refine congrArg _ ((if_neg (not_not_intro hst)).trans ((if_neg ?_).trans (if_neg (Bool.eq_false_iff.1 hs))))
      exact fun hc => Bool.eq_false_iff.1 hs (Bool.and_eq_true_iff.1 hc).1
    · exact congrArg _ ((if_neg (not_not_intro hst)).trans (if_pos (Bool.and_eq_true_iff.2 ⟨hs, decide_eq_true hend⟩)))
    · rintro rfl rfl
      refine ⟨takePrefix_next s, congrArg _ ((if_neg (not_not_intro hst)).trans ((if_neg ?_).trans (if_pos hs)))⟩
      exact fun hc => absurd (of_decide_eq_true (Bool.and_eq_true_iff.1 hc).2) (by omega)
  · intro h
    rw [exec_entryInvalidate_of_ok hok, if_neg (by simp [h])]
  · intro h
    rw [exec_entryInvalidate_of_ok hok, if_pos (by simp [h])]
  · exact exec_doorbell_of_no_ring hon i
  · intro hr hen hk
    rw [exec_doorbell_of_submission hon i hr hen hk]
    exact ⟨fun h => congrArg _ (if_neg (by omega)), fun h => congrArg _ (if_pos h)⟩
  · intro hr hen hk
    rw [exec_doorbell_of_records hon i hr hen hk]
    exact ⟨fun h => congrArg _ (if_neg (by omega)), fun h => congrArg _ (if_pos h)⟩
  · intro hr hs hen
    rw [exec_ringEnable_of_open hon hr hs hen]
    exact ⟨fun h => congrArg _ (if_pos h), fun h => congrArg _ (if_neg (Bool.eq_false_iff.1 h))⟩
  · exact exec_ringStall_of_stalled hon

end Sys2Proof.Machine
end

section
/-! SUPPORT. The ports: what arrives and what leaves, by the guards of each kind of frame (R311, R312, R361, R362, R366 to R369, R371, R392, R501;
log entry 83). -/

namespace Sys2Proof.Machine

/-! ### Media datagrams and assembly (R366) -/

section
variable {s : State} {p : Nat} {frame : List Byte}

theorem exec_mediaDatagram_of_no_udp (hp : p < 8) (hup : portUp s p = true) (h : mediaUdp s p = 0) :
    exec (.mediaDatagram p frame) s = .next (rxDrop s p) := by
  show execMediaDatagram p frame s = _
  rw [execMediaDatagram, if_neg (by simp [hup]; omega), if_pos h]

theorem exec_mediaDatagram_of_data {d : List Byte} (hp : p < 8) (hup : portUp s p = true) (h : mediaUdp s p ≠ 0)
    (hd : (packetFor s p (parseFrame frame)).bind (fun x => udpData x (mediaUdp s p)) = some d) {pass : Bool} {u : State}
    (ha : admitFrame s p (parseFrame frame) = (pass, u)) :
    exec (.mediaDatagram p frame) s = .next (if pass then mediaData u p d else u) := by
  show execMediaDatagram p frame s = _
  rw [execMediaDatagram, if_neg (by simp [hup]; omega), if_neg h, hd, ha]
  cases pass <;> rfl

theorem exec_icmpEchoRequest_of_media (hp : p < 8) (hup : portUp s p = true) : exec (.icmpEchoRequest p frame) s = .next (rxDrop s p) := by
  show execIcmpEchoRequest p frame s = _
  rw [execIcmpEchoRequest, if_neg (by simp [hup]), if_pos hp]

theorem exec_otherFrame_of_up (hup : portUp s p = true) : exec (.otherFrame p frame) s = .next (rxDrop s p) :=
  congrArg Host.Outcome.next (if_pos hup)

/-- The slot of the abandoned item `x` of ring `r` is free. -/
def itemAbandoned (s : State) (r : Nat) (x : Assembly) : State :=
  setIslot (s.setStr { s.str with asm := s.str.asm.filter (fun y => y ≠ x) }) r x.slot
    (some { stream := x.stream, item := x.item, bytes := 0, state := 0, free := true })

theorem exec_assemblyTimeout_of_late {r : Nat} {x : Assembly} (hp : p < 8) (hon : codecOn s = true)
    (hx : s.str.asm.find? (fun a => a.port = p && a.ring = r && decide (tb s ≥ a.started + rd32 s (portBase p + 0x48) * 1000)) = some x) :
    exec (.assemblyTimeout p r) s = .next (
      let u := itemAbandoned s r x
      portEvent (count64 (advanceIngress u r (ringSlots u r)) (portBase p + 0xA8) 1) p 2) := by
  show execAssemblyTimeout p r s = _
  rw [execAssemblyTimeout, hx]
  exact congrArg _ (if_neg (by simp [hon]; omega))

end

/-! ### Requests for the port's addresses (R361, R362, R371) -/

section
variable {s : State} {p : Nat} {frame : List Byte}

/-- The frame is a request of Ethernet and IPv4 in ARP's layout. -/
def ArpAsked (f : EFrame) : Prop :=
  f.etype = 0x0806 ∧ 28 ≤ f.pl.length ∧ beAt f.pl 0 2 = 1 ∧ beAt f.pl 2 2 = 0x0800 ∧ beAt f.pl 4 2 = 0x0604 ∧ beAt f.pl 6 2 = 1

/-- The answer of port `p` to the ARP request with data `a`. -/
def arpReply (p : Nat) (a : List Byte) : List Byte :=
  beBytes 2 1 ++ beBytes 2 0x0800 ++ beBytes 2 0x0604 ++ beBytes 2 2 ++ portMac p ++ slice a 24 4 ++ slice a 8 6 ++ slice a 14 4

theorem exec_arpRequest_of_asked {pass : Bool} {u : State} (hup : portUp s p = true) (htag : tagAccepted p (parseFrame frame) = true)
    (hask : ArpAsked (parseFrame frame)) (ha : admitFrame s p (parseFrame frame) = (pass, u)) : exec (.arpRequest p frame) s = .next (
      let a := (parseFrame frame).pl
      let tpa := List.replicate 12 0#8 ++ slice a 24 4
      if !pass then u
      else if !isV4 tpa || !ownIp u p tpa then u
      else enqueue u p 0 (etherFrame p (slice a 8 6) 0 0 0x0806 (arpReply p a))) := by
  obtain ⟨htyp, hlen, hhw, hproto, hsizes, hop⟩ := hask
  show execArpRequest p frame s = _
  rw [execArpRequest, if_neg (by simp [hup]), if_neg (by simp [htag, htyp, hhw, hproto, hsizes, hop]; omega), ha]
  cases pass <;> rfl

/-- The packet is a well-formed neighbour solicitation. -/
def NeighborAsked (x : IpPacket) : Prop :=
  x.proto = 58 ∧ x.hop = 255 ∧ 24 ≤ x.pl.length ∧ beAt x.pl 0 1 = 135 ∧ pseudoSum x.src x.dst 58 x.pl = 0

/-- The advertisement of `target` by port `p` to the sender of a solicitation, whose address is `src`. -/
def neighborReply (p : Nat) (target src : List Byte) : List Byte :=
  putBe (ipPacket target src 58 (icmp6 target src (beBytes 4 0x88000000 ++ beBytes 4 0x60000000 ++ target ++ beBytes 2 0x0201 ++ portMac p))) 7 1 255

section
variable {pass : Bool} {u : State} {x : IpPacket} (hup : portUp s p = true) (htag : tagAccepted p (parseFrame frame) = true)
  (htyp : (parseFrame frame).etype = 0x86DD) (hx : parseIp (parseFrame frame) = some x) (hask : NeighborAsked x)
include hup htag htyp hx hask

theorem exec_neighborSolicitation_of_stopped (ha : admitFrame s p (parseFrame frame) = (false, u)) :
    exec (.neighborSolicitation p frame) s = .next u := by
  obtain ⟨hproto, hhop, hlen, hmsg, hsum⟩ := hask
  show execNeighborSolicitation p frame s = _
  rw [execNeighborSolicitation, if_neg (by simp [hup]), if_pos (by simp [htyp, htag]), hx]
  exact congrArg _ ((if_neg (by simp [hproto, hhop, hmsg, hsum]; omega)).trans (by rw [ha]))

theorem exec_neighborSolicitation_of_own (ha : admitFrame s p (parseFrame frame) = (true, u))
    (hown : (ownIp u p (slice x.pl 8 16) || (8 ≤ p && slice x.pl 8 16 = linkLocal p)) = true) (hv6 : isV4 (slice x.pl 8 16) = false)
    (hsrc : allZero x.src = false) : exec (.neighborSolicitation p frame) s =
      .next (enqueue u p 0 (etherFrame p (parseFrame frame).smac 0 0 0x86DD (neighborReply p (slice x.pl 8 16) x.src))) := by
  obtain ⟨hproto, hhop, hlen, hmsg, hsum⟩ := hask
  show execNeighborSolicitation p frame s = _
  rw [execNeighborSolicitation, if_neg (by simp [hup]), if_pos (by simp [htyp, htag]), hx]
  refine congrArg _ ((if_neg (by simp [hproto, hhop, hmsg, hsum]; omega)).trans ?_)
  simp only [ha, hown, hv6, hsrc]
  rfl

end

theorem exec_icmpEchoRequest_of_v6 {x : IpPacket} (hup : portUp s p = true) (hp : 8 ≤ p) (hx : packetFor s p (parseFrame frame) = some x)
    (hlen : 8 ≤ x.pl.length) (hv6 : isV4 x.dst = false) (hproto : x.proto = 58) (hmsg : beAt x.pl 0 1 = 128)
    (hsum : pseudoSum x.src x.dst 58 x.pl = 0) : exec (.icmpEchoRequest p frame) s =
      .next (enqueue s p 0 (etherFrame p (parseFrame frame).smac 0 0 0x86DD
        (ipPacket x.dst x.src 58 (icmp6 x.dst x.src (putBe x.pl 0 1 129))))) := by
  show execIcmpEchoRequest p frame s = _
  rw [execIcmpEchoRequest, if_neg (by simp [hup]), if_neg (by omega), hx]
  refine congrArg _ ((if_neg (by omega)).trans ?_)
  rw [if_neg (by simp [hv6]), if_pos (by simp [hv6, hproto, hmsg, hsum])]

theorem exec_portLinkStateChange_of_down (hp : p < 10) (hon : mgmtOn s = true) (hact : codecOn s = true ∨ 8 ≤ p)
    (h : SMap.get false s.eth.down p = false) : exec (.portLinkStateChange p false) s = .next (
      portEvent (satCount64 (s.setEth { s.eth with down := SMap.set false s.eth.down p true }) (lfcBase + 0x280 + 8 * p) 1) p 0) := by
  have hact' : (!codecOn s && decide (p < 8)) = false := by
    rcases hact with hc | h8
    · simp [hc]
    · simp; omega
  show execPortLinkStateChange p false s = _
  rw [execPortLinkStateChange, hact', if_neg (by simp [hon, h]; omega)]
  rfl

end

/-! ### Egress (R312, R367 to R369, R501) -/

section
variable {s : State} {r : Nat} {x : OSlot}

/-- Ring `r` is an egress ring with an item, and its port may send. -/
def EgressReady (s : State) (r : Nat) : Prop :=
  codecOn s = true ∧ ringEnabled s r = true ∧ ringKind s r = 1 ∧ ringFill s r ≠ 0 ∧
    portUp s (ringPort s r) = true ∧ egressUdp s (ringPort s r) ≠ 0

/-- The item of index `i` of ring `r` is gone. -/
def itemFreed (s : State) (r i : Nat) : State := setCons (setOslot s r i none) r ((i + 1) % 65536)

/-- The datagrams of an item of `len` bytes, in the order of their offsets. -/
def itemSent (s : State) (r stream len : Nat) : State :=
  let item := SMap.get 0 s.eth.items r
  let m := max 1 (dataMax s r)
  let va := slotVa s r (ringCons s r)
  let data := hbmPeek s (ringPart s r) va len
  let u := (List.range (ceilDiv len m)).foldl (fun s k => sendDatagram s r stream item len (k * m) (min m (len - k * m)) data)
    (noteLost s (ringPart s r) va len)
  u.setEth { u.eth with items := SMap.set 0 u.eth.items r ((item + 1) % 2 ^ 32) }

theorem exec_egressItem_of_item {len : Nat} (h : EgressReady s r) (hx : oslot s r (ringCons s r) = some x) (hlen : x.len = some len) :
    exec (.egressItem r) s = .next (itemFreed (if len = 0 then s else itemSent s r x.stream len) r (ringCons s r)) := by
  obtain ⟨hon, hen, hkind, hfill, hup, hudp⟩ := h
  show execEgressItem r s = _
  have hgo : ¬ (!codecOn s || !ringEnabled s r || decide (ringKind s r ≠ 1) || decide (ringFill s r = 0) || !portUp s (ringPort s r) ||
      decide (egressUdp s (ringPort s r) = 0)) = true := by simp [hon, hen, hkind, hfill, hup, hudp]
  refine congrArg _ ((if_neg hgo).trans ?_)
  simp only [hx, hlen]
  split <;> rfl

variable {p q : Nat} {f : QFrame} {rest : List QFrame}

theorem exec_egressFrame_of_head (hup : portUp s p = true) (hq : q < 8) (hf : queueOf s p q = f :: rest) : exec (.egressFrame p q) s = .next (
    let n := frameTime p f.bytes.length
    if (longestOpening s p q).any (fun t => decide (t < n)) then
      portEvent (count64 (setQueue (noteWaiting s p q (!rest.isEmpty)) p q rest) (portBase p + 0xB8) 1) p 3
    else if (openFor s p q).any (fun t => decide (t < n)) then
      if f.held then s else count64 (setQueue s p q ({ f with held := true } :: rest)) (portBase p + 0xB0) 1
    else if !maySendQueue s p q || (range' (q + 1) (7 - q)).any (maySendQueue s p) then s
    else transmit s p q f rest) := by
  show execEgressFrame p q s = _
  rw [execEgressFrame, if_neg (by simp [hup]; omega), hf]

end

/-- Settles O38: a frame that arrives meets the guards of its kind in order; what leaves is the oldest item of a ring or the head of a queue. -/
theorem portsTakeAndSendFrames : Obligations.PortsTakeAndSendFrames := by
  unfold Obligations.PortsTakeAndSendFrames
  refine ⟨?arrives, fun r p q x f rest s => ⟨?items, fun hup hq hf => ?frames⟩⟩
  case arrives =>
    rintro p r frame f a s rfl rfl
    refine ⟨fun hp hup => ⟨exec_mediaDatagram_of_no_udp hp hup, fun d hudp hd => ⟨fun u ha => exec_mediaDatagram_of_data hp hup hudp hd ha,
      fun u ha => exec_mediaDatagram_of_data hp hup hudp hd ha⟩, exec_icmpEchoRequest_of_media hp hup⟩, ?timeout, exec_otherFrame_of_up,
      fun v u hup htag ha => ⟨fun htyp hlen hhw hproto hsizes hop => ?arp, fun y htyp hy hproto hhop hlen hmsg hsum => ?neighbor⟩,
      fun x hup hp hx hlen hv6 hproto hmsg hsum => exec_icmpEchoRequest_of_v6 hup hp hx hlen hv6 hproto hmsg hsum, ?link⟩
    case timeout =>
      rintro x u hp hon hx rfl
      exact exec_assemblyTimeout_of_late hp hon hx
    case arp =>
      rw [exec_arpRequest_of_asked hup htag ⟨htyp, hlen, hhw, hproto, hsizes, hop⟩ ha]
      refine ⟨?_, fun hv hv4 hown => ?_⟩
      · rintro rfl
        rfl
      · subst hv
        exact congrArg _ ((if_neg (by decide)).trans (if_neg (by rw [hv4, hown]; decide)))
    case neighbor =>
      have hask : NeighborAsked y := ⟨hproto, hhop, hlen, hmsg, hsum⟩
      refine ⟨?_, ?_⟩
      · rintro rfl
        exact exec_neighborSolicitation_of_stopped hup htag htyp hy hask ha
      · rintro rfl hown hv6 hsrc
        exact exec_neighborSolicitation_of_own hup htag htyp hy hask ha hown hv6 hsrc
    case link =>
      rintro u hp hon hact h rfl
      exact exec_portLinkStateChange_of_down hp hon hact h
  case items =>
    intro hon hen hkind hfill hup hudp hx
    have hready : EgressReady s r := ⟨hon, hen, hkind, hfill, hup, hudp⟩
    refine ⟨fun hlen => exec_egressItem_of_item hready hx hlen, ?_⟩
    rintro len item m data u hlen h0 rfl rfl rfl rfl
    rw [exec_egressItem_of_item hready hx hlen, if_neg h0]
    rfl
  case frames =>
    rw [exec_egressFrame_of_head hup hq hf]
    refine ⟨fun hnever => congrArg _ (if_pos hnever), fun hfits hshut => ?_, fun hfits hopen hmay hhigher => ?_⟩
    · exact congrArg _ ((if_neg (Bool.eq_false_iff.1 hfits)).trans (if_pos hshut))
    · exact congrArg _ ((if_neg (Bool.eq_false_iff.1 hfits)).trans ((if_neg (Bool.eq_false_iff.1 hopen)).trans
        (if_neg (by simp [hmay, hhigher]))))

end Sys2Proof.Machine
end

section
/-! SUPPORT. HCP requests: what the request of each row does once its session accepts it, and how a request in order is executed and answered
(R377 to R381, R405, R418 to R420, R427, R511; log entries 33 to 36). -/

namespace Sys2Proof.Machine
open Sys2Proof.Safety

/-! ### Requests that a session accepts (R376, R404) -/

/-- The request's version is the session's, unless it is a HELLO, and the device is not in recovery. -/
def Accepted (s : State) (x : Session) (d : List Byte) : Prop :=
  (mType d = 1 ∨ (beAt d 2 1 = x.verMaj ∧ beAt d 3 1 = x.verMin)) ∧ recovery s = false

/-- What a request with payload `b` does, by its row. -/
def rowMeaning (s : State) (k : Nat) (x : Session) (b : List Byte) : Nat → Answer
  | 1 => helloAgain s k b
  | 2 => if b = [] then (0, [], s) else (cBadMessage, [], s)
  | 4 => hcpRead s k b
  | 5 => hcpWrite s k x b
  | 6 => hcpSubmit s b
  | 7 => hcpCons s b
  | 10 => hcpChallenge s k b
  | 11 => hcpAuth s k b
  | 12 => hcpReport s k b
  | 13 => hcpGet s x b
  | 14 => hcpUnlock s k x b
  | 15 => hcpLock s k b
  | 16 => hcpDebug s x b
  | _ => hcpXfer s x b

theorem hcpExec_of_accepted {s : State} {k row : Nat} {x : Session} {d : List Byte} (h : Accepted s x d) (hk : mKind d = row) (h0 : row ≠ 0) :
    hcpExec s k x d = rowMeaning s k x (mBody d) row := by
  obtain ⟨hver, hrec⟩ := h
  have hform : ¬ (mKind d = 0 || (mType d ≠ 1 && !(beAt d 2 1 = x.verMaj && beAt d 3 1 = x.verMin : Bool))) = true := by
    rcases hver with h1 | ⟨hmaj, hmin⟩
    · simp [hk, h0, h1]
    · simp [hk, h0, hmaj, hmin]
  rw [hcpExec, if_neg hform, if_neg (by simp [hrec]), hk]
  rfl

/-! ### Parameters, registers and rings (R313, R315, R378, R511) -/

section
variable {s : State} {k : Nat} {x : Session} {b : List Byte}

theorem helloAgain_of_bad (h : helloOk b = false) : helloAgain s k b = (cBadMessage, [], s) := by
  rw [helloAgain, if_pos (by simp [h])]

theorem helloAgain_of_version {v : Nat × Nat} (h : helloOk b = true)
    (hv : pickVersion s (beAt b 0 1, beAt b 1 1) (beAt b 2 1, beAt b 3 1) = some v) (hx : session s k = some x) :
    helloAgain s k b = (0, helloBytes v b, setSession s k (some (agree x v b))) := by
  rw [helloAgain, if_neg (by simp [h]), hv, hx]

theorem hcpRead_of_good (hlen : b.length = 6) (hacc : accessBad b = false) (hrec : recovery s = false) :
    hcpRead s k b = (0, readWords s (3 + k) (beAt b 4 1) (beAt b 0 4) (beAt b 5 1)) := by
  simp [hcpRead, hlen, hacc, hrec]

theorem hcpWrite_of_permitted (hlen : b.length = 6 + beAt b 4 1 * beAt b 5 1) (hacc : accessBad b = false) (hrec : recovery s = false)
    (hperm : bit x.policy 1 = false ∨ x.authed = true) :
    hcpWrite s k x b = (0, [], writeWords s (3 + k) k (beAt b 4 1) (beAt b 0 4) (b.drop 6) (beAt b 5 1)) := by
  have hauth : (bit x.policy 1 && !x.authed) = false := by rcases hperm with h | h <;> simp [h]
  simp only [hcpWrite, hacc, hlen, hrec, hauth]
  simp

/-- The submission ring `r` takes records: the codec side runs on an image whose partition is not stopped, and the ring is enabled. -/
def RingTakes (s : State) (r : Nat) : Prop :=
  codecOn s = true ∧ unconfigured s = false ∧ r < 16384 ∧ ringEnabled s r = true ∧
    ringKind s r = 2 ∧ SMap.get 0 s.str.stopCode (ringPart s r) = 0

theorem hcpSubmit_of_ring (hlen : b.length = 4 + 64 * beAt b 2 2) (hring : RingTakes s (beAt b 0 2)) : hcpSubmit s b =
    let r := beAt b 0 2
    let n := beAt b 2 2
    if ringFree s r < n then (cRingFull, [], raise s strBase cRingFull)
    else (0, [], setProd (putSubs s r (ringProd s r) (b.drop 4) n) r ((ringProd s r + n) % 65536)) := by
  obtain ⟨hon, himg, hr, hen, hkind, hstop⟩ := hring
  have hr' : ¬ 16384 ≤ beAt b 0 2 := by omega
  have h4 : ¬ 4 + 64 * beAt b 2 2 < 4 := by omega
  simp [hcpSubmit, hlen, h4, hon, himg, hr', hen, hkind, hstop]

theorem hcpCons_of_ring (hlen : b.length = 4) (hon : codecOn s = true) (hr : beAt b 0 2 < 16384) (hen : ringEnabled s (beAt b 0 2) = true)
    (hkind : 3 ≤ ringKind s (beAt b 0 2))
    (hfill : (beAt b 2 2 + 65536 - ringCons s (beAt b 0 2)) % 65536 ≤ ringFill s (beAt b 0 2)) :
    hcpCons s b = (0, [], moveCons s (beAt b 0 2) (beAt b 2 2)) := by
  have hr' : ¬ 16384 ≤ beAt b 0 2 := by omega
  have hkind' : ¬ ringKind s (beAt b 0 2) < 3 := by omega
  have hfill' : ¬ ringFill s (beAt b 0 2) < (beAt b 2 2 + 65536 - ringCons s (beAt b 0 2)) % 65536 := by omega
  simp [hcpCons, hlen, hon, hr', hen, hkind', hfill']

/-! ### Transfers into staging (R381, R405) -/

/-- An XFER of a length that R381 allows, which the session may make. -/
def XferAllowed (x : Session) (b : List Byte) : Prop := 9 ≤ b.length ∧ b.length ≤ 8201 ∧ (bit x.policy 2 = false ∨ x.authed = true)

theorem hcpXfer_of_allowed (h : XferAllowed x b) (ht : beAt b 0 1 ≤ 1) (hrec : recovery s = false) : hcpXfer s x b =
    if beAt b 0 1 = 0 then (if codecOn s then xferImage s (beAt b 1 8) (b.drop 9) else (cNotPermitted, [], s))
    else ((stageFw s (beAt b 1 8) (b.drop 9)).1, [], (stageFw s (beAt b 1 8) (b.drop 9)).2) := by
  obtain ⟨hlo, hhi, hperm⟩ := h
  have hauth : (bit x.policy 2 && !x.authed) = false := by rcases hperm with h | h <;> simp [h]
  rw [hcpXfer, if_neg (by simp; omega), hauth, hrec]
  rfl

/-- What continues the staged image is appended. -/
theorem xferImage_of_next {data : List Byte} (hload : loading s = false) (hne : s.ld.staged ≠ [])
    (hfit : s.ld.staged.length + data.length ≤ stagingBytes s) :
    xferImage s s.ld.staged.length data = (0, [], setStaged s (s.ld.staged ++ data)) := by
  have hfit' : ¬ stagingBytes s < s.ld.staged.length + data.length := by omega
  simp [xferImage, hload, hne, hfit']

/-! ### Challenges and the report (R418 to R420; log entries 35 and 36) -/

theorem hcpChallenge_of_session {y : Session} (hlen : b.length = 1) (hy : session (random s 32).2 k = some y) : hcpChallenge s k b =
    (0, (random s 32).1, setSession (random s 32).2 k (some { y with challenge := some ((random s 32).1, tb (random s 32).2) })) := by
  simp [hcpChallenge, hlen, hy]

theorem hcpAuth_of_key {c key : List Byte} {u : State} (hlen : b.length = 3342) (hz : zeroised s = false)
    (hc : useChallenge s k = (some c, u)) (hkey : ownerKey u (slice b 1 32) = some key) : hcpAuth s k b =
    if signs key c k 0 0 (slice b 33 3309) then (0, [], grant u k (fun x => { x with authed := true })) else (cNotPermitted, [], u) := by
  simp [hcpAuth, hlen, hz, hc, hkey]

theorem hcpReport_of_good (hlen : b.length = 33) (hz : zeroised s = false) :
    hcpReport s k b = (0, beBytes 4 4021, grant s k (fun x => { x with report := reportBytes s (b.drop 1) })) := by
  simp [hcpReport, hlen, hz]

theorem hcpGet_of_report (hlen : b.length = 4) (ho : beAt b 1 1 = 0) (hrep : x.report ≠ []) :
    hcpGet s x b = (0, (x.report.drop (beAt b 2 2 * 1024)).take 1024, s) := by
  simp [hcpGet, hlen, ho, hrep]

/-! ### Debug (R427; log entry 33) -/

/-- An owner's key grants scopes short of ownership reset. -/
theorem hcpUnlock_of_owner {c key : List Byte} {u : State} {scope : Nat} (hlen : b.length = 3343) (hb : scope = beAt b 3342 1) (hpos : 0 < scope)
    (hlt : scope < 4) (hz : zeroised s = false) (hc : useChallenge s k = (some c, u)) (hkey : unlockKey u (slice b 1 32) = some (1, key))
    (hsig : signs key c k 1 scope (slice b 33 3309) = true) (hpol : scope &&& scopesFor x.policy 1 = scope) : hcpUnlock s k x b =
    (0, [], grant (u.setDrk { u.drk with scopes := u.drk.scopes ||| scope }) k (fun y => { y with debug := y.debug ||| scope })) := by
  have hshort : bit scope 2 = false := by rw [bit, Nat.testBit_lt_two_pow hlt]
  have h7 : ¬ 7 < scope := by omega
  simp [hcpUnlock, hlen, ← hb, Nat.ne_of_gt hpos, h7, hz, hc, hkey, hsig, hpol, hshort]

theorem hcpLock_of_good (hlen : b.length = 1) : hcpLock s k b = (0, [], grant s k (fun y => { y with debug := 0 })) := by
  simp [hcpLock, hlen]

theorem hcpDebug_of_halt (hop : beAt b 0 1 = 2) (hscope : bit x.debug 0 = true) (hlen : b.length = 2) (hp : beAt b 1 1 ≤ 3)
    (hrun : cpuRuns s (beAt b 1 1) = true) :
    hcpDebug s x b = (0, [], setCpu s (beAt b 1 1) { cpu s (beAt b 1 1) with halted := true }) := by
  have hp' : ¬ 3 < beAt b 1 1 := by omega
  simp [hcpDebug, debugCpu, hop, hscope, hlen, hp', hrun]

theorem hcpDebug_of_locked (hop : beAt b 0 1 ≤ 6) (hscope : bit x.debug 0 = false) : hcpDebug s x b = (cNotPermitted, [], s) := by
  have h7 : ¬ 7 < beAt b 0 1 := by omega
  have hne : beAt b 0 1 ≠ 7 := by omega
  simp [hcpDebug, h7, hne, hscope]

end

/-! ### A request in order (R379) -/

section
variable {s u : State} {p k row : Nat} {frame d : List Byte} {x y : Session}

/-- Only the message's own row handles it. -/
theorem hcpFrame_of_carries (hc : CarriesMessage s p frame d k x) (hk : mKind d = row) : hcpFrame s row p frame = hcpMessage s k x d := by
  obtain ⟨hup, hp, hses, hx, i, hpkt, hudp⟩ := hc
  have hp' : ¬ p < 8 := by omega
  simp [hcpFrame, hup, hp', hpkt, hudp, hk, hses, hx]

theorem hcpMessage_of_in_order (hr : RequestInOrder s k d x u y) : hcpMessage s k x d = drainEarly (hcpNext u k y d) k 64 := by
  obtain ⟨hu, hy, hhead, _, htyp, hseq, _⟩ := hr
  have hu' : (if headOk d && bit (mFlags d) 1 then ackMessages (setSession s k (some { x with lastRx := tb s })) k (mAck d)
      else setSession s k (some { x with lastRx := tb s })) = u := by rw [hu, hhead, Bool.true_and]
  simp only [hcpMessage, hu', hy]
  rw [if_neg (by simp [htyp]), if_neg (by omega), if_pos hseq]

/-- An ACK takes what it acknowledges and executes nothing. -/
theorem hcpMessage_of_ack (hhead : headOk d = true) (htyp : mType d = 3) (hack : bit (mFlags d) 1 = true) :
    hcpMessage s k x d = ackMessages (setSession s k (some { x with lastRx := tb s })) k (mAck d) := by
  simp only [hcpMessage, hhead, htyp, hack]
  simp only [Bool.and_self, if_true]
  split <;> simp

/-- The state in which a request in order executes: its number is taken and an acknowledgement is due. -/
def numberTaken (u : State) (k : Nat) (y : Session) : State := setSession u k (some { y with rxSeq := y.rxSeq + 1, ackDue := true })

theorem accepted_numberTaken (hr : RequestInOrder s k d x u y) (hrec : recovery u = false) : Accepted (numberTaken u k y) y d := by
  obtain ⟨_, _, _, _, _, _, hver⟩ := hr
  exact ⟨hver, hrec⟩

theorem hcpNext_of_exec {a : Answer} (hresp : bit (mFlags d) 0 = false) (ha : hcpExec (numberTaken u k y) k y d = a) : hcpNext u k y d =
    let t := hcpAnswer (portCode a.2.2 y.port a.1) k (mType d) 1 a.1 a.2.1 (y.rxSeq + 1)
    if mKind d = 2 && a.1 = 0 then closeSession t k else t := by
  subst ha
  rw [hcpNext, if_neg (by simp [hresp])]
  rfl

/-- A request of row `row`, but for CLOSE, is answered with what it does. -/
theorem answers_of_exec {i : Instr} {a : Answer} (hc : CarriesMessage s p frame d k x) (hr : RequestInOrder s k d x u y)
    (hi : exec i s = .next (hcpFrame s row p frame)) (hk : mKind d = row) (hclose : row ≠ 2)
    (ha : hcpExec (numberTaken u k y) k y d = a) : Answers i s k d y a := by
  obtain ⟨_, _, _, hresp, _⟩ := id hr
  rw [Answers, hi, hcpFrame_of_carries hc hk, hcpMessage_of_in_order hr, hcpNext_of_exec hresp ha]
  simp [hk, hclose]

end

/-- Settles O42: an accepted request does what its row means, and each row's meaning is read off under that request's conditions. -/
theorem hcpRequestsTakeEffect : Obligations.HcpRequestsTakeEffect := by
  unfold Obligations.HcpRequestsTakeEffect
  rintro k d b x s rfl hmaj hmin hrec
  have hacc : Accepted s x d := ⟨.inr ⟨hmaj, hmin⟩, hrec⟩
  have does {row : Nat} {a : Answer} (hk : mKind d = row) (h0 : row ≠ 0) (ha : rowMeaning s k x (mBody d) row = a) : hcpExec s k x d = a :=
    (hcpExec_of_accepted hacc hk h0).trans ha
  refine ⟨fun hk h => ?_, fun v hk h hv hx => ?_, fun hk h => ?_, fun hk hlen hbad => ?_, fun hk hlen hbad hperm => ?_, ?submit, ?cons, ?image,
    fun hk hlo hhi ht hperm => ?_, fun y hk hlen hy => ?_, fun c key u hk hlen hz hc hkey => ?auth, fun hk hlen hz => ?_,
    fun hk hlen ho hrep => ?_, fun c key u scope hk hlen hb hpos hlt hz hc hkey hsig hpol => ?_, fun hk hlen => ?_,
    fun hk hop hscope hlen hp hrun => ?_, fun hk hop hscope => ?_⟩
  · exact does hk (by decide) (helloAgain_of_bad h)
  · exact does hk (by decide) (helloAgain_of_version h hv hx)
  · exact does hk (by decide) (if_pos h)
  · exact does hk (by decide) (hcpRead_of_good hlen hbad hrec)
  · exact does hk (by decide) (hcpWrite_of_permitted hlen hbad hrec hperm)
  case submit =>
    rintro r n hk rfl rfl hlen hon himg hr hen hkind hstop
    have hring := hcpSubmit_of_ring hlen ⟨hon, himg, hr, hen, hkind, hstop⟩
    exact ⟨fun hfree => does hk (by decide) (hring.trans (if_neg (by omega))), fun hfull => does hk (by decide) (hring.trans (if_pos hfull))⟩
  case cons =>
    rintro r i hk rfl rfl hlen hon hr hen hkind hfill
    exact does hk (by decide) (hcpCons_of_ring hlen hon hr hen hkind hfill)
  case image =>
    rintro t hk hlo hhi ht hperm hon hload hoff hne hfit rfl
    refine does hk (by decide) ((hcpXfer_of_allowed ⟨hlo, hhi, hperm⟩ (by omega) hrec).trans ?_)
    rw [if_pos ht, if_pos hon, hoff, xferImage_of_next hload hne hfit]
  · exact does hk (by decide) ((hcpXfer_of_allowed ⟨hlo, hhi, hperm⟩ (by omega) hrec).trans (if_neg (by omega)))
  · exact does hk (by decide) (hcpChallenge_of_session hlen hy)
  case auth =>
    have hauth := hcpAuth_of_key hlen hz hc hkey
    exact ⟨fun hsig => does hk (by decide) (hauth.trans (if_pos hsig)),
      fun hsig => does hk (by decide) (hauth.trans (if_neg (by simp [hsig])))⟩
  · exact does hk (by decide) (hcpReport_of_good hlen hz)
  · exact does hk (by decide) (hcpGet_of_report hlen ho hrep)
  · exact does hk (by decide) (hcpUnlock_of_owner hlen hb hpos hlt hz hc hkey hsig hpol)
  · exact does hk (by decide) (hcpLock_of_good hlen)
  · exact does hk (by decide) (hcpDebug_of_halt hop hscope hlen hp hrun)
  · exact does hk (by decide) (hcpDebug_of_locked hop hscope)

/-- Settles O43: a request in order is answered with what O42's rules say that it does in the state that has taken its number; an ACK executes
nothing, and CLOSE ends its session after the answer. -/
theorem hcpCommandsExecuteAndAnswer : Obligations.HcpCommandsExecuteAndAnswer := by
  unfold Obligations.HcpCommandsExecuteAndAnswer
  rintro p k frame d b x y s u v hc rfl
  refine ⟨fun hk hhead htyp hack => ?ack, fun hr hrecu hv => ?requests⟩
  case ack =>
    have hexec : exec (.ack p frame) s = .next (hcpMessage s k x d) := congrArg Host.Outcome.next (hcpFrame_of_carries hc hk)
    rw [hexec, hcpMessage_of_ack hhead htyp hack]
  obtain rfl : v = numberTaken u k y := hv
  have hacc : Accepted (numberTaken u k y) y d := accepted_numberTaken hr hrecu
  have hrec : recovery (numberTaken u k y) = false := hacc.2
  have does {i : Instr} {row : Nat} {a : Answer} (hi : exec i s = .next (hcpFrame s row p frame)) (hk : mKind d = row) (h0 : row ≠ 0 ∧ row ≠ 2)
      (ha : rowMeaning (numberTaken u k y) k y (mBody d) row = a) : Answers i s k d y a :=
    answers_of_exec hc hr hi hk h0.2 ((hcpExec_of_accepted hacc hk h0.1).trans ha)
  refine ⟨fun hk => ?_, fun hk hb => ?close, fun hk hlen hbad => ?_, fun hk hlen hbad hperm => ?_, ?submit, ?cons, ?image,
    fun hk hlo hhi ht hperm => ?_, fun z hk hlen hz => ?_, fun c key t hk hlen hz hc hkey hsig => ?_, fun hk hlen hz => ?_,
    fun hk hlen ho hrep => ?_, fun c key t scope hk hlen hb hpos hlt hz hc hkey hsig hpol => ?_, fun hk hlen => ?_,
    fun hk hop hscope hlen hp hrun => ?_⟩
  · exact does rfl hk (by decide) rfl
  case close =>
    obtain ⟨_, _, _, hresp, _⟩ := id hr
    have hgranted := (hcpExec_of_accepted (k := k) hacc hk (by decide)).trans (if_pos hb)
    have hexec : exec (.close p frame) s = .next (hcpMessage s k x d) := congrArg Host.Outcome.next (hcpFrame_of_carries hc hk)
    rw [hexec, hcpMessage_of_in_order hr, hcpNext_of_exec hresp hgranted, hk]
    rfl
  · exact does rfl hk (by decide) (hcpRead_of_good hlen hbad hrec)
  · exact does rfl hk (by decide) (hcpWrite_of_permitted hlen hbad hrec hperm)
  case submit =>
    rintro r n hk rfl rfl hlen hon himg hr hen hkind hstop hfree
    exact does rfl hk (by decide) ((hcpSubmit_of_ring hlen ⟨hon, himg, hr, hen, hkind, hstop⟩).trans (if_neg (by omega)))
  case cons =>
    rintro r i hk rfl rfl hlen hon hr hen hkind hfill
    exact does rfl hk (by decide) (hcpCons_of_ring hlen hon hr hen hkind hfill)
  case image =>
    intro hk hlo hhi ht hperm hon hload hoff hne hfit
    refine does rfl hk (by decide) ((hcpXfer_of_allowed ⟨hlo, hhi, hperm⟩ (by omega) hrec).trans ?_)
    rw [if_pos ht, if_pos hon, hoff, xferImage_of_next hload hne hfit]
  · exact does rfl hk (by decide) ((hcpXfer_of_allowed ⟨hlo, hhi, hperm⟩ (by omega) hrec).trans (if_neg (by omega)))
  · exact does rfl hk (by decide) (hcpChallenge_of_session hlen hz)
  · exact does rfl hk (by decide) ((hcpAuth_of_key hlen hz hc hkey).trans (if_pos hsig))
  · exact does rfl hk (by decide) (hcpReport_of_good hlen hz)
  · exact does rfl hk (by decide) (hcpGet_of_report hlen ho hrep)
  · exact does rfl hk (by decide) (hcpUnlock_of_owner hlen hb hpos hlt hz hc hkey hsig hpol)
  · exact does rfl hk (by decide) (hcpLock_of_good hlen)
  · exact does rfl hk (by decide) (hcpDebug_of_halt hop hscope hlen hp hrun)

end Sys2Proof.Machine
end

section
/-! SUPPORT. TASK_START on a core number that no part has: a pair of the image may name it, and its program counter is then a counter of
compressor channel 0 (R22, R300, R318, R490). -/

namespace Sys2Proof.Machine

/-! ### The program counter of a task that starts (R500) -/

theorem foldl_setPosCur_only (n : Nat) (xs : List (Nat × Nat)) (s : State) :
    ∃ m, xs.foldl (fun s x => setPosCur s n x.1 0) s = s.setMem m := by
  induction xs generalizing s with
  | nil => exact ⟨s.mem, rfl⟩
  | cons x xs ih =>
    obtain ⟨m, hm⟩ := ih (setPosCur s n x.1 0)
    exact ⟨m, hm.trans (by rw [setPosCur, storePoke_only]; rfl)⟩

/-- Walks lie in the descriptors, which are memory. -/
theorem resetWalks_only (s : State) (n pc : Nat) : ∃ m, resetWalks s n pc = s.setMem m := foldl_setPosCur_only ..

/-- Context `c` of core `n` runs task `t` from the entry's PC on. -/
def ctxStarted (s : State) (n c : Nat) (t : Task) (pc : Nat) : State :=
  setPc (setSeqStatus (setCtx s n c { ctxOf s n c with task := some t, hold := .none }) n c true false) n c pc

theorem setMem_setMem (s : State) (m q : Memory) : (s.setMem m).setMem q = s.setMem q := rfl

theorem occupy_eq (s : State) (n c : Nat) (t : Task) (e : SEntry) : occupy s n c t e =
    let u := resetWalks (ctxStarted s n c t e.pc) n e.pc
    storePoke u n ((coreCfg u n).taskBase + 64 * c) 64 (leNat (taskRecordBytes t)) := rfl

/-- What occupying a context writes beside that is memory. -/
theorem occupy_only (s : State) (n c : Nat) (t : Task) (e : SEntry) : ∃ m, occupy s n c t e = (ctxStarted s n c t e.pc).setMem m := by
  obtain ⟨m, hm⟩ := resetWalks_only (ctxStarted s n c t e.pc) n e.pc
  rw [occupy_eq, hm, storePoke_only, setMem_setMem]
  exact ⟨_, rfl⟩

theorem rd32_occupy_pc (s : State) (n c : Nat) (t : Task) (e : SEntry) :
    rd32 (occupy s n c t e) (coreBase n 0 + 0x80 + 8 * c) = e.pc % 2 ^ 14 := by
  obtain ⟨m, hm⟩ := occupy_only s n c t e
  rw [hm, rd32_setMem, ctxStarted, setPc, rd32_wr32_self]
  exact Nat.mod_eq_of_lt (by omega)

theorem taskOf_occupy (s : State) (n c : Nat) (t : Task) (e : SEntry) : taskOf (occupy s n c t e) n c = some t := by
  obtain ⟨m, hm⟩ := occupy_only s n c t e
  have hctx : ctxOf (ctxStarted s n c t e.pc) n c = { ctxOf s n c with task := some t, hold := .none } := by
    rw [ctxStarted, setPc, ctxOf_wr32, setSeqStatus, ctxOf_wr32, ctxOf_setCtx_self]
  rw [hm, taskOf, ctxOf_of_cores _ _ (State.setMem_cores ..), hctx]

theorem occupy_img (s : State) (n c : Nat) (t : Task) (e : SEntry) : (occupy s n c t e).img = s.img := by
  obtain ⟨m, hm⟩ := occupy_only s n c t e
  simp [hm, ctxStarted, setPc, setSeqStatus, setCtx, setCore]

/-! ### What a write of one byte counts at the compressor (R300, R303) -/

theorem hbmPut_only (s : State) (part va : Nat) (bs : List Byte) : ∃ m, hbmPut s part va bs = s.setMem m := by
  induction bs generalizing s va with
  | nil => exact ⟨s.mem, rfl⟩
  | cons b bs ih =>
    obtain ⟨m, hm⟩ := ih (hbmPutByte s part va (bs.length + 1) b) (vaAdd va 1)
    refine ⟨m, hm.trans ?_⟩
    unfold hbmPutByte
    split
    · rfl
    · split <;> rfl

/-- What a write into block `b` stores and counts, its bytes aside. -/
def blockCounted (s : State) (b : Nat) : State := countPacked (noteState s b) b (SMap.get 0 (noteState s b).mem.blk b)

theorem rd32_blockCounted (s : State) (b : Nat) :
    let a := blcBase (keyStack (b * 4096)) + 0xA0
    rd32 (blockCounted s b) a = (rd32 s a + 1) % 2 ^ 32 := by
  unfold blockCounted countPacked
  dsimp only
  rw [rd32_count64_ne _ _ _ _ (by omega) (by omega)]
  split
  · rw [rd32_count64_ne _ _ _ _ (by omega) (by omega), rd32_count64_ne _ _ _ _ (by omega) (by omega), rd32_count64_self]
    rfl
  · split
    · rw [rd32_count64_ne _ _ _ _ (by omega) (by omega), rd32_count64_ne _ _ _ _ (by omega) (by omega), rd32_count64_self]
      rfl
    · rw [rd32_count64_ne _ _ _ _ (by omega) (by omega), rd32_count64_self]
      rfl

theorem blockCounted_img_cores (s : State) (b : Nat) : (blockCounted s b).img = s.img ∧ (blockCounted s b).cores = s.cores := by
  unfold blockCounted countPacked noteState
  dsimp only
  split
  · simp
  · split <;> simp

/-- The page at `va` is page 0, writable and compressed. -/
def PackedAt (i : Image) (part va : Nat) : Prop := SMap.get 0 i.pages (part * 2 ^ 27 + bits (vaAdd va 0) 21 27) = 2 ^ 43 + 2 ^ 44

section
variable {s : State} {part va : Nat} (h : PackedAt s.img part va) (b : Byte)
include h

theorem hbmKey_of_packedAt : hbmKey s part (vaAdd va 0) = some (bits (vaAdd va 0) 0 21, true) := by
  have hpage : pageEntry s part (bits (vaAdd va 0) 21 27) = some (0, true, true) := by
    rw [pageEntry, h]
    decide
  simp [hbmKey, hpage]

theorem hbmPoke_of_packedAt : ∃ m, hbmPoke s part va [b] = blockCounted (s.setMem m) (bits (vaAdd va 0) 0 21 / 4096) := by
  obtain ⟨m, hm⟩ := hbmPut_only s part va [b]
  refine ⟨m, ?_⟩
  rw [hbmPoke, hm]
  simp only [List.length_singleton, List.range_one, List.filterMap_cons, List.filterMap_nil, hbmKey_of_packedAt h, List.filter_cons, if_true,
    List.filter_nil, List.map_cons, List.map_nil]
  rfl

theorem hbmPoke_img_cores_of_packedAt : (hbmPoke s part va [b]).img = s.img ∧ (hbmPoke s part va [b]).cores = s.cores := by
  obtain ⟨m, hm⟩ := hbmPoke_of_packedAt h b
  rw [hm]
  exact blockCounted_img_cores ..

theorem rd32_hbmPoke_of_packedAt : rd32 (hbmPoke s part va [b]) (blcBase 0 + 0xA0) = (rd32 s (blcBase 0 + 0xA0) + 1) % 2 ^ 32 := by
  obtain ⟨m, hm⟩ := hbmPoke_of_packedAt h b
  have hstack : keyStack (bits (vaAdd va 0) 0 21 / 4096 * 4096) = 0 := by
    unfold keyStack pageStack bits
    omega
  have hcount := rd32_blockCounted (s.setMem m) (bits (vaAdd va 0) 0 21 / 4096)
  rw [hstack] at hcount
  rw [hm]
  exact hcount

end

/-! ### The start of a key frame of an audio encode (R202, R318) -/

/-- A starting task with the number of its frame. -/
def frameNumbered (s : State) (t : Task) : Task :=
  if t.isFrame && !eDecode t.snap then
    { t with isKey := keyFrame s t, isRap := rapFrame s t,
             frame := (eFrameNext (entry s t.stream) + earlierFrames s t.stream t.order) % 2 ^ 32 }
  else t

/-- The task as it takes context `c` of core `n`, from `s` where it is ready and `u` where it no longer is. -/
def startedTask (s u : State) (t : Task) (n c : Nat) : Task :=
  let y := frameNumbered s t
  { y with qiStart := if t.isFrame && !eDecode t.snap && !eAudio y.snap then firstIndex y else 0, core := n, ctx := c,
           fabCounters := chanCounters u y.activity,
           saved := if y.isFrame && eAudio y.snap && earlierFrames s y.stream y.order = 0 then historyNow u n y else [] }

section
variable (s u : State) (t : Task) (n c : Nat)

theorem frameNumbered_fields : (frameNumbered s t).snap = t.snap ∧ (frameNumbered s t).sched = t.sched := by
  unfold frameNumbered
  split <;> exact ⟨rfl, rfl⟩

theorem startedTask_snap : (startedTask s u t n c).snap = t.snap := (frameNumbered_fields s t).1

theorem startedTask_sched : (startedTask s u t n c).sched = t.sched := (frameNumbered_fields s t).2

theorem startedTask_isKey (h : (t.isFrame && !eDecode t.snap) = true) : (startedTask s u t n c).isKey = keyFrame s t := by
  show (frameNumbered s t).isKey = _
  rw [frameNumbered, if_pos h]

end

theorem takeTaskSlots_of_taken {s : State} {t : Task} (e : SEntry) (h : t.slotsTaken = true) : takeTaskSlots s t e = (s, t) := by
  rw [takeTaskSlots, if_pos (by simp [h])]

/-- Task `t` is no longer ready. -/
def unreadied (s : State) (t : Task) : State := s.setStr { s.str with ready := s.str.ready.erase t }

/-- A key frame of an audio encode whose slots are taken occupies its context and takes a history of zeros. -/
theorem startOn_of_audioKey {s : State} {t : Task} {n c : Nat} {e : SEntry} (hslots : t.slotsTaken = true)
    (henc : (t.isFrame && !eDecode t.snap) = true) (haudio : eAudio t.snap = true) (hkey : keyFrame s t = true) :
    let y := startedTask s (unreadied s t) t n c
    let v := occupy (unreadied s t) n c y e
    let w := substitute v n c (zeroHistory v n y)
    startOn s t n c e = (w, (taskOf w n c).getD y) := by
  intro y v w
  have hsnap : eAudio y.snap = true := by rw [startedTask_snap, haudio]
  have hyk : y.isKey = true := by rw [startedTask_isKey s _ t n c henc, hkey]
  have hw : (if t.isFrame && !eDecode t.snap && eAudio y.snap && y.isKey then substitute v n c (zeroHistory v n y) else v) = w :=
    if_pos (by rw [henc, hsnap, hyk]; rfl)
  have hstart : startOn s t n c e =
      let w := if t.isFrame && !eDecode t.snap && eAudio y.snap && y.isKey then substitute v n c (zeroHistory v n y) else v
      (if t.isFrame && !eDecode t.snap && !eAudio y.snap then fillSlot w n c y else w, (taskOf w n c).getD y) := by
    rw [startOn, takeTaskSlots_of_taken _ hslots]
    rfl
  rw [hstart]
  dsimp only
  rw [hw, if_neg (by simp [hsnap])]

/-! ### A pair on core 10 -/

/-- An audio encode frame that is to be verified, with one channel and one sample. -/
def verifiedFrame : Task := { slotsTaken := true, snap := BitVec.ofNat 512 (2 ^ 2 + 2 ^ 3 + 2 ^ 192 + 2 ^ 208) }

/-- Where the program of entry 0 on core 10 keeps byte `i` of the history. -/
def historyVa (i : Nat) : Nat := vaAdd 0 (Config.histOffset 10 0 0 i)

/-- An image that the loader's checks would refuse: partition 0 pairs core 10 with core 0. Its model has one history dimension, and
the pages of the two bytes of history are page 0, writable and compressed. -/
def strayImage : Image :=
  { parts := [(0, { pairs := [(10, 0)] })], cores := [(10, { part := 0, progs := [(0, { entries := [{}] })] })],
    models := [(0, { bytes := List.replicate 18 0#8 ++ [1#8] })]
    pages := SMap.set 0 (SMap.set 0 [] (bits (vaAdd (historyVa 0) 0) 21 27) (2 ^ 43 + 2 ^ 44))
      (bits (vaAdd (historyVa 1) 0) 21 27) (2 ^ 43 + 2 ^ 44) }

/-- The frame is ready, and context 4 of core 10 is the one that may take it. -/
def strayState : State :=
  { pow := { st := .active }, img := strayImage, cores := [(10, { ctxs := [(4, { role := 1 })] })], str := { ready := [verifiedFrame] } }

theorem packedAt_history {i : Nat} (h : i = 0 ∨ i = 1) : PackedAt strayImage 0 (historyVa i) := by
  unfold PackedAt strayImage
  rw [Nat.zero_mul, Nat.zero_add]
  rcases h with rfl | rfl
  · simp only [SMap.get_set]
    split <;> rfl
  · simp only [SMap.get_set, if_true]

theorem zeroHistory_stray {u : State} {y : Task} (himg : u.img = strayImage) (hsnap : y.snap = verifiedFrame.snap) (hsched : y.sched = 0) :
    zeroHistory u 10 y = [(historyVa 0, [0#8]), (historyVa 1, [0#8])] := by
  have hgroups : eChans verifiedFrame.snap / max 1 (modelField strayState (eMslot verifiedFrame.snap) 35 1) = 1 := by decide +kernel
  have hbytes : histBytes strayState verifiedFrame.snap = 2 := by decide +kernel
  have hfield : ∀ m o n, modelField u m o n = modelField strayState m o n := fun m o n => by rw [modelField, himg]; rfl
  have hbytes' : histBytes u verifiedFrame.snap = 2 := by
    rw [← hbytes, histBytes, histBytes, mHop, mDim, hfield, hfield, mHop, mDim]
  have hbuf : eBufVa verifiedFrame.snap = 0 := by decide +kernel
  simp [zeroHistory, hsnap, hsched, mGw, hfield, hgroups, hbytes', hbuf, List.range_succ, historyVa]

/-- The program counter of context 4 of core 10 is the count of blocks that compressor channel 0 has stored. -/
theorem pcWord_eq_blcWord : coreBase 10 0 + 0x80 + 8 * 4 = blcBase 0 + 0xA0 := rfl

section
variable {v : State} (himg : v.img = strayImage)
include himg

theorem partOf_stray : partOf v 10 = 0 := by
  rw [partOf, coreCfg, himg]
  rfl

theorem packedAt_first : PackedAt v.img 0 (historyVa 0) := himg ▸ packedAt_history (.inl rfl)

theorem packedAt_second : PackedAt (hbmPoke v 0 (historyVa 0) [0#8]).img 0 (historyVa 1) := by
  rw [(hbmPoke_img_cores_of_packedAt (packedAt_first himg) _).1, himg]
  exact packedAt_history (.inr rfl)

/-- Each of the two bytes of history counts one block. -/
theorem rd32_substitute_history : rd32 (substitute v 10 4 [(historyVa 0, [0#8]), (historyVa 1, [0#8])]) (blcBase 0 + 0xA0) =
    ((rd32 v (blcBase 0 + 0xA0) + 1) % 2 ^ 32 + 1) % 2 ^ 32 := by
  rw [← rd32_hbmPoke_of_packedAt (packedAt_first himg) 0#8, ← rd32_hbmPoke_of_packedAt (packedAt_second himg) 0#8, substitute,
    partOf_stray himg, updTask, rd32_setCtx]
  rfl

theorem taskOf_substitute_history : ∃ old, taskOf (substitute v 10 4 [(historyVa 0, [0#8]), (historyVa 1, [0#8])]) 10 4 =
    (taskOf v 10 4).map (fun t => { t with saved := old ++ t.saved }) := by
  have hcores := (hbmPoke_img_cores_of_packedAt (packedAt_second himg) 0#8).2.trans (hbmPoke_img_cores_of_packedAt (packedAt_first himg) 0#8).2
  rw [substitute, partOf_stray himg]
  exact ⟨_, (ctxOf_updTask_task ..).trans (congrArg _ (congrArg Ctx.task (ctxOf_of_cores _ _ hcores 10 4)))⟩

end

theorem exec_taskStart_of_placed {s : State} {a n c : Nat} {t : Task} {e : SEntry} {ps : List (Nat × Nat × SEntry)} (hon : codecOn s = true)
    (ht : nextReady s a = some t) (hp : taskPlace s t = some (n, c, e))
    (hfree : (frozen s (partOf s n) || !slotsFree s t (slotEntry s n t e)) = false) (hps : stripePlaces s t n = some ps) :
    exec (.taskStart a) s = .next (
      let x := (startOn s t n c e).2
      let u := ps.foldl (fun s (m, d, e) => startStripe s x m d e) (startOn s t n c e).1
      if x.isFrame && !eDecode x.snap && dirtyInput u n x then abortTask u n c 0x0907 else u) := by
  show execTaskStart a s = _
  rw [execTaskStart, if_neg (by simp [hon]), ht]
  simp only [hp, hfree, hps]
  rfl

theorem dirtyInput_of_audio {s : State} {n : Nat} {t : Task} (h : eAudio t.snap = true) : dirtyInput s n t = false := by
  simp [dirtyInput, h]

/-- The frame as it takes its context. -/
def strayTask : Task := startedTask strayState (unreadied strayState verifiedFrame) verifiedFrame 10 4

/-- Core 10 runs the frame, whose history is still to be written. -/
def strayOccupied : State := occupy (unreadied strayState verifiedFrame) 10 4 strayTask {}

/-- Core 10 runs the frame with its history of zeros. -/
def strayStarted : State := substitute strayOccupied 10 4 (zeroHistory strayOccupied 10 strayTask)

theorem strayTask_snap : strayTask.snap = verifiedFrame.snap := startedTask_snap ..

theorem strayOccupied_img : strayOccupied.img = strayImage := occupy_img ..

theorem strayStarted_eq : strayStarted = substitute strayOccupied 10 4 [(historyVa 0, [0#8]), (historyVa 1, [0#8])] := by
  rw [strayStarted, zeroHistory_stray strayOccupied_img strayTask_snap (startedTask_sched ..)]

theorem pcOf_strayStarted : pcOf strayStarted 10 4 = 2 := by
  have hpc : rd32 strayOccupied (blcBase 0 + 0xA0) = 0 := rd32_occupy_pc ..
  have hword : rd32 strayStarted (blcBase 0 + 0xA0) = 2 := by
    have hcount := rd32_substitute_history strayOccupied_img
    rw [hpc, ← strayStarted_eq] at hcount
    exact hcount
  rw [pcOf, rdBits, pcWord_eq_blcWord, hword]
  decide

theorem taskOf_strayStarted_snap : ((taskOf strayStarted 10 4).getD strayTask).snap = verifiedFrame.snap := by
  obtain ⟨old, hold⟩ := taskOf_substitute_history strayOccupied_img
  have htask : taskOf strayOccupied 10 4 = some strayTask := taskOf_occupy ..
  rw [strayStarted_eq, hold, htask, Option.map_some, Option.getD_some, ← strayTask_snap]

/-- Refutes O32: its clause on the program counter binds the context's number and not the core's. A pair of the image that names core 10 starts
a verified audio key frame there; its history of zeros goes to compressed pages, and the two blocks that channel 0 then counts stand where the
clause reads the program counter of context 4, which is 2 and not the entry's 0. -/
theorem not_tasksStartAndEnd : ¬ Obligations.TasksStartAndEnd := by
  unfold Obligations.TasksStartAndEnd
  intro h
  have hon : codecOn strayState = true := by decide +kernel
  have hready : nextReady strayState 0 = some verifiedFrame := by decide +kernel
  have hplace : taskPlace strayState verifiedFrame = some (10, 4, {}) := by decide +kernel
  have hfrozen : frozen strayState (partOf strayState 10) = false := by decide +kernel
  have hslots : slotsFree strayState verifiedFrame (slotEntry strayState 10 verifiedFrame {}) = true := rfl
  have hstripes : stripePlaces strayState verifiedFrame 10 = some [] := by decide +kernel
  have haudio : eAudio verifiedFrame.snap = true := by decide +kernel
  have hstart : startOn strayState verifiedFrame 10 4 {} = (strayStarted, (taskOf strayStarted 10 4).getD strayTask) :=
    startOn_of_audioKey rfl (by decide +kernel) haudio (by decide +kernel)
  obtain ⟨u, x, hexec, -, -, -, -, -, hsnap, hpc, -⟩ :=
    (h.1 0 10 4 0 verifiedFrame {} [] ⟨0, 0, 0⟩ strayState hon).1 hready hplace hfrozen hslots hstripes
  have hrun := exec_taskStart_of_placed hon hready hplace (by rw [hfrozen, hslots]; rfl) hstripes
  have hclean : dirtyInput strayStarted 10 ((taskOf strayStarted 10 4).getD strayTask) = false :=
    dirtyInput_of_audio (by rw [taskOf_strayStarted_snap, haudio])
  have hclean' : dirtyInput u 10 x = false := dirtyInput_of_audio (by rw [hsnap, haudio])
  rw [hstart] at hrun
  simp only [List.foldl_nil, hclean, Bool.and_false, Bool.false_eq_true, if_false] at hrun
  simp only [hclean', Bool.and_false, Bool.false_eq_true, if_false] at hexec
  obtain rfl : strayStarted = u := Host.Outcome.next.inj (hrun.symm.trans hexec)
  rw [pcOf_strayStarted] at hpc
  exact absurd (hpc (by decide)) (by decide)

end Sys2Proof.Machine
end

section
/-! SUPPORT. Slots: what a run of each kind and an unscheduled frame send, by the guards of a frame that a link may send (R335, R341, R344, R346,
R347, R349, R356; log entries 70, 73, 74). -/

namespace Sys2Proof.Machine

section
variable {s : State} {k : Nat}

/-! ### Frames that are not due (log entry 70) -/

theorem exec_slot_of_done (hm : maySend s k = false) {c : Instr} (hc : c ∈ [Instr.sendSlot k, .forwardSlot k, .beaconSlot k, .unscheduledFrame k]) :
    exec c s = .next s := by
  have hdone : (!maySend s k) = true := by simp [hm]
  simp only [List.mem_cons, List.not_mem_nil, or_false] at hc
  rcases hc with rfl | rfl | rfl | rfl
  · exact congrArg Host.Outcome.next (if_pos hdone)
  · exact congrArg Host.Outcome.next (if_pos hdone)
  · exact congrArg Host.Outcome.next (if_pos hdone)
  · exact congrArg Host.Outcome.next (if_pos (by simp [hm]))

/-! ### A channel's turn (R344, R347, R356) -/

section
variable {act i : Nat} {c : FChan}

theorem sendChannel_of_frame (hend : c.cabort = none) (hmade : resetChan.reachedNat (sharedPeek s c.ctr 4) (c.unit + 1) = true)
    (hroom : waitsRelease s c = false) (hbud : admitted s act (24 + k) = true) :
    sendChannel s k act i c = updChan (sendData (charge s act (24 + k) 1) k
      (dataBase s c c.unit c.off false (chanRead s c (c.unit % max 1 c.slots * c.unitBytes + 576 * c.off) (frameLen c c.off)))
      (some (i, c.unit, c.off)) false) i
      (fun c => if unitFrames c ≤ c.off + 1 then { c with unit := (c.unit + 1) % 2 ^ 32, off := 0 } else { c with off := c.off + 1 }) := by
  simp only [sendChannel, hend, hmade, hroom, hbud]
  rfl

theorem sendChannel_of_starved (hend : c.cabort = none) (hmade : resetChan.reachedNat (sharedPeek s c.ctr 4) (c.unit + 1) = false)
    (hpair : pairOf s c = none) : sendChannel s k act i c = sendIdle (count64 s (fabBase + 0x380) 1) k := by
  simp only [sendChannel, hend, hmade, hpair]
  rfl

theorem sendChannel_of_held (hend : c.cabort = none) (hmade : resetChan.reachedNat (sharedPeek s c.ctr 4) (c.unit + 1) = true)
    (hroom : waitsRelease s c = true) : sendChannel s k act i c = sendIdle (count64 s (fabBase + 0x388) 1) k := by
  simp only [sendChannel, hend, hmade, hroom]
  rfl

theorem sendChannel_of_budget (hend : c.cabort = none) (hmade : resetChan.reachedNat (sharedPeek s c.ctr 4) (c.unit + 1) = true)
    (hroom : waitsRelease s c = false) (hbud : admitted s act (24 + k) = false) :
    sendChannel s k act i c = sendIdle (count64 (refused s act (24 + k)) (fabBase + 0x390) 1) k := by
  simp only [sendChannel, hend, hmade, hroom, hbud]
  rfl

theorem sendChannel_of_end {n : Nat} (hend : c.cabort = some n) (hbud : admitted s act (24 + k) = true) : sendChannel s k act i c =
    sendData (updChan (charge s act (24 + k) 1) i (fun c => { c with cabort := none })) k (dataBase s c n 0 true []) none false := by
  simp only [sendChannel, hend, hbud]
  rfl

end

/-! ### Runs -/

section
variable {r : FRun} (hm : maySend s k = true) (hrun : runNow s k = some r)
include hm hrun

section
variable (hdata : carriesData (takeFabricBoundary s) k = true) (hquiet : (takeFabricBoundary s).fab.quiet = false)
include hdata hquiet

theorem exec_sendSlot_of_channel {i : Nat} {c : FChan} (hkind : r.kind = 0) (hi : sourceChan (takeFabricBoundary s) r.chan = some i)
    (hc : chan (takeFabricBoundary s) i = some c) : exec (.sendSlot k) s = .next (sendChannel (takeFabricBoundary s) k r.act i c) := by
  show execSendSlot k s = _
  simp only [execSendSlot, hm, hrun, hkind, hdata, hquiet, hi, hc]
  rfl

theorem exec_forwardSlot_of_missing (hkind : r.kind = 1)
    (hfwd : (link (takeFabricBoundary s) r.inLink).fwd.find? (fun x => x.1 + r.delay = frameIndex (takeFabricBoundary s)) = none) :
    exec (.forwardSlot k) s = .next (sendIdle (takeFabricBoundary s) k) := by
  show execForwardSlot k s = _
  simp only [execForwardSlot, hm, hrun, hkind, hdata, hquiet, hfwd]
  rfl

theorem exec_forwardSlot_of_arrived {x : Nat × List Byte} (hkind : r.kind = 1)
    (hfwd : (link (takeFabricBoundary s) r.inLink).fwd.find? (fun x => x.1 + r.delay = frameIndex (takeFabricBoundary s)) = some x) :
    exec (.forwardSlot k) s = .next (sendData (takeFabricBoundary s) k x.2 none true) := by
  show execForwardSlot k s = _
  simp only [execForwardSlot, hm, hrun, hkind, hdata, hquiet, hfwd]
  rfl

end

theorem exec_beaconSlot_of_up (hkind : r.kind = 2) (hup : (link s k).phase = 2) : exec (.beaconSlot k) s = .next (sendFrame s k
    (baseBytes { kind := 2, rset := rdBits s (fabBase + 0x48) 0 2, sframe := frameIndex s % 2 ^ 32, payload := beaconPayload s }) false false).1 := by
  show execBeaconSlot k s = _
  simp only [execBeaconSlot, hm, hrun, hkind, hup]
  rfl

end

/-! ### Frames that no run assigns (R335, R346) -/

section
variable (hm : maySend s k = true) (hdata : carriesData s k = true) (hrun : runNow s k = none)
include hm hdata hrun

theorem exec_unscheduledFrame_of_retx {x : FSent} {rest : List FSent} (hx : (link s k).retx = x :: rest) :
    let a := sendFrame (count64 s (fabBase + 0x100 + 8 * k) 1) k x.bytes true true
    exec (.unscheduledFrame k) s = .next (updLink a.1 k (fun l => { l with
      retx := rest, sent := l.sent ++ [{ x with at_ := (link s k).frames, seq := a.2.1, tries := x.tries + 1, bytes := a.2.2 }] })) := by
  show execUnscheduledFrame k s = _
  simp only [execUnscheduledFrame, hm, hdata, hrun, hx]
  rfl

theorem exec_unscheduledFrame_of_late {b : List Byte} {rest : List (List Byte)} (hx : (link s k).retx = []) (hb : (link s k).late = b :: rest) :
    exec (.unscheduledFrame k) s = .next (sendData (updLink s k (fun l => { l with late := rest })) k b none true) := by
  show execUnscheduledFrame k s = _
  simp only [execUnscheduledFrame, hm, hdata, hrun, hx, hb]
  rfl

theorem exec_unscheduledFrame_of_nothing (hx : (link s k).retx = []) (hb : (link s k).late = []) :
    exec (.unscheduledFrame k) s = .next (sendIdle s k) := by
  show execUnscheduledFrame k s = _
  simp only [execUnscheduledFrame, hm, hdata, hrun, hx, hb]
  rfl

end

end

/-- Settles O45: a SEND run's frame is what the channel's turn sends, and every other frame follows the guards of its row. -/
theorem slotsSendTheirFrames : Obligations.SlotsSendTheirFrames := by
  unfold Obligations.SlotsSendTheirFrames
  refine fun k s => ⟨fun hm c hc => exec_slot_of_done hm hc, ?runs, ?unscheduled, fun hm r hrun => exec_beaconSlot_of_up hm hrun⟩
  case runs =>
    rintro r u hm hrun rfl hdata hquiet
    refine ⟨fun i c hkind hi hc => ?_, fun hkind => ⟨?_, ?_⟩⟩
    · rw [exec_sendSlot_of_channel hm hrun hdata hquiet hkind hi hc]
      refine ⟨fun hend hmade hroom hbud => ?_, fun hend hmade hpair => ?_, fun hend hmade hroom => ?_, fun hend hmade hroom hbud => ?_, ?_⟩
      · rw [sendChannel_of_frame hend hmade hroom hbud]
      · rw [sendChannel_of_starved hend hmade hpair]
      · rw [sendChannel_of_held hend hmade hroom]
      · rw [sendChannel_of_budget hend hmade hroom hbud]
      · rintro n v hend hbud rfl
        rw [sendChannel_of_end hend hbud]
    · exact exec_forwardSlot_of_missing hm hrun hdata hquiet hkind
    · exact fun x => exec_forwardSlot_of_arrived hm hrun hdata hquiet hkind
  case unscheduled =>
    intro hm hdata hrun
    refine ⟨fun b rest => exec_unscheduledFrame_of_late hm hdata hrun, exec_unscheduledFrame_of_nothing hm hdata hrun, ?_⟩
    rintro x rest u q b hx hsent
    rw [exec_unscheduledFrame_of_retx hm hdata hrun hx, ← hsent]

end Sys2Proof.Machine
end

section
/-! SUPPORT. Frames that arrive on a link, by their check and their kind, and frames that are sent again (R333, R335, R345, R349). -/

namespace Sys2Proof.Machine

/-! ### Links after an update -/

theorem link_updLink_self (s : State) (k : Nat) (f : FLink → FLink) : link (updLink s k f) k = f (link s k) := SMap.get_set_self ..

/-! ### A frame that arrives whole (R333) -/

section
variable {s : State} {k : Nat} {b : List Byte} (hon : codecOn s = true) (hk : k < 16) (hphase : (link s k).phase ≠ 0)
  (hcheck : (link s k).checking = false) (hlen : b.length = 640)
include hon hk hphase hcheck hlen

/-- The link takes frames, and this one is whole. -/
theorem frame_taken : ¬ (!codecOn s || decide (k ≥ 16) || decide ((link s k).phase = 0) || (link s k).checking || decide (b.length ≠ 640)) = true := by
  simp [hon, hphase, hcheck, hlen, hk]

theorem exec_fabricFrameRx_of_bad_crc (hcrc : beAt b 632 4 ≠ (crc32c (b.take 632)).toNat) : exec (.fabricFrameRx k b) s = .next (noteGap (noteReceipt
    (updLink (sticky (countCE (count64 s (fabBase + 0x180 + 8 * k) 1) 5 1) fabBase stickyCE) k
      (fun l => { l with peekAgain := l.peekOut.isSome })) k (((link s k).rxSeq + 1) % 65536) false) k) :=
  congrArg Host.Outcome.next ((if_neg (frame_taken hon hk hphase hcheck hlen)).trans (if_pos hcrc))

section
variable (hcrc : beAt b 632 4 = (crc32c (b.take 632)).toNat)
  (hres : reservedOk b (decide ((link s k).phase = 2) && decide (rdBits s (fabBase + 0x80 + 8 * k) 12 4 = 0)) = true)
include hcrc hres

/-- What a frame that passes every check does is by its kind. -/
theorem exec_fabricFrameRx_of_good : exec (.fabricFrameRx k b) s = .next (
    let t := noteReceipt s k (beAt b 2 2) true
    match beAt b 0 1 with
    | 1 => if !carriesData s k then takeHeader t k b
      else match routeData t k b with
        | none => noteGap (noteReceipt (count64 s (fabBase + 0x398) 1) k (beAt b 2 2) false) k
        | some u => takeHeader u k b
    | 2 => let u := takeHeader t k b; if (link s k).phase = 2 then takeBeacon u k (slice b 56 576) else u
    | 3 => takeTrain (takeHeader t k b) k (slice b 56 576)
    | _ => takeHeader t k b) :=
  congrArg Host.Outcome.next ((if_neg (frame_taken hon hk hphase hcheck hlen)).trans
    ((if_neg (not_not_intro hcrc)).trans (if_neg (by rw [hres]; decide))))

section
variable (hkind : beAt b 0 1 = 1) (hdata : carriesData s k = true)
include hkind hdata

theorem exec_fabricFrameRx_of_routed {t : State} (hr : routeData (noteReceipt s k (beAt b 2 2) true) k b = some t) :
    exec (.fabricFrameRx k b) s = .next (takeHeader t k b) := by
  rw [exec_fabricFrameRx_of_good hon hk hphase hcheck hlen hcrc hres]
  simp only [hkind, hdata, hr]
  rfl

theorem exec_fabricFrameRx_of_unfit (hr : routeData (noteReceipt s k (beAt b 2 2) true) k b = none) : exec (.fabricFrameRx k b) s =
    .next (noteGap (noteReceipt (count64 s (fabBase + 0x398) 1) k (beAt b 2 2) false) k) := by
  rw [exec_fabricFrameRx_of_good hon hk hphase hcheck hlen hcrc hres]
  simp only [hkind, hdata, hr]
  rfl

end

theorem exec_fabricFrameRx_of_beacon (hkind : beAt b 0 1 = 2) (hup : (link s k).phase = 2) : exec (.fabricFrameRx k b) s =
    .next (takeBeacon (takeHeader (noteReceipt s k (beAt b 2 2) true) k b) k (slice b 56 576)) := by
  rw [exec_fabricFrameRx_of_good hon hk hphase hcheck hlen hcrc hres]
  simp only [hkind, hup]
  rfl

theorem exec_fabricFrameRx_of_train (hkind : beAt b 0 1 = 3) : exec (.fabricFrameRx k b) s =
    .next (takeTrain (takeHeader (noteReceipt s k (beAt b 2 2) true) k b) k (slice b 56 576)) := by
  rw [exec_fabricFrameRx_of_good hon hk hphase hcheck hlen hcrc hres]
  simp only [hkind]

theorem exec_fabricFrameRx_of_idle (hkind : beAt b 0 1 = 0) : exec (.fabricFrameRx k b) s =
    .next (takeHeader (noteReceipt s k (beAt b 2 2) true) k b) := by
  rw [exec_fabricFrameRx_of_good hon hk hphase hcheck hlen hcrc hres]
  simp only [hkind]

end

end

/-! ### Frames that are sent again (R335) -/

theorem exec_frameRto {s : State} {k : Nat} (hon : codecOn s = true) (hk : k < 16) : exec (.frameRto k) s = .next (((link s k).sent.filter
    (fun x => decide (x.at_ + (rdBits s (fabBase + 0x80 + 8 * k) 16 8 + 2) ≤ (link s k).frames))).foldl (fun s x => resend s k x) s) :=
  congrArg Host.Outcome.next (if_neg (by simp [hon, hk]))

section
variable {x : FSent}

/-- The pending retransmissions with `x` after those first sent no later. -/
def putByBirth (x : FSent) (ys : List FSent) : List FSent := ys.filter (fun y => y.born ≤ x.born) ++ x :: ys.filter (fun y => x.born < y.born)

theorem mem_putByBirth {y : FSent} {ys : List FSent} : y ∈ putByBirth x ys ↔ y = x ∨ y ∈ ys := by
  have hsplit := Nat.lt_or_ge x.born y.born
  simp only [putByBirth, List.mem_append, List.mem_cons, List.mem_filter, decide_eq_true_eq]
  tauto

theorem putByBirth_sorted {ys : List FSent} (h : ys.Pairwise (fun a b => a.born ≤ b.born)) :
    (putByBirth x ys).Pairwise (fun a b => a.born ≤ b.born) := by
  refine List.pairwise_append.2 ⟨h.filter _, List.pairwise_cons.2 ⟨fun b hb => ?_, h.filter _⟩, fun a ha b hb => ?_⟩
  · have hxb : x.born < b.born := by simpa using (List.mem_filter.1 hb).2
    exact hxb.le
  · have hax : a.born ≤ x.born := by simpa using (List.mem_filter.1 ha).2
    rcases List.mem_cons.1 hb with rfl | hb
    · exact hax
    · have hxb : x.born < b.born := by simpa using (List.mem_filter.1 hb).2
      exact hax.trans hxb.le

variable {s : State} {k : Nat}

theorem resend_of_ninth (ht : 9 ≤ x.tries) (hdata : carriesData (updLink s k (fun l => { l with sent := l.sent.erase x })) k = true) :
    resend s k x = declareLink (updLink s k (fun l => { l with sent := l.sent.erase x })) k :=
  if_pos (by simp [ht, hdata])

theorem resend_of_allowed (h : x.tries < 9 ∨ carriesData (updLink s k (fun l => { l with sent := l.sent.erase x })) k = false) :
    resend s k x = updLink (updLink s k (fun l => { l with sent := l.sent.erase x })) k (fun l => { l with retx := putByBirth x l.retx }) := by
  refine if_neg fun hc => ?_
  simp only [Bool.and_eq_true, decide_eq_true_eq] at hc
  rcases h with h | h
  · omega
  · rw [h] at hc
    exact Bool.false_ne_true hc.2

end

/-- Settles O46: a good frame acts by its kind, and a frame to be sent again takes its place among the pending ones by its first sending. -/
theorem framesAreTaken : Obligations.FramesAreTaken := by
  unfold Obligations.FramesAreTaken
  refine fun k b s hon hk => ⟨fun hphase hcheck hlen => ⟨?_, ?good⟩, exec_frameRto hon hk, ?again⟩
  · exact exec_fabricFrameRx_of_bad_crc hon hk hphase hcheck hlen
  case good =>
    rintro u hcrc hres rfl
    refine ⟨fun t hkind hdata => ?_, ?_, ?_, ?_, ?_⟩
    · exact exec_fabricFrameRx_of_routed hon hk hphase hcheck hlen hcrc hres hkind hdata
    · exact exec_fabricFrameRx_of_unfit hon hk hphase hcheck hlen hcrc hres
    · exact exec_fabricFrameRx_of_beacon hon hk hphase hcheck hlen hcrc hres
    · exact exec_fabricFrameRx_of_train hon hk hphase hcheck hlen hcrc hres
    · exact exec_fabricFrameRx_of_idle hon hk hphase hcheck hlen hcrc hres
  case again =>
    rintro x u rfl
    refine ⟨resend_of_ninth, fun h => ⟨_, resend_of_allowed h, ?_⟩⟩
    simp only [link_updLink_self, mem_putByBirth]
    exact ⟨.inl trivial, fun y => .inr, fun y => id, trivial, putByBirth_sorted⟩

end Sys2Proof.Machine
end

section
/-! SUPPORT. Links that train, are lost and fail: training and its losses, declarations, the switch of the route set, and peeks (R337, R338,
R340, R352, R353, R355; log entries 76 and 79). -/

namespace Sys2Proof.Machine

section
variable {s : State} {k : Nat}

/-! ### Training and the loss of a link (R338, R340, R352) -/

section
variable (hon : codecOn s = true) (hk : k < 16)
include hon hk

theorem exec_fibreLightGained_of_on : exec (.fibreLightGained k) s = .next (
    let u := updLink s k (fun l => { l with light := true })
    if (link u k).phase = 0 then startTraining u k else u) :=
  congrArg Host.Outcome.next (if_neg (by simp [hon, hk]))

theorem exec_trainRetry_of_down (hdown : (link s k).phase = 0) (hlight : (link s k).light = true) :
    exec (.trainRetry k) s = .next (startTraining (countRetrain s k) k) :=
  congrArg Host.Outcome.next (if_pos (by simp [hon, hk, hdown, hlight]))

theorem exec_laneCheckEnd_of_checking (bad : List Nat) (htrain : (link s k).phase = 1) (hcheck : (link s k).checking = true) :
    exec (.laneCheckEnd k bad) s = .next (sendTrain (updLink s k
      (fun l => { l with checking := false, sentStep := 1, rxOk := (((List.range 4).filter (fun i => !bad.contains i)).map (2 ^ ·)).sum })) k 1 0 0) :=
  congrArg Host.Outcome.next (if_neg (by simp [hon, hk, htrain, hcheck]))

theorem exec_laneLockLoss_of_up (hup : (link s k).phase = 2) : exec (.laneLockLoss k) s = .next (startTraining (countRetrain
    (updLink s k (fun l => { l with lostAt := tb s + 1, fwd := [], gaps := [] })) k) k) :=
  congrArg Host.Outcome.next (if_neg (by simp [hon, hk, hup]))

theorem exec_lockLossTimeout_of_lost (hlost : (link s k).lostAt ≠ 0) (hdown : (link s k).phase ≠ 2)
    (htime : (link s k).lostAt - 1 + 100000 ≤ tb s) :
    exec (.lockLossTimeout k) s = .next (declareLink (updLink s k (fun l => { l with lostAt := 0 })) k) :=
  congrArg Host.Outcome.next (if_pos (by simp [hon, hk, hlost, hdown, htime]))

theorem exec_postLoadLinkCheck_of_down (hload : s.fab.loaded = true) (htime : s.fab.doneAt + 10000000 ≤ tb s) (hdown : (link s k).phase ≠ 2)
    (huse : ∃ r ∈ s.fab.sets, nth [] r.runs k ≠ []) : exec (.postLoadLinkCheck k) s = .next (declareLink s k) := by
  have hany : s.fab.sets.any (fun r => !(nth [] r.runs k).isEmpty) = true := by
    simpa [List.any_eq_true] using huse
  exact congrArg Host.Outcome.next (if_pos (by simp [hon, hk, hload, htime, hdown, hany]))

theorem exec_declare_of_on : exec (.declare k) s = .next (declareLink s k) := congrArg Host.Outcome.next (if_pos (by simp [hon, hk]))

theorem exec_peek_of_on {w : Nat} (hw : w < 1024) : exec (.peek k w) s = .next (peekCommand s k w) :=
  congrArg Host.Outcome.next (if_pos (by simp [hon, hk, hw]))

end

/-! ### Declarations and the failure set (R352, R353) -/

theorem addFailure_of_new {x : Nat × Nat} (t : Nat) (hload : s.fab.loaded = true) (hroom : s.fab.fails.length < 64)
    (hnew : s.fab.fails.contains x = false) : addFailure s x t = failChannels (showLinks (arrive (takeTarget
      (wrBits (wr32 (s.setFab { s.fab with
          fails := s.fab.fails ++ [x]
          links := (List.range 16).foldl (fun m j => SMap.modify {} m j (fun l => { l with
            notices := l.notices ++ [(x.1, x.2, t / periodNs s % 256)] })) s.fab.links })
        (fabBase + 0x400 + 4 * s.fab.fails.length) (x.1 + x.2 * 2 ^ 11 + 2 ^ 31)) (fabBase + 0x48) 8 7 (s.fab.fails.length + 1)) x t) 242 x.2)) t := by
  rw [addFailure, if_neg (by simp [hload]), if_neg (by simp only [hnew]; decide), if_neg (by omega)]

theorem addFailure_of_known {x : Nat × Nat} (t : Nat) (hload : s.fab.loaded = true) (hold : s.fab.fails.contains x = true) :
    addFailure s x t = if declared s x then takeTarget s x t else s := by
  rw [addFailure, if_neg (by simp [hload]), if_pos hold]

/-! ### The switch of the route set (R353, R355) -/

theorem exec_routeSwitch_of_due {t : Nat} (hon : codecOn s = true) (hsw : switchAt s = some t) (hdue : t ≤ tb s) : exec .routeSwitch s = .next (
    let u := showSwitch (s.setFab { s.fab with targets := s.fab.targets.filter (fun x => decide (tb s < x.2.2)) })
    match coveringSet s with
    | none => noRoute u
    | some r => arrive (wrBits u (fabBase + 0x48) 0 2 r) 243 0) := by
  show execRouteSwitch s = _
  rw [execRouteSwitch, hsw]
  exact congrArg Host.Outcome.next (if_neg (by simp [hon, hdue]))

theorem exec_routeSwitch_of_early (hearly : ∀ t, switchAt s = some t → tb s < t) : exec .routeSwitch s = .next s := by
  show execRouteSwitch s = _
  rw [execRouteSwitch]
  cases hsw : switchAt s with
  | none => rfl
  | some t => exact congrArg Host.Outcome.next (if_pos (by simp [hearly t hsw]))

end

/-! ### Peeks (R337) -/

theorem link_peekCommand (s : State) (k w : Nat) : (link (peekCommand s k w) k).peekAsk = some w ∧ (link (peekCommand s k w) k).peekSoft = true := by
  rw [peekCommand, link_updLink_self]
  exact ⟨rfl, rfl⟩

/-- Settles O47: each event of a link is its row's one live case, and a new failure takes its register, its notices, its target and source 242. -/
theorem linksTrainAndFail : Obligations.LinksTrainAndFail := by
  unfold Obligations.LinksTrainAndFail
  refine fun k s hon hk => ⟨?light, exec_trainRetry_of_down hon hk, fun bad => exec_laneCheckEnd_of_checking hon hk bad,
    exec_laneLockLoss_of_up hon hk, exec_lockLossTimeout_of_lost hon hk, exec_postLoadLinkCheck_of_down hon hk, exec_declare_of_on hon hk,
    ?failure, fun x t => addFailure_of_known t, ?switch, exec_routeSwitch_of_early, fun w hw => ⟨_, exec_peek_of_on hon hk hw, link_peekCommand s k w⟩⟩
  case light =>
    rintro u rfl
    rw [exec_fibreLightGained_of_on hon hk]
    exact ⟨fun h => congrArg _ (if_pos h), fun h => congrArg _ (if_neg h)⟩
  case failure =>
    rintro x u hload hroom hnew rfl rfl
    exact addFailure_of_new (targetNow s) hload hroom hnew
  case switch =>
    rintro t u hsw hdue rfl
    rw [exec_routeSwitch_of_due hon hsw hdue]
    refine ⟨fun hnone => ?_, fun r hr => ?_⟩
    · rw [hnone]
    · rw [hr]

end Sys2Proof.Machine
end

section
/-! SUPPORT. The shutter: bit fields after a write, firings and the instant that is armed, the window of a block that latches, and the partitions
that a boundary freezes (R351, R455 to R458, R462, R463). -/

namespace Sys2Proof.Machine
open Sys2Proof.Safety

/-! ### Bit fields after a write -/

theorem setBits_eq (w lo n v : Nat) : setBits w lo n v = 2 ^ lo * (2 ^ n * (w / 2 ^ lo / 2 ^ n) + v % 2 ^ n) + w % 2 ^ lo := by
  have hw : w = 2 ^ lo * (2 ^ n * (w / 2 ^ lo / 2 ^ n)) + w / 2 ^ lo % 2 ^ n * 2 ^ lo + w % 2 ^ lo := by
    conv_lhs => rw [← Nat.div_add_mod w (2 ^ lo), ← Nat.div_add_mod (w / 2 ^ lo) (2 ^ n)]
    ring
  rw [setBits, bits, Nat.shiftRight_eq_div_pow, Nat.mul_add, Nat.mul_comm (2 ^ lo) (v % 2 ^ n)]
  omega

theorem testBit_setBits (w lo n v i : Nat) :
    (setBits w lo n v).testBit i = if lo ≤ i ∧ i < lo + n then v.testBit (i - lo) else w.testBit i := by
  rw [setBits_eq, Nat.testBit_two_pow_mul_add _ (Nat.mod_lt _ (Nat.two_pow_pos lo))]
  by_cases hlow : i < lo
  · rw [if_pos hlow, if_neg (by omega), Nat.testBit_mod_two_pow]
    simp [hlow]
  · rw [if_neg hlow, Nat.testBit_two_pow_mul_add _ (Nat.mod_lt _ (Nat.two_pow_pos n))]
    by_cases hin : i - lo < n
    · rw [if_pos hin, if_pos (by omega), Nat.testBit_mod_two_pow]
      simp [hin]
    · rw [if_neg hin, if_neg (by omega), Nat.testBit_div_two_pow, Nat.testBit_div_two_pow]
      congr 1
      omega

section
variable (s : State) (a : Nat) {lo n : Nat} (v : Nat) (h : lo + n ≤ 32)
include h

theorem bit_rd32_wrBits (i : Nat) :
    bit (rd32 (wrBits s a lo n v) a) i = if lo ≤ i ∧ i < lo + n then v.testBit (i - lo) else bit (rd32 s a) i := by
  rw [rd32_wrBits, if_pos rfl, bit, Nat.testBit_mod_two_pow, testBit_setBits]
  by_cases hi : i < 32
  · simp [hi, bit]
  · have hword : rd32 s a < 2 ^ i := (rd32_lt s a).trans_le (Nat.pow_le_pow_right (by decide) (by omega))
    rw [if_neg (by omega), if_neg (by omega), bit, Nat.testBit_lt_two_pow hword, Bool.and_false]

theorem rdBits_wrBits_self : rdBits (wrBits s a lo n v) a lo n = v % 2 ^ n := by
  refine Nat.eq_of_testBit_eq fun i => ?_
  have hbit := bit_rd32_wrBits s a v h (lo + i)
  rw [rdBits, bits, Nat.testBit_mod_two_pow, Nat.testBit_shiftRight, Nat.testBit_mod_two_pow]
  rw [bit] at hbit
  rw [hbit]
  by_cases hi : i < n <;> simp [hi]

theorem rdBits_wrBits_disjoint {p m : Nat} (hd : p + m ≤ lo ∨ lo + n ≤ p) : rdBits (wrBits s a lo n v) a p m = rdBits s a p m := by
  refine Nat.eq_of_testBit_eq fun i => ?_
  have hbit := bit_rd32_wrBits s a v h (p + i)
  rw [rdBits, bits, Nat.testBit_mod_two_pow, Nat.testBit_shiftRight, rdBits, bits, Nat.testBit_mod_two_pow, Nat.testBit_shiftRight]
  rw [bit, bit] at hbit
  rw [hbit]
  by_cases hi : i < m
  · rw [if_neg (by omega)]
  · simp [hi]

end

/-- A flag after it was written. -/
theorem bit_rd32_wrBits_flag (s : State) (a : Nat) {j : Nat} (v : Nat) (hj : j < 32) (i : Nat) :
    bit (rd32 (wrBits s a j 1 v) a) i = if i = j then v.testBit 0 else bit (rd32 s a) i := by
  rw [bit_rd32_wrBits s a v (by omega)]
  by_cases hi : i = j
  · rw [if_pos hi, if_pos (by omega), hi, Nat.sub_self]
  · rw [if_neg hi, if_neg (by omega)]

/-- Clearing a flag clears no other. -/
theorem bit_rd32_clearFlag (s : State) (a : Nat) {j : Nat} (hj : j < 32) (i : Nat) :
    bit (rd32 (wrBits s a j 1 0) a) i = (bit (rd32 s a) i && i != j) := by
  rw [bit_rd32_wrBits_flag s a 0 hj]
  by_cases hi : i = j <;> simp [hi]

/-! ### Firings (R455, R456) -/

section
variable {s : State}

theorem fire_of_busy (src : Nat) (h : bit (rd32 s (shtBase + 0x58)) 0 = true ∨
    (bit (rd32 s (shtBase + 0x40)) 1 = true ∧ bit (rd32 s (shtBase + 0x58)) 1 = true)) : fire s src = count64 s (shtBase + 0x70) 1 :=
  if_pos (by simpa using h)

theorem fire_of_free (src : Nat) (hbusy : bit (rd32 s (shtBase + 0x58)) 0 = false)
    (hkept : bit (rd32 s (shtBase + 0x40)) 1 = false ∨ bit (rd32 s (shtBase + 0x58)) 1 = false) : fire s src =
    let u := wr64 (wr32 s (shtBase + 0x58) (setBits (setBits (setBit (rd32 s (shtBase + 0x58)) 0 true) 4 3 src) 16 16
      ((bits (rd32 s (shtBase + 0x58)) 16 16 + 1) % 65536))) (shtBase + 0x60) (tb s)
    u.setSht { u.sht with
      latch := latchBlocks u
      freeze := if bit (rd32 s (shtBase + 0x40)) 0 then u.sht.freeze ||| bits (rd32 s (shtBase + 0x40)) 8 8 else u.sht.freeze } := by
  refine if_neg fun h => ?_
  simp only [hbusy, Bool.false_or, Bool.and_eq_true] at h
  rcases hkept with hk | hk
  · exact Bool.false_ne_true (hk.symm.trans h.1)
  · exact Bool.false_ne_true (hk.symm.trans h.2)

end

/-! ### The instant (R351, R463; log entry 125) -/

theorem onlyWords_disarm (s : State) : OnlyWords [shtBase + 0x58, shtBase + 0x68, shtBase + 0x6C] s (disarm s) :=
  ((onlyWords_wr32 ..).mono (by simp)).trans ((onlyWords_wr64 ..).mono (by simp))

theorem bit_disarm (s : State) (i : Nat) : bit (rd32 (disarm s) (shtBase + 0x58)) i = (bit (rd32 s (shtBase + 0x58)) i && i != 2) := by
  rw [disarm, rd32_wr64, if_neg (by decide), if_neg (by decide), bit_rd32_clearFlag _ _ (by decide)]

/-- The words of an instant that is armed. -/
def instantShown (s : State) (x : Nat) : State := wr64 (wrBits s (shtBase + 0x58) 2 1 1) (shtBase + 0x68) x

theorem onlyWords_instantShown (s : State) (x : Nat) :
    OnlyWords [shtBase + 0x58, shtBase + 0x68, shtBase + 0x6C] s (instantShown s x) :=
  ((onlyWords_wr32 ..).mono (by simp)).trans ((onlyWords_wr64 ..).mono (by simp))

theorem bit_instantShown (s : State) (x i : Nat) :
    bit (rd32 (instantShown s x) (shtBase + 0x58)) i = if i = 2 then true else bit (rd32 s (shtBase + 0x58)) i := by
  rw [instantShown, rd32_wr64, if_neg (by decide), if_neg (by decide), bit_rd32_wrBits_flag _ _ _ (by decide)]
  rfl

/-- The shutter's words lie below every link's. -/
theorem rdBits_instantShown_link (s : State) (x k lo n : Nat) :
    rdBits (instantShown s x) (fabBase + 0x80 + 8 * k) lo n = rdBits s (fabBase + 0x80 + 8 * k) lo n := by
  rw [rdBits, (onlyWords_instantShown s x).2, rdBits]
  simp only [shtBase, fabBase, List.mem_cons, List.not_mem_nil, or_false]
  omega

theorem rd32_armInstant (s : State) (x : Nat) (r : Bool) (a : Nat) : rd32 (armInstant s x r) a = rd32 (instantShown s x) a := rfl

theorem rd64_armInstant (s : State) {x : Nat} (r : Bool) (hx : x < 2 ^ 64) : rd64 (armInstant s x r) (shtBase + 0x68) = x :=
  (rd64_wr64 ..).trans (Nat.mod_eq_of_lt hx)

theorem fab_armInstant (s : State) (x : Nat) (r : Bool) : (armInstant s x r).fab = { s.fab with
    shut := some x
    links := s.fab.links.map (fun (k, l) => (k,
      if rdBits s (fabBase + 0x80 + 8 * k) 0 3 = 2 ∧ 1 ≤ rdBits s (fabBase + 0x80 + 8 * k) 12 4 then { l with shutLeft := 64 } else l)) } := by
  show ({ s.fab with
    shut := some x
    links := s.fab.links.map (fun (k, l) => (k, if rdBits (instantShown s x) (fabBase + 0x80 + 8 * k) 0 3 = 2 &&
      rdBits (instantShown s x) (fabBase + 0x80 + 8 * k) 12 4 ≥ 1 then { l with shutLeft := 64 } else l)) } : Fabric) = _
  simp only [rdBits_instantShown_link, Bool.and_eq_true, decide_eq_true_eq, ge_iff_le]

section
variable {s : State}

theorem armAt_of_first (hheld : bit (rd32 s (shtBase + 0x58)) 2 = false) (ht : tb s ≤ rd64 s (shtBase + 0x50)) :
    armAt s = armInstant s (rd64 s (shtBase + 0x50)) false := by
  have hdue : decide (rd64 s (shtBase + 0x50) < tb s) = false := decide_eq_false (by omega)
  simp only [armAt, hheld, hdue, Bool.false_or, Bool.false_and, Bool.false_eq_true, if_false]

/-- An instant that has passed or that meets a pending one counts as dropped, and is taken all the same when it is the earlier one. -/
theorem armAt_of_dropped (h : bit (rd32 s (shtBase + 0x58)) 2 = true ∨ rd64 s (shtBase + 0x50) < tb s) :
    armAt s = if rd64 s (shtBase + 0x50) < tb s ∨
        (bit (rd32 s (shtBase + 0x58)) 2 = true ∧ rd64 s (shtBase + 0x68) ≤ rd64 s (shtBase + 0x50)) then count64 s (shtBase + 0x70) 1
      else armInstant (count64 s (shtBase + 0x70) 1) (rd64 s (shtBase + 0x50)) false := by
  have hcount : (bit (rd32 s (shtBase + 0x58)) 2 || decide (rd64 s (shtBase + 0x50) < tb s)) = true := by simpa using h
  have htb : tb (count64 s (shtBase + 0x70) 1) = tb s := by rw [tb, count64_pow, tb]
  have hpending : rd64 (count64 s (shtBase + 0x70) 1) (shtBase + 0x68) = rd64 s (shtBase + 0x68) := rd64_wr64_ne _ _ (.inl (by decide))
  simp only [armAt, hcount, if_true, htb, hpending, Bool.or_eq_true, Bool.and_eq_true, decide_eq_true_eq]

theorem armAt_of_past (ht : rd64 s (shtBase + 0x50) < tb s) : armAt s = count64 s (shtBase + 0x70) 1 :=
  (armAt_of_dropped (.inr ht)).trans (if_pos (.inl ht))

section
variable (hheld : bit (rd32 s (shtBase + 0x58)) 2 = true)
include hheld

theorem armAt_of_later (hlate : rd64 s (shtBase + 0x68) ≤ rd64 s (shtBase + 0x50)) : armAt s = count64 s (shtBase + 0x70) 1 :=
  (armAt_of_dropped (.inl hheld)).trans (if_pos (.inr ⟨hheld, hlate⟩))

theorem armAt_of_earlier (ht : tb s ≤ rd64 s (shtBase + 0x50)) (hearly : rd64 s (shtBase + 0x50) < rd64 s (shtBase + 0x68)) :
    armAt s = armInstant (count64 s (shtBase + 0x70) 1) (rd64 s (shtBase + 0x50)) false :=
  (armAt_of_dropped (.inl hheld)).trans (if_neg (by omega))

end

end

/-! ### Windows (R457 to R460) -/

/-- From `s` to `t` only control-space words at `lo` and above and below `hi` may differ. -/
def OnlyRange (lo hi : Nat) (s t : State) : Prop := t = s.setCtl t.ctl ∧ ∀ a, a < lo ∨ hi ≤ a → rd32 t a = rd32 s a

namespace OnlyRange

theorem refl (lo hi : Nat) (s : State) : OnlyRange lo hi s s := ⟨rfl, fun _ _ => rfl⟩

section
variable {lo hi : Nat} {s t u : State}

theorem trans (h : OnlyRange lo hi s t) (k : OnlyRange lo hi t u) : OnlyRange lo hi s u := by
  have hctl : t.setCtl u.ctl = s.setCtl u.ctl := by rw [h.1]; rfl
  exact ⟨k.1.trans hctl, fun a ha => (k.2 a ha).trans (h.2 a ha)⟩

theorem mono {lo' hi' : Nat} (h : OnlyRange lo hi s t) (hlo : lo' ≤ lo) (hhi : hi ≤ hi') : OnlyRange lo' hi' s t :=
  ⟨h.1, fun a ha => h.2 a (by omega)⟩

theorem rd64 {a : Nat} (h : OnlyRange lo hi s t) (ha : a + 4 < lo ∨ hi ≤ a) : rd64 t a = Machine.rd64 s a := by
  rw [Machine.rd64, h.2 a (by omega), h.2 (a + 4) (by omega), Machine.rd64]

end

theorem wr64 {lo hi a : Nat} (s : State) (v : Nat) (hlo : lo ≤ a) (hhi : a + 8 ≤ hi) : OnlyRange lo hi s (wr64 s a v) :=
  ⟨rfl, fun b hb => (onlyWords_wr64 s a v).2 b (by simp; omega)⟩

theorem foldl {α : Type} {lo hi : Nat} {f : State → α → State} {l : List α} (h : ∀ x ∈ l, ∀ s, OnlyRange lo hi s (f s x)) (s : State) :
    OnlyRange lo hi s (l.foldl f s) :=
  List.foldlRecOn (motive := OnlyRange lo hi s) _ _ (.refl ..) fun t ht x hx => ht.trans (h x hx t)

end OnlyRange

/-- Writes 64-bit values one after the other. -/
def copyWords (s : State) (w : Nat) (vals : List Nat) : State :=
  ((List.range vals.length).zip vals).foldl (fun s x => wr64 s (w + 8 * x.1) x.2) s

theorem copyWords_concat (s : State) (w : Nat) (vals : List Nat) (v : Nat) :
    copyWords s w (vals ++ [v]) = wr64 (copyWords s w vals) (w + 8 * vals.length) v := by
  rw [copyWords, List.length_append, List.length_singleton, List.range_succ, List.zip_append (by simp), List.foldl_append]
  rfl

theorem onlyRange_copyWords (s : State) (w : Nat) (vals : List Nat) : OnlyRange w (w + 8 * vals.length) s (copyWords s w vals) := by
  refine .foldl (fun x hx s => .wr64 s x.2 (by omega) ?_) s
  have := List.mem_range.1 (List.of_mem_zip hx).1
  omega

theorem rd64_copyWords (s : State) (w : Nat) {vals : List Nat} {i v : Nat} (h : vals[i]? = some v) :
    rd64 (copyWords s w vals) (w + 8 * i) = v % 2 ^ 64 := by
  induction vals using List.reverseRecOn with
  | nil => simp at h
  | append_singleton vals x ih =>
    have hi := (List.getElem?_eq_some_iff.1 h).1
    rw [List.length_append, List.length_singleton] at hi
    rw [copyWords_concat]
    by_cases hlast : i = vals.length
    · rw [hlast, List.getElem?_concat_length] at h
      rw [hlast, rd64_wr64, Option.some.inj h]
    · rw [rd64_wr64_ne _ _ (by omega), ih (by rwa [List.getElem?_append_left (by omega)] at h)]

/-- What block `b` copies, as its registers read. -/
def sheetValues (s : State) (b : Nat) : List Nat := (blockCopies b).map (fun x => if x.2 = 8 then rd64 s x.1 else rd32 s x.1)

/-- A window emptied but for its header. -/
def sheetHeaded (s : State) (b : Nat) : State :=
  wr64 (wr64 (s.setCtl (SMap.drop (fun a => sheetAt b ≤ a && a < sheetAt b + 0x40 + 8 * sheetCopies b) s.ctl))
    (sheetAt b) (rdBits s (shtBase + 0x58) 16 16 + 2 ^ 16)) (sheetAt b + 8) (rd64 s (shtBase + 0x60))

/-- The rings' words, which the stream scheduler copies behind its counters. -/
def sheetRings (s : State) (b : Nat) : SMap W32 :=
  if b = 10 then s.ctl.filter (fun x => strBase + 0x80000 ≤ x.1 && x.1 < strBase + 0x100000 && x.1 % 32 = 16) else []

/-- The window after the rings' words. -/
def ringsCopied (s : State) (w : Nat) (rings : SMap W32) : State :=
  rings.foldl (fun s x => wr64 s (w + 0x40 + 8 * (3 + (x.1 - strBase - 0x80000) / 32)) x.2.toNat) s

theorem latchBlock_eq (s : State) (b : Nat) :
    latchBlock s b = ringsCopied (copyWords (sheetHeaded s b) (sheetAt b + 0x40) (sheetValues s b)) (sheetAt b) (sheetRings s b) := rfl

theorem length_coreCopies (n : Nat) : (coreCopies n).length = 48 := rfl

theorem length_budgetCopies :
    ((List.range 32).map (fun a => (List.range 40).map (fun r => (budRem a r, 8)))).flatten.length = 1280 := by
  simp [List.length_flatten, Function.comp_def]

theorem length_blockCopies_le (b : Nat) : (blockCopies b).length ≤ sheetCopies b := by
  unfold blockCopies sheetCopies
  split_ifs
  · exact (length_coreCopies b).le
  · rw [List.length_cons, length_budgetCopies]
  all_goals simp

theorem length_sheetValues (s : State) (b : Nat) : (sheetValues s b).length = (blockCopies b).length := List.length_map _

theorem onlyRange_sheetHeaded (s : State) (b : Nat) :
    OnlyRange (sheetAt b) (sheetAt b + 0x40 + 8 * sheetCopies b) s (sheetHeaded s b) := by
  have hdrop : OnlyRange (sheetAt b) (sheetAt b + 0x40 + 8 * sheetCopies b) s
      (s.setCtl (SMap.drop (fun a => sheetAt b ≤ a && a < sheetAt b + 0x40 + 8 * sheetCopies b) s.ctl)) := by
    refine ⟨rfl, fun a ha => ?_⟩
    rw [rd32, State.setCtl_ctl, SMap.get_drop, if_neg (by simp; omega), rd32]
  exact (hdrop.trans (.wr64 _ _ (by omega) (by omega))).trans (.wr64 _ _ (by omega) (by omega))

/-- The rings' words stand behind the registers that the block copies, in its window. -/
theorem onlyRange_ringsCopied (s t : State) (b : Nat) : OnlyRange (sheetAt b + 0x40 + 8 * (blockCopies b).length)
    (sheetAt b + 0x40 + 8 * sheetCopies b) t (ringsCopied t (sheetAt b) (sheetRings s b)) := by
  by_cases hb : b = 10
  · subst hb
    refine .foldl (fun x hx s => .wr64 s _ ?_ ?_) t
    · show sheetAt 10 + 0x40 + 8 * 3 ≤ _
      omega
    · have hx' := (List.mem_filter.1 hx).2
      simp only [Bool.and_eq_true, decide_eq_true_eq] at hx'
      obtain ⟨⟨hlo, hhi⟩, -⟩ := hx'
      show _ ≤ sheetAt 10 + 0x40 + 8 * 16387
      omega
  · rw [sheetRings, if_neg hb]
    exact .refl ..

section
variable (s : State) (b : Nat)

/-- The block's registers and its rings lie behind the header. -/
theorem onlyRange_latchBlock_of_headed : OnlyRange (sheetAt b + 0x40) (sheetAt b + 0x40 + 8 * sheetCopies b) (sheetHeaded s b) (latchBlock s b) := by
  have hlen := length_blockCopies_le b
  rw [latchBlock_eq]
  refine OnlyRange.trans ((onlyRange_copyWords ..).mono (by omega) ?_) ((onlyRange_ringsCopied ..).mono (by omega) (by omega))
  rw [length_sheetValues]
  omega

theorem onlyRange_latchBlock : OnlyRange (sheetAt b) (sheetAt b + 0x40 + 8 * sheetCopies b) s (latchBlock s b) :=
  (onlyRange_sheetHeaded s b).trans ((onlyRange_latchBlock_of_headed s b).mono (by omega) (by omega))

theorem rd64_latchBlock_shot : rd64 (latchBlock s b) (sheetAt b) = rdBits s (shtBase + 0x58) 16 16 + 2 ^ 16 := by
  have hshot : rdBits s (shtBase + 0x58) 16 16 < 2 ^ 16 := Nat.mod_lt _ (by decide)
  rw [(onlyRange_latchBlock_of_headed s b).rd64 (by omega), sheetHeaded, rd64_wr64_ne _ _ (by omega), rd64_wr64,
    Nat.mod_eq_of_lt (by omega)]

theorem rd64_latchBlock_time : rd64 (latchBlock s b) (sheetAt b + 8) = rd64 s (shtBase + 0x60) := by
  rw [(onlyRange_latchBlock_of_headed s b).rd64 (by omega), sheetHeaded, rd64_wr64, Nat.mod_eq_of_lt (rd64_lt ..)]

theorem rd64_latchBlock_copy {i : Nat} {x : Nat × Nat} (h : (blockCopies b)[i]? = some x) :
    rd64 (latchBlock s b) (sheetAt b + 0x40 + 8 * i) = if x.2 = 8 then rd64 s x.1 else rd32 s x.1 := by
  have hi := (List.getElem?_eq_some_iff.1 h).1
  have hval : (sheetValues s b)[i]? = some (if x.2 = 8 then rd64 s x.1 else rd32 s x.1) := by
    rw [sheetValues, List.getElem?_map, h]
    rfl
  have hlt : (if x.2 = 8 then rd64 s x.1 else rd32 s x.1) < 2 ^ 64 := by
    split
    · exact rd64_lt ..
    · exact (rd32_lt ..).trans (by decide)
  rw [latchBlock_eq, (onlyRange_ringsCopied ..).rd64 (by omega), rd64_copyWords _ _ hval, Nat.mod_eq_of_lt hlt]

end

/-! ### Frozen partitions (R461, R462) -/

/-- The partitions that stand frozen after the boundary. -/
def frozenNext (s : State) : Nat := (if s.sht.unfreeze then 0 else rdBits s (shtBase + 0x58) 8 8) ||| s.sht.freeze

/-- SHT_STATUS shows them. -/
def frozenShown (s : State) : State :=
  wrBits (wrBits s (shtBase + 0x58) 8 8 (frozenNext s)) (shtBase + 0x58) 3 1 (if frozenNext s = 0 then 0 else 1)

section
variable {s : State} (happly : rdBits s (mgtBase + 0x408) 0 3 ≠ 3)
include happly

theorem freezeSwitch_of_free : freezeSwitch s =
    let u := if s.sht.unfreeze then (frozenShown s).setCores ((frozenShown s).cores.map
      (fun c => (c.1, { c.2 with pst := c.2.pst.map (fun x => (x.1, { x.2 with parked := false })) }))) else frozenShown s
    u.setSht { u.sht with freeze := 0, unfreeze := false } := if_neg happly

theorem sht_freezeSwitch : (freezeSwitch s).sht = { s.sht with freeze := 0, unfreeze := false } := by
  rw [freezeSwitch_of_free happly]
  cases s.sht.unfreeze <;> rfl

theorem rd32_freezeSwitch (a : Nat) : rd32 (freezeSwitch s) a = rd32 (frozenShown s) a := by
  rw [freezeSwitch_of_free happly]
  cases s.sht.unfreeze <;> rfl

end

section
variable {s : State}

theorem frozenNext_lt (h : s.sht.freeze < 256) : frozenNext s < 2 ^ 8 := by
  refine Nat.or_lt_two_pow ?_ h
  split
  · decide
  · exact Nat.mod_lt _ (by decide)

theorem rdBits_frozenShown (h : s.sht.freeze < 256) : rdBits (frozenShown s) (shtBase + 0x58) 8 8 = frozenNext s := by
  rw [frozenShown, rdBits_wrBits_disjoint _ _ _ (by decide) (by decide), rdBits_wrBits_self _ _ _ (by decide),
    Nat.mod_eq_of_lt (frozenNext_lt h)]

theorem bit_frozenShown : bit (rd32 (frozenShown s) (shtBase + 0x58)) 3 = decide (frozenNext s ≠ 0) := by
  rw [frozenShown, bit_rd32_wrBits_flag _ _ _ (by decide), if_pos rfl]
  by_cases h : frozenNext s = 0 <;> simp [h]

theorem rd32_frozenShown_ne {a : Nat} (ha : a ≠ shtBase + 0x58) : rd32 (frozenShown s) a = rd32 s a := by
  rw [frozenShown, rd32_wrBits, if_neg ha, rd32_wrBits, if_neg ha]

end

/-! ### The shutter's commands and events -/

section
variable {s : State} (hon : mgmtOn s = true)
include hon

theorem exec_fire_of_on : exec .fire s = .next (fire s 0) := congrArg Host.Outcome.next (if_pos hon)

theorem exec_release_of_on : exec .release s = .next (releaseSheet s) := congrArg Host.Outcome.next (if_pos hon)

theorem exec_unfreeze_of_on : exec .unfreeze s = .next (unfreeze s) := congrArg Host.Outcome.next (if_pos hon)

theorem exec_armAt_of_on : exec .armAt s = .next (armAt s) := congrArg Host.Outcome.next (if_pos hon)

theorem exec_disarm_of_on : exec .disarm s = .next (disarm s) := congrArg Host.Outcome.next (if_pos hon)

theorem exec_firingComplete_of_latched (hbusy : bit (rd32 s (shtBase + 0x58)) 0 = true) (hl : s.sht.latch = []) : exec .firingComplete s = .next
    (arrive (wrBits (wrBits s (shtBase + 0x58) 0 1 0) (shtBase + 0x58) 1 1 1) 10 (rdBits s (shtBase + 0x58) 16 16)) :=
  congrArg Host.Outcome.next (if_pos (by simp [hon, hbusy, hl]))

theorem exec_instantReached_of_reached (harm : bit (rd32 s (shtBase + 0x58)) 2 = true) (ht : rd64 s (shtBase + 0x68) ≤ tb s) :
    exec .instantReached s = .next (fire (disarm s) (if s.sht.relayed then 4 else 3)) :=
  congrArg Host.Outcome.next (if_pos (by simp [hon, harm, ht]))

end

section
variable {s : State}

theorem exec_firingComplete_of_waiting (h : bit (rd32 s (shtBase + 0x58)) 0 = false ∨ s.sht.latch ≠ []) : exec .firingComplete s = .next s := by
  refine congrArg Host.Outcome.next (if_neg fun hc => ?_)
  simp only [Bool.and_eq_true, List.isEmpty_iff] at hc
  obtain ⟨⟨-, hbusy⟩, hl⟩ := hc
  rcases h with h | h
  · exact Bool.false_ne_true (h.symm.trans hbusy)
  · exact h hl

theorem exec_instantReached_of_pending (h : bit (rd32 s (shtBase + 0x58)) 2 = false ∨ tb s < rd64 s (shtBase + 0x68)) :
    exec .instantReached s = .next s := by
  refine congrArg Host.Outcome.next (if_neg fun hc => ?_)
  simp only [Bool.and_eq_true, decide_eq_true_eq] at hc
  obtain ⟨⟨-, harm⟩, ht⟩ := hc
  rcases h with h | h
  · exact Bool.false_ne_true (h.symm.trans harm)
  · omega

end

/-- Settles O55: a firing and an instant by the flags of SHT_STATUS, a latch by what it leaves outside its window and reads inside it. -/
theorem shutterFiresLatchesAndCompletes : Obligations.ShutterFiresLatchesAndCompletes := by
  unfold Obligations.ShutterFiresLatchesAndCompletes
  refine fun b s hon => ⟨exec_fire_of_on hon, fire_of_busy, ?fires, fun h => congrArg _ (if_pos h), fun h => congrArg _ (if_neg (Bool.eq_false_iff.1 h)),
    ?latches, exec_firingComplete_of_latched hon, exec_firingComplete_of_waiting, ?releases, ?unfreezes, ?thawed, ?freezes, ?arms, ?past, ?held,
    ?instant, ?disarms, exec_instantReached_of_reached hon, exec_instantReached_of_pending⟩
  case fires =>
    rintro src u hbusy hkept rfl
    exact fire_of_free src hbusy hkept
  case latches =>
    rintro t rfl
    obtain ⟨hctl, hframe⟩ := onlyRange_latchBlock s b
    exact ⟨hctl, rd64_latchBlock_shot s b, rd64_latchBlock_time s b, fun i x => rd64_latchBlock_copy s b, hframe⟩
  case releases => exact ⟨_, exec_release_of_on hon, bit_rd32_clearFlag _ _ (by decide), onlyWords_wr32 ..⟩
  case unfreezes =>
    intro h
    rw [exec_unfreeze_of_on hon, unfreeze, if_pos h]
  case thawed =>
    intro h
    rw [exec_unfreeze_of_on hon, unfreeze, if_neg (by simp [h])]
  case freezes =>
    intro happly hset
    have hshown : rdBits (freezeSwitch s) (shtBase + 0x58) 8 8 = frozenNext s := by
      rw [rdBits, rd32_freezeSwitch happly]
      exact rdBits_frozenShown hset
    refine ⟨_, rfl, sht_freezeSwitch happly, hshown, ?_, fun a ha => ?_⟩
    · rw [hshown, rd32_freezeSwitch happly, bit_frozenShown]
    · rw [rd32_freezeSwitch happly, rd32_frozenShown_ne ha]
  case arms =>
    intro hheld ht
    rw [exec_armAt_of_on hon, armAt_of_first hheld ht]
  case past =>
    intro ht
    rw [exec_armAt_of_on hon, armAt_of_past ht]
  case held =>
    intro hheld ht
    rw [exec_armAt_of_on hon]
    exact ⟨fun h => congrArg _ (armAt_of_later hheld h), fun h => congrArg _ (armAt_of_earlier hheld ht h)⟩
  case instant =>
    rintro x r t hx rfl
    simp only [rd32_armInstant]
    refine ⟨rfl, ?_, rd64_armInstant s r hx, fab_armInstant s x r, fun i hi => ?_, (onlyWords_instantShown s x).2⟩
    · rw [bit_instantShown, if_pos rfl]
    · rw [bit_instantShown, if_neg hi]
  case disarms => exact ⟨_, exec_disarm_of_on hon, bit_disarm s, rd64_wr64 .., onlyWords_disarm s⟩

end Sys2Proof.Machine
end

section
/-! SUPPORT. The queue, the tick and reset, and what every step keeps: each invariant is read off `step_kept`, and what leaves Off and Reset off
`exec_mode` (log entries 1, 3, 6 and 7). -/

namespace Sys2Proof.Machine
open Sys2Proof.Safety

/-! ### What a step keeps -/

/-- Settles O4: `Kept` carries the canonical form of memory over a step, and the queue is no part of memory. -/
theorem stepKeepsMemoryForm : Obligations.StepKeepsMemoryForm :=
  fun s t hwf h => (step_kept s t h).2.mem hwf

/-- Settles O6: `Kept` carries both minima, which the queue does not enter. -/
theorem stepNeverLowersAMinimumVersion : Obligations.StepNeverLowersAMinimumVersion :=
  fun s t h => ⟨(step_kept s t h).2.imgMin, (step_kept s t h).2.fwMin⟩

/-- Settles O7: `Kept` carries that the entries, without their STATE, stand first in the next journal. -/
theorem stepOnlyAppendsToTheJournal : Obligations.StepOnlyAppendsToTheJournal :=
  fun s t h => (step_kept s t h).2.journal

/-- Settles O8: `Kept` carries the counter's bound and flash's reservation. -/
theorem stepKeepsPrefixesReserved : Obligations.StepKeepsPrefixesReserved :=
  fun s t hnext h => ⟨(step_kept s t h).2.next hnext, (step_kept s t h).2.prefixes⟩

/-- Settles O9: the queue of the next state is the tail, and `Kept` carries the free counter and what has left the device. -/
theorem stepTakesOneCommandAndReusesNothing : Obligations.StepTakesOneCommandAndReusesNothing :=
  fun s t h => ⟨(step_kept s t h).1, (step_kept s t h).2.free, (step_kept s t h).2.out⟩

/-! ### What leaves Off and Reset (R475) -/

theorem mgmtOn_of_off {s : State} (h : s.pow.st = .off) : mgmtOn s = false := by simp [mgmtOn, h]

theorem mgmtOn_of_reset {s : State} (h : s.pow.st = .reset) : mgmtOn s = false := by simp [mgmtOn, h]

theorem exec_powerLoss_of_off {s : State} (h : s.pow.st = .off) : exec .powerLoss s = .next s := congrArg Host.Outcome.next (if_pos h)

theorem exec_powerOn_of_on {s : State} (h : s.pow.st ≠ .off) : exec .powerOn s = .next s := congrArg Host.Outcome.next (if_pos h)

theorem exec_rstNRelease_of_off {s : State} (n : Nat) (h : s.pow.st = .off) : exec (.rstNRelease n) s = .next s :=
  congrArg Host.Outcome.next (if_pos (by simp [h]))

/-- A command that moves the device's power state out of Off or Reset is power, its loss or the release of RST_N. -/
theorem command_of_mode_change {c : Instr} {s t : State} (h : exec c s = .next t) (hoff : mgmtOn s = false) (hst : t.pow.st ≠ s.pow.st) :
    c = .powerOn ∨ c = .powerLoss ∨ ∃ k, c = .rstNRelease k := by
  by_contra hc
  simp only [not_or, not_exists] at hc
  obtain ⟨hon, hloss, hrel⟩ := hc
  exact (exec_mode c s t h hon hloss hrel).elim hst (fun hm => Bool.false_ne_true (hoff.symm.trans hm))

/-- Settles O10: of the three commands that change the state of Off or Reset, in Off only power does anything, and in Reset power does nothing. -/
theorem onlyPowerAndRstNLeaveOffAndReset : Obligations.OnlyPowerAndRstNLeaveOffAndReset := by
  intro c s t h
  refine ⟨fun hs ht => ?off, fun hs ht => ?reset⟩
  case off =>
    rcases command_of_mode_change h (mgmtOn_of_off hs) (by rwa [hs]) with rfl | rfl | ⟨k, rfl⟩
    · rfl
    · cases (exec_powerLoss_of_off hs).symm.trans h
      exact absurd hs ht
    · cases (exec_rstNRelease_of_off k hs).symm.trans h
      exact absurd hs ht
  case reset =>
    rcases command_of_mode_change h (mgmtOn_of_reset hs) (by rwa [hs]) with rfl | rfl | ⟨k, rfl⟩
    · cases (exec_powerOn_of_on (by simp [hs])).symm.trans h
      exact absurd hs ht
    · exact .inr rfl
    · exact .inl ⟨k, rfl⟩

/-! ### The queue, the tick and reset -/

/-- Settles O1: a step on a queue that is not empty is its front command on the rest, by the definition of `step`. -/
theorem stepRunsTheFrontCommand : Obligations.StepRunsTheFrontCommand := fun _ _ _ => rfl

theorem step_of_empty {s : State} (h : s.pending = []) : step s = .next (tick s) := by rw [step, h]

/-- Settles O2: a step on an empty queue is a tick, which only a device out of Reset and Off takes. -/
theorem emptyQueueIsOneTclkCycle : Obligations.EmptyQueueIsOneTclkCycle := by
  intro s hs
  rw [step_of_empty hs]
  exact ⟨fun hon => congrArg _ (if_pos hon), fun hoff => congrArg _ (if_neg (by simp [hoff]))⟩

/-- Every command has a next state. -/
theorem exec_completes (c : Instr) (s : State) : ∃ t, exec c s = .next t := by
  cases c <;> exact ⟨_, rfl⟩

/-- Settles O3: no meaning faults or is refused, and no word of the table spells a command. -/
theorem everyCommandCompletesAndNoWordSpellsOne : Obligations.EveryCommandCompletesAndNoWordSpellsOne :=
  ⟨exec_completes, fun _ _ => ⟨rfl, fun _ => rfl⟩⟩

/-- Settles O5: each clause reads one field of `State.reset`, whose words are all unwritten. -/
theorem resetLeavesTheInvariants : Obligations.ResetLeavesTheInvariants := by
  have hwords (a : Nat) : rd32 State.reset a = (resetWord a).toNat := rfl
  have hmem : State.reset.mem.wf = true := rfl
  exact ⟨⟨rfl, hwords, rfl, rfl, rfl, rfl, rfl, rfl, rfl, rfl, rfl⟩, hmem, Nat.le_refl _⟩

end Sys2Proof.Machine
end

section
/-! SUPPORT. A 64-bit RC register of a closed core, which a read does not clear (R17, R495, R507). -/

namespace Sys2Proof.Machine

/-- Retired-or-unassigned cores keep both halves of a 64-bit register that is read. -/
theorem read32_low_half_of_held {s : State} {q a : Nat} {r : RegRow} (hc : claimAt a = none) (hr : rowAt a = some (r, 0)) (h8 : r.size = 8)
    (hlo : heldBlock s a = true) (hhi : heldBlock s (a + 4) = true) (x : Nat) : rd32 (read32 s q a).2 x = rd32 s x := by
  have hkept : clearRC (clearRC (setLatch s q a (0, 0, 0)) a) (a + 4) = setLatch s q a (0, 0, 0) := by
    rw [clearRC_of_held (setLatch s q a (0, 0, 0)) a hlo, clearRC_of_held (setLatch s q a (0, 0, 0)) (a + 4) hhi]
  rw [read32_low_half s q hr h8, readPlain_of_row64 _ hc hr h8, Nat.sub_zero, hkept]
  rfl

/-- ARY_CMB_DISC of core 0: its address and its row (R81). -/
def combineDiscards : Nat := coreBase 0 1 + 0xC8
def combineDiscardsRow : RegRow := ⟨0xC8, 0, 1, 8, 0, 0, 0, 0, 0xFFFFFFFFFFFFFFFF, 0⟩

/-- An Active device without an image, whose core 0, in no partition, holds a count of one discarded record. -/
def closedCoreState : State := { ctl := [(combineDiscards, 1#32)], pow := { st := .active } }

theorem heldBlock_closedCoreState : heldBlock closedCoreState combineDiscards = true ∧ heldBlock closedCoreState (combineDiscards + 4) = true := by
  decide

theorem rd32_closedCoreState : rd32 closedCoreState combineDiscards = 1 := rfl

/-- Refutes O59: its clauses hold of every register, but a core that is in no partition keeps what its registers hold (R495). Core 0 of
`closedCoreState` has ARY_CMB_DISC = 1, and a read of its low half leaves it at 1. -/
theorem not_rcHalvesClearTogether : ¬ Obligations.RcHalvesClearTogether := by
  intro h
  obtain ⟨⟨t, -, hread, ⟨hcleared, -⟩, -⟩, -⟩ := h 0 combineDiscards combineDiscardsRow _ closedCoreState (by decide) (by decide) (by decide)
    (by decide) rfl (by decide) (by decide) (by decide) (by decide) (by decide) rfl
  have hkept : rd32 t combineDiscards = 1 := by
    rw [← rd32_closedCoreState, show t = (read32 closedCoreState 0 combineDiscards).2 by rw [hread]]
    exact read32_low_half_of_held (r := combineDiscardsRow) (by decide) (by decide) rfl heldBlock_closedCoreState.1 heldBlock_closedCoreState.2 _
  rw [hkept, rd32_closedCoreState] at hcleared
  exact absurd hcleared (by decide)

end Sys2Proof.Machine
end

section
/-! SUPPORT. Gate lists, elimination and the tables of the ports: each command by its guard, and what a WRITE leaves of the tables (R369, R370,
R372, R373). -/

namespace Sys2Proof.Machine

/-! ### Gate-control lists (R369, R370) -/

section
variable {s : State} {p : Nat} (hon : mgmtOn s = true) (hp : p < 10) (hact : codecOn s = true ∨ 8 ≤ p)
include hon hp hact

theorem exec_gclChange_of_acting : exec (.gclChange p) s = .next (gclChange s p) :=
  congrArg Host.Outcome.next (if_pos (by simpa [hon, hp] using hact))

theorem exec_gclConfigApply_of_due (hpend : gclPending s p = true) (hset : SMap.get 0 s.eth.starts p ≠ 0)
    (ht : SMap.get 0 s.eth.starts p - 1 ≤ tb s) : exec (.gclConfigApply p) s = .next (
      let u := s.setEth { s.eth with
        oper := SMap.set {} s.eth.oper p { base := SMap.get 0 s.eth.starts p - 1, pos := 0, len := (adminRows s p).length, rows := adminRows s p }
        starts := SMap.set 0 s.eth.starts p 0 }
      wrBits (wrBits (wrBits u (portBase p + 0xC4) 0 9 (adminRows s p).length) (portBase p + 0xC4) 9 1 0) (portBase p + 0xC0) 1 1 0) := by
  have hact' : codecOn s = false → 8 ≤ p := fun h => hact.resolve_left (by simp [h])
  exact congrArg Host.Outcome.next (if_neg (by simpa [hon, hpend, hset, hp, ht] using hact'))

theorem exec_gateIntervalEnd_of_acting : exec (.gateIntervalEnd p) s =
    .next (s.setEth { s.eth with oper := SMap.modify {} s.eth.oper p (nextInterval (tb s)) }) := by
  have hact' : codecOn s = false → 8 ≤ p := fun h => hact.resolve_left (by simp [h])
  exact congrArg Host.Outcome.next (if_neg (by simpa [hon, hp] using hact'))

end

/-! ### Stream gates and elimination (R372, R373) -/

section
variable {s : State} {p g i : Nat} (hup : portUp s p = true) (hp : p < 8)
include hup hp

theorem exec_streamGateIntervalEnd_of_up (hg : g < 16) : exec (.streamGateIntervalEnd p g) s =
    .next (s.setEth { s.eth with gates := SMap.modify {} s.eth.gates (p * 256 + g) (nextInterval (tb s)) }) :=
  congrArg Host.Outcome.next (if_neg (by simp [hup]; omega))

theorem exec_streamGateConfigApply_of_due {b : Nat} (hg : g < 16) (hset : SMap.get 0 s.eth.starts (256 + p * 16 + g) = b + 1) (ht : b ≤ tb s) :
    exec (.streamGateConfigApply p g) s = .next (s.setEth { s.eth with
      gates := SMap.set {} s.eth.gates (p * 256 + g) { base := b, pos := 0, len := (gateRows s p g).length, rows := gateRows s p g }
      starts := SMap.set 0 s.eth.starts (256 + p * 16 + g) 0 }) := by
  show execStreamGateConfigApply p g s = _
  simp only [execStreamGateConfigApply, hset]
  exact congrArg Host.Outcome.next (if_neg (by simp [hup]; omega))

theorem exec_recoveryReset_of_late (hi : i < 1024) (hseen : (SMap.get (0, 0, 0) s.eth.recov i).1 ≠ 0)
    (ht : (SMap.get (0, 0, 0) s.eth.recov i).2.2 + tb' (tableEntry s 0 5 i) 6 2 * 1000000 ≤ tb s) : exec (.recoveryReset p i) s =
      .next (s.setEth { s.eth with recov := SMap.set (0, 0, 0) s.eth.recov i (0, 0, 0) }) :=
  congrArg Host.Outcome.next (if_pos (by simp [hup, hp, hi, hseen, ht]))

end

/-! ### Tables (R373) -/

section
variable {s : State} {p t i : Nat} (hon : codecOn s = true) (hp : p < 8)
include hon hp

theorem exec_ethTableRead_of_on : exec (.ethTableRead p t i) s = .next (tableRead s p t i) :=
  congrArg Host.Outcome.next (if_pos (by simp [hon, hp]))

theorem exec_ethTableWrite_of_on : exec (.ethTableWrite p t i) s = .next (tableWrite s p t i) :=
  congrArg Host.Outcome.next (if_pos (by simp [hon, hp]))

end

/-- A status of a table command leaves the tables. -/
@[simp] theorem tstat_eth (s : State) (p code : Nat) : (tstat s p code).eth = s.eth := by
  unfold tstat
  dsimp only
  split <;> simp

/-- The entry that a WRITE of ETH_TDATA leaves in a table. -/
def writtenEntry (s : State) (p t i : Nat) : W256 :=
  clearBlocked t (keepRO t i (tableEntry s p t i) (tdata s p &&& BitVec.ofNat 256 (tableMask t i)))

/-- A WRITE changes one entry; the starts, gates, meters and histories that it sets beside it are no tables. -/
theorem tables_tableWrite {s : State} {t i : Nat} (p : Nat) (hi : i < tableSize t) :
    (tableWrite s p t i).eth.tables = SMap.set 0 s.eth.tables (tableKey p t i) (writtenEntry s p t i) := by
  unfold tableWrite
  rw [if_neg (by omega)]
  dsimp only
  split
  · split <;> simp [setTable, writtenEntry]
  split
  · simp [setTable, writtenEntry]
  split <;> simp [setTable, writtenEntry]

/-- Settles O39: each command is its row's live case; a list that is modified and a table that is written are read at the key and beside it. -/
theorem gateListsAndTables : Obligations.GateListsAndTables := by
  unfold Obligations.GateListsAndTables
  intro p g t i s
  refine ⟨fun hon hp hact => ⟨fun hpend => ?_, fun hpend => ?_, ?apply, ?interval⟩, fun hup hp hg => ⟨?gate, fun b hset ht => ?config, fun hi hseen ht => ?reset⟩,
    fun hon hp => ⟨fun hi => ?_, fun hi => ?_, fun hi => ?write⟩⟩
  · rw [exec_gclChange_of_acting hon hp hact, gclChange, if_pos hpend]
  · rw [exec_gclChange_of_acting hon hp hact, gclChange, if_neg (by simp [hpend])]
  case apply =>
    rintro u hpend hset ht rfl
    exact exec_gclConfigApply_of_due hon hp hact hpend hset ht
  case interval =>
    exact ⟨_, exec_gateIntervalEnd_of_acting hon hp hact, SMap.get_set_self .., fun k hk => SMap.get_set_ne _ _ _ _ _ hk, rfl⟩
  case gate =>
    exact ⟨_, exec_streamGateIntervalEnd_of_up hup hp hg, SMap.get_set_self .., fun k hk => SMap.get_set_ne _ _ _ _ _ hk, rfl⟩
  case config =>
    exact ⟨_, exec_streamGateConfigApply_of_due hup hp hg hset ht, SMap.get_set_self .., SMap.get_set_self 0 s.eth.starts _ 0⟩
  case reset =>
    exact ⟨_, exec_recoveryReset_of_late hup hp hi hseen ht, SMap.get_set_self (0, 0, 0) s.eth.recov i (0, 0, 0),
      fun k hk => SMap.get_set_ne (0, 0, 0) s.eth.recov i (0, 0, 0) k hk⟩
  · rw [exec_ethTableRead_of_on hon hp, exec_ethTableWrite_of_on hon hp, tableRead, tableWrite, if_pos hi, if_pos hi]
    exact ⟨rfl, rfl⟩
  · rw [exec_ethTableRead_of_on hon hp, tableRead, if_neg (by omega)]
  case write =>
    refine ⟨_, exec_ethTableWrite_of_on hon hp, ?_, fun k hk => ?_⟩
    · rw [tableEntry, tables_tableWrite p hi, SMap.get_set_self]
      rfl
    · rw [tables_tableWrite p hi, SMap.get_set_ne _ _ _ _ _ hk]

end Sys2Proof.Machine
end

section
/-! SUPPORT. Time: what a Sync, a peer-delay request and a missing Sync do at host and media ports (R374, R375; log entries 3, 32 and 85). -/

namespace Sys2Proof.Machine

section
variable {s : State} {p origin : Nat} {offset : Int} {frame : List Byte} (hon : timeOn s = true) (hup : portUp s p = true)

/-- The offset of a Sync is shown, and the state is synchronised. -/
def syncTaken (s : State) (offset : Int) : State := setTState (wr64 s (timBase + 0x48) (ofSigned 64 offset)) 1

/-- A change of ETH_TSTATE leaves power and time. -/
@[simp] theorem setTState_pow (s : State) (v : Nat) : (setTState s v).pow = s.pow := by
  unfold setTState
  split <;> simp

theorem syncTaken_pow (s : State) (offset : Int) : (syncTaken s offset).pow = s.pow := by simp [syncTaken]

/-- The servo keeps its increment within 200 ppm and the time base where it is. -/
theorem slew_bounds (s : State) : minInc ≤ (slew s).pow.tbInc ∧ (slew s).pow.tbInc ≤ maxInc ∧ (slew s).pow.tbAcc = s.pow.tbAcc := by
  have hpow : (slew s).pow = { s.pow with tbInc := minInc + Config.freeNat s.freeIdx % (maxInc - minInc + 1) } := by
    simp [slew, State.fresh, apply_ite State.pow]
  have hlt : Config.freeNat s.freeIdx % (maxInc - minInc + 1) < maxInc - minInc + 1 := Nat.mod_lt _ (Nat.succ_pos _)
  have hle : minInc ≤ maxInc := by decide
  rw [hpow]
  exact ⟨Nat.le_add_right .., by dsimp only; omega, rfl⟩

include hon

theorem exec_syncReceiptTimeout_of_on : exec .syncReceiptTimeout s = .next (if tState s = 1 then setTState s 2 else s) := by
  show execSyncReceiptTimeout s = _
  simp [execSyncReceiptTimeout, hon]

include hup

theorem exec_sync_of_media (hp : p < 8) : exec (.sync p origin offset) s = .next (rxDrop s p) := by
  show execSync p origin offset s = _
  rw [execSync, if_neg (by simp [hon, hup]), if_pos hp]

theorem exec_pdelayRequest_of_media (hp : p < 8) : exec (.pdelayRequest p frame) s = .next (rxDrop s p) := by
  show execPdelayRequest p frame s = _
  rw [execPdelayRequest, if_neg (by simp [hon, hup]), if_pos (by simp [hp])]

theorem exec_sync_of_host (hp : 8 ≤ p) : exec (.sync p origin offset) s =
    .next (if tState s = 0 ∨ 1000 < offset.natAbs then stepTime (syncTaken s offset) origin else slew (syncTaken s offset)) := by
  show execSync p origin offset s = _
  rw [execSync, if_neg (by simp [hon, hup]), if_neg (by omega)]
  simp [syncTaken]

/-- The frame is a peer-delay request of gPTP. -/
def PdelayAsked (f : EFrame) : Prop := f.rseq = none ∧ f.etype = 0x88F7 ∧ 54 ≤ f.pl.length ∧ beAt f.pl 0 1 = 0x12 ∧ beAt f.pl 4 1 = 0

theorem exec_pdelayRequest_of_asked (hp : 8 ≤ p) (hask : PdelayAsked (parseFrame frame)) : exec (.pdelayRequest p frame) s = .next (
    let pl := (parseFrame frame).pl
    let send (s : State) (t flags : Nat) : State := enqueue s p 7 (etherFrame p (beBytes 6 0x0180C200000E) 0 7 0x88F7
      (pdelayMsg s p t flags (slice pl 30 2) (slice pl 20 10)))
    send (send s 3 0x0200) 10 0) := by
  obtain ⟨hseq, htyp, hlen, hmsg, hdom⟩ := hask
  have htag : tagAccepted p (parseFrame frame) = true := by simp [tagAccepted, hseq]
  show execPdelayRequest p frame s = _
  rw [execPdelayRequest, if_neg (by simp [hon, hup]), if_neg (by simp [htag, htyp, hmsg, hdom]; omega)]

end

/-- Settles O40: a Sync at a host port steps or slews the time base that has noted it, and an asked peer delay is answered twice. -/
theorem timeFollowsSync : Obligations.TimeFollowsSync := by
  unfold Obligations.TimeFollowsSync
  rintro p origin offset frame f s u rfl hon rfl
  refine ⟨fun hup hp => ⟨exec_sync_of_media hon hup hp, exec_pdelayRequest_of_media hon hup hp⟩, fun hup hp hfar => ?step,
    fun hup hp hsynced hnear => ?slews, fun hup hp hseq htyp hlen hmsg hdom => ?pdelay, fun h => ?_, fun h => ?_⟩
  case step =>
    rw [exec_sync_of_host hon hup hp, if_pos hfar]
    rfl
  case slews =>
    refine ⟨_, (exec_sync_of_host hon hup hp).trans (congrArg _ (if_neg (by omega))), ?_⟩
    rw [← syncTaken_pow s offset]
    exact slew_bounds _
  case pdelay => exact ⟨_, rfl, exec_pdelayRequest_of_asked hon hup hp ⟨hseq, htyp, hlen, hmsg, hdom⟩⟩
  · rw [exec_syncReceiptTimeout_of_on hon, if_pos h]
  · rw [exec_syncReceiptTimeout_of_on hon, if_neg h]

end Sys2Proof.Machine
end

section
/-! SUPPORT. HCP sessions: the row that handles a message, requests in order and repeated, how a HELLO opens a session, and its timers (R376 to
R379, R511; log entries 33 and 34). -/

namespace Sys2Proof.Machine
open Sys2Proof.Safety

/-! ### Messages of an open session (R377, R379) -/

/-- The commands of HCP's rows, by number. -/
def hcpRows : List (Nat × (Nat → List Byte → Instr)) :=
  [(1, .hello), (2, .close), (3, .ack), (4, .read), (5, .write), (6, .submit), (7, .cons), (8, .xferImage), (9, .xferFirmware), (10, .challenge),
    (11, .auth), (12, .report), (13, .getPart), (14, .unlock), (15, .lockDebug), (16, .debugAccess)]

theorem exec_of_hcpRow {r : Nat} {c : Nat → List Byte → Instr} (h : (r, c) ∈ hcpRows) (p : Nat) (frame : List Byte) (s : State) :
    exec (c p frame) s = .next (hcpFrame s r p frame) := by
  simp only [hcpRows, List.mem_cons, Prod.mk.injEq, List.not_mem_nil, or_false] at h
  rcases h with ⟨rfl, rfl⟩ | ⟨rfl, rfl⟩ | ⟨rfl, rfl⟩ | ⟨rfl, rfl⟩ | ⟨rfl, rfl⟩ | ⟨rfl, rfl⟩ | ⟨rfl, rfl⟩ | ⟨rfl, rfl⟩ | ⟨rfl, rfl⟩ | ⟨rfl, rfl⟩ |
    ⟨rfl, rfl⟩ | ⟨rfl, rfl⟩ | ⟨rfl, rfl⟩ | ⟨rfl, rfl⟩ | ⟨rfl, rfl⟩ | ⟨rfl, rfl⟩ <;> rfl

section
variable {s u : State} {p k row : Nat} {frame d : List Byte} {i : IpPacket} {x y : Session}

/-- A message that another row names changes nothing. -/
theorem hcpFrame_of_other_row (hup : portUp s p = true) (hp : 8 ≤ p) (hpkt : packetFor s p (parseFrame frame) = some i)
    (hudp : udpData i (hcpUdp s) = some d) (hrow : mKind d ≠ row) (h0 : mKind d ≠ 0) : hcpFrame s row p frame = s := by
  rw [hcpFrame, if_neg (by simp [hup]), if_neg (by omega), hpkt]
  simp only [hudp]
  exact if_pos (by simp [hrow, h0])

/-- A message without flags acknowledges nothing: it is noted alone. -/
theorem noted_of_no_flags (hflags : mFlags d = 0) (t : State) : (if headOk d && bit (mFlags d) 1 then ackMessages t k (mAck d) else t) = t :=
  if_neg (by simp [hflags, bit])

section
variable (hflags : mFlags d = 0) (htyp : mType d ≠ 3) (hu : u = setSession s k (some { x with lastRx := tb s }))
  (hus : session u k = some { x with lastRx := tb s })
include hflags htyp hu hus

/-- A message that is next in order is taken, and what waited behind it follows. -/
theorem hcpMessage_of_next (hseq : mSeq d = x.rxSeq + 1) : hcpMessage s k x d = drainEarly (hcpNext u k { x with lastRx := tb s } d) k 64 := by
  simp only [hcpMessage, noted_of_no_flags hflags, ← hu, hus]
  rw [if_neg (by simp [htyp]), if_neg (by omega), if_pos hseq]

/-- A message that repeats is answered as before. -/
theorem hcpMessage_of_repeated (hseq : mSeq d ≤ x.rxSeq) {m : List Byte} (hne : m ≠ []) (hm : SMap.get [] x.stored (mSeq d) = m) :
    hcpMessage s k x d = hcpWire u { x with lastRx := tb s } m := by
  simp only [hcpMessage, noted_of_no_flags hflags, ← hu, hus]
  rw [if_neg (by simp [htyp]), if_pos hseq, hm]
  cases m with
  | nil => exact absurd rfl hne
  | cons b r => rfl

end

/-! ### HELLO (R378) -/

theorem hcpFrame_of_new (hup : portUp s p = true) (hp : 8 ≤ p) (hpkt : packetFor s p (parseFrame frame) = some i)
    (hudp : udpData i (hcpUdp s) = some d) (hhead : headOk d = true) (hk : mKind d = 1) (htyp : mType d = 1) (hses : mSession d = 0)
    (hnone : session s 0 = none) : hcpFrame s 1 p frame = helloNew s p (parseFrame frame).smac i.src d := by
  rw [hcpFrame, if_neg (by simp [hup]), if_neg (by omega), hpkt]
  simp only [hudp]
  rw [if_neg (by simp [hk]), hses, hnone]
  exact if_pos (by simp [hhead, htyp])

end

section
variable {s : State} {p : Nat} {mac ip d : List Byte} (hfirst : (range' 1 8).find? (justOpened s p mac ip) = none)
include hfirst

theorem helloNew_of_bad (h : helloOk (mBody d) = false) : helloNew s p mac ip d = refuseHello s p mac ip d cBadMessage := by
  simp [helloNew, hfirst, h]

variable (hhead : headOk d = true) (hseq : mSeq d = 1) (h : helloOk (mBody d) = true)
include hhead hseq h

theorem helloNew_of_no_version (hv : pickVersion s (beAt (mBody d) 0 1, beAt (mBody d) 1 1) (beAt (mBody d) 2 1, beAt (mBody d) 3 1) = none) :
    helloNew s p mac ip d = refuseHello s p mac ip d cVersionUnsupported := by
  simp [helloNew, hfirst, hhead, hseq, h, hv]

variable {v : Nat × Nat} (hv : pickVersion s (beAt (mBody d) 0 1, beAt (mBody d) 1 1) (beAt (mBody d) 2 1, beAt (mBody d) 3 1) = some v)
include hv

theorem helloNew_of_full (hfree : freeSession s = none) : helloNew s p mac ip d = refuseHello s p mac ip d cSessionLimit := by
  simp [helloNew, hfirst, hhead, hseq, h, hv, hfree]

theorem helloNew_of_free {k : Nat} (hfree : freeSession s = some k) : helloNew s p mac ip d =
    hcpAnswer (setSession s k (some (agree (newSession s p mac ip) v (mBody d)))) k 1 1 0 (helloBytes v (mBody d)) 1 := by
  simp [helloNew, hfirst, hhead, hseq, h, hv, hfree]

end

/-! ### Timers (R378, R379) -/

section
variable {s : State} {k : Nat} {x : Session} (hon : mgmtOn s = true) (hx : session s k = some x)
include hon hx

theorem exec_hcpRetransmit_of_open : exec (.hcpRetransmit k) s = .next (
    let due (m : HMsg) : Bool := decide (m.tb + x.rtoMs * 1000000 ≤ tb s)
    if x.unacked.any (fun m => due m && decide (x.retxMax ≤ m.tries)) then closeSession s k
    else (x.unacked.filter due).foldl (fun s m => hcpWire s x m.bytes) (setSession s k (some { x with
      unacked := x.unacked.map (fun m => if due m then { m with tb := tb s, tries := m.tries + 1 } else m) }))) := by
  show execHcpRetransmit k s = _
  rw [execHcpRetransmit, hx]
  exact congrArg _ (if_neg (by simp [hon]))

theorem exec_hcpAckTimer_of_open : exec (.hcpAckTimer k) s = .next (
    if x.ackDue then hcpWire (setSession s k (some { x with ackDue := false })) x (hcpBytes x k 3 0 0 0 []) else s) := by
  show execHcpAckTimer k s = _
  rw [execHcpAckTimer, hx]
  cases hdue : x.ackDue <;> simp [hon, hdue]

theorem exec_sessionIdle_of_open : exec (.sessionIdle k) s = .next (if x.lastRx + 60000000000 ≤ tb s then closeSession s k else s) := by
  show execSessionIdle k s = _
  rw [execSessionIdle, hx]
  simp [hon]

end

/-- Settles O41: a row handles its own messages alone; a request is taken by its place in the order, executed once and answered. -/
theorem hcpMessagesReachTheirSession : Obligations.HcpMessagesReachTheirSession := by
  unfold Obligations.HcpMessagesReachTheirSession
  rintro p k frame d i x s hup hp hpkt hudp rfl hx
  refine ⟨fun r c hrow => ⟨fun hk => ?_, fun hk h0 => ?_⟩, fun y u hhead hflags htyp hy hu hus => ⟨fun hseq => ?_, fun hseq m hne hm => ?_⟩,
    fun u c r t hhead hflags hu hexec => ⟨fun hclose => ?_, fun hclose hc => ?_⟩⟩
  · rw [exec_of_hcpRow hrow, hcpFrame_of_carries ⟨hup, hp, rfl, hx, i, hpkt, hudp⟩ hk]
  · rw [exec_of_hcpRow hrow, hcpFrame_of_other_row hup hp hpkt hudp hk h0]
  · subst hy
    exact hcpMessage_of_next hflags htyp hu hus hseq
  · subst hy
    exact hcpMessage_of_repeated hflags htyp hu hus hseq hne hm
  · subst hu
    rw [hcpNext_of_exec (by simp [hflags, bit]) hexec]
    exact if_neg (by simp [hclose])
  · subst hu
    rw [hcpNext_of_exec (by simp [hflags, bit]) hexec]
    exact if_pos (by simp [hclose, hc])

/-- Settles O44: a HELLO is refused or opens by the guards of `helloNew`, and each timer by what its session holds. -/
theorem hcpSessionsOpenAndClose : Obligations.HcpSessionsOpenAndClose := by
  unfold Obligations.HcpSessionsOpenAndClose
  rintro p k frame d b f i x s rfl rfl
  refine ⟨fun hup hp hpkt hudp hhead hk htyp hses hnone hseq hfirst => ?opens, fun hon hx => ?timers⟩
  case opens =>
    have hexec : exec (.hello p frame) s = .next (helloNew s p (parseFrame frame).smac i.src d) :=
      congrArg Host.Outcome.next (hcpFrame_of_new hup hp hpkt hudp hhead hk htyp hses hnone)
    rw [hexec]
    exact ⟨fun h => congrArg _ (helloNew_of_bad hfirst h), fun h hv => congrArg _ (helloNew_of_no_version hfirst hhead hseq h hv),
      fun v h hv => ⟨fun hfree => congrArg _ (helloNew_of_full hfirst hhead hseq h hv hfree),
        fun hfree => congrArg _ (helloNew_of_free hfirst hhead hseq h hv hfree)⟩⟩
  case timers =>
    dsimp only
    rw [exec_hcpRetransmit_of_open hon hx, exec_hcpAckTimer_of_open hon hx, exec_sessionIdle_of_open hon hx]
    refine ⟨fun h => congrArg _ (if_pos h), fun h => congrArg _ (if_neg (Bool.eq_false_iff.1 h)), fun h => congrArg _ (if_pos h),
      fun h => congrArg _ (if_neg (Bool.eq_false_iff.1 h)), fun h => congrArg _ (if_pos h), fun h => congrArg _ (if_neg (by omega))⟩

end Sys2Proof.Machine
end

section
/-! SUPPORT. The event controller: claims, completions and traps of the processors, and the controller's own registers (R391 to R400, R410; log
entries 95 and 96). -/

namespace Sys2Proof.Machine
open Sys2Proof.Safety

/-! ### Arrivals and processors (R391, R395, R396) -/

section
variable {s : State} {p : Nat} (hon : mgmtOn s = true)
include hon

theorem exec_eventArrival_of_on (src : Nat) (info : W32) : exec (.eventArrival src info) s =
    .next (if sourceOk src then arrive s src info.toNat else s) := by
  show execEventArrival src info s = _
  simp [execEventArrival, hon]

theorem exec_claimSlotFill_of_firmware (hrec : recovery s = false) : exec .claimSlotFill s =
    .next ((List.range 4).foldl (fun s p => fastTrap (moderate (fillClaim (fillClaim s p true) p false) p false) p) s) :=
  congrArg Host.Outcome.next (if_neg (by simp [hon, hrec]))

variable (hp : p < 4)
include hp

theorem exec_fastMret_of_fast (hrun : cpuRuns s p = true) (hfast : inFast s p = true) : exec (.fastMret p) s =
    .next (fastTrap (wrBits (setCpu s p { cpu s p with
      pc := (cpu s p).fepc, prv := (cpu s p).fprv, mie := (cpu s p).fmie }) (cpuAddr p) 2 1 0) p) :=
  congrArg Host.Outcome.next (if_neg (by simp [hon, hp, hrun, hfast]))

theorem exec_wfi_of_running (hrun : cpuRuns s p = true) (hhalt : (cpu s p).halted = false) : exec (.wfi p) s =
    .next (moderate (setWfi s p true) p false) :=
  congrArg Host.Outcome.next (if_neg (by simp [hon, hp, hrun, hhalt]))

theorem exec_coalTimer_of_started (h : SMap.get false s.mgt.coal p = true) : exec (.coalTimer p) s =
    .next (wrBits (s.setMgt { s.mgt with coal := SMap.set false s.mgt.coal p false }) (lineAddr p) 0 1 1) :=
  congrArg Host.Outcome.next (if_neg (by simp [hon, hp, h]))

theorem claimBy_of_running (fast : Bool) (hrun : cpuRuns s p = true) : claimBy s p fast =
    let u := claim (setWfi s p false) p fast
    if u.1 = 0 ∨ 512 ≤ bits u.1 0 10 then u.2
    else deviceEvent u.2 (bits u.1 0 10) (bits u.1 16 8) p (rd32 u.2 (evcBase + 0x4000 + 4 * bits u.1 0 10)) := by
  rw [claimBy, if_neg (by simp [hon, hp, hrun])]
  simp

theorem exec_evcComplete_of_on (v : W32) : exec (.evcComplete p v) s = .next (complete s p v.toNat) :=
  congrArg Host.Outcome.next (if_neg (by simp [hon, hp]))

theorem exec_evcBudWrite_of_on (v : W32) : exec (.evcBudWrite p v) s = .next (budWrite s p v.toNat) :=
  congrArg Host.Outcome.next (if_neg (by simp [hon, hp]))

end

theorem fastTrap_of_waiting {s : State} {p i : Nat} (hfast : inFast s p = false) (hrun : cpuRuns s p = true) (hhalt : (cpu s p).halted = false)
    (hslot : slotSource s p true = some i) : fastTrap s p = setWfi (wrBits (setCpu s p { cpu s p with
      fepc := (cpu s p).pc, fprv := (cpu s p).prv, fmie := (cpu s p).mie, prv := 3
      pc := (cpu s p).ftvec, fastTraps := (cpu s p).fastTraps + 1 }) (cpuAddr p) 2 1 1) p false :=
  if_neg (by simp [hfast, hrun, hhalt, hslot])

theorem claim_of_empty {s : State} {p : Nat} {fast : Bool} (h : slotSource s p fast = none) : claim s p fast = (0, s) := by
  rw [claim, h]

theorem claim_value {s : State} {p i : Nat} {fast : Bool} (h : slotSource s p fast = some i) :
    (claim s p fast).1 = i + rdBits s (evcBase + 0x3000 + 4 * i) 0 8 * 2 ^ 16 + 2 ^ 31 := by
  rw [claim, h]

/-! ### The controller's registers (R398 to R400, R410) -/

/-- A word of PEND or MASK gains or loses the bits that are written, and no other word changes. -/
theorem orWord_sets (s : State) (a : Nat) (v : W32) :
    rd32 (orWord s a v.toNat) a = rd32 s a ||| v.toNat ∧ OnlyWords [a] s (orWord s a v.toNat) :=
  ⟨(rd32_wr32_self ..).trans (Nat.mod_eq_of_lt (Nat.or_lt_two_pow (rd32_lt s a) v.isLt)), onlyWords_wr32 ..⟩

theorem wr32_clears (s : State) (a v : Nat) : rd32 (wr32 s a (rd32 s a &&& v)) a = rd32 s a &&& v ∧ OnlyWords [a] s (wr32 s a (rd32 s a &&& v)) :=
  ⟨(rd32_wr32_self ..).trans (Nat.mod_eq_of_lt (Nat.lt_of_le_of_lt Nat.and_le_left (rd32_lt s a))), onlyWords_wr32 ..⟩

section
variable {s : State} (hon : mgmtOn s = true)
include hon

section
variable {w : Nat} (hw : w < 32) (v : W32)
include hw

theorem exec_evcPendset_of_on : exec (.evcPendset w v) s = .next (pendSet s w v.toNat) := congrArg Host.Outcome.next (if_neg (by simp [hon, hw]))

theorem exec_evcPendclr_of_on : exec (.evcPendclr w v) s = .next (pendClr s w v.toNat) := congrArg Host.Outcome.next (if_neg (by simp [hon, hw]))

theorem exec_evcMaskset_of_on : exec (.evcMaskset w v) s = .next (maskSet s w v.toNat) := congrArg Host.Outcome.next (if_neg (by simp [hon, hw]))

theorem exec_evcMaskclr_of_on : exec (.evcMaskclr w v) s = .next (maskClr s w v.toNat) := congrArg Host.Outcome.next (if_neg (by simp [hon, hw]))

end

theorem exec_evcCfgWrite_of_on {i : Nat} (hi : i < 1024) (v : W32) : exec (.evcCfgWrite i v) s = .next (cfgWrite s i v.toNat) :=
  congrArg Host.Outcome.next (if_neg (by simp [hon, hi]))

theorem exec_evcSwset_of_on (v : W32) : exec (.evcSwset v) s = .next (swSet s v.toNat) := congrArg Host.Outcome.next (if_pos hon)

end

theorem cfgWrite_of_closed {s : State} {i : Nat} (v : Nat) (h : maskBit s i = false ∨ activeBit s i = true) : cfgWrite s i v = s :=
  if_pos (by rcases h with h | h <;> simp [h])

theorem cfgWrite_of_open {s : State} {i : Nat} (v : Nat) (hmask : maskBit s i = true) (hact : activeBit s i = false)
    (hslots : ∀ p < 4, slotSource s p false ≠ some i ∧ slotSource s p true ≠ some i) :
    cfgWrite s i v = wrBits s (evcBase + 0x2000 + 4 * i) 0 (if 1 ≤ i ∧ i ≤ 4 then 3 else 6) v := by
  have hfree : (List.range 4).any (fun p => slotSource s p false = some i || slotSource s p true = some i) = false := by
    simpa using hslots
  rw [cfgWrite, hfree, if_neg (by simp [hmask, hact])]
  by_cases hfixed : 1 ≤ i ∧ i ≤ 4
  · rw [if_pos (by simpa using hfixed), if_pos hfixed]
  · rw [if_neg (by simpa using hfixed), if_neg hfixed]

/-- Settles O48: the processors' commands by the guard of each, and the registers by what a write of one word leaves. -/
theorem eventControllerDelivers : Obligations.EventControllerDelivers := by
  unfold Obligations.EventControllerDelivers
  refine ⟨fun p s hp hon => ⟨fun src info h => ?_, fun src info h => ?_, exec_claimSlotFill_of_firmware hon, exec_fastMret_of_fast hon hp,
    fun i hfast hrun hhalt hslot => fastTrap_of_waiting hfast hrun hhalt hslot, exec_wfi_of_running hon hp, exec_coalTimer_of_started hon hp,
    fun fast h => claim_of_empty h, fun fast i h => claim_value h, ?claims, ?completes⟩, fun w v s hon hw => ⟨?_, ?_, ?_, ?_, fun i hi hmask hact hslots => ?_,
    fun i hi h => ?_, fun h => ?_, fun h => ?_, fun p hp h => ?budget, fun p hp h => ?_⟩⟩
  · rw [exec_eventArrival_of_on hon, if_pos h]
  · rw [exec_eventArrival_of_on hon, if_neg (Bool.eq_false_iff.1 h)]
  case claims =>
    rintro c fast u hc hrun rfl
    have hexec : exec c s = .next (claimBy s p fast) := by
      simp only [List.mem_cons, Prod.mk.injEq, List.not_mem_nil, or_false] at hc
      rcases hc with ⟨rfl, rfl⟩ | ⟨rfl, rfl⟩ <;> rfl
    rw [hexec, claimBy_of_running hon hp fast hrun]
    exact ⟨fun h => congrArg _ (if_pos h), fun h0 h => congrArg _ (if_neg (by omega))⟩
  case completes =>
    rintro v i rfl
    rw [exec_evcComplete_of_on hon hp, complete]
    refine ⟨fun hact htgt => congrArg _ (if_pos (by simp [hact, htgt])), fun h => congrArg _ (if_neg ?_)⟩
    rcases h with h | h <;> simp [h]
  · exact ⟨_, exec_evcPendset_of_on hon hw v, orWord_sets ..⟩
  · exact ⟨_, exec_evcPendclr_of_on hon hw v, wr32_clears ..⟩
  · exact ⟨_, exec_evcMaskset_of_on hon hw v, orWord_sets ..⟩
  · exact ⟨_, exec_evcMaskclr_of_on hon hw v, wr32_clears ..⟩
  · rw [exec_evcCfgWrite_of_on hon hi, cfgWrite_of_open _ hmask hact hslots]
  · rw [exec_evcCfgWrite_of_on hon hi, cfgWrite_of_closed _ h]
  · rw [exec_evcSwset_of_on hon, swSet, if_neg (by omega)]
  · rw [exec_evcSwset_of_on hon, swSet, if_pos h]
  case budget =>
    refine ⟨_, exec_evcBudWrite_of_on hon hp v, ?_⟩
    rw [budWrite, if_neg h]
    exact ⟨(rd32_wr32_self ..).trans (Nat.mod_eq_of_lt v.isLt), onlyWords_wr32 ..⟩
  · rw [exec_evcBudWrite_of_on hon hp, budWrite, if_pos h]

end Sys2Proof.Machine
end

section
/-! SUPPORT. Watchdogs and processor faults, and the firmware update: each event by its guard (R390, R391, R404 to R409, R413; log entries 63, 66,
86 and 104). -/

namespace Sys2Proof.Machine
open Sys2Proof.Safety

/-! ### Processors (R390, R391, R407, R408) -/

section
variable {s : State} {p : Nat}

theorem exec_watchdogStage1_of_reached (hwd : wdOn s p = true) (ht : wdReached s p 1 = true) (h1 : (cpu s p).stage1 = false) :
    exec (.watchdogStage1 p) s = .next (arrive (setCpu s p { cpu s p with stage1 := true }) (1 + p) 0) :=
  congrArg Host.Outcome.next (if_pos (by simp [hwd, ht, h1]))

theorem exec_watchdogStage2_of_reached (hwd : wdOn s p = true) (ht : wdReached s p 2 = true) : exec (.watchdogStage2 p) s = .next (stageTwo s p) :=
  congrArg Host.Outcome.next (if_pos (by simp [hwd, ht]))

/-- The third stage 2 within 60 s restarts management, after the processor's own reset. -/
theorem stageTwo_eq (s : State) (p : Nat) : stageTwo s p =
    let r := s.mgt.wdResets.filter (fun t => decide (tb s < t + 60000000000))
    let u := resetCpu (s.setMgt { s.mgt with wdResets := tb s :: r }) p 1
    if 2 ≤ r.length then managementRestart (u.setMgt { u.mgt with wdResets := [] }) 1 else u := rfl

variable (hon : mgmtOn s = true) (hp : p < 4)
include hon

theorem exec_mgtRestart_of_firmware (hrec : recovery s = false) : exec .mgtRestart s = .next (managementRestart s 4) :=
  congrArg Host.Outcome.next (if_pos (by simp [hon, hrec]))

theorem exec_controlMemoryUe_of_firmware (hrec : recovery s = false) :
    exec .controlMemoryUe s = .next (managementRestart (sticky s mgtBase stickyUE) 2) :=
  congrArg Host.Outcome.next (if_pos (by simp [hon, hrec]))

include hp

theorem exec_kick_of_on : exec (.kick p) s = .next (setCpu s p { cpu s p with kick := tb s, stage1 := false }) :=
  congrArg Host.Outcome.next (if_pos (by simp [hon, hp]))

theorem exec_controlSpaceTimeout_of_running (hrun : cpuRuns s p = true) :
    exec (.controlSpaceTimeout p) s = .next (count64 s (mgtBase + 0x5D8) 1) :=
  congrArg Host.Outcome.next (if_pos (by simp [hon, hp, hrun]))

theorem exec_registerFileParity_of_running (hrec : recovery s = false) (hrun : cpuRuns s p = true) :
    exec (.registerFileParity p) s = .next (resetCpu s p 2) :=
  congrArg Host.Outcome.next (if_pos (by simp [hon, hp, hrec, hrun]))

theorem exec_fastContextException_of_fast (hrec : recovery s = false) (hrun : cpuRuns s p = true) (hfast : inFast s p = true) :
    exec (.fastContextException p) s = .next (resetCpu s p 2) :=
  congrArg Host.Outcome.next (if_pos (by simp [hon, hp, hrec, hrun, hfast]))

end

/-- Settles O49: each event by its guard, and a stage 2 by the resets of the last 60 s. -/
theorem processorsAreWatched : Obligations.ProcessorsAreWatched := by
  unfold Obligations.ProcessorsAreWatched
  refine fun p s hp hon => ⟨exec_kick_of_on hon hp, exec_watchdogStage1_of_reached, ?stage2, exec_controlSpaceTimeout_of_running hon hp,
    fun hrec => ⟨exec_mgtRestart_of_firmware hon hrec, exec_controlMemoryUe_of_firmware hon hrec, exec_registerFileParity_of_running hon hp hrec,
      exec_fastContextException_of_fast hon hp hrec⟩⟩
  case stage2 =>
    rintro u r hwd ht rfl rfl
    rw [exec_watchdogStage2_of_reached hwd ht, stageTwo_eq]
    exact ⟨fun h => congrArg _ (if_neg (by omega)), fun h => congrArg _ (if_pos h)⟩

/-! ### The firmware update (R404 to R406, R413) -/

section
variable {s : State} (hon : mgmtOn s = true)
include hon

theorem exec_fwVerify_of_on : exec .fwVerify s = .next (if fwState s = 1 ∨ fwState s = 3 then fwRefuse s 0x0107 else setFwState s 1 0) := by
  show execFwVerify s = _
  simp [execFwVerify, fwVerify, hon]

theorem exec_fwVerifyEnd_of_verifying (h : fwState s = 1) : exec .fwVerifyEnd s = .next (
    if fwStatus s s.mgt.staged ≠ 0 then setFwState s 5 (fwStatus s s.mgt.staged)
    else wrDigest (setFwState s 2 0) (mgtBase + 0x560) (fwDigest s.mgt.staged)) :=
  congrArg Host.Outcome.next (if_neg (by simp [hon, h]))

theorem exec_fwCommit_of_on : exec .fwCommit s = .next (if fwState s = 3 then fwRefuse s 0x0107 else if fwState s ≠ 2 then fwRefuse s 0x0108
    else (setFwState s 3 0).setFlash { s.flash with fwBad := true }) :=
  congrArg Host.Outcome.next (if_pos hon)

theorem exec_fwProgramEnd_of_programming (ok : Bool) (h : fwState s = 3) : exec (.fwProgramEnd ok) s = .next (
    if ok then (setFwState s 4 0).setFlash { s.flash with fw := some s.mgt.staged, fwBad := false } else setFwState s 5 0x0106) :=
  congrArg Host.Outcome.next (if_neg (by simp [hon, h]))

theorem exec_fwActivate_of_on : exec .fwActivate s = .next (if fwState s = 3 then fwRefuse s 0x0107 else if fwState s ≠ 4 then fwRefuse s 0x0108
    else if recovery s then startDevice (resetAll (writeCopy s)) false else managementRestart s 3) :=
  congrArg Host.Outcome.next (if_neg (by simp [hon]))

end

/-- Settles O50: each command by the state of the update in which it comes. -/
theorem firmwareUpdatesInOrder : Obligations.FirmwareUpdatesInOrder := by
  unfold Obligations.FirmwareUpdatesInOrder
  intro s hon
  rw [exec_fwVerify_of_on hon, exec_fwCommit_of_on hon, exec_fwActivate_of_on hon]
  refine ⟨fun h1 h3 => congrArg _ (if_neg (by omega)), fun h => congrArg _ (if_pos h), ?verifies, fun h => ⟨_, rfl, ?commits⟩, fun h2 h3 => ?_,
    fun h => ⟨_, exec_fwProgramEnd_of_programming hon true h, ?programs⟩, fun h => exec_fwProgramEnd_of_programming hon false h,
    fun h hrec => ?_, fun h hrec => ?_, fun h => congrArg _ (if_pos h), fun h3 h4 => ?_⟩
  case verifies =>
    rintro c h rfl
    rw [exec_fwVerifyEnd_of_verifying hon h]
    exact ⟨fun hc => congrArg _ (if_pos hc), fun hc => congrArg _ (if_neg (not_not.2 hc))⟩
  case commits =>
    rw [if_neg (by omega), if_neg (not_not.2 h)]
    exact ⟨(fwState_setFlash ..).trans (fwState_setFwState s 3 (by decide)), rfl⟩
  · rw [if_neg h3, if_pos h2]
  case programs => exact ⟨(fwState_setFlash ..).trans (fwState_setFwState s 4 (by decide)), rfl, rfl⟩
  · rw [if_neg (by omega), if_neg (not_not.2 h), hrec]
    rfl
  · rw [if_neg (by omega), if_neg (not_not.2 h), if_pos hrec]
  · rw [if_neg h3, if_pos h4]

end Sys2Proof.Machine
end

section
/-! SUPPORT. The darkroom: its commands by what refuses them, tamper, and the random source and seed bank (R414, R416, R417, R422, R425, R426,
R428, R429; log entries 2, 3 and 67 to 69). -/

namespace Sys2Proof.Machine

/-! ### Commands (R422, R425) -/

section
variable {s : State} (hon : drkOn s = true)
include hon

theorem exec_install_of_on : exec .install s = .next (drkInstall s) := congrArg Host.Outcome.next (if_pos hon)

theorem exec_unsealKey_of_on : exec .unsealKey s = .next (drkUnseal s) := congrArg Host.Outcome.next (if_pos hon)

theorem exec_ownerUpdate_of_on : exec .ownerUpdate s = .next (ownerUpdate s) := congrArg Host.Outcome.next (if_pos hon)

theorem exec_sealKey_of_on {slot : Nat} (hslot : slot < 4096) : exec (.sealKey slot) s = .next (drkSeal s slot) :=
  congrArg Host.Outcome.next (if_pos (by simp [hon, hslot]))

theorem exec_erase_of_on {slot : Nat} (hslot : slot < 4096) : exec (.erase slot) s = .next (drkErase s slot) :=
  congrArg Host.Outcome.next (if_pos (by simp [hon, hslot]))

/-- A zeroised device refuses every command of the darkroom. -/
theorem exec_of_zeroised (hz : zeroised s = true) {slot : Nat} (hslot : slot < 4096) {c : Instr}
    (hc : c ∈ [Instr.install, .sealKey slot, .unsealKey, .erase slot, .ownerUpdate]) : exec c s = .next (drkDone s 0x0207 []) := by
  simp only [List.mem_cons, List.not_mem_nil, or_false] at hc
  rcases hc with rfl | rfl | rfl | rfl | rfl
  · exact (exec_install_of_on hon).trans (congrArg _ (if_pos hz))
  · exact (exec_sealKey_of_on hon hslot).trans (congrArg _ (if_pos hz))
  · exact (exec_unsealKey_of_on hon).trans (congrArg _ (if_pos hz))
  · exact (exec_erase_of_on hon hslot).trans (congrArg _ (if_pos hz))
  · exact (exec_ownerUpdate_of_on hon).trans (congrArg _ (if_pos hz))

end

section
variable {s : State} (hz : zeroised s = false)
include hz

section
variable (hmagic : slice (mbox s 1136) 0 4 = ascii "HKEY") (hres : allZero (slice (mbox s 1136) 5 3) = true)
include hmagic hres

theorem drkInstall_of_no_key (h : Config.kemUnwrap (slice (mbox s 1136) 8 1088) (slice (mbox s 1136) 1096 40) = none) :
    drkInstall s = drkDone s 0x0206 [] := by
  rw [drkInstall, if_neg (by simp [hz]), if_neg (by simp [hmagic, hres]), h]

theorem drkInstall_of_key {key : List Byte} {i : Nat} (h : Config.kemUnwrap (slice (mbox s 1136) 8 1088) (slice (mbox s 1136) 1096 40) = some key)
    (hfree : freeSlot s = some i) : drkInstall s = drkDone (putKey s i { usage := leAt (mbox s 1136) 4 1 % 4, key := key }) 0 [] := by
  rw [drkInstall, if_neg (by simp [hz]), if_neg (by simp [hmagic, hres]), h]
  simp only [hfree]

end

section
variable (hmagic : slice (mbox s 76) 0 4 = ascii "HSEL") (hres : allZero (slice (mbox s 76) 5 3) = true)
  (hend : allZero (slice (mbox s 76) 68 8) = true)
include hmagic hres hend

theorem drkUnseal_of_no_key (h : Config.gcmOpen Config.sealKey (slice (mbox s 76) 8 12) [] (slice (mbox s 76) 20 48) = none) :
    drkUnseal s = drkDone s 0x0206 [] := by
  rw [drkUnseal, if_neg (by simp [hz]), if_neg (by simp [hmagic, hres, hend]), h]

theorem drkUnseal_of_key {key : List Byte} {i : Nat}
    (h : Config.gcmOpen Config.sealKey (slice (mbox s 76) 8 12) [] (slice (mbox s 76) 20 48) = some key) (hfree : freeSlot s = some i) :
    drkUnseal s = drkDone (putKey s i { usage := leAt (mbox s 76) 4 1 % 4, key := key }) 0 [] := by
  rw [drkUnseal, if_neg (by simp [hz]), if_neg (by simp [hmagic, hres, hend]), h]
  simp only [hfree]

end

theorem drkSeal_of_empty {slot : Nat} (h : SMap.get none s.drk.keys slot = none) : drkSeal s slot = drkDone s 0x0202 [] := by
  rw [drkSeal, if_neg (by simp [hz]), h]

theorem drkSeal_of_key {slot : Nat} {k : DKey} (h : SMap.get none s.drk.keys slot = some k) : drkSeal s slot =
    drkDone (random s 12).2 0 (ascii "HSEL" ++ leBytes 1 k.usage ++ leBytes 3 0 ++ (random s 12).1 ++
      slice (Config.gcmSeal Config.sealKey (random s 12).1 [] k.key) 0 48 ++ leBytes 8 0) := by
  rw [drkSeal, if_neg (by simp [hz]), h]

theorem drkErase_of_empty {slot : Nat} (h : SMap.get none s.drk.keys slot = none) : drkErase s slot = drkDone s 0x0202 [] := by
  rw [drkErase, if_neg (by simp [hz]), if_pos (by simp [h])]

theorem drkErase_of_key {slot : Nat} {k : DKey} (h : SMap.get none s.drk.keys slot = some k) : drkErase s slot =
    if keyBusy s slot then drkDone s 0x0204 []
    else drkDone (showSlots (s.setDrk { s.drk with keys := SMap.set none s.drk.keys slot none })) 0 [] := by
  rw [drkErase, if_neg (by simp [hz]), if_neg (by simp [h])]

/-! ### The owner record (R416, R417) -/

theorem ownerUpdate_of_refused (h : ownerStatus s (mbox s 11213) ≠ 0) : ownerUpdate s = drkDone s (ownerStatus s (mbox s 11213)) [] := by
  rw [ownerUpdate, if_neg (by simp [hz])]
  exact if_pos h

/-- A record that is taken stands with its sequence number and its minima, or those in force where it holds no keys. -/
theorem ownerUpdate_of_taken (h : ownerStatus s (mbox s 11213) = 0) : ownerUpdate s =
    let b := mbox s 11213
    let u := { s.setFlash { s.flash with
        ownMin := if leAt b 15 1 = 0 then (imgMinSvn s, fwMinSvn s) else (leAt b 16 4, leAt b 20 4), ownSeq := leAt b 4 4 } with
      owner := if leAt b 15 1 = 0 then [] else b }
    drkDone (wrBits u (drkBase + 0x40) 2 1 (owned u).toNat) 0 [] := by
  rw [ownerUpdate, if_neg (by simp [hz])]
  exact if_neg (not_not.2 h)

end

/-! ### Tamper, the random source and the seed bank (R414, R426) -/

theorem keys_eraseKeys (s : State) : (eraseKeys s).drk.keys = [] := by simp [eraseKeys, showSlots]

section
variable {s : State} (hon : mgmtOn s = true)
include hon

theorem exec_tamperFire_of_on {k : Nat} (hk : k < 3) : exec (.tamperFire k) s = .next (tamper s k) :=
  congrArg Host.Outcome.next (if_pos (by simp [hon, hk]))

theorem exec_drbgReseed_of_on : exec .drbgReseed s = .next (if 2 ^ 20 ≤ s.drk.requests then s.setDrk { s.drk with requests := 0 } else s) := by
  show execDrbgReseed s = _
  simp [execDrbgReseed, hon]

end

/-- Settles O51: each command by what refuses it in order; a tamper, a reseed and the seed bank's closing by their guards. -/
theorem darkroomKeepsAndErasesKeys : Obligations.DarkroomKeepsAndErasesKeys := by
  unfold Obligations.DarkroomKeepsAndErasesKeys
  refine ⟨fun s hon => ⟨fun hz slot hslot c hc => exec_of_zeroised hon hz hslot hc, fun hz => ⟨?installs, ?unseals, fun slot hslot => ⟨fun hk => ⟨?_, ?_⟩,
    fun k hk => ⟨?seals, fun hbusy => ?_, fun hfree => ?_⟩⟩, ?owner⟩⟩, fun s hon => ⟨?tamper, keys_eraseKeys s, fun h => ?_, fun h => ?_, ?_⟩⟩
  case installs =>
    rintro b rfl hmagic hres
    rw [exec_install_of_on hon]
    exact ⟨fun h => congrArg _ (drkInstall_of_no_key hz hmagic hres h), fun key i h hfree => congrArg _ (drkInstall_of_key hz hmagic hres h hfree)⟩
  case unseals =>
    rintro b rfl hmagic hres hend
    rw [exec_unsealKey_of_on hon]
    exact ⟨fun h => congrArg _ (drkUnseal_of_no_key hz hmagic hres hend h),
      fun key i h hfree => congrArg _ (drkUnseal_of_key hz hmagic hres hend h hfree)⟩
  · rw [exec_sealKey_of_on hon hslot, drkSeal_of_empty hz hk]
  · rw [exec_erase_of_on hon hslot, drkErase_of_empty hz hk]
  case seals =>
    rintro u rfl
    rw [exec_sealKey_of_on hon hslot, drkSeal_of_key hz hk]
  · rw [exec_erase_of_on hon hslot, drkErase_of_key hz hk, if_pos hbusy]
  · rw [exec_erase_of_on hon hslot, drkErase_of_key hz hk, if_neg (Bool.eq_false_iff.1 hfree)]
  case owner =>
    intro b hb
    rw [hb, exec_ownerUpdate_of_on hon]
    refine ⟨fun h => congrArg _ (ownerUpdate_of_refused hz h), ?_, ?_⟩
    · rintro u h hkeys rfl
      rw [ownerUpdate_of_taken hz h]
      simp only [if_neg hkeys]
    · rintro u h hkeys rfl
      rw [ownerUpdate_of_taken hz h]
      simp only [if_pos hkeys]
  case tamper =>
    rintro k u v hk hu hv
    rw [exec_tamperFire_of_on hon hk, hv, hu, tamper]
  · rw [exec_drbgReseed_of_on hon, if_pos h]
  · rw [exec_drbgReseed_of_on hon, if_neg (by omega)]
  · exact congrArg Host.Outcome.next (if_pos hon)

end Sys2Proof.Machine
end

section
/-! SUPPORT. Repairs and lifetime records: a verdict by the place that it names, copies, switches and tests by their guards, and the records in
flash (R434, R436, R438, R442, R443, R446, R450, R451). -/

namespace Sys2Proof.Machine

/-! ### Repairs (R434 to R446) -/

theorem exec_retire_of_out {s : State} {loc : W32} (hout : outOfService s loc.toNat = true) : exec (.retire loc) s = .next s :=
  congrArg Host.Outcome.next (if_pos (by simp [hout]))

section
variable {s : State} {loc : W32} (hon : mgmtOn s = true)
include hon

theorem exec_retire_of_ok (hloc : locOk loc.toNat = true) (hout : outOfService s loc.toNat = false) : exec (.retire loc) s = .next (
    if locKind loc.toNat = 4 then lasting s loc.toNat 4 0
    else if chooseSpare s loc.toNat = .none then s else engage s loc.toNat 4 0) :=
  congrArg Host.Outcome.next (if_neg (by simp [hon, hloc, hout]))

theorem exec_repairCopyEnd_of_copying {p : RPend} (hfind : s.rep.pend.find? (fun p => p.loc = loc.toNat && p.copying) = some p)
    (hk : locKind p.loc ≠ 5) : exec (.repairCopyEnd loc) s =
      .next (setPend s (s.rep.pend.map (fun q => if q.seq = p.seq then { q with copying := false, deadline := deferUntil s } else q))) := by
  show execRepairCopyEnd loc s = _
  rw [execRepairCopyEnd, hfind]
  simp only [hon, Bool.not_true, Bool.false_eq_true, if_false, if_neg hk]

theorem exec_repairSwitch_of_ready {p : RPend} (hfind : s.rep.pend.find? (fun p => p.loc = loc.toNat && !p.copying) = some p) :
    exec (.repairSwitch loc) s = .next (
      if locKind p.loc = 6 ∨ switchHeld s = true ∨ mayTake s p.loc p.deadline = false then s else finishRepair (forceIdle s p.loc) p) := by
  show execRepairSwitch loc s = _
  rw [execRepairSwitch, hfind]
  simp [hon, or_assoc]

theorem exec_periodicTest_of_due (failed : List Nat)
    (hdue : s.rep.tested < tb s / (max 1 (rdBits s (repBase + 0x50) 16 16) * 1000000000)) : exec (.periodicTest failed) s =
      .next (failed.foldl (fun s l => lasting s l 1 0)
        (s.setRep { s.rep with tested := tb s / (max 1 (rdBits s (repBase + 0x50) 16 16) * 1000000000) })) :=
  congrArg Host.Outcome.next (if_neg (by simp [hon, hdue]))

theorem exec_bistEnd_of_running (failed : List Nat) (hdone : bit (rd32 s (repBase + 0x40)) 0 = false) : exec (.bistEnd failed) s =
    let u := failed.foldl (fun s l => engage s l 0 0) s
    .next (wrBits ((u.rep.pend.filter (fun p => locKind p.loc ≠ 6)).foldl finishRepair u) (repBase + 0x40) 0 1 1) :=
  congrArg Host.Outcome.next (if_neg (by simp [hon, hdone]))

end

/-- A repair with a spare, of neither a channel nor an optical lane, is journalled and waits; only that of a bank row copies first. -/
theorem engage_of_take {s : State} {l x sp : Nat} (o ev : Nat) (hloc : locOk l = true) (hout : outOfService s l = false)
    (hnew : s.rep.pend.any (fun p => p.loc = l) = false) (hspare : chooseSpare s l = .take x sp)
    (hfree : s.rep.pend.any (fun p => p.loc = x) = false) (h5 : locKind x ≠ 5) (h6 : locKind x ≠ 6) :
    engage s l o ev =
      let u := (jAdd s { kind := locKind x, origin := o, loc := x, spare := sp, tb := tb s, events := ev }).1
      setPend u (u.rep.pend ++
        [{ loc := x, spare := sp, seq := s.flash.journal.length + 1, copying := decide (locKind x = 3), deadline := deferUntil u }]) := by
  rw [engage, if_neg (by simp only [hloc, hout, hnew]; decide), hspare]
  simp [jAdd, hfree, h5, h6]

/-- Settles O52: each command by its guards, and a repair by the spare that it takes. -/
theorem repairsRunTheirCourse : Obligations.RepairsRunTheirCourse := by
  unfold Obligations.RepairsRunTheirCourse
  rintro loc failed l s hon rfl
  refine ⟨fun hloc hout hk hspare => ?_, fun _ => exec_retire_of_out, fun hloc hout hk => ?_, ?engages, fun p => exec_repairCopyEnd_of_copying hon,
    fun p hfind => ⟨fun hk hheld htake => ?_, fun hwait => ?_⟩, ?periodic, ?bist, fun hdone => ?_⟩
  · rw [exec_retire_of_ok hon hloc hout, if_neg hk, if_neg hspare]
  · rw [exec_retire_of_ok hon hloc hout, if_pos hk]
  case engages =>
    rintro o ev x sp u hloc hout hnew hspare hfree h5 h6 rfl
    exact engage_of_take o ev hloc hout hnew hspare hfree h5 h6
  · rw [exec_repairSwitch_of_ready hon hfind, if_neg (by simp [hk, hheld, htake])]
  · rw [exec_repairSwitch_of_ready hon hfind, if_pos hwait]
  case periodic =>
    rintro k rfl hdue
    exact exec_periodicTest_of_due hon failed hdue
  case bist =>
    rintro u hdone rfl
    exact exec_bistEnd_of_running hon failed hdone
  · exact congrArg Host.Outcome.next (if_pos (by simp [hdone]))

/-! ### Lifetime records (R450, R451) -/

/-- The newer copy stands first, with the next SEQ and the lifetime words as they are. -/
theorem life_writeCopy (s : State) : (writeCopy s).flash.life =
    ((s.flash.life.head?.map (·.1)).getD 0 + 1, s.ctl.filter (fun x => lifeWord x.1)) :: s.flash.life.take 1 := by
  simp [writeCopy]

theorem exec_startsFlush_of_on {s : State} (hon : mgmtOn s = true) {c : Instr} (hc : c ∈ [Instr.flushTimer, .flush]) :
    exec c s = .next (startFlush s) := by
  simp only [List.mem_cons, List.not_mem_nil, or_false] at hc
  rcases hc with rfl | rfl
  · exact congrArg Host.Outcome.next (if_pos hon)
  · exact congrArg Host.Outcome.next (if_pos hon)

/-- Settles O54: FLUSHING is set by a write's start, and its end writes the copy. -/
theorem lifetimeRecordsAreKept : Obligations.LifetimeRecordsAreKept := by
  unfold Obligations.LifetimeRecordsAreKept
  refine fun s hon => ⟨fun c hc => ⟨_, exec_startsFlush_of_on hon hc, startFlush_flushing s, onlyWords_wr32 s _ _⟩, fun hflush => ?_, fun hidle => ?_,
    life_writeCopy s, fun temp volts => ?_⟩
  · exact congrArg Host.Outcome.next (if_pos (by simp [hon, hflush]))
  · exact congrArg Host.Outcome.next (if_neg (by simp [hidle]))
  · exact congrArg Host.Outcome.next (if_neg (by simp [hon]))

end Sys2Proof.Machine
end

section
/-! SUPPORT. Reset, power, Standby and the thermal loop, each command by its guards (R473, R476, R477, R479, R480, R482 to R484, R487, R488). -/

namespace Sys2Proof.Machine

/-! ### Reset and power (R473, R479, R487, R488) -/

/-- What RST_N low for `n` cycles leaves before its effect: the filter, and no internal hold once the filter passes its middle. -/
def heldLow (s : State) (n : Nat) : State := s.setPow { s.pow with
  filter := min 1000 (s.pow.filter + n)
  internalHold := s.pow.internalHold && !(decide (s.pow.filter < 500) && decide (500 ≤ s.pow.filter + n)) }

/-- What RST_N high for `n` cycles leaves before its effect. -/
def heldHigh (s : State) (n : Nat) : State := s.setPow { s.pow with filter := s.pow.filter - n }

section
variable {s : State} {n : Nat} (hn : 0 < n)
include hn

theorem exec_rstNAssert_of_running (hoff : s.pow.st ≠ .off) (hreset : s.pow.st ≠ .reset) : exec (.rstNAssert n) s = .next (
    if 500 ≤ s.pow.filter + n then resetTime (enterReset (heldLow s n) 1) (s.pow.filter + n - 500) else heldLow s n) := by
  show execRstNAssert n s = _
  rw [execRstNAssert, if_neg (by simp [hoff, hn.ne'])]
  exact congrArg _ (if_neg hreset)

theorem exec_rstNRelease_of_running (hoff : s.pow.st ≠ .off) (hreset : s.pow.st ≠ .reset) :
    exec (.rstNRelease n) s = .next (heldHigh s n) := by
  show execRstNRelease n s = _
  rw [execRstNRelease, if_neg (by simp [hoff, hn.ne'])]
  exact congrArg _ (if_pos hreset)

theorem exec_rstNRelease_of_reset (hreset : s.pow.st = .reset) : exec (.rstNRelease n) s = .next (
    if n < s.pow.filter ∨ s.pow.internalHold = true ∨ (rd32 s (clkBase + 0x50) = 2 ∧ tooHot s.pow.temps = true) then resetTime (heldHigh s n) n
    else startDevice (resetTime (heldHigh s n) (max 1 s.pow.filter)) true) := by
  show execRstNRelease n s = _
  rw [execRstNRelease, if_neg (by simp [hreset, hn.ne'])]
  simp [hreset, heldHigh, or_assoc]

end

theorem rd32_enterReset_cause (s : State) {cause : Nat} (h : cause < 2 ^ 32) : rd32 (enterReset s cause) (clkBase + 0x50) = cause :=
  (rd32_wr32_self ..).trans (Nat.mod_eq_of_lt h)

theorem st_enterReset (s : State) (cause : Nat) : (enterReset s cause).pow.st = .reset := rfl

theorem resetTime_of_reset {s : State} (h : s.pow.st = .reset) (n : Nat) : resetTime s n =
    count64 (s.setPow { s.pow with rstNs := (s.pow.rstNs + 10 * n) % 1000 }) (clkBase + 0x58) ((s.pow.rstNs + 10 * n) / 1000) :=
  if_neg (not_not.2 h)

theorem rd32_of_no_ctl {s : State} (h : s.ctl = []) (a : Nat) : rd32 s a = (resetWord a).toNat := by
  simp [rd32, h]

/-! ### Standby (R476, R477) -/

section
variable {s : State} (hrec : recovery s = false)
include hrec

theorem exec_standby_of_active (hst : s.pow.st = .active) (ms : Nat) : exec (.standby ms) s = .next (
    if powerBusy s then pwrCode s 0x0602
    else ((setPstate (pwrCode s 0) .entering 1).setPow { (setPstate (pwrCode s 0) .entering 1).pow with
      drain := tb (setPstate (pwrCode s 0) .entering 1) + min ms 60000 * 1000000 }).setStr
        { (setPstate (pwrCode s 0) .entering 1).str with noAdmit := List.range 8 }) :=
  congrArg Host.Outcome.next (if_neg (by simp [hst, hrec]))

theorem exec_active_of_standby (hst : s.pow.st = .standby) :
    exec .active s = .next (wrBits (setPstate (pwrCode s 0) .leaving 3) (repBase + 0x40) 0 1 0) :=
  congrArg Host.Outcome.next (if_neg (by simp [hst, hrec]))

end

theorem bistDone_cleared (s : State) : bistDone (wrBits s (repBase + 0x40) 0 1 0) = false := by
  simp [bistDone, bit_rd32_wrBits_flag s (repBase + 0x40) 0 (j := 0) (by decide) 0]

theorem store_gateBlocks (s : State) : (gateBlocks s).mem.store = [] := by
  rw [gateBlocks, showLinks_mem]
  rfl

/-- Settles O56: each command by its guards. -/
theorem powerStatesFollowTheirCommands : Obligations.PowerStatesFollowTheirCommands := by
  unfold Obligations.PowerStatesFollowTheirCommands
  refine ⟨fun n s hn => ⟨?low, ?high, fun u hu => ⟨st_enterReset s 1, rd32_enterReset_cause s (by decide), resetTime_of_reset hu n⟩,
      fun hoff => ⟨_, congrArg Host.Outcome.next (if_neg (not_not.2 hoff)), rfl, rfl, rd32_of_no_ctl rfl⟩,
      fun hoff => ⟨_, congrArg Host.Outcome.next (if_neg hoff), rfl, rfl⟩,
      fun hon => congrArg Host.Outcome.next (if_neg (by simp [hon])), fun hoff => congrArg Host.Outcome.next (if_pos (by simp [hoff]))⟩,
    fun ms s hrec => ⟨?standby, fun hst hbusy => ?_, ?drained, fun hst htime htasks => ?_,
      fun hst => ⟨_, exec_active_of_standby hrec hst, rfl, bistDone_cleared _⟩, fun hst hdone => ?_, fun hst hdone => ?_⟩⟩
  case low =>
    rintro u hoff hreset rfl
    rw [exec_rstNAssert_of_running hn hoff hreset]
    exact ⟨fun h => congrArg _ (if_neg (by omega)), fun h => congrArg _ (if_pos h)⟩
  case high =>
    rintro u rfl
    refine ⟨fun hst hheld => ?_, fun hst hfilter hhold hcool => ?_, exec_rstNRelease_of_running hn⟩
    · rw [exec_rstNRelease_of_reset hn hst, if_pos hheld, heldHigh]
    · rw [exec_rstNRelease_of_reset hn hst, if_neg (by simp [hfilter, hhold, hcool]), heldHigh]
  case standby =>
    rintro u hst hbusy rfl
    rw [exec_standby_of_active hrec hst, hbusy]
    rfl
  · rw [exec_standby_of_active hrec hst, if_pos hbusy]
  case drained =>
    rintro u w x hst hend rfl rfl rfl
    refine ⟨congrArg Host.Outcome.next (if_neg ?_), rfl, store_gateBlocks _⟩
    rcases hend with htime | htasks
    · simp [hst, htime]
    · simp [hst, htasks]
  · exact congrArg Host.Outcome.next (if_pos (by simp [htime, htasks]))
  · exact congrArg Host.Outcome.next (if_pos (by simp [hst, hdone]))
  · exact congrArg Host.Outcome.next (if_neg (by simp [hdone]))

/-! ### Temperatures and throttle (R480, R482 to R484) -/

theorem mgmtOn_setPow_temps (s : State) (temps : List Int) : mgmtOn (s.setPow { s.pow with temps := temps }) = mgmtOn s := rfl

/-- Settles O57: a sample by the device's power and heat, and an interval by its average. -/
theorem temperatureAndThrottle : Obligations.TemperatureAndThrottle := by
  unfold Obligations.TemperatureAndThrottle
  refine fun temps watts s => ⟨fun hoff => congrArg Host.Outcome.next (if_pos (by simp [mgmtOn_setPow_temps, hoff])), ?sample, ?interval⟩
  case sample =>
    intro u v w hon hu hv hw
    have hexec : exec (.thermalSample temps) s =
        .next (if tooHot temps then enterReset (w.setPow { w.pow with internalHold := true }) 2 else w) := by
      rw [hw, hv, hu]
      exact congrArg Host.Outcome.next (if_neg (by simp [mgmtOn_setPow_temps, hon]))
    exact ⟨fun hcool => by rw [hexec, hcool]; rfl, fun hhot => by rw [hexec, if_pos hhot]⟩
  case interval =>
    rintro ws avg u v hon hws havg hu hv
    rw [hv, hu, havg, hws]
    exact congrArg Host.Outcome.next (if_neg (by simp [hon]))

end Sys2Proof.Machine
end
